-- ==== Sys2Proof/Word.lean ====
section
/-! DEFINITION. The word types of the FM1152 and the plain finite tables every sparse piece of state is held in. -/
namespace Sys2Proof

/-- One byte of a memory. -/
abbrev Byte := BitVec 8

/-- One 32-bit register word, as a write carries it. -/
abbrev Word := BitVec 32

/-- A sparse table: entries with strictly rising keys; an unlisted key holds the table's default. -/
abbrev Tab (α : Type) := List (Nat × α)

/-- A house position on one raster (R1): WIDE frame number (R36), line from 1, sample from 0 (R2). -/
structure Pos where
  frame : Nat
  line : Nat
  sample : Nat
deriving DecidableEq, Repr

/-- One line of an ingress strand as it reaches the aligner (R90, R100): its strand words from its sample 0 to its end, at the
flywheel's positions while the strand is locked, and its duration in CORE clocks (R101). -/
structure StrandLine where
  words : List Nat
  clks : Nat
deriving DecidableEq, Repr

/-- An unfragmented UDP datagram as R348 judges it: IPv6; its IPv4 header checksum and any UDP checksum hold; the addresses as
four words in the form of R350 (an IPv4 address in the first); the destination UDP port; the UDP payload's bytes. -/
structure Datagram where
  ipv6 : Bool
  csumOk : Bool
  dst : List Nat
  src : List Nat
  dport : Nat
  payload : List Nat
deriving DecidableEq, Repr

/-- An Ethernet frame that reaches the receive side of a logical port (R348): the port (32 = MGT); a good FCS; its length in
bytes with FCS; the destination address with its first byte lowest; the IEEE 802.1Q tags, and VID and PCP of the first; a MAC
control frame, and the quanta of a PAUSE; the datagram it carries, if any; and of the host's side, the bytes that DMA has taken
from the host FIFO since the last frame, and BUF_LEN of the descriptor at HEAD. -/
structure RxFrame where
  port : Nat
  fcsOk : Bool
  len : Nat
  dst : Nat
  tags : Nat
  vid : Nat
  pcp : Nat
  control : Bool
  pause : Option Nat
  udp : Option Datagram
  drained : Nat
  bufLen : Nat
deriving DecidableEq, Repr

/-- What every Cobalt message shows its receiver beside its body (Table 14-1): the lane it came on, SEQ and ACK. -/
structure CobHdr where
  lane : Fin 4
  seq : Nat
  ack : Nat
deriving DecidableEq, Repr

/-- An error that a cue engine meets when it takes an instruction (Table 6-7): an uncorrectable error of its program or data
memory, a register file parity error, a control check, an uncorrectable error of shared cue memory. -/
inductive EngErr
  | pmem
  | dmem
  | regfile
  | check
  | smem
deriving DecidableEq, Repr

/-- A tenure still open when its master is reset (R476): master, target, direction (true: write), beats left, and whether it was
locked. -/
abbrev Burst := Option (Fin 9 × Fin 4 × Bool × Fin 32 × Bool)

end Sys2Proof
end

