-- ==== Sys2Proof/Syntax.lean ====
section
/-! DEFINITION. The commands of the FM1152: one constructor per row of spec/opcode_table.json, in the table's order, with
the operands the row's rule names. Register words a command writes are operands of type Word; facts measured outside the
device (line judgements, edges, slacks, digests, message bodies) are operands; numbers of units are Fin.
An operand of type Unit says nothing: State holds what the row's rule names there. -/
namespace Sys2Proof

inductive Instr
  /-- REGISTER_WRITE (R6): A write to a register field that has no row of its own, applied under its access code and the reserved-encoding rule. -/
  | registerWrite (off : Nat) (w : Word)
  /-- RC_READ (R6): A read of an RC register returns its value and clears it, keeping any event that arrives in the same clock. -/
  | rcRead (off : Nat)
  /-- UNMAPPED_ACCESS (R466): A host access to an unmapped BAR0 or BAR2 offset, or a partial or oversized write, completes: a read returns 0, a write is dropped, UNMAPPED is set. -/
  | unmappedAccess (bar2 : Bool) (off : Nat) (write : Bool)
  /-- SNAP (R46): A write of SNAP captures PTP time and all raster positions in one CORE clock and increments SNAP_SEQ. -/
  | snap
  /-- RASTER_CFG_WRITE (R43): A write to SLATE_RASTER_CFG sets or clears EN and changes STRUCT, RATE, BASIS or F2SW, with refusals under R30, R43, R44 and R45. -/
  | rasterCfgWrite (n : Fin 8) (w : Word)
  /-- RASTER_SEED_WRITE (R35): A seed write is stored, or is ignored with SEED_IGNORED once EVER_LOCKED is set. -/
  | rasterSeedWrite (n : Fin 8) (hi : Bool) (w : Word)
  /-- RASTER_TIMING_WRITE (R41): A write to LEAD or ADV; an ADV change while the raster is in use is refused with CFG_REFUSED. -/
  | rasterTimingWrite (n : Fin 8) (w : Word)
  /-- RASTER_FRAME_START (R42): At each frame start of a raster, pending switch-line, latch-line, lead and F2SW changes come into force. -/
  | rasterFrameStart (n : Fin 8)
  /-- CMP_ARM (R47): A write of ARM arms a Slate comparator, or is refused with ARM_REFUSED; a target already reached fires at once. -/
  | cmpArm (k : Fin 32) (w : Word)
  /-- CMP_DISARM (R47): A write of ARM = 0 disarms a Slate comparator. -/
  | cmpDisarm (k : Fin 32) (w : Word)
  /-- CMP_TGT_WRITE (R47): A write to a comparator target word is stored, or is ignored with ARM_REFUSED while the comparator is armed. -/
  | cmpTgtWrite (k : Fin 32) (word : Fin 4) (w : Word)
  /-- COMPARATOR_FIRE (R48): An armed Slate comparator reaches its target: it sets FIRED, raises the IRQ and engine events, and re-arms or disarms. -/
  | comparatorFire (k : Fin 32)
  /-- GPI_LEVEL_CHANGE (R49): A GPI input changes level, the change is time-stamped and its filter period starts. -/
  | gpiLevelChange (x : Fin 32) (level : Bool)
  /-- GPI_EDGE_ACCEPT (R50): A filtered GPI edge is accepted, numbered and queued or discarded, and wakes engines and raises the IRQ. -/
  | gpiEdgeAccept (i : Fin 32)
  /-- GPI_POP (R50): A write of 1 to SLATE_GPI_POP removes the head GPI event record. -/
  | gpiPop (w : Word)
  /-- GPO_LEVEL_WRITE (R53): A write to SLATE_GPO_LEVEL sets all 32 outputs at once. -/
  | gpoLevelWrite (w : Word)
  /-- GPO_SET (R53): A write to SLATE_GPO_SET sets each output written as 1. -/
  | gpoSet (w : Word)
  /-- GPO_CLR (R53): A write to SLATE_GPO_CLR clears each output written as 1. -/
  | gpoClr (w : Word)
  /-- GPO_SCHED_WRITE (R52): A write to a GPO schedule entry sets VALID or changes its words, or is refused with REFUSED under R52 and R55. -/
  | gpoSchedWrite (j : Fin 256) (word : Fin 6) (w : Word)
  /-- GPO_SCHED_APPLY (R52): A valid schedule entry reaches its target, applies VALUE to its masked GPOs and clears VALID. -/
  | gpoSchedApply (j : Fin 256)
  /-- REFIN_TIMING_POINT (R64): An active edge on a REFIN candidate is checked over its check interval and given to the loop as a timing point. -/
  | refinTimingPoint (c : Fin 4)
  /-- REFIN_STOP (R64): No edge for two check intervals: the candidate goes to ABSENT. -/
  | refinStop (c : Fin 4)
  /-- CAND_SOURCE_LOST (R64): A non-REFIN candidate's source fails (TRS lock lost or twin reference lost) and the candidate goes to ABSENT. -/
  | candSourceLost (c : Fin 8)
  /-- CAND_QUALIFIED (R61): A QUALIFYING candidate completes its QUAL time without a break and becomes QUALIFIED. -/
  | candQualified (c : Fin 8)
  /-- DRIFT_UPDATE (R62): The selector updates each candidate's 10 s drift and DRIFT_PCT against the median or LOCOSC. -/
  | driftUpdate (offs : List Nat)
  /-- CAND_DRIFT_CLEARED (R63): A DRIFTING candidate whose DRIFT_PCT stays below 40 for its QUAL time returns to QUALIFIED. -/
  | candDriftCleared (c : Fin 8)
  /-- CAND_DISQUALIFIED (R63): A candidate whose DRIFT_PCT stays at or above 100 for its QUAL time becomes DISQUALIFIED. -/
  | candDisqualified (c : Fin 8)
  /-- PTP_VALID_WRITE (R59): The host writes PTP_VALID, making candidate 4 present. -/
  | ptpValidWrite (w : Word)
  /-- PTP_VALID_EXPIRE (R59): 2 s pass without a write of 1 to PTP_VALID, which the device then clears. -/
  | ptpValidExpire
  /-- LOOP_STAGE_ADVANCE (R68): The phase error stays below a stage's THRESH for its DWELL and the loop narrows to the next stage. -/
  | loopStageAdvance
  /-- PULL_NOW (R71): A write of PULL_NOW starts a PULL slew that removes the build-out offset. -/
  | pullNow (w : Word)
  /-- SLEW_COMPLETE (R70): A PULL slew ends with phase error and frequency difference at zero, and the condition returns to LOCKED. -/
  | slewComplete
  /-- HISTORY_SAMPLE (R76): Once a second the selector records the mean control value as a holdover history sample. -/
  | historySample (a : Unit)
  /-- HOLDOVER_LIMIT_EXPIRE (R73): Holdover has lasted longer than LIMIT and the condition becomes LOST. -/
  | holdoverLimitExpire
  /-- LOCOSC_FAIL (R74): The edge monitor finds LOCOSC failed within 10 µs; a SYNTH fault is raised and the condition becomes LOST. -/
  | locoscFail
  /-- REFSEL_CAND_WRITE (R81): A write to a candidate's configuration, refused with CFG_REFUSED if it changes TYPE, RATE or SRC of the selected candidate. -/
  | refselCandWrite (c : Fin 8) (word : Fin 4) (w : Word)
  /-- REFSEL_LOCOSC_WRITE (R81): A write of LOCOSC_FREQ or LOCOSC_ACC, accepted only in CALIBRATE. -/
  | refselLocoscWrite (w : Word)
  /-- SYNTH_LOCK (R85): A synthesiser passes eight 1 ms gates within ±2 ppm and is declared locked, becoming warm spare where due. -/
  | synthLock (g : Fin 16 × List Nat)
  /-- SYNTH_LOCK_LOSS (R86): A synthesiser fails a lock gate and is declared to have lost lock; FAIL_CNT counts and it restarts or retires. -/
  | synthLockLoss (g : Fin 16 × List Nat × Word)
  /-- DITHER_SEED_LOAD (R82): A write of SEED_LOAD restarts a synthesiser's dither sequence from DITHER_SEED. -/
  | ditherSeedLoad (y : Fin 16) (w : Word)
  /-- REFOUT_CFG_WRITE (R89): A write to REFOUT_CFG requests an enable, disable or a change of TYPE, FREQ or PHASE. -/
  | refoutCfgWrite (i : Fin 4) (word : Fin 3) (w : Word)
  /-- REFOUT_CHANGE_APPLY (R89): A requested REFOUT change takes effect at the end of a whole output period, in glitch-free phase steps. -/
  | refoutChangeApply (i : Fin 4)
  /-- ALIGN_PORT_CFG_WRITE (R99): A write to a port's CLASS, RASTER, PID_REQ or CRC_POL, with CLASS refusals under R99. -/
  | alignPortCfgWrite (p : Fin 1152) (w : Word)
  /-- STRAND_LINE_JUDGE (R100): At the dated instant of a strand line, the device judges its TRS, line number, CRC and ancillary data and updates the port monitor. -/
  | strandLineJudge (d : Fin 4608) (j : StrandLine)
  /-- WINDOW_REENTER (R113): After two frames within ±(W − HYST), a route re-enters the window at the next switch line of its raster. -/
  | windowReenter (p : Fin 1152) (r : Fin 8)
  /-- LINE_MODE_SLIP (R118): In line mode, k steps by one at a line boundary when the aligner wait would leave its range, and SLIP_CNT counts. -/
  | lineModeSlip (d : Fin 6336)
  /-- LOSS_POLICY_APPLY (R134): At the first destination line after a loss condition is found, the destination carries PASS, BLACK or its generator. -/
  | lossPolicyApply (d : Fin 6336)
  /-- LOSS_POLICY_RETURN (R135): At the first switch line after the condition ends, the destination returns cleanly to its source. -/
  | lossPolicyReturn (d : Fin 6336)
  /-- PLANE_LINE_FORWARD (R122): A plane forwards a destination line and checks it against the aligner's line checksum, counting a mismatch as an XPT fault. -/
  | planeLineForward (d : Fin 8192) (bad spareBad differ : Bool)
  /-- SHADOW_XPT_WRITE (R125): A host BAR2 write stages a shadow crosspoint entry, or is refused with STAGE_REFUSED. -/
  | shadowXptWrite (d : Fin 8192) (hi : Bool) (w : Word)
  /-- XPT_COMMIT_GO (R128): A host GO commits its staged crosspoint entries to the target in XPT_COMMIT_TGT, or is refused. -/
  | xptCommitGo (w : Word)
  /-- XPT_COMMIT_DISCARD (R156): A host DISCARD unstages every shadow entry with STAGER 7 that is not PENDING. -/
  | xptCommitDiscard (w : Word)
  /-- COMMIT_TAKE_EFFECT (R130): At a commit's switch line on a raster, its captured entries are copied into the active table and XPT_ACTIVE_GEN advances. -/
  | commitTakeEffect (r : Fin 8)
  /-- XPT_LOCK_REQUEST (R133): A write of GO to XPT_LOCK locks or unlocks a destination group, or is refused with LOCK_REFUSED. -/
  | xptLockRequest (w : Word)
  /-- PROBE_FRAME_PUBLISH (R139): At the end of each frame a probe publishes CRC, luma range, BLACK and FREEZE, or sets NOSIG. -/
  | probeFramePublish (i : Fin 64) (a b c : Unit)
  /-- PSUB_START (R140): A write of START to XPT_PSUB_CTRL begins a plane substitution, or is refused with PSUB_REFUSED. -/
  | psubStart (w : Word)
  /-- PSUB_ABORT (R140): An ABORT before SWITCH_BEGUN abandons the substitution with REASON ABORT. -/
  | psubAbort (w : Word)
  /-- PSUB_LOAD_DONE (R140): At the next frame start of raster 0 the spare is loaded and COMPARE begins. -/
  | psubLoadDone
  /-- PSUB_COMPARE_DONE (R140): 64 clean frames of raster 0 end COMPARE and SWITCH_BEGUN starts. -/
  | psubCompareDone
  /-- PSUB_RASTER_MOVE (R140): At a raster's switch line, its destinations of the logical plane move to the spare. -/
  | psubRasterMove (r : Fin 8)
  /-- PSUB_SWITCHED_DONE (R140): A clean SWITCHED frame ends: the old plane is retired, fused and powered down, and XPT_PLANE_MAP updated. -/
  | psubSwitchedDone
  /-- CUE_START (R156): A write of START to CUE_CTRL starts an engine in IDLE or at CUE_START_ADDR. -/
  | cueStart (n : Fin 5) (w : Word)
  /-- CUE_STOP (R156): A write of STOP stops an engine at its next instruction boundary, keeping waits armed. -/
  | cueStop (n : Fin 5) (w : Word)
  /-- CUE_RESUME (R156): A write of RESUME continues a STOPPED or FAULTED engine at PC. -/
  | cueResume (n : Fin 5) (w : Word)
  /-- ENG_RESET (R156): A write of ENG_RESET leaves the engine STOPPED with its state cleared and its cue window emptied. -/
  | engReset (n : Fin 5) (w : Word)
  /-- DISCARD_STAGED (R156): A write of DISCARD_STAGED unstages every entry of the engine number that is not PENDING. -/
  | discardStaged (n : Fin 5) (w : Word)
  /-- RING_DOORBELL (R151): A write to CUE_RING_TAIL posts records, or is ignored with RING_ERR and an event record. -/
  | ringDoorbell (n : Fin 5) (w : Word)
  /-- CUE_RECORD_FETCH (R152): With RING_EN set, the window empty and HEAD ≠ TAIL, the fetcher begins reading the slot at HEAD. -/
  | cueRecordFetch (n : Fin 5)
  /-- CUE_RECORD_ACCEPT (R152): The read record is checked; if accepted it enters the cue window, sets CUE_READY and is mirrored, and HEAD advances. -/
  | cueRecordAccept (n : Fin 5) (ws : List Nat)
  /-- WATCHDOG_EXPIRE (R158): An engine runs CUE_WDOG clocks without waiting and faults with WATCHDOG. -/
  | watchdogExpire (n : Fin 5)
  /-- WAIT_MATCH (R159): A suspending WAIT's comparator matches and the engine continues in the next CTRL clock. -/
  | waitMatch (n : Fin 5)
  /-- CUE_COMPARATOR_FIRE (R159): A comparator armed by a non-suspending WAIT matches, sets CMPx in EVPEND and disarms. -/
  | cueComparatorFire (n : Fin 5) (x : Fin 4)
  /-- WAITEV_WAKE (R160): A pending event meets a WAITEV mask and the engine resumes, writing and clearing the bits. -/
  | waitevWake (n : Fin 5)
  /-- WAITEV_TIMEOUT (R160): A WAITEV timeout position is reached first and the engine resumes with RS TIMEOUT. -/
  | waitevTimeout (n : Fin 5)
  /-- EVR_HEAD_WRITE (R164): The host writes CUE_EVR_HEAD to consume event records. -/
  | evrHeadWrite (w : Word)
  /-- ENG_SUBST_START (R172): A write of START to CUE_SUBST_CTRL begins a planned engine substitution, or is refused with FAILED. -/
  | engSubstStart (w : Word)
  /-- ENG_SUBST_ABORT (R172): An ABORT before the move abandons the engine substitution. -/
  | engSubstAbort (w : Word)
  /-- ENG_SUBST_COPY_DONE (R172): The spare's memories are loaded and the substitution enters SWAP_WAIT. -/
  | engSubstCopyDone
  /-- ENG_SUBST_SWAP (R172): At the first instant the target waits or idles, its state moves to the spare within 64 clocks and CUE_PMAP changes. -/
  | engSubstSwap
  /-- ENG_SUBST_SELFTEST_DONE (R172): The released engine's self-test ends; it stands SPARE or is RETIRED. -/
  | engSubstSelftestDone (pass : Bool)
  /-- ENG_SUBST_AUTO_DONE (R173): Within 50 µs the spare takes the number with cleared state and starts, or the substitution fails with ECC. -/
  | engSubstAutoDone (ecc : Bool)
  /-- TSYNC_RELEASE (R167): Every engine in the mask has executed TSYNC with the same id, and all continue in the same clock. -/
  | tsyncRelease (n : Fin 5)
  /-- TSYNC_TIMEOUT (R167): A TSYNC timeout is reached first and the waiting engine leaves the barrier with RS TIMEOUT. -/
  | tsyncTimeout (n : Fin 5)
  /-- FENCE_COMPLETE (R217): Every earlier write of the engine is acknowledged and a FENCE ends. -/
  | fenceComplete (n : Fin 5)
  /-- BR (R182): Branch always. -/
  | br (n : Fin 5) (hw : Option EngErr)
  /-- BZ (R182): Branch when a register or RS is zero. -/
  | bz (n : Fin 5) (hw : Option EngErr)
  /-- BNZ (R182): Branch when a register or RS is non-zero. -/
  | bnz (n : Fin 5) (hw : Option EngErr)
  /-- CALL (R183): Push the return address and jump, or refuse with NO_CUE on an empty cue window. -/
  | call (n : Fin 5) (hw : Option EngErr)
  /-- RET (R183): Pop the return stack and jump. -/
  | ret (n : Fin 5) (hw : Option EngErr)
  /-- YIELD (R184): Restart the watchdog and pass through WAITING for one clock. -/
  | yield (n : Fin 5) (hw : Option EngErr)
  /-- HALT (R185): Halt the engine, write a HALTED event and consume any record. -/
  | halt (n : Fin 5) (hw : Option EngErr)
  /-- LI (R186): Load a sign-extended 16-bit immediate. -/
  | li (n : Fin 5) (hw : Option EngErr)
  /-- LI_LONG (R186): Load a 32-bit immediate from the extension word. -/
  | liLong (n : Fin 5) (hw : Option EngErr)
  /-- LUI (R186): Load an immediate into the upper half of a register. -/
  | lui (n : Fin 5) (hw : Option EngErr)
  /-- ADD (R187): Add registers or an immediate, with wrap-around. -/
  | add (n : Fin 5) (hw : Option EngErr)
  /-- SUB (R187): Subtract registers or an immediate, with wrap-around. -/
  | sub (n : Fin 5) (hw : Option EngErr)
  /-- AND (R187): Bitwise AND. -/
  | and (n : Fin 5) (hw : Option EngErr)
  /-- OR (R187): Bitwise OR. -/
  | or (n : Fin 5) (hw : Option EngErr)
  /-- XOR (R187): Bitwise XOR. -/
  | xor (n : Fin 5) (hw : Option EngErr)
  /-- SHL (R188): Shift left. -/
  | shl (n : Fin 5) (hw : Option EngErr)
  /-- SHR (R188): Shift right, logical or arithmetic. -/
  | shr (n : Fin 5) (hw : Option EngErr)
  /-- CMP (R189): Compare and write 1 or 0. -/
  | cmp (n : Fin 5) (hw : Option EngErr)
  /-- LD (R190): Load one word from local memory. -/
  | ld (n : Fin 5) (hw : Option EngErr)
  /-- ST (R190): Store one word to local memory. -/
  | st (n : Fin 5) (hw : Option EngErr)
  /-- LD_TIME (R190): Load a 16-byte time register image. -/
  | ldTime (n : Fin 5) (hw : Option EngErr)
  /-- ST_TIME (R190): Store a 16-byte time register image. -/
  | stTime (n : Fin 5) (hw : Option EngErr)
  /-- LDX (R191): Read a BAR0 register through the control matrix. -/
  | ldx (n : Fin 5) (hw : Option EngErr)
  /-- STX (R191): Write a BAR0 register through the control matrix. -/
  | stx (n : Fin 5) (hw : Option EngErr)
  /-- TNOW (R192): Read a raster's current position into a time register. -/
  | tnow (n : Fin 5) (hw : Option EngErr)
  /-- TADD (R193): Add frames, lines and samples to a position. -/
  | tadd (n : Fin 5) (hw : Option EngErr)
  /-- WAIT (R194): Arm a comparator to a position, suspending or not. -/
  | wait (n : Fin 5) (hw : Option EngErr)
  /-- WAITEV (R195): Suspend until a masked event, with an optional timeout. -/
  | waitev (n : Fin 5) (hw : Option EngErr)
  /-- XSTAGE (R197): Stage one crosspoint route. -/
  | xstage (n : Fin 5) (hw : Option EngErr)
  /-- XSTAGEB (R198): Stage a list of crosspoint routes whole or not at all. -/
  | xstageb (n : Fin 5) (hw : Option EngErr)
  /-- XCOMMIT (R199): Commit the engine's staged crosspoint entries to a target. -/
  | xcommit (n : Fin 5) (hw : Option EngErr)
  /-- XREAD (R201): Read a crosspoint entry or destination status word. -/
  | xread (n : Fin 5) (hw : Option EngErr)
  /-- XLOCK (R202): Lock or unlock a destination group. -/
  | xlock (n : Fin 5) (hw : Option EngErr)
  /-- ASTAGE (R203): Stage an audio destination channel. -/
  | astage (n : Fin 5) (hw : Option EngErr)
  /-- ACOMMIT (R204): Commit staged audio entries AT a position or WITH a crosspoint commit. -/
  | acommit (n : Fin 5) (hw : Option EngErr)
  /-- LSET (R205): Write one word of a staged head parameter set. -/
  | lset (n : Fin 5) (hw : Option EngErr)
  /-- HCOMMIT (R207): Commit a head's staged parameter set for its latch line. -/
  | hcommit (n : Fin 5) (hw : Option EngErr)
  /-- BUFALLOC (R210): Allocate a frame-store descriptor and return a handle. -/
  | bufalloc (n : Fin 5) (hw : Option EngErr)
  /-- BUFFREE (R211): Advance a descriptor's generation and begin its release. -/
  | buffree (n : Fin 5) (hw : Option EngErr)
  /-- RECSTART (R212): Start a recorder writing into a RING. -/
  | recstart (n : Fin 5) (hw : Option EngErr)
  /-- RECSTOP (R212): Stop a recorder at the end of the frame in progress. -/
  | recstop (n : Fin 5) (hw : Option EngErr)
  /-- PLAY (R213): Start, change or stop a player. -/
  | play (n : Fin 5) (hw : Option EngErr)
  /-- ASK (R214): Request an admission grant, TRY or WAIT. -/
  | ask (n : Fin 5) (hw : Option EngErr)
  /-- GIVE (R215): Return an admission grant. -/
  | give (n : Fin 5) (hw : Option EngErr)
  /-- EMIT (R216): Fence, then signal engines and write an event record to the host. -/
  | emit (n : Fin 5) (hw : Option EngErr)
  /-- FENCE (R217): Suspend until earlier writes are visible. -/
  | fence (n : Fin 5) (hw : Option EngErr)
  /-- TSYNC (R218): Enter a barrier with other engines. -/
  | tsync (n : Fin 5) (hw : Option EngErr)
  /-- SUMMARY (R219): Request a summary record. -/
  | summary (n : Fin 5) (hw : Option EngErr)
  /-- UNDEFINED_OPCODE (R178): An instruction word with an undefined opcode executes and faults with ILLEGAL. -/
  | undefinedOpcode (n : Fin 5) (hw : Option EngErr)
  /-- CXL_PORT_BRINGUP_DONE (R222): A CXL port's bring-up sequence ends with the port UP, DEGRADED, DOWN or ABSENT. -/
  | cxlPortBringupDone (c : Fin 4) (partner : Bool) (reason : Fin 7) (speed : Fin 3) (width : Fin 32) (units : Nat)
  /-- CXLP_RETRAIN (R223): A write of RETRAIN repeats a port's bring-up, or is refused with RETRAIN_REFUSED. -/
  | cxlpRetrain (c : Fin 4) (w : Word)
  /-- PLACEMENT_LOOP (R225): Once a second each port is given a placement weight from headroom, free pages and MARKED regions. -/
  | placementLoop (ws wr rd : List Nat)
  /-- CXL_EVENT_RECORD (R226): An expander event record is counted against its 256 MiB region. -/
  | cxlEventRecord (c : Fin 4) (addr : Nat)
  /-- MIGRATION_PAGE_DONE (R226): A page of a MARKED region has been copied and its extent switches to the new page. -/
  | migrationPageDone (d : Fin 16384) (e : Nat) (c : Fin 4) (spare : Bool)
  /-- RECORDER_FRAME_START (R237): A running recorder starts a source frame, giving it the next sequence number and slot. -/
  | recorderFrameStart (r : Fin 128)
  /-- RECORDER_LINE_COMPLETE (R237): 2 µs after a line's last word arrives it is written; when every line is done the frame is complete and WRITE_SEQ advances. -/
  | recorderLineComplete (r : Fin 128) (ws : List (List Nat)) (a b : Unit)
  /-- PLAYER_FRAME_START (R239): At each frame start of its raster, a player chooses the stored frame it plays, counting REPEAT or DROP, or becomes LOST. -/
  | playerFrameStart (p : Fin 128)
  /-- PLAYER_LINE_FETCH (R240): A player fetches a line one line ahead of its egress, falling back to the previous frame or black and counting TEAR. -/
  | playerLineFetch (p : Fin 128) (bad : Option (Fin 4)) (tmo : Bool)
  /-- DESCRIPTOR_RELEASE (R235): When no access of the old generation remains, pages and descriptor are freed, a release record queued and RELEASED set. -/
  | descriptorRelease (d : Fin 16384)
  /-- LEASE_SET (R236): A write of GO to SABLE_LEASE_CTRL changes a buffer's lease, or is refused with LEASE_REFUSED. -/
  | leaseSet (w : Word)
  /-- HOST_WINDOW_ACCESS (R244): A BAR4 access reaches a buffer through a host window, or fails with ERR and returns all ones. -/
  | hostWindowAccess (w : Fin 16) (o : Nat) (data : Option (List Nat)) (n : Nat) (bad : Option (Fin 4) × Bool)
  /-- SABLE_REL_POP (R235): A write to SABLE_REL_POP removes the head release record. -/
  | sableRelPop (w : Word)
  /-- CXL_MEM_TIMEOUT (R247): No CXL.mem response within 20 µs: handled as a poisoned read, counted and logged. -/
  | cxlMemTimeout (c : Fin 4) (addr : Nat)
  /-- CXL_PORT_FAIL (R248): A port fails on link down, fatal AER or repeated timeouts; its buffers become DAMAGED and lost extents are replaced. -/
  | cxlPortFail (c : Fin 4) (rep : Bool)
  /-- CXL_MAILBOX_TIMEOUT (R438): A mailbox command not completed within 2 s is abandoned and logged. -/
  | cxlMailboxTimeout (c : Fin 4)
  /-- HEAD_STAGED_WRITE (R257): A host BAR2 write to a staged head word claims the head and is stored, or is ignored with STAGE_REFUSED. -/
  | headStagedWrite (h : Fin 96) (b : Fin 9) (i : Fin 64) (w : Word)
  /-- HEAD_COMMIT_GO (R281): A host GO commits a head's staged set, with or without full validation, or is refused. -/
  | headCommitGo (w : Word)
  /-- HEAD_COMMIT_DISCARD (R257): A host DISCARD drops its staged words of a head and ends its claim. -/
  | headCommitDiscard (w : Word)
  /-- HEAD_LATCH (R283): At the latch line the accepted set becomes active, scalers are returned and HEAD_DONE or HCOMMIT_DONE is raised. -/
  | headLatch (h : Fin 96)
  /-- HEAD_FRAME_START (R273): At a head's frame start, each layer chooses its stored frame or is not ready. -/
  | headFrameStart (h : Fin 96)
  /-- HEAD_LINE_COMPOSE (R278): A head composes a line from its layers' fetch buffers. -/
  | headLineCompose (h : Fin 96)
  /-- LUT_OPEN (R285): A write of OPEN opens a library slot for writing, or is refused. -/
  | lutOpen (w : Word)
  /-- LUT_DATA_WRITE (R285): A write to OCHRE_LUT_DATA stores one entry word and advances ADDR, or is refused. -/
  | lutDataWrite (w : Word)
  /-- LUT_CLOSE (R285): A write of CLOSE validates the slot and computes its CRC, or is refused. -/
  | lutClose (w : Word)
  /-- OCHRE_LOG_POP (R284): A write to OCHRE_LOG_POP removes the head log record. -/
  | ochreLogPop (w : Word)
  /-- AUDIO_BOUNDARY (R287): At each audio sample boundary every destination channel computes its sample from its source 48 periods earlier. -/
  | audioBoundary (t44 : Bool) (x : List (Nat × Nat) × List (Nat × Fin 4 × Bool))
  /-- SHADOW_AUDIO_WRITE (R299): A host BAR2 write stages a shadow audio entry, or is ignored with STAGE_REFUSED. -/
  | shadowAudioWrite (d : Fin 65536) (word : Fin 4) (w : Word)
  /-- AUDIO_COMMIT_GO (R300): A host GO commits its staged audio entries AT a target or WITH its crosspoint commit. -/
  | audioCommitGo (w : Word)
  /-- AUDIO_COMMIT_DISCARD (R300): A host DISCARD unstages its audio entries that are not PENDING. -/
  | audioCommitDiscard (w : Word)
  /-- AUDIO_COMMIT_EFFECT (R300): At the effect boundary the captured audio entries become active and each channel's change begins. -/
  | audioCommitEffect
  /-- ZEROX_TIMEOUT (R301): A ZEROX change reaches B + ZX_TIMEOUT and the output takes the new signal. -/
  | zeroxTimeout (d : Fin 65536)
  /-- FADE_COMPLETE (R301): A FADE reaches B + FADE_LEN and the output is the new signal. -/
  | fadeComplete (d : Fin 65536)
  /-- DELAY_BLOCK_WRITE (R304): A write to AUDIO_DBLK enables or disables a delay context, or is refused with DBLK_REFUSED. -/
  | delayBlockWrite (b : Fin 1024) (hi : Bool) (w : Word)
  /-- DELAY_SET (R305): A GO in AUDIO_DLY_CTRL applies a delay to a destination channel, or is refused with DLY_REFUSED. -/
  | delaySet (m : Fin 6) (w : Word)
  /-- AUDIO_PORT_CFG_WRITE (R294): A write to AUDIO_PORT changes embedder and de-embedder settings, or is refused with CFG_REFUSED. -/
  | audioPortCfgWrite (p : Fin 1152) (w : Word)
  /-- DEEMB_SOURCE_CHOICE (R291): At each frame start of sub-channel 0, the de-embedder chooses the supplier of channels 16–31. -/
  | deembSourceChoice (p : Fin 1152) (a b c d : Unit)
  /-- TDM_CFG_WRITE (R311): A write to TDM_CFG enables, disables or reconfigures a TDM port, or is refused with CFG_REFUSED. -/
  | tdmCfgWrite (i : Fin 16) (w : Word)
  /-- TDM_FRAME (R313): A slave TDM frame begins at an FSYNC edge and is checked, counted towards RUNNING, or judged a glitch or rate change. -/
  | tdmFrame (i : Fin 16) (len : Nat) (smp : List Nat)
  /-- TDM_STOP (R313): No FSYNC edge for two frame periods: the port enters STOPPED and its destinations begin ZEROX to 0. -/
  | tdmStop (i : Fin 16)
  /-- TDM_MASTER_START (R314): A master port starts BCLK and FSYNC at the first boundary after EN and enters RUNNING. -/
  | tdmMasterStart (i : Fin 16)
  /-- TETOS_FRAME_RX (R319): A received lane frame is decoded and corrected, or found uncorrectable with its turns lost. -/
  | tetosFrameRx (n : Fin 152) (lev : List (Fin 4)) (a b c : Unit)
  /-- MARKER_RX (R320): An alignment marker gives frame lock, TURN_M and FSEQ, or its absence loses frame lock. -/
  | markerRx (n : Fin 152) (a b c : Unit)
  /-- CELL_RX (R322): A received cell delivers 16 words of one strand to its elastic buffer. -/
  | cellRx (n : Fin 152) (out : Nat) (a : Unit)
  /-- SKIP_RX (R323): A received SKIP consumes a turn of its strand. -/
  | skipRx (n : Fin 152) (a b : Unit)
  /-- STATUS_BLOCK_RX (R328): A partner STATUS block updates partner state and applies its FFE requests. -/
  | statusBlockRx (n : Fin 152) (a : Unit)
  /-- TAG_RX (R329): A partner TAG block marks a strand FILL or is logged on disagreement. -/
  | tagRx (n : Fin 152) (a : Unit)
  /-- REMAP_RX (R337): A REMAP block on a spare lane advances the remap handshake. -/
  | remapRx (n : Fin 152) (a : Unit)
  /-- TURN_TX (R323): At each turn the transmitter sends a cell or a SKIP for the turn's strand. -/
  | turnTx (n : Fin 152) (a : Unit)
  /-- STATUS_BLOCK_TX (R328): A scheduled slot sends STATUS with OWN, HOLD and FFE requests, or a TAG or REMAP block. -/
  | statusBlockTx (n : Fin 152) (pre post : Fin 4)
  /-- LANE_CTRL_WRITE (R334): A write to FAB_LANE_CTRL requests OFF, DEEP or ACTIVE or changes mode or class, with refusals under R334. -/
  | laneCtrlWrite (n : Fin 152) (w : Word)
  /-- SIGNAL_DETECT (R332): A lane detects a partner's signal and begins training. -/
  | signalDetect (n : Fin 152)
  /-- LANE_ACTIVE (R332): A lane completes training and framing, reaches ACTIVE and sets HOTPLUG_EV. -/
  | laneActive (n : Fin 152)
  /-- LANE_SIGNAL_LOSS (R332): Signal detect is absent for 1 ms and the lane returns to L-IDLE. -/
  | laneSignalLoss (n : Fin 152)
  /-- LANE_LOCK_TIMEOUT (R339): A lane carrying a logical lane does not regain frame lock within FAIL_MS and becomes FAILED. -/
  | laneLockTimeout (n : Fin 152)
  /-- REMAP_START (R336): A write of START to FAB_REMAP_CTRL begins a planned remap, or is refused. -/
  | remapStart (w : Word)
  /-- REMAP_ABORT (R337): An ABORT before COMMITTED abandons a remap. -/
  | remapAbort (w : Word)
  /-- REMAP_WAKE_DONE (R337): The spare lane is frame-locked and REQ is sent. -/
  | remapWakeDone
  /-- REMAP_WAKE_TIMEOUT (R337): The spare does not frame-lock within 60 ms and the remap fails. -/
  | remapWakeTimeout
  /-- REMAP_OFFER_TIMEOUT (R337): No answer to REQ within 1 ms and the remap fails. -/
  | remapOfferTimeout
  /-- REMAP_COMPARE_DONE (R337): 4,096 duplicated turns compare equal and COMMIT is sent, or a difference fails the remap. -/
  | remapCompareDone (a : Unit)
  /-- REMAP_SWITCH_TURN (R337): At the committed TURN both receivers take the logical lane from the spare. -/
  | remapSwitchTurn
  /-- LANE_TEST_START (R341): A write of START to FAB_LANE_TEST starts a PRBS test, or is refused. -/
  | laneTestStart (n : Fin 152) (w : Word)
  /-- LANE_TEST_STOP (R342): A write of STOP ends the test and the lane returns to its previous state. -/
  | laneTestStop (n : Fin 152) (w : Word)
  /-- STATUS_ABSENT (R343): 64 consecutive STATUS slots pass without STATUS and PARTNER_READY clears. -/
  | statusAbsent (n : Fin 152)
  /-- MEDIA_FRAME_RX (R348): A received Ethernet frame is dropped, consumed, handled by its flow entry or queued for the host. -/
  | mediaFrameRx (f : RxFrame)
  /-- PAUSE_EXPIRE (R374): The pause time ends and transmission may resume. -/
  | pauseExpire (l : Fin 33)
  /-- IP_LINE_EGRESS (R358): At a receive line's egress instant, missing words are repeated or split the group, and UNDERRUN counts. -/
  | ipLineEgress (i : Fin 65536)
  /-- IP_FLOW_TIMEOUT (R359): No packet accepted for one frame period and the receive group is lost. -/
  | ipFlowTimeout (i : Fin 65536)
  /-- VIDEO_PACKET_TX (R360): A send video packet leaves at its narrow-linear scheduled instant, or is dropped as TX_LATE. -/
  | videoPacketTx (i : Fin 65536) (f k : Nat) (a b : Unit)
  /-- AUDIO_PACKET_TX (R366): A send audio packet leaves, stamped with its first sample's boundary. -/
  | audioPacketTx (i : Fin 65536)
  /-- ANC_PACKET_TX (R368): A send ANC packet carries its group's ancillary packets. -/
  | ancPacketTx (i : Fin 65536) (n : Nat)
  /-- OPAQUE_FORWARD (R370): An opaque strand forwards a source packet 2 µs after arrival. -/
  | opaqueForward (d : Fin 6336)
  /-- OPAQUE_SOURCE_SWITCH (R370): After the markers of old and new sources arrive, the opaque strand changes source at a frame boundary. -/
  | opaqueSourceSwitch (d : Fin 6336)
  /-- OPAQUE_SWITCH_TIMEOUT (R370): A marker has not arrived two frame periods after the switching point; the change is made and counted in UNDERRUN. -/
  | opaqueSwitchTimeout (d : Fin 6336)
  /-- FLOW_ENABLE (R352): OP ENABLE makes a flow entry VALID, or reports the first failing check. -/
  | flowEnable (w : Word)
  /-- FLOW_DISABLE (R353): OP DISABLE clears VALID, or is refused with IN_USE or STATE. -/
  | flowDisable (w : Word)
  /-- FLOW_CLEAR_STATS (R352): OP CLEAR_STATS clears a flow entry's status counters. -/
  | flowClearStats (w : Word)
  /-- FLOW_ENTRY_WRITE (R352): A BAR2 write to a flow entry's configuration words, ignored with FLOW_WR_REFUSED while VALID. -/
  | flowEntryWrite (i : Fin 65536) (k : Fin 32) (w : Word)
  /-- MEDIA_PORT_CFG_WRITE (R346): A write of SPLIT or PHY, refused while a logical port is enabled. -/
  | mediaPortCfgWrite (n : Fin 8) (w : Word)
  /-- MEDIA_LPORT_CFG_WRITE (R346): A write to a logical port's configuration; clearing EN is refused while a VALID essence entry names it. -/
  | mediaLportCfgWrite (l : Fin 32) (w : Word)
  /-- MEDIA_LINK_CHANGE (R346): A logical port gains or loses link; loss on a port in use is a MEDIA fault event. -/
  | mediaLinkChange (l : Fin 33) (up : Bool)
  /-- LPI_ENTER (R375): MGT has had no frame to send for LPI_IDLE µs and enters low-power idle. -/
  | lpiEnter
  /-- TX_RING_DOORBELL (R377): A write to TXR_TAIL posts transmit descriptors, or is ignored with RING_ERR. -/
  | txRingDoorbell (n : Fin 9) (w : Word)
  /-- TX_DESCRIPTOR_SEND (R377): The device sends the frame of the descriptor at HEAD, writes its result and timestamp request, and advances HEAD. -/
  | txDescriptorSend (n : Fin 9) (w2 w3 : Nat) (fr : Option (List Nat))
  /-- RX_RING_POST (R378): A write to RXR_TAIL posts receive descriptors, or is ignored with RING_ERR. -/
  | rxRingPost (n : Fin 9) (w : Word)
  /-- PTP_TXQ_POP (R387): A write of POP removes the head transmit timestamp entry. -/
  | ptpTxqPop (q : Fin 9) (w : Word)
  /-- PTP_ADDEND_WRITE (R388): A write of the addend's high word applies the new rate, or is refused with RATE_REFUSED. -/
  | ptpAddendWrite (w : Word)
  /-- PTP_STEP_GO (R389): A write of STEP_GO steps PTP time once, or is refused with STEP_REFUSED. -/
  | ptpStepGo (w : Word)
  /-- PTP_REARM (R390): A write of REARM sets ARMED, or is refused while a raster is locked to PTP. -/
  | ptpRearm (w : Word)
  /-- HELLO_RX (R397): A received HELLO is compared for pairing; the pair fails or roles are decided and state transfer begins. -/
  | helloRx (h : CobHdr) (b : List Nat)
  /-- RECORD_RX (R168): A standby receives a mirrored cue record and executes it on the engine of the same number. -/
  | recordRx (h : CobHdr) (n : Fin 5) (ws : List Nat)
  /-- VALUE_RX (R168): A standby receives an outside value or wait end from the mirror and uses it in place of its own. -/
  | valueRx (h : CobHdr) (n : Fin 8) (pc kind : Nat) (at' : Pos) (v : List Nat)
  /-- CACK_RX (R169): The active device receives the standby's acknowledgement and accepts the waiting commit in that clock. -/
  | cackRx (h : CobHdr) (n : Fin 5) (pc code : Nat)
  /-- CACK_TIMEOUT (R402): No CACK within ACK_TIMEOUT: the active accepts alone, clears IN_STEP and counts a COBALT fault. -/
  | cackTimeout (n : Fin 5)
  /-- HOSTW_RX (R399): A standby applies a mirrored host write as if accepted at the active's position. -/
  | hostwRx (h : CobHdr) (space off : Nat) (at' : Pos) (data : List Nat)
  /-- DIGEST_TX (R406): After each frame a device sends the digests of its egress groups and ingress ports. -/
  | digestTx (r : Fin 8) (errs : List (Fin 8192))
  /-- DIGEST_RX (R407): A peer's digests are compared and each mismatch attributed and counted. -/
  | digestRx (h : CobHdr) (r : Fin 8) (frame : Nat) (es : List (Nat × Nat))
  /-- TIME_RX (R396): A TIME message gives the TWIN candidate a timing point. -/
  | timeRx (h : CobHdr) (v : Nat)
  /-- COBALT_TIME_TX (R396): The active device sends TIME at least every 10 µs. -/
  | cobaltTimeTx
  /-- COBALT_ECHO_TX (R396): At pairing and every second, a device measures the loop delay with ECHO. -/
  | cobaltEchoTx
  /-- ECHO_RX (R396): An ECHO is answered or completes the one-way delay measurement. -/
  | echoRx (h : CobHdr) (orig rx tx : Nat)
  /-- COBALT_STATUS_TX (R395): Each device sends a STATUS message every 10 µs. -/
  | cobaltStatusTx
  /-- COBALT_STATUS_RX (R395): A peer STATUS message updates the peer's mode, role, OWN and pair state. -/
  | cobaltStatusRx (h : CobHdr) (mode pair : Fin 8) (own resync low : Bool)
  /-- COBALT_RETX_TIMEOUT (R395): A message unacknowledged for 24 µs is retransmitted, or after three tries the link is LOST. -/
  | cobaltRetxTimeout (a : Unit)
  /-- COBALT_LINK_LOST (R395): No message received for 30 µs, or no lane framed: the Cobalt link becomes LOST. -/
  | cobaltLinkLost (unframed : Bool)
  /-- GIVEUP_RX (R410): A standby receiving GIVEUP takes ownership within 1 µs and enters ACTIVE. -/
  | giveupRx (h : CobHdr) (reason : Fin 256)
  /-- SILENCE_TAKEOVER (R410): With TAKE_ON_SILENCE set, the link has been LOST for SILENT_MS and the standby takes ownership. -/
  | silenceTakeover
  /-- TAKE (R410): A write of TAKE on a standby takes ownership and sends GIVEUP to the peer. -/
  | take (w : Word)
  /-- PAIR_EN_WRITE (R397): A write of PAIR_EN starts or ends the search for a twin. -/
  | pairEnWrite (w : Word)
  /-- COBALT_RESYNC (R404): A write of RESYNC on the active device requests a state transfer. -/
  | cobaltResync (w : Word)
  /-- STATE_TRANSFER_FREEZE (R404): At the first instant every engine waits, the active freezes its state copy and sends STATE messages. -/
  | stateTransferFreeze
  /-- STATE_RX (R404): The standby installs the transferred state and releases queued mirrored items. -/
  | stateRx (h : CobHdr) (o : Nat) (part : Nat × List Nat)
  /-- PAIR_IN_STEP (R405): 64 consecutive frames of raster 0 without a mismatch outside CONVERGING make the pair IN_STEP. -/
  | pairInStep
  /-- SWAP_GO (R412): A write of GO on the active device proposes a role swap, or is refused. -/
  | swapGo (w : Word)
  /-- SWAP_CANCEL (R412): A write of CANCEL withdraws a swap not yet taken. -/
  | swapCancel (w : Word)
  /-- SWAP_AUTO_TIMER (R412): SWAP_PERIOD hours elapse and a periodic swap is proposed. -/
  | swapAutoTimer
  /-- SWAP_RX (R412): A SWAP message proposes, agrees, refuses or defers a swap. -/
  | swapRx (h : CobHdr) (op : Fin 5) (f : Nat)
  /-- SWAP_FETCH_STOP (R413): One frame before the swap frame the active device stops fetching records. -/
  | swapFetchStop
  /-- SWAP_EXECUTE (R412): At the agreed switch line the roles, rings and TWIN selection swap, or the swap is deferred. -/
  | swapExecute
  /-- ADMIT_ASK_GO (R420): A host GO in ADMIT_ASK requests a grant, TRY or WAIT. -/
  | admitAskGo (w : Word)
  /-- ADMIT_ASK_CANCEL (R420): A host CANCEL removes its waiting request from the queue. -/
  | admitAskCancel (w : Word)
  /-- ADMIT_GIVE_GO (R421): A host GO in ADMIT_GIVE returns a grant, or reclaims one, or is refused. -/
  | admitGiveGo (w : Word)
  /-- ADMIT_QUEUE_GRANT (R420): A waiting request comes to fit in turn and is granted. -/
  | admitQueueGrant
  /-- ASK_TIMEOUT (R420): A waiting engine ASK reaches its timeout and leaves the queue with TIMEOUT. -/
  | askTimeout (n : Fin 5)
  /-- POWER_MEASURE (R416): Every 100 ms the measured power refreshes TIGHT and the power capacity. -/
  | powerMeasure (m : Nat)
  /-- THERMAL_READ (R424): Every 1 ms the sensors are read and THERM_HOLD and TEMP_ALARM updated. -/
  | thermalRead (ts : List Nat)
  /-- THERM_CFG_WRITE (R424): A write of WARN, ALARM and HYST, judged together. -/
  | thermCfgWrite (w : Word)
  /-- THERMTRIP (R425): A sensor reaches 115 °C and THERMTRIP_N asserts; an ACTIVE device gives up. -/
  | thermtrip
  /-- AVS_LOOP_TICK (R427): Every 10 ms the voltage loop reads S_min and raises or lowers the core target. -/
  | avsLoopTick (slack : Nat) (ack : Bool)
  /-- AVS_EMERGENCY (R427): A monitor shows slack below SLACK_EMER and the target rises by 25 mV at once. -/
  | avsEmergency (slack : Nat)
  /-- AVS_TRANSACTION_FAIL (R427): An AVSBus transaction unanswered after three attempts sets AVS_FAULT and freezes the loop. -/
  | avsTransactionFail
  /-- FAULT_CAUSE_EXPIRE (R428): 10 ms after a device event without a cause condition, the source's cause ceases to be active. -/
  | faultCauseExpire (src : Fin 49)
  /-- HOLD_LIMIT_EXPIRE (R431): HOLD_LIM ms after a HOLD action, that source releases its HOLD. -/
  | holdLimitExpire (src : Fin 49)
  /-- FAULT_CLEAR (R435): A W1C to FLT_STATUS clears a source, or fails with CLR_FAIL while its cause is active. -/
  | faultClear (hi : Fin 2) (w : Word)
  /-- WEAR_ESTIMATE (R440): Every 24 operating hours each domain's remaining life is estimated. -/
  | wearEstimate (m : List (Nat × Nat))
  /-- WEAR_HOUR_STEP (R440): Every 128 operating hours the OTP hour counter advances one step. -/
  | wearHourStep
  /-- SRAM_CANARY_TEST (R439): Once per operating hour canary rows are tested at reduced assist voltage. -/
  | sramCanaryTest (m : List (Nat × Nat))
  /-- WEAR_SAVE (R441): A write of SAVE fills WEAR_HIST with the history block. -/
  | wearSave (w : Word)
  /-- WEAR_RESTORE (R441): A write of RESTORE accepts the history block or sets RESTORE_REFUSED. -/
  | wearRestore (w : Word)
  /-- SPARE_SUBST_START (R443): A write of START with TEST clear substitutes a head, recorder or player, or is refused. -/
  | spareSubstStart (w : Word)
  /-- SPARE_SUBST_ABORT (R443): An ABORT before the move abandons the substitution. -/
  | spareSubstAbort (w : Word)
  /-- HEAD_SUBST_MOVE (R443): At a latch line after the shadow frames, the logical head's output moves to the spare head. -/
  | headSubstMove (mism : Fin 3)
  /-- SPARE_TEST_START (R444): A write of START with TEST set runs a spare test. -/
  | spareTestStart (w : Word)
  /-- SPARE_TEST_DONE (R444): A spare test ends PASS or FAIL, retiring a failing unit and returning the grant. -/
  | spareTestDone (pass : Bool)
  /-- SCRUB_START (R445): A write of START to WEAR_SCRUB begins a scrub burst on a CXL port. -/
  | scrubStart (c : Fin 4) (w : Word)
  /-- SCRUB_STOP (R445): A write of STOP ends a scrub burst. -/
  | scrubStop (c : Fin 4) (w : Word)
  /-- SCRUB_DONE (R445): The whole capacity has been read, or the port leaves service, and the burst ends and returns its grant. -/
  | scrubDone (c : Fin 4) (full : Bool) (poison : List Nat)
  /-- SOFT_REPAIR_COMPLETE (R446): After one address cycle of double writes, reads of a repaired row or column come from the spare. -/
  | softRepairComplete (spare : Bool)
  /-- REPAIR_PROMOTE (R446): A write of PROMOTE writes soft repairs into OTP. -/
  | repairPromote (w : Word)
  /-- RST_N_ASSERT (R456): RST_N held low for 1 µs or more causes a cold reset. -/
  | rstNAssert
  /-- RST_N_RELEASE (R448): The rising edge of RST_N latches the straps and starts INIT. -/
  | rstNRelease (dbg enrol : Bool) (smb : Fin 4)
  /-- INIT_COMPLETE (R449): INIT finishes its steps and the device enters CALIBRATE, or stops with FAIL. -/
  | initComplete (otp repair : Bool)
  /-- READY_ASSERT (R451): PCI Express training completes and READY asserts. -/
  | readyAssert (cells : List Nat)
  /-- ENROL_KEY_GO (R485): A write of KEY_GO submits the owner key and enrolment fuses OTP and emits the binding value. -/
  | enrolKeyGo (w : Word)
  /-- ENROL_TIMEOUT (R485): KEY_GO does not arrive within 1.5 s and enrolment is skipped. -/
  | enrolTimeout
  /-- ENROL_ACK (R485): A write of ACK zeroes TOP_ENROL_OUT. -/
  | enrolAck (w : Word)
  /-- CAL_GO (R452): A write of CAL_GO starts the working stage of CALIBRATE, or is refused outside SETUP. -/
  | calGo (w : Word)
  /-- CALIBRATE_DONE (R453): CLOCKS and LINKS complete, CAL_DONE is set and R26 is evaluated. -/
  | calibrateDone
  /-- MODE_REQUEST (R455): A GO in TOP_MODE_REQ is judged against the transitions of Table 17-1. -/
  | modeRequest (w : Word)
  /-- WARM_RESET (R459): A write of WARM performs a warm reset, or is refused with WARM_REFUSED. -/
  | warmReset (w : Word) (b : Burst) (tld : List Nat)
  /-- WARM_RESET_COMPLETE (R459): READY returns within 20 ms of a warm reset. -/
  | warmResetComplete
  /-- COLD_RESET_CMD (R458): A write of COLD causes a cold reset, with give-up first on an ACTIVE device. -/
  | coldResetCmd (w : Word)
  /-- BLOCK_RESET_CMD (R462): A write of BLOCK performs a source's BLOCK_RESET action, or is refused with BLOCK_REFUSED. -/
  | blockResetCmd (w : Word)
  /-- HOST_IF_RESET (R461): A PCI Express hot reset, link down or FLR disables the rings and resets MSI-X, leaving essence untouched. -/
  | hostIfReset (b : Burst) (tld : List Nat)
  /-- D3HOT_ENTRY (R467): Entry to D3hot is treated as a host-interface reset and BAR decoding stops. -/
  | d3hotEntry (b : Burst) (tld : List Nat)
  /-- RAIL_UNDERVOLTAGE (R517): A monitored rail stays below its threshold for 200 ns, with the effect of RST_N held low. -/
  | railUndervoltage
  /-- DMA_READ_ERROR (R470): A DMA read ends in error, poison or timeout; the ring, frame or loader is handled and DMA_ERR set. -/
  | dmaReadError (t : Nat) (addr : Nat) (frame : Bool) (tld : List Nat)
  /-- SMB_SET_ADDR (R471): SMBus command SET_ADDR sets the BAR0 offset. -/
  | smbSetAddr (off : Nat) (pec : Bool)
  /-- SMB_READ (R471): SMBus command READ returns the register at the offset and advances it, or is refused. -/
  | smbRead (pec : Bool)
  /-- SMB_WRITE (R471): SMBus command WRITE writes the register at the offset, or is refused. -/
  | smbWrite (w : Word) (pec : Bool)
  /-- SMB_STATUS (R471): SMBus command STATUS returns READY and REFUSED. -/
  | smbStatus (pec : Bool)
  /-- MATRIX_LOCK_BREAK (R475): A matrix lock held beyond 64 beats is broken and its sequence discarded. -/
  | matrixLockBreak (m : Fin 9) (t : Fin 4) (write : Bool) (left : Fin 32)
  /-- TLD_GO (R477): A write of GO starts a table-loader transfer. -/
  | tldGo (w : Word)
  /-- TLD_ABORT (R477): A write of ABORT stops the transfer after the beat in progress. -/
  | tldAbort (w : Word) (tld : List Nat)
  /-- TLD_DONE (R477): A table-loader transfer ends and TLD_DONE is set. -/
  | tldDone (tld : List Nat)
  /-- SUMMARY_REQUEST (R478): A write of GO to HOSTIF_RESYNC requests a summary, or is refused with SUM_REFUSED. -/
  | summaryRequest (w : Word)
  /-- SUMMARY_CAPTURE (R479): At the consistency point every field of the summary is captured in one CORE clock. -/
  | summaryCapture
  /-- SUMMARY_WRITTEN (R479): The record is written header last, SUM_DONE set and the summary vector raised. -/
  | summaryWritten
  /-- KEY_UPDATE_GO (R490): A write of GO starts processing the key update message in KEYS_MSG. -/
  | keyUpdateGo (w : Word)
  /-- KEY_UPDATE_COMPLETE (R491): The message is applied whole after any OTP counter burn, or refused with its RESULT. -/
  | keyUpdateComplete
  /-- KEYS_MSG_CLEAR (R489): A write of CLEAR zeroes KEYS_MSG. -/
  | keysMsgClear (w : Word)
  /-- KEY_MASK_REFRESH (R488): Every millisecond each slot's mask is replaced and the slot re-encoded. -/
  | keyMaskRefresh
  /-- TRNG_FAIL (R488): The entropy source fails its health tests; mask refresh stops and TRNG_FAIL is set. -/
  | trngFail
  /-- CUE_MEMORY_WINDOW_WRITE (R149): A host write through the 64 KiB engine memory window stores into program, data or shared cue memory, or is ignored with CTRL_REFUSED, or reaches nothing for TARGET 3 or an out-of-range page. -/
  | cueMemoryWindowWrite (i : Fin 16384) (w : Word)
  /-- CAPTURE_READ (R500): A read of the lowest word of a multi-word RO register captures every word for that master, and later reads of the higher words return the captured values. -/
  | captureRead (off : Nat)
  /-- LAYER_LINE_FETCH (R277): A composition layer issues a source-line fetch into its six-line fetch buffer, NORMAL or URGENT by WM, checking the handle's generation and meeting poisoned or unwritten pages. -/
  | layerLineFetch (h : Fin 96) (l : Fin 8) (bad : Option (Fin 4)) (tmo : Bool)
  /-- HEAD_SUBST_LOAD (R443): At the target head's next latch line the spare head takes a copy of its active and accepted sets and begins two frames of shadow running. -/
  | headSubstLoad
  /-- D0_RESTORE (R467): The host returns the function from D3hot to D0 and BAR decoding resumes. -/
  | d0Restore
  /-- DISCARDED_MESSAGE_RX (R414): A Cobalt message with a failed CRC, a bad LEN or a reserved TYPE is discarded, acknowledged where the table says so, and logged as a violation. -/
  | discardedMessageRx (lane : Fin 4) (m : Nat × List Nat) (uncorr : Bool)
  /-- TAP_INSTRUCTION_UPDATE (R527): A new instruction is loaded through the IEEE 1149.1 TAP and takes effect, acting as BYPASS for the boundary-scan drive instructions while the device is in service. -/
  | tapInstructionUpdate (ir : Fin 10)
deriving DecidableEq, Repr

end Sys2Proof
end

