-- ==== Sys2Proof/Decode.lean ====
section
/-! DEFINITION. The decoder of the table's bits. The FM1152 takes its commands from its interfaces, and no row of
spec/opcode_table.json gives bits, so no word spells a command. The Ednel instruction words of the cue engines are decoded
where the engines run them, in Machine/Ednel.lean. -/
namespace Sys2Proof

/-- The command a word of `nbits` bits spells by the table: none, since no row gives bits. -/
def decodeTableWord (_nbits _w : Nat) : Option Instr := none

end Sys2Proof
end

