-- ==== Sys2Proof/Config.lean ====
section
/-! DEFINITION. What the spec leaves open or takes from outside itself: constants without a body, so that no proof can
rest on a value. -/
namespace Sys2Proof

/-- A free value: what the spec leaves undefined, one number per draw (State.freeCtr counts the draws). -/
opaque Config.free : Nat → Nat

/-- Where the series of crosspoint and of audio COMMIT_IDs begin (R128, R204): the spec gives no first number. -/
opaque Config.xptSeries : Nat
opaque Config.audioSeries : Nat

/-- Which way a result that is no whole number is rounded (R303 states no rounding), by numerator and denominator; and whether the
switching point of a switch line, which RP 168 gives, lies after a sample boundary in that line's horizontal blanking. -/
opaque Config.roundUp : Int → Nat → Bool
opaque Config.switchAfter : Nat → Bool

/-- The channel-status bits of a generated AES3 channel (R296) besides those that say professional linear PCM at 48 kHz, by 96 kHz and
place in the block of 192. -/
opaque Config.statusBit : Bool → Nat → Bool

/-- A payload ID declares square division (R96), and byte 1 of a 24G signal's: codes of ST 352 and ST 2083, which the spec names and
does not define. -/
opaque Config.pidSqd : Nat → Bool
opaque Config.pid24G : Nat

/-- The picture words of a receive group that have not arrived and that R358 does not say (a group's, or of a strand that has had no
complete line), and those of a send line that the device no longer holds: by a drawn number, picture line and component. -/
opaque Config.noPixel : Nat → Nat → Nat → Nat

/-- The cryptographic functions of the standards the spec names and does not define (R150, R373, R482-R494), on byte strings:
SHA-384 (FIPS 180-4), HMAC-SHA-256 and HMAC-SHA-384 (FIPS 198-1; key, message), the check of an ECDSA P-384 signature with
SHA-384 (SEC1 public key, message, r and s), AES-256 key unwrap (RFC 3394; key, wrapped key; none: the integrity check
fails), a valid P-384 point, the opening of an AES-256-GCM message (key, IV, associated data, ciphertext and tag; none: the
tag does not verify), and its sealing. -/
opaque Config.sha384 : List Nat → List Nat
opaque Config.hmacSha256 : List Nat → List Nat → List Nat
opaque Config.hmacSha384 : List Nat → List Nat → List Nat
opaque Config.p384Verify : List Nat → List Nat → List Nat → Bool
opaque Config.aesUnwrap : List Nat → List Nat → Option (List Nat)
opaque Config.p384Valid : List Nat → Bool
opaque Config.gcmOpen : List Nat → List Nat → List Nat → List Nat → Option (List Nat)
opaque Config.gcmSeal : List Nat → List Nat → List Nat → List Nat → List Nat

/-- What enrolment emits (R485): ephemeral public key, IV, ciphertext and tag, 173 bytes, for a binding key, an owner key and a
drawn number. -/
opaque Config.enrolOut : List Nat → List Nat → Nat → List Nat

/-- Wear (R440, R441): the hours that the fit gives a monitor (domain * 64 + number) until it reaches its limit, and their band, from the
hours now and its daily samples, the newest first (the limits and the band's formula are not stated); and how daily samples are laid
out in the history window's words 2-1022, and read back. -/
opaque Config.wearFit : Nat → Nat → List Nat → Nat × Nat × Nat
opaque Config.wearImage : Tab (List Nat) → Nat → Nat
opaque Config.wearLoad : List Nat → Tab (List Nat)

/-- The fused core voltage V_FUSE in mV (R427). -/
opaque Config.vFuse : Nat

/-- How the counts of the GPI, release and head-log queues and FLT_VLOG_PTR fill word `i` of the 16 bytes at 0x940 of a summary
record: Table 18-5 gives no layout within them. -/
opaque Config.sumQueues : Nat → Nat → Nat → Nat → Nat → Nat

/-- Composition (R259, R263-R268): bits carried beyond 16 a component; a weighted mean whose weights add up to 0; the filters of
chroma to 4:4:4 and back, by the samples of a line and a place; how far the weights of SINC, SOFT and SHARP at a
fraction of a source pixel lie from the exact ones, and a table's kernel off its points; the dither value, by mode, SEED, line, sample and frame; the bytes
of a WRITTEN page that nothing wrote, by a drawn number, strand and place; and the line of a head that has composed none yet. -/
opaque Config.ochreGuard : Nat
opaque Config.noQuotient : Int → Int
opaque Config.chromaUp : List Int → Nat → Int
opaque Config.chromaDown : List Int → Nat → Int
opaque Config.kernel : Nat → Nat → Nat → Int
opaque Config.kernelBetween : Int → Int → Nat → Nat → Int
opaque Config.dither : Nat → Nat → Nat → Nat → Nat → Nat
opaque Config.unwrittenByte : Nat → Nat → Nat → Nat
opaque Config.noLine : Nat → List Nat

end Sys2Proof
end

