-- ==== Sys2Proof/Machine/Fields.lean ====
section
/-! DEFINITION. Every field of every register of BAR0 (Table 20-5 and the field tables of the chapters), one
descriptor each, transcribed from the register descriptions of spec/: the bit address of the field's first copy, the two
strides and copy counts of R498, its width, its access code (Table 0-2), its reset value, its legal encodings (R8) and
its reset domain (R503, Table 20-2). -/
namespace Sys2Proof

/-- The access codes of Table 0-2 (R6). -/
inductive Acc | rw | ro | wo | w1c | rws | rc
deriving DecidableEq, Repr

/-- The reset domains of R503. -/
inductive Dom | c | w | h
deriving DecidableEq, Repr

/-- How a field's reset value depends on its copy: one value; copy number plus an offset; one value below a copy number
and another from it on; a list. -/
inductive Rst
  | const (v : Nat)
  | plus (off : Nat)
  | split (at' lo hi : Nat)
  | tbl (vs : List Nat)
deriving DecidableEq, Repr

/-- One register field. `base` is its bit address in BAR0 (eight times the byte offset, plus the bit number), `s1`/`n1`
the outer stride in bits and the number of copies, `s2`/`n2` the inner ones; `ok` lists the legal encodings as closed
ranges, the empty list meaning all. -/
structure Fld where
  base : Nat
  w : Nat
  s1 : Nat
  n1 : Nat
  s2 : Nat
  n2 : Nat
  acc : Acc
  rst : Rst
  dom : Dom
  ok : List (Nat × Nat)
deriving DecidableEq, Repr

/-- Number of copies of the field. -/
def Fld.copies (f : Fld) : Nat := f.n1 * f.n2

/-- Bit address of copy `i` (R498): two-index registers number their copies with the last index fastest. -/
def Fld.key (f : Fld) (i : Nat) : Nat := f.base + (i / f.n2) * f.s1 + (i % f.n2) * f.s2

/-- Reset value of copy `i`. -/
def Fld.reset (f : Fld) (i : Nat) : Nat :=
  match f.rst with
  | .const v => v
  | .plus o => i + o
  | .split a lo hi => if i < a then lo else hi
  | .tbl vs => vs.getD i 0

/-- `v` is no reserved encoding of the field (R8). -/
def Fld.legal (f : Fld) (v : Nat) : Bool := f.ok.isEmpty || f.ok.any (fun r => r.1 ≤ v && v ≤ r.2)

namespace F

-- TOP_ID (20_register_map.md)
def TOP_ID_MINOR : Fld := ⟨8, 4, 0, 1, 0, 1, .ro, .const 0, .c, []⟩
def TOP_ID_MAJOR : Fld := ⟨12, 4, 0, 1, 0, 1, .ro, .const 0, .c, []⟩
def TOP_ID_PART : Fld := ⟨16, 16, 0, 1, 0, 1, .ro, .const 4434, .c, []⟩
-- TOP_BOOT (20_register_map.md)
def TOP_BOOT_DBG_DISABLED : Fld := ⟨32, 1, 0, 1, 0, 1, .ro, .const 0, .c, []⟩
def TOP_BOOT_SMB_ADDR : Fld := ⟨40, 2, 0, 1, 0, 1, .ro, .const 0, .c, []⟩
-- TOP_SCRATCH (20_register_map.md)
def TOP_SCRATCH_VALUE : Fld := ⟨96, 32, 0, 1, 0, 1, .rws, .const 0, .c, []⟩
-- TOP_DEV_MODE (17_startup_modes_reset.md)
def TOP_DEV_MODE_MODE : Fld := ⟨128, 3, 0, 1, 0, 1, .ro, .const 1, .c, []⟩
def TOP_DEV_MODE_CAL_DONE : Fld := ⟨131, 1, 0, 1, 0, 1, .ro, .const 0, .c, []⟩
def TOP_DEV_MODE_MEM_SHORT : Fld := ⟨132, 1, 0, 1, 0, 1, .ro, .const 0, .c, []⟩
def TOP_DEV_MODE_DBG_STRAP : Fld := ⟨133, 1, 0, 1, 0, 1, .ro, .const 0, .c, []⟩
def TOP_DEV_MODE_ENROL_STRAP : Fld := ⟨134, 1, 0, 1, 0, 1, .ro, .const 0, .c, []⟩
def TOP_DEV_MODE_OWN : Fld := ⟨135, 1, 0, 1, 0, 1, .ro, .const 0, .c, []⟩
def TOP_DEV_MODE_CAL_STAGE : Fld := ⟨136, 2, 0, 1, 0, 1, .ro, .const 0, .c, []⟩
-- TOP_MODE_REQ (17_startup_modes_reset.md)
def TOP_MODE_REQ_TARGET : Fld := ⟨160, 3, 0, 1, 0, 1, .rw, .const 0, .c, []⟩
def TOP_MODE_REQ_GO : Fld := ⟨163, 1, 0, 1, 0, 1, .wo, .const 0, .c, []⟩
def TOP_MODE_REQ_CAL_GO : Fld := ⟨164, 1, 0, 1, 0, 1, .wo, .const 0, .c, []⟩
def TOP_MODE_REQ_RESULT : Fld := ⟨168, 4, 0, 1, 0, 1, .ro, .const 0, .c, []⟩
def TOP_MODE_REQ_STATE : Fld := ⟨172, 2, 0, 1, 0, 1, .ro, .const 0, .c, []⟩
def TOP_MODE_REQ_REQ_REFUSED : Fld := ⟨176, 1, 0, 1, 0, 1, .w1c, .const 0, .c, []⟩
-- TOP_INIT_STATUS (17_startup_modes_reset.md)
def TOP_INIT_STATUS_STEP : Fld := ⟨192, 3, 0, 1, 0, 1, .ro, .const 0, .c, []⟩
def TOP_INIT_STATUS_FAIL : Fld := ⟨196, 2, 0, 1, 0, 1, .ro, .const 0, .c, []⟩
def TOP_INIT_STATUS_ROOT_FAIL : Fld := ⟨198, 1, 0, 1, 0, 1, .ro, .const 0, .c, []⟩
def TOP_INIT_STATUS_ENROLLED : Fld := ⟨199, 1, 0, 1, 0, 1, .ro, .const 0, .c, []⟩
def TOP_INIT_STATUS_WR_EARLY : Fld := ⟨200, 1, 0, 1, 0, 1, .w1c, .const 0, .c, []⟩
def TOP_INIT_STATUS_SELFTEST_PCT : Fld := ⟨208, 7, 0, 1, 0, 1, .ro, .const 0, .c, []⟩
-- TOP_RESET_CTRL (17_startup_modes_reset.md)
def TOP_RESET_CTRL_WARM : Fld := ⟨256, 1, 0, 1, 0, 1, .wo, .const 0, .c, []⟩
def TOP_RESET_CTRL_COLD : Fld := ⟨257, 1, 0, 1, 0, 1, .wo, .const 0, .c, []⟩
def TOP_RESET_CTRL_BLOCK : Fld := ⟨258, 1, 0, 1, 0, 1, .wo, .const 0, .c, []⟩
def TOP_RESET_CTRL_BLOCK_SRC : Fld := ⟨264, 6, 0, 1, 0, 1, .rw, .const 0, .c, [(0, 48)]⟩
-- TOP_RESET_STATUS (17_startup_modes_reset.md)
def TOP_RESET_STATUS_COLD_CAUSE : Fld := ⟨288, 2, 0, 1, 0, 1, .ro, .const 0, .c, []⟩
def TOP_RESET_STATUS_WARM_CNT : Fld := ⟨296, 8, 0, 1, 0, 1, .ro, .const 0, .c, []⟩
def TOP_RESET_STATUS_WARM_REFUSED : Fld := ⟨304, 1, 0, 1, 0, 1, .w1c, .const 0, .c, []⟩
def TOP_RESET_STATUS_BLOCK_REFUSED : Fld := ⟨305, 1, 0, 1, 0, 1, .w1c, .const 0, .c, []⟩
def TOP_RESET_STATUS_HOSTIF_RST : Fld := ⟨306, 1, 0, 1, 0, 1, .w1c, .const 0, .c, []⟩
-- TOP_ENROL_CTRL (19_keys_and_security.md)
def TOP_ENROL_CTRL_REQ : Fld := ⟨4096, 1, 0, 1, 0, 1, .ro, .const 0, .c, []⟩
def TOP_ENROL_CTRL_KEY_GO : Fld := ⟨4097, 1, 0, 1, 0, 1, .wo, .const 0, .c, []⟩
def TOP_ENROL_CTRL_OUT_VALID : Fld := ⟨4098, 1, 0, 1, 0, 1, .ro, .const 0, .c, []⟩
def TOP_ENROL_CTRL_ACK : Fld := ⟨4099, 1, 0, 1, 0, 1, .wo, .const 0, .c, []⟩
def TOP_ENROL_CTRL_KEY_BAD : Fld := ⟨4100, 1, 0, 1, 0, 1, .ro, .const 0, .c, []⟩
-- TOP_ENROL_KEY (19_keys_and_security.md)
def TOP_ENROL_KEY_WORD : Fld := ⟨6144, 32, 32, 25, 0, 1, .wo, .const 0, .c, []⟩
-- TOP_ENROL_OUT (19_keys_and_security.md)
def TOP_ENROL_OUT_WORD : Fld := ⟨8192, 32, 32, 44, 0, 1, .ro, .const 0, .c, []⟩
-- SLATE_SNAP (02_house_time.md)
def SLATE_SNAP_SNAP : Fld := ⟨524416, 1, 0, 1, 0, 1, .wo, .const 0, .c, []⟩
-- SLATE_SNAP_TIME (02_house_time.md)
def SLATE_SNAP_TIME_SEC_LO : Fld := ⟨524544, 32, 0, 1, 0, 1, .ro, .const 0, .w, []⟩
def SLATE_SNAP_TIME_SEC_HI : Fld := ⟨524576, 16, 0, 1, 0, 1, .ro, .const 0, .w, []⟩
def SLATE_SNAP_TIME_FRAC : Fld := ⟨524592, 16, 0, 1, 0, 1, .ro, .const 0, .w, []⟩
def SLATE_SNAP_TIME_NS : Fld := ⟨524608, 30, 0, 1, 0, 1, .ro, .const 0, .w, []⟩
def SLATE_SNAP_TIME_SNAP_SEQ : Fld := ⟨524640, 32, 0, 1, 0, 1, .ro, .const 0, .w, []⟩
-- SLATE_SNAP_POS (02_house_time.md)
def SLATE_SNAP_POS_FRAME_LO : Fld := ⟨526336, 32, 128, 8, 0, 1, .ro, .const 0, .w, []⟩
def SLATE_SNAP_POS_FRAME_HI : Fld := ⟨526368, 32, 128, 8, 0, 1, .ro, .const 0, .w, []⟩
def SLATE_SNAP_POS_LINE : Fld := ⟨526400, 16, 128, 8, 0, 1, .ro, .const 0, .w, []⟩
def SLATE_SNAP_POS_SAMPLE : Fld := ⟨526416, 16, 128, 8, 0, 1, .ro, .const 0, .w, []⟩
def SLATE_SNAP_POS_ENABLED : Fld := ⟨526432, 1, 128, 8, 0, 1, .ro, .const 0, .w, []⟩
def SLATE_SNAP_POS_LOCKED : Fld := ⟨526433, 1, 128, 8, 0, 1, .ro, .const 0, .w, []⟩
-- SLATE_RASTER_CFG (02_house_time.md)
def SLATE_RASTER_CFG_EN : Fld := ⟨528384, 1, 512, 8, 0, 1, .rw, .const 0, .c, []⟩
def SLATE_RASTER_CFG_STRUCT : Fld := ⟨528388, 4, 512, 8, 0, 1, .rw, .const 5, .c, [(1, 6)]⟩
def SLATE_RASTER_CFG_RATE : Fld := ⟨528392, 4, 512, 8, 0, 1, .rw, .const 5, .c, [(0, 10)]⟩
def SLATE_RASTER_CFG_BASIS : Fld := ⟨528396, 1, 512, 8, 0, 1, .rw, .const 0, .c, []⟩
def SLATE_RASTER_CFG_F2SW : Fld := ⟨528397, 1, 512, 8, 0, 1, .rw, .const 0, .c, []⟩
-- SLATE_RASTER_LINES (02_house_time.md)
def SLATE_RASTER_LINES_SWLINE : Fld := ⟨528416, 12, 512, 8, 0, 1, .rw, .const 0, .c, []⟩
def SLATE_RASTER_LINES_LATCH : Fld := ⟨528432, 12, 512, 8, 0, 1, .rw, .const 0, .c, []⟩
-- SLATE_RASTER_TIMING (02_house_time.md)
def SLATE_RASTER_TIMING_LEAD : Fld := ⟨528448, 4, 512, 8, 0, 1, .rw, .const 2, .c, [(1, 15)]⟩
def SLATE_RASTER_TIMING_ADV : Fld := ⟨528464, 13, 512, 8, 0, 1, .rw, .const 0, .c, []⟩
-- SLATE_RASTER_OFS (02_house_time.md)
def SLATE_RASTER_OFS_OFS : Fld := ⟨528480, 24, 512, 8, 0, 1, .rw, .const 0, .c, []⟩
-- SLATE_RASTER_SEED (02_house_time.md)
def SLATE_RASTER_SEED_SEED_LO : Fld := ⟨528512, 32, 512, 8, 0, 1, .rw, .const 0, .c, []⟩
def SLATE_RASTER_SEED_SEED_HI : Fld := ⟨528544, 32, 512, 8, 0, 1, .rw, .const 0, .c, []⟩
-- SLATE_RASTER_STATUS (02_house_time.md)
def SLATE_RASTER_STATUS_ENABLED : Fld := ⟨528576, 1, 512, 8, 0, 1, .ro, .const 0, .c, []⟩
def SLATE_RASTER_STATUS_LOCKED : Fld := ⟨528577, 1, 512, 8, 0, 1, .ro, .const 0, .c, []⟩
def SLATE_RASTER_STATUS_EVER_LOCKED : Fld := ⟨528578, 1, 512, 8, 0, 1, .ro, .const 0, .c, []⟩
def SLATE_RASTER_STATUS_IN_USE : Fld := ⟨528579, 1, 512, 8, 0, 1, .ro, .const 0, .c, []⟩
def SLATE_RASTER_STATUS_CFG_REFUSED : Fld := ⟨528584, 1, 512, 8, 0, 1, .w1c, .const 0, .c, []⟩
def SLATE_RASTER_STATUS_SEED_IGNORED : Fld := ⟨528585, 1, 512, 8, 0, 1, .w1c, .const 0, .c, []⟩
def SLATE_RASTER_STATUS_DISABLE_REFUSED : Fld := ⟨528586, 1, 512, 8, 0, 1, .w1c, .const 0, .c, []⟩
def SLATE_RASTER_STATUS_SWLINE_EFF : Fld := ⟨528592, 12, 512, 8, 0, 1, .ro, .const 0, .c, []⟩
-- SLATE_CMP_CTRL (02_house_time.md)
def SLATE_CMP_CTRL_ARM : Fld := ⟨532480, 1, 256, 32, 0, 1, .rw, .const 0, .w, []⟩
def SLATE_CMP_CTRL_RASTER : Fld := ⟨532481, 3, 256, 32, 0, 1, .rw, .const 0, .w, []⟩
def SLATE_CMP_CTRL_STYLE : Fld := ⟨532484, 1, 256, 32, 0, 1, .rw, .const 0, .w, []⟩
def SLATE_CMP_CTRL_IRQ : Fld := ⟨532485, 1, 256, 32, 0, 1, .rw, .const 0, .w, []⟩
def SLATE_CMP_CTRL_ENG_MASK : Fld := ⟨532488, 5, 256, 32, 0, 1, .rw, .const 0, .w, []⟩
def SLATE_CMP_CTRL_PERIODIC : Fld := ⟨532496, 1, 256, 32, 0, 1, .rw, .const 0, .w, []⟩
-- SLATE_CMP_TGT (02_house_time.md)
def SLATE_CMP_TGT_FRAME_LO : Fld := ⟨532512, 32, 256, 32, 0, 1, .rw, .const 0, .w, []⟩
def SLATE_CMP_TGT_FRAME_HI : Fld := ⟨532544, 32, 256, 32, 0, 1, .rw, .const 0, .w, []⟩
def SLATE_CMP_TGT_LINE : Fld := ⟨532576, 16, 256, 32, 0, 1, .rw, .const 0, .w, []⟩
def SLATE_CMP_TGT_SAMPLE : Fld := ⟨532592, 16, 256, 32, 0, 1, .rw, .const 0, .w, []⟩
def SLATE_CMP_TGT_PERIOD : Fld := ⟨532608, 16, 256, 32, 0, 1, .rw, .const 0, .w, []⟩
-- SLATE_CMP_STATUS (02_house_time.md)
def SLATE_CMP_STATUS_FIRED : Fld := ⟨532640, 1, 256, 32, 0, 1, .w1c, .const 0, .w, []⟩
def SLATE_CMP_STATUS_LATE : Fld := ⟨532641, 1, 256, 32, 0, 1, .w1c, .const 0, .w, []⟩
def SLATE_CMP_STATUS_ARM_REFUSED : Fld := ⟨532642, 1, 256, 32, 0, 1, .w1c, .const 0, .w, []⟩
def SLATE_CMP_STATUS_FIRE_COUNT : Fld := ⟨532656, 16, 256, 32, 0, 1, .ro, .const 0, .w, []⟩
-- SLATE_CMP_EVENT (02_house_time.md)
def SLATE_CMP_EVENT_FIRED : Fld := ⟨540672, 1, 1, 32, 0, 1, .w1c, .const 0, .w, []⟩
-- SLATE_GPI_CFG (02_house_time.md)
def SLATE_GPI_CFG_EDGE : Fld := ⟨542720, 2, 32, 32, 0, 1, .rw, .const 0, .c, []⟩
def SLATE_GPI_CFG_RASTER : Fld := ⟨542722, 3, 32, 32, 0, 1, .rw, .const 0, .c, []⟩
def SLATE_GPI_CFG_FILT : Fld := ⟨542728, 8, 32, 32, 0, 1, .rw, .const 0, .c, []⟩
def SLATE_GPI_CFG_ENG_MASK : Fld := ⟨542736, 5, 32, 32, 0, 1, .rw, .const 0, .c, []⟩
def SLATE_GPI_CFG_IRQ : Fld := ⟨542741, 1, 32, 32, 0, 1, .rw, .const 0, .c, []⟩
-- SLATE_GPI_LEVEL (02_house_time.md)
def SLATE_GPI_LEVEL_LEVEL : Fld := ⟨543744, 32, 0, 1, 0, 1, .ro, .const 0, .c, []⟩
-- SLATE_GPI_QSTAT (02_house_time.md)
def SLATE_GPI_QSTAT_COUNT : Fld := ⟨543776, 9, 0, 1, 0, 1, .ro, .const 0, .c, []⟩
def SLATE_GPI_QSTAT_OVF : Fld := ⟨543792, 1, 0, 1, 0, 1, .w1c, .const 0, .c, []⟩
-- SLATE_GPI_LOST (02_house_time.md)
def SLATE_GPI_LOST_LOST : Fld := ⟨543808, 32, 0, 1, 0, 1, .rc, .const 0, .c, []⟩
-- SLATE_GPI_POP (02_house_time.md)
def SLATE_GPI_POP_POP : Fld := ⟨543840, 1, 0, 1, 0, 1, .wo, .const 0, .c, []⟩
-- SLATE_GPI_EVT (02_house_time.md)
def SLATE_GPI_EVT_WORD : Fld := ⟨544000, 32, 32, 8, 0, 1, .ro, .const 0, .c, []⟩
-- SLATE_GPO_LEVEL (02_house_time.md)
def SLATE_GPO_LEVEL_LEVEL : Fld := ⟨544768, 32, 0, 1, 0, 1, .rws, .const 0, .c, []⟩
-- SLATE_GPO_SET (02_house_time.md)
def SLATE_GPO_SET_SET : Fld := ⟨544800, 32, 0, 1, 0, 1, .wo, .const 0, .c, []⟩
-- SLATE_GPO_CLR (02_house_time.md)
def SLATE_GPO_CLR_CLR : Fld := ⟨544832, 32, 0, 1, 0, 1, .wo, .const 0, .c, []⟩
-- SLATE_GPO_SCHED_STATUS (02_house_time.md)
def SLATE_GPO_SCHED_STATUS_PENDING : Fld := ⟨544864, 9, 0, 1, 0, 1, .ro, .const 0, .w, []⟩
def SLATE_GPO_SCHED_STATUS_LATE : Fld := ⟨544880, 1, 0, 1, 0, 1, .w1c, .const 0, .c, []⟩
def SLATE_GPO_SCHED_STATUS_REFUSED : Fld := ⟨544881, 1, 0, 1, 0, 1, .w1c, .const 0, .c, []⟩
-- SLATE_GPO_SCHED (02_house_time.md)
def SLATE_GPO_SCHED_VALID : Fld := ⟨589824, 1, 256, 256, 0, 1, .rw, .const 0, .w, []⟩
def SLATE_GPO_SCHED_RASTER : Fld := ⟨589825, 3, 256, 256, 0, 1, .rw, .const 0, .w, []⟩
def SLATE_GPO_SCHED_STYLE : Fld := ⟨589828, 1, 256, 256, 0, 1, .rw, .const 0, .w, []⟩
def SLATE_GPO_SCHED_FRAME_LO : Fld := ⟨589856, 32, 256, 256, 0, 1, .rw, .const 0, .w, []⟩
def SLATE_GPO_SCHED_FRAME_HI : Fld := ⟨589888, 32, 256, 256, 0, 1, .rw, .const 0, .w, []⟩
def SLATE_GPO_SCHED_LINE : Fld := ⟨589920, 16, 256, 256, 0, 1, .rw, .const 0, .w, []⟩
def SLATE_GPO_SCHED_SAMPLE : Fld := ⟨589936, 16, 256, 256, 0, 1, .rw, .const 0, .w, []⟩
def SLATE_GPO_SCHED_MASK : Fld := ⟨589952, 32, 256, 256, 0, 1, .rw, .const 0, .w, []⟩
def SLATE_GPO_SCHED_VALUE : Fld := ⟨589984, 32, 256, 256, 0, 1, .rw, .const 0, .w, []⟩
-- REFSEL_CTRL (03_reference_and_clocks.md)
def REFSEL_CTRL_REVERT : Fld := ⟨1048576, 1, 0, 1, 0, 1, .rws, .const 1, .c, []⟩
def REFSEL_CTRL_PULL_MODE : Fld := ⟨1048577, 1, 0, 1, 0, 1, .rws, .const 0, .c, []⟩
def REFSEL_CTRL_FORCE_EN : Fld := ⟨1048578, 1, 0, 1, 0, 1, .rws, .const 0, .c, []⟩
def REFSEL_CTRL_FORCE_IDX : Fld := ⟨1048580, 3, 0, 1, 0, 1, .rws, .const 0, .c, []⟩
def REFSEL_CTRL_FINAL_BW : Fld := ⟨1048584, 2, 0, 1, 0, 1, .rws, .const 0, .c, []⟩
def REFSEL_CTRL_PULL_NOW : Fld := ⟨1048592, 1, 0, 1, 0, 1, .wo, .const 0, .c, []⟩
-- REFSEL_COND (03_reference_and_clocks.md)
def REFSEL_COND_COND : Fld := ⟨1048608, 3, 0, 1, 0, 1, .ro, .const 0, .c, []⟩
def REFSEL_COND_REFGOOD : Fld := ⟨1048611, 1, 0, 1, 0, 1, .ro, .const 0, .c, []⟩
def REFSEL_COND_SELECTED : Fld := ⟨1048612, 3, 0, 1, 0, 1, .ro, .const 0, .c, []⟩
def REFSEL_COND_SEL_VALID : Fld := ⟨1048615, 1, 0, 1, 0, 1, .ro, .const 0, .c, []⟩
def REFSEL_COND_STAGE : Fld := ⟨1048616, 2, 0, 1, 0, 1, .ro, .const 0, .c, []⟩
def REFSEL_COND_ESTABLISHED : Fld := ⟨1048618, 1, 0, 1, 0, 1, .ro, .const 0, .c, []⟩
def REFSEL_COND_FROZEN : Fld := ⟨1048619, 1, 0, 1, 0, 1, .ro, .const 0, .c, []⟩
def REFSEL_COND_HO_SRC : Fld := ⟨1048620, 2, 0, 1, 0, 1, .ro, .const 0, .c, []⟩
-- REFSEL_COMPAT (03_reference_and_clocks.md)
def REFSEL_COMPAT_STATE : Fld := ⟨1048640, 3, 0, 1, 0, 1, .ro, .const 0, .c, []⟩
-- REFSEL_EVENT (03_reference_and_clocks.md)
def REFSEL_EVENT_SWITCHED : Fld := ⟨1048672, 1, 0, 1, 0, 1, .w1c, .const 0, .c, []⟩
def REFSEL_EVENT_DISQUAL : Fld := ⟨1048673, 1, 0, 1, 0, 1, .w1c, .const 0, .c, []⟩
def REFSEL_EVENT_DRIFT : Fld := ⟨1048674, 1, 0, 1, 0, 1, .w1c, .const 0, .c, []⟩
def REFSEL_EVENT_HO_ENTER : Fld := ⟨1048675, 1, 0, 1, 0, 1, .w1c, .const 0, .c, []⟩
def REFSEL_EVENT_LOST : Fld := ⟨1048676, 1, 0, 1, 0, 1, .w1c, .const 0, .c, []⟩
def REFSEL_EVENT_STOPPED : Fld := ⟨1048677, 1, 0, 1, 0, 1, .w1c, .const 0, .c, []⟩
def REFSEL_EVENT_GLITCH : Fld := ⟨1048678, 1, 0, 1, 0, 1, .w1c, .const 0, .c, []⟩
def REFSEL_EVENT_RESYNC : Fld := ⟨1048679, 1, 0, 1, 0, 1, .w1c, .const 0, .c, []⟩
def REFSEL_EVENT_CFG_REFUSED : Fld := ⟨1048680, 1, 0, 1, 0, 1, .w1c, .const 0, .c, []⟩
-- REFSEL_SLEW (03_reference_and_clocks.md)
def REFSEL_SLEW_MAXFREQ : Fld := ⟨1048704, 12, 0, 1, 0, 1, .rws, .const 200, .c, [(1, 4095)]⟩
def REFSEL_SLEW_MAXRATE : Fld := ⟨1048720, 12, 0, 1, 0, 1, .rws, .const 50, .c, [(1, 4095)]⟩
-- REFSEL_NARROW (03_reference_and_clocks.md)
def REFSEL_NARROW_THRESH : Fld := ⟨1048832, 16, 32, 3, 0, 1, .rws, .tbl [1000, 200, 50], .c, []⟩
def REFSEL_NARROW_DWELL : Fld := ⟨1048848, 12, 32, 3, 0, 1, .rws, .tbl [2, 10, 60], .c, [(1, 4095)]⟩
-- REFSEL_HO_CFG (03_reference_and_clocks.md)
def REFSEL_HO_CFG_WINDOW : Fld := ⟨1048960, 12, 0, 1, 0, 1, .rws, .const 900, .c, [(300, 3600)]⟩
def REFSEL_HO_CFG_GUARD : Fld := ⟨1048972, 9, 0, 1, 0, 1, .rws, .const 120, .c, [(0, 480)]⟩
-- REFSEL_HO_LIM (03_reference_and_clocks.md)
def REFSEL_HO_LIM_MIN_HIST : Fld := ⟨1048992, 12, 0, 1, 0, 1, .rws, .const 300, .c, []⟩
def REFSEL_HO_LIM_LIMIT : Fld := ⟨1049008, 12, 0, 1, 0, 1, .rws, .const 0, .c, []⟩
-- REFSEL_HO_AVG (03_reference_and_clocks.md)
def REFSEL_HO_AVG_LO : Fld := ⟨1049024, 32, 0, 1, 0, 1, .ro, .const 0, .c, []⟩
def REFSEL_HO_AVG_HI : Fld := ⟨1049056, 32, 0, 1, 0, 1, .ro, .const 0, .c, []⟩
-- REFSEL_HO_SEED (03_reference_and_clocks.md)
def REFSEL_HO_SEED_LO : Fld := ⟨1049088, 32, 0, 1, 0, 1, .rws, .const 0, .c, []⟩
def REFSEL_HO_SEED_HI : Fld := ⟨1049120, 16, 0, 1, 0, 1, .rws, .const 0, .c, []⟩
def REFSEL_HO_SEED_SEED_VALID : Fld := ⟨1049151, 1, 0, 1, 0, 1, .rws, .const 0, .c, []⟩
-- REFSEL_HIST (03_reference_and_clocks.md)
def REFSEL_HIST_USABLE : Fld := ⟨1049152, 13, 0, 1, 0, 1, .ro, .const 0, .c, []⟩
def REFSEL_HIST_AVG_VALID : Fld := ⟨1049165, 1, 0, 1, 0, 1, .ro, .const 0, .c, []⟩
-- REFSEL_CTL_VAL (03_reference_and_clocks.md)
def REFSEL_CTL_VAL_LO : Fld := ⟨1049216, 32, 0, 1, 0, 1, .ro, .const 0, .c, []⟩
def REFSEL_CTL_VAL_HI : Fld := ⟨1049248, 32, 0, 1, 0, 1, .ro, .const 0, .c, []⟩
-- REFSEL_BUILDOUT (03_reference_and_clocks.md)
def REFSEL_BUILDOUT_LO : Fld := ⟨1049280, 32, 0, 1, 0, 1, .ro, .const 0, .c, []⟩
def REFSEL_BUILDOUT_HI : Fld := ⟨1049312, 32, 0, 1, 0, 1, .ro, .const 0, .c, []⟩
-- REFSEL_LOCOSC (03_reference_and_clocks.md)
def REFSEL_LOCOSC_LOCOSC_FREQ : Fld := ⟨1049344, 26, 0, 1, 0, 1, .rws, .const 10000000, .c, [(10000000, 50000000)]⟩
def REFSEL_LOCOSC_LOCOSC_ACC : Fld := ⟨1049370, 6, 0, 1, 0, 1, .rws, .const 2, .c, []⟩
-- REFSEL_PTP_VALID (03_reference_and_clocks.md)
def REFSEL_PTP_VALID_PTP_VALID : Fld := ⟨1049376, 1, 0, 1, 0, 1, .rw, .const 0, .c, []⟩
-- REFSEL_CAND (03_reference_and_clocks.md)
def REFSEL_CAND_EN : Fld := ⟨1050624, 1, 256, 8, 0, 1, .rws, .const 0, .c, []⟩
def REFSEL_CAND_PRIO : Fld := ⟨1050625, 4, 256, 8, 0, 1, .rws, .const 0, .c, []⟩
def REFSEL_CAND_TYPE : Fld := ⟨1050629, 3, 256, 8, 0, 1, .rws, .const 0, .c, [(0, 3)]⟩
def REFSEL_CAND_RATE : Fld := ⟨1050632, 4, 256, 8, 0, 1, .rws, .const 0, .c, [(0, 10)]⟩
def REFSEL_CAND_POL : Fld := ⟨1050636, 1, 256, 8, 0, 1, .rws, .const 0, .c, []⟩
def REFSEL_CAND_QUAL : Fld := ⟨1050640, 8, 256, 8, 0, 1, .rws, .const 10, .c, [(1, 255)]⟩
def REFSEL_CAND_TOL : Fld := ⟨1050656, 14, 256, 8, 0, 1, .rws, .const 1000, .c, [(1, 16383)]⟩
def REFSEL_CAND_DELAY : Fld := ⟨1050688, 32, 256, 8, 0, 1, .rws, .const 0, .c, []⟩
def REFSEL_CAND_SRC : Fld := ⟨1050720, 13, 256, 8, 0, 1, .rws, .const 0, .c, [(0, 4607)]⟩
def REFSEL_CAND_STATE : Fld := ⟨1050752, 3, 256, 8, 0, 1, .ro, .const 0, .c, []⟩
def REFSEL_CAND_IS_SEL : Fld := ⟨1050755, 1, 256, 8, 0, 1, .ro, .const 0, .c, []⟩
def REFSEL_CAND_DRIFT_PCT : Fld := ⟨1050760, 8, 256, 8, 0, 1, .ro, .const 0, .c, []⟩
def REFSEL_CAND_QUAL_LEFT : Fld := ⟨1050768, 8, 256, 8, 0, 1, .ro, .const 0, .c, []⟩
def REFSEL_CAND_OFFSET : Fld := ⟨1050784, 32, 256, 8, 0, 1, .ro, .const 0, .c, []⟩
def REFSEL_CAND_PHASE : Fld := ⟨1050816, 32, 256, 8, 0, 1, .ro, .const 0, .c, []⟩
def REFSEL_CAND_GLITCH_CNT : Fld := ⟨1050848, 16, 256, 8, 0, 1, .rc, .const 0, .c, []⟩
def REFSEL_CAND_RESYNC_CNT : Fld := ⟨1050864, 8, 256, 8, 0, 1, .rc, .const 0, .c, []⟩
def REFSEL_CAND_STOP_CNT : Fld := ⟨1050872, 8, 256, 8, 0, 1, .rc, .const 0, .c, []⟩
-- SYNTH_CTRL (03_reference_and_clocks.md)
def SYNTH_CTRL_DITHER_EN : Fld := ⟨1572864, 1, 256, 16, 0, 1, .rws, .const 1, .c, []⟩
def SYNTH_CTRL_SEED_LOAD : Fld := ⟨1572865, 1, 256, 16, 0, 1, .wo, .const 0, .c, []⟩
def SYNTH_CTRL_DITHER_SEED : Fld := ⟨1572880, 16, 256, 16, 0, 1, .rws, .const 23100, .c, [(1, 65535)]⟩
-- SYNTH_STATUS (03_reference_and_clocks.md)
def SYNTH_STATUS_LOCKED : Fld := ⟨1572896, 1, 256, 16, 0, 1, .ro, .const 0, .c, []⟩
def SYNTH_STATUS_SERVING : Fld := ⟨1572897, 1, 256, 16, 0, 1, .ro, .const 0, .c, []⟩
def SYNTH_STATUS_WARM : Fld := ⟨1572898, 1, 256, 16, 0, 1, .ro, .const 0, .c, []⟩
def SYNTH_STATUS_RETIRED : Fld := ⟨1572899, 1, 256, 16, 0, 1, .rws, .const 0, .c, []⟩
def SYNTH_STATUS_FAIL_CNT : Fld := ⟨1572904, 2, 256, 16, 0, 1, .rws, .const 0, .c, []⟩
def SYNTH_STATUS_FREQ_ERR : Fld := ⟨1572912, 16, 256, 16, 0, 1, .ro, .const 0, .c, []⟩
-- SYNTH_DOMAIN (03_reference_and_clocks.md)
def SYNTH_DOMAIN_SOURCE : Fld := ⟨1581056, 4, 32, 13, 0, 1, .ro, .tbl [0, 1, 2, 3, 4, 5, 6, 7, 8, 9, 10, 11, 12], .c, []⟩
def SYNTH_DOMAIN_SPARE : Fld := ⟨1581060, 4, 32, 13, 0, 1, .ro, .tbl [13, 13, 13, 14, 15, 15, 15, 15, 15, 15, 15, 12, 11], .c, []⟩
def SYNTH_DOMAIN_UNPROTECTED : Fld := ⟨1581064, 1, 32, 13, 0, 1, .ro, .tbl [0, 0, 0, 0, 0, 1, 1, 1, 1, 1, 1, 0, 0], .c, []⟩
def SYNTH_DOMAIN_MOVES : Fld := ⟨1581072, 16, 32, 13, 0, 1, .ro, .const 0, .c, []⟩
-- REFOUT_CFG (03_reference_and_clocks.md)
def REFOUT_CFG_EN : Fld := ⟨1589248, 1, 128, 4, 0, 1, .rws, .const 0, .c, []⟩
def REFOUT_CFG_TYPE : Fld := ⟨1589249, 3, 128, 4, 0, 1, .rws, .const 0, .c, [(0, 4)]⟩
def REFOUT_CFG_RASTER : Fld := ⟨1589252, 3, 128, 4, 0, 1, .rws, .const 0, .c, []⟩
def REFOUT_CFG_POL : Fld := ⟨1589255, 1, 128, 4, 0, 1, .rws, .const 0, .c, []⟩
def REFOUT_CFG_WIDTH : Fld := ⟨1589256, 8, 128, 4, 0, 1, .rws, .const 10, .c, [(1, 255)]⟩
def REFOUT_CFG_FREQ : Fld := ⟨1589280, 28, 128, 4, 0, 1, .rws, .const 0, .c, [(1, 250000000)]⟩
def REFOUT_CFG_PHASE : Fld := ⟨1589312, 32, 128, 4, 0, 1, .rws, .const 0, .c, []⟩
def REFOUT_CFG_RUNNING : Fld := ⟨1589344, 1, 128, 4, 0, 1, .ro, .const 0, .c, []⟩
def REFOUT_CFG_STOPPED_FAULT : Fld := ⟨1589345, 1, 128, 4, 0, 1, .w1c, .const 0, .c, []⟩
-- XPT_EVENT (05_alignment_and_crosspoint.md)
def XPT_EVENT_COMMIT_DONE : Fld := ⟨2097184, 1, 0, 1, 0, 1, .w1c, .const 0, .c, []⟩
def XPT_EVENT_COMMIT_REFUSED : Fld := ⟨2097185, 1, 0, 1, 0, 1, .w1c, .const 0, .c, []⟩
def XPT_EVENT_STAGE_REFUSED : Fld := ⟨2097186, 1, 0, 1, 0, 1, .w1c, .const 0, .c, []⟩
def XPT_EVENT_LOCK_REFUSED : Fld := ⟨2097187, 1, 0, 1, 0, 1, .w1c, .const 0, .c, []⟩
def XPT_EVENT_PSUB_STEP : Fld := ⟨2097188, 1, 0, 1, 0, 1, .w1c, .const 0, .c, []⟩
def XPT_EVENT_PSUB_REFUSED : Fld := ⟨2097189, 1, 0, 1, 0, 1, .w1c, .const 0, .c, []⟩
def XPT_EVENT_SLIP : Fld := ⟨2097190, 1, 0, 1, 0, 1, .w1c, .const 0, .c, []⟩
-- XPT_ACTIVE_GEN (05_alignment_and_crosspoint.md)
def XPT_ACTIVE_GEN_GEN : Fld := ⟨2097216, 32, 0, 1, 0, 1, .rws, .const 0, .c, []⟩
-- XPT_COMMIT_CTRL (05_alignment_and_crosspoint.md)
def XPT_COMMIT_CTRL_GO : Fld := ⟨2097280, 1, 0, 1, 0, 1, .wo, .const 0, .c, []⟩
def XPT_COMMIT_CTRL_DISCARD : Fld := ⟨2097281, 1, 0, 1, 0, 1, .wo, .const 0, .c, []⟩
def XPT_COMMIT_CTRL_RASTER : Fld := ⟨2097284, 3, 0, 1, 0, 1, .rw, .const 0, .c, []⟩
def XPT_COMMIT_CTRL_STYLE : Fld := ⟨2097287, 1, 0, 1, 0, 1, .rw, .const 0, .c, []⟩
-- XPT_COMMIT_TGT (05_alignment_and_crosspoint.md)
def XPT_COMMIT_TGT_FRAME_LO : Fld := ⟨2097312, 32, 0, 1, 0, 1, .rw, .const 0, .c, []⟩
def XPT_COMMIT_TGT_FRAME_HI : Fld := ⟨2097344, 32, 0, 1, 0, 1, .rw, .const 0, .c, []⟩
def XPT_COMMIT_TGT_LINE : Fld := ⟨2097376, 16, 0, 1, 0, 1, .rw, .const 0, .c, []⟩
-- XPT_COMMIT_STATUS (05_alignment_and_crosspoint.md)
def XPT_COMMIT_STATUS_COMMIT_ID : Fld := ⟨2097408, 16, 0, 1, 0, 1, .ro, .const 0, .c, []⟩
def XPT_COMMIT_STATUS_STATE : Fld := ⟨2097424, 3, 0, 1, 0, 1, .ro, .const 0, .c, []⟩
def XPT_COMMIT_STATUS_RESULT : Fld := ⟨2097432, 8, 0, 1, 0, 1, .ro, .const 0, .c, []⟩
def XPT_COMMIT_STATUS_BAD_DEST : Fld := ⟨2097440, 13, 0, 1, 0, 1, .ro, .const 0, .c, []⟩
def XPT_COMMIT_STATUS_RASTERS : Fld := ⟨2097456, 8, 0, 1, 0, 1, .ro, .const 0, .c, []⟩
def XPT_COMMIT_STATUS_APPLIED : Fld := ⟨2097464, 8, 0, 1, 0, 1, .ro, .const 0, .c, []⟩
-- XPT_LOCK (05_alignment_and_crosspoint.md)
def XPT_LOCK_DEST : Fld := ⟨2097536, 13, 0, 1, 0, 1, .rw, .const 0, .c, []⟩
def XPT_LOCK_WIDTH : Fld := ⟨2097552, 2, 0, 1, 0, 1, .rw, .const 0, .c, []⟩
def XPT_LOCK_LOCK : Fld := ⟨2097554, 1, 0, 1, 0, 1, .rw, .const 0, .c, []⟩
def XPT_LOCK_GO : Fld := ⟨2097567, 1, 0, 1, 0, 1, .wo, .const 0, .c, []⟩
-- XPT_COMMIT_FRAME (05_alignment_and_crosspoint.md)
def XPT_COMMIT_FRAME_FRAME_LO : Fld := ⟨2097664, 32, 64, 8, 0, 1, .ro, .const 0, .c, []⟩
def XPT_COMMIT_FRAME_FRAME_HI : Fld := ⟨2097696, 32, 64, 8, 0, 1, .ro, .const 0, .c, []⟩
-- XPT_PLANE_MAP (05_alignment_and_crosspoint.md)
def XPT_PLANE_MAP_PHYS : Fld := ⟨2099200, 4, 4, 8, 0, 1, .ro, .plus 0, .c, []⟩
-- XPT_PLANE_STATUS (05_alignment_and_crosspoint.md)
def XPT_PLANE_STATUS_STATE : Fld := ⟨2099328, 3, 32, 9, 0, 1, .ro, .tbl [0, 0, 0, 0, 0, 0, 0, 0, 1], .c, []⟩
def XPT_PLANE_STATUS_ERR_CNT : Fld := ⟨2099344, 16, 32, 9, 0, 1, .rc, .const 0, .c, []⟩
-- XPT_PSUB_CTRL (05_alignment_and_crosspoint.md)
def XPT_PSUB_CTRL_START : Fld := ⟨2099712, 1, 0, 1, 0, 1, .wo, .const 0, .c, []⟩
def XPT_PSUB_CTRL_ABORT : Fld := ⟨2099713, 1, 0, 1, 0, 1, .wo, .const 0, .c, []⟩
def XPT_PSUB_CTRL_LOGICAL : Fld := ⟨2099716, 3, 0, 1, 0, 1, .rw, .const 0, .c, []⟩
def XPT_PSUB_CTRL_GRANT : Fld := ⟨2099728, 16, 0, 1, 0, 1, .rw, .const 0, .c, []⟩
-- XPT_PSUB_JOURNAL (05_alignment_and_crosspoint.md)
def XPT_PSUB_JOURNAL_STEP : Fld := ⟨2099744, 3, 0, 1, 0, 1, .rws, .const 0, .c, [(0, 6)]⟩
def XPT_PSUB_JOURNAL_LOGICAL : Fld := ⟨2099748, 3, 0, 1, 0, 1, .rws, .const 0, .c, []⟩
def XPT_PSUB_JOURNAL_OLD : Fld := ⟨2099752, 4, 0, 1, 0, 1, .rws, .const 0, .c, []⟩
def XPT_PSUB_JOURNAL_SPARE : Fld := ⟨2099756, 4, 0, 1, 0, 1, .rws, .const 0, .c, []⟩
def XPT_PSUB_JOURNAL_RASTERS_DONE : Fld := ⟨2099760, 8, 0, 1, 0, 1, .rws, .const 0, .c, []⟩
def XPT_PSUB_JOURNAL_REASON : Fld := ⟨2099768, 2, 0, 1, 0, 1, .rws, .const 0, .c, [(0, 2)]⟩
def XPT_PSUB_JOURNAL_SW_FRAME_LO : Fld := ⟨2099776, 32, 0, 1, 0, 1, .rws, .const 0, .c, []⟩
def XPT_PSUB_JOURNAL_SW_FRAME_HI : Fld := ⟨2099808, 32, 0, 1, 0, 1, .rws, .const 0, .c, []⟩
def XPT_PSUB_JOURNAL_FRAMES_DONE : Fld := ⟨2099840, 7, 0, 1, 0, 1, .ro, .const 0, .c, []⟩
def XPT_PSUB_JOURNAL_MISMATCH_CNT : Fld := ⟨2099856, 16, 0, 1, 0, 1, .ro, .const 0, .c, []⟩
-- XPT_GEN_CFG (05_alignment_and_crosspoint.md)
def XPT_GEN_CFG_PATTERN : Fld := ⟨2105344, 4, 64, 64, 0, 1, .rw, .const 0, .c, [(0, 5)]⟩
def XPT_GEN_CFG_Y : Fld := ⟨2105376, 10, 64, 64, 0, 1, .rw, .const 0, .c, [(4, 1019)]⟩
def XPT_GEN_CFG_CB : Fld := ⟨2105386, 10, 64, 64, 0, 1, .rw, .const 0, .c, [(4, 1019)]⟩
def XPT_GEN_CFG_CR : Fld := ⟨2105396, 10, 64, 64, 0, 1, .rw, .const 0, .c, [(4, 1019)]⟩
-- XPT_DEST_STATUS (05_alignment_and_crosspoint.md)
def XPT_DEST_STATUS_LIVE : Fld := ⟨2359296, 1, 32, 6336, 0, 1, .ro, .const 0, .c, []⟩
def XPT_DEST_STATUS_SUBST : Fld := ⟨2359297, 1, 32, 6336, 0, 1, .ro, .const 0, .c, []⟩
def XPT_DEST_STATUS_UNCLEAN : Fld := ⟨2359298, 1, 32, 6336, 0, 1, .ro, .const 0, .c, []⟩
def XPT_DEST_STATUS_FMT_CONFLICT : Fld := ⟨2359299, 1, 32, 6336, 0, 1, .ro, .const 0, .c, []⟩
def XPT_DEST_STATUS_GROUP_SPLIT : Fld := ⟨2359300, 1, 32, 6336, 0, 1, .ro, .const 0, .c, []⟩
def XPT_DEST_STATUS_LOCKED : Fld := ⟨2359301, 1, 32, 6336, 0, 1, .ro, .const 0, .c, []⟩
def XPT_DEST_STATUS_SLIP_CNT : Fld := ⟨2359304, 8, 32, 6336, 0, 1, .rc, .const 0, .c, []⟩
def XPT_DEST_STATUS_K : Fld := ⟨2359312, 12, 32, 6336, 0, 1, .ro, .const 0, .c, []⟩
-- ALIGN_WIN_CFG (05_alignment_and_crosspoint.md)
def ALIGN_WIN_CFG_ENG_MASK : Fld := ⟨2621440, 5, 0, 1, 0, 1, .rw, .const 0, .c, []⟩
def ALIGN_WIN_CFG_IRQ : Fld := ⟨2621445, 1, 0, 1, 0, 1, .rw, .const 0, .c, []⟩
def ALIGN_WIN_CFG_HYST : Fld := ⟨2621448, 8, 0, 1, 0, 1, .rw, .const 128, .c, [(1, 255)]⟩
-- ALIGN_OOW (05_alignment_and_crosspoint.md)
def ALIGN_OOW_BIT : Fld := ⟨2623488, 1, 1, 1152, 0, 1, .ro, .const 0, .c, []⟩
-- ALIGN_OOW_EV (05_alignment_and_crosspoint.md)
def ALIGN_OOW_EV_BIT : Fld := ⟨2625536, 1, 1, 1152, 0, 1, .w1c, .const 0, .c, []⟩
-- ALIGN_PORT_CFG (04_strands_and_formats.md)
def ALIGN_PORT_CFG_CLASS : Fld := ⟨2818048, 4, 256, 1152, 0, 1, .rw, .const 0, .c, [(0, 7)]⟩
def ALIGN_PORT_CFG_RASTER : Fld := ⟨2818052, 3, 256, 1152, 0, 1, .rw, .const 0, .c, []⟩
def ALIGN_PORT_CFG_PID_REQ : Fld := ⟨2818056, 1, 256, 1152, 0, 1, .rw, .const 0, .c, []⟩
def ALIGN_PORT_CFG_CRC_POL : Fld := ⟨2818057, 1, 256, 1152, 0, 1, .rw, .const 0, .c, []⟩
-- ALIGN_PORT_STATUS (04_strands_and_formats.md)
def ALIGN_PORT_STATUS_LOCK_MASK : Fld := ⟨2818080, 8, 256, 1152, 0, 1, .ro, .const 0, .c, []⟩
def ALIGN_PORT_STATUS_FMT_VALID : Fld := ⟨2818088, 1, 256, 1152, 0, 1, .ro, .const 0, .c, []⟩
def ALIGN_PORT_STATUS_OFS_VALID : Fld := ⟨2818089, 1, 256, 1152, 0, 1, .ro, .const 0, .c, []⟩
def ALIGN_PORT_STATUS_GRP_SKEW : Fld := ⟨2818090, 1, 256, 1152, 0, 1, .ro, .const 0, .c, []⟩
def ALIGN_PORT_STATUS_MISMATCH : Fld := ⟨2818091, 1, 256, 1152, 0, 1, .ro, .const 0, .c, []⟩
def ALIGN_PORT_STATUS_LOSS : Fld := ⟨2818096, 1, 256, 1152, 0, 1, .w1c, .const 0, .c, []⟩
def ALIGN_PORT_STATUS_FMT_CHG : Fld := ⟨2818097, 1, 256, 1152, 0, 1, .w1c, .const 0, .c, []⟩
def ALIGN_PORT_STATUS_MISMATCH_EV : Fld := ⟨2818098, 1, 256, 1152, 0, 1, .w1c, .const 0, .c, []⟩
def ALIGN_PORT_STATUS_PID_MISSING : Fld := ⟨2818099, 1, 256, 1152, 0, 1, .w1c, .const 0, .c, []⟩
def ALIGN_PORT_STATUS_LN_MISMATCH : Fld := ⟨2818100, 1, 256, 1152, 0, 1, .w1c, .const 0, .c, []⟩
def ALIGN_PORT_STATUS_SKEW_EV : Fld := ⟨2818101, 1, 256, 1152, 0, 1, .w1c, .const 0, .c, []⟩
def ALIGN_PORT_STATUS_CFG_REFUSED : Fld := ⟨2818102, 1, 256, 1152, 0, 1, .w1c, .const 0, .c, []⟩
-- ALIGN_PORT_FMT (04_strands_and_formats.md)
def ALIGN_PORT_FMT_STRUCT : Fld := ⟨2818112, 4, 256, 1152, 0, 1, .ro, .const 0, .c, []⟩
def ALIGN_PORT_FMT_RATE : Fld := ⟨2818116, 4, 256, 1152, 0, 1, .ro, .const 0, .c, []⟩
def ALIGN_PORT_FMT_CLASS : Fld := ⟨2818120, 4, 256, 1152, 0, 1, .ro, .const 0, .c, []⟩
def ALIGN_PORT_FMT_PID_SEEN : Fld := ⟨2818124, 1, 256, 1152, 0, 1, .ro, .const 0, .c, []⟩
def ALIGN_PORT_FMT_SQD : Fld := ⟨2818125, 1, 256, 1152, 0, 1, .ro, .const 0, .c, []⟩
def ALIGN_PORT_FMT_F1001 : Fld := ⟨2818126, 1, 256, 1152, 0, 1, .ro, .const 0, .c, []⟩
-- ALIGN_PORT_PID (04_strands_and_formats.md)
def ALIGN_PORT_PID_PID : Fld := ⟨2818144, 32, 256, 1152, 0, 1, .ro, .const 0, .c, []⟩
-- ALIGN_PORT_OFS (04_strands_and_formats.md)
def ALIGN_PORT_OFS_OFFSET : Fld := ⟨2818176, 24, 256, 1152, 0, 1, .ro, .const 0, .c, []⟩
def ALIGN_PORT_OFS_SKEW : Fld := ⟨2818200, 8, 256, 1152, 0, 1, .ro, .const 0, .c, []⟩
-- ALIGN_PORT_ERR (04_strands_and_formats.md)
def ALIGN_PORT_ERR_CRC_ERR : Fld := ⟨2818208, 32, 256, 1152, 0, 1, .rc, .const 0, .c, []⟩
def ALIGN_PORT_ERR_TRS_ERR : Fld := ⟨2818240, 16, 256, 1152, 0, 1, .rc, .const 0, .c, []⟩
def ALIGN_PORT_ERR_LN_ERR : Fld := ⟨2818256, 16, 256, 1152, 0, 1, .rc, .const 0, .c, []⟩
def ALIGN_PORT_ERR_ANC_ERR : Fld := ⟨2818272, 16, 256, 1152, 0, 1, .rc, .const 0, .c, []⟩
def ALIGN_PORT_ERR_AUD_ERR : Fld := ⟨2818288, 16, 256, 1152, 0, 1, .rc, .const 0, .c, []⟩
-- CUE_GLOBAL_CFG (06_cue_engines.md)
def CUE_GLOBAL_CFG_SPARE_NUM : Fld := ⟨3145728, 3, 0, 1, 0, 1, .rw, .const 4, .c, [(0, 4)]⟩
def CUE_GLOBAL_CFG_AUTO_SUBST : Fld := ⟨3145731, 1, 0, 1, 0, 1, .rw, .const 1, .c, []⟩
-- CUE_PMAP (06_cue_engines.md)
def CUE_PMAP_PHYS : Fld := ⟨3145760, 3, 3, 5, 0, 1, .ro, .plus 0, .c, []⟩
def CUE_PMAP_RETIRED : Fld := ⟨3145776, 5, 0, 1, 0, 1, .rws, .const 0, .c, []⟩
-- CUE_SUBST_CTRL (06_cue_engines.md)
def CUE_SUBST_CTRL_START : Fld := ⟨3145792, 1, 0, 1, 0, 1, .wo, .const 0, .c, []⟩
def CUE_SUBST_CTRL_ABORT : Fld := ⟨3145793, 1, 0, 1, 0, 1, .wo, .const 0, .c, []⟩
def CUE_SUBST_CTRL_TARGET : Fld := ⟨3145796, 3, 0, 1, 0, 1, .rw, .const 0, .c, []⟩
def CUE_SUBST_CTRL_AUTO : Fld := ⟨3145799, 1, 0, 1, 0, 1, .ro, .const 0, .c, []⟩
def CUE_SUBST_CTRL_STATE : Fld := ⟨3145800, 3, 0, 1, 0, 1, .ro, .const 0, .w, []⟩
def CUE_SUBST_CTRL_RESULT : Fld := ⟨3145808, 3, 0, 1, 0, 1, .ro, .const 0, .c, []⟩
-- CUE_EVR_BASE (06_cue_engines.md)
def CUE_EVR_BASE_LO : Fld := ⟨3145861, 27, 0, 1, 0, 1, .rw, .const 0, .c, []⟩
def CUE_EVR_BASE_HI : Fld := ⟨3145888, 32, 0, 1, 0, 1, .rw, .const 0, .c, []⟩
-- CUE_EVR_SIZE (06_cue_engines.md)
def CUE_EVR_SIZE_LOG2 : Fld := ⟨3145920, 4, 0, 1, 0, 1, .rw, .const 0, .c, [(4, 12)]⟩
-- CUE_EVR_HEAD (06_cue_engines.md)
def CUE_EVR_HEAD_HEAD : Fld := ⟨3145952, 32, 0, 1, 0, 1, .rw, .const 0, .w, []⟩
-- CUE_EVR_TAIL (06_cue_engines.md)
def CUE_EVR_TAIL_TAIL : Fld := ⟨3145984, 32, 0, 1, 0, 1, .ro, .const 0, .w, []⟩
-- CUE_EVR_STATUS (06_cue_engines.md)
def CUE_EVR_STATUS_EN : Fld := ⟨3146016, 1, 0, 1, 0, 1, .rw, .const 0, .h, []⟩
def CUE_EVR_STATUS_OVF : Fld := ⟨3146017, 1, 0, 1, 0, 1, .w1c, .const 0, .w, []⟩
-- CUE_EVR_LOST (06_cue_engines.md)
def CUE_EVR_LOST_LOST : Fld := ⟨3146048, 32, 0, 1, 0, 1, .rc, .const 0, .c, []⟩
-- CUE_WIN_SEL (06_cue_engines.md)
def CUE_WIN_SEL_ENGINE : Fld := ⟨3146112, 3, 0, 1, 0, 1, .rw, .const 0, .c, []⟩
def CUE_WIN_SEL_TARGET : Fld := ⟨3146116, 2, 0, 1, 0, 1, .rw, .const 0, .c, []⟩
def CUE_WIN_SEL_PAGE : Fld := ⟨3146120, 4, 0, 1, 0, 1, .rw, .const 0, .c, []⟩
-- CUE_CTRL (06_cue_engines.md)
def CUE_CTRL_START : Fld := ⟨3178496, 1, 2048, 5, 0, 1, .wo, .const 0, .w, []⟩
def CUE_CTRL_STOP : Fld := ⟨3178497, 1, 2048, 5, 0, 1, .wo, .const 0, .w, []⟩
def CUE_CTRL_RESUME : Fld := ⟨3178498, 1, 2048, 5, 0, 1, .wo, .const 0, .w, []⟩
def CUE_CTRL_ENG_RESET : Fld := ⟨3178499, 1, 2048, 5, 0, 1, .wo, .const 0, .w, []⟩
def CUE_CTRL_DISCARD_STAGED : Fld := ⟨3178500, 1, 2048, 5, 0, 1, .wo, .const 0, .w, []⟩
def CUE_CTRL_MODE : Fld := ⟨3178504, 1, 2048, 5, 0, 1, .rw, .const 0, .w, []⟩
def CUE_CTRL_STYLE : Fld := ⟨3178505, 1, 2048, 5, 0, 1, .rw, .const 0, .w, []⟩
def CUE_CTRL_AUTH_REQ : Fld := ⟨3178506, 1, 2048, 5, 0, 1, .rws, .const 0, .c, []⟩
def CUE_CTRL_RING_EN : Fld := ⟨3178507, 1, 2048, 5, 0, 1, .rw, .const 0, .h, []⟩
-- CUE_STATUS (06_cue_engines.md)
def CUE_STATUS_STATE : Fld := ⟨3178528, 3, 2048, 5, 0, 1, .ro, .tbl [0, 0, 0, 0, 6], .c, []⟩
def CUE_STATUS_CTRL_REFUSED : Fld := ⟨3178531, 1, 2048, 5, 0, 1, .w1c, .const 0, .c, []⟩
def CUE_STATUS_FAULT_CLASS : Fld := ⟨3178532, 2, 2048, 5, 0, 1, .ro, .const 0, .c, []⟩
def CUE_STATUS_STOP_CAUSE : Fld := ⟨3178534, 2, 2048, 5, 0, 1, .ro, .const 0, .c, []⟩
def CUE_STATUS_FAULT_CODE : Fld := ⟨3178536, 8, 2048, 5, 0, 1, .ro, .const 0, .c, []⟩
def CUE_STATUS_RS : Fld := ⟨3178544, 8, 2048, 5, 0, 1, .ro, .const 0, .c, []⟩
def CUE_STATUS_REFUSED_ANY : Fld := ⟨3178552, 1, 2048, 5, 0, 1, .w1c, .const 0, .c, []⟩
def CUE_STATUS_DIVERGED : Fld := ⟨3178553, 1, 2048, 5, 0, 1, .w1c, .const 0, .c, []⟩
-- CUE_PC (06_cue_engines.md)
def CUE_PC_PC : Fld := ⟨3178560, 17, 2048, 5, 0, 1, .ro, .const 0, .w, []⟩
-- CUE_START_ADDR (06_cue_engines.md)
def CUE_START_ADDR_ADDR : Fld := ⟨3178592, 17, 2048, 5, 0, 1, .rw, .const 0, .c, []⟩
-- CUE_RESTART_ADDR (06_cue_engines.md)
def CUE_RESTART_ADDR_ADDR : Fld := ⟨3178624, 17, 2048, 5, 0, 1, .rw, .const 0, .c, []⟩
-- CUE_WDOG (06_cue_engines.md)
def CUE_WDOG_LIMIT : Fld := ⟨3178656, 32, 2048, 5, 0, 1, .rw, .const 1000000, .c, []⟩
-- CUE_EVPEND (06_cue_engines.md)
def CUE_EVPEND_BITS : Fld := ⟨3178688, 32, 2048, 5, 0, 1, .ro, .const 0, .w, []⟩
-- CUE_FAULT_ADDR (06_cue_engines.md)
def CUE_FAULT_ADDR_ADDR : Fld := ⟨3178720, 32, 2048, 5, 0, 1, .ro, .const 0, .w, []⟩
-- CUE_RING_BASE (06_cue_engines.md)
def CUE_RING_BASE_LO : Fld := ⟨3178763, 21, 2048, 5, 0, 1, .rw, .const 0, .c, []⟩
def CUE_RING_BASE_HI : Fld := ⟨3178784, 32, 2048, 5, 0, 1, .rw, .const 0, .c, []⟩
-- CUE_RING_SIZE (06_cue_engines.md)
def CUE_RING_SIZE_LOG2 : Fld := ⟨3178816, 4, 2048, 5, 0, 1, .rw, .const 0, .c, [(4, 12)]⟩
-- CUE_RING_TAIL (06_cue_engines.md)
def CUE_RING_TAIL_TAIL : Fld := ⟨3178848, 32, 2048, 5, 0, 1, .rw, .const 0, .w, []⟩
-- CUE_RING_HEAD (06_cue_engines.md)
def CUE_RING_HEAD_HEAD : Fld := ⟨3178880, 32, 2048, 5, 0, 1, .ro, .const 0, .w, []⟩
-- CUE_RING_STAT (06_cue_engines.md)
def CUE_RING_STAT_LAST_SEQ : Fld := ⟨3178912, 16, 2048, 5, 0, 1, .ro, .const 0, .w, []⟩
def CUE_RING_STAT_RING_ERR : Fld := ⟨3178928, 1, 2048, 5, 0, 1, .w1c, .const 0, .w, []⟩
def CUE_RING_STAT_AUTH_FAIL : Fld := ⟨3178929, 1, 2048, 5, 0, 1, .w1c, .const 0, .w, []⟩
def CUE_RING_STAT_RECORD_ERR : Fld := ⟨3178930, 1, 2048, 5, 0, 1, .w1c, .const 0, .w, []⟩
-- CUE_AUTH_FAILS (06_cue_engines.md)
def CUE_AUTH_FAILS_COUNT : Fld := ⟨3178944, 32, 2048, 5, 0, 1, .rc, .const 0, .c, []⟩
-- CUE_AUTH_CTR (06_cue_engines.md)
def CUE_AUTH_CTR_LO : Fld := ⟨3179008, 32, 2048, 5, 0, 1, .ro, .const 0, .c, []⟩
def CUE_AUTH_CTR_HI : Fld := ⟨3179040, 32, 2048, 5, 0, 1, .ro, .const 0, .c, []⟩
-- CUE_PMEM_CRC (06_cue_engines.md)
def CUE_PMEM_CRC_CRC : Fld := ⟨3179072, 32, 2048, 5, 0, 1, .ro, .const 0, .c, []⟩
-- CUE_GREG (06_cue_engines.md)
def CUE_GREG_VALUE : Fld := ⟨3179520, 32, 2048, 5, 32, 16, .ro, .const 0, .w, []⟩
-- CUE_KREG (06_cue_engines.md)
def CUE_KREG_W0 : Fld := ⟨3180032, 32, 2048, 5, 128, 4, .ro, .const 0, .w, []⟩
def CUE_KREG_W1 : Fld := ⟨3180064, 32, 2048, 5, 128, 4, .ro, .const 0, .w, []⟩
def CUE_KREG_W2 : Fld := ⟨3180096, 32, 2048, 5, 128, 4, .ro, .const 0, .w, []⟩
def CUE_KREG_W3 : Fld := ⟨3180128, 32, 2048, 5, 128, 4, .ro, .const 0, .w, []⟩
-- SABLE_STATUS (08_frame_store.md)
def SABLE_STATUS_PORTS_UP : Fld := ⟨4194304, 4, 0, 1, 0, 1, .ro, .const 0, .c, []⟩
def SABLE_STATUS_MEM_OK : Fld := ⟨4194308, 1, 0, 1, 0, 1, .ro, .const 0, .c, []⟩
def SABLE_STATUS_OVERLOAD : Fld := ⟨4194309, 1, 0, 1, 0, 1, .ro, .const 0, .c, []⟩
def SABLE_STATUS_DESC_FREE : Fld := ⟨4194320, 15, 0, 1, 0, 1, .ro, .const 0, .c, []⟩
-- SABLE_EVENT (08_frame_store.md)
def SABLE_EVENT_RELEASED : Fld := ⟨4194336, 1, 0, 1, 0, 1, .w1c, .const 0, .c, []⟩
def SABLE_EVENT_STALE_READ : Fld := ⟨4194337, 1, 0, 1, 0, 1, .w1c, .const 0, .c, []⟩
def SABLE_EVENT_LAPSED : Fld := ⟨4194338, 1, 0, 1, 0, 1, .w1c, .const 0, .c, []⟩
def SABLE_EVENT_PLAYER_LOST : Fld := ⟨4194339, 1, 0, 1, 0, 1, .w1c, .const 0, .c, []⟩
def SABLE_EVENT_POISON : Fld := ⟨4194340, 1, 0, 1, 0, 1, .w1c, .const 0, .c, []⟩
def SABLE_EVENT_TIMEOUT : Fld := ⟨4194341, 1, 0, 1, 0, 1, .w1c, .const 0, .c, []⟩
def SABLE_EVENT_PORT_FAIL : Fld := ⟨4194342, 1, 0, 1, 0, 1, .w1c, .const 0, .c, []⟩
def SABLE_EVENT_REGION_MARKED : Fld := ⟨4194343, 1, 0, 1, 0, 1, .w1c, .const 0, .c, []⟩
def SABLE_EVENT_SPARE_LOW : Fld := ⟨4194344, 1, 0, 1, 0, 1, .w1c, .const 0, .c, []⟩
def SABLE_EVENT_DAMAGED : Fld := ⟨4194345, 1, 0, 1, 0, 1, .w1c, .const 0, .c, []⟩
def SABLE_EVENT_HWIN_ERR : Fld := ⟨4194346, 1, 0, 1, 0, 1, .w1c, .const 0, .c, []⟩
def SABLE_EVENT_OVERLOAD : Fld := ⟨4194347, 1, 0, 1, 0, 1, .w1c, .const 0, .c, []⟩
def SABLE_EVENT_REL_OVF : Fld := ⟨4194348, 1, 0, 1, 0, 1, .w1c, .const 0, .c, []⟩
def SABLE_EVENT_LEASE_REFUSED : Fld := ⟨4194349, 1, 0, 1, 0, 1, .w1c, .const 0, .c, []⟩
-- SABLE_PAGES (08_frame_store.md)
def SABLE_PAGES_TOTAL : Fld := ⟨4194368, 20, 0, 1, 0, 1, .ro, .const 0, .c, []⟩
def SABLE_PAGES_FREE : Fld := ⟨4194400, 20, 0, 1, 0, 1, .ro, .const 0, .c, []⟩
-- SABLE_BW (08_frame_store.md)
def SABLE_BW_CAP_WR : Fld := ⟨4194432, 9, 0, 1, 0, 1, .ro, .const 0, .c, []⟩
def SABLE_BW_CAP_RD : Fld := ⟨4194448, 9, 0, 1, 0, 1, .ro, .const 0, .c, []⟩
-- SABLE_BW_MEAS (08_frame_store.md)
def SABLE_BW_MEAS_WR : Fld := ⟨4194464, 9, 0, 1, 0, 1, .ro, .const 0, .c, []⟩
def SABLE_BW_MEAS_RD : Fld := ⟨4194480, 9, 0, 1, 0, 1, .ro, .const 0, .c, []⟩
-- SABLE_HOST_BW (08_frame_store.md)
def SABLE_HOST_BW_HOST_BW : Fld := ⟨4194496, 6, 0, 1, 0, 1, .rw, .const 8, .c, [(1, 32)]⟩
-- SABLE_PLACE_CFG (08_frame_store.md)
def SABLE_PLACE_CFG_CE_THR : Fld := ⟨4194560, 8, 0, 1, 0, 1, .rw, .const 16, .c, [(1, 255)]⟩
def SABLE_PLACE_CFG_CE_WIN : Fld := ⟨4194568, 8, 0, 1, 0, 1, .rw, .const 24, .c, [(1, 255)]⟩
def SABLE_PLACE_CFG_MIG_BW : Fld := ⟨4194576, 4, 0, 1, 0, 1, .rw, .const 2, .c, [(1, 15)]⟩
-- SABLE_PLACE_GRANT (08_frame_store.md)
def SABLE_PLACE_GRANT_GRANT : Fld := ⟨4194592, 16, 0, 1, 0, 1, .rw, .const 0, .c, []⟩
-- SABLE_STALE_CNT (08_frame_store.md)
def SABLE_STALE_CNT_COUNT : Fld := ⟨4194624, 32, 0, 1, 0, 1, .rc, .const 0, .c, []⟩
-- SABLE_LEASE_CTRL (08_frame_store.md)
def SABLE_LEASE_CTRL_HANDLE : Fld := ⟨4194688, 32, 0, 1, 0, 1, .rw, .const 0, .c, []⟩
def SABLE_LEASE_CTRL_FRAME_LO : Fld := ⟨4194720, 32, 0, 1, 0, 1, .rw, .const 0, .c, []⟩
def SABLE_LEASE_CTRL_FRAME_HI : Fld := ⟨4194752, 32, 0, 1, 0, 1, .rw, .const 0, .c, []⟩
def SABLE_LEASE_CTRL_RASTER : Fld := ⟨4194784, 3, 0, 1, 0, 1, .rw, .const 0, .c, []⟩
def SABLE_LEASE_CTRL_GO : Fld := ⟨4194815, 1, 0, 1, 0, 1, .wo, .const 0, .c, []⟩
-- SABLE_REL_QSTAT (08_frame_store.md)
def SABLE_REL_QSTAT_COUNT : Fld := ⟨4194816, 9, 0, 1, 0, 1, .ro, .const 0, .c, []⟩
def SABLE_REL_QSTAT_OVF : Fld := ⟨4194832, 1, 0, 1, 0, 1, .w1c, .const 0, .c, []⟩
-- SABLE_REL_POP (08_frame_store.md)
def SABLE_REL_POP_POP : Fld := ⟨4194848, 1, 0, 1, 0, 1, .wo, .const 0, .c, []⟩
-- SABLE_REL_EVT (08_frame_store.md)
def SABLE_REL_EVT_WORD : Fld := ⟨4194944, 32, 32, 4, 0, 1, .ro, .const 0, .c, []⟩
-- SABLE_HWIN (08_frame_store.md)
def SABLE_HWIN_HANDLE : Fld := ⟨4196352, 32, 128, 16, 0, 1, .rw, .const 0, .c, []⟩
def SABLE_HWIN_BASE_LO : Fld := ⟨4196400, 16, 128, 16, 0, 1, .rw, .const 0, .c, []⟩
def SABLE_HWIN_BASE_HI : Fld := ⟨4196416, 8, 128, 16, 0, 1, .rw, .const 0, .c, []⟩
def SABLE_HWIN_EN : Fld := ⟨4196448, 1, 128, 16, 0, 1, .rw, .const 0, .c, []⟩
def SABLE_HWIN_ERR : Fld := ⟨4196449, 1, 128, 16, 0, 1, .w1c, .const 0, .c, []⟩
-- SABLE_REC (08_frame_store.md)
def SABLE_REC_RUNNING : Fld := ⟨4227072, 1, 256, 128, 0, 1, .ro, .const 0, .c, []⟩
def SABLE_REC_HANDLE : Fld := ⟨4227104, 32, 256, 128, 0, 1, .ro, .const 0, .c, []⟩
def SABLE_REC_WRITE_SEQ : Fld := ⟨4227136, 32, 256, 128, 0, 1, .ro, .const 0, .c, []⟩
def SABLE_REC_FRAMES : Fld := ⟨4227168, 32, 256, 128, 0, 1, .rc, .const 0, .c, []⟩
def SABLE_REC_ABANDONED : Fld := ⟨4227200, 16, 256, 128, 0, 1, .rc, .const 0, .c, []⟩
def SABLE_REC_FMT_SKIP : Fld := ⟨4227216, 16, 256, 128, 0, 1, .rc, .const 0, .c, []⟩
def SABLE_REC_ANC_TRUNC : Fld := ⟨4227232, 32, 256, 128, 0, 1, .rc, .const 0, .c, []⟩
-- SABLE_PLAY (08_frame_store.md)
def SABLE_PLAY_LOSS_MODE : Fld := ⟨4259840, 1, 256, 128, 0, 1, .rw, .const 0, .c, []⟩
def SABLE_PLAY_FRZ_LIM : Fld := ⟨4259848, 8, 256, 128, 0, 1, .rw, .const 2, .c, []⟩
def SABLE_PLAY_HYST : Fld := ⟨4259856, 4, 256, 128, 0, 1, .rw, .const 4, .c, [(1, 15)]⟩
def SABLE_PLAY_RUNNING : Fld := ⟨4259872, 1, 256, 128, 0, 1, .ro, .const 0, .c, []⟩
def SABLE_PLAY_LOST : Fld := ⟨4259873, 1, 256, 128, 0, 1, .ro, .const 0, .c, []⟩
def SABLE_PLAY_LAPSED : Fld := ⟨4259874, 1, 256, 128, 0, 1, .ro, .const 0, .c, []⟩
def SABLE_PLAY_CHASE : Fld := ⟨4259875, 1, 256, 128, 0, 1, .ro, .const 0, .c, []⟩
def SABLE_PLAY_HANDLE : Fld := ⟨4259904, 32, 256, 128, 0, 1, .ro, .const 0, .c, []⟩
def SABLE_PLAY_PLAY_SEQ : Fld := ⟨4259936, 32, 256, 128, 0, 1, .ro, .const 0, .c, []⟩
def SABLE_PLAY_REPEAT : Fld := ⟨4259968, 16, 256, 128, 0, 1, .rc, .const 0, .c, []⟩
def SABLE_PLAY_DROP : Fld := ⟨4259984, 16, 256, 128, 0, 1, .rc, .const 0, .c, []⟩
def SABLE_PLAY_TEAR : Fld := ⟨4260000, 16, 256, 128, 0, 1, .rc, .const 0, .c, []⟩
def SABLE_PLAY_POISON : Fld := ⟨4260016, 16, 256, 128, 0, 1, .rc, .const 0, .c, []⟩
-- OCHRE_EVENT (09_composition_heads.md)
def OCHRE_EVENT_HCOMMIT_DONE : Fld := ⟨5242880, 1, 0, 1, 0, 1, .w1c, .const 0, .c, []⟩
def OCHRE_EVENT_HCOMMIT_REFUSED : Fld := ⟨5242881, 1, 0, 1, 0, 1, .w1c, .const 0, .c, []⟩
def OCHRE_EVENT_STAGE_REFUSED : Fld := ⟨5242882, 1, 0, 1, 0, 1, .w1c, .const 0, .c, []⟩
def OCHRE_EVENT_LAYER_OFF : Fld := ⟨5242883, 1, 0, 1, 0, 1, .w1c, .const 0, .c, []⟩
def OCHRE_EVENT_UNDERRUN : Fld := ⟨5242884, 1, 0, 1, 0, 1, .w1c, .const 0, .c, []⟩
def OCHRE_EVENT_CFG_BAD : Fld := ⟨5242885, 1, 0, 1, 0, 1, .w1c, .const 0, .c, []⟩
def OCHRE_EVENT_LOG_OVF : Fld := ⟨5242886, 1, 0, 1, 0, 1, .w1c, .const 0, .c, []⟩
def OCHRE_EVENT_LUT_REFUSED : Fld := ⟨5242887, 1, 0, 1, 0, 1, .w1c, .const 0, .c, []⟩
-- OCHRE_STATUS (09_composition_heads.md)
def OCHRE_STATUS_SCALERS_FREE : Fld := ⟨5242912, 8, 0, 1, 0, 1, .ro, .const 192, .c, []⟩
def OCHRE_STATUS_HEADS_RUNNING : Fld := ⟨5242928, 7, 0, 1, 0, 1, .ro, .const 0, .c, []⟩
-- OCHRE_FETCH_GRANT (09_composition_heads.md)
def OCHRE_FETCH_GRANT_GRANT : Fld := ⟨5242944, 16, 0, 1, 0, 1, .rw, .const 0, .c, []⟩
def OCHRE_FETCH_GRANT_RESV : Fld := ⟨5242960, 9, 0, 1, 0, 1, .ro, .const 0, .c, []⟩
-- OCHRE_FETCH_USE (09_composition_heads.md)
def OCHRE_FETCH_USE_USE : Fld := ⟨5242976, 20, 0, 1, 0, 1, .ro, .const 0, .c, []⟩
-- OCHRE_FETCH_CFG (09_composition_heads.md)
def OCHRE_FETCH_CFG_WM : Fld := ⟨5243008, 3, 0, 1, 0, 1, .rw, .const 3, .c, [(1, 5)]⟩
-- OCHRE_HCOMMIT_CTRL (09_composition_heads.md)
def OCHRE_HCOMMIT_CTRL_GO : Fld := ⟨5243136, 1, 0, 1, 0, 1, .wo, .const 0, .c, []⟩
def OCHRE_HCOMMIT_CTRL_DISCARD : Fld := ⟨5243137, 1, 0, 1, 0, 1, .wo, .const 0, .c, []⟩
def OCHRE_HCOMMIT_CTRL_VALIDATE : Fld := ⟨5243138, 1, 0, 1, 0, 1, .rw, .const 1, .c, []⟩
def OCHRE_HCOMMIT_CTRL_STYLE : Fld := ⟨5243139, 1, 0, 1, 0, 1, .rw, .const 0, .c, []⟩
def OCHRE_HCOMMIT_CTRL_HEAD : Fld := ⟨5243140, 7, 0, 1, 0, 1, .rw, .const 0, .c, [(0, 95)]⟩
-- OCHRE_HCOMMIT_TGT (09_composition_heads.md)
def OCHRE_HCOMMIT_TGT_FRAME_LO : Fld := ⟨5243168, 32, 0, 1, 0, 1, .rw, .const 0, .c, []⟩
def OCHRE_HCOMMIT_TGT_FRAME_HI : Fld := ⟨5243200, 32, 0, 1, 0, 1, .rw, .const 0, .c, []⟩
-- OCHRE_LOG_QSTAT (09_composition_heads.md)
def OCHRE_LOG_QSTAT_COUNT : Fld := ⟨5243392, 9, 0, 1, 0, 1, .ro, .const 0, .c, []⟩
def OCHRE_LOG_QSTAT_OVF : Fld := ⟨5243408, 1, 0, 1, 0, 1, .w1c, .const 0, .c, []⟩
-- OCHRE_LOG_POP (09_composition_heads.md)
def OCHRE_LOG_POP_POP : Fld := ⟨5243424, 1, 0, 1, 0, 1, .wo, .const 0, .c, []⟩
-- OCHRE_LOG_LOST (09_composition_heads.md)
def OCHRE_LOG_LOST_LOST : Fld := ⟨5243456, 32, 0, 1, 0, 1, .rc, .const 0, .c, []⟩
-- OCHRE_LOG_EVT (09_composition_heads.md)
def OCHRE_LOG_EVT_WORD : Fld := ⟨5243520, 32, 32, 4, 0, 1, .ro, .const 0, .c, []⟩
-- OCHRE_LUT_SEL (09_composition_heads.md)
def OCHRE_LUT_SEL_SLOT : Fld := ⟨5243904, 6, 0, 1, 0, 1, .rw, .const 0, .c, []⟩
def OCHRE_LUT_SEL_KIND : Fld := ⟨5243912, 2, 0, 1, 0, 1, .rw, .const 0, .c, [(0, 2)]⟩
def OCHRE_LUT_SEL_OPEN : Fld := ⟨5243920, 1, 0, 1, 0, 1, .wo, .const 0, .c, []⟩
def OCHRE_LUT_SEL_CLOSE : Fld := ⟨5243921, 1, 0, 1, 0, 1, .wo, .const 0, .c, []⟩
-- OCHRE_LUT_ADDR (09_composition_heads.md)
def OCHRE_LUT_ADDR_ADDR : Fld := ⟨5243936, 17, 0, 1, 0, 1, .ro, .const 0, .c, []⟩
-- OCHRE_LUT_DATA (09_composition_heads.md)
def OCHRE_LUT_DATA_DATA : Fld := ⟨5243968, 32, 0, 1, 0, 1, .wo, .const 0, .c, []⟩
-- OCHRE_LUT_STAT (09_composition_heads.md)
def OCHRE_LUT_STAT_OPEN : Fld := ⟨5244000, 1, 0, 1, 0, 1, .ro, .const 0, .c, []⟩
def OCHRE_LUT_STAT_VALID : Fld := ⟨5244001, 1, 0, 1, 0, 1, .ro, .const 0, .c, []⟩
def OCHRE_LUT_STAT_IN_USE : Fld := ⟨5244002, 1, 0, 1, 0, 1, .ro, .const 0, .c, []⟩
def OCHRE_LUT_STAT_REFUSED : Fld := ⟨5244003, 1, 0, 1, 0, 1, .w1c, .const 0, .c, []⟩
-- OCHRE_LUT_CRC (09_composition_heads.md)
def OCHRE_LUT_CRC_CRC : Fld := ⟨5244032, 32, 0, 1, 0, 1, .ro, .const 0, .c, []⟩
-- OCHRE_HEAD_COMMIT_STATUS (09_composition_heads.md)
def OCHRE_HEAD_COMMIT_STATUS_STATE : Fld := ⟨5275648, 3, 256, 96, 0, 1, .ro, .const 0, .c, []⟩
def OCHRE_HEAD_COMMIT_STATUS_MASTER : Fld := ⟨5275652, 3, 256, 96, 0, 1, .ro, .const 0, .c, []⟩
def OCHRE_HEAD_COMMIT_STATUS_VALIDATED : Fld := ⟨5275655, 1, 256, 96, 0, 1, .ro, .const 0, .c, []⟩
def OCHRE_HEAD_COMMIT_STATUS_RESULT : Fld := ⟨5275656, 8, 256, 96, 0, 1, .ro, .const 0, .c, []⟩
def OCHRE_HEAD_COMMIT_STATUS_DETAIL : Fld := ⟨5275664, 9, 256, 96, 0, 1, .ro, .const 0, .c, []⟩
def OCHRE_HEAD_COMMIT_STATUS_FRAME_LO : Fld := ⟨5275680, 32, 256, 96, 0, 1, .ro, .const 0, .c, []⟩
def OCHRE_HEAD_COMMIT_STATUS_FRAME_HI : Fld := ⟨5275712, 32, 256, 96, 0, 1, .ro, .const 0, .c, []⟩
def OCHRE_HEAD_COMMIT_STATUS_RASTER : Fld := ⟨5275744, 3, 256, 96, 0, 1, .ro, .const 0, .c, []⟩
-- OCHRE_HEAD_STATUS (09_composition_heads.md)
def OCHRE_HEAD_STATUS_RUNNING : Fld := ⟨5308416, 1, 128, 96, 0, 1, .ro, .const 0, .c, []⟩
def OCHRE_HEAD_STATUS_HEAD_CFG_BAD : Fld := ⟨5308417, 1, 128, 96, 0, 1, .ro, .const 0, .c, []⟩
def OCHRE_HEAD_STATUS_CHAINED : Fld := ⟨5308418, 1, 128, 96, 0, 1, .ro, .const 0, .c, []⟩
def OCHRE_HEAD_STATUS_AHEAD : Fld := ⟨5308420, 4, 128, 96, 0, 1, .ro, .const 0, .c, []⟩
def OCHRE_HEAD_STATUS_SHOWN : Fld := ⟨5308424, 8, 128, 96, 0, 1, .ro, .const 0, .c, []⟩
def OCHRE_HEAD_STATUS_PHYS : Fld := ⟨5308432, 7, 128, 96, 0, 1, .ro, .plus 0, .c, []⟩
def OCHRE_HEAD_STATUS_FRAMES : Fld := ⟨5308448, 32, 128, 96, 0, 1, .rc, .const 0, .c, []⟩
-- OCHRE_LAYER_STATUS (09_composition_heads.md)
def OCHRE_LAYER_STATUS_SHOWN : Fld := ⟨5373952, 1, 1024, 96, 128, 8, .ro, .const 0, .c, []⟩
def OCHRE_LAYER_STATUS_CFG_BAD : Fld := ⟨5373953, 1, 1024, 96, 128, 8, .ro, .const 0, .c, []⟩
def OCHRE_LAYER_STATUS_SCALER : Fld := ⟨5373960, 8, 1024, 96, 128, 8, .ro, .const 255, .c, []⟩
def OCHRE_LAYER_STATUS_PLAY_SEQ : Fld := ⟨5373968, 16, 1024, 96, 128, 8, .ro, .const 0, .c, []⟩
def OCHRE_LAYER_STATUS_UNDERRUN : Fld := ⟨5373984, 16, 1024, 96, 128, 8, .rc, .const 0, .c, []⟩
def OCHRE_LAYER_STATUS_OFF_FRAMES : Fld := ⟨5374000, 16, 1024, 96, 128, 8, .rc, .const 0, .c, []⟩
def OCHRE_LAYER_STATUS_REPEAT : Fld := ⟨5374016, 16, 1024, 96, 128, 8, .rc, .const 0, .c, []⟩
def OCHRE_LAYER_STATUS_NOT_WRITTEN : Fld := ⟨5374032, 16, 1024, 96, 128, 8, .rc, .const 0, .c, []⟩
def OCHRE_LAYER_STATUS_CHASE_MISS : Fld := ⟨5374048, 16, 1024, 96, 128, 8, .rc, .const 0, .c, []⟩
def OCHRE_LAYER_STATUS_FMT_REJECT : Fld := ⟨5374064, 16, 1024, 96, 128, 8, .rc, .const 0, .c, []⟩
-- AUDIO_EVENT (10_audio.md)
def AUDIO_EVENT_COMMIT_DONE : Fld := ⟨6291456, 1, 0, 1, 0, 1, .w1c, .const 0, .c, []⟩
def AUDIO_EVENT_COMMIT_REFUSED : Fld := ⟨6291457, 1, 0, 1, 0, 1, .w1c, .const 0, .c, []⟩
def AUDIO_EVENT_STAGE_REFUSED : Fld := ⟨6291458, 1, 0, 1, 0, 1, .w1c, .const 0, .c, []⟩
def AUDIO_EVENT_DLY_REFUSED : Fld := ⟨6291459, 1, 0, 1, 0, 1, .w1c, .const 0, .c, []⟩
def AUDIO_EVENT_DBLK_REFUSED : Fld := ⟨6291460, 1, 0, 1, 0, 1, .w1c, .const 0, .c, []⟩
def AUDIO_EVENT_RATE_CONFLICT : Fld := ⟨6291461, 1, 0, 1, 0, 1, .w1c, .const 0, .c, []⟩
def AUDIO_EVENT_CFG_REFUSED : Fld := ⟨6291462, 1, 0, 1, 0, 1, .w1c, .const 0, .c, []⟩
-- AUDIO_CFG (10_audio.md)
def AUDIO_CFG_ZX_TIMEOUT : Fld := ⟨6291488, 16, 0, 1, 0, 1, .rw, .const 480, .c, [(16, 4800)]⟩
-- AUDIO_ACTIVE_GEN (10_audio.md)
def AUDIO_ACTIVE_GEN_GEN : Fld := ⟨6291520, 32, 0, 1, 0, 1, .rws, .const 0, .c, []⟩
-- AUDIO_COMMIT_CTRL (10_audio.md)
def AUDIO_COMMIT_CTRL_GO : Fld := ⟨6291584, 1, 0, 1, 0, 1, .wo, .const 0, .c, []⟩
def AUDIO_COMMIT_CTRL_DISCARD : Fld := ⟨6291585, 1, 0, 1, 0, 1, .wo, .const 0, .c, []⟩
def AUDIO_COMMIT_CTRL_WITH : Fld := ⟨6291586, 1, 0, 1, 0, 1, .rw, .const 0, .c, []⟩
def AUDIO_COMMIT_CTRL_RASTER : Fld := ⟨6291588, 3, 0, 1, 0, 1, .rw, .const 0, .c, []⟩
def AUDIO_COMMIT_CTRL_STYLE : Fld := ⟨6291591, 1, 0, 1, 0, 1, .rw, .const 0, .c, []⟩
-- AUDIO_COMMIT_TGT (10_audio.md)
def AUDIO_COMMIT_TGT_FRAME_LO : Fld := ⟨6291616, 32, 0, 1, 0, 1, .rw, .const 0, .c, []⟩
def AUDIO_COMMIT_TGT_FRAME_HI : Fld := ⟨6291648, 32, 0, 1, 0, 1, .rw, .const 0, .c, []⟩
def AUDIO_COMMIT_TGT_LINE : Fld := ⟨6291680, 16, 0, 1, 0, 1, .rw, .const 0, .c, []⟩
def AUDIO_COMMIT_TGT_SAMPLE : Fld := ⟨6291696, 16, 0, 1, 0, 1, .rw, .const 0, .c, []⟩
-- AUDIO_COMMIT_STATUS (10_audio.md)
def AUDIO_COMMIT_STATUS_COMMIT_ID : Fld := ⟨6291712, 16, 0, 1, 0, 1, .ro, .const 0, .c, []⟩
def AUDIO_COMMIT_STATUS_STATE : Fld := ⟨6291728, 3, 0, 1, 0, 1, .ro, .const 0, .c, []⟩
def AUDIO_COMMIT_STATUS_RASTER : Fld := ⟨6291732, 3, 0, 1, 0, 1, .ro, .const 0, .c, []⟩
def AUDIO_COMMIT_STATUS_RESULT : Fld := ⟨6291736, 8, 0, 1, 0, 1, .ro, .const 0, .c, []⟩
def AUDIO_COMMIT_STATUS_FRAME_LO : Fld := ⟨6291744, 32, 0, 1, 0, 1, .ro, .const 0, .c, []⟩
def AUDIO_COMMIT_STATUS_FRAME_HI : Fld := ⟨6291776, 32, 0, 1, 0, 1, .ro, .const 0, .c, []⟩
def AUDIO_COMMIT_STATUS_LINE : Fld := ⟨6291808, 16, 0, 1, 0, 1, .ro, .const 0, .c, []⟩
def AUDIO_COMMIT_STATUS_SAMPLE : Fld := ⟨6291824, 16, 0, 1, 0, 1, .ro, .const 0, .c, []⟩
-- AUDIO_DLY_CTRL (10_audio.md)
def AUDIO_DLY_CTRL_DEST : Fld := ⟨6293504, 16, 128, 6, 0, 1, .rw, .const 0, .c, []⟩
def AUDIO_DLY_CTRL_DELAY : Fld := ⟨6293536, 17, 128, 6, 0, 1, .rw, .const 0, .c, []⟩
def AUDIO_DLY_CTRL_BLOCK : Fld := ⟨6293568, 10, 128, 6, 0, 1, .rw, .const 0, .c, []⟩
def AUDIO_DLY_CTRL_LANE : Fld := ⟨6293578, 4, 128, 6, 0, 1, .rw, .const 0, .c, []⟩
def AUDIO_DLY_CTRL_EN : Fld := ⟨6293584, 1, 128, 6, 0, 1, .rw, .const 0, .c, []⟩
def AUDIO_DLY_CTRL_GO : Fld := ⟨6293599, 1, 128, 6, 0, 1, .wo, .const 0, .c, []⟩
-- AUDIO_GEN_CFG (10_audio.md)
def AUDIO_GEN_CFG_FREQ : Fld := ⟨6299648, 15, 32, 64, 0, 1, .rw, .const 1000, .c, [(20, 20000)]⟩
def AUDIO_GEN_CFG_MODE : Fld := ⟨6299663, 1, 32, 64, 0, 1, .rw, .const 0, .c, []⟩
def AUDIO_GEN_CFG_LEVEL : Fld := ⟨6299664, 8, 32, 64, 0, 1, .rw, .const 36, .c, []⟩
-- AUDIO_DBLK (10_audio.md)
def AUDIO_DBLK_HANDLE : Fld := ⟨6324224, 32, 64, 1024, 0, 1, .rw, .const 0, .c, []⟩
def AUDIO_DBLK_EN : Fld := ⟨6324256, 1, 64, 1024, 0, 1, .rw, .const 0, .c, []⟩
def AUDIO_DBLK_BUSY : Fld := ⟨6324258, 1, 64, 1024, 0, 1, .ro, .const 0, .c, []⟩
def AUDIO_DBLK_GRANT : Fld := ⟨6324272, 16, 64, 1024, 0, 1, .rw, .const 0, .c, []⟩
-- AUDIO_PORT (10_audio.md)
def AUDIO_PORT_DEEMB_EN : Fld := ⟨6422528, 1, 128, 1152, 0, 1, .rw, .const 1, .c, []⟩
def AUDIO_PORT_EMB_MODE : Fld := ⟨6422529, 1, 128, 1152, 0, 1, .rw, .const 0, .c, []⟩
def AUDIO_PORT_GRP_EN : Fld := ⟨6422536, 8, 128, 1152, 0, 1, .rw, .const 15, .c, []⟩
def AUDIO_PORT_GRP96 : Fld := ⟨6422544, 8, 128, 1152, 0, 1, .rw, .const 0, .c, []⟩
def AUDIO_PORT_PRESENT : Fld := ⟨6422560, 8, 128, 1152, 0, 1, .ro, .const 0, .c, []⟩
def AUDIO_PORT_RATE96 : Fld := ⟨6422568, 8, 128, 1152, 0, 1, .ro, .const 0, .c, []⟩
def AUDIO_PORT_ASYNC : Fld := ⟨6422576, 8, 128, 1152, 0, 1, .ro, .const 0, .c, []⟩
def AUDIO_PORT_SLIP : Fld := ⟨6422592, 32, 128, 1152, 0, 1, .rc, .const 0, .c, []⟩
def AUDIO_PORT_MISSING : Fld := ⟨6422624, 16, 128, 1152, 0, 1, .rc, .const 0, .c, []⟩
-- TDM_CFG (10_audio.md)
def TDM_CFG_EN : Fld := ⟨6815744, 1, 256, 16, 0, 1, .rw, .const 0, .c, []⟩
def TDM_CFG_MASTER : Fld := ⟨6815745, 1, 256, 16, 0, 1, .rw, .const 0, .c, []⟩
def TDM_CFG_RATE : Fld := ⟨6815746, 2, 256, 16, 0, 1, .rw, .const 0, .c, []⟩
def TDM_CFG_SLOTS : Fld := ⟨6815748, 5, 256, 16, 0, 1, .rw, .const 7, .c, []⟩
def TDM_CFG_WIDTH : Fld := ⟨6815753, 6, 256, 16, 0, 1, .rw, .const 32, .c, [(8, 32)]⟩
def TDM_CFG_OFFSET : Fld := ⟨6815759, 5, 256, 16, 0, 1, .rw, .const 0, .c, []⟩
def TDM_CFG_BCLK_POL : Fld := ⟨6815764, 1, 256, 16, 0, 1, .rw, .const 0, .c, []⟩
def TDM_CFG_FS_POL : Fld := ⟨6815765, 1, 256, 16, 0, 1, .rw, .const 0, .c, []⟩
def TDM_CFG_FS_WIDTH : Fld := ⟨6815766, 2, 256, 16, 0, 1, .rw, .const 0, .c, [(0, 2)]⟩
def TDM_CFG_RASTER : Fld := ⟨6815768, 3, 256, 16, 0, 1, .rw, .const 0, .c, []⟩
-- TDM_STATUS (10_audio.md)
def TDM_STATUS_STATE : Fld := ⟨6815776, 3, 256, 16, 0, 1, .ro, .const 0, .c, []⟩
def TDM_STATUS_CFG_REFUSED : Fld := ⟨6815779, 1, 256, 16, 0, 1, .w1c, .const 0, .c, []⟩
def TDM_STATUS_STOP_EV : Fld := ⟨6815780, 1, 256, 16, 0, 1, .w1c, .const 0, .c, []⟩
def TDM_STATUS_GLITCH_EV : Fld := ⟨6815781, 1, 256, 16, 0, 1, .w1c, .const 0, .c, []⟩
def TDM_STATUS_RATE_EV : Fld := ⟨6815782, 1, 256, 16, 0, 1, .w1c, .const 0, .c, []⟩
def TDM_STATUS_RATE_ERR : Fld := ⟨6815792, 16, 256, 16, 0, 1, .ro, .const 0, .c, []⟩
-- TDM_DIV (10_audio.md)
def TDM_DIV_DIV : Fld := ⟨6815808, 32, 256, 16, 0, 1, .ro, .const 0, .c, []⟩
-- TDM_CNT0 (10_audio.md)
def TDM_CNT0_SLIP : Fld := ⟨6815840, 16, 256, 16, 0, 1, .rc, .const 0, .c, []⟩
def TDM_CNT0_GLITCH : Fld := ⟨6815856, 16, 256, 16, 0, 1, .rc, .const 0, .c, []⟩
-- TDM_CNT1 (10_audio.md)
def TDM_CNT1_STOP : Fld := ⟨6815872, 16, 256, 16, 0, 1, .rc, .const 0, .c, []⟩
def TDM_CNT1_RESYNC : Fld := ⟨6815888, 16, 256, 16, 0, 1, .rc, .const 0, .c, []⟩
-- TDM_LAST_EV (10_audio.md)
def TDM_LAST_EV_FRAME : Fld := ⟨6815904, 32, 256, 16, 0, 1, .ro, .const 0, .c, []⟩
-- FAB_GLOBAL_CTRL (11_tetos_fabric_lanes.md)
def FAB_GLOBAL_CTRL_CARD : Fld := ⟨7340032, 1, 0, 1, 0, 1, .rws, .const 0, .c, []⟩
def FAB_GLOBAL_CTRL_AUTO_REMAP : Fld := ⟨7340033, 1, 0, 1, 0, 1, .rws, .const 1, .c, []⟩
def FAB_GLOBAL_CTRL_FAIL_MS : Fld := ⟨7340040, 8, 0, 1, 0, 1, .rws, .const 1, .c, [(1, 255)]⟩
-- FAB_EVENT (11_tetos_fabric_lanes.md)
def FAB_EVENT_LANE_FAIL : Fld := ⟨7340064, 1, 0, 1, 0, 1, .w1c, .const 0, .c, []⟩
def FAB_EVENT_REMAP_DONE : Fld := ⟨7340065, 1, 0, 1, 0, 1, .w1c, .const 0, .c, []⟩
def FAB_EVENT_REMAP_FAIL : Fld := ⟨7340066, 1, 0, 1, 0, 1, .w1c, .const 0, .c, []⟩
def FAB_EVENT_HOTPLUG : Fld := ⟨7340067, 1, 0, 1, 0, 1, .w1c, .const 0, .c, []⟩
def FAB_EVENT_VIOLATION : Fld := ⟨7340068, 1, 0, 1, 0, 1, .w1c, .const 0, .c, []⟩
def FAB_EVENT_CFG_REFUSED : Fld := ⟨7340069, 1, 0, 1, 0, 1, .w1c, .const 0, .c, []⟩
def FAB_EVENT_WIRING : Fld := ⟨7340070, 1, 0, 1, 0, 1, .w1c, .const 0, .c, []⟩
-- FAB_SPARE_CFG (11_tetos_fabric_lanes.md)
def FAB_SPARE_CFG_PHYS : Fld := ⟨7342080, 8, 32, 8, 0, 1, .ro, .plus 144, .c, []⟩
def FAB_SPARE_CFG_LO : Fld := ⟨7342088, 8, 32, 8, 0, 1, .rws, .const 0, .c, []⟩
def FAB_SPARE_CFG_HI : Fld := ⟨7342096, 8, 32, 8, 0, 1, .rws, .const 0, .c, []⟩
def FAB_SPARE_CFG_VALID : Fld := ⟨7342104, 1, 32, 8, 0, 1, .rws, .const 0, .c, []⟩
def FAB_SPARE_CFG_WARM : Fld := ⟨7342105, 1, 32, 8, 0, 1, .rws, .const 0, .c, []⟩
def FAB_SPARE_CFG_IN_USE : Fld := ⟨7342106, 1, 32, 8, 0, 1, .ro, .const 0, .c, []⟩
-- FAB_REMAP_CTRL (11_tetos_fabric_lanes.md)
def FAB_REMAP_CTRL_START : Fld := ⟨7344128, 1, 0, 1, 0, 1, .wo, .const 0, .c, []⟩
def FAB_REMAP_CTRL_ABORT : Fld := ⟨7344129, 1, 0, 1, 0, 1, .wo, .const 0, .c, []⟩
def FAB_REMAP_CTRL_HITLESS : Fld := ⟨7344130, 1, 0, 1, 0, 1, .rw, .const 1, .c, []⟩
def FAB_REMAP_CTRL_RETIRE : Fld := ⟨7344131, 1, 0, 1, 0, 1, .rw, .const 0, .c, []⟩
def FAB_REMAP_CTRL_LOGICAL : Fld := ⟨7344136, 8, 0, 1, 0, 1, .rw, .const 0, .c, [(0, 143)]⟩
def FAB_REMAP_CTRL_ROLE : Fld := ⟨7344144, 3, 0, 1, 0, 1, .rw, .const 0, .c, []⟩
-- FAB_REMAP_STATUS (11_tetos_fabric_lanes.md)
def FAB_REMAP_STATUS_STATE : Fld := ⟨7344160, 3, 0, 1, 0, 1, .ro, .const 0, .c, []⟩
def FAB_REMAP_STATUS_AUTO : Fld := ⟨7344163, 1, 0, 1, 0, 1, .ro, .const 0, .c, []⟩
def FAB_REMAP_STATUS_LOGICAL : Fld := ⟨7344164, 8, 0, 1, 0, 1, .ro, .const 0, .c, []⟩
def FAB_REMAP_STATUS_OLD : Fld := ⟨7344172, 8, 0, 1, 0, 1, .ro, .const 0, .c, []⟩
def FAB_REMAP_STATUS_NEW : Fld := ⟨7344180, 8, 0, 1, 0, 1, .ro, .const 0, .c, []⟩
def FAB_REMAP_STATUS_REASON : Fld := ⟨7344188, 4, 0, 1, 0, 1, .ro, .const 0, .c, []⟩
-- FAB_LMAP (11_tetos_fabric_lanes.md)
def FAB_LMAP_PHYS : Fld := ⟨7348224, 8, 32, 144, 0, 1, .ro, .plus 0, .c, []⟩
-- FAB_LANE_CTRL (11_tetos_fabric_lanes.md)
def FAB_LANE_CTRL_STATE_REQ : Fld := ⟨7372800, 2, 1024, 152, 0, 1, .rws, .split 144 2 1, .c, [(0, 2)]⟩
def FAB_LANE_CTRL_FORERUNNER : Fld := ⟨7372802, 1, 1024, 152, 0, 1, .rws, .const 0, .c, []⟩
def FAB_LANE_CTRL_CLASS : Fld := ⟨7372803, 2, 1024, 152, 0, 1, .rws, .const 1, .c, [(0, 2)]⟩
def FAB_LANE_CTRL_GRANT : Fld := ⟨7372816, 16, 1024, 152, 0, 1, .rw, .const 0, .c, []⟩
-- FAB_LANE_STATUS (11_tetos_fabric_lanes.md)
def FAB_LANE_STATUS_STATE : Fld := ⟨7372832, 4, 1024, 152, 0, 1, .ro, .const 0, .c, []⟩
def FAB_LANE_STATUS_SIG_DET : Fld := ⟨7372836, 1, 1024, 152, 0, 1, .ro, .const 0, .c, []⟩
def FAB_LANE_STATUS_FRAME_LOCK : Fld := ⟨7372837, 1, 1024, 152, 0, 1, .ro, .const 0, .c, []⟩
def FAB_LANE_STATUS_PARTNER_READY : Fld := ⟨7372838, 1, 1024, 152, 0, 1, .ro, .const 0, .c, []⟩
def FAB_LANE_STATUS_LOGICAL : Fld := ⟨7372840, 8, 1024, 152, 0, 1, .ro, .const 255, .c, []⟩
def FAB_LANE_STATUS_FAIL_EV : Fld := ⟨7372848, 1, 1024, 152, 0, 1, .w1c, .const 0, .c, []⟩
def FAB_LANE_STATUS_HOTPLUG_EV : Fld := ⟨7372849, 1, 1024, 152, 0, 1, .w1c, .const 0, .c, []⟩
def FAB_LANE_STATUS_CFG_REFUSED : Fld := ⟨7372850, 1, 1024, 152, 0, 1, .w1c, .const 0, .c, []⟩
def FAB_LANE_STATUS_WIRING_EV : Fld := ⟨7372851, 1, 1024, 152, 0, 1, .w1c, .const 0, .c, []⟩
-- FAB_LANE_PARTNER (11_tetos_fabric_lanes.md)
def FAB_LANE_PARTNER_CARD_ID : Fld := ⟨7372864, 8, 1024, 152, 0, 1, .ro, .const 0, .c, []⟩
def FAB_LANE_PARTNER_PARTNER_LANE : Fld := ⟨7372872, 8, 1024, 152, 0, 1, .ro, .const 0, .c, []⟩
def FAB_LANE_PARTNER_RX_LOCK : Fld := ⟨7372880, 1, 1024, 152, 0, 1, .ro, .const 0, .c, []⟩
def FAB_LANE_PARTNER_DEGRADED : Fld := ⟨7372881, 1, 1024, 152, 0, 1, .ro, .const 0, .c, []⟩
def FAB_LANE_PARTNER_TEST_REQ : Fld := ⟨7372882, 1, 1024, 152, 0, 1, .ro, .const 0, .c, []⟩
-- FAB_LANE_EQ (11_tetos_fabric_lanes.md)
def FAB_LANE_EQ_TX_PRE : Fld := ⟨7372896, 5, 1024, 152, 0, 1, .ro, .const 0, .c, []⟩
def FAB_LANE_EQ_TX_POST : Fld := ⟨7372901, 5, 1024, 152, 0, 1, .ro, .const 0, .c, []⟩
def FAB_LANE_EQ_CTLE : Fld := ⟨7372906, 4, 1024, 152, 0, 1, .ro, .const 0, .c, []⟩
def FAB_LANE_EQ_ADAPT_FREEZE : Fld := ⟨7372910, 1, 1024, 152, 0, 1, .rw, .const 0, .c, []⟩
-- FAB_LANE_EYE (11_tetos_fabric_lanes.md)
def FAB_LANE_EYE_HEIGHT : Fld := ⟨7372928, 8, 1024, 152, 0, 1, .ro, .const 0, .c, []⟩
def FAB_LANE_EYE_WIDTH : Fld := ⟨7372936, 8, 1024, 152, 0, 1, .ro, .const 0, .c, []⟩
-- FAB_LANE_FEC (11_tetos_fabric_lanes.md)
def FAB_LANE_FEC_CORR_SYM : Fld := ⟨7372960, 32, 1024, 152, 0, 1, .rc, .const 0, .c, []⟩
def FAB_LANE_FEC_UNCORR : Fld := ⟨7372992, 16, 1024, 152, 0, 1, .rc, .const 0, .c, []⟩
def FAB_LANE_FEC_CELL_LOST : Fld := ⟨7373008, 16, 1024, 152, 0, 1, .rc, .const 0, .c, []⟩
-- FAB_LANE_CNT (11_tetos_fabric_lanes.md)
def FAB_LANE_CNT_LOCK_LOSS : Fld := ⟨7373024, 16, 1024, 152, 0, 1, .rc, .const 0, .c, []⟩
def FAB_LANE_CNT_VIOL : Fld := ⟨7373040, 16, 1024, 152, 0, 1, .rc, .const 0, .c, []⟩
-- FAB_LANE_TEST (11_tetos_fabric_lanes.md)
def FAB_LANE_TEST_START : Fld := ⟨7373056, 1, 1024, 152, 0, 1, .wo, .const 0, .c, []⟩
def FAB_LANE_TEST_STOP : Fld := ⟨7373057, 1, 1024, 152, 0, 1, .wo, .const 0, .c, []⟩
def FAB_LANE_TEST_PATTERN : Fld := ⟨7373058, 2, 1024, 152, 0, 1, .rw, .const 0, .c, []⟩
def FAB_LANE_TEST_LOOP : Fld := ⟨7373060, 1, 1024, 152, 0, 1, .rw, .const 0, .c, []⟩
def FAB_LANE_TEST_INJ_SYM : Fld := ⟨7373061, 5, 1024, 152, 0, 1, .rw, .const 0, .c, []⟩
def FAB_LANE_TEST_INJ_BER : Fld := ⟨7373066, 4, 1024, 152, 0, 1, .rw, .const 0, .c, [(0, 0), (3, 12)]⟩
def FAB_LANE_TEST_GRANT : Fld := ⟨7373072, 16, 1024, 152, 0, 1, .rw, .const 0, .c, []⟩
def FAB_LANE_TEST_RUNNING : Fld := ⟨7373088, 1, 1024, 152, 0, 1, .ro, .const 0, .c, []⟩
def FAB_LANE_TEST_SYNC : Fld := ⟨7373089, 1, 1024, 152, 0, 1, .ro, .const 0, .c, []⟩
def FAB_LANE_TEST_ERR_BITS : Fld := ⟨7373120, 32, 1024, 152, 0, 1, .rc, .const 0, .c, []⟩
def FAB_LANE_TEST_BITS_M : Fld := ⟨7373152, 32, 1024, 152, 0, 1, .rc, .const 0, .c, []⟩
-- MEDIA_EVENT (12_media_ports_st2110.md)
def MEDIA_EVENT_FLOW_REFUSED : Fld := ⟨8388608, 1, 0, 1, 0, 1, .w1c, .const 0, .c, []⟩
def MEDIA_EVENT_FLOW_WR_REFUSED : Fld := ⟨8388609, 1, 0, 1, 0, 1, .w1c, .const 0, .c, []⟩
def MEDIA_EVENT_LINK : Fld := ⟨8388610, 1, 0, 1, 0, 1, .w1c, .const 0, .c, []⟩
def MEDIA_EVENT_RX_OVF : Fld := ⟨8388611, 1, 0, 1, 0, 1, .w1c, .const 0, .c, []⟩
def MEDIA_EVENT_VIOLATION : Fld := ⟨8388612, 1, 0, 1, 0, 1, .w1c, .const 0, .c, []⟩
def MEDIA_EVENT_TX_LATE : Fld := ⟨8388613, 1, 0, 1, 0, 1, .w1c, .const 0, .c, []⟩
def MEDIA_EVENT_SEAL_FAIL : Fld := ⟨8388614, 1, 0, 1, 0, 1, .w1c, .const 0, .c, []⟩
def MEDIA_EVENT_RING_ERR : Fld := ⟨8388615, 1, 0, 1, 0, 1, .w1c, .const 0, .c, []⟩
-- MEDIA_FLOW_CTRL (12_media_ports_st2110.md)
def MEDIA_FLOW_CTRL_INDEX : Fld := ⟨8388736, 16, 0, 1, 0, 1, .rw, .const 0, .c, []⟩
def MEDIA_FLOW_CTRL_OP : Fld := ⟨8388752, 3, 0, 1, 0, 1, .rw, .const 0, .c, [(1, 3)]⟩
def MEDIA_FLOW_CTRL_GO : Fld := ⟨8388767, 1, 0, 1, 0, 1, .wo, .const 0, .c, []⟩
-- MEDIA_FLOW_STATUS (12_media_ports_st2110.md)
def MEDIA_FLOW_STATUS_INDEX : Fld := ⟨8388768, 16, 0, 1, 0, 1, .ro, .const 0, .c, []⟩
def MEDIA_FLOW_STATUS_RESULT : Fld := ⟨8388784, 4, 0, 1, 0, 1, .ro, .const 0, .c, []⟩
def MEDIA_FLOW_STATUS_BUSY : Fld := ⟨8388788, 1, 0, 1, 0, 1, .ro, .const 0, .c, []⟩
-- MEDIA_AUD_POOL (12_media_ports_st2110.md)
def MEDIA_AUD_POOL_FREE : Fld := ⟨8388800, 15, 0, 1, 0, 1, .ro, .const 16384, .c, []⟩
-- MEDIA_PORT_CFG (12_media_ports_st2110.md)
def MEDIA_PORT_CFG_SPLIT : Fld := ⟨8390656, 2, 256, 8, 0, 1, .rw, .const 0, .c, [(0, 2)]⟩
def MEDIA_PORT_CFG_PHY : Fld := ⟨8390658, 3, 256, 8, 0, 1, .rw, .const 0, .c, [(0, 3)]⟩
def MEDIA_PORT_CFG_AN_EN : Fld := ⟨8390661, 1, 256, 8, 0, 1, .rw, .const 1, .c, []⟩
def MEDIA_PORT_CFG_LT_EN : Fld := ⟨8390662, 1, 256, 8, 0, 1, .rw, .const 1, .c, []⟩
-- MEDIA_PORT_STATUS (12_media_ports_st2110.md)
def MEDIA_PORT_STATUS_LINK : Fld := ⟨8390688, 4, 256, 8, 0, 1, .ro, .const 0, .c, []⟩
def MEDIA_PORT_STATUS_FEC_DEGRADED : Fld := ⟨8390692, 4, 256, 8, 0, 1, .ro, .const 0, .c, []⟩
-- MEDIA_PORT_FEC (12_media_ports_st2110.md)
def MEDIA_PORT_FEC_CORR : Fld := ⟨8390720, 32, 256, 8, 0, 1, .rc, .const 0, .c, []⟩
def MEDIA_PORT_FEC_UNCORR : Fld := ⟨8390752, 32, 256, 8, 0, 1, .rc, .const 0, .c, []⟩
-- MEDIA_LPORT_CFG (12_media_ports_st2110.md)
def MEDIA_LPORT_CFG_EN : Fld := ⟨8396800, 1, 128, 32, 0, 1, .rw, .const 0, .c, []⟩
def MEDIA_LPORT_CFG_PAUSE_OBEY : Fld := ⟨8396801, 1, 128, 32, 0, 1, .rw, .const 0, .c, []⟩
def MEDIA_LPORT_CFG_HOST_MCAST : Fld := ⟨8396802, 1, 128, 32, 0, 1, .rw, .const 1, .c, []⟩
def MEDIA_LPORT_CFG_HOSTQ_EN : Fld := ⟨8396803, 1, 128, 32, 0, 1, .rw, .const 1, .c, []⟩
def MEDIA_LPORT_CFG_MAXLEN : Fld := ⟨8396804, 14, 128, 32, 0, 1, .rw, .const 9216, .c, [(1518, 9216)]⟩
-- MEDIA_LPORT_STATUS (12_media_ports_st2110.md)
def MEDIA_LPORT_STATUS_LINK : Fld := ⟨8396832, 1, 128, 32, 0, 1, .ro, .const 0, .c, []⟩
def MEDIA_LPORT_STATUS_PAUSED : Fld := ⟨8396833, 1, 128, 32, 0, 1, .ro, .const 0, .c, []⟩
def MEDIA_LPORT_STATUS_CFG_REFUSED : Fld := ⟨8396834, 1, 128, 32, 0, 1, .w1c, .const 0, .c, []⟩
def MEDIA_LPORT_STATUS_LINK_EV : Fld := ⟨8396835, 1, 128, 32, 0, 1, .w1c, .const 0, .c, []⟩
-- MEDIA_MAC (12_media_ports_st2110.md)
def MEDIA_MAC_LO : Fld := ⟨8404992, 32, 512, 32, 64, 8, .rw, .const 0, .c, []⟩
def MEDIA_MAC_HI : Fld := ⟨8405024, 16, 512, 32, 64, 8, .rw, .const 0, .c, []⟩
def MEDIA_MAC_EN : Fld := ⟨8405040, 1, 512, 32, 64, 8, .rw, .const 0, .c, []⟩
-- MEDIA_LPORT_CNT (12_media_ports_st2110.md)
def MEDIA_LPORT_CNT_RX_FRAMES : Fld := ⟨8421376, 32, 512, 32, 0, 1, .rc, .const 0, .c, []⟩
def MEDIA_LPORT_CNT_RX_BYTES_LO : Fld := ⟨8421440, 32, 512, 32, 0, 1, .rc, .const 0, .c, []⟩
def MEDIA_LPORT_CNT_RX_BYTES_HI : Fld := ⟨8421472, 32, 512, 32, 0, 1, .rc, .const 0, .c, []⟩
def MEDIA_LPORT_CNT_TX_FRAMES : Fld := ⟨8421504, 32, 512, 32, 0, 1, .rc, .const 0, .c, []⟩
def MEDIA_LPORT_CNT_TX_BYTES_LO : Fld := ⟨8421568, 32, 512, 32, 0, 1, .rc, .const 0, .c, []⟩
def MEDIA_LPORT_CNT_TX_BYTES_HI : Fld := ⟨8421600, 32, 512, 32, 0, 1, .rc, .const 0, .c, []⟩
def MEDIA_LPORT_CNT_FCS_ERR : Fld := ⟨8421632, 16, 512, 32, 0, 1, .rc, .const 0, .c, []⟩
def MEDIA_LPORT_CNT_LEN_ERR : Fld := ⟨8421648, 16, 512, 32, 0, 1, .rc, .const 0, .c, []⟩
def MEDIA_LPORT_CNT_CSUM_ERR : Fld := ⟨8421664, 16, 512, 32, 0, 1, .rc, .const 0, .c, []⟩
def MEDIA_LPORT_CNT_NOMATCH_MAC : Fld := ⟨8421680, 16, 512, 32, 0, 1, .rc, .const 0, .c, []⟩
def MEDIA_LPORT_CNT_NOMATCH_FLOW : Fld := ⟨8421696, 16, 512, 32, 0, 1, .rc, .const 0, .c, []⟩
def MEDIA_LPORT_CNT_RX_OVF : Fld := ⟨8421712, 16, 512, 32, 0, 1, .rc, .const 0, .c, []⟩
def MEDIA_LPORT_CNT_PAUSE_RX : Fld := ⟨8421728, 16, 512, 32, 0, 1, .rc, .const 0, .c, []⟩
def MEDIA_LPORT_CNT_CTRL_DROP : Fld := ⟨8421744, 16, 512, 32, 0, 1, .rc, .const 0, .c, []⟩
def MEDIA_LPORT_CNT_TX_LATE : Fld := ⟨8421760, 16, 512, 32, 0, 1, .rc, .const 0, .c, []⟩
def MEDIA_LPORT_CNT_HOSTQ_DROP : Fld := ⟨8421776, 16, 512, 32, 0, 1, .rc, .const 0, .c, []⟩
-- MEDIA_RING (12_media_ports_st2110.md)
def MEDIA_RING_RXR_BASE_LO : Fld := ⟨8454149, 27, 512, 8, 0, 1, .rw, .const 0, .c, []⟩
def MEDIA_RING_RXR_BASE_HI : Fld := ⟨8454176, 32, 512, 8, 0, 1, .rw, .const 0, .c, []⟩
def MEDIA_RING_RXR_LOG2 : Fld := ⟨8454208, 4, 512, 8, 0, 1, .rw, .const 0, .c, [(4, 12)]⟩
def MEDIA_RING_RXR_EN : Fld := ⟨8454216, 1, 512, 8, 0, 1, .rw, .const 0, .h, []⟩
def MEDIA_RING_RXR_TAIL : Fld := ⟨8454240, 32, 512, 8, 0, 1, .rw, .const 0, .w, []⟩
def MEDIA_RING_RXR_HEAD : Fld := ⟨8454272, 32, 512, 8, 0, 1, .ro, .const 0, .w, []⟩
def MEDIA_RING_TXR_BASE_LO : Fld := ⟨8454405, 27, 512, 8, 0, 1, .rw, .const 0, .c, []⟩
def MEDIA_RING_TXR_BASE_HI : Fld := ⟨8454432, 32, 512, 8, 0, 1, .rw, .const 0, .c, []⟩
def MEDIA_RING_TXR_LOG2 : Fld := ⟨8454464, 4, 512, 8, 0, 1, .rw, .const 0, .c, [(4, 12)]⟩
def MEDIA_RING_TXR_EN : Fld := ⟨8454472, 1, 512, 8, 0, 1, .rw, .const 0, .h, []⟩
def MEDIA_RING_TXR_TAIL : Fld := ⟨8454496, 32, 512, 8, 0, 1, .rw, .const 0, .w, []⟩
def MEDIA_RING_TXR_HEAD : Fld := ⟨8454528, 32, 512, 8, 0, 1, .ro, .const 0, .w, []⟩
-- MGT_CFG (12_media_ports_st2110.md)
def MGT_CFG_SPEED : Fld := ⟨9437184, 2, 0, 1, 0, 1, .rw, .const 0, .c, [(0, 2)]⟩
def MGT_CFG_EN : Fld := ⟨9437186, 1, 0, 1, 0, 1, .rw, .const 0, .c, []⟩
def MGT_CFG_PAUSE_OBEY : Fld := ⟨9437187, 1, 0, 1, 0, 1, .rw, .const 1, .c, []⟩
def MGT_CFG_HOST_MCAST : Fld := ⟨9437188, 1, 0, 1, 0, 1, .rw, .const 1, .c, []⟩
def MGT_CFG_EEE_EN : Fld := ⟨9437189, 1, 0, 1, 0, 1, .rw, .const 0, .c, []⟩
def MGT_CFG_AN_EN : Fld := ⟨9437190, 1, 0, 1, 0, 1, .rw, .const 1, .c, []⟩
def MGT_CFG_LPI_IDLE : Fld := ⟨9437192, 8, 0, 1, 0, 1, .rw, .const 30, .c, [(1, 255)]⟩
def MGT_CFG_MAXLEN : Fld := ⟨9437200, 14, 0, 1, 0, 1, .rw, .const 9216, .c, [(1518, 9216)]⟩
-- MGT_STATUS (12_media_ports_st2110.md)
def MGT_STATUS_LINK : Fld := ⟨9437216, 1, 0, 1, 0, 1, .ro, .const 0, .c, []⟩
def MGT_STATUS_PAUSED : Fld := ⟨9437217, 1, 0, 1, 0, 1, .ro, .const 0, .c, []⟩
def MGT_STATUS_CFG_REFUSED : Fld := ⟨9437218, 1, 0, 1, 0, 1, .w1c, .const 0, .c, []⟩
def MGT_STATUS_LINK_EV : Fld := ⟨9437219, 1, 0, 1, 0, 1, .w1c, .const 0, .c, []⟩
def MGT_STATUS_LPI : Fld := ⟨9437220, 1, 0, 1, 0, 1, .ro, .const 0, .c, []⟩
-- MGT_MAC (12_media_ports_st2110.md)
def MGT_MAC_LO : Fld := ⟨9439232, 32, 64, 16, 0, 1, .rw, .const 0, .c, []⟩
def MGT_MAC_HI : Fld := ⟨9439264, 16, 64, 16, 0, 1, .rw, .const 0, .c, []⟩
def MGT_MAC_EN : Fld := ⟨9439280, 1, 64, 16, 0, 1, .rw, .const 0, .c, []⟩
-- MGT_CNT (12_media_ports_st2110.md)
def MGT_CNT_RX_FRAMES : Fld := ⟨9441280, 32, 0, 1, 0, 1, .rc, .const 0, .c, []⟩
def MGT_CNT_RX_BYTES_LO : Fld := ⟨9441344, 32, 0, 1, 0, 1, .rc, .const 0, .c, []⟩
def MGT_CNT_RX_BYTES_HI : Fld := ⟨9441376, 32, 0, 1, 0, 1, .rc, .const 0, .c, []⟩
def MGT_CNT_TX_FRAMES : Fld := ⟨9441408, 32, 0, 1, 0, 1, .rc, .const 0, .c, []⟩
def MGT_CNT_TX_BYTES_LO : Fld := ⟨9441472, 32, 0, 1, 0, 1, .rc, .const 0, .c, []⟩
def MGT_CNT_TX_BYTES_HI : Fld := ⟨9441504, 32, 0, 1, 0, 1, .rc, .const 0, .c, []⟩
def MGT_CNT_FCS_ERR : Fld := ⟨9441536, 16, 0, 1, 0, 1, .rc, .const 0, .c, []⟩
def MGT_CNT_LEN_ERR : Fld := ⟨9441552, 16, 0, 1, 0, 1, .rc, .const 0, .c, []⟩
def MGT_CNT_CSUM_ERR : Fld := ⟨9441568, 16, 0, 1, 0, 1, .rc, .const 0, .c, []⟩
def MGT_CNT_NOMATCH_MAC : Fld := ⟨9441584, 16, 0, 1, 0, 1, .rc, .const 0, .c, []⟩
def MGT_CNT_NOMATCH_FLOW : Fld := ⟨9441600, 16, 0, 1, 0, 1, .rc, .const 0, .c, []⟩
def MGT_CNT_RX_OVF : Fld := ⟨9441616, 16, 0, 1, 0, 1, .rc, .const 0, .c, []⟩
def MGT_CNT_PAUSE_RX : Fld := ⟨9441632, 16, 0, 1, 0, 1, .rc, .const 0, .c, []⟩
def MGT_CNT_CTRL_DROP : Fld := ⟨9441648, 16, 0, 1, 0, 1, .rc, .const 0, .c, []⟩
def MGT_CNT_TX_LATE : Fld := ⟨9441664, 16, 0, 1, 0, 1, .rc, .const 0, .c, []⟩
def MGT_CNT_HOSTQ_DROP : Fld := ⟨9441680, 16, 0, 1, 0, 1, .rc, .const 0, .c, []⟩
-- MGT_RING (12_media_ports_st2110.md)
def MGT_RING_RXR_BASE_LO : Fld := ⟨9443333, 27, 0, 1, 0, 1, .rw, .const 0, .c, []⟩
def MGT_RING_RXR_BASE_HI : Fld := ⟨9443360, 32, 0, 1, 0, 1, .rw, .const 0, .c, []⟩
def MGT_RING_RXR_LOG2 : Fld := ⟨9443392, 4, 0, 1, 0, 1, .rw, .const 0, .c, [(4, 12)]⟩
def MGT_RING_RXR_EN : Fld := ⟨9443400, 1, 0, 1, 0, 1, .rw, .const 0, .h, []⟩
def MGT_RING_RXR_TAIL : Fld := ⟨9443424, 32, 0, 1, 0, 1, .rw, .const 0, .w, []⟩
def MGT_RING_RXR_HEAD : Fld := ⟨9443456, 32, 0, 1, 0, 1, .ro, .const 0, .w, []⟩
def MGT_RING_TXR_BASE_LO : Fld := ⟨9443589, 27, 0, 1, 0, 1, .rw, .const 0, .c, []⟩
def MGT_RING_TXR_BASE_HI : Fld := ⟨9443616, 32, 0, 1, 0, 1, .rw, .const 0, .c, []⟩
def MGT_RING_TXR_LOG2 : Fld := ⟨9443648, 4, 0, 1, 0, 1, .rw, .const 0, .c, [(4, 12)]⟩
def MGT_RING_TXR_EN : Fld := ⟨9443656, 1, 0, 1, 0, 1, .rw, .const 0, .h, []⟩
def MGT_RING_TXR_TAIL : Fld := ⟨9443680, 32, 0, 1, 0, 1, .rw, .const 0, .w, []⟩
def MGT_RING_TXR_HEAD : Fld := ⟨9443712, 32, 0, 1, 0, 1, .ro, .const 0, .w, []⟩
-- PTP_CTRL (13_ptp_timestamping.md)
def PTP_CTRL_STEP_GO : Fld := ⟨9961472, 1, 0, 1, 0, 1, .wo, .const 0, .c, []⟩
def PTP_CTRL_REARM : Fld := ⟨9961473, 1, 0, 1, 0, 1, .wo, .const 0, .c, []⟩
-- PTP_STATUS (13_ptp_timestamping.md)
def PTP_STATUS_ARMED : Fld := ⟨9961504, 1, 0, 1, 0, 1, .rws, .const 1, .c, []⟩
def PTP_STATUS_PTP_LOCKED : Fld := ⟨9961505, 1, 0, 1, 0, 1, .ro, .const 0, .c, []⟩
def PTP_STATUS_STEP_GEN : Fld := ⟨9961508, 2, 0, 1, 0, 1, .rws, .const 0, .c, []⟩
def PTP_STATUS_STEP_REFUSED : Fld := ⟨9961512, 1, 0, 1, 0, 1, .w1c, .const 0, .c, []⟩
def PTP_STATUS_REARM_REFUSED : Fld := ⟨9961513, 1, 0, 1, 0, 1, .w1c, .const 0, .c, []⟩
def PTP_STATUS_RATE_REFUSED : Fld := ⟨9961514, 1, 0, 1, 0, 1, .w1c, .const 0, .c, []⟩
-- PTP_ADDEND (13_ptp_timestamping.md)
def PTP_ADDEND_ADD_LO : Fld := ⟨9961536, 32, 0, 1, 0, 1, .rws, .const 0, .c, []⟩
def PTP_ADDEND_ADD_HI : Fld := ⟨9961568, 32, 0, 1, 0, 1, .rws, .const 0, .c, []⟩
-- PTP_STEP (13_ptp_timestamping.md)
def PTP_STEP_NS_LO : Fld := ⟨9961600, 32, 0, 1, 0, 1, .rw, .const 0, .c, []⟩
def PTP_STEP_NS_HI : Fld := ⟨9961632, 32, 0, 1, 0, 1, .rw, .const 0, .c, []⟩
def PTP_STEP_FRAC : Fld := ⟨9961664, 16, 0, 1, 0, 1, .rw, .const 0, .c, []⟩
-- PTP_PORT_CFG (13_ptp_timestamping.md)
def PTP_PORT_CFG_CORR_EN : Fld := ⟨9963520, 1, 32, 33, 0, 1, .rws, .const 1, .c, []⟩
def PTP_PORT_CFG_RXTS_EN : Fld := ⟨9963521, 1, 32, 33, 0, 1, .rws, .const 1, .c, []⟩
def PTP_PORT_CFG_EXTRA_RX : Fld := ⟨9963524, 12, 32, 33, 0, 1, .rws, .const 0, .c, []⟩
def PTP_PORT_CFG_EXTRA_TX : Fld := ⟨9963536, 12, 32, 33, 0, 1, .rws, .const 0, .c, []⟩
-- PTP_TXQ (13_ptp_timestamping.md)
def PTP_TXQ_COUNT : Fld := ⟨9969664, 7, 512, 9, 0, 1, .ro, .const 0, .h, []⟩
def PTP_TXQ_OVF : Fld := ⟨9969680, 1, 512, 9, 0, 1, .w1c, .const 0, .c, []⟩
def PTP_TXQ_IRQ : Fld := ⟨9969681, 1, 512, 9, 0, 1, .rw, .const 0, .c, []⟩
def PTP_TXQ_LOST : Fld := ⟨9969696, 32, 512, 9, 0, 1, .rc, .const 0, .c, []⟩
def PTP_TXQ_POP : Fld := ⟨9969728, 1, 512, 9, 0, 1, .wo, .const 0, .c, []⟩
def PTP_TXQ_ENTRY0 : Fld := ⟨9969792, 32, 512, 9, 0, 1, .ro, .const 0, .h, []⟩
def PTP_TXQ_ENTRY1 : Fld := ⟨9969824, 32, 512, 9, 0, 1, .ro, .const 0, .h, []⟩
def PTP_TXQ_ENTRY2 : Fld := ⟨9969856, 32, 512, 9, 0, 1, .ro, .const 0, .h, []⟩
def PTP_TXQ_ENTRY3 : Fld := ⟨9969888, 32, 512, 9, 0, 1, .ro, .const 0, .h, []⟩
-- COBALT_CTRL (14_twin_operation.md)
def COBALT_CTRL_PAIR_EN : Fld := ⟨10485760, 1, 0, 1, 0, 1, .rws, .const 0, .c, []⟩
def COBALT_CTRL_ROLE_REQ : Fld := ⟨10485761, 2, 0, 1, 0, 1, .rws, .const 0, .c, [(0, 2)]⟩
def COBALT_CTRL_TWINREF_AUTO : Fld := ⟨10485763, 1, 0, 1, 0, 1, .rws, .const 1, .c, []⟩
def COBALT_CTRL_TAKE_ON_SILENCE : Fld := ⟨10485764, 1, 0, 1, 0, 1, .rws, .const 0, .c, []⟩
def COBALT_CTRL_TAKE : Fld := ⟨10485765, 1, 0, 1, 0, 1, .wo, .const 0, .c, []⟩
def COBALT_CTRL_RESYNC : Fld := ⟨10485766, 1, 0, 1, 0, 1, .wo, .const 0, .c, []⟩
def COBALT_CTRL_SWAP_AUTO : Fld := ⟨10485767, 1, 0, 1, 0, 1, .rws, .const 1, .c, []⟩
def COBALT_CTRL_SWAP_PERIOD : Fld := ⟨10485776, 8, 0, 1, 0, 1, .rws, .const 24, .c, [(1, 168)]⟩
-- COBALT_CFG (14_twin_operation.md)
def COBALT_CFG_ACK_TIMEOUT : Fld := ⟨10485792, 8, 0, 1, 0, 1, .rws, .const 20, .c, [(4, 255)]⟩
def COBALT_CFG_SILENT_MS : Fld := ⟨10485800, 8, 0, 1, 0, 1, .rws, .const 2, .c, [(1, 255)]⟩
def COBALT_CFG_ATTR_THR : Fld := ⟨10485808, 8, 0, 1, 0, 1, .rws, .const 4, .c, [(1, 255)]⟩
-- COBALT_STATUS (14_twin_operation.md)
def COBALT_STATUS_PAIR_STATE : Fld := ⟨10485824, 3, 0, 1, 0, 1, .ro, .const 0, .c, []⟩
def COBALT_STATUS_ROLE : Fld := ⟨10485827, 2, 0, 1, 0, 1, .ro, .const 0, .c, []⟩
def COBALT_STATUS_LINK_UP : Fld := ⟨10485829, 1, 0, 1, 0, 1, .ro, .const 0, .c, []⟩
def COBALT_STATUS_PEER_OWN : Fld := ⟨10485830, 1, 0, 1, 0, 1, .ro, .const 0, .c, []⟩
def COBALT_STATUS_LANES_UP : Fld := ⟨10485832, 4, 0, 1, 0, 1, .ro, .const 0, .c, []⟩
def COBALT_STATUS_FAIL_REASON : Fld := ⟨10485836, 4, 0, 1, 0, 1, .ro, .const 0, .c, []⟩
-- COBALT_EVENT (14_twin_operation.md)
def COBALT_EVENT_PAIRED : Fld := ⟨10485856, 1, 0, 1, 0, 1, .w1c, .const 0, .c, []⟩
def COBALT_EVENT_PAIR_FAIL : Fld := ⟨10485857, 1, 0, 1, 0, 1, .w1c, .const 0, .c, []⟩
def COBALT_EVENT_LINK_LOST : Fld := ⟨10485858, 1, 0, 1, 0, 1, .w1c, .const 0, .c, []⟩
def COBALT_EVENT_GAVE_UP : Fld := ⟨10485859, 1, 0, 1, 0, 1, .w1c, .const 0, .c, []⟩
def COBALT_EVENT_TOOK_OWN : Fld := ⟨10485860, 1, 0, 1, 0, 1, .w1c, .const 0, .c, []⟩
def COBALT_EVENT_SWAP_DONE : Fld := ⟨10485861, 1, 0, 1, 0, 1, .w1c, .const 0, .c, []⟩
def COBALT_EVENT_SWAP_REFUSED : Fld := ⟨10485862, 1, 0, 1, 0, 1, .w1c, .const 0, .c, []⟩
def COBALT_EVENT_ACK_TIMEOUT : Fld := ⟨10485863, 1, 0, 1, 0, 1, .w1c, .const 0, .c, []⟩
def COBALT_EVENT_MISMATCH : Fld := ⟨10485864, 1, 0, 1, 0, 1, .w1c, .const 0, .c, []⟩
def COBALT_EVENT_STBY_REFUSED : Fld := ⟨10485865, 1, 0, 1, 0, 1, .w1c, .const 0, .c, []⟩
def COBALT_EVENT_VIOLATION : Fld := ⟨10485866, 1, 0, 1, 0, 1, .w1c, .const 0, .c, []⟩
-- COBALT_SWAP_CTRL (14_twin_operation.md)
def COBALT_SWAP_CTRL_GO : Fld := ⟨10485888, 1, 0, 1, 0, 1, .wo, .const 0, .c, []⟩
def COBALT_SWAP_CTRL_CANCEL : Fld := ⟨10485889, 1, 0, 1, 0, 1, .wo, .const 0, .c, []⟩
def COBALT_SWAP_CTRL_STATE : Fld := ⟨10485904, 3, 0, 1, 0, 1, .ro, .const 0, .c, []⟩
def COBALT_SWAP_CTRL_REASON : Fld := ⟨10485908, 4, 0, 1, 0, 1, .ro, .const 0, .c, []⟩
-- COBALT_SWAP_TGT (14_twin_operation.md)
def COBALT_SWAP_TGT_FRAME_LO : Fld := ⟨10485920, 32, 0, 1, 0, 1, .rw, .const 0, .c, []⟩
def COBALT_SWAP_TGT_FRAME_HI : Fld := ⟨10485952, 32, 0, 1, 0, 1, .rw, .const 0, .c, []⟩
-- COBALT_SWAP_NEXT (14_twin_operation.md)
def COBALT_SWAP_NEXT_FRAME_LO : Fld := ⟨10486016, 32, 0, 1, 0, 1, .ro, .const 0, .c, []⟩
def COBALT_SWAP_NEXT_FRAME_HI : Fld := ⟨10486048, 32, 0, 1, 0, 1, .ro, .const 0, .c, []⟩
-- COBALT_DELAY (14_twin_operation.md)
def COBALT_DELAY_ONE_WAY : Fld := ⟨10486080, 16, 0, 1, 0, 1, .ro, .const 0, .c, []⟩
def COBALT_DELAY_SKEW : Fld := ⟨10486096, 16, 0, 1, 0, 1, .rws, .const 0, .c, []⟩
-- COBALT_DIG_CNT (14_twin_operation.md)
def COBALT_DIG_CNT_MATCH_FRAMES : Fld := ⟨10486144, 32, 0, 1, 0, 1, .rc, .const 0, .c, []⟩
def COBALT_DIG_CNT_ATTR_SELF : Fld := ⟨10486176, 16, 0, 1, 0, 1, .rc, .const 0, .c, []⟩
def COBALT_DIG_CNT_ATTR_PEER : Fld := ⟨10486192, 16, 0, 1, 0, 1, .rc, .const 0, .c, []⟩
def COBALT_DIG_CNT_ATTR_INPUT : Fld := ⟨10486208, 16, 0, 1, 0, 1, .rc, .const 0, .c, []⟩
def COBALT_DIG_CNT_ATTR_UNKNOWN : Fld := ⟨10486224, 16, 0, 1, 0, 1, .rc, .const 0, .c, []⟩
def COBALT_DIG_CNT_MISMATCH_GROUPS : Fld := ⟨10486240, 32, 0, 1, 0, 1, .rc, .const 0, .c, []⟩
-- COBALT_LANE (14_twin_operation.md)
def COBALT_LANE_CLASS : Fld := ⟨10487808, 2, 256, 4, 0, 1, .rws, .const 1, .c, [(0, 2)]⟩
def COBALT_LANE_FRAME_LOCK : Fld := ⟨10487816, 1, 256, 4, 0, 1, .ro, .const 0, .c, []⟩
def COBALT_LANE_STATE : Fld := ⟨10487817, 3, 256, 4, 0, 1, .ro, .const 0, .c, []⟩
def COBALT_LANE_UNCORR : Fld := ⟨10487840, 16, 256, 4, 0, 1, .rc, .const 0, .c, []⟩
def COBALT_LANE_RETX : Fld := ⟨10487856, 16, 256, 4, 0, 1, .rc, .const 0, .c, []⟩
-- ADMIT_CEILING (15_admission_and_power.md)
def ADMIT_CEILING_CEIL : Fld := ⟨11010048, 11, 0, 1, 0, 1, .rws, .const 1120, .c, [(401, 1200)]⟩
-- ADMIT_STATUS (15_admission_and_power.md)
def ADMIT_STATUS_BUDGET : Fld := ⟨11010080, 11, 0, 1, 0, 1, .ro, .const 0, .c, []⟩
def ADMIT_STATUS_OVER_PWR : Fld := ⟨11010091, 1, 0, 1, 0, 1, .ro, .const 0, .c, []⟩
def ADMIT_STATUS_OVER_BW : Fld := ⟨11010092, 1, 0, 1, 0, 1, .ro, .const 0, .c, []⟩
def ADMIT_STATUS_THERM_HOLD : Fld := ⟨11010093, 1, 0, 1, 0, 1, .ro, .const 0, .c, []⟩
def ADMIT_STATUS_TEMP_ALARM : Fld := ⟨11010094, 1, 0, 1, 0, 1, .ro, .const 0, .c, []⟩
def ADMIT_STATUS_REFUSED : Fld := ⟨11010096, 1, 0, 1, 0, 1, .w1c, .const 0, .c, []⟩
def ADMIT_STATUS_TIMEOUT : Fld := ⟨11010097, 1, 0, 1, 0, 1, .w1c, .const 0, .c, []⟩
def ADMIT_STATUS_RECLAIM_REFUSED : Fld := ⟨11010098, 1, 0, 1, 0, 1, .w1c, .const 0, .c, []⟩
def ADMIT_STATUS_AVS_FAULT : Fld := ⟨11010099, 1, 0, 1, 0, 1, .w1c, .const 0, .c, []⟩
def ADMIT_STATUS_WARN_EV : Fld := ⟨11010100, 1, 0, 1, 0, 1, .w1c, .const 0, .c, []⟩
def ADMIT_STATUS_ALARM_EV : Fld := ⟨11010101, 1, 0, 1, 0, 1, .w1c, .const 0, .c, []⟩
-- ADMIT_USE_PWR (15_admission_and_power.md)
def ADMIT_USE_PWR_C : Fld := ⟨11010112, 11, 0, 1, 0, 1, .ro, .const 0, .c, []⟩
def ADMIT_USE_PWR_M : Fld := ⟨11010128, 11, 0, 1, 0, 1, .ro, .const 0, .c, []⟩
-- ADMIT_USE_WR (15_admission_and_power.md)
def ADMIT_USE_WR_CHARGE : Fld := ⟨11010144, 19, 0, 1, 0, 1, .ro, .const 0, .c, []⟩
-- ADMIT_USE_RD (15_admission_and_power.md)
def ADMIT_USE_RD_CHARGE : Fld := ⟨11010176, 19, 0, 1, 0, 1, .ro, .const 0, .c, []⟩
-- ADMIT_USE_PIX (15_admission_and_power.md)
def ADMIT_USE_PIX_CHARGE : Fld := ⟨11010208, 18, 0, 1, 0, 1, .ro, .const 0, .c, []⟩
-- ADMIT_QUEUE (15_admission_and_power.md)
def ADMIT_QUEUE_WAITING : Fld := ⟨11010240, 3, 0, 1, 0, 1, .ro, .const 0, .c, []⟩
-- ADMIT_ASK (15_admission_and_power.md)
def ADMIT_ASK_CLASS : Fld := ⟨11010304, 8, 0, 1, 0, 1, .rw, .const 0, .w, []⟩
def ADMIT_ASK_INSTANCE : Fld := ⟨11010312, 16, 0, 1, 0, 1, .rw, .const 0, .w, []⟩
def ADMIT_ASK_PARAM : Fld := ⟨11010336, 32, 0, 1, 0, 1, .rw, .const 0, .w, []⟩
def ADMIT_ASK_GO : Fld := ⟨11010368, 1, 0, 1, 0, 1, .wo, .const 0, .w, []⟩
def ADMIT_ASK_CANCEL : Fld := ⟨11010369, 1, 0, 1, 0, 1, .wo, .const 0, .w, []⟩
def ADMIT_ASK_WAIT : Fld := ⟨11010370, 1, 0, 1, 0, 1, .rw, .const 0, .w, []⟩
def ADMIT_ASK_TOKEN : Fld := ⟨11010400, 16, 0, 1, 0, 1, .ro, .const 0, .w, []⟩
def ADMIT_ASK_RESULT : Fld := ⟨11010416, 8, 0, 1, 0, 1, .ro, .const 0, .w, []⟩
def ADMIT_ASK_STATE : Fld := ⟨11010424, 3, 0, 1, 0, 1, .ro, .const 0, .w, []⟩
-- ADMIT_GIVE (15_admission_and_power.md)
def ADMIT_GIVE_TOKEN : Fld := ⟨11010432, 16, 0, 1, 0, 1, .rw, .const 0, .c, []⟩
def ADMIT_GIVE_RECLAIM : Fld := ⟨11010448, 1, 0, 1, 0, 1, .rw, .const 0, .c, []⟩
def ADMIT_GIVE_GO : Fld := ⟨11010463, 1, 0, 1, 0, 1, .wo, .const 0, .c, []⟩
def ADMIT_GIVE_RESULT : Fld := ⟨11010464, 8, 0, 1, 0, 1, .ro, .const 0, .c, []⟩
-- ADMIT_THERM_CFG (15_admission_and_power.md)
def ADMIT_THERM_CFG_WARN : Fld := ⟨11010560, 8, 0, 1, 0, 1, .rws, .const 100, .c, []⟩
def ADMIT_THERM_CFG_ALARM : Fld := ⟨11010568, 8, 0, 1, 0, 1, .rws, .const 110, .c, []⟩
def ADMIT_THERM_CFG_HYST : Fld := ⟨11010576, 4, 0, 1, 0, 1, .rws, .const 5, .c, [(1, 15)]⟩
-- ADMIT_TEMP (15_admission_and_power.md)
def ADMIT_TEMP_TJ : Fld := ⟨11010592, 8, 0, 1, 0, 1, .ro, .const 0, .c, []⟩
def ADMIT_TEMP_HOTTEST : Fld := ⟨11010600, 5, 0, 1, 0, 1, .ro, .const 0, .c, []⟩
def ADMIT_TEMP_PEAK : Fld := ⟨11010608, 8, 0, 1, 0, 1, .ro, .const 0, .c, []⟩
-- ADMIT_AVS_CFG (15_admission_and_power.md)
def ADMIT_AVS_CFG_MARGIN : Fld := ⟨11010688, 8, 0, 1, 0, 1, .rws, .const 30, .c, []⟩
def ADMIT_AVS_CFG_SLACK_LO : Fld := ⟨11010696, 8, 0, 1, 0, 1, .rws, .const 20, .c, []⟩
def ADMIT_AVS_CFG_SLACK_HI : Fld := ⟨11010704, 8, 0, 1, 0, 1, .rws, .const 60, .c, []⟩
def ADMIT_AVS_CFG_SLACK_EMER : Fld := ⟨11010712, 8, 0, 1, 0, 1, .rws, .const 8, .c, []⟩
-- ADMIT_AVS_CTRL (15_admission_and_power.md)
def ADMIT_AVS_CTRL_VMAX : Fld := ⟨11010720, 10, 0, 1, 0, 1, .rws, .const 880, .c, []⟩
def ADMIT_AVS_CTRL_FREEZE : Fld := ⟨11010736, 1, 0, 1, 0, 1, .rws, .const 0, .c, []⟩
-- ADMIT_AVS_STATUS (15_admission_and_power.md)
def ADMIT_AVS_STATUS_TARGET : Fld := ⟨11010752, 10, 0, 1, 0, 1, .ro, .const 0, .c, []⟩
def ADMIT_AVS_STATUS_V_FUSE : Fld := ⟨11010762, 10, 0, 1, 0, 1, .ro, .const 0, .c, []⟩
def ADMIT_AVS_STATUS_S_MIN : Fld := ⟨11010772, 8, 0, 1, 0, 1, .ro, .const 0, .c, []⟩
def ADMIT_AVS_STATUS_BUS_OK : Fld := ⟨11010780, 1, 0, 1, 0, 1, .ro, .const 0, .c, []⟩
-- ADMIT_LEDGER (15_admission_and_power.md)
def ADMIT_LEDGER_CLASS : Fld := ⟨11272192, 8, 64, 4096, 0, 1, .ro, .const 0, .c, []⟩
def ADMIT_LEDGER_INSTANCE : Fld := ⟨11272200, 16, 64, 4096, 0, 1, .ro, .const 0, .c, []⟩
def ADMIT_LEDGER_HOLDER : Fld := ⟨11272216, 3, 64, 4096, 0, 1, .ro, .const 0, .c, []⟩
def ADMIT_LEDGER_VALID : Fld := ⟨11272219, 1, 64, 4096, 0, 1, .ro, .const 0, .c, []⟩
def ADMIT_LEDGER_TAG : Fld := ⟨11272220, 4, 64, 4096, 0, 1, .ro, .const 0, .c, []⟩
def ADMIT_LEDGER_PARAM : Fld := ⟨11272224, 32, 64, 4096, 0, 1, .ro, .const 0, .c, []⟩
-- FLT_STATUS (16_faults_wear_spares.md)
def FLT_STATUS_SRC : Fld := ⟨11534336, 1, 1, 49, 0, 1, .w1c, .const 0, .c, []⟩
-- FLT_SEVERE (16_faults_wear_spares.md)
def FLT_SEVERE_SRC : Fld := ⟨11534400, 1, 1, 49, 0, 1, .ro, .const 0, .c, []⟩
-- FLT_MASK (16_faults_wear_spares.md)
def FLT_MASK_SRC : Fld := ⟨11534464, 1, 1, 49, 0, 1, .rws, .const 0, .c, []⟩
-- FLT_CAUSE (16_faults_wear_spares.md)
def FLT_CAUSE_SRC : Fld := ⟨11534528, 1, 1, 49, 0, 1, .ro, .const 0, .c, []⟩
-- FLT_CLR_STATUS (16_faults_wear_spares.md)
def FLT_CLR_STATUS_CLR_FAIL : Fld := ⟨11534592, 1, 0, 1, 0, 1, .w1c, .const 0, .c, []⟩
def FLT_CLR_STATUS_FAIL_SRC : Fld := ⟨11534600, 6, 0, 1, 0, 1, .ro, .const 0, .c, []⟩
-- FLT_CFG (16_faults_wear_spares.md)
def FLT_CFG_HOLD_LIM : Fld := ⟨11534624, 10, 0, 1, 0, 1, .rws, .const 40, .c, [(1, 1000)]⟩
def FLT_CFG_IRQ_ANY : Fld := ⟨11534640, 1, 0, 1, 0, 1, .rws, .const 0, .c, []⟩
-- FLT_VLOG_PTR (16_faults_wear_spares.md)
def FLT_VLOG_PTR_NEXT : Fld := ⟨11534656, 9, 0, 1, 0, 1, .ro, .const 0, .c, []⟩
def FLT_VLOG_PTR_WRAPS : Fld := ⟨11534672, 16, 0, 1, 0, 1, .ro, .const 0, .c, []⟩
-- FLT_SRC_CFG (16_faults_wear_spares.md)
def FLT_SRC_CFG_N : Fld := ⟨11536384, 8, 32, 49, 0, 1, .rws, .tbl [16, 16, 16, 16, 16, 16, 16, 16, 16, 16, 16, 16, 16, 1, 4, 4, 4, 4, 1, 8, 8, 8, 8, 8, 8, 8, 8, 8, 64, 16, 16, 16, 16, 16, 16, 1, 4, 1, 1, 1, 1, 1, 1, 1, 1, 1, 1, 1, 1], .c, [(1, 255)]⟩
def FLT_SRC_CFG_W : Fld := ⟨11536392, 16, 32, 49, 0, 1, .rws, .const 1000, .c, [(1, 65535)]⟩
def FLT_SRC_CFG_ACTION : Fld := ⟨11536408, 3, 32, 49, 0, 1, .rws, .tbl [1, 1, 1, 1, 1, 1, 1, 1, 1, 1, 1, 1, 0, 0, 1, 1, 1, 1, 1, 5, 5, 5, 5, 5, 5, 5, 5, 5, 0, 1, 1, 1, 1, 1, 0, 1, 1, 5, 1, 1, 1, 1, 1, 5, 0, 1, 1, 1, 1], .c, [(0, 5)]⟩
-- FLT_SRC_STAT (16_faults_wear_spares.md)
def FLT_SRC_STAT_COUNT : Fld := ⟨11542528, 32, 128, 49, 0, 1, .rc, .const 0, .c, []⟩
def FLT_SRC_STAT_IN_WIN : Fld := ⟨11542560, 8, 128, 49, 0, 1, .ro, .const 0, .c, []⟩
def FLT_SRC_STAT_PARTNER_ONLY : Fld := ⟨11542568, 1, 128, 49, 0, 1, .ro, .const 0, .c, []⟩
def FLT_SRC_STAT_FIRST_FRAME : Fld := ⟨11542592, 32, 128, 49, 0, 1, .ro, .const 0, .c, []⟩
def FLT_SRC_STAT_LAST_FRAME : Fld := ⟨11542624, 32, 128, 49, 0, 1, .ro, .const 0, .c, []⟩
-- FLT_VLOG (16_faults_wear_spares.md)
def FLT_VLOG_WORD : Fld := ⟨11665408, 32, 256, 512, 32, 8, .ro, .const 0, .c, []⟩
-- WEAR_HOURS (16_faults_wear_spares.md)
def WEAR_HOURS_HOURS : Fld := ⟨12058624, 32, 0, 1, 0, 1, .ro, .const 0, .c, []⟩
-- WEAR_CFG (16_faults_wear_spares.md)
def WEAR_CFG_WEAR_WARN : Fld := ⟨12058656, 8, 0, 1, 0, 1, .rws, .const 24, .c, [(1, 255)]⟩
-- WEAR_HIST_CTRL (16_faults_wear_spares.md)
def WEAR_HIST_CTRL_SAVE : Fld := ⟨12058688, 1, 0, 1, 0, 1, .wo, .const 0, .c, []⟩
def WEAR_HIST_CTRL_RESTORE : Fld := ⟨12058689, 1, 0, 1, 0, 1, .wo, .const 0, .c, []⟩
def WEAR_HIST_CTRL_RESTORED : Fld := ⟨12058690, 1, 0, 1, 0, 1, .ro, .const 0, .c, []⟩
def WEAR_HIST_CTRL_RESTORE_REFUSED : Fld := ⟨12058691, 1, 0, 1, 0, 1, .w1c, .const 0, .c, []⟩
def WEAR_HIST_CTRL_OTP_STEPS : Fld := ⟨12058704, 12, 0, 1, 0, 1, .ro, .const 0, .c, []⟩
-- WEAR_SPARES (16_faults_wear_spares.md)
def WEAR_SPARES_LANES : Fld := ⟨12058752, 4, 0, 1, 0, 1, .ro, .const 8, .c, []⟩
def WEAR_SPARES_PLANE : Fld := ⟨12058756, 1, 0, 1, 0, 1, .ro, .const 1, .c, []⟩
def WEAR_SPARES_ENGINE : Fld := ⟨12058757, 1, 0, 1, 0, 1, .ro, .const 1, .c, []⟩
def WEAR_SPARES_SYNTHS : Fld := ⟨12058758, 2, 0, 1, 0, 1, .ro, .const 3, .c, []⟩
def WEAR_SPARES_HEADS : Fld := ⟨12058760, 3, 0, 1, 0, 1, .ro, .const 4, .c, []⟩
def WEAR_SPARES_RECORDERS : Fld := ⟨12058763, 4, 0, 1, 0, 1, .ro, .const 8, .c, []⟩
def WEAR_SPARES_PLAYERS : Fld := ⟨12058767, 4, 0, 1, 0, 1, .ro, .const 8, .c, []⟩
def WEAR_SPARES_REPAIRS : Fld := ⟨12058784, 10, 0, 1, 0, 1, .ro, .const 512, .c, []⟩
-- WEAR_REPAIR (16_faults_wear_spares.md)
def WEAR_REPAIR_SOFT : Fld := ⟨12058816, 10, 0, 1, 0, 1, .ro, .const 0, .c, []⟩
def WEAR_REPAIR_PROMOTE : Fld := ⟨12058832, 1, 0, 1, 0, 1, .wo, .const 0, .c, []⟩
def WEAR_REPAIR_NO_SPARE : Fld := ⟨12058833, 1, 0, 1, 0, 1, .w1c, .const 0, .c, []⟩
-- WEAR_SUBST_CTRL (16_faults_wear_spares.md)
def WEAR_SUBST_CTRL_START : Fld := ⟨12058880, 1, 0, 1, 0, 1, .wo, .const 0, .c, []⟩
def WEAR_SUBST_CTRL_ABORT : Fld := ⟨12058881, 1, 0, 1, 0, 1, .wo, .const 0, .c, []⟩
def WEAR_SUBST_CTRL_KIND : Fld := ⟨12058882, 2, 0, 1, 0, 1, .rw, .const 0, .c, [(0, 2)]⟩
def WEAR_SUBST_CTRL_TEST : Fld := ⟨12058884, 1, 0, 1, 0, 1, .rw, .const 0, .c, []⟩
def WEAR_SUBST_CTRL_TARGET : Fld := ⟨12058885, 7, 0, 1, 0, 1, .rw, .const 0, .c, []⟩
def WEAR_SUBST_CTRL_SPARE : Fld := ⟨12058892, 3, 0, 1, 0, 1, .rw, .const 0, .c, []⟩
def WEAR_SUBST_CTRL_GRANT : Fld := ⟨12058896, 16, 0, 1, 0, 1, .rw, .const 0, .c, []⟩
-- WEAR_SUBST_STATUS (16_faults_wear_spares.md)
def WEAR_SUBST_STATUS_STATE : Fld := ⟨12058912, 3, 0, 1, 0, 1, .ro, .const 0, .c, []⟩
def WEAR_SUBST_STATUS_PASS : Fld := ⟨12058915, 1, 0, 1, 0, 1, .ro, .const 0, .c, []⟩
def WEAR_SUBST_STATUS_SCALER_UNTESTED : Fld := ⟨12058916, 1, 0, 1, 0, 1, .ro, .const 0, .c, []⟩
def WEAR_SUBST_STATUS_MISMATCH : Fld := ⟨12058920, 8, 0, 1, 0, 1, .ro, .const 0, .c, []⟩
-- WEAR_SCRUB (16_faults_wear_spares.md)
def WEAR_SCRUB_START : Fld := ⟨12059136, 1, 64, 4, 0, 1, .wo, .const 0, .c, []⟩
def WEAR_SCRUB_STOP : Fld := ⟨12059137, 1, 64, 4, 0, 1, .wo, .const 0, .c, []⟩
def WEAR_SCRUB_GRANT : Fld := ⟨12059152, 16, 64, 4, 0, 1, .rw, .const 0, .c, []⟩
def WEAR_SCRUB_RUNNING : Fld := ⟨12059168, 1, 64, 4, 0, 1, .ro, .const 0, .c, []⟩
def WEAR_SCRUB_PROGRESS : Fld := ⟨12059176, 8, 64, 4, 0, 1, .ro, .const 0, .c, []⟩
def WEAR_SCRUB_POISON_FOUND : Fld := ⟨12059184, 16, 64, 4, 0, 1, .rc, .const 0, .c, []⟩
-- WEAR_DOM (16_faults_wear_spares.md)
def WEAR_DOM_STATE : Fld := ⟨12060672, 1, 128, 15, 0, 1, .ro, .const 0, .c, []⟩
def WEAR_DOM_MONTHS : Fld := ⟨12060704, 16, 128, 15, 0, 1, .ro, .const 0, .c, []⟩
def WEAR_DOM_LOW : Fld := ⟨12060720, 16, 128, 15, 0, 1, .ro, .const 0, .c, []⟩
def WEAR_DOM_HIGH : Fld := ⟨12060736, 16, 128, 15, 0, 1, .ro, .const 0, .c, []⟩
def WEAR_DOM_MONITOR : Fld := ⟨12060752, 8, 128, 15, 0, 1, .ro, .const 0, .c, []⟩
-- WEAR_HIST (16_faults_wear_spares.md)
def WEAR_HIST_WORD : Fld := ⟨12091392, 32, 32, 1024, 0, 1, .rw, .const 0, .c, []⟩
-- HOSTIF_EVENT (18_host_interface_and_summary.md)
def HOSTIF_EVENT_SUM_DONE : Fld := ⟨12582912, 1, 0, 1, 0, 1, .w1c, .const 0, .c, []⟩
def HOSTIF_EVENT_SUM_REFUSED : Fld := ⟨12582913, 1, 0, 1, 0, 1, .w1c, .const 0, .c, []⟩
def HOSTIF_EVENT_DMA_ERR : Fld := ⟨12582914, 1, 0, 1, 0, 1, .w1c, .const 0, .c, []⟩
def HOSTIF_EVENT_UNMAPPED : Fld := ⟨12582915, 1, 0, 1, 0, 1, .w1c, .const 0, .c, []⟩
def HOSTIF_EVENT_MASTER_RESET : Fld := ⟨12582916, 1, 0, 1, 0, 1, .w1c, .const 0, .c, []⟩
def HOSTIF_EVENT_LOCK_BROKEN : Fld := ⟨12582917, 1, 0, 1, 0, 1, .w1c, .const 0, .c, []⟩
def HOSTIF_EVENT_TLD_DONE : Fld := ⟨12582918, 1, 0, 1, 0, 1, .w1c, .const 0, .c, []⟩
-- HOSTIF_RESYNC (18_host_interface_and_summary.md)
def HOSTIF_RESYNC_GO : Fld := ⟨12582944, 1, 0, 1, 0, 1, .wo, .const 0, .c, []⟩
def HOSTIF_RESYNC_FULL : Fld := ⟨12582945, 1, 0, 1, 0, 1, .rw, .const 0, .c, []⟩
-- HOSTIF_SUM_BASE (18_host_interface_and_summary.md)
def HOSTIF_SUM_BASE_LO : Fld := ⟨12582988, 20, 0, 1, 0, 1, .rw, .const 0, .c, []⟩
def HOSTIF_SUM_BASE_HI : Fld := ⟨12583008, 32, 0, 1, 0, 1, .rw, .const 0, .c, []⟩
-- HOSTIF_SUM_CFG (18_host_interface_and_summary.md)
def HOSTIF_SUM_CFG_EN : Fld := ⟨12583040, 1, 0, 1, 0, 1, .rw, .const 0, .c, []⟩
def HOSTIF_SUM_CFG_BIG : Fld := ⟨12583041, 1, 0, 1, 0, 1, .rw, .const 0, .c, []⟩
-- HOSTIF_SUM_STATUS (18_host_interface_and_summary.md)
def HOSTIF_SUM_STATUS_STATE : Fld := ⟨12583104, 3, 0, 1, 0, 1, .ro, .const 0, .c, []⟩
def HOSTIF_SUM_STATUS_REQUESTER : Fld := ⟨12583107, 3, 0, 1, 0, 1, .ro, .const 0, .c, []⟩
-- HOSTIF_SUM_SEQ (18_host_interface_and_summary.md)
def HOSTIF_SUM_SEQ_SEQ : Fld := ⟨12583136, 32, 0, 1, 0, 1, .ro, .const 0, .c, []⟩
-- HOSTIF_DMA_ERR (18_host_interface_and_summary.md)
def HOSTIF_DMA_ERR_STRUCT : Fld := ⟨12583168, 8, 0, 1, 0, 1, .ro, .const 0, .c, []⟩
def HOSTIF_DMA_ERR_ADDR_LO : Fld := ⟨12583200, 32, 0, 1, 0, 1, .ro, .const 0, .c, []⟩
def HOSTIF_DMA_ERR_ADDR_HI : Fld := ⟨12583232, 32, 0, 1, 0, 1, .ro, .const 0, .c, []⟩
-- HOSTIF_MLOG (18_host_interface_and_summary.md)
def HOSTIF_MLOG_MASTER : Fld := ⟨12583296, 4, 0, 1, 0, 1, .ro, .const 0, .c, []⟩
def HOSTIF_MLOG_TARGET : Fld := ⟨12583300, 2, 0, 1, 0, 1, .ro, .const 0, .c, []⟩
def HOSTIF_MLOG_WRITE : Fld := ⟨12583302, 1, 0, 1, 0, 1, .ro, .const 0, .c, []⟩
def HOSTIF_MLOG_BEATS_LEFT : Fld := ⟨12583303, 5, 0, 1, 0, 1, .ro, .const 0, .c, []⟩
def HOSTIF_MLOG_LOCKED : Fld := ⟨12583308, 1, 0, 1, 0, 1, .ro, .const 0, .c, []⟩
-- HOSTIF_MLOG_CNT (18_host_interface_and_summary.md)
def HOSTIF_MLOG_CNT_COUNT : Fld := ⟨12583328, 32, 0, 1, 0, 1, .rc, .const 0, .c, []⟩
-- HOSTIF_UNMAPPED (18_host_interface_and_summary.md)
def HOSTIF_UNMAPPED_OFFSET : Fld := ⟨12583360, 26, 0, 1, 0, 1, .ro, .const 0, .c, []⟩
def HOSTIF_UNMAPPED_BAR2 : Fld := ⟨12583388, 1, 0, 1, 0, 1, .ro, .const 0, .c, []⟩
-- HOSTIF_TLD (18_host_interface_and_summary.md)
def HOSTIF_TLD_ADDR_LO : Fld := ⟨12583428, 28, 0, 1, 0, 1, .rw, .const 0, .c, []⟩
def HOSTIF_TLD_ADDR_HI : Fld := ⟨12583456, 32, 0, 1, 0, 1, .rw, .const 0, .c, []⟩
def HOSTIF_TLD_OFFSET : Fld := ⟨12583492, 24, 0, 1, 0, 1, .rw, .const 0, .c, []⟩
def HOSTIF_TLD_LEN : Fld := ⟨12583520, 21, 0, 1, 0, 1, .rw, .const 0, .c, [(0, 1048576)]⟩
def HOSTIF_TLD_GO : Fld := ⟨12583552, 1, 0, 1, 0, 1, .wo, .const 0, .c, []⟩
def HOSTIF_TLD_ABORT : Fld := ⟨12583553, 1, 0, 1, 0, 1, .wo, .const 0, .c, []⟩
def HOSTIF_TLD_DIR : Fld := ⟨12583554, 1, 0, 1, 0, 1, .rw, .const 0, .c, []⟩
def HOSTIF_TLD_STATE : Fld := ⟨12583584, 3, 0, 1, 0, 1, .ro, .const 0, .c, []⟩
def HOSTIF_TLD_REFUSED_CNT : Fld := ⟨12583600, 16, 0, 1, 0, 1, .ro, .const 0, .c, []⟩
-- HOSTIF_PARK (18_host_interface_and_summary.md)
def HOSTIF_PARK_PARK_MODE : Fld := ⟨12584960, 1, 32, 4, 0, 1, .rw, .const 0, .c, []⟩
def HOSTIF_PARK_PARK_MASTER : Fld := ⟨12584964, 4, 32, 4, 0, 1, .rw, .tbl [0, 7, 0, 0], .c, []⟩
-- HOSTIF_VMAP (18_host_interface_and_summary.md)
def HOSTIF_VMAP_VECTOR : Fld := ⟨12587008, 9, 32, 27, 0, 1, .rw, .plus 0, .c, []⟩
-- MSIX_TABLE (18_host_interface_and_summary.md)
def MSIX_TABLE_ADDR_LO : Fld := ⟨12845056, 32, 128, 512, 0, 1, .rw, .const 0, .h, []⟩
def MSIX_TABLE_ADDR_HI : Fld := ⟨12845088, 32, 128, 512, 0, 1, .rw, .const 0, .h, []⟩
def MSIX_TABLE_DATA : Fld := ⟨12845120, 32, 128, 512, 0, 1, .rw, .const 0, .h, []⟩
def MSIX_TABLE_MASK : Fld := ⟨12845152, 1, 128, 512, 0, 1, .rw, .const 1, .h, []⟩
-- MSIX_PBA (18_host_interface_and_summary.md)
def MSIX_PBA_PENDING : Fld := ⟨12976128, 1, 1, 512, 0, 1, .ro, .const 0, .h, []⟩
-- KEYS_STATUS (19_keys_and_security.md)
def KEYS_STATUS_ROOT_OK : Fld := ⟨13107200, 1, 0, 1, 0, 1, .ro, .const 0, .c, []⟩
def KEYS_STATUS_TEST_ROOT : Fld := ⟨13107201, 1, 0, 1, 0, 1, .ro, .const 0, .c, []⟩
def KEYS_STATUS_ENROLLED : Fld := ⟨13107202, 1, 0, 1, 0, 1, .ro, .const 0, .c, []⟩
def KEYS_STATUS_TRNG_OK : Fld := ⟨13107203, 1, 0, 1, 0, 1, .ro, .const 0, .c, []⟩
def KEYS_STATUS_OTP_CTR : Fld := ⟨13107216, 12, 0, 1, 0, 1, .ro, .const 0, .c, []⟩
-- KEYS_EVENT (19_keys_and_security.md)
def KEYS_EVENT_UPD_DONE : Fld := ⟨13107232, 1, 0, 1, 0, 1, .w1c, .const 0, .c, []⟩
def KEYS_EVENT_UPD_REFUSED : Fld := ⟨13107233, 1, 0, 1, 0, 1, .w1c, .const 0, .c, []⟩
def KEYS_EVENT_TRNG_FAIL : Fld := ⟨13107234, 1, 0, 1, 0, 1, .w1c, .const 0, .c, []⟩
-- KEYS_UPD_CTRL (19_keys_and_security.md)
def KEYS_UPD_CTRL_GO : Fld := ⟨13107328, 1, 0, 1, 0, 1, .wo, .const 0, .c, []⟩
def KEYS_UPD_CTRL_CLEAR : Fld := ⟨13107329, 1, 0, 1, 0, 1, .wo, .const 0, .c, []⟩
def KEYS_UPD_CTRL_STATE : Fld := ⟨13107330, 2, 0, 1, 0, 1, .ro, .const 0, .w, []⟩
def KEYS_UPD_CTRL_RESULT : Fld := ⟨13107332, 4, 0, 1, 0, 1, .ro, .const 0, .w, []⟩
def KEYS_UPD_CTRL_BAD_ENTRY : Fld := ⟨13107336, 3, 0, 1, 0, 1, .ro, .const 0, .w, []⟩
-- KEYS_NONCE (19_keys_and_security.md)
def KEYS_NONCE_LO : Fld := ⟨13107392, 32, 0, 1, 0, 1, .ro, .const 0, .c, []⟩
def KEYS_NONCE_HI : Fld := ⟨13107424, 32, 0, 1, 0, 1, .ro, .const 0, .c, []⟩
-- KEYS_UPD_FAILS (19_keys_and_security.md)
def KEYS_UPD_FAILS_COUNT : Fld := ⟨13107456, 32, 0, 1, 0, 1, .rc, .const 0, .c, []⟩
-- KEYS_SLOT_ATTR (19_keys_and_security.md)
def KEYS_SLOT_ATTR_VALID : Fld := ⟨13109248, 1, 32, 64, 0, 1, .ro, .const 0, .c, []⟩
def KEYS_SLOT_ATTR_REVOKED : Fld := ⟨13109249, 1, 32, 64, 0, 1, .ro, .const 0, .c, []⟩
def KEYS_SLOT_ATTR_USE : Fld := ⟨13109250, 3, 32, 64, 0, 1, .ro, .const 0, .c, []⟩
def KEYS_SLOT_ATTR_DEBUG_PERMITTED : Fld := ⟨13109253, 1, 32, 64, 0, 1, .ro, .const 0, .c, []⟩
def KEYS_SLOT_ATTR_LOCKED : Fld := ⟨13109254, 1, 32, 64, 0, 1, .ro, .const 0, .c, []⟩
def KEYS_SLOT_ATTR_COUNTER_BOUND : Fld := ⟨13109255, 1, 32, 64, 0, 1, .ro, .const 0, .c, []⟩
def KEYS_SLOT_ATTR_KEY_ID : Fld := ⟨13109256, 8, 32, 64, 0, 1, .ro, .const 0, .c, []⟩
def KEYS_SLOT_ATTR_WRITE_CTR : Fld := ⟨13109264, 12, 32, 64, 0, 1, .ro, .const 0, .c, []⟩
-- KEYS_MSG (19_keys_and_security.md)
def KEYS_MSG_WORD : Fld := ⟨13139968, 32, 32, 196, 0, 1, .wo, .const 0, .w, []⟩
-- PROBE_CFG (05_alignment_and_crosspoint.md)
def PROBE_CFG_RASTER : Fld := ⟨13631488, 3, 256, 64, 0, 1, .rw, .const 0, .c, []⟩
def PROBE_CFG_IRQ : Fld := ⟨13631491, 1, 256, 64, 0, 1, .rw, .const 0, .c, []⟩
def PROBE_CFG_BLK_THR : Fld := ⟨13631502, 10, 256, 64, 0, 1, .rw, .const 66, .c, []⟩
def PROBE_CFG_FRZ : Fld := ⟨13631512, 8, 256, 64, 0, 1, .rw, .const 0, .c, [(0, 0), (2, 255)]⟩
-- PROBE_RES (05_alignment_and_crosspoint.md)
def PROBE_RES_CRC : Fld := ⟨13631520, 32, 256, 64, 0, 1, .ro, .const 0, .c, []⟩
def PROBE_RES_YMIN : Fld := ⟨13631552, 10, 256, 64, 0, 1, .ro, .const 0, .c, []⟩
def PROBE_RES_YMAX : Fld := ⟨13631568, 10, 256, 64, 0, 1, .ro, .const 0, .c, []⟩
def PROBE_RES_FRAME : Fld := ⟨13631584, 32, 256, 64, 0, 1, .ro, .const 0, .c, []⟩
def PROBE_RES_BLACK : Fld := ⟨13631616, 1, 256, 64, 0, 1, .ro, .const 0, .c, []⟩
def PROBE_RES_FREEZE : Fld := ⟨13631617, 1, 256, 64, 0, 1, .ro, .const 0, .c, []⟩
def PROBE_RES_NOSIG : Fld := ⟨13631618, 1, 256, 64, 0, 1, .ro, .const 0, .c, []⟩
-- CXLP_PORT_CTRL (08_frame_store.md)
def CXLP_PORT_CTRL_RETRAIN : Fld := ⟨14155776, 1, 2048, 4, 0, 1, .wo, .const 0, .c, []⟩
def CXLP_PORT_CTRL_RETRAIN_REFUSED : Fld := ⟨14155777, 1, 2048, 4, 0, 1, .w1c, .const 0, .c, []⟩
-- CXLP_PORT_STATUS (08_frame_store.md)
def CXLP_PORT_STATUS_STATE : Fld := ⟨14155808, 3, 2048, 4, 0, 1, .ro, .const 0, .c, []⟩
def CXLP_PORT_STATUS_REASON : Fld := ⟨14155811, 3, 2048, 4, 0, 1, .ro, .const 0, .c, []⟩
def CXLP_PORT_STATUS_SPEED : Fld := ⟨14155814, 2, 2048, 4, 0, 1, .ro, .const 0, .c, []⟩
def CXLP_PORT_STATUS_WIDTH : Fld := ⟨14155816, 5, 2048, 4, 0, 1, .ro, .const 0, .c, []⟩
def CXLP_PORT_STATUS_CAP_UNITS : Fld := ⟨14155824, 11, 2048, 4, 0, 1, .ro, .const 0, .c, []⟩
-- CXLP_FREE (08_frame_store.md)
def CXLP_FREE_PAGES : Fld := ⟨14155840, 18, 2048, 4, 0, 1, .ro, .const 0, .c, []⟩
-- CXLP_SPARE (08_frame_store.md)
def CXLP_SPARE_PAGES : Fld := ⟨14155872, 18, 2048, 4, 0, 1, .ro, .const 0, .c, []⟩
-- CXLP_CE_CNT (08_frame_store.md)
def CXLP_CE_CNT_COUNT : Fld := ⟨14155904, 32, 2048, 4, 0, 1, .rc, .const 0, .c, []⟩
-- CXLP_POISON_CNT (08_frame_store.md)
def CXLP_POISON_CNT_COUNT : Fld := ⟨14155936, 32, 2048, 4, 0, 1, .rc, .const 0, .c, []⟩
-- CXLP_TIMEOUT_CNT (08_frame_store.md)
def CXLP_TIMEOUT_CNT_COUNT : Fld := ⟨14155968, 32, 2048, 4, 0, 1, .rc, .const 0, .c, []⟩
-- CXLP_MARKED (08_frame_store.md)
def CXLP_MARKED_REGIONS : Fld := ⟨14156000, 10, 2048, 4, 0, 1, .ro, .const 0, .c, []⟩
-- CXLP_BW_MEAS (08_frame_store.md)
def CXLP_BW_MEAS_WR : Fld := ⟨14156032, 8, 2048, 4, 0, 1, .ro, .const 0, .c, []⟩
def CXLP_BW_MEAS_RD : Fld := ⟨14156048, 8, 2048, 4, 0, 1, .ro, .const 0, .c, []⟩
end F

/-- The fields of each block of Table 20-1. -/
def fieldsTop : List Fld :=
  [F.TOP_ID_MINOR, F.TOP_ID_MAJOR, F.TOP_ID_PART, F.TOP_BOOT_DBG_DISABLED, F.TOP_BOOT_SMB_ADDR, F.TOP_SCRATCH_VALUE] ++
  [F.TOP_DEV_MODE_MODE, F.TOP_DEV_MODE_CAL_DONE, F.TOP_DEV_MODE_MEM_SHORT, F.TOP_DEV_MODE_DBG_STRAP, F.TOP_DEV_MODE_ENROL_STRAP, F.TOP_DEV_MODE_OWN] ++
  [F.TOP_DEV_MODE_CAL_STAGE, F.TOP_MODE_REQ_TARGET, F.TOP_MODE_REQ_GO, F.TOP_MODE_REQ_CAL_GO, F.TOP_MODE_REQ_RESULT, F.TOP_MODE_REQ_STATE] ++
  [F.TOP_MODE_REQ_REQ_REFUSED, F.TOP_INIT_STATUS_STEP, F.TOP_INIT_STATUS_FAIL, F.TOP_INIT_STATUS_ROOT_FAIL, F.TOP_INIT_STATUS_ENROLLED, F.TOP_INIT_STATUS_WR_EARLY] ++
  [F.TOP_INIT_STATUS_SELFTEST_PCT, F.TOP_RESET_CTRL_WARM, F.TOP_RESET_CTRL_COLD, F.TOP_RESET_CTRL_BLOCK, F.TOP_RESET_CTRL_BLOCK_SRC, F.TOP_RESET_STATUS_COLD_CAUSE] ++
  [F.TOP_RESET_STATUS_WARM_CNT, F.TOP_RESET_STATUS_WARM_REFUSED, F.TOP_RESET_STATUS_BLOCK_REFUSED, F.TOP_RESET_STATUS_HOSTIF_RST, F.TOP_ENROL_CTRL_REQ, F.TOP_ENROL_CTRL_KEY_GO] ++
  [F.TOP_ENROL_CTRL_OUT_VALID, F.TOP_ENROL_CTRL_ACK, F.TOP_ENROL_CTRL_KEY_BAD, F.TOP_ENROL_KEY_WORD, F.TOP_ENROL_OUT_WORD]
def fieldsSlate : List Fld :=
  [F.SLATE_SNAP_SNAP, F.SLATE_SNAP_TIME_SEC_LO, F.SLATE_SNAP_TIME_SEC_HI, F.SLATE_SNAP_TIME_FRAC, F.SLATE_SNAP_TIME_NS, F.SLATE_SNAP_TIME_SNAP_SEQ] ++
  [F.SLATE_SNAP_POS_FRAME_LO, F.SLATE_SNAP_POS_FRAME_HI, F.SLATE_SNAP_POS_LINE, F.SLATE_SNAP_POS_SAMPLE, F.SLATE_SNAP_POS_ENABLED, F.SLATE_SNAP_POS_LOCKED] ++
  [F.SLATE_RASTER_CFG_EN, F.SLATE_RASTER_CFG_STRUCT, F.SLATE_RASTER_CFG_RATE, F.SLATE_RASTER_CFG_BASIS, F.SLATE_RASTER_CFG_F2SW, F.SLATE_RASTER_LINES_SWLINE] ++
  [F.SLATE_RASTER_LINES_LATCH, F.SLATE_RASTER_TIMING_LEAD, F.SLATE_RASTER_TIMING_ADV, F.SLATE_RASTER_OFS_OFS, F.SLATE_RASTER_SEED_SEED_LO, F.SLATE_RASTER_SEED_SEED_HI] ++
  [F.SLATE_RASTER_STATUS_ENABLED, F.SLATE_RASTER_STATUS_LOCKED, F.SLATE_RASTER_STATUS_EVER_LOCKED, F.SLATE_RASTER_STATUS_IN_USE, F.SLATE_RASTER_STATUS_CFG_REFUSED, F.SLATE_RASTER_STATUS_SEED_IGNORED] ++
  [F.SLATE_RASTER_STATUS_DISABLE_REFUSED, F.SLATE_RASTER_STATUS_SWLINE_EFF, F.SLATE_CMP_CTRL_ARM, F.SLATE_CMP_CTRL_RASTER, F.SLATE_CMP_CTRL_STYLE, F.SLATE_CMP_CTRL_IRQ] ++
  [F.SLATE_CMP_CTRL_ENG_MASK, F.SLATE_CMP_CTRL_PERIODIC, F.SLATE_CMP_TGT_FRAME_LO, F.SLATE_CMP_TGT_FRAME_HI, F.SLATE_CMP_TGT_LINE, F.SLATE_CMP_TGT_SAMPLE] ++
  [F.SLATE_CMP_TGT_PERIOD, F.SLATE_CMP_STATUS_FIRED, F.SLATE_CMP_STATUS_LATE, F.SLATE_CMP_STATUS_ARM_REFUSED, F.SLATE_CMP_STATUS_FIRE_COUNT, F.SLATE_CMP_EVENT_FIRED] ++
  [F.SLATE_GPI_CFG_EDGE, F.SLATE_GPI_CFG_RASTER, F.SLATE_GPI_CFG_FILT, F.SLATE_GPI_CFG_ENG_MASK, F.SLATE_GPI_CFG_IRQ, F.SLATE_GPI_LEVEL_LEVEL] ++
  [F.SLATE_GPI_QSTAT_COUNT, F.SLATE_GPI_QSTAT_OVF, F.SLATE_GPI_LOST_LOST, F.SLATE_GPI_POP_POP, F.SLATE_GPI_EVT_WORD, F.SLATE_GPO_LEVEL_LEVEL] ++
  [F.SLATE_GPO_SET_SET, F.SLATE_GPO_CLR_CLR, F.SLATE_GPO_SCHED_STATUS_PENDING, F.SLATE_GPO_SCHED_STATUS_LATE, F.SLATE_GPO_SCHED_STATUS_REFUSED, F.SLATE_GPO_SCHED_VALID] ++
  [F.SLATE_GPO_SCHED_RASTER, F.SLATE_GPO_SCHED_STYLE, F.SLATE_GPO_SCHED_FRAME_LO, F.SLATE_GPO_SCHED_FRAME_HI, F.SLATE_GPO_SCHED_LINE, F.SLATE_GPO_SCHED_SAMPLE] ++
  [F.SLATE_GPO_SCHED_MASK, F.SLATE_GPO_SCHED_VALUE]
def fieldsRefsel : List Fld :=
  [F.REFSEL_CTRL_REVERT, F.REFSEL_CTRL_PULL_MODE, F.REFSEL_CTRL_FORCE_EN, F.REFSEL_CTRL_FORCE_IDX, F.REFSEL_CTRL_FINAL_BW, F.REFSEL_CTRL_PULL_NOW] ++
  [F.REFSEL_COND_COND, F.REFSEL_COND_REFGOOD, F.REFSEL_COND_SELECTED, F.REFSEL_COND_SEL_VALID, F.REFSEL_COND_STAGE, F.REFSEL_COND_ESTABLISHED] ++
  [F.REFSEL_COND_FROZEN, F.REFSEL_COND_HO_SRC, F.REFSEL_COMPAT_STATE, F.REFSEL_EVENT_SWITCHED, F.REFSEL_EVENT_DISQUAL, F.REFSEL_EVENT_DRIFT] ++
  [F.REFSEL_EVENT_HO_ENTER, F.REFSEL_EVENT_LOST, F.REFSEL_EVENT_STOPPED, F.REFSEL_EVENT_GLITCH, F.REFSEL_EVENT_RESYNC, F.REFSEL_EVENT_CFG_REFUSED] ++
  [F.REFSEL_SLEW_MAXFREQ, F.REFSEL_SLEW_MAXRATE, F.REFSEL_NARROW_THRESH, F.REFSEL_NARROW_DWELL, F.REFSEL_HO_CFG_WINDOW, F.REFSEL_HO_CFG_GUARD] ++
  [F.REFSEL_HO_LIM_MIN_HIST, F.REFSEL_HO_LIM_LIMIT, F.REFSEL_HO_AVG_LO, F.REFSEL_HO_AVG_HI, F.REFSEL_HO_SEED_LO, F.REFSEL_HO_SEED_HI] ++
  [F.REFSEL_HO_SEED_SEED_VALID, F.REFSEL_HIST_USABLE, F.REFSEL_HIST_AVG_VALID, F.REFSEL_CTL_VAL_LO, F.REFSEL_CTL_VAL_HI, F.REFSEL_BUILDOUT_LO] ++
  [F.REFSEL_BUILDOUT_HI, F.REFSEL_LOCOSC_LOCOSC_FREQ, F.REFSEL_LOCOSC_LOCOSC_ACC, F.REFSEL_PTP_VALID_PTP_VALID, F.REFSEL_CAND_EN, F.REFSEL_CAND_PRIO] ++
  [F.REFSEL_CAND_TYPE, F.REFSEL_CAND_RATE, F.REFSEL_CAND_POL, F.REFSEL_CAND_QUAL, F.REFSEL_CAND_TOL, F.REFSEL_CAND_DELAY] ++
  [F.REFSEL_CAND_SRC, F.REFSEL_CAND_STATE, F.REFSEL_CAND_IS_SEL, F.REFSEL_CAND_DRIFT_PCT, F.REFSEL_CAND_QUAL_LEFT, F.REFSEL_CAND_OFFSET] ++
  [F.REFSEL_CAND_PHASE, F.REFSEL_CAND_GLITCH_CNT, F.REFSEL_CAND_RESYNC_CNT, F.REFSEL_CAND_STOP_CNT]
def fieldsSynth : List Fld :=
  [F.SYNTH_CTRL_DITHER_EN, F.SYNTH_CTRL_SEED_LOAD, F.SYNTH_CTRL_DITHER_SEED, F.SYNTH_STATUS_LOCKED, F.SYNTH_STATUS_SERVING, F.SYNTH_STATUS_WARM] ++
  [F.SYNTH_STATUS_RETIRED, F.SYNTH_STATUS_FAIL_CNT, F.SYNTH_STATUS_FREQ_ERR, F.SYNTH_DOMAIN_SOURCE, F.SYNTH_DOMAIN_SPARE, F.SYNTH_DOMAIN_UNPROTECTED] ++
  [F.SYNTH_DOMAIN_MOVES, F.REFOUT_CFG_EN, F.REFOUT_CFG_TYPE, F.REFOUT_CFG_RASTER, F.REFOUT_CFG_POL, F.REFOUT_CFG_WIDTH] ++
  [F.REFOUT_CFG_FREQ, F.REFOUT_CFG_PHASE, F.REFOUT_CFG_RUNNING, F.REFOUT_CFG_STOPPED_FAULT]
def fieldsXpt : List Fld :=
  [F.XPT_EVENT_COMMIT_DONE, F.XPT_EVENT_COMMIT_REFUSED, F.XPT_EVENT_STAGE_REFUSED, F.XPT_EVENT_LOCK_REFUSED, F.XPT_EVENT_PSUB_STEP, F.XPT_EVENT_PSUB_REFUSED] ++
  [F.XPT_EVENT_SLIP, F.XPT_ACTIVE_GEN_GEN, F.XPT_COMMIT_CTRL_GO, F.XPT_COMMIT_CTRL_DISCARD, F.XPT_COMMIT_CTRL_RASTER, F.XPT_COMMIT_CTRL_STYLE] ++
  [F.XPT_COMMIT_TGT_FRAME_LO, F.XPT_COMMIT_TGT_FRAME_HI, F.XPT_COMMIT_TGT_LINE, F.XPT_COMMIT_STATUS_COMMIT_ID, F.XPT_COMMIT_STATUS_STATE, F.XPT_COMMIT_STATUS_RESULT] ++
  [F.XPT_COMMIT_STATUS_BAD_DEST, F.XPT_COMMIT_STATUS_RASTERS, F.XPT_COMMIT_STATUS_APPLIED, F.XPT_LOCK_DEST, F.XPT_LOCK_WIDTH, F.XPT_LOCK_LOCK] ++
  [F.XPT_LOCK_GO, F.XPT_COMMIT_FRAME_FRAME_LO, F.XPT_COMMIT_FRAME_FRAME_HI, F.XPT_PLANE_MAP_PHYS, F.XPT_PLANE_STATUS_STATE, F.XPT_PLANE_STATUS_ERR_CNT] ++
  [F.XPT_PSUB_CTRL_START, F.XPT_PSUB_CTRL_ABORT, F.XPT_PSUB_CTRL_LOGICAL, F.XPT_PSUB_CTRL_GRANT, F.XPT_PSUB_JOURNAL_STEP, F.XPT_PSUB_JOURNAL_LOGICAL] ++
  [F.XPT_PSUB_JOURNAL_OLD, F.XPT_PSUB_JOURNAL_SPARE, F.XPT_PSUB_JOURNAL_RASTERS_DONE, F.XPT_PSUB_JOURNAL_REASON, F.XPT_PSUB_JOURNAL_SW_FRAME_LO, F.XPT_PSUB_JOURNAL_SW_FRAME_HI] ++
  [F.XPT_PSUB_JOURNAL_FRAMES_DONE, F.XPT_PSUB_JOURNAL_MISMATCH_CNT, F.XPT_GEN_CFG_PATTERN, F.XPT_GEN_CFG_Y, F.XPT_GEN_CFG_CB, F.XPT_GEN_CFG_CR] ++
  [F.XPT_DEST_STATUS_LIVE, F.XPT_DEST_STATUS_SUBST, F.XPT_DEST_STATUS_UNCLEAN, F.XPT_DEST_STATUS_FMT_CONFLICT, F.XPT_DEST_STATUS_GROUP_SPLIT, F.XPT_DEST_STATUS_LOCKED] ++
  [F.XPT_DEST_STATUS_SLIP_CNT, F.XPT_DEST_STATUS_K]
def fieldsAlign : List Fld :=
  [F.ALIGN_WIN_CFG_ENG_MASK, F.ALIGN_WIN_CFG_IRQ, F.ALIGN_WIN_CFG_HYST, F.ALIGN_OOW_BIT, F.ALIGN_OOW_EV_BIT, F.ALIGN_PORT_CFG_CLASS] ++
  [F.ALIGN_PORT_CFG_RASTER, F.ALIGN_PORT_CFG_PID_REQ, F.ALIGN_PORT_CFG_CRC_POL, F.ALIGN_PORT_STATUS_LOCK_MASK, F.ALIGN_PORT_STATUS_FMT_VALID, F.ALIGN_PORT_STATUS_OFS_VALID] ++
  [F.ALIGN_PORT_STATUS_GRP_SKEW, F.ALIGN_PORT_STATUS_MISMATCH, F.ALIGN_PORT_STATUS_LOSS, F.ALIGN_PORT_STATUS_FMT_CHG, F.ALIGN_PORT_STATUS_MISMATCH_EV, F.ALIGN_PORT_STATUS_PID_MISSING] ++
  [F.ALIGN_PORT_STATUS_LN_MISMATCH, F.ALIGN_PORT_STATUS_SKEW_EV, F.ALIGN_PORT_STATUS_CFG_REFUSED, F.ALIGN_PORT_FMT_STRUCT, F.ALIGN_PORT_FMT_RATE, F.ALIGN_PORT_FMT_CLASS] ++
  [F.ALIGN_PORT_FMT_PID_SEEN, F.ALIGN_PORT_FMT_SQD, F.ALIGN_PORT_FMT_F1001, F.ALIGN_PORT_PID_PID, F.ALIGN_PORT_OFS_OFFSET, F.ALIGN_PORT_OFS_SKEW] ++
  [F.ALIGN_PORT_ERR_CRC_ERR, F.ALIGN_PORT_ERR_TRS_ERR, F.ALIGN_PORT_ERR_LN_ERR, F.ALIGN_PORT_ERR_ANC_ERR, F.ALIGN_PORT_ERR_AUD_ERR]
def fieldsCue : List Fld :=
  [F.CUE_GLOBAL_CFG_SPARE_NUM, F.CUE_GLOBAL_CFG_AUTO_SUBST, F.CUE_PMAP_PHYS, F.CUE_PMAP_RETIRED, F.CUE_SUBST_CTRL_START, F.CUE_SUBST_CTRL_ABORT] ++
  [F.CUE_SUBST_CTRL_TARGET, F.CUE_SUBST_CTRL_AUTO, F.CUE_SUBST_CTRL_STATE, F.CUE_SUBST_CTRL_RESULT, F.CUE_EVR_BASE_LO, F.CUE_EVR_BASE_HI] ++
  [F.CUE_EVR_SIZE_LOG2, F.CUE_EVR_HEAD_HEAD, F.CUE_EVR_TAIL_TAIL, F.CUE_EVR_STATUS_EN, F.CUE_EVR_STATUS_OVF, F.CUE_EVR_LOST_LOST] ++
  [F.CUE_WIN_SEL_ENGINE, F.CUE_WIN_SEL_TARGET, F.CUE_WIN_SEL_PAGE, F.CUE_CTRL_START, F.CUE_CTRL_STOP, F.CUE_CTRL_RESUME] ++
  [F.CUE_CTRL_ENG_RESET, F.CUE_CTRL_DISCARD_STAGED, F.CUE_CTRL_MODE, F.CUE_CTRL_STYLE, F.CUE_CTRL_AUTH_REQ, F.CUE_CTRL_RING_EN] ++
  [F.CUE_STATUS_STATE, F.CUE_STATUS_CTRL_REFUSED, F.CUE_STATUS_FAULT_CLASS, F.CUE_STATUS_STOP_CAUSE, F.CUE_STATUS_FAULT_CODE, F.CUE_STATUS_RS] ++
  [F.CUE_STATUS_REFUSED_ANY, F.CUE_STATUS_DIVERGED, F.CUE_PC_PC, F.CUE_START_ADDR_ADDR, F.CUE_RESTART_ADDR_ADDR, F.CUE_WDOG_LIMIT] ++
  [F.CUE_EVPEND_BITS, F.CUE_FAULT_ADDR_ADDR, F.CUE_RING_BASE_LO, F.CUE_RING_BASE_HI, F.CUE_RING_SIZE_LOG2, F.CUE_RING_TAIL_TAIL] ++
  [F.CUE_RING_HEAD_HEAD, F.CUE_RING_STAT_LAST_SEQ, F.CUE_RING_STAT_RING_ERR, F.CUE_RING_STAT_AUTH_FAIL, F.CUE_RING_STAT_RECORD_ERR, F.CUE_AUTH_FAILS_COUNT] ++
  [F.CUE_AUTH_CTR_LO, F.CUE_AUTH_CTR_HI, F.CUE_PMEM_CRC_CRC, F.CUE_GREG_VALUE, F.CUE_KREG_W0, F.CUE_KREG_W1] ++
  [F.CUE_KREG_W2, F.CUE_KREG_W3]
def fieldsSable : List Fld :=
  [F.SABLE_STATUS_PORTS_UP, F.SABLE_STATUS_MEM_OK, F.SABLE_STATUS_OVERLOAD, F.SABLE_STATUS_DESC_FREE, F.SABLE_EVENT_RELEASED, F.SABLE_EVENT_STALE_READ] ++
  [F.SABLE_EVENT_LAPSED, F.SABLE_EVENT_PLAYER_LOST, F.SABLE_EVENT_POISON, F.SABLE_EVENT_TIMEOUT, F.SABLE_EVENT_PORT_FAIL, F.SABLE_EVENT_REGION_MARKED] ++
  [F.SABLE_EVENT_SPARE_LOW, F.SABLE_EVENT_DAMAGED, F.SABLE_EVENT_HWIN_ERR, F.SABLE_EVENT_OVERLOAD, F.SABLE_EVENT_REL_OVF, F.SABLE_EVENT_LEASE_REFUSED] ++
  [F.SABLE_PAGES_TOTAL, F.SABLE_PAGES_FREE, F.SABLE_BW_CAP_WR, F.SABLE_BW_CAP_RD, F.SABLE_BW_MEAS_WR, F.SABLE_BW_MEAS_RD] ++
  [F.SABLE_HOST_BW_HOST_BW, F.SABLE_PLACE_CFG_CE_THR, F.SABLE_PLACE_CFG_CE_WIN, F.SABLE_PLACE_CFG_MIG_BW, F.SABLE_PLACE_GRANT_GRANT, F.SABLE_STALE_CNT_COUNT] ++
  [F.SABLE_LEASE_CTRL_HANDLE, F.SABLE_LEASE_CTRL_FRAME_LO, F.SABLE_LEASE_CTRL_FRAME_HI, F.SABLE_LEASE_CTRL_RASTER, F.SABLE_LEASE_CTRL_GO, F.SABLE_REL_QSTAT_COUNT] ++
  [F.SABLE_REL_QSTAT_OVF, F.SABLE_REL_POP_POP, F.SABLE_REL_EVT_WORD, F.SABLE_HWIN_HANDLE, F.SABLE_HWIN_BASE_LO, F.SABLE_HWIN_BASE_HI] ++
  [F.SABLE_HWIN_EN, F.SABLE_HWIN_ERR, F.SABLE_REC_RUNNING, F.SABLE_REC_HANDLE, F.SABLE_REC_WRITE_SEQ, F.SABLE_REC_FRAMES] ++
  [F.SABLE_REC_ABANDONED, F.SABLE_REC_FMT_SKIP, F.SABLE_REC_ANC_TRUNC, F.SABLE_PLAY_LOSS_MODE, F.SABLE_PLAY_FRZ_LIM, F.SABLE_PLAY_HYST] ++
  [F.SABLE_PLAY_RUNNING, F.SABLE_PLAY_LOST, F.SABLE_PLAY_LAPSED, F.SABLE_PLAY_CHASE, F.SABLE_PLAY_HANDLE, F.SABLE_PLAY_PLAY_SEQ] ++
  [F.SABLE_PLAY_REPEAT, F.SABLE_PLAY_DROP, F.SABLE_PLAY_TEAR, F.SABLE_PLAY_POISON]
def fieldsOchre : List Fld :=
  [F.OCHRE_EVENT_HCOMMIT_DONE, F.OCHRE_EVENT_HCOMMIT_REFUSED, F.OCHRE_EVENT_STAGE_REFUSED, F.OCHRE_EVENT_LAYER_OFF, F.OCHRE_EVENT_UNDERRUN, F.OCHRE_EVENT_CFG_BAD] ++
  [F.OCHRE_EVENT_LOG_OVF, F.OCHRE_EVENT_LUT_REFUSED, F.OCHRE_STATUS_SCALERS_FREE, F.OCHRE_STATUS_HEADS_RUNNING, F.OCHRE_FETCH_GRANT_GRANT, F.OCHRE_FETCH_GRANT_RESV] ++
  [F.OCHRE_FETCH_USE_USE, F.OCHRE_FETCH_CFG_WM, F.OCHRE_HCOMMIT_CTRL_GO, F.OCHRE_HCOMMIT_CTRL_DISCARD, F.OCHRE_HCOMMIT_CTRL_VALIDATE, F.OCHRE_HCOMMIT_CTRL_STYLE] ++
  [F.OCHRE_HCOMMIT_CTRL_HEAD, F.OCHRE_HCOMMIT_TGT_FRAME_LO, F.OCHRE_HCOMMIT_TGT_FRAME_HI, F.OCHRE_LOG_QSTAT_COUNT, F.OCHRE_LOG_QSTAT_OVF, F.OCHRE_LOG_POP_POP] ++
  [F.OCHRE_LOG_LOST_LOST, F.OCHRE_LOG_EVT_WORD, F.OCHRE_LUT_SEL_SLOT, F.OCHRE_LUT_SEL_KIND, F.OCHRE_LUT_SEL_OPEN, F.OCHRE_LUT_SEL_CLOSE] ++
  [F.OCHRE_LUT_ADDR_ADDR, F.OCHRE_LUT_DATA_DATA, F.OCHRE_LUT_STAT_OPEN, F.OCHRE_LUT_STAT_VALID, F.OCHRE_LUT_STAT_IN_USE, F.OCHRE_LUT_STAT_REFUSED] ++
  [F.OCHRE_LUT_CRC_CRC, F.OCHRE_HEAD_COMMIT_STATUS_STATE, F.OCHRE_HEAD_COMMIT_STATUS_MASTER, F.OCHRE_HEAD_COMMIT_STATUS_VALIDATED, F.OCHRE_HEAD_COMMIT_STATUS_RESULT, F.OCHRE_HEAD_COMMIT_STATUS_DETAIL] ++
  [F.OCHRE_HEAD_COMMIT_STATUS_FRAME_LO, F.OCHRE_HEAD_COMMIT_STATUS_FRAME_HI, F.OCHRE_HEAD_COMMIT_STATUS_RASTER, F.OCHRE_HEAD_STATUS_RUNNING, F.OCHRE_HEAD_STATUS_HEAD_CFG_BAD, F.OCHRE_HEAD_STATUS_CHAINED] ++
  [F.OCHRE_HEAD_STATUS_AHEAD, F.OCHRE_HEAD_STATUS_SHOWN, F.OCHRE_HEAD_STATUS_PHYS, F.OCHRE_HEAD_STATUS_FRAMES, F.OCHRE_LAYER_STATUS_SHOWN, F.OCHRE_LAYER_STATUS_CFG_BAD] ++
  [F.OCHRE_LAYER_STATUS_SCALER, F.OCHRE_LAYER_STATUS_PLAY_SEQ, F.OCHRE_LAYER_STATUS_UNDERRUN, F.OCHRE_LAYER_STATUS_OFF_FRAMES, F.OCHRE_LAYER_STATUS_REPEAT, F.OCHRE_LAYER_STATUS_NOT_WRITTEN] ++
  [F.OCHRE_LAYER_STATUS_CHASE_MISS, F.OCHRE_LAYER_STATUS_FMT_REJECT]
def fieldsAudio : List Fld :=
  [F.AUDIO_EVENT_COMMIT_DONE, F.AUDIO_EVENT_COMMIT_REFUSED, F.AUDIO_EVENT_STAGE_REFUSED, F.AUDIO_EVENT_DLY_REFUSED, F.AUDIO_EVENT_DBLK_REFUSED, F.AUDIO_EVENT_RATE_CONFLICT] ++
  [F.AUDIO_EVENT_CFG_REFUSED, F.AUDIO_CFG_ZX_TIMEOUT, F.AUDIO_ACTIVE_GEN_GEN, F.AUDIO_COMMIT_CTRL_GO, F.AUDIO_COMMIT_CTRL_DISCARD, F.AUDIO_COMMIT_CTRL_WITH] ++
  [F.AUDIO_COMMIT_CTRL_RASTER, F.AUDIO_COMMIT_CTRL_STYLE, F.AUDIO_COMMIT_TGT_FRAME_LO, F.AUDIO_COMMIT_TGT_FRAME_HI, F.AUDIO_COMMIT_TGT_LINE, F.AUDIO_COMMIT_TGT_SAMPLE] ++
  [F.AUDIO_COMMIT_STATUS_COMMIT_ID, F.AUDIO_COMMIT_STATUS_STATE, F.AUDIO_COMMIT_STATUS_RASTER, F.AUDIO_COMMIT_STATUS_RESULT, F.AUDIO_COMMIT_STATUS_FRAME_LO, F.AUDIO_COMMIT_STATUS_FRAME_HI] ++
  [F.AUDIO_COMMIT_STATUS_LINE, F.AUDIO_COMMIT_STATUS_SAMPLE, F.AUDIO_DLY_CTRL_DEST, F.AUDIO_DLY_CTRL_DELAY, F.AUDIO_DLY_CTRL_BLOCK, F.AUDIO_DLY_CTRL_LANE] ++
  [F.AUDIO_DLY_CTRL_EN, F.AUDIO_DLY_CTRL_GO, F.AUDIO_GEN_CFG_FREQ, F.AUDIO_GEN_CFG_MODE, F.AUDIO_GEN_CFG_LEVEL, F.AUDIO_DBLK_HANDLE] ++
  [F.AUDIO_DBLK_EN, F.AUDIO_DBLK_BUSY, F.AUDIO_DBLK_GRANT, F.AUDIO_PORT_DEEMB_EN, F.AUDIO_PORT_EMB_MODE, F.AUDIO_PORT_GRP_EN] ++
  [F.AUDIO_PORT_GRP96, F.AUDIO_PORT_PRESENT, F.AUDIO_PORT_RATE96, F.AUDIO_PORT_ASYNC, F.AUDIO_PORT_SLIP, F.AUDIO_PORT_MISSING]
def fieldsTdm : List Fld :=
  [F.TDM_CFG_EN, F.TDM_CFG_MASTER, F.TDM_CFG_RATE, F.TDM_CFG_SLOTS, F.TDM_CFG_WIDTH, F.TDM_CFG_OFFSET] ++
  [F.TDM_CFG_BCLK_POL, F.TDM_CFG_FS_POL, F.TDM_CFG_FS_WIDTH, F.TDM_CFG_RASTER, F.TDM_STATUS_STATE, F.TDM_STATUS_CFG_REFUSED] ++
  [F.TDM_STATUS_STOP_EV, F.TDM_STATUS_GLITCH_EV, F.TDM_STATUS_RATE_EV, F.TDM_STATUS_RATE_ERR, F.TDM_DIV_DIV, F.TDM_CNT0_SLIP] ++
  [F.TDM_CNT0_GLITCH, F.TDM_CNT1_STOP, F.TDM_CNT1_RESYNC, F.TDM_LAST_EV_FRAME]
def fieldsFab : List Fld :=
  [F.FAB_GLOBAL_CTRL_CARD, F.FAB_GLOBAL_CTRL_AUTO_REMAP, F.FAB_GLOBAL_CTRL_FAIL_MS, F.FAB_EVENT_LANE_FAIL, F.FAB_EVENT_REMAP_DONE, F.FAB_EVENT_REMAP_FAIL] ++
  [F.FAB_EVENT_HOTPLUG, F.FAB_EVENT_VIOLATION, F.FAB_EVENT_CFG_REFUSED, F.FAB_EVENT_WIRING, F.FAB_SPARE_CFG_PHYS, F.FAB_SPARE_CFG_LO] ++
  [F.FAB_SPARE_CFG_HI, F.FAB_SPARE_CFG_VALID, F.FAB_SPARE_CFG_WARM, F.FAB_SPARE_CFG_IN_USE, F.FAB_REMAP_CTRL_START, F.FAB_REMAP_CTRL_ABORT] ++
  [F.FAB_REMAP_CTRL_HITLESS, F.FAB_REMAP_CTRL_RETIRE, F.FAB_REMAP_CTRL_LOGICAL, F.FAB_REMAP_CTRL_ROLE, F.FAB_REMAP_STATUS_STATE, F.FAB_REMAP_STATUS_AUTO] ++
  [F.FAB_REMAP_STATUS_LOGICAL, F.FAB_REMAP_STATUS_OLD, F.FAB_REMAP_STATUS_NEW, F.FAB_REMAP_STATUS_REASON, F.FAB_LMAP_PHYS, F.FAB_LANE_CTRL_STATE_REQ] ++
  [F.FAB_LANE_CTRL_FORERUNNER, F.FAB_LANE_CTRL_CLASS, F.FAB_LANE_CTRL_GRANT, F.FAB_LANE_STATUS_STATE, F.FAB_LANE_STATUS_SIG_DET, F.FAB_LANE_STATUS_FRAME_LOCK] ++
  [F.FAB_LANE_STATUS_PARTNER_READY, F.FAB_LANE_STATUS_LOGICAL, F.FAB_LANE_STATUS_FAIL_EV, F.FAB_LANE_STATUS_HOTPLUG_EV, F.FAB_LANE_STATUS_CFG_REFUSED, F.FAB_LANE_STATUS_WIRING_EV] ++
  [F.FAB_LANE_PARTNER_CARD_ID, F.FAB_LANE_PARTNER_PARTNER_LANE, F.FAB_LANE_PARTNER_RX_LOCK, F.FAB_LANE_PARTNER_DEGRADED, F.FAB_LANE_PARTNER_TEST_REQ, F.FAB_LANE_EQ_TX_PRE] ++
  [F.FAB_LANE_EQ_TX_POST, F.FAB_LANE_EQ_CTLE, F.FAB_LANE_EQ_ADAPT_FREEZE, F.FAB_LANE_EYE_HEIGHT, F.FAB_LANE_EYE_WIDTH, F.FAB_LANE_FEC_CORR_SYM] ++
  [F.FAB_LANE_FEC_UNCORR, F.FAB_LANE_FEC_CELL_LOST, F.FAB_LANE_CNT_LOCK_LOSS, F.FAB_LANE_CNT_VIOL, F.FAB_LANE_TEST_START, F.FAB_LANE_TEST_STOP] ++
  [F.FAB_LANE_TEST_PATTERN, F.FAB_LANE_TEST_LOOP, F.FAB_LANE_TEST_INJ_SYM, F.FAB_LANE_TEST_INJ_BER, F.FAB_LANE_TEST_GRANT, F.FAB_LANE_TEST_RUNNING] ++
  [F.FAB_LANE_TEST_SYNC, F.FAB_LANE_TEST_ERR_BITS, F.FAB_LANE_TEST_BITS_M]
def fieldsMedia : List Fld :=
  [F.MEDIA_EVENT_FLOW_REFUSED, F.MEDIA_EVENT_FLOW_WR_REFUSED, F.MEDIA_EVENT_LINK, F.MEDIA_EVENT_RX_OVF, F.MEDIA_EVENT_VIOLATION, F.MEDIA_EVENT_TX_LATE] ++
  [F.MEDIA_EVENT_SEAL_FAIL, F.MEDIA_EVENT_RING_ERR, F.MEDIA_FLOW_CTRL_INDEX, F.MEDIA_FLOW_CTRL_OP, F.MEDIA_FLOW_CTRL_GO, F.MEDIA_FLOW_STATUS_INDEX] ++
  [F.MEDIA_FLOW_STATUS_RESULT, F.MEDIA_FLOW_STATUS_BUSY, F.MEDIA_AUD_POOL_FREE, F.MEDIA_PORT_CFG_SPLIT, F.MEDIA_PORT_CFG_PHY, F.MEDIA_PORT_CFG_AN_EN] ++
  [F.MEDIA_PORT_CFG_LT_EN, F.MEDIA_PORT_STATUS_LINK, F.MEDIA_PORT_STATUS_FEC_DEGRADED, F.MEDIA_PORT_FEC_CORR, F.MEDIA_PORT_FEC_UNCORR, F.MEDIA_LPORT_CFG_EN] ++
  [F.MEDIA_LPORT_CFG_PAUSE_OBEY, F.MEDIA_LPORT_CFG_HOST_MCAST, F.MEDIA_LPORT_CFG_HOSTQ_EN, F.MEDIA_LPORT_CFG_MAXLEN, F.MEDIA_LPORT_STATUS_LINK, F.MEDIA_LPORT_STATUS_PAUSED] ++
  [F.MEDIA_LPORT_STATUS_CFG_REFUSED, F.MEDIA_LPORT_STATUS_LINK_EV, F.MEDIA_MAC_LO, F.MEDIA_MAC_HI, F.MEDIA_MAC_EN, F.MEDIA_LPORT_CNT_RX_FRAMES] ++
  [F.MEDIA_LPORT_CNT_RX_BYTES_LO, F.MEDIA_LPORT_CNT_RX_BYTES_HI, F.MEDIA_LPORT_CNT_TX_FRAMES, F.MEDIA_LPORT_CNT_TX_BYTES_LO, F.MEDIA_LPORT_CNT_TX_BYTES_HI, F.MEDIA_LPORT_CNT_FCS_ERR] ++
  [F.MEDIA_LPORT_CNT_LEN_ERR, F.MEDIA_LPORT_CNT_CSUM_ERR, F.MEDIA_LPORT_CNT_NOMATCH_MAC, F.MEDIA_LPORT_CNT_NOMATCH_FLOW, F.MEDIA_LPORT_CNT_RX_OVF, F.MEDIA_LPORT_CNT_PAUSE_RX] ++
  [F.MEDIA_LPORT_CNT_CTRL_DROP, F.MEDIA_LPORT_CNT_TX_LATE, F.MEDIA_LPORT_CNT_HOSTQ_DROP, F.MEDIA_RING_RXR_BASE_LO, F.MEDIA_RING_RXR_BASE_HI, F.MEDIA_RING_RXR_LOG2] ++
  [F.MEDIA_RING_RXR_EN, F.MEDIA_RING_RXR_TAIL, F.MEDIA_RING_RXR_HEAD, F.MEDIA_RING_TXR_BASE_LO, F.MEDIA_RING_TXR_BASE_HI, F.MEDIA_RING_TXR_LOG2] ++
  [F.MEDIA_RING_TXR_EN, F.MEDIA_RING_TXR_TAIL, F.MEDIA_RING_TXR_HEAD]
def fieldsMgt : List Fld :=
  [F.MGT_CFG_SPEED, F.MGT_CFG_EN, F.MGT_CFG_PAUSE_OBEY, F.MGT_CFG_HOST_MCAST, F.MGT_CFG_EEE_EN, F.MGT_CFG_AN_EN] ++
  [F.MGT_CFG_LPI_IDLE, F.MGT_CFG_MAXLEN, F.MGT_STATUS_LINK, F.MGT_STATUS_PAUSED, F.MGT_STATUS_CFG_REFUSED, F.MGT_STATUS_LINK_EV] ++
  [F.MGT_STATUS_LPI, F.MGT_MAC_LO, F.MGT_MAC_HI, F.MGT_MAC_EN, F.MGT_CNT_RX_FRAMES, F.MGT_CNT_RX_BYTES_LO] ++
  [F.MGT_CNT_RX_BYTES_HI, F.MGT_CNT_TX_FRAMES, F.MGT_CNT_TX_BYTES_LO, F.MGT_CNT_TX_BYTES_HI, F.MGT_CNT_FCS_ERR, F.MGT_CNT_LEN_ERR] ++
  [F.MGT_CNT_CSUM_ERR, F.MGT_CNT_NOMATCH_MAC, F.MGT_CNT_NOMATCH_FLOW, F.MGT_CNT_RX_OVF, F.MGT_CNT_PAUSE_RX, F.MGT_CNT_CTRL_DROP] ++
  [F.MGT_CNT_TX_LATE, F.MGT_CNT_HOSTQ_DROP, F.MGT_RING_RXR_BASE_LO, F.MGT_RING_RXR_BASE_HI, F.MGT_RING_RXR_LOG2, F.MGT_RING_RXR_EN] ++
  [F.MGT_RING_RXR_TAIL, F.MGT_RING_RXR_HEAD, F.MGT_RING_TXR_BASE_LO, F.MGT_RING_TXR_BASE_HI, F.MGT_RING_TXR_LOG2, F.MGT_RING_TXR_EN] ++
  [F.MGT_RING_TXR_TAIL, F.MGT_RING_TXR_HEAD]
def fieldsPtp : List Fld :=
  [F.PTP_CTRL_STEP_GO, F.PTP_CTRL_REARM, F.PTP_STATUS_ARMED, F.PTP_STATUS_PTP_LOCKED, F.PTP_STATUS_STEP_GEN, F.PTP_STATUS_STEP_REFUSED] ++
  [F.PTP_STATUS_REARM_REFUSED, F.PTP_STATUS_RATE_REFUSED, F.PTP_ADDEND_ADD_LO, F.PTP_ADDEND_ADD_HI, F.PTP_STEP_NS_LO, F.PTP_STEP_NS_HI] ++
  [F.PTP_STEP_FRAC, F.PTP_PORT_CFG_CORR_EN, F.PTP_PORT_CFG_RXTS_EN, F.PTP_PORT_CFG_EXTRA_RX, F.PTP_PORT_CFG_EXTRA_TX, F.PTP_TXQ_COUNT] ++
  [F.PTP_TXQ_OVF, F.PTP_TXQ_IRQ, F.PTP_TXQ_LOST, F.PTP_TXQ_POP, F.PTP_TXQ_ENTRY0, F.PTP_TXQ_ENTRY1] ++
  [F.PTP_TXQ_ENTRY2, F.PTP_TXQ_ENTRY3]
def fieldsCobalt : List Fld :=
  [F.COBALT_CTRL_PAIR_EN, F.COBALT_CTRL_ROLE_REQ, F.COBALT_CTRL_TWINREF_AUTO, F.COBALT_CTRL_TAKE_ON_SILENCE, F.COBALT_CTRL_TAKE, F.COBALT_CTRL_RESYNC] ++
  [F.COBALT_CTRL_SWAP_AUTO, F.COBALT_CTRL_SWAP_PERIOD, F.COBALT_CFG_ACK_TIMEOUT, F.COBALT_CFG_SILENT_MS, F.COBALT_CFG_ATTR_THR, F.COBALT_STATUS_PAIR_STATE] ++
  [F.COBALT_STATUS_ROLE, F.COBALT_STATUS_LINK_UP, F.COBALT_STATUS_PEER_OWN, F.COBALT_STATUS_LANES_UP, F.COBALT_STATUS_FAIL_REASON, F.COBALT_EVENT_PAIRED] ++
  [F.COBALT_EVENT_PAIR_FAIL, F.COBALT_EVENT_LINK_LOST, F.COBALT_EVENT_GAVE_UP, F.COBALT_EVENT_TOOK_OWN, F.COBALT_EVENT_SWAP_DONE, F.COBALT_EVENT_SWAP_REFUSED] ++
  [F.COBALT_EVENT_ACK_TIMEOUT, F.COBALT_EVENT_MISMATCH, F.COBALT_EVENT_STBY_REFUSED, F.COBALT_EVENT_VIOLATION, F.COBALT_SWAP_CTRL_GO, F.COBALT_SWAP_CTRL_CANCEL] ++
  [F.COBALT_SWAP_CTRL_STATE, F.COBALT_SWAP_CTRL_REASON, F.COBALT_SWAP_TGT_FRAME_LO, F.COBALT_SWAP_TGT_FRAME_HI, F.COBALT_SWAP_NEXT_FRAME_LO, F.COBALT_SWAP_NEXT_FRAME_HI] ++
  [F.COBALT_DELAY_ONE_WAY, F.COBALT_DELAY_SKEW, F.COBALT_DIG_CNT_MATCH_FRAMES, F.COBALT_DIG_CNT_ATTR_SELF, F.COBALT_DIG_CNT_ATTR_PEER, F.COBALT_DIG_CNT_ATTR_INPUT] ++
  [F.COBALT_DIG_CNT_ATTR_UNKNOWN, F.COBALT_DIG_CNT_MISMATCH_GROUPS, F.COBALT_LANE_CLASS, F.COBALT_LANE_FRAME_LOCK, F.COBALT_LANE_STATE, F.COBALT_LANE_UNCORR] ++
  [F.COBALT_LANE_RETX]
def fieldsAdmit : List Fld :=
  [F.ADMIT_CEILING_CEIL, F.ADMIT_STATUS_BUDGET, F.ADMIT_STATUS_OVER_PWR, F.ADMIT_STATUS_OVER_BW, F.ADMIT_STATUS_THERM_HOLD, F.ADMIT_STATUS_TEMP_ALARM] ++
  [F.ADMIT_STATUS_REFUSED, F.ADMIT_STATUS_TIMEOUT, F.ADMIT_STATUS_RECLAIM_REFUSED, F.ADMIT_STATUS_AVS_FAULT, F.ADMIT_STATUS_WARN_EV, F.ADMIT_STATUS_ALARM_EV] ++
  [F.ADMIT_USE_PWR_C, F.ADMIT_USE_PWR_M, F.ADMIT_USE_WR_CHARGE, F.ADMIT_USE_RD_CHARGE, F.ADMIT_USE_PIX_CHARGE, F.ADMIT_QUEUE_WAITING] ++
  [F.ADMIT_ASK_CLASS, F.ADMIT_ASK_INSTANCE, F.ADMIT_ASK_PARAM, F.ADMIT_ASK_GO, F.ADMIT_ASK_CANCEL, F.ADMIT_ASK_WAIT] ++
  [F.ADMIT_ASK_TOKEN, F.ADMIT_ASK_RESULT, F.ADMIT_ASK_STATE, F.ADMIT_GIVE_TOKEN, F.ADMIT_GIVE_RECLAIM, F.ADMIT_GIVE_GO] ++
  [F.ADMIT_GIVE_RESULT, F.ADMIT_THERM_CFG_WARN, F.ADMIT_THERM_CFG_ALARM, F.ADMIT_THERM_CFG_HYST, F.ADMIT_TEMP_TJ, F.ADMIT_TEMP_HOTTEST] ++
  [F.ADMIT_TEMP_PEAK, F.ADMIT_AVS_CFG_MARGIN, F.ADMIT_AVS_CFG_SLACK_LO, F.ADMIT_AVS_CFG_SLACK_HI, F.ADMIT_AVS_CFG_SLACK_EMER, F.ADMIT_AVS_CTRL_VMAX] ++
  [F.ADMIT_AVS_CTRL_FREEZE, F.ADMIT_AVS_STATUS_TARGET, F.ADMIT_AVS_STATUS_V_FUSE, F.ADMIT_AVS_STATUS_S_MIN, F.ADMIT_AVS_STATUS_BUS_OK, F.ADMIT_LEDGER_CLASS] ++
  [F.ADMIT_LEDGER_INSTANCE, F.ADMIT_LEDGER_HOLDER, F.ADMIT_LEDGER_VALID, F.ADMIT_LEDGER_TAG, F.ADMIT_LEDGER_PARAM]
def fieldsVermilion : List Fld :=
  [F.FLT_STATUS_SRC, F.FLT_SEVERE_SRC, F.FLT_MASK_SRC, F.FLT_CAUSE_SRC, F.FLT_CLR_STATUS_CLR_FAIL, F.FLT_CLR_STATUS_FAIL_SRC] ++
  [F.FLT_CFG_HOLD_LIM, F.FLT_CFG_IRQ_ANY, F.FLT_VLOG_PTR_NEXT, F.FLT_VLOG_PTR_WRAPS, F.FLT_SRC_CFG_N, F.FLT_SRC_CFG_W] ++
  [F.FLT_SRC_CFG_ACTION, F.FLT_SRC_STAT_COUNT, F.FLT_SRC_STAT_IN_WIN, F.FLT_SRC_STAT_PARTNER_ONLY, F.FLT_SRC_STAT_FIRST_FRAME, F.FLT_SRC_STAT_LAST_FRAME] ++
  [F.FLT_VLOG_WORD]
def fieldsWear : List Fld :=
  [F.WEAR_HOURS_HOURS, F.WEAR_CFG_WEAR_WARN, F.WEAR_HIST_CTRL_SAVE, F.WEAR_HIST_CTRL_RESTORE, F.WEAR_HIST_CTRL_RESTORED, F.WEAR_HIST_CTRL_RESTORE_REFUSED] ++
  [F.WEAR_HIST_CTRL_OTP_STEPS, F.WEAR_SPARES_LANES, F.WEAR_SPARES_PLANE, F.WEAR_SPARES_ENGINE, F.WEAR_SPARES_SYNTHS, F.WEAR_SPARES_HEADS] ++
  [F.WEAR_SPARES_RECORDERS, F.WEAR_SPARES_PLAYERS, F.WEAR_SPARES_REPAIRS, F.WEAR_REPAIR_SOFT, F.WEAR_REPAIR_PROMOTE, F.WEAR_REPAIR_NO_SPARE] ++
  [F.WEAR_SUBST_CTRL_START, F.WEAR_SUBST_CTRL_ABORT, F.WEAR_SUBST_CTRL_KIND, F.WEAR_SUBST_CTRL_TEST, F.WEAR_SUBST_CTRL_TARGET, F.WEAR_SUBST_CTRL_SPARE] ++
  [F.WEAR_SUBST_CTRL_GRANT, F.WEAR_SUBST_STATUS_STATE, F.WEAR_SUBST_STATUS_PASS, F.WEAR_SUBST_STATUS_SCALER_UNTESTED, F.WEAR_SUBST_STATUS_MISMATCH, F.WEAR_SCRUB_START] ++
  [F.WEAR_SCRUB_STOP, F.WEAR_SCRUB_GRANT, F.WEAR_SCRUB_RUNNING, F.WEAR_SCRUB_PROGRESS, F.WEAR_SCRUB_POISON_FOUND, F.WEAR_DOM_STATE] ++
  [F.WEAR_DOM_MONTHS, F.WEAR_DOM_LOW, F.WEAR_DOM_HIGH, F.WEAR_DOM_MONITOR, F.WEAR_HIST_WORD]
def fieldsHostif : List Fld :=
  [F.HOSTIF_EVENT_SUM_DONE, F.HOSTIF_EVENT_SUM_REFUSED, F.HOSTIF_EVENT_DMA_ERR, F.HOSTIF_EVENT_UNMAPPED, F.HOSTIF_EVENT_MASTER_RESET, F.HOSTIF_EVENT_LOCK_BROKEN] ++
  [F.HOSTIF_EVENT_TLD_DONE, F.HOSTIF_RESYNC_GO, F.HOSTIF_RESYNC_FULL, F.HOSTIF_SUM_BASE_LO, F.HOSTIF_SUM_BASE_HI, F.HOSTIF_SUM_CFG_EN] ++
  [F.HOSTIF_SUM_CFG_BIG, F.HOSTIF_SUM_STATUS_STATE, F.HOSTIF_SUM_STATUS_REQUESTER, F.HOSTIF_SUM_SEQ_SEQ, F.HOSTIF_DMA_ERR_STRUCT, F.HOSTIF_DMA_ERR_ADDR_LO] ++
  [F.HOSTIF_DMA_ERR_ADDR_HI, F.HOSTIF_MLOG_MASTER, F.HOSTIF_MLOG_TARGET, F.HOSTIF_MLOG_WRITE, F.HOSTIF_MLOG_BEATS_LEFT, F.HOSTIF_MLOG_LOCKED] ++
  [F.HOSTIF_MLOG_CNT_COUNT, F.HOSTIF_UNMAPPED_OFFSET, F.HOSTIF_UNMAPPED_BAR2, F.HOSTIF_TLD_ADDR_LO, F.HOSTIF_TLD_ADDR_HI, F.HOSTIF_TLD_OFFSET] ++
  [F.HOSTIF_TLD_LEN, F.HOSTIF_TLD_GO, F.HOSTIF_TLD_ABORT, F.HOSTIF_TLD_DIR, F.HOSTIF_TLD_STATE, F.HOSTIF_TLD_REFUSED_CNT] ++
  [F.HOSTIF_PARK_PARK_MODE, F.HOSTIF_PARK_PARK_MASTER, F.HOSTIF_VMAP_VECTOR, F.MSIX_TABLE_ADDR_LO, F.MSIX_TABLE_ADDR_HI, F.MSIX_TABLE_DATA] ++
  [F.MSIX_TABLE_MASK, F.MSIX_PBA_PENDING]
def fieldsKeys : List Fld :=
  [F.KEYS_STATUS_ROOT_OK, F.KEYS_STATUS_TEST_ROOT, F.KEYS_STATUS_ENROLLED, F.KEYS_STATUS_TRNG_OK, F.KEYS_STATUS_OTP_CTR, F.KEYS_EVENT_UPD_DONE] ++
  [F.KEYS_EVENT_UPD_REFUSED, F.KEYS_EVENT_TRNG_FAIL, F.KEYS_UPD_CTRL_GO, F.KEYS_UPD_CTRL_CLEAR, F.KEYS_UPD_CTRL_STATE, F.KEYS_UPD_CTRL_RESULT] ++
  [F.KEYS_UPD_CTRL_BAD_ENTRY, F.KEYS_NONCE_LO, F.KEYS_NONCE_HI, F.KEYS_UPD_FAILS_COUNT, F.KEYS_SLOT_ATTR_VALID, F.KEYS_SLOT_ATTR_REVOKED] ++
  [F.KEYS_SLOT_ATTR_USE, F.KEYS_SLOT_ATTR_DEBUG_PERMITTED, F.KEYS_SLOT_ATTR_LOCKED, F.KEYS_SLOT_ATTR_COUNTER_BOUND, F.KEYS_SLOT_ATTR_KEY_ID, F.KEYS_SLOT_ATTR_WRITE_CTR] ++
  [F.KEYS_MSG_WORD]
def fieldsProbe : List Fld :=
  [F.PROBE_CFG_RASTER, F.PROBE_CFG_IRQ, F.PROBE_CFG_BLK_THR, F.PROBE_CFG_FRZ, F.PROBE_RES_CRC, F.PROBE_RES_YMIN] ++
  [F.PROBE_RES_YMAX, F.PROBE_RES_FRAME, F.PROBE_RES_BLACK, F.PROBE_RES_FREEZE, F.PROBE_RES_NOSIG]
def fieldsCxlp : List Fld :=
  [F.CXLP_PORT_CTRL_RETRAIN, F.CXLP_PORT_CTRL_RETRAIN_REFUSED, F.CXLP_PORT_STATUS_STATE, F.CXLP_PORT_STATUS_REASON, F.CXLP_PORT_STATUS_SPEED, F.CXLP_PORT_STATUS_WIDTH] ++
  [F.CXLP_PORT_STATUS_CAP_UNITS, F.CXLP_FREE_PAGES, F.CXLP_SPARE_PAGES, F.CXLP_CE_CNT_COUNT, F.CXLP_POISON_CNT_COUNT, F.CXLP_TIMEOUT_CNT_COUNT] ++
  [F.CXLP_MARKED_REGIONS, F.CXLP_BW_MEAS_WR, F.CXLP_BW_MEAS_RD]

/-- The blocks of Table 20-1 in the order of their bases. -/
inductive Block
  | top | slate | refsel | synth | xpt | align | cue | sable | ochre | audio | tdm | fab | media | mgt | ptp | cobalt
  | admission | vermilion | wear | hostif | keys | probe | cxlp
deriving DecidableEq, Repr

/-- The block a BAR0 byte offset lies in (Table 20-1, R496). -/
def blockOf (off : Nat) : Option Block :=
  if off < 0x10000 then some .top else if off < 0x20000 then some .slate else if off < 0x30000 then some .refsel
  else if off < 0x40000 then some .synth else if off < 0x50000 then some .xpt else if off < 0x60000 then some .align
  else if off < 0x80000 then some .cue else if off < 0xA0000 then some .sable else if off < 0xC0000 then some .ochre
  else if off < 0xD0000 then some .audio else if off < 0xE0000 then some .tdm else if off < 0x100000 then some .fab
  else if off < 0x120000 then some .media else if off < 0x130000 then some .mgt else if off < 0x140000 then some .ptp
  else if off < 0x150000 then some .cobalt else if off < 0x160000 then some .admission
  else if off < 0x170000 then some .vermilion else if off < 0x180000 then some .wear
  else if off < 0x190000 then some .hostif else if off < 0x1A0000 then some .keys
  else if off < 0x1B0000 then some .probe else if off < 0x1C0000 then some .cxlp else none

/-- The fields of a block. -/
def Block.fields : Block → List Fld
  | .top => fieldsTop
  | .slate => fieldsSlate
  | .refsel => fieldsRefsel
  | .synth => fieldsSynth
  | .xpt => fieldsXpt
  | .align => fieldsAlign
  | .cue => fieldsCue
  | .sable => fieldsSable
  | .ochre => fieldsOchre
  | .audio => fieldsAudio
  | .tdm => fieldsTdm
  | .fab => fieldsFab
  | .media => fieldsMedia
  | .mgt => fieldsMgt
  | .ptp => fieldsPtp
  | .cobalt => fieldsCobalt
  | .admission => fieldsAdmit
  | .vermilion => fieldsVermilion
  | .wear => fieldsWear
  | .hostif => fieldsHostif
  | .keys => fieldsKeys
  | .probe => fieldsProbe
  | .cxlp => fieldsCxlp

/-- The copy of field `f` that starts in the 32-bit word at byte offset `off`, if there is one (R498). Fields with a bit
stride have several copies in one word: `copiesIn` gives them all, with their bit number in the word. -/
def Fld.copiesIn (f : Fld) (off : Nat) : List (Nat × Nat) :=
  let lo := off * 8
  if f.n2 ≤ 1 then
    if f.s1 = 0 then (if lo ≤ f.base && f.base < lo + 32 then [(0, f.base - lo)] else [])
    else if f.s1 < 32 then
      if lo + 32 ≤ f.base then [] else
        ((List.range 32).filterMap fun k =>
          let i0 := if lo ≤ f.base then 0 else (lo - f.base + f.s1 - 1) / f.s1
          let i := i0 + k
          let b := f.base + i * f.s1
          if i < f.n1 && lo ≤ b && b < lo + 32 then some (i, b - lo) else none)
    else
      let sh := f.base % 32
      if lo + sh < f.base then [] else
        let d := lo + sh - f.base
        if d % f.s1 = 0 && d / f.s1 < f.n1 then [(d / f.s1, sh)] else []
  else
    let sh := f.base % 32
    if lo + sh < f.base then [] else
      let d := lo + sh - f.base
      let i := d / f.s1
      let r := d % f.s1
      if i < f.n1 && r % f.s2 = 0 && r / f.s2 < f.n2 then [(i * f.n2 + r / f.s2, sh)] else []

/-- Every field copy of the word at byte offset `off`: the field, the copy number and its bit number in the word. -/
def fieldsAt (off : Nat) : List (Fld × Nat × Nat) :=
  match blockOf off with
  | none => []
  | some b => b.fields.flatMap fun f => (f.copiesIn off).map fun c => (f, c.1, c.2)

end Sys2Proof
end

