-- ==== Sys2Proof/Machine/State.lean ====
section
/-! DEFINITION. The state of the FM1152: every register field (`regs`, read and written through Machine/Ops.lean), and
the state the spec gives the device beside its registers, one structure per chapter; the outcomes' reason types; the
state after reset. All of it is plain data. -/
namespace Sys2Proof.Machine

/-- PTP time (R27): seconds, nanoseconds below 10^9, 2^-16 ns, and the residue below the fraction that R388 carries, in
units of 2^-16 ns / (5 * 2^64). -/
structure PtpTime where
  sec : Nat := 0
  ns : Nat := 0
  frac : Nat := 0
  res : Nat := 0
deriving DecidableEq, Repr

/-- What a raster holds beside its registers (R28, R42): its house position, the sample phase accumulator, the values in
force for the current frame (the switch line in force is SLATE_RASTER_STATUS SWLINE_EFF), the frame whose start has been
applied, whether the next frame starts COUNT numbering (R32), and how often the raster has been disabled (R131). -/
structure Raster where
  pos : Pos := ⟨0, 0, 0⟩
  phase : Nat := 0
  latch : Nat := 0
  lead : Nat := 2
  f2sw : Nat := 0
  begun : Nat := 0
  seedNext : Bool := false
  offs : Nat := 0
deriving DecidableEq, Repr

/-- One general-purpose input (R49): its input level, the house clock, PTP time and raster positions at which the input first
showed the present level, and whether that level still waits for its filter. -/
structure Gpi where
  raw : Bool := false
  since : Nat := 0
  stamp : PtpTime := {}
  at8 : List Pos := []
  waiting : Bool := false
deriving DecidableEq, Repr

/-- What one CORE clock has done to the outputs (R53): the clock, the levels that immediate writes gave, and the MASK and VALUE of
the schedule entries that applied in it, by index. -/
structure GpoClock where
  at' : Nat
  base : Nat
  ents : Tab (Nat × Nat) := []
deriving DecidableEq, Repr

/-- The part of a crosspoint entry both tables hold (Table 5-3). -/
structure XEnt where
  src : Nat := 0
  routed : Bool := false
  width : Nat := 0
  loss : Nat := 0
  gen : Nat := 0
  oow : Bool := false
deriving DecidableEq, Repr

/-- An entry of the shadow crosspoint table: the staged value and the shadow-only fields of Table 5-3. -/
structure XShadow where
  ent : XEnt := {}
  stager : Nat := 0
  staged : Bool := false
  pending : Bool := false
  cid : Nat := 0
deriving DecidableEq, Repr

/-- Where one commit takes effect on one raster (R129, R130): the frame and switch line fixed at acceptance, and what
became of it there: 0 waiting, 1 applied, 2 discarded; and the raster's count of disablings then. -/
structure Effect where
  raster : Nat
  frame : Nat
  line : Nat
  fate : Nat := 0
  offs : Nat := 0
deriving DecidableEq, Repr

/-- A crosspoint commit in flight (R128): identifier, master (0-4 engine number, 7 host), captured destination slots, and
the named raster's and every other raster's effect. -/
structure XCommit where
  cid : Nat
  master : Nat
  named : Nat
  dests : List Nat
  effects : List Effect
deriving DecidableEq, Repr

/-- Window state of a port against one raster (R113): a frame start has been measured, the route is inside, the run of frames
within W - HYST, the last frame offset of the group's first strand in samples, each strand's offset on its last line, the strands
whose aligner wait is out of range, and the raster's count of disablings when all this was measured. -/
structure Window where
  measured : Bool := false
  inside : Bool := false
  run : Nat := 0
  ofs : Int := 0
  lines : Tab Int := []
  outOf : List Nat := []
  offs : Nat := 0
deriving DecidableEq, Repr

/-- A strand of an ingress group (R100, R101, R106): its run of good lines of equal length, its run of bad lines, whether it is
locked, and the lines judged since; the flywheel: layout code (0 SD, 1 PAIR, 2 3G), words of a channel's line, place of the EAV, line
of the strand's structure (0: not known); F and V of the last line, whether F was seen since the last end of a frame's picture, the
lines since it, how many there have been since the lock (up to 2), the total lines and field structure it showed; its run of lines from line 1 on whose line
number mismatched; and the CORE clock of its last frame start. -/
structure Strand where
  good : Nat := 0
  bad : Nat := 0
  locked : Bool := false
  age : Nat := 0
  lay : Nat := 0
  len : Nat := 0
  eav : Nat := 0
  line : Nat := 0
  f : Bool := false
  v : Bool := false
  fSeen : Bool := false
  cnt : Nat := 0
  refs : Nat := 0
  total : Nat := 0
  inter : Bool := false
  lnRun : Nat := 0
  start : Nat := 0
deriving DecidableEq, Repr

/-- A line that an aligner or an IP line buffer holds (R111): its line in the strand's structure, its words, whether its CRC failed on
arrival, and the CORE clock at which it was dated. -/
structure AlLine where
  line : Nat
  words : List Nat
  crcBad : Bool := false
  at' : Nat := 0
deriving DecidableEq, Repr

/-- Detection state of one port (R101-R103, R106): the format of the last complete frame as structure, rate and class, the complete
frames it has stood, the payload ID seen last with its frames, whether this frame has shown one, the frames without one, the strands
whose frame start has been measured since the last skew, and the line last counted in CRC_ERR with its clock. -/
structure PortDet where
  cand : Nat × Nat × Nat := (0, 0, 0)
  frames : Nat := 0
  pidCand : Nat := 0
  pidRun : Nat := 0
  pidNow : Option Nat := .none
  pidGap : Nat := 0
  started : List Nat := []
  crcLine : Nat × Nat := (0, 0)
deriving DecidableEq, Repr

/-- The digest of one strand (R406): the register, the active bytes taken and an error met in its frame so far, and the register, bytes
and error of the frame that ended last. -/
structure DigRun where
  reg : Nat := 0xFFFFFFFF
  bytes : Nat := 0
  bad : Bool := false
  out : Nat × Nat := (0xFFFFFFFF, 0)
  outBad : Bool := false
deriving DecidableEq, Repr

/-- A probe (R139): the CRC published last and the frames it has stood; the loss policy was in force in the present frame; and of the
frame's lines forwarded so far, the running CRC and the least and greatest luma; the egress frame they belong to. -/
structure ProbeRun where
  crc : Nat := 0
  run : Nat := 0
  subst : Bool := false
  acc : Nat := 0xFFFFFFFF
  lo : Nat := 1023
  hi : Nat := 0
  frame : Nat := 0
deriving DecidableEq, Repr

/-- A timeline comparator of a cue engine (R144, R159): what arms it (0 disarmed, 1 a suspended WAIT, 2 a WAIT with ARM,
3 the timeout of WAITEV, ASK or TSYNC) and the position it compares. -/
structure Cmp where
  purpose : Nat := 0
  raster : Nat := 0
  pos : Pos := ⟨0, 0, 0⟩
deriving DecidableEq, Repr

/-- What a waiting engine waits for (R159, R160, R166, R167, R169, R214). Register operands are kept with the wait; a
commit's wait for its acknowledgement keeps the house clock it began at, its code and its refusal detail. -/
inductive Wait
  | none
  | pos (x : Nat)
  | event (mask : Nat) (dst : Option Nat) (tmo : Option Nat)
  | tsync (id mask tmo : Nat)
  | fence
  | ask (dst : Nat) (tmo : Option Nat)
  | commit (since code : Nat) (detail : Option Nat)
deriving DecidableEq, Repr

/-- The cue window (R152, R155): the record's body, the draw from which the words beyond it are numbered (free values), its
SEQ and NOTIFY, and the return-stack depth of the CALL that entered it while the record executes. -/
structure CueWin where
  words : List Nat
  fill : Nat
  seq : Nat
  notify : Bool
  depth : Option Nat := .none
deriving DecidableEq, Repr

/-- An engine number's state beside its registers (Table 6-1 and R147-R160). A return address of 0x4_0000 stands for the
built-in dispatcher of R154. On a standby: the mirrored values that wait, and how many CORE clocks after the active engine it took the
last one (R168, R220). -/
structure Eng where
  stack : List Nat := []
  cmps : Tab Cmp := []
  wait : Wait := .none
  win : Option CueWin := .none
  fetching : Bool := false
  runSince : Nat := 0
  wasIdle : Bool := false
  vals : List (List Nat) := []
  lag : Nat := 0
deriving DecidableEq, Repr

/-- A Cobalt message on its way: TYPE and body of 8-byte words (Tables 14-1 and 14-2), its SEQ, the house clock at which its last
transmission begins and its retransmissions, the lane, and its ACK and stamps. -/
structure Msg where
  typ : Nat
  body : List Nat
  seq : Nat := 0
  sent : Nat := 0
  tries : Nat := 0
  lane : Nat := 0
  ack : Nat := 0
  line : Nat := 0
  frame : Nat := 0
deriving DecidableEq, Repr

/-- What a received message carries beside its header, by TYPE (Table 14-2); `other`: a reserved TYPE. -/
inductive Received
  | hello (b : List Nat)
  | record (n : Nat) (ws : List Nat)
  | value (n pc kind : Nat) (at' : Pos) (v : List Nat)
  | cack (n pc : Nat)
  | hostw (space off : Nat) (at' : Pos) (data : List Nat)
  | digest (r frame : Nat) (es : List (Nat × Nat))
  | time (v : Nat)
  | echo (orig rx tx : Nat)
  | giveup
  | swap (op f : Nat)
  | state (o off : Nat) (ws : List Nat)
  | status (mode pair : Nat) (own resync low : Bool)
  | other (typ : Nat)
deriving DecidableEq, Repr

/-- The twin link and pair beside their registers (chapter 14): sequence numbers sent and expected, messages sent and not
acknowledged, the clock of the last reception, of the last STATUS sent, of the link's loss; the last TIME value with its clock;
the peer's mode and pair state, and its READY seen low; a state transfer asked of the peer, its copy sent, and the objects
installed; mirroring suspended until a transfer (R402); clean frames (R405), the clocks of frames attributed to SELF, the
digest lists last sent (2r) and received (2r + 1) per raster; a role swap's frame, proposal, agreement, deferrals, and the clock
from which the period runs; no more fetches (R413); HOLD by give-up (R409); SAFE entered from STANDALONE (R362); the GIVEUP that
left before the last cold reset (R458); the clock of the last loop delay measurement, until when each lane sends what is queued
on it, the messages that came out of order, and what has come of an object of the copy (R394-R396, R404). -/
structure Twin where
  txSeq : Nat := 0
  rxSeq : Nat := 0
  unacked : List Msg := []
  lastRx : Nat := 0
  lastStatus : Nat := 0
  lostAt : Nat := 0
  timeVal : Nat := 0
  timeAt : Option Nat := .none
  peerMode : Nat := 0
  peerPair : Nat := 0
  peerReset : Bool := false
  resyncAsked : Bool := false
  transferring : Bool := false
  got : List Nat := []
  alone : Bool := false
  cleanFrames : Nat := 0
  selfTimes : List Nat := []
  digests : Tab (List Nat) := []
  swapFrame : Nat := 0
  swapActive : Bool := false
  swapAgreed : Bool := false
  swapDefer : Nat := 0
  swapBase : Nat := 0
  fetchStop : Bool := false
  holdGive : Bool := false
  solo : Bool := false
  parting : Option Msg := .none
  lastEcho : Option Nat := .none
  lanes : Tab Nat := []
  held : List (CobHdr × Received) := []
  part : List Nat := []
deriving DecidableEq, Repr

/-- One event of a fault source's window (R430): its house clock and whether it is a partner event. -/
structure FltEvent where
  at' : Nat
  partner : Bool
deriving DecidableEq, Repr

/-- The fault collector beside its registers (chapter 16): the windows, the last device event of each source, the sources
that hold HOLD with the time they took it, and the time of the newest violation record. -/
structure Flt where
  win : Tab (List FltEvent) := []
  lastDev : Tab Nat := []
  holds : Tab Nat := []
  vlogAt : Nat := 0
  vlogKey : List Nat := []
deriving DecidableEq, Repr

/-- Pins and straps (chapters 1, 17, 21). FAULT_N, SEVERE_N, HOLD and OWN are computed from the registers. -/
structure Pins where
  rstN : Bool := false
  ready : Bool := false
  thermtripN : Bool := true
  dbgEn : Bool := false
  enrol : Bool := false
  smbAddr : Nat := 0
  tapIr : Nat := 0
  rstAt : Nat := 0
deriving DecidableEq, Repr

/-- A buffer's page (R224, R243): the port it lies on, the page number there, whether anything was written, whether it is
placed at all and whether it replaces one lost with a port (R248). -/
structure Page where
  port : Nat
  page : Nat
  written : Bool := false
  placed : Bool := true
  replaced : Bool := false
deriving DecidableEq, Repr

/-- A stored frame in its slot (R229, R237): its number, the clocks at which lines of its strand structure became complete in
every member strand, the next line to complete, whether a CRC error was met, the member strands that dropped a packet, the ancillary bytes used
per member strand, PTP time and payload ID of its dated start, and whether it is complete. -/
structure Stored where
  seq : Nat
  at' : Tab Nat := []
  next : Nat := 1
  crcSeen : Bool := false
  truncated : List Nat := []
  ancUsed : List Nat := []
  time : PtpTime := {}
  pid : Nat := 0
  done : Bool := false
deriving DecidableEq, Repr

/-- A descriptor (Table 8-4) and what Sable holds for it: its stored frames, newest first, its pages, the order number of
its freeing (R233), the engine that freed it, the lease in force before a write of this clock (R236), the clock of its BUFFREE
(R234), and whether it was there at the last state transfer, with the byte ranges written since (R405). -/
structure Desc where
  kind : Nat := 0
  width : Nat := 0
  struct : Nat := 0
  rate : Nat := 0
  state : Nat := 0
  damaged : Bool := false
  gen : Nat := 0
  capacity : Nat := 0
  exclude : Nat := 0
  leaseRaster : Nat := 0
  owner : Nat := 0
  lastRaster : Nat := 0
  lastValid : Bool := false
  lease : Nat := 0
  size : Nat := 0
  writeSeq : Nat := 0
  lastFrame : Nat := 0
  pages : List Page := []
  freedNo : Nat := 0
  freer : Nat := 0
  stored : List Stored := []
  leaseAt : Option Nat := .none
  leaseWas : Nat × Nat := (0, 0)
  freedAt : Option Nat := .none
  copied : Bool := false
  fresh : List (Nat × Nat) := []
deriving DecidableEq, Repr

/-- A recorder beside its registers (R212, R237, R238): RECSTOP asked, the number of the last frame started, and the numbers
of the frames whose lines are not all complete, oldest first, and the raster and egress frame of the generator frame begun last
(one past them). -/
structure Recorder where
  stopping : Bool := false
  seq : Nat := 0
  open' : List Nat := []
  genAt : Nat × Nat := (0, 0)
deriving DecidableEq, Repr

/-- The buffer and control word of a PLAY (R213), with the buffer's structure and rate. -/
structure PlaySet where
  handle : Nat
  depth : Nat
  chase : Bool
  raster : Nat
  st : Nat
  rate : Nat
deriving DecidableEq, Repr

/-- One line of a member strand as a player puts it out (R231, R240): black, or the stored active bytes; and the records of the
ancillary packets it puts back on the line. -/
structure PlayLine where
  black : Bool := true
  act : List Nat := []
  anc : List (List Nat) := []
deriving DecidableEq, Repr

/-- A player beside its registers (R213, R239-R241): the set in force and one that waits for its raster's next frame start
with the egress frame it was written in; the line after whose start a new player begins; the egress frame whose start has been
applied; the frame it plays and the one it falls back to for the rest of the frame (none: black), the next line to fetch; its
run of repeats; the width, structure and rate of the buffer PLAY named last; the line fetched last, by member strand; and whether this
frame repeats or drops one, so that its audio is missing (R295). -/
structure Player where
  set : PlaySet := ⟨0, 0, false, 0, 0, 0⟩
  next : Option (PlaySet × Nat) := .none
  beginAt : Option (Nat × Nat) := .none
  stopping : Bool := false
  fresh : Bool := true
  begun : Nat := 0
  last : Option Nat := .none
  torn : Bool := false
  shown : Option Nat := .none
  line : Nat := 1
  rep : Nat := 0
  everWidth : Nat := 0
  everStruct : Nat := 0
  everRate : Nat := 0
  ever : Bool := false
  out : List PlayLine := []
  mute : Bool := false
deriving DecidableEq, Repr

/-- A CXL port beside its registers (R225-R227): pages used, all its pages, the reserve pages remaining (the highest-numbered
ones), the clocks of its regions' errors, the marked regions, its weight, and the clocks of its last timeouts. -/
structure CxlPort where
  used : List Nat := []
  total : Nat := 0
  reserve : Nat := 0
  ces : Tab (List Nat) := []
  marked : List Nat := []
  weight : Nat := 0
  timeouts : List Nat := []
deriving DecidableEq, Repr

/-- The frame store beside its registers (chapter 8). Bytes written through BAR4 or by recorders lie in `bytes`, keyed by
descriptor index * 2^44 + byte offset; an unlisted byte was never written under its generation. `looped`: the placement loop
has run. -/
structure Sable where
  descs : Tab Desc := []
  freeNo : Nat := 1
  looped : Bool := false
  bytes : Tab Nat := []
  relq : List (List Nat) := []
  recs : Tab Recorder := []
  plays : Tab Player := []
  ports : Tab CxlPort := []
deriving DecidableEq, Repr

/-- A waiting admission request (R420): the master (engine number, 7 host), class, number of the unit asked for, PARAM. -/
structure AskReq where
  master : Nat
  cls : Nat
  inst : Nat
  param : Nat
deriving DecidableEq, Repr

/-- The admission unit, the thermal and the voltage loop beside their registers (chapter 15): the waiting requests, the charges
beyond BASE (R415), since when the slack is above SLACK_HI, the loop frozen by a failed transaction, THERMTRIP_N's latch, and
the targets last written to the regulator and last acknowledged by it; and the clocks of the last run of the loop, of its emergency check,
of the sensors and of the power monitors. -/
structure Adm where
  queue : List AskReq := []
  pwr : Nat := 0
  wr : Nat := 0
  rd : Nat := 0
  pix : Nat := 0
  hiSince : Option Nat := .none
  frozen : Bool := false
  trip : Bool := false
  written : Nat := 0
  acked : Nat := 0
  lastLoop : Option Nat := .none
  lastEmer : Option Nat := .none
  lastTemp : Option Nat := .none
  lastPower : Option Nat := .none
deriving DecidableEq, Repr

/-- The host port beside its registers (chapter 18): the answer to the last host read, capture registers of R500 keyed by master
and word; the SMBus target's offset, REFUSED and last answer; messages signalled per MSI-X vector; D3hot; the summary asked for
(FULL, sequence number, the earliest raster 0 position of its consistency point, the clock one microsecond after acceptance) and the
words of the record captured last; the words a table loader transfer OUT wrote to host memory; the event ring's slots and EVSEQ. -/
structure HostIf where
  lastRead : Nat := 0
  captures : Tab Nat := []
  smbOff : Nat := 0
  smbRefused : Bool := false
  smbRead : Nat := 0
  msgs : Tab Nat := []
  d3 : Bool := false
  sumFull : Bool := false
  sumSeq : Nat := 0
  sumAt : Pos := ⟨0, 0, 0⟩
  sumClk : Nat := 0
  sumImage : List Nat := []
  tldOut : List Nat := []
  evRing : Tab (List Nat) := []
  evSeq : Nat := 0
deriving DecidableEq, Repr


/-- An engine substitution in progress (R172, R173): its step (0 none, 1 COPY, 2 SWAP_WAIT), target number, whether it is
automatic, the fault code, faulting PC and SEQ it began from, and the physical engine in its self-test. -/
structure Subst where
  step : Nat := 0
  target : Nat := 0
  auto : Bool := false
  code : Nat := 0
  pc : Nat := 0
  seq : Nat := 0
  testing : Option Nat := .none
deriving DecidableEq, Repr


/-- A reference candidate beside its registers (R61-R64): it shows timing points; the house clock from which its QUAL time
runs; the clock of its last edge; its run of check intervals more than 0.5 % off; since when DRIFT_PCT is at or above
100, and below 40; its phase error as measured last, in house units, and its frequency against LOCOSC, in 0.001 ppm. -/
structure Cand where
  present : Bool := false
  since : Nat := 0
  seen : Bool := false
  lastEdge : Nat := 0
  rateRun : Nat := 0
  excess : Option Nat := .none
  under : Option Nat := .none
  phase : Int := 0
  freq : Int := 0
deriving DecidableEq, Repr

/-- A holdover history sample (R76): its house clock, whether the condition was LOCKED for its whole second, and the mean
control value, signed 48-bit. -/
structure HistS where
  at' : Nat
  ok : Bool
  val : Nat
deriving DecidableEq, Repr

/-- A PULL slew (R70-R72): since when, the phase it then had to remove (units of 2^-16 ns over 5^20), the frequency difference it then
had (units of 8e-19), MAXRATE and MAXFREQ of its profile (the same units, a clock and whole), and whether it removes BUILDOUT. -/
structure Slew where
  at' : Nat := 0
  phase : Int := 0
  freq : Int := 0
  rate : Nat := 1
  max : Nat := 0
  build : Bool := false
deriving DecidableEq, Repr

/-- The reference selector beside its registers (chapter 3): the candidates, the history record newest first, since when the
condition is LOCKED, the PULL slew in progress, the control value beside it (R69: what it left, what it moves to, since when, and the
change allowed a clock, 0 for at once; units of 8e-19), twice its sum over the clocks since the last history sample, whether acquisition
has begun, since when the phase error is below the stage's threshold, the frozen average, the start of holdover, and the last write of
PTP_VALID. -/
structure Refsel where
  cands : Tab Cand := []
  hist : List HistS := []
  lockedSince : Option Nat := .none
  slew : Option Slew := .none
  ctlFrom : Int := 0
  ctlTo : Int := 0
  ctlAt : Nat := 0
  ctlRate : Nat := 0
  ctlSum : Int := 0
  sumAt : Nat := 0
  acquired : Bool := false
  below : Option Nat := .none
  frozen : Option Nat := .none
  hoVal : Option Nat := .none
  hoAt : Nat := 0
  limitOut : Bool := false
  locoscFailed : Bool := false
  ptpWrite : Nat := 0
deriving DecidableEq, Repr

/-- A synthesiser beside its registers (R85, R86): since when it acquires after a lock loss, the domains it had covered or
served, its dither sequence's start, and the 1 ms gates in a row within 2 ppm and off by more than 20 ppm. -/
structure Synth where
  failedAt : Option Nat := .none
  near : Nat := 0
  far : Nat := 0
  covers : List Nat := []
  dither : Nat := 0
deriving DecidableEq, Repr

/-- A REFOUT (R89): the configuration words in force, whether a change waits for the end of a whole period, and the house time and
raster frame at which it began to wait. -/
structure Refout where
  cfg : Nat := 0
  freq : Nat := 0
  phase : Nat := 0
  waiting : Bool := false
  since : Nat := 0
  frame : Nat := 0
deriving DecidableEq, Repr


/-- A flow entry beside its 32 words (chapter 12): the house clock of its last accepted packet, the sequence number expected
next (send: to be sent next), the RTP timestamp of its last packet with whether that carried the marker, and, of a send ANC flow,
the frame and field it sends with the packets of it that have left. -/
structure FlowSt where
  lastRx : Option Nat := .none
  next : Option Nat := .none
  ts : Option Nat := .none
  marked : Bool := true
  part : Nat × Nat × Nat := (0, 0, 0)
deriving DecidableEq, Repr

/-- What the entries of one receive binding share (R371): the house clock of the last accepted packet, the sequence numbers used
in the last 10 ms with their clocks, the pixels arrived per picture line (frame * 8,192 + line: first pixel and components, in the
order of a packet), the ancillary packets of a bound ANC flow per strand line (frame * 8,192 + line: 2 * data stream, + 1 in
horizontal blanking, and the words), the components of the last complete picture line of a single strand, the strand line judged last
with its frame, the complete lines of that frame, a member that underran in it (R358), and loss (R359). -/
structure FlowBind where
  lastRx : Nat := 0
  seen : List (Nat × Nat) := []
  lines : Tab (List (Nat × List Nat)) := []
  anc : Tab (List (Nat × List Nat)) := []
  last : List Nat := []
  judged : Nat × Nat := (0, 0)
  good : Nat := 0
  bad : Bool := false
  lost : Bool := true
deriving DecidableEq, Repr

/-- An opaque send strand (R370): the source slot it forwards, the new one a commit named with the clock of its switching
point, whether the old source's marker has passed since, whether the new one's last packet carried its marker, and the packets
that wait 2 us with their arrival clocks and the bytes of their RTP packets. -/
structure Opaque where
  src : Option Nat := .none
  nxt : Option Nat := .none
  switchAt : Nat := 0
  oldMark : Bool := false
  newMark : Bool := false
  fifo : List (Nat × List Nat) := []
deriving DecidableEq, Repr

/-- An ancillary packet that a send flow has yet to send (R368): its egress frame, the field (0 progressive, 2, 3), its line, its data
stream, its place in the line, and its words. -/
structure AncOut where
  frame : Nat
  field : Nat
  line : Nat
  stream : Nat
  place : Nat
  words : List Nat
deriving DecidableEq, Repr

/-- A block of a lane (R316): a control block, by its header, or a data block, and its payload. -/
structure Blk where
  ctl : Bool := false
  pay : Nat := 0
deriving DecidableEq, Repr

/-- A received block: its place in its frame (0: where the marker stands), and whether FEC found the frame good (R325). -/
structure RxBlk where
  blk : Blk := {}
  place : Nat := 0
  good : Bool := true
deriving DecidableEq, Repr

/-- A block that waits to be sent: its turn, and whether it begins that turn. -/
structure TxBlk where
  blk : Blk := {}
  turn : Nat := 0
  first : Bool := true
deriving DecidableEq, Repr

/-- A physical lane beside its registers (chapter 11). Receiving: the next turn expected, FSEQ, markers found and missed in a
row, an uncorrectable frame since the last good marker, turns counted as lost until the next STATUS (violation 0x03), STATUS
absent (0x0A), a CARD_ID seen since lock, the elastic buffers and the last accepted CLASS by lane strand, when each partner's
FFE request was applied last, the clocks of the uncorrectable frames of the last millisecond, the second in which corrected
symbols and frames are counted, when lock was lost, whether it comes from L-IDLE. Sending: the next turn, FSEQ, what the last
turn and the last scheduled slot sent, the next strand to tag, and when FFE requests were sent. Testing: the state before, whether
the partner's echo is awaited, whether it has come, and the bits checked. The stream (R316-R323): the bits received and not yet taken
into blocks, the run of valid headers (64: block lock), the last headers, the blocks of the frame in progress, the blocks of
frames decoded that wait, the descrambler's last 58 bits, the payloads of a cell in part, STATUS slots in a row without STATUS, the
blocks since the last marker candidate; the blocks that wait to be sent, the marker and control block of the frame in progress,
the scrambler's last 58 bits, the levels of the last frame sent, the checker's and the sender's test registers, the TRAIN blocks sent
since training began, and the bits of a test pattern sent. -/
structure Lane where
  turn : Nat := 0
  fseq : Nat := 0
  marks : Nat := 0
  miss : Nat := 0
  gap : Bool := false
  skipLost : Bool := false
  absent : Bool := false
  card : Bool := false
  buf : Tab (List Nat) := []
  cls : Tab Nat := []
  ffePre : Option Nat := .none
  ffePost : Option Nat := .none
  bad : List Nat := []
  uncAt : Option Nat := .none
  secAt : Nat := 0
  corr : Nat := 0
  frames : Nat := 0
  high : Bool := false
  lostAt : Option Nat := .none
  hot : Bool := false
  txTurn : Nat := 0
  txFseq : Nat := 0
  txLast : Nat × List Nat := (0, [])
  txCtl : Nat × Nat := (0, 0)
  tagStrand : Nat := 0
  reqPre : Option Nat := .none
  reqPost : Option Nat := .none
  prev : Nat := 0
  testWait : Bool := false
  testEcho : Bool := false
  bits : Nat := 0
  rxBits : List Nat := []
  grid : Nat := 0
  heads : List Bool := []
  raw : List (List Nat) := []
  rxq : List RxBlk := []
  dscr : Nat := 0
  part : List Nat := []
  drop : Nat := 0
  noStat : Nat := 0
  since : Nat := 0
  txq : List TxBlk := []
  txHead : List Blk := []
  scr : Nat := 0
  txFrame : List Nat := []
  prbs : Nat := 0
  txPrbs : Nat := 1
  train : Nat := 0
  txBits : Nat := 0
deriving DecidableEq, Repr

/-- The remap in progress beside its registers (R337-R339): when its state began, the switch turn, whether it is hitless, retires
the old lane, and has switched, its role, and the failed lanes that wait for it to end; what the turns of its old and of its new lane
have brought and not yet compared, the turns compared, and whether some differed. -/
structure Remap where
  since : Nat := 0
  turn : Nat := 0
  hitless : Bool := false
  retire : Bool := false
  switched : Bool := false
  role : Nat := 0
  queue : List Nat := []
  seenOld : List (Nat × List Nat) := []
  seenNew : List (Nat × List Nat) := []
  compared : Nat := 0
  differ : Bool := false
deriving DecidableEq, Repr



/-- A source picture line in a layer's buffer: whether it may be shown (R276), its luma, its chroma as carried, and the luma of
the other sub-channel of a PAIR source. -/
structure SrcRow where
  ok : Bool := false
  luma : List Nat := []
  chroma : List Nat := []
  key : List Nat := []
deriving DecidableEq, Repr

/-- A picture line a head composed (R268): its 12-bit samples on die, and the 10-bit words it emits. -/
structure OutRow where
  die : SrcRow := {}
  luma : List Nat := []
  chroma : List Nat := []
deriving DecidableEq, Repr

/-- A composition head beside its registers (chapter 9): the frame it composes is a valid source's, and the frame its output last
started in house time; the master that claims the staged set; the commit accepted and not
latched, with its target frame, the position of its latch, its raster and the raster's count of disablings; the egress frame
whose start has been applied, the next picture line in the order of composition, and per condition (reason * 16 + layer) the
frame after the one it last occurred in (R284); its latches since the cold reset; the picture lines it has composed of this frame and of
the one before. -/
structure Head where
  live : Bool := false
  shown : Nat := 0
  claim : Option Nat := .none
  accepted : Bool := false
  master : Nat := 0
  frame : Nat := 0
  latch : Nat × Nat := (0, 0)
  raster : Nat := 0
  offs : Nat := 0
  begun : Nat := 0
  line : Nat := 0
  cond : Tab Nat := []
  latches : Nat := 0
  out : Tab OutRow := []
  prev : Tab OutRow := []
deriving DecidableEq, Repr

/-- A layer of a head while it runs (R273-R278): the handle and number of the frame it last showed, and of the one it had last shown
before this frame, whether it is shown now, the
source lines fetched and those composition has used, in the order it needs them, whether its requests are URGENT, and the lines
of its frame that were fetched, by source picture line. -/
structure Layer where
  last : Option (Nat × Nat) := .none
  was : Option (Nat × Nat) := .none
  on : Bool := false
  fetched : Nat := 0
  used : Nat := 0
  urgent : Bool := false
  rows : Tab SrcRow := []
deriving DecidableEq, Repr


/-- The part of an audio entry both tables hold (Table 10-2). -/
structure AEnt where
  src : Nat := 0
  routed : Bool := false
  attr : Nat := 0
deriving DecidableEq, Repr

/-- An active audio entry (Table 10-2). -/
structure AAct where
  ent : AEnt := {}
  delay : Nat := 0
  dlyEn : Bool := false
  block : Nat := 0
  lane : Nat := 0
  conflict : Bool := false
  missing : Bool := false
deriving DecidableEq, Repr

/-- A shadow audio entry (Table 10-2). -/
structure AShadow where
  ent : AEnt := {}
  stager : Nat := 0
  staged : Bool := false
  pending : Bool := false
  cid : Nat := 0
deriving DecidableEq, Repr

/-- A change in progress on a destination channel (R301, R313): the entries before and after it, its first boundary, MODE
(1 ZEROX, 2 FADE) and FADE length, whether the old signal is that of a TDM port now stopped, how far a ZEROX has come (0 old
signal, 1 silence), and the old signal's sample at the boundary before (24-bit code). -/
structure AChg where
  old : AEnt
  new : AEnt
  start : Nat
  mode : Nat
  len : Nat
  raw : Bool := false
  zx : Nat := 0
  po : Nat := 0
deriving DecidableEq, Repr

/-- An audio commit in flight (R204, R300): identifier, master, captured channels, the raster named with its count of disablings
and the position of its effect (for WITH, the switch line joined), the crosspoint commit it is joined to, and whether that one
was discarded there. -/
structure ACommit where
  cid : Nat
  master : Nat
  raster : Nat
  offs : Nat
  pos : Pos
  dests : List Nat
  joined : Option Nat := .none
  gone : Bool := false
deriving DecidableEq, Repr

/-- A de-embedder (R291): the groups seen, at 96 kHz and asynchronous in the frame in progress, whether sub-channel 1 carries a signal in
it, whether a frame start waits for its choice, whether sub-channel 1 supplies channels 16-31, and the 96 kHz groups of the last
frame. -/
structure Deemb where
  seen : Nat := 0
  r96 : Nat := 0
  async : Nat := 0
  wave : Bool := false
  start : Bool := false
  sub1 : Bool := false
  rate : Nat := 0
deriving DecidableEq, Repr

/-- Channels, tables and changes of the audio crosspoint (chapter 10). A sample is a 24-bit code, with the AES3 bits of a
transparent channel above it; 2^27 stands for a missing one. `bnd`: one past the boundary computed last on each timeline;
`hist`: the samples a source channel presented, newest first; `chg`: a channel's changes, newest first; `last`: its output before
its delay; `out`: after it; `lanes`: the first boundary given to a delay lane, by block * 16 + lane; `xfade`: the read position
a channel's delay leaves (lane + 1, 0 for none; delay) and the samples done; `ramp`: samples left of a return (R303); `fifo`:
what waits in a slipping unit, by source channel; `due`: dated samples by channel with their boundaries; `deemb`: de-embedders, by
port and, from 1,152, player; `anchor`: the boundary and date that a channel's samples count from, and its newest boundary; `emb`:
samples a channel has yet to send, with their boundaries, and `embAt`: one past the boundary a port embedded last; `gap`: a change of
the supplier of a port's channels 16-31 (R291). -/
structure Aud where
  act : Tab AAct := []
  sh : Tab AShadow := []
  commits : List ACommit := []
  next : Nat := 0
  bnd : Nat := 0
  bnd44 : Nat := 0
  hist : Tab (List Nat) := []
  chg : Tab (List AChg) := []
  last : Tab Nat := []
  out : Tab Nat := []
  lanes : Tab Nat := []
  xfade : Tab (Nat × Nat × Nat) := []
  ramp : Tab Nat := []
  fifo : Tab (List Nat) := []
  due : Tab (List (Nat × Nat)) := []
  deemb : Tab Deemb := []
  anchor : Tab (Nat × Nat × Nat) := []
  emb : Tab (List (Nat × Nat)) := []
  embAt : Tab Nat := []
  gap : Tab Bool := []
  moved : Tab Bool := []
deriving DecidableEq, Repr

/-- A TDM port beside its registers (R313, R314): its run of frames of correct length, its run of periods more than 0.5 % off,
the house clock of its last active FSYNC edge, a slave's output samples that wait, boundary by boundary, those being sent, at 96 and
88.2 kHz whether the next frame is the second of a boundary, the slots of the frame it sends, and the boundary that had come when EN
was set. -/
structure Tdm where
  good : Nat := 0
  off : Nat := 0
  lastEdge : Option Nat := .none
  outq : List (List Nat) := []
  cur : List Nat := []
  odd : Bool := false
  dout : List Nat := []
  since : Nat := 0
deriving DecidableEq, Repr



/-- The key unit beside its registers (chapter 19): slot keys (32 bytes) and the masks they are stored under, the root in force
(32 bytes, empty: none), the start-up state of the root's SRAM as this start read it (16 words), what OTP holds of enrolment (the
words its helper data restores, the check value and the owner hash, empty: none), the message being processed, and the house
clocks of the last mask refresh and of REQ (R485). -/
structure Keys where
  slots : Tab (List Nat) := []
  masks : Tab Nat := []
  root : List Nat := []
  cells : List Nat := []
  helper : List Nat := []
  check : List Nat := []
  ownerHash : List Nat := []
  msg : List Nat := []
  refreshAt : Nat := 0
  enrolAt : Nat := 0
deriving DecidableEq, Repr


/-- Wear and spare units beside their registers (chapter 16): the house clock at which the device left INIT, the hours a
restored history brings, the 128-hour steps, 24-hour days and hours acted on since then, a RESTORE tried since INIT; the daily
samples (domain * 64 + monitor, newest first) and the last canary results; units RETIRED in OTP (KIND * 256 + physical unit);
the physical unit behind a recorder or player (KIND * 256 + number) and behind a spare position (KIND * 256 + 128 + SPARE); lanes
recorded for logical lanes in OTP (R340); the substitution or test that runs: its step (0 none, 1 LOAD, 2 SHADOW, 6 TESTING),
KIND, TARGET, SPARE, whether it is a test alone, the frame it counts from, the unit under test, the scaler of its test; and when each scrub
burst began and the bytes it has to read. -/
structure Wear where
  left : Option Nat := .none
  base : Nat := 0
  steps : Nat := 0
  days : Nat := 0
  canary : Nat := 0
  tried : Bool := false
  hist : Tab (List Nat) := []
  vmin : Tab Nat := []
  retired : List Nat := []
  units : Tab Nat := []
  laneOtp : Tab Nat := []
  step : Nat := 0
  kind : Nat := 0
  target : Nat := 0
  spare : Nat := 0
  only : Bool := false
  since : Nat := 0
  unit : Nat := 0
  scaler : Option Nat := .none
  scrubs : Tab (Nat × Nat) := []
deriving DecidableEq, Repr


/-- The state of the device. -/
structure State where
  /-- Register fields that differ from their reset value, keyed by bit address. -/
  regs : Tab Nat := []
  /-- CORE clocks of house time since the cold reset (0.8 ns each). -/
  clk : Nat := 0
  /-- The house timescale in units of 2^-16 ns / 5; 262,144 in a CORE clock (R57). -/
  house : Nat := 0
  /-- PTP time (R27). -/
  ptp : PtpTime := {}
  /-- The eight house rasters (R28). -/
  rasters : Tab Raster := []
  /-- The 32 general-purpose inputs (R49). -/
  gpis : Tab Gpi := []
  /-- The GPI event queue, oldest first (R50, Table 2-3). -/
  gpiq : List (List Nat) := []
  /-- The number the next accepted GPI edge takes (R50). -/
  gpiSeq : Nat := 0
  /-- The filters have sampled their inputs since the cold reset (R49). -/
  gpiOn : Bool := false
  /-- What the present clock did to the outputs (R53). -/
  gpoClock : Option GpoClock := .none
  /-- The active crosspoint table (R123). -/
  xActive : Tab XEnt := []
  /-- Locked destination slots (R133). -/
  xLock : Tab Bool := []
  /-- The shadow crosspoint table (R125). -/
  xShadow : Tab XShadow := []
  /-- Crosspoint commits in flight, in order of acceptance (R128). -/
  xCommits : List XCommit := []
  /-- The next crosspoint COMMIT_ID (R128). -/
  xNext : Nat := 0
  /-- Each master's most recently accepted commit, as it stands (R204, R300). -/
  xLast : Tab XCommit := []
  /-- Window state by port * 8 + raster (R113). -/
  windows : Tab Window := []
  /-- Lock state by ingress strand slot (R100). -/
  strands : Tab Strand := []
  /-- Detection state by fabric port (R101, R102). -/
  ports : Tab PortDet := []
  /-- Raster 0 frame at which the present step of a plane substitution began (R140). -/
  psubFrame : Nat := 0
  /-- Lines held by the aligners and IP line buffers, and those players put out, newest first, by source slot (R111, R237). -/
  aligner : Tab (List AlLine) := []
  /-- Strand words formed for each egress slot and not yet sent (R109, R323). -/
  egressQ : Tab (List Nat) := []
  /-- The lines of the last egress frames that each IP send slot holds for its packets, newest first, with their frame (R360). -/
  sendLines : Tab (List (Nat × AlLine)) := []
  /-- Ancillary packets that a send ANC flow has yet to send, oldest first, by the first slot of its group (R368). -/
  ancOut : Tab (List AncOut) := []
  /-- The bytes of the last frame that left each logical port (32 = MGT), without its FCS (R361, R377). -/
  sent : Tab (List Nat) := []
  /-- Destinations whose raster was disabled, until the switch line after it runs again (R535). -/
  destHold : Tab Bool := []
  /-- The generator and PATTERN each destination carries in its present frame, one past g * 16 + PATTERN (R138). -/
  destGen : Tab Nat := []
  /-- The line each destination slot has forwarded last: egress frame * 4,096 + strand line, plus 1. -/
  destLine : Tab Nat := []
  /-- Frame digests: by egress slot, and by 8,192 + ingress slot (R406). -/
  digs : Tab DigRun := []
  /-- The probes (R139). -/
  probeRun : Tab ProbeRun := []
  /-- The engine numbers 0-4 (Table 6-1). -/
  engs : Tab Eng := []
  /-- Program memories: engine number * 32,768 + word (R147). -/
  pmem : Tab Nat := []
  /-- Data memories: engine number * 16,384 + word (R147). -/
  dmem : Tab Nat := []
  /-- Shared cue memory by word (R147). -/
  smem : Tab Nat := []
  /-- ENGINE-class faults per physical engine (R173). -/
  peFaults : Tab Nat := []
  /-- The engine substitution in progress (R172). -/
  subst : Subst := {}
  /-- The twin link (chapter 14). -/
  twin : Twin := {}
  /-- The fault collector (chapter 16). -/
  flt : Flt := {}
  /-- Pins and straps (chapter 21). -/
  pins : Pins := {}
  /-- The frame store (chapter 8). -/
  sable : Sable := {}
  /-- Admission, thermal, voltage (chapter 15). -/
  adm : Adm := {}
  /-- The host port (chapter 18). -/
  hif : HostIf := {}
  /-- The model's own counter of free values drawn; no state of the device. -/
  freeCtr : Nat := 0
  /-- Commands that wait, first in, first out; the model's queue. -/
  pending : List Instr := []
  /-- Bytes waiting in the host FIFO of each physical port, 8 = MGT (R376). -/
  hostFifo : Tab Nat := []
  /-- Transmit timestamp queues, oldest first, 8 = MGT (R391). -/
  txq : Tab (List (List Nat)) := []
  /-- Physical heads to re-initialise at their next latch line (Table 16-1). -/
  headReinit : Tab Bool := []
  /-- The PTP addend in force, 64-bit code (R388). -/
  addend : Nat := 0
  /-- PTP time counts: CORE has locked once (R392). -/
  ptpRun : Bool := false
  /-- The reference selector (chapter 3). -/
  ref : Refsel := {}
  /-- The sixteen synthesisers (R85, R86). -/
  synths : Tab Synth := []
  /-- The four REFOUT outputs (R89). -/
  refouts : Tab Refout := []
  /-- The flow table: entry * 32 + word (Tables 12-2 to 12-4). -/
  flows : Tab Nat := []
  /-- Flow entries beside their words. -/
  flowSt : Tab FlowSt := []
  /-- Receive bindings: first slot, or 8,192 + first channel (R371). -/
  flowBind : Tab FlowBind := []
  /-- Opaque send strands by destination slot (R370). -/
  opaques : Tab Opaque := []
  /-- House clock to which a logical port is paused, 32 = MGT (R374). -/
  pauseUntil : Tab Nat := []
  /-- House clock of MGT's last frame (R375). -/
  lpiSince : Nat := 0
  /-- Descriptor words the device wrote: ring * 4,096 + slot; ring 2n receive, 2n + 1 transmit, n = 8 MGT (R377, R378). -/
  rings : Tab (List Nat) := []
  /-- Active head sets: head * 1,024 + block * 64 + word (R256). -/
  headAct : Tab Nat := []
  /-- Staged head sets, keyed the same way (R255). -/
  headStg : Tab Nat := []
  /-- Heads beside their registers. -/
  heads : Tab Head := []
  /-- Layers while they run: head * 8 + layer. -/
  layers : Tab Layer := []
  /-- The head log, oldest first (R284). -/
  ochreLog : List (List Nat) := []
  /-- The number of the next head log record. -/
  ochreSeq : Nat := 0
  /-- Library words: KIND * 2^24 + SLOT * 2^18 + entry word (R285). -/
  lut : Tab Nat := []
  /-- Slots that are VALID: KIND * 64 + SLOT. -/
  lutValid : Tab Bool := []
  /-- CRC-32 of the VALID slots. -/
  lutCrc : Tab Nat := []
  /-- The open slot, KIND * 64 + SLOT. -/
  lutOpen : Option Nat := .none
  /-- The audio crosspoint (chapter 10). -/
  aud : Aud := {}
  /-- The TDM ports. -/
  tdms : Tab Tdm := []
  /-- The key unit (chapter 19). -/
  keys : Keys := {}
  /-- The 152 physical fabric lanes (chapter 11). -/
  lanes : Tab Lane := []
  /-- The lane remap in progress (R337). -/
  remap : Remap := {}
  /-- Wear, spare units, and what OTP records of them (chapter 16). -/
  wear : Wear := {}
deriving DecidableEq, Repr

/-- Reasons a step could end in a fault. No meaning of this model raises one: the spec answers every breach inside the
device (chapters 6, 16, 18), so a run never ends here. -/
inductive Fault
  /-- Raised by no meaning. Safe: a stop where the device would go on proves no false claim. -/
  | none
deriving DecidableEq, Repr

/-- Reasons a command could be refused by the model. -/
inductive Refusal
  /-- Raised by Machine/Dispatch.lean alone, for a command that has no meaning yet. Safe. -/
  | notModelled (mnemonic : String)
deriving DecidableEq, Repr

/-- The state after power-up, before RST_N rises: every register field at its reset value (an empty `regs` reads so),
nothing staged, no buffer, no commit, the queue empty. -/
def State.reset : State := {}

end Sys2Proof.Machine
end

