-- ==== Sys2Proof/Machine/Tab.lean ====
section
/-! DEFINITION. Reading and writing the sparse tables of State, and the small number and bit-field helpers that the
meanings share. A write keeps the keys strictly rising and lists no entry equal to the default, so that equal tables
are equal data. -/
namespace Sys2Proof

variable {α : Type}

/-- What key `k` holds; `d` where the table lists nothing. -/
def tget (t : Tab α) (k : Nat) (d : α) : α :=
  match t with
  | [] => d
  | (j, v) :: r => if j = k then v else tget r k d

/-- Remove key `k`. -/
def tdel (t : Tab α) (k : Nat) : Tab α := t.filter (fun e => decide (e.1 ≠ k))

/-- Insert or replace key `k`, keeping the keys rising. -/
def tins (t : Tab α) (k : Nat) (v : α) : Tab α :=
  match t with
  | [] => [(k, v)]
  | (j, u) :: r => if j = k then (k, v) :: r else if k < j then (k, v) :: (j, u) :: r else (j, u) :: tins r k v

/-- Write `v` at key `k` of a table whose default there is `d`. -/
def tput [DecidableEq α] (t : Tab α) (k : Nat) (v d : α) : Tab α := if v = d then tdel t k else tins t k v

/-- Keys strictly rising. -/
def tsorted (t : Tab α) : Bool :=
  match t with
  | [] => true
  | (j, _) :: r => r.all (fun e => decide (j < e.1)) && tsorted r

/-- The canonical form of a table with default `d`: keys strictly rising, no entry equal to the default. -/
def twf [DecidableEq α] (t : Tab α) (d : α) : Bool := tsorted t && t.all (fun e => decide (e.2 ≠ d))

/-- Bits `lo+w-1 … lo` of `x`. -/
def bits (x lo w : Nat) : Nat := x / 2 ^ lo % 2 ^ w

/-- Bit `i` of `x`. -/
def bit (x i : Nat) : Bool := x / 2 ^ i % 2 = 1

/-- One as a number. -/
def b2n (b : Bool) : Nat := if b then 1 else 0

/-- `x` read as a signed number of `w` bits. -/
def sx (w x : Nat) : Int :=
  let y := x % 2 ^ w
  if y < 2 ^ (w - 1) then (y : Int) else (y : Int) - 2 ^ w

/-- The `w`-bit two's complement code of an integer. -/
def wrapInt (w : Nat) (x : Int) : Nat := (x % (2 ^ w : Int)).toNat

/-- Set or clear bit `i`. -/
def withBit (x i : Nat) (b : Bool) : Nat := if bit x i then (if b then x else x - 2 ^ i) else if b then x + 2 ^ i else x

/-- The set bits below `n`, lowest first. -/
def bitList (x n : Nat) : List Nat := (List.range n).filter (fun i => bit x i)

/-- Apply `f` for every number of a list, first to last. -/
def forEach {σ : Type} (l : List Nat) (f : Nat → σ → σ) (s : σ) : σ := l.foldl (fun s i => f i s) s

/-- Number of elements that satisfy `p`. -/
def countIf {β : Type} (l : List β) (p : β → Bool) : Nat := (l.filter p).length

/-- Reading rounded up: `⌈a / b⌉`. -/
def ceilDiv (a b : Nat) : Nat := (a + b - 1) / b

/-- The 32-bit words of a byte list, little-endian (R5). -/
def leWord (b : List Nat) : Nat := (b.take 4).foldr (fun x acc => x % 256 + 256 * acc) 0

/-- The four bytes of a 32-bit word, lowest first (R5). -/
def leBytes (w : Nat) : List Nat := [w % 256, w / 256 % 256, w / 65536 % 256, w / 16777216 % 256]

/-- Bit `i` of the reflected CRC step: one bit of the CRC-32 of R398. -/
def crcBit (c : Nat) : Nat := if c % 2 = 1 then Nat.xor (c / 2) 0xEDB88320 else c / 2

/-- One byte of the CRC-32 of R398, reflected input. -/
def crcByte (c b : Nat) : Nat :=
  crcBit (crcBit (crcBit (crcBit (crcBit (crcBit (crcBit (crcBit (Nat.xor c (b % 256)))))))))

/-- The CRC-32 of R398: polynomial 0x04C1_1DB7, initial value 0xFFFF_FFFF, reflected input and output, final XOR with
0xFFFF_FFFF, over a byte string from byte 0 upwards. -/
def crc32 (bs : List Nat) : Nat := Nat.xor (bs.foldl crcByte 0xFFFFFFFF) 0xFFFFFFFF

/-- A linear map of 32-bit words, by the images of their bits; its value, and one map after another. -/
def xorMap (m : List Nat) (x : Nat) : Nat := (List.range 32).foldl (fun a i => if x / 2 ^ i % 2 = 1 then Nat.xor a (m.getD i 0) else a) 0
def xorAfter (m n : List Nat) : List Nat := n.map (xorMap m)

/-- What `n` bytes of zeros do to the register of the CRC-32, a linear map: for the CRC of strings joined. -/
def crcZeros (n x : Nat) : Nat :=
  ((List.range 32).foldl (fun (a : List Nat × Nat) i =>
    (xorAfter a.1 a.1, if n / 2 ^ i % 2 = 1 then xorMap a.1 a.2 else a.2)) ((List.range 32).map fun i => crcByte (2 ^ i) 0, x)).2

/-- The register after two strings joined, from each one's register (from 0xFFFF_FFFF) and the length of the second. -/
def crcJoin (a b n : Nat) : Nat := Nat.xor (crcZeros n (Nat.xor a 0xFFFFFFFF)) b

/-- The CRC-32 of R398 over 32-bit words taken little-endian. -/
def crcWords (ws : List Nat) : Nat := crc32 (ws.flatMap leBytes)

/-- Order of positions on one raster: frame, then line, then sample (R3). -/
def Pos.lt (a b : Pos) : Bool :=
  a.frame < b.frame || (a.frame = b.frame && (a.line < b.line || (a.line = b.line && a.sample < b.sample)))

/-- At or before (R3). -/
def Pos.le (a b : Pos) : Bool := a = b || a.lt b

end Sys2Proof
end

