-- ==== Sys2Proof/Machine/Ops.lean ====
section
/-! DEFINITION. The named operations over registers and state: reading and writing a register field, counters, and the
accessors of the tables of State. Every register access of a meaning goes through `rd` and `wr`. -/
namespace Sys2Proof.Machine

/-- The value of copy `i` of a register field. -/
def State.rd (s : State) (f : Fld) (i : Nat) : Nat := tget s.regs (f.key i) (f.reset i) % 2 ^ f.w

/-- Give copy `i` of a register field the value `v`, cut to its width. -/
def State.wr (s : State) (f : Fld) (i v : Nat) : State :=
  { s with regs := tput s.regs (f.key i) (v % 2 ^ f.w) (f.reset i) }

/-- The field reads other than 0. -/
def State.on (s : State) (f : Fld) (i : Nat) : Bool := decide (s.rd f i ≠ 0)

/-- Add `k`, saturating at the field's largest value. -/
def State.addSat (s : State) (f : Fld) (i k : Nat) : State := s.wr f i (Nat.min (s.rd f i + k) (2 ^ f.w - 1))

/-- Add one, saturating. -/
def State.incSat (s : State) (f : Fld) (i : Nat) : State := s.addSat f i 1

/-- Add `k`, wrapping. -/
def State.addWrap (s : State) (f : Fld) (i k : Nat) : State := s.wr f i (s.rd f i + k)

/-- Subtract `k`, stopping at 0. -/
def State.subSat (s : State) (f : Fld) (i k : Nat) : State := s.wr f i (s.rd f i - k)

/-- A 64-bit value held in two fields, low word first. -/
def State.rd64 (s : State) (lo hi : Fld) (i : Nat) : Nat := s.rd lo i + 2 ^ 32 * s.rd hi i

/-- Write a 64-bit value to two fields, low word first. -/
def State.wr64 (s : State) (lo hi : Fld) (i v : Nat) : State := (s.wr lo i v).wr hi i (v / 2 ^ 32)

/-- Return a field to its reset value. -/
def State.clr (s : State) (f : Fld) (i : Nat) : State := s.wr f i (f.reset i)

/-- CORE clocks in a microsecond, a millisecond and a second (1.25 GHz). -/
def usClk : Nat := 1250
def msClk : Nat := 1250000
def sClk : Nat := 1250000000

/-- Raster `n`. -/
def State.raster (s : State) (n : Nat) : Raster := tget s.rasters n {}
def State.setRaster (s : State) (n : Nat) (r : Raster) : State := { s with rasters := tput s.rasters n r {} }

/-- General-purpose input `i`. -/
def State.gpi (s : State) (i : Nat) : Gpi := tget s.gpis i {}
def State.setGpi (s : State) (i : Nat) (g : Gpi) : State := { s with gpis := tput s.gpis i g {} }

/-- The active entry, shadow entry and lock of destination slot `d` (R123, R125, R133). -/
def State.xa (s : State) (d : Nat) : XEnt := tget s.xActive d {}
def State.setXa (s : State) (d : Nat) (e : XEnt) : State := { s with xActive := tput s.xActive d e {} }
def State.xs (s : State) (d : Nat) : XShadow := tget s.xShadow d {}
def State.setXs (s : State) (d : Nat) (e : XShadow) : State := { s with xShadow := tput s.xShadow d e {} }
def State.xlocked (s : State) (d : Nat) : Bool := tget s.xLock d false
def State.setXlock (s : State) (d : Nat) (b : Bool) : State := { s with xLock := tput s.xLock d b false }

/-- Window state of port `p` against raster `r` (R113). -/
def State.win (s : State) (p r : Nat) : Window := tget s.windows (p * 8 + r) {}
def State.setWin (s : State) (p r : Nat) (w : Window) : State := { s with windows := tput s.windows (p * 8 + r) w {} }

/-- Ingress strand and port detection state. -/
def State.strand (s : State) (d : Nat) : Strand := tget s.strands d {}
def State.setStrand (s : State) (d : Nat) (x : Strand) : State := { s with strands := tput s.strands d x {} }
def State.port (s : State) (p : Nat) : PortDet := tget s.ports p {}
def State.setPort (s : State) (p : Nat) (x : PortDet) : State := { s with ports := tput s.ports p x {} }

/-- Engine number `n` (R142). -/
def State.eng (s : State) (n : Nat) : Eng := tget s.engs n {}
def State.setEng (s : State) (n : Nat) (e : Eng) : State := { s with engs := tput s.engs n e {} }

/-- General register `j` of engine number `n`; its home is CUE_GREG. -/
def State.g (s : State) (n j : Nat) : Nat := s.rd F.CUE_GREG_VALUE (n * 16 + j)
def State.setG (s : State) (n j v : Nat) : State := s.wr F.CUE_GREG_VALUE (n * 16 + j) v

/-- Comparator `x` of engine number `n`. -/
def State.cmp (s : State) (n x : Nat) : Cmp := tget (s.eng n).cmps x {}
def State.setCmp (s : State) (n x : Nat) (c : Cmp) : State :=
  let e := s.eng n
  s.setEng n { e with cmps := tput e.cmps x c {} }

/-- Descriptor, recorder, player and expander port of the frame store. -/
def State.desc (s : State) (i : Nat) : Desc := tget s.sable.descs i {}
def State.setDesc (s : State) (i : Nat) (d : Desc) : State :=
  { s with sable := { s.sable with descs := tput s.sable.descs i d {} } }
def State.recorder (s : State) (r : Nat) : Recorder := tget s.sable.recs r {}
def State.setRecorder (s : State) (r : Nat) (x : Recorder) : State :=
  { s with sable := { s.sable with recs := tput s.sable.recs r x {} } }
def State.player (s : State) (p : Nat) : Player := tget s.sable.plays p {}
def State.setPlayer (s : State) (p : Nat) (x : Player) : State :=
  { s with sable := { s.sable with plays := tput s.sable.plays p x {} } }
def State.cxl (s : State) (c : Nat) : CxlPort := tget s.sable.ports c {}
def State.setCxl (s : State) (c : Nat) (x : CxlPort) : State :=
  { s with sable := { s.sable with ports := tput s.sable.ports c x {} } }

/-- Draw the next free value: the state with its counter advanced, and the number drawn. Nothing constrains what
`Config.free` answers for it. -/
def State.draw (s : State) : State × Nat := ({ s with freeCtr := s.freeCtr + 1 }, Config.free s.freeCtr)

end Sys2Proof.Machine
end

