-- ==== Sys2Proof/Machine/Operands.lean ====
section
/-! DEFINITION. The forms operands take: register words and their access codes (R6-R8, R499), raster formats (Table 2-1),
positions, WIDE and SHORT frame numbers (R36-R38), and the switch line a commit takes (R40, R42, R129). -/
namespace Sys2Proof.Machine

/-! ### Device modes (TOP_DEV_MODE MODE) -/

abbrev Mode.reset : Nat := 0
abbrev Mode.init : Nat := 1
abbrev Mode.calibrate : Nat := 2
abbrev Mode.standalone : Nat := 3
abbrev Mode.active : Nat := 4
abbrev Mode.standby : Nat := 5
abbrev Mode.safe : Nat := 6
abbrev Mode.debug : Nat := 7

/-- The device's mode. -/
def State.mode (s : State) : Nat := s.rd F.TOP_DEV_MODE_MODE 0

/-- An in-service mode (R45, R432): the modes entered from CALIBRATE with raster 0 enabled, and SAFE, which is entered
from them. DEDUCED (log 9): DEBUG is not one, since Table 17-1 enters it without raster 0. -/
def State.inService (s : State) : Bool := decide (Mode.standalone ≤ s.mode ∧ s.mode ≤ Mode.safe)

/-- Engines run in these modes (R157). -/
def State.enginesRun (s : State) : Bool :=
  s.mode = Mode.standalone || s.mode = Mode.active || s.mode = Mode.standby || s.mode = Mode.debug

/-- The modes in which the host may commit (Table 1-4). -/
def State.commitMode (s : State) : Bool :=
  s.mode = Mode.standalone || s.mode = Mode.active || s.mode = Mode.debug

/-! ### Register words -/

/-- Write one field of a word under its access code (Table 0-2, R6) and the reserved-encoding rule (R8): RW and RWS take a
legal value, W1C clears where 1 is written, the others ignore the write. -/
def State.writeField (s : State) (f : Fld) (i v : Nat) : State :=
  match f.acc with
  | .rw | .rws => if f.legal v then s.wr f i v else s
  | .w1c => s.wr f i (Nat.xor (s.rd f i) (Nat.land (s.rd f i) v))
  | .ro | .wo | .rc => s

/-- Write the fields named in `fs` of the 32-bit word at byte offset `off`. -/
def State.writeFields (s : State) (fs : List (Fld × Nat × Nat)) (w : Nat) : State :=
  fs.foldl (fun s f => s.writeField f.1 f.2.1 (bits w f.2.2 f.1.w)) s

/-- A plain write of a register word: every field under its own access code (R6, R8). -/
def State.writeWord (s : State) (off w : Nat) : State := s.writeFields (fieldsAt off) w

/-- What a read of a word returns: each field's value at its place, WO fields and unused bits 0 (R6, R7). -/
def State.readWord (s : State) (off : Nat) : Nat :=
  (fieldsAt off).foldl (fun acc f => if f.1.acc = .wo then acc else acc + s.rd f.1 f.2.1 * 2 ^ f.2.2) 0

/-- The read effect of a word: its RC fields clear (R6). -/
def State.readClear (s : State) (off : Nat) : State :=
  (fieldsAt off).foldl (fun s f => if f.1.acc = .rc then s.wr f.1 f.2.1 0 else s) s

/-- The word at the offset holds a register (R497). -/
def mapped (off : Nat) : Bool := decide (off % 4 = 0) && !(fieldsAt off).isEmpty

/-! ### Raster formats (Table 2-1, R30, R31) -/

/-- Total lines of a structure code; 0 for a reserved code. -/
def totalLines (st : Nat) : Nat :=
  match st with
  | 1 => 525 | 2 => 625 | 3 => 750 | 4 => 1125 | 5 => 1125 | 6 => 2250 | _ => 0

/-- The rate codes Table 2-1 allows with a structure code. -/
def rateOk (st rate : Nat) : Bool :=
  match st with
  | 1 => rate = 3 | 2 => rate = 2 | 3 => decide (5 ≤ rate ∧ rate ≤ 7) | 4 => decide (2 ≤ rate ∧ rate ≤ 4)
  | 5 => decide (rate ≤ 7) | 6 => decide (rate ≤ 10) | _ => false

/-- Samples per line of a structure at a rate code. -/
def samplesPerLine (st rate : Nat) : Nat :=
  match st with
  | 1 => 858 | 2 => 864
  | 3 => if rate = 5 then 1980 else 1650
  | 4 => if rate = 2 then 2640 else 2200
  | 5 => if rate ≤ 1 then 2750 else if rate = 2 ∨ rate = 5 then 2640 else 2200
  | 6 => if rate ≤ 1 then 5500 else if rate = 2 ∨ rate = 5 ∨ rate = 8 then 5280 else 4400
  | _ => 0

/-- Interlaced structures. -/
def interlaced (st : Nat) : Bool := st = 1 || st = 2 || st = 4

/-- Built-in switch line, field 1. -/
def builtinSwitch (st : Nat) : Nat :=
  match st with
  | 1 => 10 | 2 => 6 | 6 => 14 | _ => 7

/-- Lines from the field 1 to the field 2 switch line (R31). -/
def fieldGap (st : Nat) : Nat :=
  match st with
  | 1 => 263 | 2 => 313 | 4 => 562 | _ => 0

/-- Built-in latch line; for 525i it lies in the next frame. -/
def builtinLatch (st : Nat) : Nat :=
  match st with
  | 1 => 1 | 2 => 624 | 3 => 746 | 4 => 1124 | 5 => 1122 | 6 => 2243 | _ => 0

/-- The whole-number frame rate a rate code stands for; the 1/1.001 rates are that over 1.001 (R30). -/
def nominalRate (rate : Nat) : Nat :=
  match rate with
  | 0 => 24 | 1 => 24 | 2 => 25 | 3 => 30 | 4 => 30 | 5 => 50 | 6 => 60 | 7 => 60 | 8 => 100 | 9 => 120 | 10 => 120 | _ => 0

/-- A 1/1.001 rate code. -/
def fractional (rate : Nat) : Bool := rate = 0 || rate = 3 || rate = 6 || rate = 9

/-- Rate family F1001 (R28): the SD structures are F0 at both of their rates. -/
def family1001 (st rate : Nat) : Bool := fractional rate && decide (st ≠ 1 ∧ st ≠ 2)

/-- The sample rate as a fraction: numerator in Hz and denominator. 525i and 625i sample at 13.5 MHz exactly (R28). -/
def sampleRate (st rate : Nat) : Nat × Nat :=
  if st = 1 ∨ st = 2 then (13500000, 1)
  else
    let f := totalLines st * samplesPerLine st rate * nominalRate rate
    if fractional rate then (f * 1000, 1001) else (f, 1)

/-- Structure and rate code of raster `n`. -/
def State.rStruct (s : State) (n : Nat) : Nat := s.rd F.SLATE_RASTER_CFG_STRUCT n
def State.rRate (s : State) (n : Nat) : Nat := s.rd F.SLATE_RASTER_CFG_RATE n
def State.rLines (s : State) (n : Nat) : Nat := totalLines (s.rStruct n)
def State.rSamples (s : State) (n : Nat) : Nat := samplesPerLine (s.rStruct n) (s.rRate n)

/-- The raster runs. -/
def State.enabled (s : State) (n : Nat) : Bool := s.on F.SLATE_RASTER_CFG_EN n

/-- House position of raster `n`. -/
def State.pos (s : State) (n : Nat) : Pos := (s.raster n).pos

/-- Position `k` samples after `p` on a format of `tl` lines and `spl` samples (R193's carry). -/
def addSamples (p : Pos) (k tl spl : Nat) : Pos :=
  let x := p.sample + k
  let l := (p.line - 1) + x / spl
  ⟨p.frame + l / tl, l % tl + 1, x % spl⟩

/-- The egress timeline of raster `n`: the house timeline advanced by ADV samples (R39). -/
def State.egress (s : State) (n : Nat) : Pos :=
  addSamples (s.pos n) (s.rd F.SLATE_RASTER_TIMING_ADV n) (s.rLines n) (s.rSamples n)

/-- Widen a frame number (R37, R146): SHORT takes the signed 32-bit difference from the current frame. -/
def State.widen (s : State) (n : Nat) (short : Bool) (t : Nat) : Nat :=
  if short then
    let cur := (s.pos n).frame
    let d := sx 32 (t + 2 ^ 32 - cur % 2 ^ 32)
    ((cur : Int) + d).toNat
  else t

/-- The position a target names (R37): a SHORT one whose frame would lie before frame 0 is in the past, before every position. -/
def State.target (s : State) (n : Nat) (short : Bool) (f line sample : Nat) : Pos :=
  let cur := (s.pos n).frame
  if short && decide ((cur : Int) + sx 32 (f + 2 ^ 32 - cur % 2 ^ 32) < 0) then ⟨0, 0, 0⟩ else ⟨s.widen n short f, line, sample⟩

/-- The same for a commit, whose line must exist: a target before frame 0 is at the start of frame 0 (R37). -/
def State.commitTarget (s : State) (n : Nat) (short : Bool) (f line sample : Nat) : Pos :=
  let p := s.target n short f line sample
  if p.line = 0 ∧ 1 ≤ line ∧ line ≤ s.rLines n ∧ sample < s.rSamples n then ⟨0, 1, 0⟩ else ⟨p.frame, line, sample⟩

/-- A target position is reached (R38). -/
def State.reached (s : State) (n : Nat) (p : Pos) : Bool := p.le (s.pos n)

/-- The values that will be in force for frame `f` of raster `n` (R42): those in force for the current frame, the
registers' for a later one. -/
def State.swLineFor (s : State) (n f : Nat) : Nat :=
  if f ≤ (s.raster n).begun then s.rd F.SLATE_RASTER_STATUS_SWLINE_EFF n
  else
    let v := s.rd F.SLATE_RASTER_LINES_SWLINE n
    if v = 0 then builtinSwitch (s.rStruct n) else v
def State.leadFor (s : State) (n f : Nat) : Nat :=
  if f ≤ (s.raster n).begun then (s.raster n).lead else s.rd F.SLATE_RASTER_TIMING_LEAD n
def State.f2swFor (s : State) (n f : Nat) : Bool :=
  (if f ≤ (s.raster n).begun then decide ((s.raster n).f2sw ≠ 0) else s.on F.SLATE_RASTER_CFG_F2SW n)
    && interlaced (s.rStruct n)

/-- The latch-line override that will be in force for frame `f`; 0 stands for the built-in line. -/
def State.latchFor (s : State) (n f : Nat) : Nat :=
  if f ≤ (s.raster n).begun then (s.raster n).latch else s.rd F.SLATE_RASTER_LINES_LATCH n

/-- The switch lines of frame `f` of raster `n` (R31). -/
def State.switchLines (s : State) (n f : Nat) : List (Nat × Nat) :=
  let l := s.swLineFor n f
  if s.f2swFor n f then [(f, l), (f, l + fieldGap (s.rStruct n))] else [(f, l)]

/-- The commit lead is met for line `l` of frame `f` (R40): the egress timeline stands at or before line `l - lead`. -/
def State.meetsLead (s : State) (n f l lead : Nat) : Bool :=
  let e := s.egress n
  decide (e.frame * s.rLines n + e.line + lead ≤ f * s.rLines n + l)

/-- The first switch line of raster `n` that meets its lead and satisfies `ok` (R129). -/
def State.firstSwitch (s : State) (n from' : Nat) (ok : Nat × Nat → Bool) : Nat × Nat :=
  let cands := (List.range 5).flatMap fun k => s.switchLines n (from' + k)
  (cands.find? fun c => ok c && s.meetsLead n c.1 c.2 (s.leadFor n c.1)).getD (from' + 5, s.swLineFor n (from' + 5))

/-- The switch line a commit takes on its named raster (R129): the first at or after the target that meets the lead. -/
def State.switchNamed (s : State) (n : Nat) (target : Pos) : Nat × Nat :=
  s.firstSwitch n (Nat.max target.frame (s.pos n).frame) fun c =>
    decide (target.frame < c.1 ∨ (target.frame = c.1 ∧ target.line ≤ c.2))

/-- How the sample phase of raster `n` grows per CORE clock, and the amount of one sample. The synthesiser of the raster's
rate family and the CORE clock follow one control value (R67, R82), so their ratio is exact. -/
def State.phaseStep (s : State) (n : Nat) : Nat := (sampleRate (s.rStruct n) (s.rRate n)).1
def State.phaseFull (s : State) (n : Nat) : Nat := (sampleRate (s.rStruct n) (s.rRate n)).2 * 1250000000

/-- Samples from the present position of raster `n` to the start of a line. -/
def State.samplesTo (s : State) (n f l : Nat) : Int :=
  let p := s.pos n
  ((((f : Int) - p.frame) * s.rLines n + ((l : Int) - p.line)) * s.rSamples n) - p.sample

/-- CORE clocks from now to the start of a line of raster `n`, as a fraction. -/
def State.clocksTo (s : State) (n f l : Nat) : Int × Nat :=
  (s.samplesTo n f l * s.phaseFull n - (s.raster n).phase, s.phaseStep n)

/-- The start of line `l2` of frame `f2` on raster `n2` lies at or after that of line `l1` of `f1` on raster `n1` in PTP
time (R3, R129). -/
def State.atOrAfter (s : State) (n2 f2 l2 n1 f1 l1 : Nat) : Bool :=
  let a := s.clocksTo n2 f2 l2
  let b := s.clocksTo n1 f1 l1
  decide (b.1 * a.2 ≤ a.1 * b.2)

/-- The frame of raster `n` in which line `l` of frame `f` of raster `named` begins, or the one before. -/
def State.frameAt (s : State) (n named f l : Nat) : Nat :=
  let c := s.clocksTo named f l
  let samples := c.1 * (s.phaseStep n : Nat) / ((c.2 * s.phaseFull n : Nat) : Int)
  (s.pos n).frame + samples.toNat / Nat.max 1 (s.rLines n * s.rSamples n)

/-- The switch line a commit takes on a raster other than the named one (R129). -/
def State.switchOther (s : State) (n named f l : Nat) : Nat × Nat :=
  s.firstSwitch n (s.frameAt n named f l) fun c => s.atOrAfter n c.1 c.2 named f l

/-- A line and sample that exist on raster `n` (R47). -/
def State.lineOk (s : State) (n line : Nat) : Bool := decide (1 ≤ line ∧ line ≤ s.rLines n)

/-- One CORE clock of raster `n` (R28): its phase grows; at a whole sample the position moves on by one. The first frame
that begins after a COUNT raster's first lock carries the seed (R32). -/
def State.rasterTick (n : Nat) (s : State) : State :=
  if s.enabled n then
    let r := s.raster n
    let ph := r.phase + s.phaseStep n
    if s.phaseFull n ≤ ph then
      let p := addSamples r.pos 1 (s.rLines n) (s.rSamples n)
      let start := r.seedNext && decide (p.line = 1 ∧ p.sample = 0)
      let seed := s.rd64 F.SLATE_RASTER_SEED_SEED_LO F.SLATE_RASTER_SEED_SEED_HI n
      s.setRaster n { r with phase := ph - s.phaseFull n, seedNext := r.seedNext && !start,
                             pos := if start then { p with frame := seed } else p }
    else s.setRaster n { r with phase := ph }
  else s

/-- PTP time one CORE clock later (R27, R388): 0.8 ns * (1 + addend * 2^-64), the residue carried. -/
def ptpTick (a : Nat) (t : PtpTime) : PtpTime :=
  let unit := 5 * 2 ^ 64
  let r := t.res + 4 * 2 ^ 16 * ((2 ^ 64 : Int) + sx 64 a).toNat
  let fr := t.frac + r / unit
  let ns := t.ns + fr / 2 ^ 16
  ⟨(t.sec + ns / 1000000000) % 2 ^ 48, ns % 1000000000, fr % 2 ^ 16, r % unit⟩

/-- PTP time in units of 2^-16 ns. -/
def PtpTime.units (t : PtpTime) : Nat := (t.sec * 1000000000 + t.ns) * 2 ^ 16 + t.frac

/-- Units of the house timescale in a nanosecond: 2^-16 ns / 5, so that a CORE clock is 262,144 of them. -/
def nsUnits : Nat := 5 * 2 ^ 16

/-- The position raster `n` takes on the house timescale at first lock and, provisionally, when it is enabled (R32, R57,
R60; DEDUCED, log 10): frame F begins at house time F * P + OFS / fs. The second part is the sample phase. -/
def State.housePos (s : State) (n : Nat) : Pos × Nat :=
  let fs := sampleRate (s.rStruct n) (s.rRate n)
  let den := fs.2 * 1000000000 * nsUnits
  let samples := s.house * fs.1 / den - s.rd F.SLATE_RASTER_OFS_OFS n
  let ph := s.house * fs.1 % den * s.phaseFull n / den
  let spl := s.rSamples n
  let spf := spl * s.rLines n
  (⟨samples / spf, samples % spf / spl + 1, samples % spl⟩, ph)

end Sys2Proof.Machine
end

