-- ==== Sys2Proof/Machine/Flags.lean ====
section
/-! DEFINITION. Flags, events and reports: MSI-X raising (R468), event bits, engine events (Table 6-5), the event ring
(R164), Cobalt messages and mirroring (R168, R395, R399), the HOLD and fault pins, violation records (R437), fault events
and their severity (R430). -/
namespace Sys2Proof.Machine

/-! ### Interrupts (R468) -/

/-- Interrupt sources of Table 18-2. -/
abbrev Irq.hostif : Nat := 0
abbrev Irq.vermilion : Nat := 1
abbrev Irq.cmp : Nat := 2
abbrev Irq.gpi : Nat := 3
abbrev Irq.refsel : Nat := 4
abbrev Irq.xpt : Nat := 5
abbrev Irq.align : Nat := 6
abbrev Irq.probe : Nat := 7
abbrev Irq.cue : Nat := 8
abbrev Irq.sable : Nat := 9
abbrev Irq.ochre : Nat := 10
abbrev Irq.audio : Nat := 11
abbrev Irq.fab : Nat := 12
abbrev Irq.media : Nat := 13
abbrev Irq.ptp : Nat := 14
abbrev Irq.cobalt : Nat := 15
abbrev Irq.admission : Nat := 16
abbrev Irq.summary : Nat := 17
abbrev Irq.ring : Nat := 18

/-- Raise interrupt source `src`: its vector's message is signalled, or its pending bit set while the vector is masked
(R468; the mask's effect is PCI Express's, PRESUMED, log 7). -/
def State.raise (s : State) (src : Nat) : State :=
  let v := s.rd F.HOSTIF_VMAP_VECTOR src
  if s.on F.MSIX_TABLE_MASK v then s.wr F.MSIX_PBA_PENDING v 1
  else { s with hif := { s.hif with msgs := tput s.hif.msgs v (tget s.hif.msgs v 0 + 1) 0 } }

/-- Set an event bit that also raises its block's vector. -/
def State.event (s : State) (f : Fld) (i src : Nat) : State := (s.wr f i 1).raise src

/-! ### Engine events (Table 6-5) -/

/-- The spare engine number (R143). -/
def State.spareNum (s : State) : Nat := s.rd F.CUE_GLOBAL_CFG_SPARE_NUM 0

/-- Set bit `b` of EVPEND of engine number `n`; events addressed to the spare number are discarded (R143). While a
substitution moves the engine's state, events are held and delivered after it, which is the same bit (R172). -/
def State.engEvent (s : State) (n b : Nat) : State :=
  if n = s.spareNum ∨ 4 < n then s
  else s.wr F.CUE_EVPEND_BITS n (withBit (s.rd F.CUE_EVPEND_BITS n) b true)

/-- The same for every engine of a 5-bit mask. -/
def State.engMask (s : State) (mask b : Nat) : State := forEach (bitList mask 5) (fun n s => s.engEvent n b) s

/-! ### The event ring (R164) -/

/-- The ring can take records at all: EN set and a legal size. -/
def State.evrOpen (s : State) : Bool :=
  s.on F.CUE_EVR_STATUS_EN 0 && decide (4 ≤ s.rd F.CUE_EVR_SIZE_LOG2 0 ∧ s.rd F.CUE_EVR_SIZE_LOG2 0 ≤ 12)

/-- Records in the ring. -/
def State.evrFill (s : State) : Nat := (s.rd F.CUE_EVR_TAIL_TAIL 0 + 2 ^ 32 - s.rd F.CUE_EVR_HEAD_HEAD 0) % 2 ^ 32

/-- TAIL - HEAD equals the ring size. -/
def State.evrFull (s : State) : Bool := decide (2 ^ s.rd F.CUE_EVR_SIZE_LOG2 0 ≤ s.evrFill)

/-- Raster 0's position words of a record (Table 6-8). -/
def State.posWords (s : State) : List Nat :=
  let p := s.pos 0
  [p.frame % 2 ^ 32, p.frame / 2 ^ 32 % 2 ^ 32, p.line % 65536 + 65536 * (p.sample % 65536)]

/-- Write an event record (R164): into the ring and advancing TAIL, or discarded and counted. EVSEQ advances either
way, so that gaps show lost records. -/
def State.evRecord (s : State) (typ eng seq code d0 d1 : Nat) : State :=
  let words := [typ % 256 + 256 * (eng % 8) + 65536 * (seq % 65536), s.hif.evSeq % 2 ^ 32] ++ s.posWords
    ++ [code % 256, d0 % 2 ^ 32, d1 % 2 ^ 32]
  let s1 := { s with hif := { s.hif with evSeq := (s.hif.evSeq + 1) % 2 ^ 32 } }
  if !s.evrOpen then s1.incSat F.CUE_EVR_LOST_LOST 0
  else if s.evrFull then (s1.incSat F.CUE_EVR_LOST_LOST 0).wr F.CUE_EVR_STATUS_OVF 0 1
  else
    let t := s.rd F.CUE_EVR_TAIL_TAIL 0
    let slot := t % 2 ^ s.rd F.CUE_EVR_SIZE_LOG2 0
    (({ s1 with hif := { s1.hif with evRing := tins s1.hif.evRing slot words } }).addWrap F.CUE_EVR_TAIL_TAIL 0 1).raise
      Irq.cue

/-! ### The twin link (R394, R395, R399) -/

/-- The message types of Table 14-2. -/
abbrev Mt.hello : Nat := 1
abbrev Mt.record : Nat := 2
abbrev Mt.value : Nat := 3
abbrev Mt.cack : Nat := 4
abbrev Mt.hostw : Nat := 5
abbrev Mt.digest : Nat := 6
abbrev Mt.time : Nat := 7
abbrev Mt.echo : Nat := 8
abbrev Mt.giveup : Nat := 9
abbrev Mt.swap : Nat := 10
abbrev Mt.state : Nat := 11
abbrev Mt.status : Nat := 12

/-- LEN of a message: header, body and trailer in words of 8 bytes. -/
def Msg.len (m : Msg) : Nat := m.body.length + 3

/-- A message's words (Table 14-1): header, body, and the CRC-32 of both. Each value of a body takes one word, byte strings eight
bytes a word: DESIGN CHOICE (log 28). -/
def Msg.words (m : Msg) : List Nat :=
  let ws := [m.typ % 256 + 256 * b2n (decide (m.tries ≠ 0)) + 65536 * (m.len % 65536) + 2 ^ 32 * (m.seq % 2 ^ 32),
    m.ack % 2 ^ 32 + 2 ^ 32 * (m.line % 65536) + 2 ^ 48 * (m.frame % 65536)] ++ m.body.map (· % 2 ^ 64)
  ws ++ [crcWords (ws.flatMap fun w => [w % 2 ^ 32, w / 2 ^ 32])]

/-- Its blocks: SOM with LEN, and whole data blocks (R393, R394). -/
def Msg.blocks (m : Msg) : List Blk :=
  { ctl := true, pay := 6 * 2 ^ 56 + m.len } :: m.words.map fun w => { ctl := false, pay := w }

/-- CORE clocks that a lane takes for a message: 78 of its blocks in each frame of 105.6 ns (R393, R394). -/
def Msg.time (m : Msg) : Nat := ceilDiv ((m.len + 1) * 132) 78

/-- GIVEUP and CACK go before all others. -/
def Msg.first (m : Msg) : Bool := m.typ = Mt.giveup || m.typ = Mt.cack

/-- The lane with the shortest queue, and when its queue ends (R394). -/
def State.shortLane (s : State) : Nat × Nat :=
  let q := fun i => Nat.max s.clk (tget s.twin.lanes i 0)
  (List.range 4).foldl (fun a i => if q i < a.2 then (i, q i) else a) (0, q 0)

/-- Position of raster 0 at a clock not before the present one. -/
def State.stampAt (s : State) (t : Nat) : Pos :=
  let p := s.pos 0
  if s.rSamples 0 = 0 ∨ s.rLines 0 = 0 then p
  else addSamples p ((t - s.clk) * s.phaseStep 0 / s.phaseFull 0) (s.rLines 0) (s.rSamples 0)

/-- Put a message on the shortest queue: behind what waits there, or, for GIVEUP and CACK, ahead of all that has not begun. It carries
the highest SEQ received in order and raster 0's position when it leaves. -/
def State.transmit (s : State) (m : Msg) : State :=
  let l := s.shortLane
  let begun := s.twin.unacked.foldl (fun a x => if x.lane = l.1 ∧ x.sent ≤ s.clk then Nat.max a (x.sent + x.time) else a) s.clk
  let t := if m.first then begun else l.2
  let p := s.stampAt t
  let m := { m with lane := l.1, sent := t, ack := (s.twin.rxSeq + 2 ^ 32 - 1) % 2 ^ 32, line := p.line, frame := p.frame }
  let old := (s.twin.unacked.filter fun (x : Msg) => decide (x.seq ≠ m.seq)).map fun (x : Msg) =>
    if m.first && x.lane = l.1 && decide (s.clk < x.sent) then { x with sent := x.sent + m.time } else x
  { s with twin := { s.twin with unacked := if m.first then m :: old else old ++ [m], lanes := tput s.twin.lanes l.1 (l.2 + m.time) 0 } }

/-- Send a message (R394, R395): it takes the next SEQ and stays until it is acknowledged. Nothing is sent while the link is not UP, nor
in DEBUG, which takes no part in twin operation (R24). -/
def State.send (s : State) (typ : Nat) (body : List Nat) : State :=
  if !s.on F.COBALT_STATUS_LINK_UP 0 || s.mode = Mode.debug then s
  else
    ({ s with twin := { s.twin with txSeq := (s.twin.txSeq + 1) % 2 ^ 32 } }).transmit { typ := typ, body := body, seq := s.twin.txSeq }

/-- Words of 8 bytes from bytes, and from words of 4. -/
def wideWords (bs : List Nat) : List Nat :=
  (List.range (ceilDiv bs.length 8)).map fun k => ((bs.drop (8 * k)).take 8).foldr (fun b a => b % 256 + 256 * a) 0
def pairWords (ws : List Nat) : List Nat :=
  (List.range (ceilDiv ws.length 2)).map fun k => ws.getD (2 * k) 0 % 2 ^ 32 + 2 ^ 32 * (ws.getD (2 * k + 1) 0 % 2 ^ 32)

/-- A value of the house timescale as two words. -/
def houseValue (v : Nat) : List Nat := [v % 2 ^ 64, v / 2 ^ 64]

/-- The device mirrors to a standby (R168, R399): ACTIVE, in step or converging, or its copy on the way, and not running alone
after a timeout (R402). Items mirrored after the copy follow it in the order of the link (R404). -/
def State.mirroring (s : State) : Bool :=
  let p := s.rd F.COBALT_STATUS_PAIR_STATE 0
  s.mode = Mode.active && (p = 3 || p = 4 || (p = 2 && s.twin.transferring)) && !s.twin.alone

/-- Send a mirrored host write (Table 14-2): space, offset, byte count, data, and the position of its acceptance; a write of more
than 8,128 bytes goes in parts (R399). -/
def State.sendHostw (s : State) (at' : List Nat) (space off : Nat) (data : List Nat) : State :=
  (List.range (Nat.max 1 (ceilDiv data.length 8128))).foldl (fun s k =>
    let d := (data.drop (8128 * k)).take 8128
    s.send Mt.hostw ([space, off + 8128 * k, d.length] ++ wideWords d ++ at')) s

/-- Send a mirrored item. -/
def State.mirror (s : State) (typ : Nat) (body : List Nat) : State := if s.mirroring then s.send typ body else s

/-- IN_STEP cleared: a pair in step falls back to CONVERGING (R402, R403, R460). -/
def State.clearInStep (s : State) : State :=
  if s.rd F.COBALT_STATUS_PAIR_STATE 0 = 4 then s.wr F.COBALT_STATUS_PAIR_STATE 0 3 else s

/-- Time and position of an event as body words of a message (active house position, R168, R399). -/
def State.houseWords (s : State) : List Nat := s.posWords

/-! ### Modes and ownership (R409, R454, Table 1-4) -/

/-- Enter a mode: OWN follows Table 1-4, and a change of mode is a ROLE event to every engine (Table 6-5). -/
def State.setMode (s : State) (m : Nat) : State :=
  let s1 := (s.wr F.TOP_DEV_MODE_MODE 0 m).wr F.TOP_DEV_MODE_OWN 0
    (b2n (decide (m = Mode.standalone ∨ m = Mode.active)))
  if s.mode = m then s1 else s1.engMask 31 12

/-- The twin role, whose change is a ROLE event to every engine (Table 6-5). -/
def State.setRole (s : State) (r : Nat) : State :=
  if s.rd F.COBALT_STATUS_ROLE 0 = r then s else (s.wr F.COBALT_STATUS_ROLE 0 r).engMask 31 12

/-- Leave the role of the active device (R409): OWN dropped, HOLD set on every egress lane, IN_STEP clear; `next`: the mode
entered. -/
def State.leaveActive (s : State) (next : Nat) : State :=
  let s1 := s.wr F.TOP_DEV_MODE_OWN 0 0
  let s2 := { s1 with twin := { s1.twin with holdGive := true, alone := true } }
  ((s2.clearInStep.setRole 2).event F.COBALT_EVENT_GAVE_UP 0 Irq.cobalt).setMode next

/-- Give up control (R409): GIVEUP queued, the role left. `reason` is the GIVEUP body. -/
def State.giveUpTo (s : State) (reason next : Nat) : State := (s.send Mt.giveup [reason]).leaveActive next

/-- Give up control on an ACTIVE device (R409); no effect in any other mode. -/
def State.giveUp (s : State) (reason : Nat) : State :=
  if s.mode = Mode.active then s.giveUpTo reason Mode.standby else s

/-- Take ownership on a STANDBY device (R410); it mirrors nothing until a transfer. -/
def State.takeOwn (s : State) : State :=
  let s0 := forEach (List.range 5) (fun n s => s.setEng n { s.eng n with vals := [] }) s
  let s1 := { s0 with twin := { s0.twin with holdGive := false, alone := true } }
  ((s1.clearInStep.setRole 1).event F.COBALT_EVENT_TOOK_OWN 0 Irq.cobalt).setMode Mode.active

/-- HOLD as the egress STATUS blocks and the HOLD pin carry it (R328, R409, R431). -/
def State.holdPin (s : State) : Bool :=
  s.mode = Mode.calibrate || s.twin.holdGive || !s.flt.holds.isEmpty

/-- OWN as the pin carries it (R20). -/
def State.ownPin (s : State) : Bool := s.on F.TOP_DEV_MODE_OWN 0

/-- FAULT_N and SEVERE_N (R434): low while an unmasked bit stands. -/
def State.faultPinN (s : State) : Bool :=
  !(List.range 49).any fun i => s.on F.FLT_STATUS_SRC i && !s.on F.FLT_MASK_SRC i
def State.severePinN (s : State) : Bool :=
  !(List.range 49).any fun i => s.on F.FLT_SEVERE_SRC i && !s.on F.FLT_MASK_SRC i

/-! ### Stopping engines (R156, R157) -/

/-- CUE_STATUS STATE codes (Table 6-6). -/
abbrev Es.stopped : Nat := 0
abbrev Es.idle : Nat := 1
abbrev Es.running : Nat := 2
abbrev Es.waiting : Nat := 3
abbrev Es.halted : Nat := 4
abbrev Es.faulted : Nat := 5
abbrev Es.spare : Nat := 6
abbrev Es.retired : Nat := 7

/-- STATE of engine number `n`. -/
def State.es (s : State) (n : Nat) : Nat := s.rd F.CUE_STATUS_STATE n

/-- Stop engine `n` at its instruction boundary, keeping an armed wait; commands lie between instructions. -/
def State.engStop (s : State) (n cause : Nat) : State :=
  if s.es n = Es.running ∨ s.es n = Es.waiting ∨ s.es n = Es.idle then
    let idle := decide (s.es n = Es.idle)
    let e := s.eng n
    ((s.setEng n { e with wasIdle := idle }).wr F.CUE_STATUS_STATE n Es.stopped).wr F.CUE_STATUS_STOP_CAUSE n cause
  else s

/-- Entry to SAFE (R157, R409, R455): an ACTIVE device gives up first; every running engine stops with STOP_CAUSE SAFE. -/
def State.enterSafe (s : State) : State :=
  if s.mode = Mode.standalone ∨ s.mode = Mode.active ∨ s.mode = Mode.standby then
    let s1 := if s.mode = Mode.active then s.giveUpTo 0xFF Mode.safe else s.setMode Mode.safe
    let s2 := { s1 with twin := { s1.twin with solo := decide (s.mode = Mode.standalone) } }
    forEach (List.range 5) (fun n s => s.engStop n 1) s2
  else s

/-- Empty engine number `n`'s comparators. -/
def State.disarmAll (s : State) (n : Nat) : State := s.setEng n { s.eng n with cmps := [] }

/-- Abandon a wait: the wait is forgotten and a waiting admission request leaves the queue (R420). -/
def State.abandonWait (s : State) (n : Nat) : State :=
  let s1 := s.setEng n { s.eng n with wait := .none }
  let q := s1.adm.queue.filter fun r => decide (r.master ≠ n)
  ({ s1 with adm := { s1.adm with queue := q } }).wr F.ADMIT_QUEUE_WAITING 0 q.length

/-- ENG_RESET (R156): the engine STOPPED with g, k, RS, EVPEND, the return stack and the comparators cleared and the cue
window emptied; a record discarded from it is reported as a STOPPED event record with its SEQ (DEDUCED, log 12). -/
def State.engReset (s : State) (n : Nat) : State :=
  if s.es n = Es.spare ∨ s.es n = Es.retired then s
  else
    let seq := (s.eng n).win.map (·.seq)
    let s1 := s.abandonWait n
    let s2 := s1.setEng n { vals := (s1.eng n).vals }
    let s3 := forEach (List.range 16) (fun j s => s.setG n j 0) s2
    let s4 := forEach (List.range 4) (fun k s => (((s.wr F.CUE_KREG_W0 (n * 4 + k) 0).wr F.CUE_KREG_W1 (n * 4 + k) 0).wr
      F.CUE_KREG_W2 (n * 4 + k) 0).wr F.CUE_KREG_W3 (n * 4 + k) 0) s3
    let s5 := ((((s4.wr F.CUE_STATUS_RS n 0).wr F.CUE_EVPEND_BITS n 0).wr F.CUE_STATUS_FAULT_CLASS n 0).wr
      F.CUE_STATUS_FAULT_CODE n 0).wr F.CUE_STATUS_STOP_CAUSE n 0
    let s6 := s5.wr F.CUE_STATUS_STATE n Es.stopped
    match seq with
    | some q => s6.evRecord 0x0A n q 0 0 0
    | none => s6

/-- The CRC-32 of program memory 0x0_0000-0x1_F7FF of engine number `n` (R171, R398). -/
def State.pmemCrc (s : State) (n : Nat) : Nat :=
  crcWords ((List.range 32256).map fun i => tget s.pmem (n * 32768 + i) 0)

/-- START (R156, R171): the return stack empties, g, k, RS, EVPEND and armed comparators stay; RING mode enters IDLE,
RESIDENT mode begins at CUE_START_ADDR. CUE_PMEM_CRC is computed. -/
def State.engStart (s : State) (n : Nat) : State :=
  let e := s.eng n
  let win := e.win.map fun w => { w with depth := none }
  let s1 := (s.abandonWait n).setEng n { e with stack := [], wait := .none, runSince := s.clk, wasIdle := false, win := win }
  let s2 := { s1 with regs := tins s1.regs (F.CUE_PMEM_CRC_CRC.key n) (s.pmemCrc n) }
  let s3 := ((s2.wr F.CUE_STATUS_FAULT_CLASS n 0).wr F.CUE_STATUS_FAULT_CODE n 0).wr F.CUE_STATUS_STOP_CAUSE n 0
  if s.on F.CUE_CTRL_MODE n then
    (s3.wr F.CUE_PC_PC n (s.rd F.CUE_START_ADDR_ADDR n)).wr F.CUE_STATUS_STATE n Es.running
  else s3.wr F.CUE_STATUS_STATE n Es.idle

end Sys2Proof.Machine
end

