-- ==== Sys2Proof/Machine/Faults.lean ====
section
/-! DEFINITION. The fault collector's shared operations (chapter 16): the BLOCK_RESET action of each source (Table 16-1),
a fault event with its window, severity and action (R430-R434), and a partner violation's record (R437). -/
namespace Sys2Proof.Machine

/-- Bits of FLT_STATUS (Table 16-1). -/
abbrev Src.fab (lane : Nat) : Nat := lane / 38
abbrev Src.media (p : Nat) : Nat := 4 + p
abbrev Src.mgt : Nat := 12
abbrev Src.ptp : Nat := 13
abbrev Src.cxl (c : Nat) : Nat := 14 + c
abbrev Src.sable : Nat := 18
abbrev Src.xpt (k : Nat) : Nat := 19 + k
abbrev Src.align : Nat := 28
abbrev Src.ochre (phys : Nat) : Nat := 29 + phys / 25
abbrev Src.audio : Nat := 33
abbrev Src.tdm : Nat := 34
abbrev Src.synth : Nat := 35
abbrev Src.refsel : Nat := 36
abbrev Src.slate : Nat := 37
abbrev Src.cue (n : Nat) : Nat := 38 + n
abbrev Src.cobalt : Nat := 43
abbrev Src.hostif : Nat := 44
abbrev Src.keys : Nat := 45
abbrev Src.thermal : Nat := 46
abbrev Src.wear : Nat := 47
abbrev Src.otp : Nat := 48

/-- The source has a BLOCK_RESET action (Table 16-1). -/
def resettable (src : Nat) : Bool :=
  decide (src ≤ 17) || decide (29 ≤ src ∧ src ≤ 32) || src = 34 || decide (38 ≤ src ∧ src ≤ 43)

/-- Empty a transmit timestamp queue, counting its entries in LOST (R392, Table 16-1). -/
def State.ptpFlush (s : State) (q : Nat) : State :=
  let l := (tget s.txq q []).length
  ({ s with txq := tput s.txq q [] [] }.addSat F.PTP_TXQ_LOST q l).wr F.PTP_TXQ_COUNT q 0

/-- CXL port `c` starts the steps of R222 again (R223): TRAINING until a port report ends them. -/
def State.cxlTrain (s : State) (c : Nat) : State :=
  ((s.wr F.CXLP_PORT_STATUS_STATE c 1).wr F.CXLP_PORT_STATUS_REASON c 0)

/-- FAB_LANE_STATUS STATE codes. -/
abbrev Ln.off : Nat := 0
abbrev Ln.deep : Nat := 1
abbrev Ln.idle : Nat := 2
abbrev Ln.training : Nat := 3
abbrev Ln.hunt : Nat := 4
abbrev Ln.blockLock : Nat := 5
abbrev Ln.active : Nat := 6
abbrev Ln.test : Nat := 7
abbrev Ln.failed : Nat := 8
abbrev Ln.retired : Nat := 9

def State.lane (s : State) (n : Nat) : Lane := tget s.lanes n {}
def State.setLane (s : State) (n : Nat) (x : Lane) : State := { s with lanes := tput s.lanes n x {} }
def State.laneSt (s : State) (n : Nat) : Nat := s.rd F.FAB_LANE_STATUS_STATE n

/-- Presets of a channel class (Table 11-9): pre-cursor, post-cursor, CTLE. -/
def eqPreset (cls : Nat) : Nat × Nat × Nat :=
  match cls with
  | 0 => (0, 4, 2) | 1 => (4, 10, 7) | _ => (8, 16, 12)

/-- The equalisers start from the presets (R330). -/
def State.eqReset (s : State) (n : Nat) : State :=
  let p := eqPreset (s.rd F.FAB_LANE_CTRL_CLASS n)
  ((s.wr F.FAB_LANE_EQ_TX_PRE n p.1).wr F.FAB_LANE_EQ_TX_POST n p.2.1).wr F.FAB_LANE_EQ_CTLE n p.2.2

/-- The lane's training begins (R332, R333): TRAIN blocks first. -/
def State.toTraining (s : State) (n : Nat) (hot : Bool) : State :=
  (s.setLane n { s.lane n with hot := hot, train := 0, txHead := [], txq := [] }).wr F.FAB_LANE_STATUS_STATE n Ln.training

/-- The BLOCK_RESET action of a source (Table 16-1). -/
def State.blockReset (s : State) (src : Nat) : State :=
  if src ≤ 3 then
    forEach ((List.range 38).map (· + 38 * src)) (fun n s =>
      if s.laneSt n = Ln.failed ∧ s.rd F.FAB_LANE_STATUS_LOGICAL n = 0xFF then (s.eqReset n).toTraining n false else s) s
  else if src ≤ 12 then { s with hostFifo := tput s.hostFifo (src - 4) 0 0 }
  else if src = 13 then forEach (List.range 9) (fun q s => s.ptpFlush q) s
  else if src ≤ 17 then
    let st := s.rd F.CXLP_PORT_STATUS_STATE (src - 14)
    if st = 0 ∨ st = 4 ∨ st = 5 then s.cxlTrain (src - 14)
    else (s.wr F.CXLP_PORT_CTRL_RETRAIN_REFUSED (src - 14) 1)
  else if 29 ≤ src ∧ src ≤ 32 then
    forEach ((List.range 25).map (· + 25 * (src - 29))) (fun h s =>
      { s with headReinit := tput s.headReinit h true false }) s
  else if src = 34 then
    forEach (List.range 16) (fun i s =>
      if s.rd F.TDM_STATUS_STATE i = 3 ∨ s.rd F.TDM_STATUS_STATE i = 4 then
        { s.wr F.TDM_STATUS_STATE i 1 with tdms := tput s.tdms i { tget s.tdms i {} with good := 0 } {} } else s) s
  else if 38 ≤ src ∧ src ≤ 42 then
    let n := src - 38
    if s.es n = Es.spare ∨ s.es n = Es.retired ∨ !s.enginesRun then s.engReset n else (s.engReset n).engStart n
  else if src = 43 then
    if s.on F.COBALT_CTRL_PAIR_EN 0 then
      (forEach (List.range 4) (fun i s => (s.wr F.COBALT_LANE_STATE i 1).wr F.COBALT_LANE_FRAME_LOCK i 0) s).wr F.COBALT_STATUS_LANES_UP 0 0
    else s
  else s

/-- Take a severe source's action (R431), reduced under R432 and masked under R433. -/
def State.faultAction (s : State) (src : Nat) (partnerOnly : Bool) : State :=
  if s.on F.FLT_MASK_SRC src then s
  else
    let a := s.rd F.FLT_SRC_CFG_ACTION src
    let a' := if 1 < a ∧ (partnerOnly ∨ !s.inService ∨ (a = 5 ∧ s.mode ≠ Mode.active)) then 1 else a
    if a' = 0 then s
    else
      let s1 := s.raise Irq.vermilion
      if a' = 2 then { s1 with flt := { s1.flt with holds := tins s1.flt.holds src s1.clk } }
      else if a' = 3 then s1.blockReset src
      else if a' = 4 then s1.enterSafe
      else if a' = 5 then s1.giveUp src
      else s1

/-- A fault event of a source (R429, R430): its bit, COUNT and time; the window; severity with its action, once. -/
def State.faultEvent (s : State) (src : Nat) (partner : Bool) : State :=
  let w := s.rd F.FLT_SRC_CFG_W src * msClk
  let old := (tget s.flt.win src []).filter fun e => decide (s.clk < e.at' + w)
  let win := old ++ [⟨s.clk, partner⟩]
  let newBit := !s.on F.FLT_STATUS_SRC src
  let fr := (s.pos 0).frame
  let s1 := { s with flt := { s.flt with
    win := tput s.flt.win src win []
    lastDev := if partner then s.flt.lastDev else tins s.flt.lastDev src s.clk } }
  let s2 := ((s1.wr F.FLT_STATUS_SRC src 1).addWrap F.FLT_SRC_STAT_COUNT src 1).wr F.FLT_SRC_STAT_IN_WIN src
    (Nat.min win.length 255)
  let s3 := (if newBit then s2.wr F.FLT_SRC_STAT_FIRST_FRAME src fr else s2).wr F.FLT_SRC_STAT_LAST_FRAME src fr
  let s4 := if newBit && s.on F.FLT_CFG_IRQ_ANY 0 && !s.on F.FLT_MASK_SRC src then s3.raise Irq.vermilion else s3
  if !s.on F.FLT_SEVERE_SRC src && decide (s.rd F.FLT_SRC_CFG_N src ≤ win.length) then
    let po := win.all (·.partner)
    ((s4.wr F.FLT_SEVERE_SRC src 1).wr F.FLT_SRC_STAT_PARTNER_ONLY src (b2n po)).faultAction src po
  else s4

/-- `k` events of several copies of a source in one clock count separately (R430). -/
def State.faultEvents (s : State) (src k : Nat) (partner : Bool) : State :=
  forEach (List.range k) (fun _ s => s.faultEvent src partner) s

/-- PTP time as a violation record and the other time-stamped records carry it. -/
def PtpTime.words (t : PtpTime) : List Nat := [t.sec % 2 ^ 32, t.sec / 2 ^ 32 % 65536 + 65536 * t.frac, t.ns]

/-- The words of a violation record (Table 16-3). -/
def State.vlogWords (s : State) (iface partner code answer detail : Nat) : List Nat :=
  s.ptp.words ++ [iface + 256 * code + 65536 * answer, partner % 65536 + 65536, (s.pos 0).frame % 2 ^ 32,
    (s.pos 0).line % 65536, detail % 2 ^ 32]

/-- Log a partner violation and count it against its source (R437): a violation like the newest record's, less than 1 ms
after that record's time, adds to its COUNT; any other takes the entry NEXT names. -/
def State.violation (s : State) (iface partner code answer detail src : Nat) : State :=
  let key := [iface, partner, code]
  let nxt := s.rd F.FLT_VLOG_PTR_NEXT 0
  let s1 :=
    if s.flt.vlogKey = key ∧ s.clk < s.flt.vlogAt + msClk then
      let i := ((nxt + 511) % 512) * 8 + 4
      let w := s.rd F.FLT_VLOG_WORD i
      s.wr F.FLT_VLOG_WORD i (w % 65536 + 65536 * Nat.min (w / 65536 + 1) 65535)
    else
      let ws := s.vlogWords iface partner code answer detail
      let s2 := forEach (List.range 8) (fun k s => s.wr F.FLT_VLOG_WORD (nxt * 8 + k) (ws.getD k 0)) s
      let s3 := { s2 with flt := { s2.flt with vlogKey := key, vlogAt := s.clk } }
      let s4 := s3.wr F.FLT_VLOG_PTR_NEXT 0 ((nxt + 1) % 512)
      if nxt = 511 then s4.addWrap F.FLT_VLOG_PTR_WRAPS 0 1 else s4
  s1.faultEvent src true

end Sys2Proof.Machine
end

