-- ==== Sys2Proof/Machine/Host.lean ====
section
/-! DEFINITION. What every host register write meets before its own rule: READY and the early-write rule (R451, R459), the
standby's refusal of mirrored blocks (R401), and the mirroring of an ACTIVE device's writes (R399, Table 14-3). -/
namespace Sys2Proof.Machine

/-- BAR0 offsets of the mirrored class (Table 14-3). -/
def mirroredOff (off : Nat) : Bool :=
  match blockOf off with
  | some .admission => !decide (0x150020 ≤ off ∧ off < 0x150038)
  | some .slate => decide (0x10200 ≤ off ∧ off < 0x10400) || decide (0x10A00 ≤ off)
  | some .xpt | some .audio | some .tdm | some .ochre | some .probe => true
  | some .align => decide (0x56000 ≤ off) && decide (off % 32 = 0)
  | some .cue => decide (off < 0x60004) || (decide (0x61000 ≤ off ∧ off < 0x61500) && decide (off % 256 = 0)) ||
      decide (0x70000 ≤ off)
  | some .sable => decide (0x80030 ≤ off ∧ off < 0x80040) || decide (0x80100 ≤ off ∧ off < 0x80200)
  | _ => false

/-- The place that HOSTW names for a BAR0 write; in the engine memory window it carries CUE_WIN_SEL too, which is not mirrored. -/
def State.hostwOff (s : State) (off : Nat) : Nat :=
  if 0x70000 ≤ off ∧ off < 0x80000 then
    off + 2 ^ 24 * (s.rd F.CUE_WIN_SEL_ENGINE 0 + 8 * s.rd F.CUE_WIN_SEL_TARGET 0 + 32 * s.rd F.CUE_WIN_SEL_PAGE 0)
  else off

/-- A host write that has led to `t` is sent as HOSTW by a device that mirrors, in the same clock (R399). -/
def State.hostDone (s : State) (off w : Nat) (t : State) : State :=
  if mirroredOff off && s.mirroring then t.sendHostw s.posWords 0 (s.hostwOff off) (leBytes w) else t

/-- A write of master 0 at a BAR0 offset whose rule is `f` (R399, R401, R451, R459): dropped while READY is low, ignored with
WR_EARLY outside TOP before CALIBRATE, refused with STBY_REFUSED on a standby's mirrored block; otherwise carried out, and
sent as HOSTW by an ACTIVE device. -/
def State.boardWrite (s : State) (off w : Nat) (f : State → State) : State :=
  if !s.pins.ready then s
  else if decide (s.mode ≤ Mode.init) && decide (blockOf off ≠ some .top) then s.wr F.TOP_INIT_STATUS_WR_EARLY 0 1
  else if decide (s.mode = Mode.standby) && mirroredOff off then s.event F.COBALT_EVENT_STBY_REFUSED 0 Irq.cobalt
  else s.hostDone off w (f s)

/-- A host write at a BAR0 offset: dropped while BAR decoding is off (R467). -/
def State.hostWrite (s : State) (off w : Nat) (f : State → State) : State := if s.hif.d3 then s else s.boardWrite off w f

/-- The same for a command that is a write with certain bits set: the word carries them whatever `w` says of them. -/
def State.hostWriteSet (s : State) (off w b : Nat) (f : Nat → State → State) : State :=
  s.hostWrite off (Nat.lor w b) (f (Nat.lor w b))

/-- The same for a window of BAR2 or BAR4, of which `mir` says whether Table 14-3 mirrors it. -/
def State.winDone (s : State) (mir : Bool) (bar off w : Nat) (t : State) : State :=
  if mir && s.mirroring then t.sendHostw s.posWords bar off (leBytes w) else t

/-- The same for a write in a BAR2 or BAR4 window, of which `mir` says whether Table 14-3 mirrors it; `bar` and `off` name
the place in the HOSTW body. -/
def State.hostWriteWin (s : State) (mir : Bool) (bar off w : Nat) (f : State → State) : State :=
  if !s.pins.ready || s.hif.d3 then s
  else if decide (s.mode ≤ Mode.init) then s.wr F.TOP_INIT_STATUS_WR_EARLY 0 1
  else if decide (s.mode = Mode.standby) && mir then s.event F.COBALT_EVENT_STBY_REFUSED 0 Irq.cobalt
  else s.winDone mir bar off w (f s)

/-- The next state of a meaning. -/
def ok (s : State) : Host.Outcome State Fault Refusal := .next s

end Sys2Proof.Machine
end

