-- ==== Sys2Proof/Machine/Routes.lean ====
section
/-! DEFINITION. Slots and their owners (R9-R11, Table 1-3), group widths and format families (R91, R92, R127, Table 5-5),
the rasters of destinations, which routes stand, and when a raster is in use (R44). -/
namespace Sys2Proof.Machine

/-- Layout classes (R91): 0 none, 1 SD, 2 PAIR, 3 3GA, 4 6G, 5 12G, 6 24G, 7 OPAQUE. -/
def classLayout (cls : Nat) : Nat :=
  match cls with
  | 1 => 1 | 2 => 2 | 3 => 2 | 4 => 3 | 5 => 4 | 6 => 5 | 7 => 6 | _ => 0

/-- Strands of a serial class (R10, R11). -/
def classWidth (cls : Nat) : Nat :=
  match cls with
  | 5 => 2 | 6 => 4 | 7 => 8 | _ => 1

/-- Layout class of a format (Table 4-1). -/
def formatLayout (st rate : Nat) : Nat :=
  match st with
  | 1 => 1 | 2 => 1 | 3 => 2 | 4 => 2
  | 5 => if rate ≤ 4 then 2 else 3
  | 6 => if rate ≤ 4 then 4 else if rate ≤ 7 then 5 else 6
  | _ => 0

/-- Strands of a format (Table 4-1). -/
def formatWidth (st rate : Nat) : Nat :=
  match formatLayout st rate with
  | 4 => 2 | 5 => 4 | 6 => 8 | _ => 1

/-- Format family (R91): layout class and rate family in one number. -/
def family (layout : Nat) (f1001 : Bool) : Nat := layout * 2 + b2n f1001

/-- Group width code of Table 5-3. -/
def widthOf (code : Nat) : Nat := 2 ^ (code % 4)

/-- What Table 5-5 gives a slot: its group's width (none: any), its family (none: any), and whether it is a dead slot. -/
structure Owner where
  width : Option Nat := none
  fam : Option Nat := none
  dead : Bool := false
deriving DecidableEq, Repr

/-- The port that a fabric slot's signal belongs to (R9, R11). -/
def State.slotPort (s : State) (slot : Nat) : Nat :=
  let p := slot / 4
  if p % 2 = 1 ∧ s.rd F.ALIGN_PORT_CFG_CLASS (p - 1) = 7 then p - 1 else p

/-- The upper half of a forerunner-mode lane carries nothing (R16). -/
def State.foreDead (s : State) (slot : Nat) : Bool :=
  decide (16 ≤ slot % 32) && (List.range 152).any fun n =>
    s.rd F.FAB_LANE_STATUS_LOGICAL n = slot / 32 && s.on F.FAB_LANE_CTRL_FORERUNNER n

/-- The owner data of a fabric slot. -/
def State.fabricOwner (s : State) (slot : Nat) (dest : Bool) : Owner :=
  let p := s.slotPort slot
  let cls := s.rd F.ALIGN_PORT_CFG_CLASS p
  let r := s.rd F.ALIGN_PORT_CFG_RASTER p
  if cls = 0 then { width := some 1, dead := dest || s.foreDead slot }
  else
    { width := some (classWidth cls)
      fam := some (family (classLayout cls) (decide (cls ≠ 1) && family1001 (s.rStruct r) (s.rRate r)))
      dead := decide (classWidth cls ≤ slot - 4 * p) || s.foreDead slot }

/-- Configuration word `w` of flow entry `i`. -/
def State.fw (s : State) (i w : Nat) : Nat := tget s.flows (i * 32 + w) 0
def State.setFw (s : State) (i w v : Nat) : State := { s with flows := tput s.flows (i * 32 + w) (v % 2 ^ 32) 0 }

/-- Flow entry `i` is VALID, and its fields (Tables 12-2, 12-3). -/
def State.fValid (s : State) (i : Nat) : Bool := bit (s.fw i 0) 0
def State.fDir (s : State) (i : Nat) : Nat := bits (s.fw i 0) 1 1
def State.fType (s : State) (i : Nat) : Nat := bits (s.fw i 0) 4 4
def State.fPort (s : State) (i : Nat) : Nat := bits (s.fw i 0) 8 6
def State.fLeg (s : State) (i : Nat) : Nat := bits (s.fw i 0) 14 2
def State.fPartner (s : State) (i : Nat) : Nat := bits (s.fw i 0) 16 16
def State.fBind (s : State) (i : Nat) : Nat := s.fw i 10
def State.fSlot (s : State) (i : Nat) : Nat := bits (s.fBind i) 0 13
def State.fWidth (s : State) (i : Nat) : Nat := if s.fType i = 1 then widthOf (bits (s.fBind i) 13 2) else 1
def State.fStruct (s : State) (i : Nat) : Nat := bits (s.fBind i) 15 4
def State.fRate (s : State) (i : Nat) : Nat := bits (s.fBind i) 19 4
def State.fSampling (s : State) (i : Nat) : Nat := bits (s.fBind i) 23 3
def State.fRaster (s : State) (i : Nat) : Nat := bits (s.fBind i) 26 3
def State.fFirstCh (s : State) (i : Nat) : Nat := bits (s.fBind i) 0 16
def State.fCount (s : State) (i : Nat) : Nat := bits (s.fBind i) 16 7
def State.f96 (s : State) (i : Nat) : Bool := bit (s.fBind i) 23
def State.fChannels (s : State) (i : Nat) : Nat := s.fCount i * (if s.f96 i then 2 else 1)

/-- The flow entries whose word 0 is not 0, in index order: every VALID entry is one. -/
def State.flowIdx (s : State) : List Nat := (s.flows.filter fun e => e.1 % 32 = 0).map fun e => e.1 / 32

/-- The VALID VIDEO or OPAQUE entry of a direction that binds an IP slot. -/
def State.flowOfSlot (s : State) (slot dir : Nat) : Option Nat :=
  s.flowIdx.find? fun i => s.fValid i && s.fDir i = dir && (s.fType i = 1 || s.fType i = 5)
    && decide (s.fSlot i ≤ slot ∧ slot < s.fSlot i + s.fWidth i)

/-- The owner data of an IP strand: from the flow configuration (Table 12-6, R369); a slot no flow binds is dead. -/
def State.ipOwner (s : State) (slot dir : Nat) : Owner :=
  match s.flowOfSlot slot dir with
  | none => { dead := true }
  | some i =>
    if s.fType i = 5 then { width := some 1, fam := some (family 7 (fractional (s.fRate i))) }
    else { width := some (s.fWidth i)
           fam := some (family (formatLayout (s.fStruct i) (s.fRate i)) (family1001 (s.fStruct i) (s.fRate i))) }

/-- Word `i` of block `b` of a head's active and staged set (R256). -/
def hkey (h b i : Nat) : Nat := h * 1024 + b * 64 + i
def State.hAct (s : State) (h b i : Nat) : Nat := tget s.headAct (hkey h b i) 0
def State.hStg (s : State) (h b i : Nat) : Nat := tget s.headStg (hkey h b i) 0

/-- A raster format that can carry a head (Table 9-1). -/
def headFormat (st rate : Nat) : Bool := decide (3 ≤ st ∧ st ≤ 6) && rateOk st rate && decide (rate ≤ 7)

/-- The owner data of a head's slot (R251). -/
def State.headOwner (s : State) (slot : Nat) : Owner :=
  let h := (slot - 6272) / 4
  let r := bits (s.hAct h 0 0) 1 3
  let st := s.rStruct r
  let rt := s.rRate r
  let w := formatWidth st rt
  { width := some w, fam := some (family (formatLayout st rt) (family1001 st rt))
    dead := !headFormat st rt || decide (w ≤ slot % 4) }

/-- Layout a player presents (Table 5-5): a 2160p buffer of width 1 is one strand of its group. -/
def playerLayout (w st rate : Nat) : Nat :=
  if st = 6 ∧ w = 1 then (if rate ≤ 4 then 2 else 3) else formatLayout st rate

/-- The owner data of a player's slot. -/
def State.playerOwner (s : State) (slot : Nat) : Owner :=
  let p := s.player ((slot - 5760) / 4)
  if p.ever then
    { width := some p.everWidth
      fam := some (family (playerLayout p.everWidth p.everStruct p.everRate) (family1001 p.everStruct p.everRate))
      dead := decide (p.everWidth ≤ slot % 4) }
  else { dead := true }

/-- The owner data of a source slot and of a destination slot. -/
def State.srcOwner (s : State) (slot : Nat) : Owner :=
  if slot < 4608 then s.fabricOwner slot false
  else if slot < 5760 then s.ipOwner slot 0
  else if slot < 6272 then s.playerOwner slot
  else if slot < 6656 then s.headOwner slot
  else if slot < 6720 then {}
  else { dead := true }
def State.dstOwner (s : State) (slot : Nat) : Owner :=
  if slot < 4608 then s.fabricOwner slot true
  else if slot < 5760 then s.ipOwner slot 1
  else if slot < 6336 then {}
  else { dead := true }

/-- A generator's slot (R138). -/
def isGen (slot : Nat) : Bool := decide (6656 ≤ slot ∧ slot < 6720)

/-- One past the end of the range that holds a source slot or a destination slot; none for a reserved slot. -/
def srcEnd (s : Nat) : Option Nat :=
  if s < 4608 then some 4608 else if s < 5760 then some 5760 else if s < 6272 then some 6272
  else if s < 6656 then some 6656 else if s < 6720 then some 6720 else none
def dstEnd (d : Nat) : Option Nat :=
  if d < 4608 then some 4608 else if d < 5760 then some 5760 else if d < 6272 then some 6272
  else if d < 6336 then some 6336 else none

/-- The raster of a destination slot (Table 5-5); a recorder takes its source on the source's own timing and has none of its
own: its routes change on the raster the commit names (DEDUCED, log 13). -/
def State.dstRaster (s : State) (d : Nat) : Option Nat :=
  if d < 4608 then some (s.rd F.ALIGN_PORT_CFG_RASTER (s.slotPort d))
  else if d < 5760 then (s.flowOfSlot d 1).map s.fRaster
  else if d < 6272 then none
  else if d < 6336 then some (s.rd F.PROBE_CFG_RASTER (d - 6272))
  else none

/-- The active routes, as destination slot and entry. -/
def State.routes (s : State) : List (Nat × XEnt) := s.xActive.filter fun e => e.2.routed

/-- The routes staged in the shadow table, captured ones included. -/
def State.stagedRoutes (s : State) : List (Nat × XEnt) :=
  (s.xShadow.filter fun e => (e.2.staged || e.2.pending) && e.2.ent.routed).map fun e => (e.1, e.2.ent)

/-- An active or staged route reads a source slot of the range, or writes a destination slot of it (R99, R353). -/
def State.readsSlots (s : State) (lo n : Nat) : Bool :=
  (s.routes ++ s.stagedRoutes).any fun e => decide (lo ≤ e.2.src ∧ e.2.src < lo + n)
def State.writesSlots (s : State) (lo n : Nat) : Bool :=
  (s.routes ++ s.stagedRoutes).any fun e => decide (lo ≤ e.1 ∧ e.1 < lo + n)

/-- An engine comparator stands armed on raster `n`. -/
def State.engCmpOn (s : State) (n : Nat) : Bool :=
  s.engs.any fun e => e.2.cmps.any fun c => decide (c.2.purpose ≠ 0 ∧ c.2.raster = n)

/-- An active audio entry of an embedder channel lies on raster `n`, that of its port. -/
def State.audioOn (s : State) (n : Nat) : Bool :=
  s.aud.act.any fun e => e.2.ent.routed && decide (e.1 < 36864) &&
    s.rd F.ALIGN_PORT_CFG_RASTER (s.slotPort (e.1 / 32 * 4)) = n

/-- Raster `n` is in use (R44). -/
def State.inUse (s : State) (n : Nat) : Bool :=
  (s.routes.any fun e => s.dstRaster e.1 = some n)
  || ((List.range 96).any fun h => bit (s.hAct h 0 0) 0 && bits (s.hAct h 0 0) 1 3 = n)
  || (s.audioOn n)
  || ((List.range 16).any fun i => s.on F.TDM_CFG_EN i && s.rd F.TDM_CFG_RASTER i = n)
  || ((List.range 32).any fun k => s.on F.SLATE_CMP_CTRL_ARM k && s.rd F.SLATE_CMP_CTRL_RASTER k = n)
  || ((List.range 256).any fun j => s.on F.SLATE_GPO_SCHED_VALID j && s.rd F.SLATE_GPO_SCHED_RASTER j = n)
  || s.engCmpOn n
  || ((List.range 32).any fun i => s.on F.SLATE_GPI_CFG_EDGE i && s.rd F.SLATE_GPI_CFG_RASTER i = n)

end Sys2Proof.Machine
end

