-- ==== Sys2Proof/Machine/Slate.lean ====
section
/-! DEFINITION. House time and rasters (chapter 2): snapshots, raster registers, comparators, general-purpose inputs and
outputs. -/
namespace Sys2Proof.Machine

/-! ### Snapshot (R46) -/

/-- Capture raster `n` in SLATE_SNAP_POS: its house position. Of a disabled raster LINE is 0; DESIGN CHOICE (log 132): the frame
and sample words, of which nothing is stated, are 0 too. -/
def State.snapPos (n : Nat) (s : State) : State :=
  let p := if s.enabled n then s.pos n else ⟨0, 0, 0⟩
  ((((s.wr64 F.SLATE_SNAP_POS_FRAME_LO F.SLATE_SNAP_POS_FRAME_HI n p.frame).wr F.SLATE_SNAP_POS_LINE n p.line).wr
    F.SLATE_SNAP_POS_SAMPLE n p.sample).wr F.SLATE_SNAP_POS_ENABLED n (b2n (s.enabled n))).wr
    F.SLATE_SNAP_POS_LOCKED n (s.rd F.SLATE_RASTER_STATUS_LOCKED n)

/-- Capture PTP time and the positions of all rasters, and count the snapshot. -/
def State.snap (s : State) : State :=
  let t := s.ptp
  let s1 := (((s.wr F.SLATE_SNAP_TIME_SEC_LO 0 t.sec).wr F.SLATE_SNAP_TIME_SEC_HI 0 (t.sec / 2 ^ 32)).wr
    F.SLATE_SNAP_TIME_FRAC 0 t.frac).wr F.SLATE_SNAP_TIME_NS 0 t.ns
  (forEach (List.range 8) State.snapPos s1).addWrap F.SLATE_SNAP_TIME_SNAP_SEQ 0 1

/-- SNAP. -/
def execSnap (s : State) : Host.Outcome State Fault Refusal := ok (s.hostWrite 0x10010 1 State.snap)

/-! ### Rasters (R30, R32, R41-R45) -/

/-- The switch line the registers give raster `n`. -/
def State.swLineReg (s : State) (n : Nat) : Nat :=
  let v := s.rd F.SLATE_RASTER_LINES_SWLINE n
  if v = 0 then builtinSwitch (s.rStruct n) else v

/-- Bring the override, latch, lead and F2SW registers of raster `n` into force for its current frame (R42). -/
def State.loadLines (n : Nat) (s : State) : State :=
  let r := s.raster n
  (s.setRaster n { r with latch := s.rd F.SLATE_RASTER_LINES_LATCH n, lead := s.rd F.SLATE_RASTER_TIMING_LEAD n,
                          f2sw := s.rd F.SLATE_RASTER_CFG_F2SW n, begun := r.pos.frame }).wr
    F.SLATE_RASTER_STATUS_SWLINE_EFF n (s.swLineReg n)

/-- Some raster is locked to PTP (R34). -/
def State.ptpLocked (s : State) : Bool :=
  (List.range 8).any fun n => s.on F.SLATE_RASTER_CFG_BASIS n && s.on F.SLATE_RASTER_STATUS_EVER_LOCKED n

/-- Keep the read-only copy of R34 in PTP_STATUS. -/
def State.showPtpLocked (s : State) : State := s.wr F.PTP_STATUS_PTP_LOCKED 0 (b2n s.ptpLocked)

/-- First lock of an enabled raster (R32, R33): it takes its frame phase on the house timescale; a PTP_EPOCH raster takes
its numbering there too, a COUNT raster carries SEED from the next frame that begins. -/
def State.lockRaster (n : Nat) (s : State) : State :=
  if s.enabled n && !s.on F.SLATE_RASTER_STATUS_EVER_LOCKED n then
    let r := s.raster n
    let h := s.housePos n
    let epoch := s.on F.SLATE_RASTER_CFG_BASIS n
    let p := if epoch then h.1 else { h.1 with frame := r.pos.frame }
    let s1 := s.setRaster n { r with pos := p, phase := h.2, seedNext := !epoch, begun := p.frame }
    ((s1.wr F.SLATE_RASTER_STATUS_EVER_LOCKED n 1).wr F.SLATE_RASTER_STATUS_LOCKED n
      (s.rd F.REFSEL_COND_REFGOOD 0)).showPtpLocked
  else s

/-- The FRAME_PULSE outputs that name raster `n` wait for its next frame start, or for its end (R89). -/
def State.pulsesWait (n : Nat) (s : State) : State :=
  { s with refouts := (List.range 4).foldl (fun t i =>
      if s.rd F.REFOUT_CFG_TYPE i = 0 ∧ s.rd F.REFOUT_CFG_RASTER i = n then
        tput t i { tget t i {} with waiting := true, since := s.house, frame := (s.pos n).frame } {}
      else t) s.refouts }

/-- Start raster `n` (R43). Its numbering is provisional (R33): a COUNT raster's frame number is a free value until it locks;
an established house locks it at once (R69). -/
def State.enableRaster (n : Nat) (s : State) : State :=
  let s1 := (s.wr F.SLATE_RASTER_CFG_EN n 1).wr F.SLATE_RASTER_STATUS_ENABLED n 1
  let h := s1.housePos n
  let d := s1.draw
  let p := if s.on F.SLATE_RASTER_CFG_BASIS n then h.1 else { h.1 with frame := d.2 % 2 ^ 64 }
  let s2 := if s.on F.SLATE_RASTER_CFG_BASIS n then s1 else d.1
  let s3 := ((s2.setRaster n { (s2.raster n) with pos := p, phase := h.2, seedNext := false }).loadLines n).pulsesWait n
  if s.on F.REFSEL_COND_ESTABLISHED 0 then (s3.lockRaster n).loadLines n else s3

/-- Clearing EN, refused while the raster is in use, and on raster 0 in an in-service mode (R44, R45). -/
def State.disableRaster (n : Nat) (s : State) : State :=
  if s.inUse n || (decide (n = 0) && s.inService) then s.wr F.SLATE_RASTER_STATUS_DISABLE_REFUSED n 1
  else
    let r := s.raster n
    let s1 := s.setRaster n { r with seedNext := false, offs := r.offs + 1 }
    ((((s1.wr F.SLATE_RASTER_CFG_EN n 0).wr F.SLATE_RASTER_STATUS_ENABLED n 0).wr F.SLATE_RASTER_STATUS_LOCKED n 0).wr
      F.SLATE_RASTER_STATUS_EVER_LOCKED n 0).showPtpLocked.pulsesWait n

/-- STRUCT, RATE and BASIS of a write to SLATE_RASTER_CFG (R30, R43): EN is judged as it stands before the write. DESIGN CHOICE
(log 132): SWLINE, LATCH, ADV and OFS stand as they are, also where the new format would make their values reserved. -/
def State.rasterFormat (s : State) (n w : Nat) : State :=
  let st := bits w 4 4
  let rt := bits w 8 4
  let b := bits w 12 1
  if st = s.rStruct n ∧ rt = s.rRate n ∧ b = s.rd F.SLATE_RASTER_CFG_BASIS n then s
  else if s.enabled n then s.wr F.SLATE_RASTER_STATUS_CFG_REFUSED n 1
  else
    let s1 := if rateOk st rt then (s.wr F.SLATE_RASTER_CFG_STRUCT n st).wr F.SLATE_RASTER_CFG_RATE n rt
              else s.wr F.SLATE_RASTER_STATUS_CFG_REFUSED n 1
    s1.wr F.SLATE_RASTER_CFG_BASIS n b

/-- What a write to SLATE_RASTER_CFG[n] does to the raster. -/
def State.rasterSet (n w : Nat) (s : State) : State :=
  let s1 := (s.rasterFormat n w).wr F.SLATE_RASTER_CFG_F2SW n (bits w 13 1)
  if bit w 0 then (if s.enabled n then s1 else s1.enableRaster n)
  else if s.enabled n then s1.disableRaster n else s1

/-- A write to SLATE_RASTER_SEED[n] (R35). -/
def State.rasterSeed (n : Nat) (hi : Bool) (w : Nat) (s : State) : State :=
  if s.on F.SLATE_RASTER_STATUS_EVER_LOCKED n then s.wr F.SLATE_RASTER_STATUS_SEED_IGNORED n 1
  else s.wr (if hi then F.SLATE_RASTER_SEED_SEED_HI else F.SLATE_RASTER_SEED_SEED_LO) n w

/-- RASTER_SEED_WRITE. -/
def execRasterSeedWrite (n : Fin 8) (hi : Bool) (w : Word) (s : State) : Host.Outcome State Fault Refusal :=
  ok (s.hostWrite (0x10210 + 0x40 * n.val + (if hi then 4 else 0)) w.toNat (State.rasterSeed n.val hi w.toNat))

/-- A write to SLATE_RASTER_TIMING[n] (R41, R8): LEAD 0 and an ADV of a line or more are reserved; a change of ADV while the
raster is in use is refused. DESIGN CHOICE (log 132): LEAD of a write whose ADV is refused or reserved is taken. -/
def State.rasterTiming (n w : Nat) (s : State) : State :=
  let lead := bits w 0 4
  let adv := bits w 16 13
  let s1 := if lead = 0 then s else s.wr F.SLATE_RASTER_TIMING_LEAD n lead
  if s.rSamples n ≤ adv ∨ adv = s.rd F.SLATE_RASTER_TIMING_ADV n then s1
  else if s.inUse n then s1.wr F.SLATE_RASTER_STATUS_CFG_REFUSED n 1
  else s1.wr F.SLATE_RASTER_TIMING_ADV n adv

/-- RASTER_TIMING_WRITE. -/
def execRasterTimingWrite (n : Fin 8) (w : Word) (s : State) : Host.Outcome State Fault Refusal :=
  ok (s.hostWrite (0x10208 + 0x40 * n.val) w.toNat (State.rasterTiming n.val w.toNat))

/-- A write to SLATE_RASTER_OFS[n] (R43): refused while EN is 1; a frame length or more is reserved. -/
def State.rasterOfs (n w : Nat) (s : State) : State :=
  let v := bits w 0 24
  if v = s.rd F.SLATE_RASTER_OFS_OFS n then s
  else if s.enabled n then s.wr F.SLATE_RASTER_STATUS_CFG_REFUSED n 1
  else if s.rLines n * s.rSamples n ≤ v then s else s.wr F.SLATE_RASTER_OFS_OFS n v

/-- A write to SLATE_RASTER_LINES[n] (R8, R31): a line beyond the format, or whose field 2 line is, is reserved. -/
def State.rasterLines (n w : Nat) (s : State) : State :=
  let sw := bits w 0 12
  let la := bits w 16 12
  let s1 := if sw + fieldGap (s.rStruct n) ≤ s.rLines n then s.wr F.SLATE_RASTER_LINES_SWLINE n sw else s
  if la ≤ s.rLines n then s1.wr F.SLATE_RASTER_LINES_LATCH n la else s1

/-- FRAMES_DONE of a plane substitution's compare step follows raster 0's frames (R140). -/
def State.psubFrames (s : State) : State :=
  if s.rd F.XPT_PSUB_JOURNAL_STEP 0 = 2 then
    s.wr F.XPT_PSUB_JOURNAL_FRAMES_DONE 0 (Nat.min 64 ((s.pos 0).frame - s.psubFrame))
  else s

/-- RASTER_FRAME_START: the first clock of a frame whose start has not been applied. -/
def execRasterFrameStart (n : Fin 8) (s : State) : Host.Outcome State Fault Refusal :=
  ok (if s.enabled n.val ∧ (s.pos n.val).frame ≠ (s.raster n.val).begun then
    let s1 := s.loadLines n.val
    if n.val = 0 then s1.psubFrames else s1
  else s)

/-! ### Targets (R36-R38, R47) -/

/-- A position compared on raster `r` can be armed (R47): the raster runs, and the line and sample exist. -/
def State.armOk (s : State) (r line sample : Nat) : Bool :=
  s.enabled r && s.lineOk r line && decide (sample < s.rSamples r)

/-- Target position of Slate comparator `k`. -/
def State.cmpTarget (s : State) (k : Nat) : Pos :=
  let r := s.rd F.SLATE_CMP_CTRL_RASTER k
  s.target r (s.on F.SLATE_CMP_CTRL_STYLE k) (s.rd64 F.SLATE_CMP_TGT_FRAME_LO F.SLATE_CMP_TGT_FRAME_HI k)
    (s.rd F.SLATE_CMP_TGT_LINE k) (s.rd F.SLATE_CMP_TGT_SAMPLE k)

/-- Target position of schedule entry `j`. -/
def State.schedTarget (s : State) (j : Nat) : Pos :=
  let r := s.rd F.SLATE_GPO_SCHED_RASTER j
  s.target r (s.on F.SLATE_GPO_SCHED_STYLE j) (s.rd64 F.SLATE_GPO_SCHED_FRAME_LO F.SLATE_GPO_SCHED_FRAME_HI j)
    (s.rd F.SLATE_GPO_SCHED_LINE j) (s.rd F.SLATE_GPO_SCHED_SAMPLE j)

/-! ### Comparators (R47, R48) -/

/-- Fire comparator `k` (R48); `late` also sets LATE. The target of a SHORT comparator is FRAME_LO alone (R37). -/
def State.cmpFire (k : Nat) (late : Bool) (s : State) : State :=
  let s1 := ((s.wr F.SLATE_CMP_STATUS_FIRED k 1).wr F.SLATE_CMP_EVENT_FIRED k 1).addWrap F.SLATE_CMP_STATUS_FIRE_COUNT k 1
  let s2 := if late then s1.wr F.SLATE_CMP_STATUS_LATE k 1 else s1
  let s3 := if s.on F.SLATE_CMP_CTRL_IRQ k then s2.raise Irq.cmp else s2
  let s4 := s3.engMask (s.rd F.SLATE_CMP_CTRL_ENG_MASK k) 4
  if s.on F.SLATE_CMP_CTRL_PERIODIC k then
    if s.on F.SLATE_CMP_CTRL_STYLE k then s4.addWrap F.SLATE_CMP_TGT_FRAME_LO k (s.rd F.SLATE_CMP_TGT_PERIOD k)
    else s4.wr64 F.SLATE_CMP_TGT_FRAME_LO F.SLATE_CMP_TGT_FRAME_HI k
      (s.rd64 F.SLATE_CMP_TGT_FRAME_LO F.SLATE_CMP_TGT_FRAME_HI k + s.rd F.SLATE_CMP_TGT_PERIOD k)
  else s4.wr F.SLATE_CMP_CTRL_ARM k 0

/-- The fields of SLATE_CMP_CTRL beside ARM. -/
def State.cmpFields (k w : Nat) (s : State) : State :=
  ((((s.wr F.SLATE_CMP_CTRL_RASTER k (bits w 1 3)).wr F.SLATE_CMP_CTRL_STYLE k (bits w 4 1)).wr
    F.SLATE_CMP_CTRL_IRQ k (bits w 5 1)).wr F.SLATE_CMP_CTRL_ENG_MASK k (bits w 8 5)).wr
    F.SLATE_CMP_CTRL_PERIODIC k (bits w 16 1)

/-- Comparator `k` may be armed with its fields as they stand (R47). -/
def State.cmpOk (s : State) (k : Nat) : Bool :=
  s.armOk (s.rd F.SLATE_CMP_CTRL_RASTER k) (s.rd F.SLATE_CMP_TGT_LINE k) (s.rd F.SLATE_CMP_TGT_SAMPLE k)
    && (!s.on F.SLATE_CMP_CTRL_PERIODIC k || s.on F.SLATE_CMP_TGT_PERIOD k)

/-- Arm comparator `k`: refused with ARM_REFUSED, or armed, firing at once when its target is reached (R47, R48). DESIGN CHOICE
(log 132): the write's other fields are taken when the arming is refused, and a write with ARM 1 to an armed comparator is judged
again and leaves it armed when it is refused. -/
def State.cmpArm (k w : Nat) (s : State) : State :=
  let s1 := s.cmpFields k w
  if s1.cmpOk k then
    let s2 := s1.wr F.SLATE_CMP_CTRL_ARM k 1
    let t := s2.cmpTarget k
    let r := s2.rd F.SLATE_CMP_CTRL_RASTER k
    if s2.reached r t then s2.cmpFire k (t.lt (s2.pos r)) else s2
  else s1.wr F.SLATE_CMP_STATUS_ARM_REFUSED k 1

/-- CMP_ARM: a write to SLATE_CMP_CTRL[k] with ARM 1. -/
def execCmpArm (k : Fin 32) (w : Word) (s : State) : Host.Outcome State Fault Refusal :=
  ok (s.hostWrite (0x10400 + 0x20 * k.val) w.toNat (State.cmpArm k.val w.toNat))

/-- A write with ARM 0: the comparator is disarmed. -/
def State.cmpDisarm (k w : Nat) (s : State) : State := (s.cmpFields k w).wr F.SLATE_CMP_CTRL_ARM k 0

/-- CMP_DISARM: a write to SLATE_CMP_CTRL[k] with ARM 0. -/
def execCmpDisarm (k : Fin 32) (w : Word) (s : State) : Host.Outcome State Fault Refusal :=
  ok (s.hostWrite (0x10400 + 0x20 * k.val) w.toNat (State.cmpDisarm k.val w.toNat))

/-- A write to target word `i` of comparator `k`, ignored with ARM_REFUSED while it is armed (R47). -/
def State.cmpTgt (k i w : Nat) (s : State) : State :=
  if s.on F.SLATE_CMP_CTRL_ARM k then s.wr F.SLATE_CMP_STATUS_ARM_REFUSED k 1
  else
    match i with
    | 0 => s.wr F.SLATE_CMP_TGT_FRAME_LO k w
    | 1 => s.wr F.SLATE_CMP_TGT_FRAME_HI k w
    | 2 => (s.wr F.SLATE_CMP_TGT_LINE k w).wr F.SLATE_CMP_TGT_SAMPLE k (w / 65536)
    | _ => s.wr F.SLATE_CMP_TGT_PERIOD k w

/-- CMP_TGT_WRITE. -/
def execCmpTgtWrite (k : Fin 32) (word : Fin 4) (w : Word) (s : State) : Host.Outcome State Fault Refusal :=
  ok (s.hostWrite (0x10404 + 0x20 * k.val + 4 * word.val) w.toNat (State.cmpTgt k.val word.val w.toNat))

/-- COMPARATOR_FIRE: armed, its raster running and its target reached (R38, R48). -/
def execComparatorFire (k : Fin 32) (s : State) : Host.Outcome State Fault Refusal :=
  let r := s.rd F.SLATE_CMP_CTRL_RASTER k.val
  ok (if s.on F.SLATE_CMP_CTRL_ARM k.val && s.enabled r && s.reached r (s.cmpTarget k.val) then s.cmpFire k.val false else s)

/-! ### General-purpose inputs (R49-R51) -/

/-- Filtered level of input `i`. -/
def State.gpiLevel (s : State) (i : Nat) : Bool := bit (s.rd F.SLATE_GPI_LEVEL_LEVEL 0) i

/-- Show a queue's head record in its word registers; zeros when it is empty. -/
def State.showHead (f : Fld) (n : Nat) (q : List (List Nat)) (s : State) : State :=
  let h := q.headD []
  forEach (List.range n) (fun k s => s.wr f k (h.getD k 0)) s

/-- Put the GPI queue in place: COUNT and the head record follow it. -/
def State.setGpiq (s : State) (q : List (List Nat)) : State :=
  (({ s with gpiq := q }).wr F.SLATE_GPI_QSTAT_COUNT 0 q.length).showHead F.SLATE_GPI_EVT_WORD 8 q

/-- Input `i` shows a new level: the change is stamped and its filter period starts (R49). -/
def State.gpiChange (i : Nat) (level : Bool) (s : State) : State :=
  if level = (s.gpi i).raw then s
  else s.setGpi i { (s.gpi i) with raw := level, since := s.clk, stamp := s.ptp, at8 := (List.range 8).map s.pos,
                                   waiting := s.gpiOn && decide (level ≠ s.gpiLevel i) }

/-- The filters first sample their inputs (R49): each filtered level is the input's, and no edge. -/
def State.gpiSettle (s : State) : State :=
  { s with gpiOn := true, gpis := s.gpis.map fun (g : Nat × Gpi) => (g.1, { g.2 with waiting := false }) }.wr F.SLATE_GPI_LEVEL_LEVEL 0
    ((List.range 32).foldl (fun a i => a + b2n (s.gpi i).raw * 2 ^ i) 0)

/-- GPI_LEVEL_CHANGE. -/
def execGpiLevelChange (i : Fin 32) (level : Bool) (s : State) : Host.Outcome State Fault Refusal :=
  ok (s.gpiChange i.val level)

/-- A GPI event record (Table 2-3); the position words are 0 while the raster is disabled (R51). -/
def State.gpiRecord (s : State) (i : Nat) : List Nat :=
  let g := s.gpi i
  let r := s.rd F.SLATE_GPI_CFG_RASTER i
  let p := if s.enabled r then g.at8.getD r ⟨0, 0, 0⟩ else ⟨0, 0, 0⟩
  g.stamp.words ++ [i + 32 * b2n g.raw + 64 * r + 512 * b2n (s.enabled r), p.frame % 2 ^ 32, p.frame / 2 ^ 32 % 2 ^ 32,
    p.line % 65536 + 65536 * (p.sample % 65536), s.gpiSeq]

/-- The edge direction of input `i` is enabled by EDGE (R50). -/
def State.gpiEdgeOn (s : State) (i : Nat) : Bool :=
  bit (s.rd F.SLATE_GPI_CFG_EDGE i) (if (s.gpi i).raw then 0 else 1)

/-- Queue a GPI record, or discard it into LOST with OVF when 256 are queued (R50). -/
def State.gpiQueue (i : Nat) (s : State) : State :=
  let rec' := s.gpiRecord i
  let s1 := { s with gpiSeq := (s.gpiSeq + 1) % 2 ^ 32 }
  if s.gpiq.length < 256 then s1.setGpiq (s.gpiq ++ [rec'])
  else (s1.incSat F.SLATE_GPI_LOST_LOST 0).wr F.SLATE_GPI_QSTAT_OVF 0 1

/-- Accept the edge of input `i` (R49, R50). -/
def State.gpiAccept (i : Nat) (s : State) : State :=
  let g := s.gpi i
  let s1 := (s.setGpi i { g with waiting := false }).wr F.SLATE_GPI_LEVEL_LEVEL 0
    (withBit (s.rd F.SLATE_GPI_LEVEL_LEVEL 0) i g.raw)
  if s.gpiEdgeOn i then
    let s2 := s1.gpiQueue i
    let s3 := s2.engMask (s.rd F.SLATE_GPI_CFG_ENG_MASK i) 5
    if s.on F.SLATE_GPI_CFG_IRQ i then s3.raise Irq.gpi else s3
  else s1

/-- GPI_EDGE_ACCEPT: the input has held its new level for FILT microseconds. -/
def execGpiEdgeAccept (i : Fin 32) (s : State) : Host.Outcome State Fault Refusal :=
  let g := s.gpi i.val
  ok (if g.waiting && decide (g.since + s.rd F.SLATE_GPI_CFG_FILT i.val * usClk ≤ s.clk) then s.gpiAccept i.val else s)

/-- A write of SLATE_GPI_POP. -/
def State.gpiPop (w : Nat) (s : State) : State := if bit w 0 then s.setGpiq s.gpiq.tail else s

/-- GPI_POP: a write with bit 0 set removes the head record. -/
def execGpiPop (w : Word) (s : State) : Host.Outcome State Fault Refusal :=
  ok (s.hostWrite 0x1098C w.toNat (State.gpiPop w.toNat))

/-! ### General-purpose outputs (R52-R55) -/

/-- What the present clock has done to the outputs so far. -/
def State.gpoNow (s : State) : GpoClock :=
  match s.gpoClock with
  | some c => if c.at' = s.clk then c else { at' := s.clk, base := s.rd F.SLATE_GPO_LEVEL_LEVEL 0 }
  | none => { at' := s.clk, base := s.rd F.SLATE_GPO_LEVEL_LEVEL 0 }

/-- The levels of a clock: the immediate writes, then the schedule entries in ascending index (R53). -/
def GpoClock.level (c : GpoClock) : Nat :=
  c.ents.foldl (fun l e => Nat.lor (Nat.land l (Nat.xor e.2.1 (2 ^ 32 - 1))) (Nat.land e.2.2 e.2.1)) c.base

/-- Drive the outputs with what the clock has done. -/
def State.gpoDrive (s : State) (c : GpoClock) : State := { s with gpoClock := some c }.wr F.SLATE_GPO_LEVEL_LEVEL 0 c.level

/-- A write of the GPO levels: 0 whole, 1 set, 2 clear; schedule entries of the same clock apply after it (R53). -/
def State.gpoWrite (op w : Nat) (s : State) : State :=
  let c := s.gpoNow
  s.gpoDrive { c with base := if op = 0 then w else if op = 1 then Nat.lor c.base w else Nat.land c.base (Nat.xor w (2 ^ 32 - 1)) }

/-- GPO_LEVEL_WRITE. -/
def execGpoLevelWrite (w : Word) (s : State) : Host.Outcome State Fault Refusal :=
  ok (s.hostWrite 0x10A00 w.toNat (State.gpoWrite 0 w.toNat))

/-- GPO_SET. -/
def execGpoSet (w : Word) (s : State) : Host.Outcome State Fault Refusal :=
  ok (s.hostWrite 0x10A04 w.toNat (State.gpoWrite 1 w.toNat))

/-- GPO_CLR. -/
def execGpoClr (w : Word) (s : State) : Host.Outcome State Fault Refusal :=
  ok (s.hostWrite 0x10A08 w.toNat (State.gpoWrite 2 w.toNat))

/-- Set or clear VALID of entry `j`, PENDING counting the valid entries. -/
def State.setValid (j : Nat) (b : Bool) (s : State) : State :=
  let s1 := s.wr F.SLATE_GPO_SCHED_VALID j (b2n b)
  if b = s.on F.SLATE_GPO_SCHED_VALID j then s1
  else if b then s1.addSat F.SLATE_GPO_SCHED_STATUS_PENDING 0 1 else s1.subSat F.SLATE_GPO_SCHED_STATUS_PENDING 0 1

/-- Apply entry `j`: VALUE to the outputs of MASK, among the entries of this clock by its index, and VALID cleared (R52, R53). -/
def State.schedApply (j : Nat) (s : State) : State :=
  let c := s.gpoNow
  (s.gpoDrive { c with ents := tins c.ents j (s.rd F.SLATE_GPO_SCHED_MASK j, s.rd F.SLATE_GPO_SCHED_VALUE j) }).setValid j false

/-- Set VALID of entry `j` (R52, R55): refused, scheduled, or applied at once when its target is reached. -/
def State.schedArm (j : Nat) (s : State) : State :=
  let r := s.rd F.SLATE_GPO_SCHED_RASTER j
  if s.armOk r (s.rd F.SLATE_GPO_SCHED_LINE j) (s.rd F.SLATE_GPO_SCHED_SAMPLE j) then
    let s1 := s.setValid j true
    let t := s1.schedTarget j
    if s1.reached r t then
      let s2 := if t.lt (s1.pos r) then s1.wr F.SLATE_GPO_SCHED_STATUS_LATE 0 1 else s1
      s2.schedApply j
    else s1
  else s.wr F.SLATE_GPO_SCHED_STATUS_REFUSED 0 1

/-- A write to word `i` of schedule entry `j` (R52). DESIGN CHOICE (log 132): RASTER and STYLE of a word 0 whose arming is refused
are taken. -/
def State.schedWrite (j i w : Nat) (s : State) : State :=
  if s.on F.SLATE_GPO_SCHED_VALID j ∧ ¬(i = 0 ∧ bit w 0 = false) then s.wr F.SLATE_GPO_SCHED_STATUS_REFUSED 0 1
  else
    match i with
    | 0 =>
      let s1 := ((s.wr F.SLATE_GPO_SCHED_RASTER j (bits w 1 3)).wr F.SLATE_GPO_SCHED_STYLE j (bits w 4 1))
      if bit w 0 then s1.schedArm j else s1.setValid j false
    | 1 => s.wr F.SLATE_GPO_SCHED_FRAME_LO j w
    | 2 => s.wr F.SLATE_GPO_SCHED_FRAME_HI j w
    | 3 => (s.wr F.SLATE_GPO_SCHED_LINE j w).wr F.SLATE_GPO_SCHED_SAMPLE j (w / 65536)
    | 4 => s.wr F.SLATE_GPO_SCHED_MASK j w
    | _ => s.wr F.SLATE_GPO_SCHED_VALUE j w

/-- GPO_SCHED_WRITE. -/
def execGpoSchedWrite (j : Fin 256) (word : Fin 6) (w : Word) (s : State) : Host.Outcome State Fault Refusal :=
  ok (s.hostWrite (0x12000 + 0x20 * j.val + 4 * word.val) w.toNat (State.schedWrite j.val word.val w.toNat))

/-- Entry `j` is valid and its target is reached. -/
def State.schedDue (s : State) (j : Nat) : Bool :=
  let r := s.rd F.SLATE_GPO_SCHED_RASTER j
  s.on F.SLATE_GPO_SCHED_VALID j && s.enabled r && s.reached r (s.schedTarget j)

/-- GPO_SCHED_APPLY: entry `j` is due, and no lower entry is (R53). -/
def execGpoSchedApply (j : Fin 256) (s : State) : Host.Outcome State Fault Refusal :=
  ok (if s.schedDue j.val && !(List.range j.val).any s.schedDue then s.schedApply j.val else s)

end Sys2Proof.Machine
end

