-- ==== Sys2Proof/Machine/Refsel.lean ====
section
/-! DEFINITION. The reference selector and the synthesisers (chapter 3). Phases are integers in house units, a fifth of 2^-16 ns;
frequencies in units of 8e-19, so that MAXRATE is whole a CORE clock; control values in registers are signed 48-bit codes in units of
2^-48. The filter between phase error and control value is analogue detail the spec does not state: the control value of a loop on
a candidate is the candidate's measured frequency and the difference of the slew in progress (log 14). -/
namespace Sys2Proof.Machine

def State.cand (s : State) (c : Nat) : Cand := tget s.ref.cands c {}
def State.setCand (s : State) (c : Nat) (x : Cand) : State :=
  { s with ref := { s.ref with cands := tput s.ref.cands c x {} } }
def State.setRef (s : State) (f : Refsel → Refsel) : State := { s with ref := f s.ref }

/-- STATE codes of REFSEL_CAND. -/
abbrev Cs.off : Nat := 0
abbrev Cs.absent : Nat := 1
abbrev Cs.qualifying : Nat := 2
abbrev Cs.qualified : Nat := 3
abbrev Cs.drifting : Nat := 4
abbrev Cs.disqualified : Nat := 5

def State.cst (s : State) (c : Nat) : Nat := s.rd F.REFSEL_CAND_STATE c

/-- QUALIFIED or DRIFTING (R65). -/
def State.usable (s : State) (c : Nat) : Bool := s.cst c = Cs.qualified || s.cst c = Cs.drifting

/-- The selected candidate. -/
def State.sel (s : State) : Option Nat :=
  if s.on F.REFSEL_COND_SEL_VALID 0 then some (s.rd F.REFSEL_COND_SELECTED 0) else none

/-- A FREQ-class candidate (Table 3-1). -/
def State.freqClass (s : State) (c : Nat) : Bool :=
  decide (c < 4) && (s.rd F.REFSEL_CAND_TYPE c = 1 || s.rd F.REFSEL_CAND_TYPE c = 3)

/-! ### Conditions (R73, R74) -/

/-- The condition: the first entry of Table 3-3 that applies. -/
def State.refCond (s : State) : Nat :=
  if s.ref.locoscFailed || s.ref.limitOut then 7
  else
    match s.sel with
    | none => if s.ref.hoVal.isSome then 6 else 0
    | some c =>
      let st := s.rd F.REFSEL_COND_STAGE 0
      if st = 0 then 1 else if st ≠ 3 then 2
      else if s.cst c = Cs.drifting then 5
      else if s.ref.slew.isSome then 4 else 3

/-- The pins REFSTAT[2:0] and REFGOOD (R73, R74): the one register that COND and its copy show. -/
def State.refstatPins (s : State) : BitVec 3 := BitVec.ofNat 3 (s.rd F.REFSEL_COND_COND 0)
def State.refgoodPin (s : State) : Bool := s.on F.REFSEL_COND_REFGOOD 0

/-- The five-state view of Table 3-3. -/
def fiveState (cond : Nat) : Nat :=
  match cond with
  | 7 => 4 | 6 => 3 | 0 => 0 | 1 => 1 | 2 => 1 | _ => 2

/-- LOCKED of every raster that has locked follows REFGOOD (R69). -/
def State.rastersFollow (s : State) : State :=
  forEach (List.range 8) (fun n s =>
    if s.on F.SLATE_RASTER_STATUS_EVER_LOCKED n then
      s.wr F.SLATE_RASTER_STATUS_LOCKED n (s.rd F.REFSEL_COND_REFGOOD 0) else s) s

/-! ### Holdover (R75-R80) -/

/-- The usable samples of the interval of R77 that ends GUARD seconds before now. -/
def State.histWindow (s : State) : List HistS :=
  let g := s.rd F.REFSEL_HO_CFG_GUARD 0 * sClk
  let w := s.rd F.REFSEL_HO_CFG_WINDOW 0 * sClk
  s.ref.hist.filter fun h => h.ok && decide (h.at' + g ≤ s.clk) && decide (s.clk ≤ h.at' + w + g)

/-- The holdover average as of now (R77); none while it is invalid. The mean is rounded down (log 15). -/
def State.hoAverage (s : State) : Option Nat :=
  let l := s.histWindow
  if l.length < s.rd F.REFSEL_HO_LIM_MIN_HIST 0 ∨ l.length = 0 then none
  else some (wrapInt 48 ((l.foldl (fun a h => a + sx 48 h.val) 0) / (l.length : Int)))

/-- The holdover average freezes when DRIFT_WARN (5) is entered, and is let go when it ends without a loss (R78). -/
def State.freeze (s : State) (new : Nat) : State :=
  if new = 5 then
    if s.on F.REFSEL_COND_FROZEN 0 then s
    else
      let a := s.hoAverage
      (s.wr F.REFSEL_COND_FROZEN 0 1).setRef fun r => { r with frozen := a }
  else if 1 ≤ new ∧ new ≤ 4 then (s.wr F.REFSEL_COND_FROZEN 0 0).setRef fun r => { r with frozen := none }
  else s

/-- Show the condition: COND, REFGOOD, the five-state view; a change is a REF event to every engine (Table 6-5); LOST raises
its event, and outside LOCKED a whole LOCKED second ends (R76). -/
def State.refShow (s : State) : State :=
  let c := s.refCond
  let old := s.rd F.REFSEL_COND_COND 0
  let good := decide (3 ≤ c ∧ c ≤ 5)
  let s1 := (((s.wr F.REFSEL_COND_COND 0 c).wr F.REFSEL_COND_REFGOOD 0 (b2n good)).wr F.REFSEL_COMPAT_STATE 0
    (fiveState c)).rastersFollow
  let s2 := s1.setRef fun r => { r with lockedSince := if c = 3 then (if old = 3 then r.lockedSince else some s.clk) else none }
  if c = old then s2
  else
    let s3 := (s2.freeze c).engMask 31 13
    let s4 := if c = 7 then s3.event F.REFSEL_EVENT_LOST 0 Irq.refsel else s3
    if s.inService && (c = 0 || c = 6 || c = 7) then s4.faultEvent Src.refsel false else s4

/-! ### The control value and slews (R67-R72, R75, R79) -/

/-- Frequencies: a measured 0.001 ppm, and codes of 2^-48, in units of 8e-19; 100 ppm. -/
def ppbUnits (v : Int) : Int := v * 1250000000
def codeOf (v : Int) : Int := v * 2 ^ 51 / 10 ^ 19
def unitsOf (c : Int) : Int := c * 10 ^ 19 / 2 ^ 51
def ppm100 : Int := 125000000000000

/-- The integer square root of a number below 2^128. -/
def isqrt (n : Nat) : Nat :=
  (List.range 64).foldr (fun i r => let c := r + 2 ^ i; if c * c ≤ n then c else r) 0

/-- The minimum-time profile (R70, R72) `t` clocks after its start: the phase still to be removed, the frequency difference, and whether
it has ended. It accelerates at MAXRATE, runs at MAXFREQ at most, and decelerates to rest; from a frequency that carries it too far it
turns first. Square roots round down (log 16). -/
def Slew.now (x : Slew) (t : Nat) : Int × Int × Bool :=
  let m : Int := x.rate
  let far := x.phase * m
  let stop := 2 * x.freq * x.freq.natAbs
  let sg : Int := if stop < far ∨ (stop = far ∧ 0 ≤ x.freq) then 1 else -1
  let p := sg * x.phase
  let v := sg * x.freq
  let top : Int := Nat.max x.max x.freq.natAbs
  let w := m * p + 2 * v * v
  let cap := decide (4 * top * top < w)
  let q : Int := if cap then 2 * top else isqrt w.toNat
  let u := v + m * t
  if 2 * u ≤ q then (sg * (p - 4 * v * t - 2 * m * t * t), sg * u, false)
  else
    let left := m * p - 2 * (top * top - v * v) - 4 * top * (u - top)
    if cap ∧ 2 * top * top ≤ left then (sg * (left / m), sg * top, false)
    else
      let z := if cap then 2 * top - u + (m * p - 4 * top * top + 2 * v * v) / (4 * top) else q - u
      if z ≤ 0 then (0, 0, true) else (sg * (2 * z * z / m), sg * z, false)

/-- The slew in progress now: phase left, frequency difference, ended. -/
def State.slewNow (s : State) : Int × Int × Bool := match s.ref.slew with
  | some x => x.now (s.clk - x.at')
  | none => (0, 0, true)

/-- The control value beside the slew: on its way at its rate from what it left. -/
def State.ctlBase (s : State) : Int :=
  let r := s.ref
  let d := r.ctlTo - r.ctlFrom
  let k : Nat := r.ctlRate * (s.clk - r.ctlAt)
  if r.ctlRate = 0 ∨ d.natAbs ≤ k then r.ctlTo else if 0 ≤ d then r.ctlFrom + k else r.ctlFrom - k

/-- The control value in force, clamped to 100 ppm (R67). -/
def State.ctlNow (s : State) : Int := max (-ppm100) (min ppm100 (s.ctlBase + s.slewNow.2.1))

/-- Twice the sum over clocks of a slew's frequency difference since it began, and of the value beside it. -/
def State.slewSum (s : State) : Int := match s.ref.slew with
  | some x => (x.phase - s.slewNow.1) / 2
  | none => 0
def State.baseSum (s : State) : Int :=
  let r := s.ref
  let t : Int := (s.clk - r.ctlAt : Nat)
  let d := r.ctlTo - r.ctlFrom
  let m : Int := r.ctlRate
  let a : Int := d.natAbs
  let part := if m * t ≤ a then m * t * t else 2 * a * t - a * a / m
  if r.ctlRate = 0 then 2 * r.ctlTo * t else 2 * r.ctlFrom * t + (if 0 ≤ d then part else -part)

/-- BUILDOUT, in units of 2^-16 ns; a slew that removes it leaves the part still to be removed (R71). -/
def State.setBuildout (s : State) (v : Int) : State := s.wr64 F.REFSEL_BUILDOUT_LO F.REFSEL_BUILDOUT_HI 0 (wrapInt 64 v)
def State.buildout (s : State) : Int :=
  match s.ref.slew with
  | some x => if x.build then s.slewNow.1 / 5 ^ 20 else sx 48 (s.rd64 F.REFSEL_BUILDOUT_LO F.REFSEL_BUILDOUT_HI 0)
  | none => sx 48 (s.rd64 F.REFSEL_BUILDOUT_LO F.REFSEL_BUILDOUT_HI 0)

/-- Show CTL_VAL, and what is left of BUILDOUT. -/
def State.ctlShow (s : State) : State :=
  (s.wr64 F.REFSEL_CTL_VAL_LO F.REFSEL_CTL_VAL_HI 0 (wrapInt 64 (codeOf s.ctlNow))).setBuildout s.buildout

/-- From now on the slew is `x`, and the value beside it moves from `v` to `w` at `rate` a clock, 0 for at once. -/
def State.ctlMove (s : State) (x : Option Slew) (v w : Int) (rate : Nat) : State :=
  let sum := s.ref.ctlSum + s.baseSum + s.slewSum
  let s1 := s.setRef fun r => { r with slew := x, ctlFrom := v, ctlTo := w, ctlAt := s.clk, ctlRate := rate }
  let s2 := s1.setRef fun r => { r with ctlSum := sum - s1.slewSum }
  s2.ctlShow

/-- MAXRATE, as a change a clock, and MAXFREQ. -/
def State.maxRate (s : State) : Nat := Nat.max 1 (s.rd F.REFSEL_SLEW_MAXRATE 0)
def State.maxFreq (s : State) : Nat := s.rd F.REFSEL_SLEW_MAXFREQ 0 * 12500000000

/-- The control value moves to `w` with no slew: under MAXRATE once the house is established (R69), before at once. -/
def State.ctlTo (s : State) (w : Int) : State :=
  if s.on F.REFSEL_COND_ESTABLISHED 0 then s.ctlMove none s.ctlNow w s.maxRate else s.ctlMove none w w 0

/-- A slew of `ph` house units begins from the present frequency, beside the value `f` (R70, R72). -/
def State.slewTo (s : State) (ph f : Int) (build : Bool) : State :=
  s.ctlMove (some { at' := s.clk, phase := ph * 5 ^ 19, freq := s.ctlNow - f, rate := s.maxRate, max := s.maxFreq, build := build }) f f 0

/-- Show USABLE, AVG_VALID and HO_AVG; the frozen value stands in HO_AVG while FROZEN is set. -/
def State.histShow (s : State) : State :=
  let a := if s.on F.REFSEL_COND_FROZEN 0 then s.ref.frozen else s.hoAverage
  let v := wrapInt 64 (sx 48 (a.getD 0))
  ((s.wr F.REFSEL_HIST_USABLE 0 s.histWindow.length).wr F.REFSEL_HIST_AVG_VALID 0 (b2n s.hoAverage.isSome)).wr64
    F.REFSEL_HO_AVG_LO F.REFSEL_HO_AVG_HI 0 v

/-- The last usable candidate is lost (R77-R79): HOLDOVER with the frozen value, the average or the seed, else FREE. The
control value moves there under MAXRATE (R69, R75); before the house is established it is 0 (R67). -/
def State.hoEnter (s : State) : State :=
  let frozen := s.on F.REFSEL_COND_FROZEN 0
  let avg := if frozen then s.ref.frozen else s.hoAverage
  let seed := s.rd F.REFSEL_HO_SEED_LO 0 + 2 ^ 32 * s.rd F.REFSEL_HO_SEED_HI 0
  let pick : Nat × Option Nat :=
    match avg with
    | some v => (if frozen then 2 else 1, some v)
    | none => if s.on F.REFSEL_HO_SEED_SEED_VALID 0 then (3, some seed) else (0, none)
  let goal := if s.on F.REFSEL_COND_ESTABLISHED 0 then unitsOf (sx 48 (pick.2.getD 0)) else 0
  let s1 := s.setRef fun r => { r with hoVal := pick.2, hoAt := s.clk }
  ((s1.wr F.REFSEL_COND_HO_SRC 0 pick.1).ctlTo goal).event F.REFSEL_EVENT_HO_ENTER 0 Irq.refsel

/-! ### Phase (R57, R58, R60) -/

/-- Reduce an integer into (-P/2, +P/2] for the period `num/den` (R57): `x` and the result are in units of 1/den. -/
def reduceHalf (x num : Int) : Int :=
  let y := x % num
  if num < 2 * y then y - num else y

/-- The alignment period of a candidate in house units, as a fraction (Table 3-1); zero where there is none. -/
def State.candPeriod (s : State) (c : Nat) : Nat × Nat :=
  let sec := 1000000000 * nsUnits
  let frame := fun rate => (sec * (if fractional rate then 1001 else 1),
    nominalRate rate * (if fractional rate then 1000 else 1))
  if c < 4 then
    match s.rd F.REFSEL_CAND_TYPE c with
    | 0 => frame (s.rd F.REFSEL_CAND_RATE c)
    | 1 => (100 * nsUnits, 1)
    | 2 => (sec, 1)
    | _ => (sec, 48000)
  else if c = 5 ∨ c = 6 then frame (s.rd F.ALIGN_PORT_FMT_RATE (s.slotPort (s.rd F.REFSEL_CAND_SRC c)))
  else (0, 1)

/-- Phase error of a timing point at house time `t` against the nearest multiple of the period, in house units. -/
def State.pointPhase (s : State) (c : Nat) (t : Int) : Int :=
  let p := s.candPeriod c
  if p.1 = 0 then 0 else reduceHalf (-(t * p.2)) p.1 / p.2

/-- PTP time in house units. -/
def State.ptpUnits (s : State) : Nat := (s.ptp.sec * 1000000000 + s.ptp.ns) * nsUnits + s.ptp.frac * 5

/-- The phase error a candidate shows, in house units; PTP's is that of the present instant. -/
def State.phaseOf (s : State) (c : Nat) : Int := if c = 4 then (s.ptpUnits : Int) - s.house else (s.cand c).phase

/-- Show PHASE of candidate `c`, in nanoseconds: its lowest 32 bits. -/
def State.phaseShow (c : Nat) (s : State) : State := s.wr F.REFSEL_CAND_PHASE c (wrapInt 32 (s.phaseOf c / nsUnits))

/-- The magnitude of the selected candidate's phase error, its build-out apart, is below the stage's THRESH, which is in 0.1 ns (R68). -/
def State.withinThresh (s : State) (c : Nat) : Bool :=
  decide ((s.phaseOf c - s.buildout * 5).natAbs * 10 < s.rd F.REFSEL_NARROW_THRESH (s.rd F.REFSEL_COND_STAGE 0) * nsUnits)

/-- Judge the selected candidate's phase error before the final stage: since when it has been below THRESH. -/
def State.judgeStage (s : State) : State :=
  match s.sel with
  | some c => s.setRef fun r => { r with
      below := if s.rd F.REFSEL_COND_STAGE 0 < 3 ∧ s.withinThresh c = true then (if r.below.isSome then r.below else some s.clk) else none }
  | none => s

/-- Record a phase error of candidate `c` (R57). -/
def State.setPhase (s : State) (c : Nat) (p : Int) : State :=
  let s1 := (s.setCand c { s.cand c with phase := p }).phaseShow c
  if s.sel = some c then s1.judgeStage else s1

/-! ### Selection and pulling (R65-R72, R396) -/

/-- Candidate 7 stands aside on an ACTIVE device (R396). -/
def State.eligible (s : State) (c : Nat) : Bool :=
  s.usable c && !(decide (c = 7) && s.mode = Mode.active)

/-- The candidate forced by FORCE_EN, or on a STANDBY device by TWINREF_AUTO (R65, R396). -/
def State.forced (s : State) : Option Nat :=
  if s.mode = Mode.standby ∧ s.on F.COBALT_CTRL_TWINREF_AUTO 0 ∧ s.usable 7 then some 7
  else if s.on F.REFSEL_CTRL_FORCE_EN 0 ∧ s.eligible (s.rd F.REFSEL_CTRL_FORCE_IDX 0) then some (s.rd F.REFSEL_CTRL_FORCE_IDX 0)
  else none

/-- Lowest PRIO first; of equal priority a QUALIFIED candidate before a DRIFTING one, then the lower index (R65, R66). -/
def State.candRank (s : State) (c : Nat) : Nat :=
  s.rd F.REFSEL_CAND_PRIO c * 16 + (if s.cst c = Cs.drifting then 8 else 0) + c

/-- The best eligible candidate. -/
def State.bestCand (s : State) : Option Nat :=
  (List.range 8).foldl (fun b c =>
    if s.eligible c then
      match b with
      | none => some c
      | some x => if s.candRank c < s.candRank x then some c else b
    else b) none

/-- The candidate to be selected (R65, R66). -/
def State.choose (s : State) : Option Nat :=
  match s.forced with
  | some c => some c
  | none =>
    match s.sel with
    | some c => if s.eligible c && !s.on F.REFSEL_CTRL_REVERT 0 then some c else s.bestCand
    | none => s.bestCand

/-- The house timescale steps to candidate `c`'s phase, once (R68). -/
def State.houseStep (s : State) (c : Nat) : State :=
  let ph := s.phaseOf c
  let s1 := { s with house := ((s.house : Int) + ph).toNat }
  (s1.setCand c { s1.cand c with phase := 0 }).phaseShow c

/-- The loop moves onto candidate `c`: acquisition (the first steps the house timescale once, R68), or a pull under
PULL_MODE once the house is established (R58, R70). PTP starts acquisition at the second stage (R59). DESIGN CHOICE (log 15): a BUILDOUT
left from a FREQ candidate stands when acquisition restarts on a PHASE candidate. -/
def State.moveLoop (s : State) (c : Nat) : State :=
  let ph := s.phaseOf c
  let f := ppbUnits (s.cand c).freq
  if s.on F.REFSEL_COND_ESTABLISHED 0 then
    if s.freqClass c || s.on F.REFSEL_CTRL_PULL_MODE 0 then (s.ctlTo f).setBuildout (ph / 5)
    else (s.setBuildout 0).slewTo ph f false
  else
    let s1 := if s.ref.acquired || s.freqClass c then s else s.houseStep c
    let s2 := ((if s.freqClass c then s1.setBuildout (ph / 5) else s1).ctlTo f).wr F.REFSEL_COND_STAGE 0 (if c = 4 then 1 else 0)
    (s2.setRef fun r => { r with acquired := true, below := none }).judgeStage

/-- IS_SEL and SELECTED follow the selection. -/
def State.showSel (s : State) (o : Option Nat) : State :=
  let s1 := forEach (List.range 8) (fun c s => s.wr F.REFSEL_CAND_IS_SEL c (b2n (decide (o = some c)))) s
  (s1.wr F.REFSEL_COND_SEL_VALID 0 (b2n o.isSome)).wr F.REFSEL_COND_SELECTED 0 (o.getD (s.rd F.REFSEL_COND_SELECTED 0))

/-- Select again after any change of a candidate, a register or the mode, and show the condition. -/
def State.reselect (s : State) : State :=
  let o := s.choose
  if o = s.sel then s.refShow
  else
    let s1 := s.showSel o
    match o with
    | none => (s1.hoEnter).refShow
    | some c =>
      let s2 := (s1.setRef fun r => { r with hoVal := none, limitOut := false }).wr F.REFSEL_COND_HO_SRC 0 0
      ((s2.moveLoop c).event F.REFSEL_EVENT_SWITCHED 0 Irq.refsel).refShow

/-! ### Candidates (R59, R61-R64) -/

/-- Candidate `c` begins to qualify: the QUAL time runs from now. -/
def State.qualify (s : State) (c : Nat) : State :=
  ((s.setCand c { (s.cand c) with present := true, since := s.clk, excess := none, under := none }).wr
    F.REFSEL_CAND_STATE c Cs.qualifying).wr F.REFSEL_CAND_QUAL_LEFT c (s.rd F.REFSEL_CAND_QUAL c)

/-- The selector watches its candidates from CALIBRATE's working stage on (R452). -/
def State.refWatches (s : State) : Bool :=
  decide (Mode.calibrate < s.mode) || (decide (s.mode = Mode.calibrate) && s.on F.TOP_DEV_MODE_CAL_STAGE 0)

/-- A source shows timing points: an enabled ABSENT candidate starts to qualify (R61). -/
def State.candPresent (s : State) (c : Nat) : State :=
  if s.on F.REFSEL_CAND_EN c ∧ s.cst c = Cs.absent then s.qualify c
  else s.setCand c { (s.cand c) with present := true }

/-- A candidate goes to ABSENT (R64). -/
def State.candAbsent (s : State) (c : Nat) : State :=
  let s1 := s.setCand c { (s.cand c) with present := false, seen := false, rateRun := 0, excess := none, under := none }
  if s.on F.REFSEL_CAND_EN c then
    ((s1.wr F.REFSEL_CAND_STATE c Cs.absent).wr F.REFSEL_CAND_QUAL_LEFT c 0).reselect
  else s1

/-- A candidate becomes DISQUALIFIED. -/
def State.candDisq (s : State) (c : Nat) : State :=
  ((s.wr F.REFSEL_CAND_STATE c Cs.disqualified).event F.REFSEL_EVENT_DISQUAL 0 Irq.refsel).reselect

/-- Nominal check interval of a REFIN candidate in house units, as a fraction (R64). -/
def State.checkInterval (s : State) (c : Nat) : Nat × Nat :=
  let p := s.candPeriod c
  match s.rd F.REFSEL_CAND_TYPE c with
  | 1 => (p.1 * 1000, p.2)
  | 3 => (p.1 * 48, p.2)
  | _ => p

/-- The interval is off nominal by more than `k` thousandths halved: 2 for 0.1 %, 10 for 0.5 %. -/
def offBy (len : Nat) (p : Nat × Nat) (k : Nat) : Bool :=
  let d := if p.1 ≤ len * p.2 then len * p.2 - p.1 else p.1 - len * p.2
  decide (p.1 * k < d * 2000)

/-- A REFIN rate change (R64): resynchronise. -/
def State.refinResync (s : State) (c : Nat) : State :=
  let s1 := (s.setCand c { (s.cand c) with rateRun := 0, since := s.clk }).addSat F.REFSEL_CAND_RESYNC_CNT c 1
  let s2 := (s1.event F.REFSEL_EVENT_RESYNC 0 Irq.refsel).faultEvent Src.refsel true
  if s.on F.REFSEL_CAND_EN c then s2.candDisq c else s2

/-- A REFIN glitch (R64): counted, and a fault event. -/
def State.refinGlitch (s : State) (c : Nat) : State :=
  ((s.addSat F.REFSEL_CAND_GLITCH_CNT c 1).event F.REFSEL_EVENT_GLITCH 0 Irq.refsel).faultEvent Src.refsel true

/-- An active edge ends a check interval of REFIN candidate `c` (R64). DESIGN CHOICE (log 15): a glitch does not break the QUAL time. -/
def State.refinPoint (s : State) (c : Nat) : State :=
  let x := s.cand c
  let len := (s.clk - x.lastEdge) * 262144
  let p := s.checkInterval c
  let s1 := s.setCand c { x with lastEdge := s.clk, seen := true, present := true }
  if !x.seen then s1.candPresent c
  else if offBy len p 10 ∧ 15 ≤ x.rateRun then (s1.refinGlitch c).refinResync c
  else if offBy len p 2 then
    (s1.setCand c { (s1.cand c) with rateRun := if offBy len p 10 then x.rateRun + 1 else 0 }).refinGlitch c
  else
    let s2 := s1.setCand c { (s1.cand c) with rateRun := 0 }
    let delay := if s.rd F.REFSEL_CAND_TYPE c = 0 ∨ s.rd F.REFSEL_CAND_TYPE c = 2
      then sx 32 (s.rd F.REFSEL_CAND_DELAY c) * nsUnits else 0
    (s2.setPhase c (s.pointPhase c ((s.house : Int) - delay))).candPresent c

/-- REFIN_TIMING_POINT: an edge that ends a check interval. -/
def execRefinTimingPoint (c : Fin 4) (s : State) : Host.Outcome State Fault Refusal :=
  ok (if s.refWatches then s.refinPoint c.val else s)

/-- Line 1, sample 0 of fabric strand `d` passes: a timing point of the candidates whose SRC it is, once its port's frame rate is known
(R56, R57; log 15). -/
def State.fabricPoint (d : Nat) (s : State) : State :=
  forEach [5, 6] (fun c s =>
    if s.rd F.REFSEL_CAND_SRC c = d && s.on F.ALIGN_PORT_STATUS_FMT_VALID (s.slotPort d) && s.refWatches then
      (s.setPhase c (s.pointPhase c s.house)).candPresent c
    else s) s

/-- REFIN_STOP: no edge for two check intervals of a candidate that showed them (R64). DESIGN CHOICE (log 15): also one with EN 0 is
counted, as glitches and rate changes are. -/
def execRefinStop (c : Fin 4) (s : State) : Host.Outcome State Fault Refusal :=
  let x := s.cand c.val
  let p := s.checkInterval c.val
  ok (if x.seen && decide (2 * p.1 ≤ (s.clk - x.lastEdge) * 262144 * p.2) then
        let s1 := ((s.addSat F.REFSEL_CAND_STOP_CNT c.val 1).event F.REFSEL_EVENT_STOPPED 0 Irq.refsel).faultEvent
          Src.refsel true
        s1.candAbsent c.val
      else s)

/-- A source of a candidate other than REFIN stands: PTP_VALID, a locked strand, the twin link with an ACTIVE peer. -/
def State.srcStands (s : State) (c : Nat) : Bool :=
  if c < 4 then true
  else if c = 4 then s.on F.REFSEL_PTP_VALID_PTP_VALID 0
  else if c = 7 then s.on F.COBALT_STATUS_LINK_UP 0 && decide (s.twin.peerMode = Mode.active)
  else (s.strand (s.rd F.REFSEL_CAND_SRC c)).locked

/-- CAND_SOURCE_LOST: the source of candidate 4-7 no longer stands. -/
def execCandSourceLost (c : Fin 8) (s : State) : Host.Outcome State Fault Refusal :=
  ok (if (s.cand c.val).present && !s.srcStands c.val then s.candAbsent c.val else s)

/-- CAND_QUALIFIED: QUALIFYING without a break for QUAL seconds (R61). -/
def execCandQualified (c : Fin 8) (s : State) : Host.Outcome State Fault Refusal :=
  ok (if s.cst c.val = Cs.qualifying ∧ (s.cand c.val).since + s.rd F.REFSEL_CAND_QUAL c.val * sClk ≤ s.clk then
        ((s.wr F.REFSEL_CAND_STATE c.val Cs.qualified).wr F.REFSEL_CAND_QUAL_LEFT c.val 0).reselect
      else s)

/-- Insert into an ascending list. -/
def insertInt (x : Int) (l : List Int) : List Int :=
  match l with
  | [] => [x]
  | y :: r => if x ≤ y then x :: y :: r else y :: insertInt x r

/-- The median of a list of integers; of an even number, the mean of the middle two rounded down (log 15). -/
def median (l : List Int) : Int :=
  let m := l.foldr insertInt []
  let n := m.length
  if n % 2 = 1 then m.getD (n / 2) 0 else (m.getD (n / 2 - 1) 0 + m.getD (n / 2) 0) / 2

/-- The drift of candidate `c` in units of 0.001 ppm (R62), from the frequencies measured over 10 s against LOCOSC: against
the median of at least two other QUALIFIED candidates, else LOCOSC corrected by the holdover average, else LOCOSC with its
declared accuracy subtracted from the magnitude. The second part is the magnitude judged against TOL. -/
def State.drift (s : State) (offs : List Nat) (c : Nat) : Int × Nat :=
  let f := fun i => sx 32 (offs.getD i 0)
  let others := (List.range 8).filter fun i => decide (i ≠ c) && s.cst i = Cs.qualified
  if 2 ≤ others.length then
    let d := f c - median (others.map f)
    (d, d.natAbs)
  else
    match s.hoAverage with
    | some a =>
      let d := f c - sx 48 a * 1000000000 / 2 ^ 48
      (d, d.natAbs)
    | none => (f c, (f c).natAbs - s.rd F.REFSEL_LOCOSC_LOCOSC_ACC 0 * 1000)

/-- The loop follows the selected candidate's frequency `f`, in 0.001 ppm (R67, R69). -/
def State.follow (s : State) (c : Nat) (f : Int) : State :=
  if s.sel = some c then
    if s.on F.REFSEL_COND_ESTABLISHED 0 then s.ctlMove s.ref.slew s.ctlBase (ppbUnits f) s.maxRate
    else s.ctlTo (ppbUnits f)
  else s

/-- Update the drift of candidate `c` (R62, R63). -/
def State.driftOne (offs : List Nat) (c : Nat) (s : State) : State :=
  if s.cst c < Cs.qualifying then s
  else
    let d := s.drift offs c
    let pct := Nat.min 255 (d.2 * 100 / (s.rd F.REFSEL_CAND_TOL c * 10))
    let x := s.cand c
    let excess := if 100 ≤ pct then (if x.excess.isSome then x.excess else some s.clk) else none
    let under := if pct < 40 then (if x.under.isSome then x.under else some s.clk) else none
    let f := sx 32 (offs.getD c 0)
    let s0 := (s.setCand c { x with excess := excess, under := under, freq := f }).follow c f
    let s1 := (s0.wr F.REFSEL_CAND_DRIFT_PCT c pct).wr F.REFSEL_CAND_OFFSET c (wrapInt 32 d.1)
    if s.cst c = Cs.qualifying ∧ 100 ≤ pct then
      (s1.setCand c { (s1.cand c) with since := s.clk }).wr F.REFSEL_CAND_QUAL_LEFT c (s.rd F.REFSEL_CAND_QUAL c)
    else if s.cst c = Cs.qualified ∧ 50 ≤ pct then
      (s1.wr F.REFSEL_CAND_STATE c Cs.drifting).event F.REFSEL_EVENT_DRIFT 0 Irq.refsel
    else if s.cst c = Cs.disqualified ∧ pct < 100 then s1.qualify c
    else s1

/-- DRIFT_UPDATE: each candidate's frequency over the last 10 s against LOCOSC, in units of 0.001 ppm, signed 32-bit. -/
def execDriftUpdate (offs : List Nat) (s : State) : Host.Outcome State Fault Refusal :=
  ok (forEach (List.range 8) (fun c s => s.driftOne offs c) s).reselect

/-- CAND_DRIFT_CLEARED: DRIFTING with DRIFT_PCT below 40 for QUAL seconds (R63). -/
def execCandDriftCleared (c : Fin 8) (s : State) : Host.Outcome State Fault Refusal :=
  ok (match (s.cand c.val).under with
      | some t =>
        if s.cst c.val = Cs.drifting ∧ t + s.rd F.REFSEL_CAND_QUAL c.val * sClk ≤ s.clk then
          (s.wr F.REFSEL_CAND_STATE c.val Cs.qualified).reselect
        else s
      | none => s)

/-- CAND_DISQUALIFIED: DRIFT_PCT at or above 100 for QUAL seconds (R63). -/
def execCandDisqualified (c : Fin 8) (s : State) : Host.Outcome State Fault Refusal :=
  ok (match (s.cand c.val).excess with
      | some t =>
        if decide (Cs.qualifying ≤ s.cst c.val ∧ s.cst c.val ≤ Cs.drifting) && decide (t + s.rd F.REFSEL_CAND_QUAL c.val * sClk ≤ s.clk) then s.candDisq c.val else s
      | none => s)

/-- A write of REFSEL_PTP_VALID: candidate 4 becomes present with a write of 1, absent with a write of 0 (R59). -/
def State.ptpValid (w : Nat) (s : State) : State :=
  if bit w 0 then ((s.wr F.REFSEL_PTP_VALID_PTP_VALID 0 1).setRef fun r => { r with ptpWrite := s.clk }).candPresent 4
  else (s.wr F.REFSEL_PTP_VALID_PTP_VALID 0 0).candAbsent 4

/-- PTP_VALID_WRITE. -/
def execPtpValidWrite (w : Word) (s : State) : Host.Outcome State Fault Refusal :=
  ok (s.hostWrite 0x20064 w.toNat (State.ptpValid w.toNat))

/-- PTP_VALID_EXPIRE: 2 s without a write of 1. -/
def execPtpValidExpire (s : State) : Host.Outcome State Fault Refusal :=
  ok (if s.on F.REFSEL_PTP_VALID_PTP_VALID 0 && decide (s.ref.ptpWrite + 2 * sClk ≤ s.clk) then
        (s.wr F.REFSEL_PTP_VALID_PTP_VALID 0 0).candAbsent 4 else s)

/-! ### The loop (R68-R72) -/

/-- The stage after `st` (R68): the 0.1 Hz stage is the final one when FINAL_BW is 0. -/
def State.nextStage (s : State) (st : Nat) : Nat :=
  if st = 0 then 1 else if st = 1 ∧ s.on F.REFSEL_CTRL_FINAL_BW 0 then 2 else 3

/-- LOOP_STAGE_ADVANCE: with a candidate selected, the phase error has stayed below the stage's THRESH for its DWELL (R68).
The first arrival at the final stage establishes the house and locks the enabled rasters (R33, R69). -/
def execLoopStageAdvance (s' : State) : Host.Outcome State Fault Refusal :=
  let s := s'.judgeStage
  let st := s.rd F.REFSEL_COND_STAGE 0
  ok (match s.sel, s.ref.below with
      | some _, some t =>
        if st < 3 ∧ t + s.rd F.REFSEL_NARROW_DWELL st * sClk ≤ s.clk then
          let nx := s.nextStage st
          let s1 := ((s.wr F.REFSEL_COND_STAGE 0 nx).setRef fun r => { r with below := none }).judgeStage
          if nx = 3 ∧ ¬ s.on F.REFSEL_COND_ESTABLISHED 0 then
            let s2 := (s1.wr F.REFSEL_COND_ESTABLISHED 0 1).refShow
            forEach (List.range 8) (fun n s => s.lockRaster n) s2
          else s1.refShow
        else s
      | _, _ => s)

/-- A write of REFSEL_CTRL: PULL_NOW while BUILDOUT is not zero starts a slew that removes it (R71). -/
def State.refCtrl (w : Nat) (s : State) : State :=
  let s1 := s.writeWord 0x20000 w
  (if bit w 16 && decide (s.buildout ≠ 0) then s1.slewTo (s.buildout * 5) s1.ctlBase true else s1).reselect

/-- PULL_NOW: a write of REFSEL_CTRL with PULL_NOW set. -/
def execPullNow (w : Word) (s : State) : Host.Outcome State Fault Refusal :=
  ok (s.hostWriteSet 0x20000 w.toNat 65536 State.refCtrl)

/-- The slew in progress has ended. -/
def State.slewOver (s : State) : Bool := s.slewNow.2.2

/-- SLEW_COMPLETE: the profile has ended with phase error and frequency difference at zero. -/
def execSlewComplete (s : State) : Host.Outcome State Fault Refusal :=
  ok (if s.ref.slew.isSome && s.slewOver then ((s.setBuildout 0).ctlMove none s.ctlBase s.ref.ctlTo s.ref.ctlRate).refShow else s)

/-- The mean control value since the last history sample (R76), as a code. -/
def State.ctlMean (s : State) : Nat :=
  wrapInt 48 (codeOf ((s.ref.ctlSum + s.baseSum + s.slewSum) / (2 * (s.clk - s.ref.sumAt) : Nat)))

/-- HISTORY_SAMPLE: a second after the last, the mean control value since is recorded, usable if the condition was LOCKED for the whole
of it (R76). -/
def execHistorySample (_ : Unit) (s : State) : Host.Outcome State Fault Refusal :=
  let whole := match s.ref.lockedSince with
    | some t => decide (t ≤ s.ref.sumAt)
    | none => false
  ok (if s.ref.sumAt + sClk ≤ s.clk then
    let s1 := s.setRef fun r => { r with hist := (⟨s.clk, whole, s.ctlMean⟩ :: r.hist).take 4096 }
    let s2 := s1.ctlMove s.ref.slew s.ctlBase s.ref.ctlTo s.ref.ctlRate
    (s2.setRef fun r => { r with ctlSum := -s2.slewSum, sumAt := s.clk }).histShow
  else s)

/-- HOLDOVER_LIMIT_EXPIRE: holdover has lasted longer than LIMIT hours (R73, R80). -/
def execHoldoverLimitExpire (s : State) : Host.Outcome State Fault Refusal :=
  let lim := s.rd F.REFSEL_HO_LIM_LIMIT 0
  ok (if s.refCond = 6 ∧ lim ≠ 0 ∧ s.ref.hoAt + lim * 3600 * sClk < s.clk then
        (s.setRef fun r => { r with limitOut := true }).refShow
      else s)

/-- LOCOSC_FAIL: a SYNTH fault; the condition is LOST; an ACTIVE device gives up (R74, R409). -/
def execLocoscFail (s : State) : Host.Outcome State Fault Refusal :=
  let s1 := (s.setRef fun r => { r with locoscFailed := true }).refShow
  ok ((s1.faultEvent Src.synth false).giveUp 0xFE)

/-- What REFSEL_CAND shows now: PHASE, and the seconds of qualification that remain. -/
def State.refselShow (c : Nat) (s : State) : State :=
  let left := ((s.cand c).since + s.rd F.REFSEL_CAND_QUAL c * sClk) - s.clk
  let s1 := if c = 4 then s.phaseShow c else s
  if s.cst c = Cs.qualifying then s1.wr F.REFSEL_CAND_QUAL_LEFT c ((left + sClk - 1) / sClk) else s1

/-! ### Register writes (R81) -/

/-- The first configuration word of a candidate: EN, PRIO, TYPE, RATE, POL, QUAL. DESIGN CHOICE (log 15): a change of TYPE, RATE or SRC of
a candidate not selected does not restart its qualification. -/
def State.candWord0 (s : State) (c w : Nat) : State :=
  let basis := (s.rd F.REFSEL_CAND_TYPE c ≠ bits w 5 3 ∧ F.REFSEL_CAND_TYPE.legal (bits w 5 3)) ∨
    (s.rd F.REFSEL_CAND_RATE c ≠ bits w 8 4 ∧ F.REFSEL_CAND_RATE.legal (bits w 8 4))
  if s.sel = some c ∧ basis then s.event F.REFSEL_EVENT_CFG_REFUSED 0 Irq.refsel
  else
    let was := s.on F.REFSEL_CAND_EN c
    let s1 := s.writeWord (0x20100 + 0x20 * c) w
    if bit w 0 && !was then
      let s2 := s1.wr F.REFSEL_CAND_STATE c Cs.absent
      if (s.cand c).present && s2.srcStands c then s2.qualify c else s2
    else if !bit w 0 && was then
      (s1.wr F.REFSEL_CAND_STATE c Cs.off).wr F.REFSEL_CAND_QUAL_LEFT c 0
    else s1

/-- A write to a candidate's configuration (R81). -/
def State.candWrite (c i w : Nat) (s : State) : State :=
  let s1 :=
    if i = 0 then s.candWord0 c w
    else if i = 3 ∧ s.sel = some c ∧ s.rd F.REFSEL_CAND_SRC c ≠ bits w 0 13 then
      s.event F.REFSEL_EVENT_CFG_REFUSED 0 Irq.refsel
    else s.writeWord (0x20100 + 0x20 * c + 4 * i) w
  s1.reselect

/-- REFSEL_CAND_WRITE. -/
def execRefselCandWrite (c : Fin 8) (word : Fin 4) (w : Word) (s : State) : Host.Outcome State Fault Refusal :=
  ok (s.hostWrite (0x20100 + 0x20 * c.val + 4 * word.val) w.toNat (State.candWrite c.val word.val w.toNat))

/-- A write of REFSEL_LOCOSC: accepted in CALIBRATE alone. -/
def State.locoscWrite (w : Nat) (s : State) : State :=
  if s.mode = Mode.calibrate then s.writeWord 0x20060 w else s.event F.REFSEL_EVENT_CFG_REFUSED 0 Irq.refsel

/-- REFSEL_LOCOSC_WRITE. -/
def execRefselLocoscWrite (w : Word) (s : State) : Host.Outcome State Fault Refusal :=
  ok (s.hostWrite 0x20060 w.toNat (State.locoscWrite w.toNat))

/-! ### Synthesisers and REFOUT (R82-R89) -/

def State.syn (s : State) (y : Nat) : Synth := tget s.synths y {}
def State.setSyn (s : State) (y : Nat) (x : Synth) : State := { s with synths := tput s.synths y x {} }

/-- The primary synthesiser of a domain and the domains a spare covers (Table 3-5). -/
def critical (d : Nat) : Bool := decide (d ≤ 4) || decide (11 ≤ d)

/-- Frequencies of a domain in Hz times 1,001, its REFOUTs' aside (Table 3-5). -/
def domainHz (d : Nat) : List Nat :=
  match d with
  | 0 => [1250000000 * 1001] | 1 => [800000000 * 1001] | 2 => [1000000000 * 1001]
  | 3 => [148500000 * 1001, 594000000 * 1001, 74250000 * 1001, 27000000 * 1001]
  | 4 => [148500000 * 1000, 594000000 * 1000, 74250000 * 1000, 27000000 * 1000]
  | 5 => [49152000 * 1001] | 6 => [45158400 * 1001] | 11 => [156250000 * 1001] | 12 => [156250000 * 1001] | _ => []

/-- VCO of a domain's synthesiser in Hz times 1,001, and its output dividers, where the table gives the VCO. -/
def domainVco (d : Nat) : Option Nat :=
  match d with
  | 0 => some (20000000000 * 1001) | 1 => some (20000000000 * 1001) | 2 => some (20000000000 * 1001)
  | 3 => some (11880000000 * 1001) | 4 => some (11880000000 * 1000) | _ => none
def domainDivs (d : Nat) : List Nat := match domainVco d with
  | some v => (domainHz d).map (v / ·)
  | none => []

/-- The synthesiser that drives domain `d`: none for an audio domain on its CTRL fallback (R87). 15 names SYN[15] elsewhere. -/
def State.sourceOf (s : State) (d : Nat) : Option Nat :=
  let y := s.rd F.SYNTH_DOMAIN_SOURCE d
  if (d = 5 ∨ d = 6) ∧ y = 15 then none else some y

/-- The warm spare of critical domain `d`: while it is not UNPROTECTED, so that 15, which is also the code for none, names VIDB's SYN[15]
(Table 3-5; log 17). -/
def State.spareOf (s : State) (d : Nat) : Option Nat :=
  if critical d && !s.on F.SYNTH_DOMAIN_UNPROTECTED d then some (s.rd F.SYNTH_DOMAIN_SPARE d) else none

/-- The domains that synthesiser `y` drives, and those it stands as spare for: it holds an output of each ready, gated off (R84). -/
def State.drives (s : State) (y : Nat) : List Nat := (List.range 13).filter fun d => s.sourceOf d = some y
def State.standsFor (s : State) (y : Nat) : List Nat := (List.range 13).filter fun d => s.spareOf d = some y
def State.gatedDivs (s : State) (y : Nat) : List Nat := if s.on F.SYNTH_STATUS_LOCKED y then (s.standsFor y).flatMap domainDivs else []

/-- SERVING and WARM of every synthesiser follow the domains, and WEAR_SPARES counts those that stand as spares, the serdes ones aside. -/
def State.synShow (s : State) : State :=
  (forEach (List.range 16) (fun y s =>
    (s.wr F.SYNTH_STATUS_SERVING y (b2n (s.drives y ≠ []))).wr F.SYNTH_STATUS_WARM y
      (b2n (s.on F.SYNTH_STATUS_LOCKED y && decide (s.standsFor y ≠ [])))) s).wr F.WEAR_SPARES_SYNTHS 0
    (countIf (List.range 16) fun y => decide (y ≠ 11 ∧ y ≠ 12 ∧ s.standsFor y ≠ []) && !s.on F.SYNTH_STATUS_RETIRED y)

/-- UNPROTECTED is set for a domain and its spare removed. -/
def State.unprotect (d : Nat) (s : State) : State :=
  (s.wr F.SYNTH_DOMAIN_SPARE d 15).wr F.SYNTH_DOMAIN_UNPROTECTED d 1

/-- Domain `d` moves to source `src`; the sources of an audio timeline may slip then (R87, R309). -/
def State.moveDomain (d src : Nat) (s : State) : State :=
  let s1 := (s.wr F.SYNTH_DOMAIN_SOURCE d src).addWrap F.SYNTH_DOMAIN_MOVES d 1
  if d = 5 ∨ d = 6 then { s1 with aud := { s1.aud with moved := tput s1.aud.moved d true false } } else s1

def State.refout (s : State) (i : Nat) : Refout := tget s.refouts i {}
def State.setRefout (s : State) (i : Nat) (x : Refout) : State := { s with refouts := tput s.refouts i x {} }

/-- The period of a REFOUT in house units, as a fraction; none for a FRAME_PULSE, whose frames are its raster's, and for CLOCK at 0 Hz. -/
def outPeriod (typ freq : Nat) : Option (Nat × Nat) :=
  let sec := 1000000000 * nsUnits
  match typ with
  | 1 => some (100 * nsUnits, 1) | 2 => some (sec, 1) | 3 => some (sec, 48000)
  | _ => if typ = 4 ∧ freq ≠ 0 then some (sec, freq) else none

/-- Whole periods from the epoch to house time `t`, shifted by a signed PHASE in ps; and how far into its period it is. Units of 1/25. -/
def outCount (p : Nat × Nat) (phase t : Nat) : Int := ((t : Int) * 25 - sx 32 phase * 8192) * p.2 / (p.1 * 25 : Nat)
def outInto (p : Nat × Nat) (phase t : Nat) : Int := ((t : Int) * 25 - sx 32 phase * 8192) * p.2 % (p.1 * 25 : Nat)

/-- TYPE, RASTER, FREQ and PHASE of the signal REFOUT `i` makes, or, when it makes none, of the one asked for. -/
def State.outNow (s : State) (i : Nat) : Nat × Nat × Nat × Nat :=
  let x := s.refout i
  if s.on F.REFOUT_CFG_RUNNING i then (bits x.cfg 1 3, bits x.cfg 4 3, x.freq, x.phase)
  else (s.rd F.REFOUT_CFG_TYPE i, s.rd F.REFOUT_CFG_RASTER i, s.rd F.REFOUT_CFG_FREQ i, s.rd F.REFOUT_CFG_PHASE i)

/-- REFOUT `i` waits from now on for the end of a whole period (R87, R89). -/
def State.refoutWait (i : Nat) (s : State) : State :=
  s.setRefout i { s.refout i with waiting := true, since := s.house, frame := (s.pos (s.outNow i).2.1).frame }

/-- A whole period of REFOUT `i` has ended, or begun, since it waits. DESIGN CHOICE (log 18): a FRAME_PULSE's periods are taken at its
raster's frame starts whatever its PHASE; those of a disabled raster have no end to wait for. -/
def State.refoutDue (s : State) (i : Nat) : Bool :=
  let x := s.refout i
  let o := s.outNow i
  if o.1 = 0 then !s.enabled o.2.1 || decide (x.frame < (s.pos o.2.1).frame)
  else
    match outPeriod o.1 o.2.2.1 with
    | some p => decide (outCount p o.2.2.2 x.since < outCount p o.2.2.2 s.house)
    | none => true

/-- REFOUT `i` is to run: its EN, its synthesiser, and for a FRAME_PULSE its raster (R87, R89). -/
def State.refoutRuns (s : State) (i : Nat) : Bool :=
  let t := s.rd F.REFOUT_CFG_TYPE i
  s.on F.REFOUT_CFG_EN i && s.on F.SYNTH_STATUS_LOCKED (7 + i) && !s.on F.SYNTH_STATUS_RETIRED (7 + i) &&
    (if t = 0 then s.enabled (s.rd F.REFOUT_CFG_RASTER i) else (outPeriod t (s.rd F.REFOUT_CFG_FREQ i)).isSome)

/-- The level of REFOUT `i` (R89): WIDTH us from line 1, sample 0 of its raster or from a whole second, or the first half of each
period of a square wave, all shifted by PHASE; low while it does not run. -/
def State.refoutLevel (s : State) (i : Nat) : Bool :=
  let x := s.refout i
  let o := s.outNow i
  let width : Nat := bits x.cfg 8 8 * 1000 * nsUnits * 25
  let pol := bit x.cfg 7
  if !s.on F.REFOUT_CFG_RUNNING i then false
  else if o.1 = 0 then
    let p := s.pos o.2.1
    let per := s.rSamples o.2.1 * s.rLines o.2.1 * s.phaseFull o.2.1 * 262144 * 25
    let into := (((((p.line - 1) * s.rSamples o.2.1 + p.sample) * s.phaseFull o.2.1 + (s.raster o.2.1).phase) * 262144 * 25 : Nat) -
      sx 32 o.2.2.2 * 8192 * s.phaseStep o.2.1 : Int) % (Nat.max 1 per : Nat)
    xor (decide (into < (width * s.phaseStep o.2.1 : Nat))) pol
  else
    match outPeriod o.1 o.2.2.1 with
    | some p =>
      let into := outInto p o.2.2.2 s.house
      xor (decide (if o.1 = 2 then into < (width * p.2 : Nat) else 2 * into < (p.1 * 25 : Nat))) pol
    | none => false

/-- Synthesiser `y` is declared locked (R85-R87). -/
def State.synLock (y : Nat) (s : State) : State :=
  let x := s.syn y
  let s1 := (s.wr F.SYNTH_STATUS_LOCKED y 1).setSyn y { x with failedAt := none, covers := [] }
  let s2 := forEach x.covers (fun d s =>
    if critical d then (s.wr F.SYNTH_DOMAIN_SPARE d y).wr F.SYNTH_DOMAIN_UNPROTECTED d 0 else s) s1
  let s3 := if y = 5 ∨ y = 6 then (if s.rd F.SYNTH_DOMAIN_SOURCE y = 15 then s2.moveDomain y y else s2) else s2
  let s4 := if 7 ≤ y ∧ y ≤ 10 then s3.refoutWait (y - 7) else s3
  let s5 := if y = 0 then { s4 with ptpRun := true } else s4
  s5.synShow

/-- A 1 ms gate of synthesiser `y` shows a frequency error of `e`, in 0.01 ppm (R85): FREQ_ERR, and the gates in a row within 2 ppm and
off by more than 20 ppm. FREQ_ERR saturates (DESIGN CHOICE, log 17). -/
def State.synGate (y : Nat) (e : Int) (s : State) : State :=
  let x := s.syn y
  (s.setSyn y { x with near := if e.natAbs ≤ 200 then x.near + 1 else 0, far := if 2000 < e.natAbs then x.far + 1 else 0 }).wr
    F.SYNTH_STATUS_FREQ_ERR y (wrapInt 16 (max (-32768) (min 32767 e)))

/-- The domains move off a failed synthesiser (R86, R87): a critical domain to its warm spare, which then leaves every domain
it covered unprotected; an audio domain to the CTRL-derived clock; a REFOUT stops at the end of a whole period. DESIGN CHOICE (log 17):
STOPPED_FAULT is set also where EN is 0, and a domain whose spare is not locked stays. -/
def State.synMove (y : Nat) (s : State) : State :=
  let covered := s.standsFor y
  let s1 := forEach (s.drives y) (fun d s =>
    match s.spareOf d with
    | some sp =>
      if s.on F.SYNTH_STATUS_LOCKED sp then
        let all := s.standsFor sp
        let s2 := (s.moveDomain d sp).setSyn y { (s.syn y) with covers := (s.syn y).covers ++ all }
        forEach all State.unprotect s2
      else s
    | none =>
      if d = 5 ∨ d = 6 then s.moveDomain d 15
      else if 7 ≤ d ∧ d ≤ 10 then (s.refoutWait (d - 7)).wr F.REFOUT_CFG_STOPPED_FAULT (d - 7) 1
      else s) s
  let s3 := s1.setSyn y { (s1.syn y) with covers := (s1.syn y).covers ++ covered, failedAt := some s.clk }
  forEach covered State.unprotect s3

/-- Synthesiser `y` loses lock (R85-R88): FAIL_CNT counts; the second failure retires it. -/
def State.synLoss (y : Nat) (s : State) : State :=
  let s1 := (s.wr F.SYNTH_STATUS_LOCKED y 0).synMove y
  let n := Nat.min 2 (s.rd F.SYNTH_STATUS_FAIL_CNT y + 1)
  let s2 := s1.wr F.SYNTH_STATUS_FAIL_CNT y n
  let s3 := if n = 2 then s2.wr F.SYNTH_STATUS_RETIRED y 1 else s2
  s3.synShow.faultEvent Src.synth false

/-- SYNTH_LOCK_LOSS: the gates of a locked synthesiser, signed errors in 0.01 ppm: 1 ms ones, two of which in a row more than 20 ppm off
are a loss of lock, and a 2 us one, which is where it is more than 0.2 % off (R85). -/
def execSynthLockLoss (g : Fin 16 × List Nat × Word) (s : State) : Host.Outcome State Fault Refusal :=
  let y := g.1
  let s1 := forEach g.2.1 (fun e s => s.synGate y.val (sx 32 e)) s
  ok (if !s.on F.SYNTH_STATUS_LOCKED y.val then s
  else if 2 ≤ (s1.syn y.val).far ∨ 200000 < (sx 32 g.2.2.toNat).natAbs then
    (s1.setSyn y.val { s1.syn y.val with near := 0, far := 0 }).synLoss y.val
  else s1)

/-- CALIBRATE's test (R88): a synthesiser that has not locked by its end is excluded as a retired one is. PRESUMED (log 17). -/
def State.synExclude (s : State) : State :=
  (forEach (List.range 16) (fun y s =>
    if s.on F.SYNTH_STATUS_LOCKED y || s.on F.SYNTH_STATUS_RETIRED y then s
    else (s.synMove y).wr F.SYNTH_STATUS_RETIRED y 1) s).synShow

/-- A write to SYNTH_CTRL: SEED_LOAD restarts the dither sequence from the seed in force after the write (R82). -/
def State.synCtrl (y w : Nat) (s : State) : State :=
  let s1 := s.writeWord (0x30000 + 0x20 * y) w
  if bit w (F.SYNTH_CTRL_SEED_LOAD.base % 32) then s1.setSyn y { (s1.syn y) with dither := s1.rd F.SYNTH_CTRL_DITHER_SEED y } else s1

/-- DITHER_SEED_LOAD: a write with SEED_LOAD set. -/
def execDitherSeedLoad (y : Fin 16) (w : Word) (s : State) : Host.Outcome State Fault Refusal :=
  ok (s.hostWriteSet (0x30000 + 0x20 * y.val) w.toNat 2 (State.synCtrl y.val))

/-- A write of REFOUT_CFG: the register takes the words; the output changes at the end of a whole period (R89). -/
def State.refoutWrite (i off w : Nat) (s : State) : State := (s.writeWord off w).refoutWait i

/-- REFOUT_CFG_WRITE. -/
def execRefoutCfgWrite (i : Fin 4) (word : Fin 3) (w : Word) (s : State) : Host.Outcome State Fault Refusal :=
  let off := 0x30800 + 0x10 * i.val + 4 * word.val
  ok (s.hostWrite off w.toNat (State.refoutWrite i.val off w.toNat))

/-- REFOUT_CHANGE_APPLY: at the end of a whole period a change asked for, a stop or a restart takes effect (R87, R89), in every mode from
CALIBRATE onwards. -/
def execRefoutChangeApply (i : Fin 4) (s : State) : Host.Outcome State Fault Refusal :=
  ok (if (s.refout i.val).waiting && decide (Mode.calibrate ≤ s.mode) && s.refoutDue i.val then
        let s1 := s.setRefout i.val
          { cfg := s.readWord (0x30800 + 0x10 * i.val)
            freq := s.rd F.REFOUT_CFG_FREQ i.val
            phase := s.rd F.REFOUT_CFG_PHASE i.val }
        s1.wr F.REFOUT_CFG_RUNNING i.val (b2n (s.refoutRuns i.val))
      else s)

end Sys2Proof.Machine
end

