-- ==== Sys2Proof/Machine/Ptp.lean ====
section
/-! DEFINITION. PTP time-stamping and clock correction (chapter 13). -/
namespace Sys2Proof.Machine

/-- Put transmit timestamp queue `q` in place: COUNT and the head entry follow it (R387). -/
def State.setTxq (s : State) (q : Nat) (l : List (List Nat)) : State :=
  let h := l.headD []
  (((({ s with txq := tput s.txq q l [] }.wr F.PTP_TXQ_COUNT q l.length).wr F.PTP_TXQ_ENTRY0 q (h.getD 0 0)).wr
    F.PTP_TXQ_ENTRY1 q (h.getD 1 0)).wr F.PTP_TXQ_ENTRY2 q (h.getD 2 0)).wr F.PTP_TXQ_ENTRY3 q (h.getD 3 0)

/-- A transmit timestamp joins its queue, or is discarded into LOST with OVF when 64 wait (R385, R386). -/
def State.txqPush (s : State) (q : Nat) (e : List Nat) : State :=
  let l := tget s.txq q []
  if l.length < 64 then
    let s1 := s.setTxq q (l ++ [e])
    if s.on F.PTP_TXQ_IRQ q then s1.raise Irq.ptp else s1
  else (s.addSat F.PTP_TXQ_LOST q 1).wr F.PTP_TXQ_OVF q 1

/-- A write of POP removes the head entry; on an empty queue it has no effect (R387). -/
def State.txqPop (q w : Nat) (s : State) : State := if bit w 0 then s.setTxq q (tget s.txq q []).tail else s

/-- PTP_TXQ_POP. -/
def execPtpTxqPop (q : Fin 9) (w : Word) (s : State) : Host.Outcome State Fault Refusal :=
  ok (s.hostWrite (0x130408 + 0x40 * q.val) w.toNat (State.txqPop q.val w.toNat))

/-- The largest addend magnitude (R388): 500 ppm. -/
def addendMax : Int := 9223372036854775

/-- A write of the addend's high word: the new rate, or RATE_REFUSED (R388). -/
def State.addendWrite (w : Nat) (s : State) : State :=
  let v := s.rd F.PTP_ADDEND_ADD_LO 0 + 2 ^ 32 * (w % 2 ^ 32)
  if (sx 64 v).natAbs ≤ addendMax.natAbs then { s.wr F.PTP_ADDEND_ADD_HI 0 w with addend := v }
  else s.wr F.PTP_STATUS_RATE_REFUSED 0 1

/-- PTP_ADDEND_WRITE. -/
def execPtpAddendWrite (w : Word) (s : State) : Host.Outcome State Fault Refusal :=
  ok (s.hostWrite 0x13000C w.toNat (State.addendWrite w.toNat))

/-- PTP time moved by a signed offset in units of 2^-16 ns, the residue kept; it wraps with its 48 bits of seconds. -/
def PtpTime.step (t : PtpTime) (d : Int) : PtpTime :=
  let per : Int := 1000000000 * 2 ^ 16
  let u := (((t.sec * 1000000000 + t.ns) * 2 ^ 16 + t.frac : Nat) + d) % (2 ^ 48 * per)
  let n := u.toNat
  ⟨n / (1000000000 * 2 ^ 16), n / 2 ^ 16 % 1000000000, n % 2 ^ 16, t.res⟩

/-- The offset in PTP_STEP: signed nanoseconds and a fraction added to them. -/
def State.stepOffset (s : State) : Int :=
  sx 64 (s.rd64 F.PTP_STEP_NS_LO F.PTP_STEP_NS_HI 0) * 2 ^ 16 + s.rd F.PTP_STEP_FRAC 0

/-- STEP_GO (R389, R391): one armed step, or STEP_REFUSED. A step while PTP is selected clears PTP_VALID. -/
def State.ptpStep (s : State) : State :=
  if !s.on F.PTP_STATUS_ARMED 0 || s.ptpLocked then s.wr F.PTP_STATUS_STEP_REFUSED 0 1
  else
    let s1 := ({ s with ptp := s.ptp.step s.stepOffset }.wr F.PTP_STATUS_ARMED 0 0).addWrap F.PTP_STATUS_STEP_GEN 0 1
    if s.sel = some 4 then (s1.wr F.REFSEL_PTP_VALID_PTP_VALID 0 0).candAbsent 4 else s1

/-- REARM (R390): ARMED set, or REARM_REFUSED while a raster is locked to PTP. -/
def State.ptpRearm (s : State) : State :=
  if s.ptpLocked then s.wr F.PTP_STATUS_REARM_REFUSED 0 1 else s.wr F.PTP_STATUS_ARMED 0 1

/-- A write to PTP_CTRL: a step first, then the re-arming. -/
def State.ptpCtrl (w : Nat) (s : State) : State :=
  let s1 := if bit w 0 then s.ptpStep else s
  if bit w 1 then s1.ptpRearm else s1

/-- PTP_STEP_GO: a write to PTP_CTRL with STEP_GO set. -/
def execPtpStepGo (w : Word) (s : State) : Host.Outcome State Fault Refusal :=
  ok (s.hostWriteSet 0x130000 w.toNat 1 State.ptpCtrl)

/-- PTP_REARM: a write to PTP_CTRL with REARM set. -/
def execPtpRearm (w : Word) (s : State) : Host.Outcome State Fault Refusal :=
  ok (s.hostWriteSet 0x130000 w.toNat 2 State.ptpCtrl)

/-- Corrections of Table 13-1 in units of 0.1 ns by port speed in Gb/s (ingress, egress). -/
def tsCorr (speed : Nat) : Nat × Nat :=
  match speed with
  | 400 => (1120, 384) | 200 => (1488, 448) | 100 => (2240, 512) | 10 => (704, 448) | 2 => (640, 480) | _ => (1600, 960)

/-- The speed of a logical port, 32 = MGT (Table 12-1, R347); 2 stands for 2.5 Gb/s. -/
def State.portSpeed (s : State) (l : Nat) : Nat :=
  if l < 32 then
    match s.rd F.MEDIA_PORT_CFG_SPLIT (l / 4) with
    | 0 => 400 | 1 => 200 | _ => 100
  else
    match s.rd F.MGT_CFG_SPEED 0 with
    | 0 => 1 | 1 => 2 | _ => 10

/-- The timestamp of a frame crossing the boundary now (R380-R382): PTP time, moved to the reference plane with CORR_EN.
`rx` subtracts the ingress correction; otherwise the egress correction is added. -/
def State.stamp (s : State) (l : Nat) (rx : Bool) : PtpTime :=
  if s.on F.PTP_PORT_CFG_CORR_EN l then
    let c := tsCorr (s.portSpeed l)
    let d : Int := if rx then -((c.1 : Int) + sx 12 (s.rd F.PTP_PORT_CFG_EXTRA_RX l))
      else (c.2 : Int) + sx 12 (s.rd F.PTP_PORT_CFG_EXTRA_TX l)
    s.ptp.step (d * 2 ^ 16 / 10)
  else s.ptp

end Sys2Proof.Machine
end

