-- ==== Sys2Proof/Machine/Engine.lean ====
section
/-! DEFINITION. The shared operations of the cue engines (chapter 6): result codes, time registers, waits and their ends,
values mirrored to the standby, fault stops, and the end of a record. -/
namespace Sys2Proof.Machine

/-- The result codes of Table 7-3 that a meaning names. -/
abbrev Rc.ok : Nat := 0x00
abbrev Rc.srcRange : Nat := 0x01
abbrev Rc.dstRange : Nat := 0x02
abbrev Rc.alignment : Nat := 0x03
abbrev Rc.width : Nat := 0x04
abbrev Rc.family : Nat := 0x05
abbrev Rc.deadSlot : Nat := 0x06
abbrev Rc.locked : Nat := 0x07
abbrev Rc.conflict : Nat := 0x08
abbrev Rc.pending : Nat := 0x09
abbrev Rc.group : Nat := 0x0A
abbrev Rc.mode : Nat := 0x0B
abbrev Rc.queueFull : Nat := 0x0C
abbrev Rc.nothing : Nat := 0x0D
abbrev Rc.target : Nat := 0x0E
abbrev Rc.arg : Nat := 0x0F
abbrev Rc.late : Nat := 0x10
abbrev Rc.timeout : Nat := 0x11
abbrev Rc.noCue : Nat := 0x12
abbrev Rc.protect : Nat := 0x13
abbrev Rc.ringFull : Nat := 0x14
abbrev Rc.lockBusy : Nat := 0x15
abbrev Rc.noGrant : Nat := 0x16
abbrev Rc.noBudget : Nat := 0x17
abbrev Rc.grantInvalid : Nat := 0x18
abbrev Rc.grantHeld : Nat := 0x19
abbrev Rc.inUse : Nat := 0x1A
abbrev Rc.noDesc : Nat := 0x1B
abbrev Rc.noSpace : Nat := 0x1C
abbrev Rc.stale : Nat := 0x1D
abbrev Rc.notRouted : Nat := 0x1E
abbrev Rc.format : Nat := 0x1F
abbrev Rc.depth : Nat := 0x20
abbrev Rc.lines : Nat := 0x21
abbrev Rc.param : Nat := 0x22
abbrev Rc.noScaler : Nat := 0x23
abbrev Rc.audioRate : Nat := 0x24
abbrev Rc.noPair : Nat := 0x25
abbrev Rc.busy : Nat := 0x26

/-- The lowest code among failed checks (R180); OK when none failed. -/
def firstFail (l : List (Bool × Nat)) : Nat :=
  ((l.filter (·.1)).map (·.2)).foldl (fun a c => if a = 0 ∨ c < a then c else a) 0

/-- A Refused code of Table 7-3 (R179). -/
def refusedCode (c : Nat) : Bool := decide (c ≠ Rc.ok ∧ c ≠ Rc.late ∧ c ≠ Rc.timeout)

/-- Write RS of engine `n`; a Refused code sets REFUSED_ANY (R162, R179). -/
def State.setRs (s : State) (n c : Nat) : State :=
  let s1 := s.wr F.CUE_STATUS_RS n c
  if refusedCode c then s1.wr F.CUE_STATUS_REFUSED_ANY n 1 else s1

/-- PC of engine `n`. -/
def State.pc (s : State) (n : Nat) : Nat := s.rd F.CUE_PC_PC n
def State.setPc (s : State) (n v : Nat) : State := s.wr F.CUE_PC_PC n v

/-- A time register (R145, Table 6-2). -/
structure TReg where
  raster : Nat
  pos : Pos
  valid : Bool
deriving DecidableEq, Repr

/-- A time register from its image's four words (Table 6-2). -/
def TReg.ofWords (w0 w1 w2 w3 : Nat) : TReg :=
  ⟨w3 % 8, ⟨w0 % 2 ^ 32 + 2 ^ 32 * (w1 % 2 ^ 32), w2 % 65536, w2 / 65536 % 65536⟩, bit w3 3⟩

/-- The image of a time register (Table 6-2). -/
def TReg.words (t : TReg) : List Nat :=
  [t.pos.frame % 2 ^ 32, t.pos.frame / 2 ^ 32 % 2 ^ 32, t.pos.line % 65536 + 65536 * (t.pos.sample % 65536),
   t.raster + 8 * b2n t.valid]

/-- Time register `i` of engine `n`; its home is CUE_KREG. -/
def State.k (s : State) (n i : Nat) : TReg :=
  TReg.ofWords (s.rd F.CUE_KREG_W0 (n * 4 + i)) (s.rd F.CUE_KREG_W1 (n * 4 + i)) (s.rd F.CUE_KREG_W2 (n * 4 + i))
    (s.rd F.CUE_KREG_W3 (n * 4 + i))
def State.setK (s : State) (n i : Nat) (t : TReg) : State :=
  let w := t.words
  (((s.wr F.CUE_KREG_W0 (n * 4 + i) (w.getD 0 0)).wr F.CUE_KREG_W1 (n * 4 + i) (w.getD 1 0)).wr
    F.CUE_KREG_W2 (n * 4 + i) (w.getD 2 0)).wr F.CUE_KREG_W3 (n * 4 + i) (w.getD 3 0)

/-- A time register an instruction can use (R145): VALID, its raster enabled. -/
def State.kOk (s : State) (n i : Nat) : Bool := (s.k n i).valid && s.enabled (s.k n i).raster

/-- SHORT style of engine `n` (R146). -/
def State.short (s : State) (n : Nat) : Bool := s.on F.CUE_CTRL_STYLE n

/-- SEQ of the record in the cue window, 0 if none. -/
def State.winSeq (s : State) (n : Nat) : Nat :=
  match (s.eng n).win with
  | some w => w.seq
  | none => 0

/-! ### The mirror (R168, R169) -/

/-- KIND of a VALUE message (Table 14-2). -/
abbrev Vk.tnow : Nat := 1
abbrev Vk.ldx : Nat := 2
abbrev Vk.xread : Nat := 3
abbrev Vk.ask : Nat := 4
abbrev Vk.waitev : Nat := 5
abbrev Vk.waitEnd : Nat := 6
abbrev Vk.accept : Nat := 7
abbrev Vk.bufalloc : Nat := 8

/-- An ACTIVE device mirrors a value engine `n` took from outside, with its PC, KIND and house position (R168). -/
def State.mirrorVal (s : State) (n kind : Nat) (v : List Nat) : State :=
  s.mirror Mt.value ([n, s.pc n, kind] ++ s.houseWords ++ v)

/-- The engine takes its outside values from the mirror (R168). -/
def State.fromMirror (s : State) : Bool := s.mode = Mode.standby

/-! ### The active device's position (R169, R399) -/

/-- A position as a count of samples, and back. -/
def posCount (p : Pos) (tl spl : Nat) : Nat := (p.frame * tl + (p.line - 1)) * spl + p.sample
def posOfCount (x tl spl : Nat) : Pos := ⟨x / (spl * tl), x % (spl * tl) / spl + 1, x % spl⟩

/-- CORE clocks since raster 0 stood at `p`. -/
def State.clocksSince (s : State) (p : Pos) : Nat :=
  (posCount (s.pos 0) (s.rLines 0) (s.rSamples 0) - posCount p (s.rLines 0) (s.rSamples 0)) * s.phaseFull 0 / s.phaseStep 0

/-- Raster `n` as it stood `c` CORE clocks ago. -/
def State.rasterBack (c n : Nat) (s : State) : State :=
  if s.enabled n then
    let r := s.raster n
    let y := posCount r.pos (s.rLines n) (s.rSamples n) * s.phaseFull n + r.phase - c * s.phaseStep n
    s.setRaster n { r with pos := posOfCount (y / s.phaseFull n) (s.rLines n) (s.rSamples n), phase := y % s.phaseFull n }
  else s

/-- Carry out `f` as `c` CORE clocks ago: every raster stands as it stood then, unless `f` itself moves it. -/
def State.atBack (s : State) (c : Nat) (f : State → State) : State :=
  if c = 0 then f s
  else
    let s0 := forEach (List.range 8) (fun n s => s.rasterBack c n) s
    forEach (List.range 8) (fun n t => if t.raster n = s0.raster n then t.setRaster n (s.raster n) else t) (f s0)

/-- Carry out `f` at the active device's house position `p` of raster 0. -/
def State.atPos (s : State) (p : Pos) (f : State → State) : State := s.atBack (s.clocksSince p) f

/-- Carry out `f` for engine `n` at the active engine's instant (R220): on a standby as far back as its last mirrored value came late. -/
def State.asActive (s : State) (n : Nat) (f : State → State) : State :=
  if s.fromMirror then s.atBack (s.eng n).lag f else f s

/-- The position words of a mirrored value. -/
def valPos (v : List Nat) : Pos := ⟨v.getD 4 0 + 2 ^ 32 * v.getD 5 0, v.getD 6 0 % 65536, v.getD 6 0 / 65536⟩

/-- Take the first mirrored value of engine `n`: what follows happened on the active device at its position. -/
def State.dropVal (s : State) (n : Nat) : State :=
  s.setEng n { s.eng n with vals := (s.eng n).vals.tail, lag := s.clocksSince (valPos ((s.eng n).vals.headD [])) }

/-! ### Waits -/

/-- Arm comparator `x` of engine `n` for a purpose: 1 a suspended WAIT, 2 a WAIT with ARM, 3 a timeout (R159, R160). -/
def State.armCmp (s : State) (n x purpose : Nat) : State :=
  s.setCmp n x ⟨purpose, (s.k n x).raster, (s.k n x).pos⟩

/-- Disarm comparator `x`. -/
def State.disarmCmp (s : State) (n x : Nat) : State := s.setCmp n x {}

/-- Suspend engine `n` in WAITING. -/
def State.suspend (s : State) (n : Nat) (w : Wait) : State :=
  (s.setEng n { s.eng n with wait := w }).wr F.CUE_STATUS_STATE n Es.waiting

/-- The wait of engine `n` ends: its timeout comparator is disarmed, a WAITING engine runs again; a STOPPED one stays so
until it is resumed (R156, R420). -/
def State.endWait (s : State) (n : Nat) (tmo : Option Nat) : State :=
  let s1 := match tmo with
    | some t => s.disarmCmp n t
    | none => s
  let s2 := s1.setEng n { s1.eng n with wait := .none }
  if s2.es n = Es.waiting then
    (s2.setEng n { s2.eng n with runSince := s2.clk }).wr F.CUE_STATUS_STATE n Es.running
  else s2

/-- The end of a wait with a result: RS takes `code`. -/
def State.wake (s : State) (n code : Nat) (tmo : Option Nat) : State := (s.endWait n tmo).setRs n code

/-- The end of a wait as an ACTIVE device mirrors it (R168). -/
def State.wakeMirror (s : State) (n code : Nat) (tmo : Option Nat) : State :=
  (s.mirrorVal n Vk.waitEnd [code]).wake n code tmo

/-! ### Records (R152-R155) -/

/-- The record in the window of engine `n` is consumed (R155): NOTIFY, CUE_READY down, the window empty. -/
def State.consume (s : State) (n : Nat) : State :=
  match (s.eng n).win with
  | none => s
  | some w =>
    let s1 := s.setEng n { s.eng n with win := .none }
    let s2 := s1.wr F.CUE_EVPEND_BITS n (withBit (s1.rd F.CUE_EVPEND_BITS n) 7 false)
    if w.notify then s2.evRecord 0x06 n w.seq 0 0 0 else s2

/-! ### Fault stops (R163, Table 6-7) -/

/-- Fault codes. -/
abbrev Fc.illegal : Nat := 0x01
abbrev Fc.pcRange : Nat := 0x02
abbrev Fc.addr : Nat := 0x03
abbrev Fc.align : Nat := 0x04
abbrev Fc.stack : Nat := 0x05
abbrev Fc.watchdog : Nat := 0x06
abbrev Fc.matrix : Nat := 0x07
abbrev Fc.pmemEcc : Nat := 0x10
abbrev Fc.dmemEcc : Nat := 0x11
abbrev Fc.regfile : Nat := 0x12
abbrev Fc.check : Nat := 0x13
abbrev Fc.smemEcc : Nat := 0x20

/-- Class of a fault code: 1 PROGRAM, 2 ENGINE, 3 SHARED. -/
def faultClass (code : Nat) : Nat := if code < 0x10 then 1 else if code < 0x20 then 2 else 3

/-- Physical engine behind number `n`. -/
def State.phys (s : State) (n : Nat) : Nat := s.rd F.CUE_PMAP_PHYS n

/-- The number of spare engines that stand by, as Vermilion reports it. -/
def State.spareShow (s : State) : State := s.wr F.WEAR_SPARES_ENGINE 0 (b2n (decide (s.es s.spareNum = Es.spare)))

/-- An ENGINE-class fault of number `n` counts against its physical engine, which is RETIRED at the second, and the number with it while that engine stands behind it (Table 6-6); with AUTO_SUBST
it starts an automatic substitution, unless one is in progress or no engine stands SPARE (R173, R172). -/
def State.engineFault (s : State) (n code : Nat) : State :=
  let p := s.phys n
  let c := tget s.peFaults p 0 + 1
  let s1 := { s with peFaults := tput s.peFaults p c 0 }
  let s2 := if 2 ≤ c then
      (s1.wr F.CUE_PMAP_RETIRED 0 (withBit (s1.rd F.CUE_PMAP_RETIRED 0) p true)).wr F.CUE_STATUS_STATE n Es.retired else s1
  if !s.on F.CUE_GLOBAL_CFG_AUTO_SUBST 0 || decide (s.subst.step ≠ 0) then s2
  else
    let s3 := (s2.wr F.CUE_SUBST_CTRL_AUTO 0 1).wr F.CUE_SUBST_CTRL_TARGET 0 n
    if s.es s.spareNum = Es.spare then
      { (s3.wr F.CUE_SUBST_CTRL_STATE 0 1).wr F.CUE_SUBST_CTRL_RESULT 0 0 with
        subst := { s.subst with step := 1, target := n, auto := true, code := code, pc := s.pc n, seq := s.winSeq n } }
    else (s3.wr F.CUE_SUBST_CTRL_STATE 0 4).wr F.CUE_SUBST_CTRL_RESULT 0 1

/-- A fault stop of engine `n` (R163): FAULTED with PC at the instruction, comparators disarmed, the wait abandoned, the
fault recorded and reported. -/
def State.faultStop (s : State) (n code addr : Nat) : State :=
  let s1 := (s.abandonWait n).disarmAll n
  let s2 := (((s1.wr F.CUE_STATUS_STATE n Es.faulted).wr F.CUE_STATUS_FAULT_CLASS n (faultClass code)).wr
    F.CUE_STATUS_FAULT_CODE n code).wr F.CUE_FAULT_ADDR_ADDR n addr
  let s3 := s2.evRecord 0x03 n (s.winSeq n) code (s.pc n) addr
  if faultClass code = 1 then s3
  else
    let s4 := s3.faultEvent (Src.cue n) false
    if faultClass code = 2 then s4.engineFault n code else s4

end Sys2Proof.Machine
end

