-- ==== Sys2Proof/Machine/Admit.lean ====
section
/-! DEFINITION. Admission, thermal behaviour and adaptive voltage (chapter 15): the cost table, budgets, ledger, asking and
giving, the sensors, and the voltage loop. -/
namespace Sys2Proof.Machine

/-! ### Classes and costs (Table 15-1) -/

abbrev Gc.lane : Nat := 0x01
abbrev Gc.laneTest : Nat := 0x02
abbrev Gc.recorder : Nat := 0x03
abbrev Gc.player : Nat := 0x04
abbrev Gc.head : Nat := 0x05
abbrev Gc.layer : Nat := 0x06
abbrev Gc.scaler : Nat := 0x07
abbrev Gc.fetch : Nat := 0x08
abbrev Gc.audioDelay : Nat := 0x09
abbrev Gc.psub : Nat := 0x0A
abbrev Gc.migration : Nat := 0x0B
abbrev Gc.scrub : Nat := 0x0C
abbrev Gc.spareTest : Nat := 0x0D

/-- The units of a class, numbered from 0; 0 for an unknown class. -/
def classUnits (cls : Nat) : Nat :=
  match cls with
  | 1 => 152 | 2 => 152 | 3 => 128 | 4 => 128 | 5 => 96 | 6 => 768 | 7 => 768 | 8 => 1 | 9 => 1024 | 10 => 8 | 11 => 1
  | 12 => 4 | 13 => 20 | _ => 0

/-- A class each device grants for itself, from entries 2,048-4,095 (R423). -/
def localClass (cls : Nat) : Bool := cls = 1 || cls = 2 || cls = 12 || cls = 13

/-- Picture size of a head structure (Table 9-1). -/
def picture (st : Nat) : Nat × Nat :=
  match st with
  | 3 => (1280, 720) | 4 => (1920, 1080) | 5 => (1920, 1080) | 6 => (3840, 2160) | _ => (0, 0)

/-- Pixel rate P in Mpixel/s (R418). -/
def pixelRate (st rate : Nat) : Nat := ceilDiv ((picture st).1 * (picture st).2 * nominalRate rate) 1000000

/-- A cost: power units, writes and reads in MB/s, pixels in Mpixel/s. -/
structure Cost where
  pwr : Nat := 0
  wr : Nat := 0
  rd : Nat := 0
  pix : Nat := 0
deriving DecidableEq, Repr

/-- A cost by tier (R418). -/
def tier (p a b c : Nat) : Nat := if p ≤ 130 then a else if p ≤ 260 then b else c

/-- The cost of a request (Table 15-1); none where its PARAM is out of range or has a reserved bit set. -/
def costOf (cls param : Nat) : Option Cost :=
  let mb := param % 65536
  let st := param % 16
  let rt := param / 16 % 16
  let p := pixelRate st rt
  let fmt := decide (param < 256) && headFormat st rt
  match cls with
  | 1 => if param ≤ 1 then some { pwr := 2 - param } else none
  | 2 => if param = 0 then some { pwr := 2 } else none
  | 3 => if param < 2 ^ 18 ∧ 1 ≤ mb ∧ mb ≤ 6000 then some { pwr := widthOf (param / 65536), wr := mb } else none
  | 4 => if param < 2 ^ 18 ∧ 1 ≤ mb ∧ mb ≤ 6000 then some { pwr := widthOf (param / 65536), rd := mb } else none
  | 5 => if fmt then some { pwr := tier p 2 3 4, pix := p } else none
  | 6 => if fmt then some { pwr := tier p 0 1 2, pix := p } else none
  | 7 => if fmt then some { pwr := tier p 1 2 4, pix := p } else none
  | 8 => if 1 ≤ param ∧ param ≤ 440 then some { rd := param * 1000 } else none
  | 9 => if param = 0 then some { wr := 4, rd := 4 } else none
  | 10 => if param = 0 then some { pwr := 24 } else none
  | 11 => if 1 ≤ param ∧ param ≤ 15 then some { pwr := param, wr := param * 1000, rd := param * 1000 } else none
  | 12 => if 1 ≤ param ∧ param ≤ 8 then some { pwr := 1, rd := param * 1000 } else none
  | 13 => if param = 0 then some { pwr := 6, pix := 498 } else none
  | _ => none

/-! ### Budgets (R415-R417) -/

/-- The BASE charge. -/
abbrev basePwr : Nat := 400

/-- The pixel capacity. -/
abbrev pixCap : Nat := 160000

/-- The charged power C. -/
def State.pwrCharge (s : State) : Nat := basePwr + s.adm.pwr

/-- TIGHT (R416). -/
def State.tight (s : State) : Nat := s.rd F.ADMIT_USE_PWR_M 0 - s.pwrCharge

/-- The power capacity now in force. -/
def State.pwrCap (s : State) : Nat := s.rd F.ADMIT_CEILING_CEIL 0 - s.tight

/-- The bandwidth capacities in MB/s (R415). -/
def State.wrCap (s : State) : Nat := s.rd F.SABLE_BW_CAP_WR 0 * 1000
def State.rdCap (s : State) : Nat := s.rd F.SABLE_BW_CAP_RD 0 * 1000

def State.overPwr (s : State) : Bool := decide (s.pwrCap < s.pwrCharge)
def State.overBw (s : State) : Bool := decide (s.wrCap < s.adm.wr ∨ s.rdCap < s.adm.rd)

/-- Show charges, capacity, over-charge flags and the queue's length in the registers. -/
def State.admShow (s : State) : State :=
  let s1 := ((s.wr F.ADMIT_STATUS_BUDGET 0 s.pwrCap).wr F.ADMIT_STATUS_OVER_PWR 0 (b2n s.overPwr)).wr
    F.ADMIT_STATUS_OVER_BW 0 (b2n s.overBw)
  let s2 := ((s1.wr F.ADMIT_USE_PWR_C 0 s.pwrCharge).wr F.ADMIT_USE_WR_CHARGE 0 s.adm.wr).wr F.ADMIT_USE_RD_CHARGE 0 s.adm.rd
  (s2.wr F.ADMIT_USE_PIX_CHARGE 0 s.adm.pix).wr F.ADMIT_QUEUE_WAITING 0 s.adm.queue.length

/-! ### The ledger (R419, R423, Table 15-3) -/

/-- First entry and number of entries of a class's range. -/
def ledgerRange (cls : Nat) : Nat × Nat := if localClass cls then (2048, 2048) else (1, 2047)

def State.entryValid (s : State) (e : Nat) : Bool := s.on F.ADMIT_LEDGER_VALID e

/-- The valid entry for a class and unit, whichever master holds it. -/
def State.heldEntry (s : State) (cls inst : Nat) : Option Nat :=
  ((List.range (ledgerRange cls).2).map (· + (ledgerRange cls).1)).find? fun e =>
    s.entryValid e && s.rd F.ADMIT_LEDGER_CLASS e = cls && s.rd F.ADMIT_LEDGER_INSTANCE e = inst

/-- A free entry of a class's range. Which one the device takes is not stated: the search starts at `d`, a free value. -/
def State.freeEntry (s : State) (cls d : Nat) : Option Nat :=
  let r := ledgerRange cls
  ((List.range r.2).map fun i => r.1 + (d + i) % r.2).find? fun e => !s.entryValid e

/-- The token of entry `e`. -/
def State.token (s : State) (e : Nat) : Nat := e + 4096 * s.rd F.ADMIT_LEDGER_TAG e

/-- The valid entry a token names: VALID and its TAG matches (R419). -/
def State.tokenEntry (s : State) (tok : Nat) : Option Nat :=
  let e := tok % 4096
  if e ≠ 0 ∧ s.entryValid e ∧ s.rd F.ADMIT_LEDGER_TAG e = tok / 4096 % 16 then some e else none

/-- A token written into a register field is valid for that field's class and unit (R419, R422). -/
def State.grantOk (s : State) (tok cls inst : Nat) : Bool :=
  match s.tokenEntry tok with
  | some e => s.rd F.ADMIT_LEDGER_CLASS e = cls && s.rd F.ADMIT_LEDGER_INSTANCE e = inst
  | none => false

/-- The PARAM of the grant that `holder` holds for a class and unit (R419). -/
def State.heldBy (s : State) (holder cls inst : Nat) : Option Nat :=
  match s.heldEntry cls inst with
  | some e => if s.rd F.ADMIT_LEDGER_HOLDER e = holder then some (s.rd F.ADMIT_LEDGER_PARAM e) else none
  | none => none

/-- Write a grant into entry `e` and charge it. TAG advances when the entry is reused; a used entry keeps its class. -/
def State.enterGrant (s : State) (e holder cls inst param : Nat) (tag : Nat) (c : Cost) : State :=
  let s1 := ((((((s.wr F.ADMIT_LEDGER_CLASS e cls).wr F.ADMIT_LEDGER_INSTANCE e inst).wr F.ADMIT_LEDGER_HOLDER e holder).wr
    F.ADMIT_LEDGER_VALID e 1).wr F.ADMIT_LEDGER_TAG e tag).wr F.ADMIT_LEDGER_PARAM e param)
  { s1 with adm := { s1.adm with pwr := s1.adm.pwr + c.pwr, wr := s1.adm.wr + c.wr, rd := s1.adm.rd + c.rd
                                 pix := s1.adm.pix + c.pix } }.admShow

/-- TAG of the next grant of entry `e` (R419). -/
def State.nextTag (s : State) (e : Nat) : Nat :=
  if s.on F.ADMIT_LEDGER_CLASS e then (s.rd F.ADMIT_LEDGER_TAG e + 1) % 16 else s.rd F.ADMIT_LEDGER_TAG e

/-- Return the grant of entry `e`: its units go back to the budgets (R215, R421). -/
def State.returnEntry (s : State) (e : Nat) : State :=
  let c := (costOf (s.rd F.ADMIT_LEDGER_CLASS e) (s.rd F.ADMIT_LEDGER_PARAM e)).getD {}
  let s1 := s.wr F.ADMIT_LEDGER_VALID e 0
  { s1 with adm := { s1.adm with pwr := s1.adm.pwr - c.pwr, wr := s1.adm.wr - c.wr, rd := s1.adm.rd - c.rd
                                 pix := s1.adm.pix - c.pix } }.admShow

/-- The device returns the grant of a class and unit whose operation ends (R421). -/
def State.returnGrant (s : State) (cls inst : Nat) : State :=
  match s.heldEntry cls inst with
  | some e => s.returnEntry e
  | none => s

/-! ### Asking (R420) -/

/-- The request fits (R420, R424): every budget it charges has room, nothing stops grants of that budget, and an entry of its
range is free. -/
def State.fits (s : State) (cls : Nat) (c : Cost) : Bool :=
  (c.pwr = 0 || (!s.on F.ADMIT_STATUS_THERM_HOLD 0 && !s.overPwr && decide (s.pwrCharge + c.pwr ≤ s.pwrCap)))
  && ((c.wr = 0 && c.rd = 0) || !s.overBw)
  && (c.wr = 0 || decide (s.adm.wr + c.wr ≤ s.wrCap)) && (c.rd = 0 || decide (s.adm.rd + c.rd ≤ s.rdCap))
  && (c.pix = 0 || decide (s.adm.pix + c.pix ≤ pixCap)) && (s.freeEntry cls 0).isSome

/-- The request could be served at all (R420): within each capacity before tightening. -/
def State.couldFit (s : State) (c : Cost) : Bool :=
  decide (basePwr + c.pwr ≤ s.rd F.ADMIT_CEILING_CEIL 0 ∧ c.wr ≤ s.wrCap ∧ c.rd ≤ s.rdCap ∧ c.pix ≤ pixCap)

/-- What becomes of an ASK when it is made: a code, or none where it waits. -/
def State.askVerdict (s : State) (cls inst param : Nat) (wait : Bool) : Option Nat :=
  match costOf cls param with
  | none => some Rc.arg
  | some c =>
    if classUnits cls ≤ inst then some Rc.arg
    else if (s.heldEntry cls inst).isSome then some Rc.grantHeld
    else if !s.couldFit c then some Rc.noBudget
    else if s.adm.queue.isEmpty && s.fits cls c then some Rc.ok
    else if wait then none else some Rc.noBudget

/-- Enter the grant of a request that fits, at a free entry of its range. -/
def State.grantNow (s : State) (holder cls inst param : Nat) : State × Nat :=
  let d := s.draw
  match d.1.freeEntry cls d.2, costOf cls param with
  | some e, some c =>
    let s1 := d.1.enterGrant e holder cls inst param (d.1.nextTag e) c
    (s1, s1.token e)
  | _, _ => (d.1, 0)

/-- Report the end of a host request: TOKEN, RESULT and STATE (2 GRANTED, 3 REFUSED, 4 CANCELLED). -/
def State.hostAskEnd (s : State) (code tok st : Nat) : State :=
  let s1 := ((s.wr F.ADMIT_ASK_TOKEN 0 tok).wr F.ADMIT_ASK_RESULT 0 code).wr F.ADMIT_ASK_STATE 0 st
  if st = 3 then s1.event F.ADMIT_STATUS_REFUSED 0 Irq.admission else s1

/-- Report the end of an engine's waiting ASK: gd takes the token, RS the code (R214). -/
def State.engAskEnd (s : State) (n code tok : Nat) : State :=
  match (s.eng n).wait with
  | .ask dst tmo => ((s.mirrorVal n Vk.ask [code, tok]).setG n dst tok).wake n code tmo
  | _ => s

/-- An ACTIVE device mirrors the grant of a host request of a mirrored class as a VALUE of number 7 (R399). -/
def State.mirrorHostAsk (s : State) (cls inst param code tok : Nat) : State :=
  if localClass cls then s else s.mirror Mt.value ([7, 0, Vk.ask] ++ s.houseWords ++ [code + 256 * cls + 65536 * inst, tok, param])

/-- Report the end of a waiting request to its master. -/
def State.askEnd (s : State) (r : AskReq) (code tok : Nat) : State :=
  if r.master ≠ 7 then s.engAskEnd r.master code tok
  else if code = Rc.ok then (s.hostAskEnd code tok 2).mirrorHostAsk r.cls r.inst r.param code tok
  else s.hostAskEnd code tok 3

/-- Take a request out of the queue. -/
def State.unqueue (s : State) (r : AskReq) : State :=
  { s with adm := { s.adm with queue := s.adm.queue.filter fun q => decide (q ≠ r) } }.admShow

/-- The device itself decides a waiting request; a standby takes the outcomes of its engines' from the mirror (R168, R423). -/
def State.decides (s : State) (r : AskReq) : Bool := !s.fromMirror || r.master = 7

/-- Refuse every waiting request for a class and unit that has just been granted (R420). -/
def State.refuseRivals (s : State) (cls inst : Nat) : State :=
  (s.adm.queue.filter fun q => s.decides q && decide (q.cls = cls ∧ q.inst = inst)).foldl
    (fun s q => (s.unqueue q).askEnd q Rc.grantHeld 0) s

/-- Grant a request: the ledger entry, and every rival refused; the token. -/
def State.grant (s : State) (holder cls inst param : Nat) : State × Nat :=
  let g := s.grantNow holder cls inst param
  (g.1.refuseRivals cls inst, g.2)

/-- Serve the queue's first request if it can be (R420): a resource granted meanwhile refuses it. -/
def State.serveQueue (s : State) : State :=
  match s.adm.queue with
  | [] => s
  | r :: _ =>
    if !s.decides r then s
    else if (s.heldEntry r.cls r.inst).isSome then (s.unqueue r).askEnd r Rc.grantHeld 0
    else
      match costOf r.cls r.param with
      | some c =>
        if s.fits r.cls c then
          let g := (s.unqueue r).grant r.master r.cls r.inst r.param
          g.1.askEnd r Rc.ok g.2
        else s
      | none => s

/-- ADMIT_QUEUE_GRANT: the first waiting request comes to fit. -/
def execAdmitQueueGrant (s : State) : Host.Outcome State Fault Refusal := ok s.serveQueue

/-- A host request to a class that Table 14-3 mirrors is refused on a standby (R401, R423). -/
def State.admStandby (s : State) (cls : Nat) (f : State → State) : State :=
  if s.mode = Mode.standby ∧ !localClass cls then s.event F.COBALT_EVENT_STBY_REFUSED 0 Irq.cobalt else f s

/-- A host ASK of the request in ADMIT_ASK (R420). -/
def State.hostAsk (w : Nat) (s : State) : State :=
  let cls := s.rd F.ADMIT_ASK_CLASS 0
  let inst := s.rd F.ADMIT_ASK_INSTANCE 0
  let param := s.rd F.ADMIT_ASK_PARAM 0
  if s.rd F.ADMIT_ASK_STATE 0 = 1 then s
  else
    match s.askVerdict cls inst param (bit w 2) with
    | none =>
      ({ s with adm := { s.adm with queue := s.adm.queue ++ [AskReq.mk 7 cls inst param] } }.admShow).hostAskEnd 0 0 1
    | some code =>
      if code = Rc.ok then
        let g := s.grant 7 cls inst param
        (g.1.hostAskEnd code g.2 2).mirrorHostAsk cls inst param code g.2
      else s.hostAskEnd code 0 3

/-- CANCEL: a waiting host request leaves the queue (R420). -/
def State.hostCancel (s : State) : State :=
  if s.rd F.ADMIT_ASK_STATE 0 = 1 then
    { s with adm := { s.adm with queue := s.adm.queue.filter fun q => decide (q.master ≠ 7) } }.admShow.hostAskEnd 0 0 4
  else s

/-- A write of ADMIT_ASK's control word: WAIT, then CANCEL, then GO. -/
def State.askCtrl (w : Nat) (s : State) : State :=
  s.admStandby (s.rd F.ADMIT_ASK_CLASS 0) fun s =>
    let s0 := s.wr F.ADMIT_ASK_WAIT 0 (bits w 2 1)
    let s1 := if bit w 1 then s0.hostCancel else s0
    if bit w 0 then s1.hostAsk w else s1

/-- ADMIT_ASK_GO: a write of the control word with GO set. -/
def execAdmitAskGo (w : Word) (s : State) : Host.Outcome State Fault Refusal :=
  ok (s.hostWriteSet 0x150028 w.toNat 1 State.askCtrl)

/-- ADMIT_ASK_CANCEL: a write of the control word with CANCEL set. -/
def execAdmitAskCancel (w : Word) (s : State) : Host.Outcome State Fault Refusal :=
  ok (s.hostWriteSet 0x150028 w.toNat 2 State.askCtrl)

/-- ASK_TIMEOUT: a waiting engine request reaches its timeout position and leaves the queue (R420). -/
def execAskTimeout (n : Fin 5) (s : State) : Host.Outcome State Fault Refusal :=
  ok (match (s.eng n.val).wait with
    | .ask dst (some t) =>
      if !s.fromMirror && s.reached (s.cmp n.val t).raster (s.cmp n.val t).pos then
        let s1 := { s with adm := { s.adm with queue := s.adm.queue.filter fun q => decide (q.master ≠ n.val) } }.admShow
        (((s1.event F.ADMIT_STATUS_TIMEOUT 0 Irq.admission).mirrorVal n.val Vk.ask [Rc.timeout, 0]).setG n.val dst 0).wake
          n.val Rc.timeout (some t)
      else s
    | _ => s)

/-! ### Giving (R215, R421) -/

/-- Head `h` enabled in its active or accepted set, and a layer or scaler of it (R421). -/
def State.headOn (s : State) (h : Nat) : Bool :=
  bit (s.hAct h 0 0) 0 || ((tget s.heads h {}).accepted && bit (s.hStg h 0 0) 0)
def State.layerOn (s : State) (h l : Nat) : Bool :=
  bit (s.hAct h (1 + l) 0) 0 || ((tget s.heads h {}).accepted && bit (s.hStg h (1 + l) 0) 0)

/-- A layer word 0 that asks for a scaler: SCALE set on a layer that is not CASCADE (R261, R269). -/
def scales (w0 : Nat) : Bool := bit w0 6 && decide (bits w0 1 2 ≠ 1)
def State.scalerOn (s : State) (h l : Nat) : Bool :=
  scales (s.hAct h (1 + l) 0) || ((tget s.heads h {}).accepted && scales (s.hStg h (1 + l) 0))

/-- The resource of a grant runs (R421). -/
def State.resourceRuns (s : State) (cls inst : Nat) : Bool :=
  match cls with
  | 1 => s.rd F.FAB_LANE_CTRL_STATE_REQ inst = 2
  | 3 => s.on F.SABLE_REC_RUNNING inst
  | 4 => s.on F.SABLE_PLAY_RUNNING inst
  | 5 => s.headOn inst
  | 6 => s.layerOn (inst / 8) (inst % 8)
  | 7 => s.scalerOn (inst / 8) (inst % 8)
  | 8 => s.on F.OCHRE_FETCH_USE_USE 0
  | 9 => s.on F.AUDIO_DBLK_EN inst
  | _ => false

/-- The host may reclaim a grant of this holder (R421): SYSTEM's, or that of an engine number that runs nothing. -/
def State.reclaimable (s : State) (holder : Nat) : Bool :=
  holder = 6 || (decide (holder ≤ 4) &&
    (s.es holder = Es.stopped || s.es holder = Es.halted || s.es holder = Es.faulted || s.es holder = Es.retired))

/-- The result of a return by `holder` (R215, R421). -/
def State.giveVerdict (s : State) (holder tok : Nat) (reclaim : Bool) : Nat :=
  match s.tokenEntry tok with
  | none => Rc.grantInvalid
  | some e =>
    let h := s.rd F.ADMIT_LEDGER_HOLDER e
    if h ≠ holder ∧ !(reclaim && s.reclaimable h) then Rc.grantInvalid
    else if s.resourceRuns (s.rd F.ADMIT_LEDGER_CLASS e) (s.rd F.ADMIT_LEDGER_INSTANCE e) then Rc.inUse
    else Rc.ok

/-- A GO in ADMIT_GIVE (R421). -/
def State.hostGive (w : Nat) (s : State) : State :=
  let tok := w % 65536
  let s0 := (s.wr F.ADMIT_GIVE_TOKEN 0 tok).wr F.ADMIT_GIVE_RECLAIM 0 (bits w 16 1)
  if !bit w 31 then s0
  else
    let code := s0.giveVerdict 7 tok (bit w 16)
    let s1 := s0.wr F.ADMIT_GIVE_RESULT 0 code
    if code = Rc.ok then s1.returnEntry (tok % 4096)
    else if bit w 16 then s1.event F.ADMIT_STATUS_RECLAIM_REFUSED 0 Irq.admission else s1

/-- A write of ADMIT_GIVE's first word: entries below 2,048 belong to the mirrored classes (R399, R423). -/
def State.giveCtrl (w : Nat) (s : State) : State :=
  let mir := decide (w % 4096 < 2048)
  if mir && decide (s.mode = Mode.standby) then s.event F.COBALT_EVENT_STBY_REFUSED 0 Irq.cobalt
  else s.winDone mir 0 0x150030 w (s.hostGive w)

/-- ADMIT_GIVE_GO. -/
def execAdmitGiveGo (w : Word) (s : State) : Host.Outcome State Fault Refusal :=
  ok (s.hostWriteSet 0x150030 w.toNat 0x80000000 State.giveCtrl)

/-! ### Power and heat (R416, R424, R425) -/

/-- What the device does every so many clocks is due: it was last done `last`. -/
def State.periodDue (s : State) (last : Option Nat) (period : Nat) : Bool :=
  match last with
  | some t => decide (t + period ≤ s.clk)
  | none => true

/-- POWER_MEASURE: the measured power M averaged over the last second, in units, refreshed every 100 ms. -/
def execPowerMeasure (m : Nat) (s : State) : Host.Outcome State Fault Refusal :=
  ok (if s.periodDue s.adm.lastPower (100 * msClk) then
    ({ s with adm := { s.adm with lastPower := some s.clk } }.wr F.ADMIT_USE_PWR_M 0 m).admShow else s)

/-- A temperature flag after a reading: set at its threshold, clear HYST below it (R424). -/
def tempFlag (was : Bool) (tj thr hyst : Nat) : Bool :=
  if thr ≤ tj then true else if tj + hyst ≤ thr then false else was

/-- What a reading of the 24 sensors does. Which of several hottest sensors HOTTEST names is a free value. -/
def State.readSensors (ts : List Nat) (s : State) : State :=
  let tj := ts.foldl Nat.max 0
  let hot := (List.range ts.length).filter fun i => ts.getD i 0 = tj
  let d := s.draw
  let s0 := ((d.1.wr F.ADMIT_TEMP_TJ 0 tj).wr F.ADMIT_TEMP_HOTTEST 0 (hot.getD (d.2 % hot.length) 0)).wr F.ADMIT_TEMP_PEAK 0
    (Nat.max (s.rd F.ADMIT_TEMP_PEAK 0) tj)
  let h := s.rd F.ADMIT_THERM_CFG_HYST 0
  let hold := tempFlag (s.on F.ADMIT_STATUS_THERM_HOLD 0) tj (s.rd F.ADMIT_THERM_CFG_WARN 0) h
  let alarm := tempFlag (s.on F.ADMIT_STATUS_TEMP_ALARM 0) tj (s.rd F.ADMIT_THERM_CFG_ALARM 0) h
  let s1 := (s0.wr F.ADMIT_STATUS_THERM_HOLD 0 (b2n hold)).wr F.ADMIT_STATUS_TEMP_ALARM 0 (b2n alarm)
  let s2 := if hold && !s.on F.ADMIT_STATUS_THERM_HOLD 0 then s1.event F.ADMIT_STATUS_WARN_EV 0 Irq.admission else s1
  if alarm && !s.on F.ADMIT_STATUS_TEMP_ALARM 0 then
    (s2.event F.ADMIT_STATUS_ALARM_EV 0 Irq.admission).faultEvent Src.thermal false else s2

/-- THERMAL_READ: the 24 sensors in degrees C, every 1 ms. -/
def execThermalRead (ts : List Nat) (s : State) : Host.Outcome State Fault Refusal :=
  ok (if s.periodDue s.adm.lastTemp msClk then { s with adm := { s.adm with lastTemp := some s.clk } }.readSensors ts else s)

/-- A write of ADMIT_THERM_CFG (R424): WARN and ALARM together, HYST on its own. -/
def State.thermCfg (w : Nat) (s : State) : State :=
  let warn := bits w 0 8
  let alarm := bits w 8 8
  let s1 := if warn ≤ alarm ∧ alarm ≤ 112 then
      (s.wr F.ADMIT_THERM_CFG_WARN 0 warn).wr F.ADMIT_THERM_CFG_ALARM 0 alarm else s
  s1.writeField F.ADMIT_THERM_CFG_HYST 0 (bits w 16 4)

/-- THERM_CFG_WRITE. -/
def execThermCfgWrite (w : Word) (s : State) : Host.Outcome State Fault Refusal :=
  ok (s.hostWrite 0x150040 w.toNat (State.thermCfg w.toNat))

/-- THERMTRIP: a sensor reaches 115 degrees C (R425); the pin stays asserted, an ACTIVE device gives up (R409). -/
def execThermtrip (s : State) : Host.Outcome State Fault Refusal :=
  ok ({ s with pins := { s.pins with thermtripN := false }, adm := { s.adm with trip := true } }.giveUp Src.thermal)

/-! ### The voltage loop (R427) -/

/-- Lowest and highest target. -/
def State.vMin (s : State) : Nat := s.rd F.ADMIT_AVS_STATUS_V_FUSE 0 - 50
def State.vMax (s : State) : Nat := s.rd F.ADMIT_AVS_CTRL_VMAX 0

/-- Set the target, held within its bounds. -/
def State.setTarget (s : State) (v : Nat) : State :=
  s.wr F.ADMIT_AVS_STATUS_TARGET 0 (Nat.max s.vMin (Nat.min v s.vMax))

/-- The loop is held: by FREEZE, or by a failed transaction. -/
def State.avsHeld (s : State) : Bool := s.on F.ADMIT_AVS_CTRL_FREEZE 0 || s.adm.frozen

/-- A write of ADMIT_AVS_CTRL: the target stays between its bounds, unless the loop is held. -/
def State.avsCtrl (w : Nat) (s : State) : State :=
  let s1 := s.writeWord 0x150054 w
  if s1.avsHeld then s1 else s1.setTarget (s1.rd F.ADMIT_AVS_STATUS_TARGET 0)

/-- The target goes to the regulator once the previous one has been acknowledged. -/
def State.avsBus (s : State) (ack : Bool) : State :=
  let a := if ack then s.adm.written else s.adm.acked
  let w := if a = s.adm.written then s.rd F.ADMIT_AVS_STATUS_TARGET 0 else s.adm.written
  { s with adm := { s.adm with acked := a, written := w } }.wr F.ADMIT_AVS_STATUS_BUS_OK 0 1

/-- The 10 ms decision on the smallest slack, in ps. -/
def State.avsDecide (s : State) (slack : Nat) : State :=
  let t := s.rd F.ADMIT_AVS_STATUS_TARGET 0
  let high := decide (s.rd F.ADMIT_AVS_CFG_SLACK_HI 0 < slack)
  let since := if high then some (s.adm.hiSince.getD s.clk) else none
  let s1 := { s with adm := { s.adm with hiSince := since } }
  if s.avsHeld then s1
  else if slack < s.rd F.ADMIT_AVS_CFG_SLACK_LO 0 then s1.setTarget (t + 5)
  else if high && decide (sClk ≤ s.clk - s.adm.hiSince.getD s.clk) then s1.setTarget (t - 5)
  else s1

/-- AVS_LOOP_TICK: every 10 ms, with S_min and whether the regulator has acknowledged the last target written. -/
def execAvsLoopTick (slack : Nat) (ack : Bool) (s : State) : Host.Outcome State Fault Refusal :=
  let s1 := { s with adm := { s.adm with lastLoop := some s.clk } }.wr F.ADMIT_AVS_STATUS_S_MIN 0 (Nat.min slack 255)
  ok (if !s.periodDue s.adm.lastLoop (10 * msClk) then s else if s.adm.frozen then s1 else (s1.avsDecide slack).avsBus ack)

/-- AVS_EMERGENCY: checked every 1 us; a monitor shows this slack, and below SLACK_EMER the target rises by 25 mV at once. -/
def execAvsEmergency (slack : Nat) (s : State) : Host.Outcome State Fault Refusal :=
  let s1 := { s with adm := { s.adm with lastEmer := some s.clk } }
  ok (if !s.periodDue s.adm.lastEmer usClk then s
  else if !s.avsHeld && decide (slack < s.rd F.ADMIT_AVS_CFG_SLACK_EMER 0) then
    s1.setTarget (s.rd F.ADMIT_AVS_STATUS_TARGET 0 + 25) else s1)

/-- AVS_TRANSACTION_FAIL: unanswered after three attempts. -/
def execAvsTransactionFail (s : State) : Host.Outcome State Fault Refusal :=
  let s1 := { s with adm := { s.adm with frozen := true } }.wr F.ADMIT_AVS_STATUS_TARGET 0 s.adm.acked
  ok (((s1.wr F.ADMIT_AVS_STATUS_BUS_OK 0 0).event F.ADMIT_STATUS_AVS_FAULT 0 Irq.admission).faultEvent Src.thermal false)

end Sys2Proof.Machine
end

