-- ==== Sys2Proof/Machine/Serial.lean ====
section
/-! DEFINITION. The serial structure inside a strand (chapter 4): strand words and their streams, TRS, line numbers, line CRC,
ancillary and audio packets, payload IDs, how formats lie in strands, and the line that egress writes back (R90-R109). PRESUMED
(log 133): the codes of TRS, line numbers, CRC and packets, which ST 259, 292-1, 425-1, 291, 299-1, 272 and 352 give and the spec
names. -/
namespace Sys2Proof.Machine

/-! ### Strand words and streams (R90, R93, R94) -/

/-- A strand word of two 10-bit streams. -/
def pair20 (a b : Nat) : Nat := a % 1024 * 1024 + b % 1024

/-- The first and the second data stream of words. -/
def stream1 (ws : List Nat) : List Nat := ws.map (· / 1024 % 1024)
def stream2 (ws : List Nat) : List Nat := ws.map (· % 1024)

/-- The words of sub-channel 0 of a PAIR strand (R94). -/
def evens (ws : List Nat) : List Nat :=
  match ws with
  | a :: _ :: r => a :: evens r
  | l => l

/-- The words of sub-channel 1. -/
def odds (ws : List Nat) : List Nat :=
  match ws with
  | _ :: b :: r => b :: odds r
  | _ => []

/-- Two sub-channels word by word. -/
def interleave (a b : List Nat) : List Nat :=
  match a, b with
  | x :: r, y :: t => x :: y :: interleave r t
  | x :: r, [] => x :: 0 :: interleave r []
  | [], _ => []

/-- The SD words that strand words carry (R93). -/
def sdWords (ws : List Nat) : List Nat := (ws.filter fun w => bit w 10).map (· % 1024)

/-- SD words laid in strand words: words 0 and 6 of each 11 (R93). -/
def sdPack (ws : List Nat) : List Nat :=
  match ws with
  | a :: b :: r => [1024 + a % 1024, 0, 0, 0, 0, 0, 1024 + b % 1024, 0, 0, 0, 0] ++ sdPack r
  | [a] => [1024 + a % 1024, 0, 0, 0, 0, 0]
  | [] => []

/-- How a strand's words are laid out (R91, R93-R95): SD, two sub-channels, or one 3G channel. -/
inductive Lay
  | sd
  | pair
  | ga
deriving DecidableEq, Repr

/-- The layout of a serial class's strands. -/
def layOf (cls : Nat) : Lay :=
  match cls with
  | 1 => .sd
  | 2 | 3 | 5 => .pair
  | _ => .ga

/-- The channels of a strand line: 10-bit words for SD, 20-bit words else. -/
def Lay.chans (l : Lay) (ws : List Nat) : List (List Nat) :=
  match l with
  | .sd => [sdWords ws]
  | .pair => [evens ws, odds ws]
  | .ga => [ws]

/-- The strand words of channels. -/
def Lay.words (l : Lay) (cs : List (List Nat)) : List Nat :=
  match l with
  | .sd => sdPack (cs.headD [])
  | .pair => interleave (cs.headD []) (cs.getD 1 [])
  | .ga => cs.headD []

/-- A channel that carries no signal (R97). -/
def isFill (ch : List Nat) : Bool := ch.all (· = 0)

/-! ### TRS (R100) -/

/-- The fourth word of a TRS: field, vertical blanking, end of active video, and their protection bits. -/
def xyz (f v h : Bool) : Nat :=
  512 + 256 * b2n f + 128 * b2n v + 64 * b2n h + 32 * b2n (xor v h) + 16 * b2n (xor f h) + 8 * b2n (xor f v)
    + 4 * b2n (xor (xor f v) h)

/-- The four words of a TRS in one stream. -/
def trs (f v h : Bool) : List Nat := [0x3FF, 0, 0, xyz f v h]

/-- Field and vertical bit of a TRS that stands here in one stream; none where there is none or a protection bit is wrong. -/
def trsHere (h : Bool) (ws : List Nat) : Option (Bool × Bool) :=
  match ws with
  | 0x3FF :: 0 :: 0 :: x :: _ => if x = xyz (bit x 8) (bit x 7) h then some (bit x 8, bit x 7) else none
  | _ => none

/-- The same in every stream of a channel: of the one stream of SD, of both else. -/
def chanTrs (sd h : Bool) (ws : List Nat) : Option (Bool × Bool) :=
  let w := ws.take 4
  if sd then trsHere h w
  else match trsHere h (stream1 w), trsHere h (stream2 w) with
    | some a, some b => if a = b then some a else none
    | _, _ => none

/-- The first EAV of a channel: its place, field and vertical bit. -/
def findEav (sd : Bool) (ws : List Nat) (i : Nat) : Option (Nat × Bool × Bool) :=
  match ws with
  | [] => none
  | w :: r => match chanTrs sd true (w :: r) with
    | some t => some (i, t.1, t.2)
    | none => findEav sd r (i + 1)

/-- What the TRS of a strand line shows: the layout it lies in, the length of its channel, where the EAV stands, and F and V. -/
structure TrsLine where
  lay : Lay
  len : Nat
  eav : Nat
  f : Bool
  v : Bool
deriving DecidableEq, Repr

/-- A channel's line: an EAV, and the SAV in its last four words (R29). -/
def chanLine (l : Lay) (ch : List Nat) : Option TrsLine :=
  match findEav (l = .sd) ch 0 with
  | none => none
  | some (e, f, v) =>
    if chanTrs (l = .sd) false (ch.drop (ch.length - 4)) = some (f, v) ∧ e + 8 ≤ ch.length then
      some ⟨l, ch.length, e, f, v⟩ else none

/-- A strand line whose EAV and SAV are valid, by the TRS layout it shows; of two sub-channels the first tells (R94, R101). -/
def lineTrs (ws : List Nat) : Option TrsLine :=
  match chanLine .ga ws with
  | some t => some t
  | none => match chanLine .pair (evens ws) with
    | some t => some t
    | none => chanLine .sd (sdWords ws)

/-! ### Line numbers and CRC (R103, R104, R109) -/

/-- A 9-bit value with bit 9 the complement of bit 8. -/
def par9 (x : Nat) : Nat := x % 512 + (if bit x 8 then 0 else 512)

/-- The two line-number words. -/
def lnWords (l : Nat) : List Nat := [par9 (l % 128 * 4), par9 (l / 128 % 16 * 4)]

/-- One bit of the line CRC, x^18 + x^5 + x^4 + 1, least significant bit first. -/
def crc18Bit (c b : Nat) : Nat := if (c + b) % 2 = 1 then Nat.xor (c / 2) 0x23000 else c / 2

/-- One 10-bit word of the line CRC. -/
def crc18Word (c w : Nat) : Nat := (List.range 10).foldl (fun c i => crc18Bit c (w / 2 ^ i % 2)) c

/-- The two CRC words of one stream's words from the first active one through the line number. -/
def crcOf (ws : List Nat) : List Nat :=
  let c := ws.foldl crc18Word 0
  [par9 (c % 512), par9 (c / 512)]

/-- The words of the line number and of the CRC in a stream agree with line `l` and with the words before them. -/
def streamLn (st : List Nat) (e l : Nat) : Bool := (st.drop (e + 4)).take 2 = lnWords l
def streamCrc (st : List Nat) (e : Nat) : Bool := (st.drop (e + 6)).take 2 = crcOf (st.take (e + 6))

/-- The channels of a line that carry signal, as their streams. -/
def liveStreams (l : Lay) (ws : List Nat) : List (List Nat) :=
  ((l.chans ws).filter fun c => !isFill c).flatMap fun c => [stream1 c, stream2 c]

/-! ### Ancillary packets (R102, R105) -/

/-- The packets of a stream: DID, SDID or block number, count, user words and checksum. -/
def ancIn (ws : List Nat) (fuel : Nat) : List (List Nat) :=
  match fuel with
  | 0 => []
  | n + 1 => match ws with
    | 0 :: 0x3FF :: 0x3FF :: r =>
      let k := r.getD 2 0 % 256 + 4
      if r.length < k then [] else r.take k :: ancIn (r.drop k) n
    | _ :: r => ancIn r n
    | [] => []
def ancOf (ws : List Nat) : List (List Nat) := ancIn ws ws.length

/-- A packet's checksum agrees: the sum of the nine low bits of its words, bit 9 the complement of bit 8. -/
def ancSum (ws : List Nat) : Nat := par9 ((ws.map (· % 512)).foldl (· + ·) 0)
def ancOk (p : List Nat) : Bool := p.getLast? = some (ancSum p.dropLast)

/-- A packet of DID, SDID and user words. -/
def ancMake (did sdid : Nat) (udw : List Nat) : List Nat :=
  let par := fun (x : Nat) => let b := countIf (List.range 8) (fun i => bit x i) % 2; x % 256 + 256 * b + 512 * (1 - b)
  let body := par did :: par sdid :: par udw.length :: udw
  [0, 0x3FF, 0x3FF] ++ body ++ [ancSum body]

/-- DID and SDID of a payload ID, and its four bytes, byte 1 lowest. -/
def pidIn (p : List Nat) : Option Nat :=
  if p.getD 0 0 % 256 = 0x41 ∧ p.getD 1 0 % 256 = 1 ∧ p.getD 2 0 % 256 = 4 then some (leWord ((p.drop 3).map (· % 256))) else none

/-- The lines on which ST 352 places the payload ID of a structure. -/
def pidLines (st : Nat) : List Nat :=
  match st with
  | 1 => [13, 276] | 2 => [9, 322] | 4 => [10, 572] | _ => [10]

/-- The payload ID packet of four bytes. -/
def pidPacket (v : Nat) : List Nat :=
  ancMake 0x41 1 ((leBytes v).map fun b => let p := countIf (List.range 8) (fun i => bit b i) % 2; b + 256 * p + 512 * (1 - p))

/-! ### Embedded audio (R105, R292) -/

/-- The audio group of a data packet's DID: ST 299-1 and 299-2 on HD and above, ST 272 on SD. -/
def audGroup (sd : Bool) (did : Nat) : Option Nat :=
  if sd then (if did = 0xFF then some 0 else if did = 0xFD then some 1 else if did = 0xFB then some 2 else if did = 0xF9 then some 3 else none)
  else if 0xE4 ≤ did ∧ did ≤ 0xE7 then some (0xE7 - did)
  else if 0xA4 ≤ did ∧ did ≤ 0xA7 then some (4 + (0xA7 - did))
  else none

/-- An audio packet, data or control, which embedding replaces (R105, R293). -/
def isAudPacket (sd : Bool) (p : List Nat) : Bool :=
  let did := p.getD 0 0 % 256
  if sd then decide (0xF8 ≤ did ∧ did ≤ 0xFF) || decide (0xEC ≤ did ∧ did ≤ 0xEF)
  else decide (0xE0 ≤ did ∧ did ≤ 0xE7) || decide (0xA0 ≤ did ∧ did ≤ 0xA7)

/-- One bit of the error check of ST 299-1: remainder by x^6 + x^5 + x^3 + x^2 + x + 1. -/
def bchStep (s b : Nat) : Nat := let t := 2 * s + b; if 64 ≤ t then Nat.xor t 111 else t

/-- The remainder of the power `k` of x. -/
def bchPow (k : Nat) : Nat := (List.range k).foldl (fun s _ => bchStep s 0) 1

/-- Bit `b` of the 30 words an audio packet's error check covers, corrected where one of them is wrong; none where more are. -/
def bchPlane (ws : List Nat) (b : Nat) : Option (List Nat) :=
  let bs := ws.map fun w => w / 2 ^ b % 2
  let s := bs.foldl bchStep 0
  if s = 0 then some bs
  else ((List.range 30).find? fun k => bchPow (29 - k) = s).map fun k => bs.set k (1 - bs.getD k 0)

/-- The user words of an ST 299 audio packet after correction; none where the error check fails. -/
def bchCorrect (p : List Nat) : Option (List Nat) :=
  let ws := ([0, 0x3FF, 0x3FF] ++ p).take 30
  let planes := (List.range 8).map (bchPlane ws)
  if planes.all (·.isSome) then
    some ((List.range 24).map fun i => (List.range 8).foldl (fun a b => a + ((planes.getD b none).getD []).getD (i + 6) 0 * 2 ^ b) 0)
  else none

/-- The six check words' bits of a packet that is sent. -/
def bchWords (ws : List Nat) : List Nat :=
  let planes := (List.range 8).map fun b => (List.range 6).foldl (fun s _ => bchStep s 0) ((ws.map fun w => w / 2 ^ b % 2).foldl bchStep 0)
  (List.range 6).map fun i => (List.range 8).foldl (fun a b => a + planes.getD b 0 / 2 ^ (5 - i) % 2 * 2 ^ b) 0

/-- One received audio sample: channel of the port, 24-bit code with V, U, C above it, the clock phase in sample clocks of the line, and
whether it belongs to the line before. -/
structure AudSample where
  ch : Nat
  code : Nat
  clk : Nat := 0
  late : Bool := false
deriving DecidableEq, Repr

/-- The four samples of a corrected ST 299 packet of group `g`. -/
def hdSamples (g : Nat) (u : List Nat) : List AudSample :=
  let clk := u.getD 0 0 + 256 * bits (u.getD 1 0) 0 4 + 4096 * bits (u.getD 1 0) 5 1
  (List.range 4).map fun c =>
    let w := fun k => u.getD (2 + 4 * c + k) 0
    { ch := 4 * g + c, clk := clk, late := bit (u.getD 1 0) 4
      code := bits (w 0) 4 4 + 16 * w 1 + 4096 * w 2 + 2 ^ 20 * bits (w 3) 0 4 + 2 ^ 24 * bits (w 3) 4 3 }

/-- The samples of an ST 272 packet of group `g`: 20 bits each. -/
def sdSamples (g : Nat) (u : List Nat) : List AudSample :=
  (List.range (u.length / 3)).map fun i =>
    let w := fun k => u.getD (3 * i + k) 0
    { ch := 4 * g + bits (w 0) 1 2
      code := 16 * (bits (w 0) 3 6 + 64 * bits (w 1) 0 9 + 2 ^ 15 * bits (w 2) 0 5) + 2 ^ 24 * bits (w 2) 5 3 }

/-- What an audio control packet declares of its group: 96 kHz, and asynchronous. PRESUMED (log 133): the codes of its RATE word. -/
structure AudCtl where
  grp : Nat
  r96 : Bool
  async : Bool
deriving DecidableEq, Repr

/-- The declaration of an audio control packet (ST 272, ST 299-1, ST 299-2). -/
def audCtl (sd : Bool) (p : List Nat) : Option AudCtl :=
  let did := p.getD 0 0 % 256
  if sd then
    if 0xEC ≤ did ∧ did ≤ 0xEF then some ⟨0xEF - did, false, bit (p.getD 5 0) 0 || bit (p.getD 5 0) 4⟩ else none
  else
    let rate := p.getD 4 0
    if 0xE0 ≤ did ∧ did ≤ 0xE3 then some ⟨0xE3 - did, decide (bits rate 1 3 = 4), bit rate 0⟩
    else if 0xA0 ≤ did ∧ did ≤ 0xA3 then some ⟨4 + (0xA3 - did), decide (bits rate 1 3 = 4), bit rate 0⟩
    else none

/-- What a line's packets give: bad checksums, rejected audio packets, samples received, the payload ID, and the declarations of
audio groups. -/
structure AncFacts where
  ancErr : Nat := 0
  audErr : Nat := 0
  samples : List AudSample := []
  pid : Option Nat := .none
  ctl : List AudCtl := []
deriving DecidableEq, Repr

/-- Take one packet (R102, R105): on SD a bad checksum of an audio packet counts as a rejected packet. -/
def AncFacts.take (sd : Bool) (a : AncFacts) (p : List Nat) : AncFacts :=
  let did := p.getD 0 0 % 256
  if !ancOk p then
    if sd && isAudPacket sd p then { a with audErr := a.audErr + 1 } else { a with ancErr := a.ancErr + 1 }
  else match audGroup sd did with
    | some g =>
      if sd then { a with samples := a.samples ++ sdSamples g (p.drop 3).dropLast }
      else match bchCorrect p with
        | some u => { a with samples := a.samples ++ hdSamples g u }
        | none => { a with audErr := a.audErr + 1 }
    | none => match pidIn p with
      | some v => { a with pid := some v }
      | none => { a with ctl := a.ctl ++ (audCtl sd p).toList }

/-- The packets of a line: of SD's one stream, or of both streams of a channel. -/
def chanAnc (sd : Bool) (ch : List Nat) : List (List Nat) := if sd then ancOf ch else ancOf (stream1 ch) ++ ancOf (stream2 ch)
def lineAnc (sd : Bool) (ps : List (List Nat)) : AncFacts := ps.foldl (AncFacts.take sd) {}

/-! ### Formats in strands (R92, R95, R101, Table 4-1) -/

/-- The structure whose lines a strand of a serial class carries: sub-images of 2160p are 1080p, and a signal that two data streams
share line by line is laid like 1080i. DEDUCED (log 133). -/
def signalStruct (cls st : Nat) : Nat :=
  match cls with
  | 3 | 7 => 4
  | 5 | 6 => 5
  | _ => st

/-- Raster lines in the time of a strand line. -/
def strandStep (cls : Nat) : Nat := if cls = 7 then 4 else if cls = 3 ∨ 5 ≤ cls then 2 else 1

/-- Words of a channel's line, and its active ones. -/
def chanLen (cls st rate : Nat) : Nat :=
  let n := samplesPerLine st rate
  if cls = 1 then 2 * n else if 5 ≤ cls then n / 2 else n
def chanActive (st : Nat) : Nat := if st = 1 ∨ st = 2 then 1440 else if st = 3 then 1280 else 1920

/-- Vertical blanking (Table 2-1) and the field bit of a line of a strand structure. -/
def vBit (st l : Nat) : Bool :=
  match st with
  | 1 => !(decide (21 ≤ l ∧ l ≤ 262) || decide (283 ≤ l))
  | 2 => !(decide (23 ≤ l ∧ l ≤ 310) || decide (336 ≤ l ∧ l ≤ 623))
  | 3 => !decide (26 ≤ l ∧ l ≤ 745)
  | 4 => !(decide (21 ≤ l ∧ l ≤ 560) || decide (584 ≤ l ∧ l ≤ 1123))
  | _ => !decide (42 ≤ l ∧ l ≤ 1121)
def fBit (st l : Nat) : Bool :=
  match st with
  | 1 => decide (l < 4 ∨ 266 ≤ l)
  | 2 => decide (313 ≤ l)
  | 4 => decide (564 ≤ l)
  | _ => false

/-- The structure that a strand's total lines and field bits show; 0 for none. -/
def structOf (total : Nat) (inter : Bool) : Nat :=
  match total with
  | 525 => 1 | 625 => 2 | 750 => 3 | 1125 => if inter then 4 else 5 | _ => 0

/-- Raster line that a strand line of class `cls` begins on a format of `lines` lines. -/
def rasterLine (cls lines l : Nat) : Nat := if lines = 0 then l else (l - 1) * strandStep cls % lines + 1

/-- The line of a raster position's strand structure, if a strand line begins with that raster line. -/
def strandLineAt (cls st : Nat) (p : Pos) : Option Nat :=
  let n := p.frame * totalLines st + (p.line - 1)
  if n % strandStep cls = 0 then some (n / strandStep cls % totalLines (signalStruct cls st) + 1) else none

/-- The rate code whose line lasts `clks` CORE clocks on a format: the one of Table 2-1 within 0.05 %, for `n` samples in a channel's
line. DESIGN CHOICE (log 134): the tolerance. -/
def rateOf (cls st n clks : Nat) : Nat :=
  let per := totalLines (signalStruct cls st)
  ((List.range 11).find? fun r => rateOk st r && (chanLen cls st r = n) &&
    (let f := nominalRate r * per * clks * (if fractional r then 1000 else 1001)
     let g := 1250000000 * 1001 * (if cls = 3 ∨ cls = 7 then 2 else 1)
     decide (f ≤ g + g / 2000 ∧ g ≤ f + g / 2000))).getD 15

/-! ### Payload IDs (R102, R138, R252, R355) -/

/-- Byte 1 of the payload ID of a serial class and structure. PRESUMED (log 135). -/
def pidByte1 (cls st : Nat) : Nat :=
  match cls with
  | 1 => 0x81
  | 2 => if st = 3 then 0x84 else 0x85
  | 3 => 0x8A
  | 4 => 0x89
  | 5 => 0xC0
  | 6 => 0xCE
  | _ => Config.pid24G % 256

/-- The serial class that byte 1 of a payload ID names; a quad-link 3G signal stands for 12G (R96). -/
def pidClass (v : Nat) : Option Nat :=
  match v % 256 with
  | 0x81 => some 1 | 0x84 => some 2 | 0x85 => some 2 | 0x8A => some 3 | 0x89 => some 4 | 0xC0 => some 5 | 0xCE => some 6
  | 0x97 => some 6
  | x => if x = Config.pid24G % 256 then some 7 else none

/-- Picture rate code of ST 352. PRESUMED (log 135). -/
def pidRate (rate : Nat) : Nat :=
  match rate with
  | 0 => 2 | 1 => 3 | 2 => 5 | 3 => 6 | 4 => 7 | 5 => 9 | 6 => 10 | 7 => 11 | 8 => 13 | 9 => 14 | _ => 15

/-- The payload ID of a generated signal, 4:2:2 10-bit: class, structure, rate, transfer characteristic and BT.2020. -/
def pidMake (cls st rate tcs : Nat) (bt2020 : Bool) : Nat :=
  let prog := !interlaced st
  pidByte1 cls st + 256 * (128 * b2n (prog && cls ≠ 3) + 64 * b2n prog + 16 * (tcs % 4) + pidRate rate) + 65536 * (32 * b2n bt2020)
    + 2 ^ 24

/-- A payload ID that declares 4:2:2 sampling at 10 bits. -/
def pid422 (v : Nat) : Bool := bits v 16 4 = 0 && bits v 24 2 = 1

/-! ### The line that egress sends (R98, R109) -/

/-- One stream of a line written back: the source's words with the TRS, and for HD and above the line number and a fresh CRC, whose
bit 0 `inv` inverts. -/
def stampStream (sd : Bool) (e : Nat) (f v : Bool) (l : Nat) (inv : Bool) (st : List Nat) : List Nat :=
  let head := st.take e ++ trs f v true
  let rest := fun (k : Nat) => (st.drop k).take (st.length - 4 - k) ++ trs f v false
  if sd then head ++ rest (e + 4)
  else
    let h := head ++ lnWords l
    let c := crcOf h
    h ++ [if inv then Nat.xor (c.headD 0) 1 else c.headD 0, c.getD 1 0] ++ rest (e + 8)

/-- One channel of a line written back; a channel of fill stays fill. -/
def stampChan (sd : Bool) (e : Nat) (f v : Bool) (l : Nat) (inv : Bool) (ch : List Nat) : List Nat :=
  if isFill ch then ch
  else if sd then stampStream true e f v l false ch
  else List.zipWith pair20 (stampStream false e f v l inv (stream1 ch)) (stampStream false e f v l inv (stream2 ch))

/-- A strand line of class `cls` on structure `st` written back for strand line `l`. -/
def stampLine (cls st l : Nat) (inv : Bool) (ws : List Nat) : List Nat :=
  let lay := layOf cls
  let q := signalStruct cls st
  lay.words ((lay.chans ws).map (stampChan (lay = .sd) (chanActive st) (fBit q l) (vBit q l) l inv))

/-- A channel line of one picture line's 10-bit luma and chroma, with packets from the start of its horizontal ancillary space, in
stream one and in stream two; TRS, line number and CRC are written afterwards. -/
def rawChan (sd : Bool) (len act : Nat) (y c : Nat → Nat) (a1 a2 : List Nat) : List Nat :=
  if sd then
    let pic := (List.range (act / 2)).flatMap fun i => [c i, y i]
    pic ++ (List.replicate 4 0 ++ a1 ++ (List.range len).flatMap fun i => if i % 2 = 0 then [0x200] else [0x40]).take (len - act)
  else
    let b1 := (List.replicate 8 0 ++ a1 ++ List.replicate len 0x40).take (len - act)
    let b2 := (List.replicate 8 0 ++ a2 ++ List.replicate len 0x200).take (len - act)
    List.zipWith pair20 ((List.range act).map y ++ b1) ((List.range act).map c ++ b2)

/-- The picture samples of a sub-image in two-sample interleave (R95): column `i` of sub-image `k`. -/
def subCol (cls k i : Nat) : Nat := if 5 ≤ cls then i / 2 * 4 + k % 2 * 2 + i % 2 else i

/-- The sub-image of channel `c` of member strand `m` of a group (R95). -/
def subImage (cls m c : Nat) : Nat := if cls = 5 then 2 * m + c else if cls = 7 then m / 2 else m

/-! ### Active words as bytes (R229) -/

/-- Ten-bit values as bytes, four values in five. -/
def pack10 (vs : List Nat) : List Nat :=
  match vs with
  | a :: b :: c :: d :: r =>
    let n := a % 1024 + b % 1024 * 2 ^ 10 + c % 1024 * 2 ^ 20 + d % 1024 * 2 ^ 30
    [n % 256, n / 2 ^ 8 % 256, n / 2 ^ 16 % 256, n / 2 ^ 24 % 256, n / 2 ^ 32 % 256] ++ pack10 r
  | [] => []
  | l =>
    let n := l.foldr (fun x acc => x % 1024 + 1024 * acc) 0
    (List.range (ceilDiv (10 * l.length) 8)).map fun i => n / 2 ^ (8 * i) % 256

/-- Value `v` of a line packed ten bits a value (R229). -/
def packed (b : List Nat) (v : Nat) : Nat := (b.getD (10 * v / 8) 0 + 256 * b.getD (10 * v / 8 + 1) 0) / 2 ^ (10 * v % 8) % 1024

/-- The active values of strand words in the order they are carried: sub-channel 0, then sub-channel 1; of a 20-bit word its first
stream and then its second. -/
def activeValues (l : Lay) (n : Nat) (ws : List Nat) : List Nat :=
  (l.chans ws).flatMap fun ch =>
    if l = .sd then (ch.take n) else (ch.take n).flatMap fun w => [w / 1024 % 1024, w % 1024]

/-- The last line of a strand structure's frame that carries picture. -/
def lastActive (q : Nat) : Nat := match q with
  | 1 => 525 | 2 => 623 | 3 => 745 | 4 => 1123 | _ => 1121

/-- The active bytes of a strand line (R398): none in vertical blanking. -/
def lineCrcBytes (lay : Lay) (q l : Nat) (ws : List Nat) : List Nat :=
  if vBit q l then [] else pack10 (activeValues lay (chanActive q) ws)

/-! ### Digests (R398, R406) -/

/-- A strand's running digest takes one line: line 1 begins a frame, the last line with picture ends it. -/
def DigRun.take (x : DigRun) (q l : Nat) (bad : Bool) (bs : List Nat) : DigRun :=
  let y := if l = 1 then { x with reg := 0xFFFFFFFF, bytes := 0, bad := false } else x
  let z := { y with reg := bs.foldl crcByte y.reg, bytes := y.bytes + bs.length, bad := y.bad || bad }
  if l = lastActive q then { z with out := (z.reg, z.bytes), outBad := z.bad } else z

end Sys2Proof.Machine
end

