-- ==== Sys2Proof/Machine/Align.lean ====
section
/-! DEFINITION. Ports and alignment (chapters 4 and 5): the declared class, judging strand lines, windows, line mode, and what
a destination delivers under the window rules and loss policies. -/
namespace Sys2Proof.Machine

/-! ### Offsets (R107, R112) -/

/-- Samples in a frame of raster `r`. -/
def State.frameSamples (s : State) (r : Nat) : Nat := s.rLines r * s.rSamples r

/-- How far the egress timeline of raster `r` stands past the start of line `line`, to the nearest sample, halves up, reduced
into one frame: the offset of a source whose line `line` is dated now (R107, R110). -/
def State.ofsOn (s : State) (r line : Nat) : Int :=
  let e := s.egress r
  let half := if s.phaseFull r ≤ 2 * (s.raster r).phase then 1 else 0
  let x : Int := ((e.line - 1) * s.rSamples r + e.sample + half : Nat)
  reduceHalf (x - ((line - 1) * s.rSamples r : Nat)) (s.frameSamples r)

/-- W: 1.5 times the samples per line (Table 5-1). -/
def State.winW (s : State) (r : Nat) : Nat := 3 * s.rSamples r / 2

/-- The window state of port `p` against raster `r` as it now counts: measured before the raster was last disabled, it does
not. -/
def State.winNow (s : State) (p r : Nat) : Window :=
  let w := s.win p r
  if w.offs = (s.raster r).offs then w else { offs := (s.raster r).offs }

/-! ### What a source slot offers -/

/-- A source as a destination meets it: valid, aligned as a group, fill, and its structure and rate. -/
structure Live where
  valid : Bool := true
  split : Bool := false
  fill : Bool := false
  st : Nat := 0
  rate : Nat := 0
deriving DecidableEq, Repr

/-- Declared class and strands of port `p`. -/
def State.portClass (s : State) (p : Nat) : Nat := s.rd F.ALIGN_PORT_CFG_CLASS p
def State.portWidth (s : State) (p : Nat) : Nat := classWidth (s.portClass p)

/-- Port `p`'s group is not aligned (R106, R137): skew over the limit, one member unlocked while others are locked, or, judged
against a raster, one member's aligner wait out of range while the others' is not. -/
def State.portSplit (s : State) (p : Nat) (r : Option Nat) : Bool :=
  let w := s.portWidth p
  let n := match r with
    | some r => (s.winNow p r).outOf.length
    | none => 0
  let m := countIf (List.range w) fun k => bit (s.rd F.ALIGN_PORT_STATUS_LOCK_MASK p) k
  s.on F.ALIGN_PORT_STATUS_GRP_SKEW p || decide (0 < n ∧ n < w) || decide (0 < m ∧ m < w)

/-- The last TAG accepted for fabric slot `d` says fill (R97). -/
def State.tagFill (s : State) (d : Nat) : Bool :=
  (List.range 152).any fun m => s.rd F.FAB_LANE_STATUS_LOGICAL m = d / 32 && tget (tget s.lanes m {}).cls (d % 32) 15 = 0

/-- What arrives on fabric slot `d` is fill: its tag says so, or it lies in the dead half of a forerunner lane (R16, R97). -/
def State.slotFill (s : State) (d : Nat) : Bool := s.foreDead d || s.tagFill d

/-- What source slot `x` offers a destination: on a raster whose window decides, or with none, as to a recorder (R116) and to a
route in line mode, whose waits R118 answers. -/
def State.live (s : State) (x : Nat) (r : Option Nat) : Live :=
  if x < 4608 then
    let p := s.slotPort x
    if s.portClass p = 0 then { fill := true }
    else { valid := s.on F.ALIGN_PORT_STATUS_FMT_VALID p && !(List.range (s.portWidth p)).any fun k => s.foreDead (4 * p + k)
           split := s.portSplit p r, st := s.rd F.ALIGN_PORT_FMT_STRUCT p, rate := s.rd F.ALIGN_PORT_FMT_RATE p }
  else if x < 5760 then
    match s.flowOfSlot x 0 with
    | some i =>
      let b := tget s.flowBind (s.fSlot i) {}
      { valid := !b.lost, split := decide (1 < s.fWidth i) && b.bad, st := s.fStruct i, rate := s.fRate i }
    | none => { valid := false }
  else if x < 6272 then
    let p := (x - 5760) / 4
    let pl := s.player p
    { valid := s.on F.SABLE_PLAY_RUNNING p && !s.on F.SABLE_PLAY_LOST p && pl.beginAt.isNone && s.enabled pl.set.raster
      st := pl.set.st, rate := pl.set.rate }
  else
    let h := (x - 6272) / 4
    let q := bits (s.hAct h 0 0) 1 3
    { valid := s.on F.OCHRE_HEAD_STATUS_RUNNING h, st := s.rStruct q, rate := s.rRate q }

/-- The raster a player, head or IP receive strand runs on (R115). -/
def State.srcRaster (s : State) (x : Nat) : Option Nat :=
  if x < 4608 then none
  else if x < 5760 then (s.flowOfSlot x 0).map s.fRaster
  else if x < 6272 then some (s.player ((x - 5760) / 4)).set.raster
  else if x < 6656 then some (bits (s.hAct ((x - 6272) / 4) 0 0) 1 3)
  else none

/-- Phase of raster `r` over raster `q`, in samples of `r` (R115). -/
def State.phaseDiff (s : State) (q r : Nat) : Int :=
  let a := s.pos r
  let b := s.pos q
  reduceHalf (((a.line * s.rSamples r + a.sample : Nat) : Int) - ((b.line * s.rSamples q + b.sample : Nat) : Int))
    (s.frameSamples r)

/-- Offset of source slot `x` against raster `r`, in samples. -/
def State.srcOfs (s : State) (x r : Nat) : Int :=
  if x < 4608 then (s.winNow (s.slotPort x) r).ofs
  else
    match s.srcRaster x with
    | some q => if q = r then 0 else s.phaseDiff q r
    | none => 0

/-- The route from source slot `x` is in window on raster `r` (R112, R113, R115), given equal structures and rates. -/
def State.inWindow (s : State) (x r : Nat) : Bool :=
  if x < 4608 then (s.winNow (s.slotPort x) r).inside
  else decide ((s.srcOfs x r).natAbs ≤ s.winW r)

/-- Line-mode offset k: the offset in lines, to the nearest, halves up (R117). -/
def lineK (ofs : Int) (spl : Nat) : Int := (2 * ofs + spl) / (2 * spl : Nat)

/-! ### What a destination delivers (R117, R119, R134, R136, R137, R535) -/

/-- A destination's judgement: its status flags as they would be with no policy yet in force. -/
structure Judge where
  live : Bool := false
  subst : Bool := false
  unclean : Bool := false
  conflict : Bool := false
  split : Bool := false
  k : Int := 0
deriving DecidableEq, Repr

/-- A recorder's destination slot. -/
def isRec (d : Nat) : Bool := decide (5760 ≤ d ∧ d < 6272)

/-- First source slot of the group that entry `e` of destination `d` belongs to. -/
def groupSrc (d : Nat) (e : XEnt) : Nat := if isGen e.src then e.src else e.src - d % widthOf e.width

/-- A group that reads source slot `x` on raster `r` is in line mode: the K it has. Every destination of one source on one raster
reads the same words at the same instant (R18, R114). -/
def State.sharedK (s : State) (x r : Nat) : Option Int :=
  ((s.routes.find? fun e => decide (e.1 < 6336) && groupSrc e.1 e.2 = x && s.dstRaster e.1 = some r
    && s.on F.XPT_DEST_STATUS_UNCLEAN e.1).map fun e => sx 12 (s.rd F.XPT_DEST_STATUS_K e.1))

/-- Judge destination `d` (R112, R116, R117, R119, R134, R137, R535); a strand in the dead half of a forerunner lane carries no
signal (R16). -/
def State.judge (s : State) (d : Nat) : Judge :=
  let e := s.xa d
  if !e.routed || (decide (d < 4608) && s.foreDead d) then {}
  else
    let r? := s.dstRaster d
    let r := r?.getD 0
    if !isRec d && (r?.isNone || !s.enabled r) then { conflict := true }
    else
      let x := groupSrc d e
      if isGen x then { live := true }
      else
        let l := s.live x (if isRec d || s.on F.XPT_DEST_STATUS_UNCLEAN d then none else some r)
        let bad := !isRec d && l.valid && decide (l.st ≠ s.rStruct r ∨ l.rate ≠ s.rRate r)
        if l.fill then { live := true }
        else if l.split || !l.valid || bad then { subst := true, split := l.split, conflict := bad }
        else if isRec d || s.inWindow x r then { live := true }
        else if e.oow then { subst := true }
        else { live := true, unclean := true, k := (s.sharedK x r).getD (lineK (s.srcOfs x r) (s.rSamples r)) }

/-- What a destination carries (R98, R117, R134-R136, R535): its source (on its own timing, or moved by k lines), the words
as they come under PASS, black, a generator, or fill. -/
inductive Carry
  | source (slot : Nat) (k : Int)
  | pass (slot : Nat)
  | black
  | gen (g : Nat)
  | fill
deriving DecidableEq, Repr

/-- The loss policy of an entry (R134). -/
def lossCarry (e : XEnt) : Carry :=
  match e.loss with
  | 1 => .black
  | 2 => .gen e.gen
  | _ => .pass e.src

/-- Destination `d`'s raster is disabled, or has not come to a switch line since it was (R535). -/
def State.held (s : State) (d : Nat) : Bool :=
  tget s.destHold d false || (!isRec d && match s.dstRaster d with
    | some r => !s.enabled r
    | none => true)

/-- What destination slot `d` carries now. -/
def State.carries (s : State) (d : Nat) : Carry :=
  let e := s.xa d
  if decide (d < 4608) && s.foreDead d then .fill
  else if !e.routed then (if e.loss = 2 then .gen e.gen else .fill)
  else if s.held d then .fill
  else if s.on F.XPT_DEST_STATUS_SUBST d then lossCarry e
  else if isGen e.src then .gen (e.src - 6656)
  else .source e.src (if s.on F.XPT_DEST_STATUS_UNCLEAN d then sx 12 (s.rd F.XPT_DEST_STATUS_K d) else 0)

/-- Destination `d` waits, or waits no more, for a switch line after its raster was disabled (R535). -/
def State.hold (d : Nat) (b : Bool) (s : State) : State := { s with destHold := tput s.destHold d b false }

/-- The judgement's flags that show at once. -/
def State.showFlags (d : Nat) (j : Judge) (s : State) : State :=
  (s.wr F.XPT_DEST_STATUS_FMT_CONFLICT d (b2n j.conflict)).wr F.XPT_DEST_STATUS_GROUP_SPLIT d (b2n j.split)

/-- Show destination `d`'s status (XPT_DEST_STATUS). A policy in force stays until its return (R135), and a new one waits for
its line (R134). K is taken when line mode begins and held (R118). One whose raster is disabled carries fill (R535). -/
def State.showDest (d : Nat) (s : State) : State :=
  if 6336 ≤ d then s
  else
    let j := s.judge d
    let s1 := s.showFlags d j
    if (s.xa d).routed && s.held d then
      (((s1.hold d true).wr F.XPT_DEST_STATUS_LIVE d 0).wr F.XPT_DEST_STATUS_SUBST d 0).wr F.XPT_DEST_STATUS_UNCLEAN d 0
    else if s.on F.XPT_DEST_STATUS_SUBST d || j.subst then s1
    else
      let s2 := (s1.wr F.XPT_DEST_STATUS_LIVE d (b2n j.live)).wr F.XPT_DEST_STATUS_UNCLEAN d (b2n j.unclean)
      if j.unclean && s.on F.XPT_DEST_STATUS_UNCLEAN d then s2 else s2.wr F.XPT_DEST_STATUS_K d (wrapInt 12 j.k)

/-- A probe's loss policy is in force in its present frame (R139). -/
def State.probeSubst (d : Nat) (s : State) : State :=
  if 6272 ≤ d ∧ s.on F.XPT_DEST_STATUS_SUBST d then
    { s with probeRun := tput s.probeRun (d - 6272) { tget s.probeRun (d - 6272) {} with subst := true } {} }
  else s

/-- Judge destination `d` afresh, as at a switching point: the policy is in force or not from now (R129, R132, R135). -/
def State.settleDest (d : Nat) (s : State) : State :=
  if 6336 ≤ d then s
  else
    let s0 := s.hold d false
    if (s0.xa d).routed && s0.held d then s0.showDest d
    else
      let j := s0.judge d
      let s1 := (s0.showFlags d j).wr F.XPT_DEST_STATUS_SUBST d (b2n j.subst)
      (((s1.wr F.XPT_DEST_STATUS_LIVE d (b2n j.live)).wr F.XPT_DEST_STATUS_UNCLEAN d (b2n j.unclean)).wr
        F.XPT_DEST_STATUS_K d (wrapInt 12 j.k)).probeSubst d

/-- The slots of the group destination `d` is routed in. -/
def State.groupOf (s : State) (d : Nat) : List Nat :=
  let w := widthOf (s.xa d).width
  (List.range w).map (· + (d - d % w))

/-- Show every destination that reads a source slot from `lo` on, `n` of them. -/
def State.showSrc (lo n : Nat) (s : State) : State :=
  forEach ((s.routes.filter fun e => decide (lo ≤ e.2.src ∧ e.2.src < lo + n)).map (·.1)) (fun d s => s.showDest d) s

/-- Show every destination that reads port `p`. -/
def State.showReaders (p : Nat) (s : State) : State :=
  forEach ((s.routes.filter fun e => decide (e.2.src < 4608) && s.slotPort e.2.src = p).map (·.1)) (fun d s => s.showDest d) s

/-- Show every destination on raster `r`. -/
def State.showRaster (r : Nat) (s : State) : State :=
  forEach ((s.routes.filter fun e => s.dstRaster e.1 = some r).map (·.1)) (fun d s => s.showDest d) s

/-- A line of destination `d`'s raster begins on the egress timeline; a recorder has no raster of its own. -/
def State.lineStart (s : State) (d : Nat) : Bool :=
  match s.dstRaster d with
  | some r => s.enabled r && decide ((s.egress r).sample = 0)
  | none => isRec d

/-- Raster `r` stands on a switch line of its present frame on the egress timeline (R31). -/
def State.atSwitch (s : State) (r : Nat) : Bool :=
  let e := s.egress r
  s.enabled r && (s.switchLines r e.frame).any fun c => decide (c = (e.frame, e.line))

/-! ### Recorders and their sources (R238) -/

/-- The allocated descriptor a handle names (R209): its two zero bits, state and generation agree. -/
def State.handleDesc (s : State) (h : Nat) : Option Nat :=
  let i := h % 16384
  let d := s.desc i
  if bits h 14 2 = 0 ∧ d.state = 1 ∧ d.gen = h / 65536 % 65536 then some i else none

/-- A stopping recorder with no frame in progress has ended (R212). -/
def State.recEnd (s : State) (r : Nat) : State :=
  let x := s.recorder r
  if x.stopping && x.open'.isEmpty then (s.setRecorder r { x with stopping := false }).wr F.SABLE_REC_RUNNING r 0 else s

/-- Recorder `r` gives up its open frame `q` (R238): counted; the newest frame's number and slot stay for the next one. DEDUCED
(log 141): an older one's number is not taken up again, since numbers rise by one from frame to frame (R237). -/
def State.recDrop (r q : Nat) (s : State) : State :=
  let x := s.recorder r
  let seq := if x.open'.getLast? = some q then (q + 2 ^ 32 - 1) % 2 ^ 32 else x.seq
  let s1 := s.setRecorder r { x with open' := x.open'.erase q, seq := seq }
  let s2 := match s1.handleDesc (s1.rd F.SABLE_REC_HANDLE r) with
    | some i => s1.setDesc i { s1.desc i with stored := (s1.desc i).stored.filter fun f => decide (f.seq ≠ q) }
    | none => s1
  (s2.incSat F.SABLE_REC_ABANDONED r).recEnd r

/-- A recorder gives up the frame in progress, its newest (R238). -/
def State.recAbandon (r : Nat) (s : State) : State :=
  match (s.recorder r).open'.getLast? with
  | none => s
  | some q => s.recDrop r q

/-- Recorders whose source is lost or has lost alignment give up their frames. -/
def State.recCheck (s : State) : State :=
  (s.sable.recs.filter fun e => !e.2.open'.isEmpty).foldl
    (fun s e => if (s.judge (5760 + 4 * e.1)).live then s else s.recAbandon e.1) s

/-- LOSS_POLICY_APPLY: a line of `d`'s destination begins while a loss condition holds (R134); the whole group changes. -/
def execLossPolicyApply (d : Fin 6336) (s : State) : Host.Outcome State Fault Refusal :=
  ok (if (s.judge d).subst && !s.on F.XPT_DEST_STATUS_SUBST d && !s.held d && s.lineStart d then
    forEach (s.groupOf d.val) (fun d s =>
      if 6336 ≤ d then s
      else (((s.wr F.XPT_DEST_STATUS_SUBST d 1).wr F.XPT_DEST_STATUS_LIVE d 0).wr F.XPT_DEST_STATUS_UNCLEAN d 0).probeSubst d) s
  else s)

/-- LOSS_POLICY_RETURN: the condition has ended, or the raster runs again (R535), and `d`'s raster stands on a switch line
(R135). -/
def execLossPolicyReturn (d : Fin 6336) (s : State) : Host.Outcome State Fault Refusal :=
  let here := match s.dstRaster d.val with
    | some r => s.atSwitch r
    | none => isRec d.val
  ok (if ((s.on F.XPT_DEST_STATUS_SUBST d && !(s.judge d).subst) || tget s.destHold d false) && here then
    forEach (s.groupOf d.val) (fun d s => s.settleDest d) s else s)

/-- The offsets whose waits line mode keeps in range (R118): of every member strand of a fabric port, of the source else. -/
def State.lineOffsets (s : State) (x r : Nat) : List Int :=
  if x < 4608 then (s.winNow (s.slotPort x) r).lines.map (·.2) else [s.srcOfs x r]

/-- The step that offset `o` asks of k on raster `r`: its distance from k lines, taken within half a frame, is beyond 1.5 lines. -/
def State.slipOf (s : State) (r : Nat) (k o : Int) : Int :=
  let e := reduceHalf (o - k * (s.rSamples r : Nat)) (s.frameSamples r)
  if 3 * (s.rSamples r : Nat) < 2 * e then 1 else if 2 * e < -3 * (s.rSamples r : Nat) then -1 else 0

/-- LINE_MODE_SLIP: in line mode the aligner wait of a member of `d`'s route would leave 0.5 to 3.5 lines; k steps by one for every
destination of that source on that raster, and SLIP_CNT counts (R18, R118). -/
def execLineModeSlip (d : Fin 6336) (s : State) : Host.Outcome State Fault Refusal :=
  let r := (s.dstRaster d.val).getD 0
  let x := groupSrc d.val (s.xa d.val)
  let k := sx 12 (s.rd F.XPT_DEST_STATUS_K d.val)
  let step := (((s.lineOffsets x r).map (s.slipOf r k)).find? fun i => decide (i ≠ 0)).getD 0
  let ds := (s.routes.filter fun e => decide (e.1 < 6336) && groupSrc e.1 e.2 = x && s.dstRaster e.1 = some r
    && s.on F.XPT_DEST_STATUS_UNCLEAN e.1).map (·.1)
  ok (if s.on F.XPT_DEST_STATUS_UNCLEAN d && (s.xa d).routed && s.lineStart d.val && decide (step ≠ 0) then
    (forEach ds (fun d s => (s.wr F.XPT_DEST_STATUS_K d (wrapInt 12 (k + step))).incSat F.XPT_DEST_STATUS_SLIP_CNT d) s).event
      F.XPT_EVENT_SLIP 0 Irq.xpt
  else s)

/-! ### Windows of ports (R113, R120, R534) -/

/-- Port `p` can be judged against its own raster, and is out of window there (R534). -/
def State.portOow (s : State) (p : Nat) : Bool :=
  let r := s.rd F.ALIGN_PORT_CFG_RASTER p
  decide (s.rd F.ALIGN_PORT_FMT_STRUCT p ≠ s.rStruct r ∨ s.rd F.ALIGN_PORT_FMT_RATE p ≠ s.rRate r) || !(s.winNow p r).inside

/-- Bring ALIGN_OOW of port `p` up to date; leaving the window is an event (R120). -/
def State.oowUpdate (p : Nat) (s : State) : State :=
  let r := s.rd F.ALIGN_PORT_CFG_RASTER p
  if !s.on F.ALIGN_PORT_STATUS_FMT_VALID p || !s.enabled r then s
  else if s.portOow p then
    if s.on F.ALIGN_OOW_BIT p then s
    else
      let s1 := ((s.wr F.ALIGN_OOW_BIT p 1).wr F.ALIGN_OOW_EV_BIT p 1).engMask (s.rd F.ALIGN_WIN_CFG_ENG_MASK 0) 6
      if s.on F.ALIGN_WIN_CFG_IRQ 0 then s1.raise Irq.align else s1
  else s.wr F.ALIGN_OOW_BIT p 0

/-- One frame offset of port `p` measured against raster `r` (R113). `fit`: the source's format is the raster's. -/
def State.winFrame (s : State) (p r : Nat) (fit : Bool) : Window :=
  let w := s.winNow p r
  let o := s.ofsOn r 1
  let run := if fit && decide (o.natAbs + s.rd F.ALIGN_WIN_CFG_HYST 0 ≤ s.winW r) then w.run + 1 else 0
  let out := !fit || decide (s.winW r < o.natAbs)
  { w with measured := true, ofs := o, run := run
           inside := !out && (w.inside || (!w.measured && s.on F.ALIGN_PORT_STATUS_FMT_VALID p)) }

/-- One line of strand `k` of port `p` judged against raster `r` (R113): its aligner wait in range or not. -/
def State.winLine (s : State) (p r k line : Nat) : Window :=
  let w := s.winNow p r
  let o := s.ofsOn r (rasterLine (s.portClass p) (s.rLines r) line)
  let out := decide (s.winW r < o.natAbs)
  { w with outOf := if out then k :: w.outOf.filter (· ≠ k) else w.outOf.filter (· ≠ k)
           lines := tins w.lines k o
           inside := w.inside && !out, run := if out then 0 else w.run }

/-- Apply a window step on every enabled raster. -/
def State.windowsStep (s : State) (p : Nat) (f : State → Nat → Window) : State :=
  forEach (List.range 8) (fun r s => if s.enabled r then s.setWin p r (f s r) else s) s

/-- The source of port `p` is lost (R108): FMT_VALID clears, no window holds. -/
def State.portLost (p : Nat) (s : State) : State :=
  let s1 := ((s.wr F.ALIGN_PORT_STATUS_FMT_VALID p 0).wr F.ALIGN_PORT_STATUS_OFS_VALID p 0).wr F.ALIGN_PORT_OFS_OFFSET p 0
  forEach (List.range 8) (fun r s => let w := s.winNow p r; s.setWin p r { w with inside := false, run := 0, outOf := [], lines := [] }) s1

/-- WINDOW_REENTER: two frames within W - HYST, and raster `r` stands on a switch line (R113). -/
def execWindowReenter (p : Fin 1152) (r : Fin 8) (s : State) : Host.Outcome State Fault Refusal :=
  let w := s.winNow p.val r.val
  ok (if s.on F.ALIGN_PORT_STATUS_FMT_VALID p && !w.inside && decide (2 ≤ w.run) && s.atSwitch r.val then
    ((s.setWin p.val r.val { w with inside := true }).oowUpdate p.val).showReaders p.val else s)

/-! ### Declaring ports (R99) -/

/-- OFFSET as it stands (R107): OFS_VALID needs FMT_VALID and the raster's rate family and frame rate. -/
def State.showOfs (p : Nat) (s : State) : State :=
  let r := s.rd F.ALIGN_PORT_CFG_RASTER p
  let c := (s.port p).cand
  let v := s.on F.ALIGN_PORT_STATUS_FMT_VALID p && s.enabled r && c.2.1 = s.rRate r
    && (family1001 c.1 c.2.1 = family1001 (s.rStruct r) (s.rRate r))
  (s.wr F.ALIGN_PORT_STATUS_OFS_VALID p (b2n v)).wr F.ALIGN_PORT_OFS_OFFSET p (if v then wrapInt 24 (s.winNow p r).ofs else 0)

/-- A write of CLASS that R99 refuses: 24G whenever it is written over an upper port in use, any other class on that port, and a
change while routes stand. -/
def State.classRefused (s : State) (p cls : Nat) : Bool :=
  let n := if s.portClass p = 7 then 8 else 4
  (cls = 7 && (decide (p % 2 = 1) || decide (s.portClass (p + 1) ≠ 0) || s.readsSlots (4 * (p + 1)) 4
      || s.writesSlots (4 * (p + 1)) 4))
  || (decide (p % 2 = 1) && s.portClass (p - 1) = 7 && cls ≠ 0)
  || (cls ≠ s.portClass p && (s.readsSlots (4 * p) n || s.writesSlots (4 * p) n))

/-- The port's monitor starts afresh with a new class (R99, R101): nothing it found stands. -/
def State.portClear (p : Nat) (s : State) : State :=
  let s1 := forEach (List.range 8) (fun k s => if 4 * p + k < 4608 then s.setStrand (4 * p + k) {} else s) (s.portLost p)
  let s2 := (((s1.wr F.ALIGN_PORT_STATUS_LOCK_MASK p 0).wr F.ALIGN_PORT_STATUS_GRP_SKEW p 0).wr
    F.ALIGN_PORT_STATUS_MISMATCH p 0).wr F.ALIGN_PORT_OFS_SKEW p 0
  let s3 := (((s2.wr F.ALIGN_PORT_FMT_STRUCT p 0).wr F.ALIGN_PORT_FMT_RATE p 0).wr F.ALIGN_PORT_FMT_CLASS p 0).wr
    F.ALIGN_PORT_FMT_PID_SEEN p 0
  let s4 := ((s3.wr F.ALIGN_PORT_FMT_SQD p 0).wr F.ALIGN_PORT_FMT_F1001 p 0).wr F.ALIGN_PORT_PID_PID p 0
  s4.setPort p {}

/-- A write to ALIGN_PORT_CFG[p] (R99, R8). -/
def State.portCfg (p w : Nat) (s : State) : State :=
  let cls := bits w 0 4
  let s1 := ((s.wr F.ALIGN_PORT_CFG_RASTER p (bits w 4 3)).wr F.ALIGN_PORT_CFG_PID_REQ p (bits w 8 1)).wr
    F.ALIGN_PORT_CFG_CRC_POL p (bits w 9 1)
  let s2 := if 7 < cls then s1
    else if s.classRefused p cls then s1.wr F.ALIGN_PORT_STATUS_CFG_REFUSED p 1
    else if cls = s.portClass p then s1
    else (s1.portClear p).wr F.ALIGN_PORT_CFG_CLASS p cls
  let own := (s2.routes.filter fun e => decide (e.1 < 4608) && s2.slotPort e.1 = p).map (·.1)
  forEach own (fun d s => s.showDest d) (((s2.showOfs p).oowUpdate p).showReaders p)

/-- ALIGN_PORT_CFG_WRITE. -/
def execAlignPortCfgWrite (p : Fin 1152) (w : Word) (s : State) : Host.Outcome State Fault Refusal :=
  ok (s.hostWrite (0x56000 + 0x20 * p.val) w.toNat (State.portCfg p.val w.toNat))

/-! ### Judging a strand line (R100-R107) -/

/-- A format of Table 4-1 in a serial class. -/
def classFits (st rate cls : Nat) : Bool :=
  match cls with
  | 1 => (st = 1 && rate = 3) || (st = 2 && rate = 2)
  | 2 => (st = 3 && decide (5 ≤ rate ∧ rate ≤ 7)) || (st = 4 && decide (2 ≤ rate ∧ rate ≤ 4)) || (st = 5 && decide (rate ≤ 4))
  | 3 => st = 5 && decide (5 ≤ rate ∧ rate ≤ 7)
  | 4 => st = 5 && decide (5 ≤ rate ∧ rate ≤ 7)
  | 5 => st = 6 && decide (rate ≤ 4)
  | 6 => st = 6 && decide (5 ≤ rate ∧ rate ≤ 7)
  | 7 => st = 6 && decide (8 ≤ rate ∧ rate ≤ 10)
  | _ => false

/-- The layout that a strand's code stands for. -/
def codeLay (c : Nat) : Lay :=
  match c with
  | 0 => .sd
  | 1 => .pair
  | _ => .ga
def layCode (l : Lay) : Nat :=
  match l with
  | .sd => 0
  | .pair => 1
  | .ga => 2

/-- A line's TRS stands where the flywheel predicts it (R100). -/
def Strand.agrees (x : Strand) (t : Option TrsLine) : Bool :=
  match t with
  | some t => layCode t.lay = x.lay && t.len = x.len && t.eav = x.eav
  | none => false

/-- Lock by one line (R100): four consecutive lines of equal length with valid TRS lock, eight bad ones unlock. -/
def Strand.trs (x : Strand) (t : Option TrsLine) : Strand :=
  if x.locked then
    if x.agrees t then { x with bad := 0 }
    else if x.bad < 7 then { x with bad := x.bad + 1 }
    else { x with bad := 0, locked := false, good := 0, age := 0, refs := 0 }
  else
    match t with
    | none => { x with good := 0 }
    | some t =>
      let g := if 0 < x.good ∧ layCode t.lay = x.lay ∧ t.len = x.len then x.good + 1 else 1
      { x with good := g, lay := layCode t.lay, len := t.len, eav := t.eav, locked := decide (4 ≤ g)
               age := 0, refs := 0, cnt := 0, fSeen := t.f, f := t.f, v := t.v }

/-- The structure a strand's lines show, and whether its line is known. -/
def Strand.st (x : Strand) : Nat := structOf x.total x.inter
def Strand.known (x : Strand) : Bool := x.locked && decide (2 ≤ x.refs ∧ x.line ≠ 0)

/-- The flywheel's next line. -/
def Strand.succ (x : Strand) : Nat := if x.line = 0 ∨ x.total = 0 then 0 else x.line % x.total + 1

/-- The vertical step of a locked strand (R101): the picture of a frame ends where V rises, in an interlaced one with F set; two
such ends give the total lines and the field structure, and with them the line. -/
def Strand.vert (x : Strand) (t : Option TrsLine) : Strand :=
  let l := x.succ
  let fv := match (if x.agrees t then t else none) with
    | some t => (t.f, t.v)
    | none => if x.known then (fBit x.st l, vBit x.st l) else (x.f, x.v)
  let y := { x with f := fv.1, v := fv.2, age := x.age + 1 }
  if fv.2 && !x.v && decide (0 < x.age) && (fv.1 || !x.fSeen) then
    let y1 := { y with cnt := 0, fSeen := false, refs := Nat.min 2 (x.refs + 1) }
    if x.refs = 0 then { y1 with line := l }
    else
      let i := x.fSeen || fv.1
      { y1 with total := x.cnt + 1, inter := i, line := builtinLatch (structOf (x.cnt + 1) i) }
  else { y with cnt := x.cnt + 1, fSeen := x.fSeen || fv.1, line := l }

/-- One line on a strand. -/
def Strand.step (x : Strand) (t : Option TrsLine) : Strand :=
  let y := x.trs t
  if y.locked then y.vert t else { y with line := y.succ }

/-- `y`, reached from `x`, stands at the start of a frame: at line 1, or, where its total lines are of no structure, at an end of
picture that shows the same total again. -/
def Strand.starts (x y : Strand) : Bool :=
  (y.known && y.line = 1) || (y.locked && y.refs = 2 && x.refs = 2 && y.cnt = 0 && y.st = 0 && x.total = y.total)

/-- Declaring or losing TRS lock on strand `k` of port `p` (R100). -/
def State.setLock (s : State) (p k : Nat) (b : Bool) : State :=
  s.wr F.ALIGN_PORT_STATUS_LOCK_MASK p (withBit (s.rd F.ALIGN_PORT_STATUS_LOCK_MASK p) k b)

/-- TRS lock lost on strand `k` of port `p`: a fault event (Table 4-2). -/
def State.lockLost (s : State) (p k : Nat) : State :=
  let s1 := ((s.setLock p k false).wr F.ALIGN_PORT_STATUS_LOSS p 1).portLost p
  (s1.setPort p { s1.port p with frames := 0 }).faultEvent Src.align true

/-- The TRS of one line of strand slot `d` (R100). DESIGN CHOICE (log 136): TRS_ERR and LN_ERR of a port of several strands count
each strand's line. -/
def State.judgeTrs (s : State) (p k d : Nat) (t : Option TrsLine) : State :=
  let x := s.strand d
  let y := x.step t
  let s1 := s.setStrand d y
  let s2 := if x.locked && !x.agrees t then s1.incSat F.ALIGN_PORT_ERR_TRS_ERR p else s1
  if x.locked && !y.locked then s2.lockLost p k else if !x.locked && y.locked then s2.setLock p k true else s2

/-- What a line's words show a strand in state `y`: bad line numbers, a bad CRC, its packets and the payload ID it places (R102-R105).
Line numbers and CRCs are those of HD and above; fill is not checked (R97). -/
structure LineFacts where
  lnBad : Bool := false
  crcBad : Bool := false
  anc : AncFacts := {}
  pid : Option Nat := none
deriving DecidableEq, Repr

def Strand.facts (y : Strand) (found : Bool) (ws : List Nat) : LineFacts :=
  let l := codeLay y.lay
  let sd := decide (l = .sd)
  let chs := l.chans ws
  let ss := if (y.locked || found) && !sd then liveStreams l ws else []
  let first := if sd then ancOf (chs.headD []) else ancOf (stream1 (chs.headD []))
  { lnBad := y.known && ss.any fun x => !streamLn x y.eav y.line
    crcBad := ss.any fun x => !streamCrc x y.eav
    anc := lineAnc sd (chs.flatMap (chanAnc sd))
    pid := if y.known && (pidLines y.st).contains y.line then (lineAnc sd first).pid else none }

/-- Line numbers (R103), CRCs (R104) and ancillary data (R105) of one line of strand `d`, a line of `clks` clocks. A port's line is
counted once in CRC_ERR, whichever of its strands show it. -/
def State.judgeWords (s : State) (p d clks : Nat) (f : LineFacts) : State :=
  let y := s.strand d
  let s1 := if f.lnBad then s.incSat F.ALIGN_PORT_ERR_LN_ERR p else s
  let run := if !f.lnBad then 0 else if y.line = 1 then 1 else if y.lnRun + 1 = y.line then y.line else 0
  let s2 := s1.setStrand d { y with lnRun := run }
  let s3 := if decide (0 < run) && run = y.total then s2.wr F.ALIGN_PORT_STATUS_LN_MISMATCH p 1 else s2
  let c := (s3.port p).crcLine
  let s4 := if f.crcBad && !(decide (c.1 = y.line + 1) && decide (s.clk < c.2 + clks)) then
      (s3.incSat F.ALIGN_PORT_ERR_CRC_ERR p).setPort p { s3.port p with crcLine := (y.line + 1, s.clk) } else s3
  (s4.addSat F.ALIGN_PORT_ERR_ANC_ERR p f.anc.ancErr).addSat F.ALIGN_PORT_ERR_AUD_ERR p f.anc.audErr

/-- A payload ID of the port's first strand (R102): accepted when the frame before showed the same bytes. -/
def State.judgePid (s : State) (p v : Nat) : State :=
  let pd := s.port p
  let s1 := s.setPort p { pd with pidNow := some v }
  if pd.pidRun = 1 ∧ pd.pidCand = v then (s1.wr F.ALIGN_PORT_PID_PID p v).wr F.ALIGN_PORT_FMT_PID_SEEN p 1 else s1

/-- The frame that ended showed a payload ID or none (R102). -/
def State.pidFrame (s : State) (p : Nat) : State :=
  let pd := s.port p
  match pd.pidNow with
  | some v => s.setPort p { pd with pidCand := v, pidRun := 1, pidNow := none, pidGap := 0 }
  | none =>
    let s1 := s.setPort p { pd with pidRun := 0, pidGap := pd.pidGap + 1 }
    if 2 ≤ pd.pidGap + 1 ∧ s.portClass p ≠ 1 then
      (s1.wr F.ALIGN_PORT_STATUS_PID_MISSING p 1).wr F.ALIGN_PORT_FMT_PID_SEEN p 0
    else s1

/-- The payload ID that PID_REQ demands is missing. -/
def State.pidFails (s : State) (p : Nat) : Bool :=
  s.on F.ALIGN_PORT_CFG_PID_REQ p && decide (2 ≤ (s.port p).pidGap) && decide (s.portClass p ≠ 1)

/-- CORE clocks as samples of a format, to the nearest. -/
def clkSamples (st rate n : Nat) : Nat :=
  let f := sampleRate st rate
  let den := f.2 * sClk
  (2 * n * f.1 + den) / (2 * den)

/-- The frame start of strand `k` measured (R106): skew against the first strand when every strand has been measured, in samples
of the port's detected format. -/
def State.judgeSkew (s : State) (p k d : Nat) : State :=
  let w := s.portWidth p
  let s1 := s.setStrand d { s.strand d with start := s.clk }
  let pd := s1.port p
  let st := k :: pd.started.filter (· ≠ k)
  if w ≤ 1 then s1
  else if st.length < w then s1.setPort p { pd with started := st }
  else
    let c0 := (s1.strand (4 * p)).start
    let late := ((List.range w).map fun i => let c := (s1.strand (4 * p + i)).start; (c - c0) + (c0 - c)).foldl Nat.max 0
    let skew := clkSamples (s.rd F.ALIGN_PORT_FMT_STRUCT p) (s.rd F.ALIGN_PORT_FMT_RATE p) late
    let s2 := (s1.setPort p { pd with started := [] }).wr F.ALIGN_PORT_OFS_SKEW p (Nat.min skew 255)
    let excess := decide (64 < skew)
    let s3 := s2.wr F.ALIGN_PORT_STATUS_GRP_SKEW p (b2n excess)
    if excess && !s.on F.ALIGN_PORT_STATUS_GRP_SKEW p then s3.wr F.ALIGN_PORT_STATUS_SKEW_EV p 1 else s3

/-- The serial class port `p` shows (R101): its payload ID's, or what layout and strands tell; level B from HD by the declared
class, since they share one layout. -/
def State.classSeen (s : State) (p : Nat) : Nat :=
  let w := s.portWidth p
  let plain := match codeLay (s.strand (4 * p)).lay with
    | .sd => 1
    | .pair => if w = 2 then 5 else if s.portClass p = 3 then 3 else 2
    | .ga => if w = 1 then 4 else if w = 8 then 7 else 6
  if s.on F.ALIGN_PORT_FMT_PID_SEEN p then (pidClass (s.rd F.ALIGN_PORT_PID_PID p)).getD plain else plain

/-- The structure of a signal whose strands of class `cls` show structure `q` (R92, R95). -/
def portStruct (cls q : Nat) : Nat :=
  match cls with
  | 3 => if q = 4 then 5 else 0
  | 4 => if q = 5 then 5 else 0
  | 5 | 6 => if q = 5 then 6 else 0
  | 7 => if q = 4 then 6 else 0
  | _ => q

/-- Complete frames that every strand of port `p` has stood locked, in one layout and structure. -/
def State.wholeFrames (s : State) (p : Nat) : Nat :=
  let x := s.strand (4 * p)
  ((List.range (s.portWidth p)).map fun k =>
    let y := s.strand (4 * p + k)
    if y.locked && decide ((y.lay, y.len, y.total, y.inter) = (x.lay, x.len, x.total, x.inter)) then y.age / Nat.max 1 x.total else 0).foldl
    Nat.min (x.age / Nat.max 1 x.total)

/-- The format detected for the frame that ended, whose lines last `clks` CORE clocks (R101): PORT_FMT, FMT_CHG, MISMATCH, and the run
of complete frames; a run that begins afresh takes the frames since the lock. -/
def State.judgeFormat (s : State) (p clks : Nat) : State :=
  let x := s.strand (4 * p)
  let cls := s.classSeen p
  let st := portStruct cls x.st
  let rt := if st = 0 then 0 else rateOf cls st x.len clks
  let pd := s.port p
  let old := (s.rd F.ALIGN_PORT_FMT_STRUCT p, s.rd F.ALIGN_PORT_FMT_RATE p, s.rd F.ALIGN_PORT_FMT_CLASS p)
  let new := (st, rt, cls)
  let s1 := (((s.wr F.ALIGN_PORT_FMT_STRUCT p st).wr F.ALIGN_PORT_FMT_RATE p rt).wr F.ALIGN_PORT_FMT_CLASS p cls).wr
    F.ALIGN_PORT_FMT_SQD p (b2n (s.on F.ALIGN_PORT_FMT_PID_SEEN p && Config.pidSqd (s.rd F.ALIGN_PORT_PID_PID p)))
  let s2 := s1.wr F.ALIGN_PORT_FMT_F1001 p (b2n (family1001 st rt))
  let s3 := if old.1 ≠ 0 ∧ old ≠ new then s2.wr F.ALIGN_PORT_STATUS_FMT_CHG p 1 else s2
  let bad := !(cls = s.portClass p && classFits st rt cls)
  let s4 := s3.wr F.ALIGN_PORT_STATUS_MISMATCH p (b2n bad)
  let s5 := if bad && !s.on F.ALIGN_PORT_STATUS_MISMATCH p then s4.wr F.ALIGN_PORT_STATUS_MISMATCH_EV p 1 else s4
  let n := s.wholeFrames p
  let run := if n = 0 then 0 else if pd.frames = 0 then n else if pd.cand = new then pd.frames + 1 else 1
  s5.setPort p { s5.port p with cand := new, frames := run }

/-- Every signal-carrying strand of port `p` is locked. -/
def State.allLocked (s : State) (p : Nat) : Bool :=
  (List.range (s.portWidth p)).all fun k => (s.strand (4 * p + k)).locked

/-- FMT_VALID as the conditions of R101 and R102 stand. -/
def State.fmtValidNow (s : State) (p : Nat) : Bool :=
  let c := (s.port p).cand
  s.allLocked p && decide (2 ≤ (s.port p).frames) && c.2.2 = s.portClass p && classFits c.1 c.2.1 c.2.2 && !s.pidFails p

/-- A frame of port `p` starts, dated at line 1 of its first strand (R101-R103, R107, R113). -/
def State.portFrame (s : State) (p clks : Nat) : State :=
  let s3 := (s.pidFrame p).judgeFormat p clks
  let s4 := s3.windowsStep p fun s r =>
    s.winFrame p r (s.rd F.ALIGN_PORT_FMT_STRUCT p = s.rStruct r && s.rd F.ALIGN_PORT_FMT_RATE p = s.rRate r)
  let was := s.on F.ALIGN_PORT_STATUS_FMT_VALID p
  let now := s4.fmtValidNow p
  let s5 := if was && !now then s4.portLost p
    else if now && !was then
      forEach (List.range 8) (fun r s => let w := s.winNow p r; s.setWin p r { w with inside := decide (2 ≤ w.run) })
        (s4.wr F.ALIGN_PORT_STATUS_FMT_VALID p 1)
    else s4
  ((s5.showOfs p).oowUpdate p).showReaders p

/-- The aligner of port `p` takes a line of strand slot `d`: 42,240 words for the strands of a port, those of both ports for 24G
(R111). -/
def State.alignStore (s : State) (p d : Nat) (l : AlLine) : State :=
  let words := if s.portClass p = 7 then 84480 else 42240
  { s with aligner := tput s.aligner d ((l :: tget s.aligner d []).take (words / s.portWidth p / Nat.max 1 l.words.length)) [] }

/-- The digest kept under `key` takes line `l` of a strand (R406). -/
def State.digest (s : State) (key : Nat) (lay : Lay) (q l : Nat) (bad : Bool) (ws : List Nat) : State :=
  { s with digs := tput s.digs key ((tget s.digs key {}).take q l bad (lineCrcBytes lay q l ws)) {} }

/-- ALIGN_OOW of port `p` again after a step that moved its window state on raster `r` away from that of `was` (R534). -/
def State.oowMoved (s was : State) (p r : Nat) : State :=
  if (s.winNow p r).inside != (was.winNow p r).inside then s.oowUpdate p else s

/-- One line of strand `k` of port `p`, slot `d`, at its dated instant (R100-R107). -/
def State.judgeLine (s : State) (p k d : Nat) (j : StrandLine) : State :=
  let ws := if s.slotFill d then j.words.map fun _ => 0 else j.words
  let t := lineTrs ws
  let x := s.strand d
  let s1 := s.judgeTrs p k d t
  let y := s1.strand d
  let s2 := if x.starts y then (s1.judgeSkew p k d).fabricPoint d else s1
  let s3 := if x.starts y && decide (k = 0) then s2.portFrame p j.clks else s2
  let f := y.facts t.isSome ws
  let s4 := s3.judgeWords p d j.clks f
  let s5 := match (if k = 0 then f.pid else none) with
    | some v => s4.judgePid p v
    | none => s4
  let s6 := (s5.alignStore p d { line := y.line, words := ws, crcBad := f.crcBad, at' := s.clk }).digest (8192 + d) (codeLay y.lay) y.st
    y.line false ws
  let s7 := if y.known then s6.windowsStep p fun s r => s.winLine p r k y.line else s6
  let r := s.rd F.ALIGN_PORT_CFG_RASTER p
  ((s7.oowMoved s6 p r).showReaders p).recCheck

end Sys2Proof.Machine
end

