-- ==== Sys2Proof/Machine/Spare.lean ====
section
/-! DEFINITION. Spare composition heads, recorders and players (R442-R444): which physical unit serves, and the move of a
number onto its spare. KIND is 0 HEAD, 1 RECORDER, 2 PLAYER. -/
namespace Sys2Proof.Machine

/-- The physical unit behind a number, and the one in a spare position. -/
def State.unitOf (s : State) (kind n : Nat) : Nat :=
  if kind = 0 then s.rd F.OCHRE_HEAD_STATUS_PHYS n else tget s.wear.units (kind * 256 + n) n
def State.spareUnit (s : State) (kind k : Nat) : Nat :=
  tget s.wear.units (kind * 256 + 128 + k) ((if kind = 0 then 96 else 128) + k)

/-- A unit is RETIRED, as OTP records it. -/
def State.unitRetired (s : State) (kind u : Nat) : Bool := s.wear.retired.contains (kind * 256 + u)

/-- WEAR_SPARES counts the spares that remain. -/
def State.sparesShow (s : State) : State :=
  let left := fun (kind n : Nat) => countIf (List.range n) fun k => !s.unitRetired kind (s.spareUnit kind k)
  ((s.wr F.WEAR_SPARES_HEADS 0 (left 0 4)).wr F.WEAR_SPARES_RECORDERS 0 (left 1 8)).wr F.WEAR_SPARES_PLAYERS 0 (left 2 8)

/-- The number moves onto its spare, and the old unit begins its spare test. -/
def State.spareMove (s : State) : State :=
  let w := s.wear
  let old := s.unitOf w.kind w.target
  let new := s.spareUnit w.kind w.spare
  let s1 := if w.kind = 0 then s.wr F.OCHRE_HEAD_STATUS_PHYS w.target new
    else { s with wear := { w with units := tins w.units (w.kind * 256 + w.target) new } }
  let pos := tins s1.wear.units (w.kind * 256 + 128 + w.spare) old
  ({ s1 with wear := { s1.wear with units := pos, step := 6, unit := old, since := (s.pos 0).frame } }).wr
    F.WEAR_SUBST_STATUS_STATE 0 6

/-- A recorder or player begins its next frame, or ends: the spare that waits for it takes it. -/
def State.spareTake (s : State) (kind n : Nat) : State :=
  if s.wear.step = 1 ∧ s.wear.kind = kind ∧ s.wear.target = n then s.spareMove else s

end Sys2Proof.Machine
end

