-- ==== Sys2Proof/Machine/Xpt.lean ====
section
/-! DEFINITION. The crosspoint tables (chapter 5): staging, route checks, commits, locks and plane substitution; and what a raster's
start and stop change in them. -/
namespace Sys2Proof.Machine

/-! ### Table entries (Table 5-3) -/

/-- Bits [31:0] of an entry with its lock. -/
def xLow (e : XEnt) (lock : Bool) : Nat :=
  e.src % 8192 + 8192 * b2n e.routed + 2 ^ 14 * (e.width % 4) + 2 ^ 16 * (e.loss % 4) + 2 ^ 18 * (e.gen % 64)
    + 2 ^ 24 * b2n e.oow + 2 ^ 25 * b2n lock

/-- The entry a write of bits [31:0] gives: a reserved LOSS keeps its old value (R125). -/
def xOfLow (w : Nat) (old : XEnt) : XEnt :=
  { src := bits w 0 13, routed := bit w 13, width := bits w 14 2
    loss := if bits w 16 2 = 3 then old.loss else bits w 16 2, gen := bits w 18 6, oow := bit w 24 }

/-- Bits [63:32] of a shadow entry. -/
def xHigh (e : XShadow) : Nat :=
  e.stager % 8 + 8 * b2n e.staged + 16 * b2n e.pending + 65536 * (if e.pending then e.cid % 65536 else 0)

/-! ### Route checks (Table 5-4) -/

/-- The checks of a destination group for `master`; `held` says whether entries it has staged may be PENDING or not. -/
def State.dstFails (s : State) (d w : Nat) : List (Bool × Nat) :=
  let ms := (List.range w).map (· + d)
  let past := match dstEnd d with
    | some e => decide (e < d + w)
    | none => true
  let wide := match (s.dstOwner d).width with
    | some x => decide (x ≠ w)
    | none => decide (w = 8)
  [(past, Rc.dstRange), (decide (d % w ≠ 0), Rc.alignment), (wide, Rc.width),
   (ms.any fun m => (s.dstOwner m).dead, Rc.deadSlot), (ms.any fun m => s.xlocked m, Rc.locked)]

/-- The checks on what is staged already (Table 5-4). -/
def State.heldFails (s : State) (d w master : Nat) : List (Bool × Nat) :=
  let ms := (List.range w).map (· + d)
  [(ms.any fun m => (s.xs m).staged && decide ((s.xs m).stager ≠ master), Rc.conflict),
   (ms.any fun m => (s.xs m).pending, Rc.pending)]

/-- The checks of a source group against its destination. -/
def State.srcFails (s : State) (x w d : Nat) : List (Bool × Nat) :=
  if isGen x then []
  else
    let past := match srcEnd x with
      | some e => decide (e < x + w)
      | none => true
    let wide := match (s.srcOwner x).width with
      | some y => decide (y ≠ w)
      | none => false
    let fam := match (s.srcOwner x).fam, (s.dstOwner d).fam with
      | some a, some b => decide (a ≠ b)
      | _, _ => false
    [(past, Rc.srcRange), (decide (x % w ≠ 0), Rc.alignment), (wide, Rc.width), (fam, Rc.family),
     (((List.range w).map (· + x)).any fun m => (s.srcOwner m).dead, Rc.deadSlot)]

/-- The code of staging a route for `master` (R126, R197); `unroute` leaves the source out. -/
def State.stageCode (s : State) (master d x w : Nat) (unroute : Bool) : Nat :=
  firstFail (s.dstFails d w ++ s.heldFails d w master ++ (if unroute then [] else s.srcFails x w d))

/-! ### Staging (R125) -/

/-- Store one member entry for `master`: STAGED unless it equals the active entry. -/
def State.stageEnt (s : State) (master d : Nat) (e : XEnt) : State :=
  s.setXs d { ent := e, stager := master, staged := decide (e ≠ s.xa d) }

/-- Stage the W member entries of a route (R124). -/
def State.stageRoute (s : State) (master d x w : Nat) (e : XEnt) : State :=
  forEach (List.range w) (fun i s =>
    s.stageEnt master (d + i) (if e.routed then { e with src := if isGen x then x else x + i } else { e with src := 0 })) s

/-- An entry as the shadow table shows it (R125): the staged value, or the active one. -/
def State.xShown (s : State) (d : Nat) : XEnt :=
  if (s.xs d).staged || (s.xs d).pending then (s.xs d).ent else s.xa d

/-- A host write of bits [31:0] of shadow entry `d`; the high word holds no writable field (R125). -/
def State.shadowWrite (d : Nat) (hi : Bool) (w : Nat) (s : State) : State :=
  if hi then s
  else if firstFail ((s.xlocked d, Rc.locked) :: s.heldFails d 1 7) = 0 then s.stageEnt 7 d (xOfLow w (s.xShown d))
  else s.event F.XPT_EVENT_STAGE_REFUSED 0 Irq.xpt

/-- SHADOW_XPT_WRITE. -/
def execShadowXptWrite (d : Fin 8192) (hi : Bool) (w : Word) (s : State) : Host.Outcome State Fault Refusal :=
  ok (s.hostWriteWin true 2 (0x10000 + 8 * d.val + (if hi then 4 else 0)) w.toNat (State.shadowWrite d.val hi w.toNat))

/-- Unstage entry `d`: it returns to its active value. -/
def State.unstage (d : Nat) (s : State) : State := s.setXs d {}

/-- Unstage every crosspoint entry of a master that is not PENDING (R156, XPT_COMMIT_CTRL DISCARD). -/
def State.unstageXpt (s : State) (master : Nat) : State :=
  forEach ((s.xShadow.filter fun e => e.2.staged && !e.2.pending && e.2.stager = master).map (·.1)) (fun d s => s.unstage d) s

/-! ### Commits (R128-R131) -/

/-- The destination slots a commit of `master` captures: STAGED by it and not PENDING. -/
def State.captured (s : State) (master : Nat) : List Nat :=
  (s.xShadow.filter fun e => e.2.staged && !e.2.pending && e.2.stager = master).map (·.1)

/-- Entry `d` as it will stand after a commit of the captured slots. -/
def State.xResult (s : State) (cap : List Nat) (d : Nat) : XEnt := if cap.contains d then (s.xs d).ent else s.xa d

/-- The members of the group of entry `e` at destination `d`. -/
def members (d : Nat) (e : XEnt) : List Nat :=
  let w := widthOf e.width
  (List.range w).map (· + (d - d % w))

/-- R124: the group of captured entry `d` would not hold together, or part of its old group would stay routed. -/
def State.groupBad (s : State) (cap : List Nat) (d : Nat) : Bool :=
  let e := (s.xs d).ent
  let base := d - d % widthOf e.width
  let e0 := s.xResult cap base
  let newBad := (members d e).any fun m =>
    let x := s.xResult cap m
    decide (x.routed ≠ e.routed) || (e.routed &&
      decide ((x.width, x.loss, x.gen, x.oow) ≠ (e.width, e.loss, e.gen, e.oow) ∨
        x.src ≠ if isGen e0.src then e0.src else e0.src + (m - base)))
  let old := s.xa d
  let oldBad := old.routed && (members d old).any fun m => !cap.contains m && (s.xa m).routed
  newBad || oldBad

/-- The code of the group of captured entry `d` at a commit (R126). -/
def State.groupCode (s : State) (master : Nat) (cap : List Nat) (d : Nat) : Nat :=
  let e := (s.xs d).ent
  let w := widthOf e.width
  let base := d - d % w
  firstFail ((s.groupBad cap d, Rc.group) :: (s.dstFails base w ++ s.heldFails base w master ++
    (if e.routed then s.srcFails (s.xResult cap base).src w base else [])))

/-- The raster captured destination `d` takes its change on; a recorder's is the one the commit names (log 13). -/
def State.commitRaster (s : State) (named d : Nat) : Option Nat := if isRec d then some named else s.dstRaster d

/-- Captured destinations that lie on a disabled raster (Table 5-4, TARGET), by first slot of their group. -/
def State.badRasters (s : State) (named : Nat) (cap : List Nat) : List Nat :=
  (cap.filter fun d => match s.commitRaster named d with
    | some r => !s.enabled r
    | none => true).map fun d => d - d % widthOf (s.xs d).ent.width

/-- Commits by engines run on a standby too, as the mirror brings them (Table 1-4); a standby's own host is refused before. -/
def State.commitsOk (s : State) : Bool := s.commitMode || s.mode = Mode.standby

/-- The first of a list, then the least. -/
def least (l : List Nat) : Nat := l.foldl (fun a x => if x < a then x else a) (l.headD 0)

/-- The result of a commit of `master` on raster `r` to line `line` (R128, R180): the lowest failing code, and the failing
destination slot where the code names one. -/
def State.commitCode (s : State) (master r line : Nat) : Nat × Option Nat :=
  let cap := s.captured master
  let groups := cap.map fun d => (d - d % widthOf (s.xs d).ent.width, s.groupCode master cap d)
  let fails := groups.filter fun g => decide (g.2 ≠ 0)
  let gcode := firstFail (fails.map fun g => (true, g.2))
  let bad := s.badRasters r cap
  let code := firstFail [(decide (gcode ≠ 0), gcode), (!s.commitsOk, Rc.mode), (decide (8 ≤ s.xCommits.length), Rc.queueFull),
    (cap.isEmpty, Rc.nothing), (!s.enabled r || !s.lineOk r line || !bad.isEmpty, Rc.target)]
  if code = 0 then (0, none)
  else if code ≤ Rc.group then (code, some (least ((fails.filter fun g => decide (g.2 = code)).map (·.1))))
  else if code = Rc.target ∧ !bad.isEmpty then (code, some (least bad))
  else (code, none)

/-- The next crosspoint COMMIT_ID: a series of 16-bit numbers whose start is a free value. -/
def State.nextCid (s : State) : Nat := (Config.xptSeries + s.xNext) % 65536

/-- Where a commit takes effect (R129): on its named raster, and on each other raster that holds captured destinations. -/
def State.commitEffects (s : State) (r : Nat) (target : Pos) (cap : List Nat) : List Effect :=
  let named := s.switchNamed r target
  let on := (List.range 8).filter fun q => cap.any fun d => s.commitRaster r d = some q
  on.map fun q =>
    let c := if q = r then named else s.switchOther q r named.1 named.2
    { raster := q, frame := c.1, line := c.2, offs := (s.raster q).offs }

/-- Accept a commit (R128): captured entries PENDING with the new COMMIT_ID, the effect of each raster fixed. -/
def State.acceptXpt (s : State) (master r : Nat) (target : Pos) : State × Nat :=
  let cap := s.captured master
  let cid := s.nextCid
  let c : XCommit := { cid := cid, master := master, named := r, dests := cap, effects := s.commitEffects r target cap }
  let s1 := forEach cap (fun d s => s.setXs d { s.xs d with pending := true, cid := cid }) s
  ({ s1 with xCommits := s1.xCommits ++ [c], xNext := s1.xNext + 1, xLast := tins s1.xLast master c }, cid)

/-- The first sample that shows the change on the named raster (R199). -/
def State.shownAt (s : State) (r : Nat) (c : Nat × Nat) : Pos :=
  if c.2 + 1 ≤ s.rLines r then ⟨c.1, c.2 + 1, 0⟩ else ⟨c.1 + 1, 1, 0⟩

/-- Bits of the rasters of a list of effects. -/
def rasterMask (l : List Effect) : Nat := l.foldl (fun a e => withBit a e.raster true) 0

/-- Report an accepted host commit (XPT_COMMIT_STATUS, XPT_COMMIT_FRAME). -/
def State.hostCommitAccepted (s : State) (cid : Nat) (es : List Effect) : State :=
  let s1 := (((s.wr F.XPT_COMMIT_STATUS_COMMIT_ID 0 cid).wr F.XPT_COMMIT_STATUS_STATE 0 1).wr
    F.XPT_COMMIT_STATUS_RESULT 0 0).wr F.XPT_COMMIT_STATUS_BAD_DEST 0 0
  let s2 := (s1.wr F.XPT_COMMIT_STATUS_RASTERS 0 (rasterMask es)).wr F.XPT_COMMIT_STATUS_APPLIED 0 0
  es.foldl (fun s e => s.wr64 F.XPT_COMMIT_FRAME_FRAME_LO F.XPT_COMMIT_FRAME_FRAME_HI e.raster e.frame) s2

/-- Report a refused host commit. -/
def State.hostCommitRefused (s : State) (code : Nat) (bad : Option Nat) : State :=
  let s1 := (((s.wr F.XPT_COMMIT_STATUS_COMMIT_ID 0 0).wr F.XPT_COMMIT_STATUS_STATE 0 3).wr
    F.XPT_COMMIT_STATUS_RESULT 0 code).wr F.XPT_COMMIT_STATUS_BAD_DEST 0 (bad.getD 0)
  ((s1.wr F.XPT_COMMIT_STATUS_RASTERS 0 0).wr F.XPT_COMMIT_STATUS_APPLIED 0 0).event F.XPT_EVENT_COMMIT_REFUSED 0 Irq.xpt

/-- The host's target position. -/
def State.hostTarget (s : State) : Pos :=
  let r := s.rd F.XPT_COMMIT_CTRL_RASTER 0
  s.commitTarget r (s.on F.XPT_COMMIT_CTRL_STYLE 0) (s.rd64 F.XPT_COMMIT_TGT_FRAME_LO F.XPT_COMMIT_TGT_FRAME_HI 0)
    (s.rd F.XPT_COMMIT_TGT_LINE 0) 0

/-- A host GO (R128). -/
def State.hostXptCommit (s : State) : State :=
  let r := s.rd F.XPT_COMMIT_CTRL_RASTER 0
  let t := s.hostTarget
  let code := s.commitCode 7 r t.line
  if code.1 = 0 then
    let a := s.acceptXpt 7 r t
    a.1.hostCommitAccepted a.2 (s.commitEffects r t (s.captured 7))
  else s.hostCommitRefused code.1 code.2

/-- A write of XPT_COMMIT_CTRL: GO, then DISCARD of what GO did not capture. -/
def State.xptCtrl (w : Nat) (s : State) : State :=
  let s1 := (s.wr F.XPT_COMMIT_CTRL_RASTER 0 (bits w 4 3)).wr F.XPT_COMMIT_CTRL_STYLE 0 (bits w 7 1)
  let s2 := if bit w 0 then s1.hostXptCommit else s1
  if bit w 1 then s2.unstageXpt 7 else s2

/-- XPT_COMMIT_GO: a write with GO set. -/
def execXptCommitGo (w : Word) (s : State) : Host.Outcome State Fault Refusal :=
  ok (s.hostWriteSet 0x40010 w.toNat 1 State.xptCtrl)

/-- XPT_COMMIT_DISCARD: a write with DISCARD set. -/
def execXptCommitDiscard (w : Word) (s : State) : Host.Outcome State Fault Refusal :=
  ok (s.hostWriteSet 0x40010 w.toNat 2 State.xptCtrl)

/-! ### Effects (R129-R131) -/

/-- The destination is an opaque strand (R369). -/
def State.isOpaque (s : State) (d : Nat) : Bool :=
  match s.flowOfSlot d 1 with
  | some i => s.fType i = 5
  | none => false

/-- An opaque strand's entry changes at its switching point (R370): one with no packet source falls silent at once; a new source
waits for its frame boundary, and for the old one's if it forwards one. -/
def State.opaqueMove (d : Nat) (e : XEnt) (s : State) : State :=
  let o := tget s.opaques d {}
  let put := fun (o : Opaque) => { s with opaques := tput s.opaques d o {} }
  if !s.isOpaque d then s
  else if e.routed = false ∨ isGen e.src then put {}
  else if o.src = some e.src then put { o with nxt := none }
  else put { o with nxt := some e.src, switchAt := s.clk, oldMark := o.src.isNone, newMark := false }

/-- Copy captured entry `d` into the active table; a recorder whose route changes gives up its frame (R130, R238):
its group's first slot tells. -/
def State.applyEnt (d : Nat) (s : State) : State :=
  let e := (s.xs d).ent
  let s1 := if isRec d ∧ d % 4 = 0 ∧ e ≠ s.xa d then s.recAbandon ((d - 5760) / 4) else s
  ((s1.opaqueMove d e).setXa d e).setXs d {}

/-- Change commit `cid` where it stands. -/
def State.mapCommit (s : State) (cid : Nat) (f : XCommit → XCommit) : State :=
  { s with xCommits := s.xCommits.map fun c => if c.cid = cid then f c else c
           xLast := s.xLast.map fun e => if e.2.cid = cid then (e.1, f e.2) else e }

/-- Record the fate of a commit's effect on raster `r`. -/
def setFate (r fate : Nat) (c : XCommit) : XCommit :=
  { c with effects := c.effects.map fun e => if e.raster = r then { e with fate := fate } else e }

/-- The captured destinations a commit changes on raster `r`. -/
def State.commitDests (s : State) (c : XCommit) (r : Nat) : List Nat :=
  c.dests.filter fun d => (s.xs d).pending && (s.xs d).cid = c.cid && s.commitRaster c.named d = some r

/-- Discard a commit's entries on raster `r` (R131), and the audio commits joined to it there (R204). -/
def State.discardOn (s : State) (c : XCommit) (r : Nat) : State :=
  let s1 := forEach (s.commitDests c r) (fun d s => s.unstage d) s
  let mark := fun (a : ACommit) =>
    if a.joined = some c.cid ∧ a.master = c.master ∧ a.raster = r then { a with gone := true } else a
  { s1.mapCommit c.cid (setFate r 2) with aud := { s1.aud with commits := s1.aud.commits.map mark } }

/-- Take a commit's effect on raster `r` (R130): every group it touches is judged afresh at the switching point. -/
def State.applyOn (s : State) (c : XCommit) (r : Nat) : State :=
  let ds := s.commitDests c r
  let s1 := (forEach ds (fun d s => s.applyEnt d) s).addWrap F.XPT_ACTIVE_GEN_GEN 0 1
  (forEach ds (fun d s => s.settleDest d) s1).mapCommit c.cid (setFate r 1)

/-- A commit whose every raster is settled leaves the queue and is reported (R130, R131, R200). -/
def State.finishXpt (s : State) (cid : Nat) : State :=
  match s.xCommits.find? (fun c => c.cid = cid) with
  | none => s
  | some c =>
    if c.effects.any fun e => e.fate = 0 then s
    else
      let lost := c.effects.any fun e => e.fate = 2
      let s1 := { s with xCommits := s.xCommits.filter fun c => decide (c.cid ≠ cid) }
      if c.master = 7 then
        let s2 := if s1.rd F.XPT_COMMIT_STATUS_COMMIT_ID 0 = cid ∧ s1.rd F.XPT_COMMIT_STATUS_STATE 0 = 1 then
            s1.wr F.XPT_COMMIT_STATUS_STATE 0 (if lost then 4 else 2) else s1
        s2.event F.XPT_EVENT_COMMIT_DONE 0 Irq.xpt
      else s1.engEvent c.master 8

/-- The effect of a commit that waits on raster `r`. -/
def waitsOn (c : XCommit) (r : Nat) : Option Effect := c.effects.find? fun e => e.raster = r ∧ e.fate = 0

/-- The switching line of an effect has been reached on the egress timeline. -/
def State.effectDue (s : State) (e : Effect) : Bool := Pos.le ⟨e.frame, e.line, 0⟩ (s.egress e.raster)

/-- The effect is discarded: the device is in SAFE, or the raster has been disabled since acceptance (R131). -/
def State.effectLost (s : State) (e : Effect) : Bool :=
  s.mode = Mode.safe || !s.enabled e.raster || decide ((s.raster e.raster).offs ≠ e.offs)

/-- The first commit in order of acceptance that is due, or lost, on raster `r` (R130). -/
def State.nextEffect (s : State) (r : Nat) : Option (XCommit × Effect) :=
  (s.xCommits.filterMap fun c => (waitsOn c r).map fun e => (c, e)).find? fun p =>
    s.effectDue p.2 || !s.enabled r || decide ((s.raster r).offs ≠ p.2.offs)

/-- At a switch line of raster `r`, the first commit due there takes effect or is discarded. -/
def State.xptEffect (r : Nat) (s : State) : State :=
  match s.nextEffect r with
  | none => s
  | some (c, e) =>
    if s.effectLost e then (s.discardOn c r).finishXpt c.cid
    else
      let s1 := s.applyOn c r
      let s2 := if c.master = 7 ∧ s1.rd F.XPT_COMMIT_STATUS_COMMIT_ID 0 = c.cid then
          s1.wr F.XPT_COMMIT_STATUS_APPLIED 0 (withBit (s1.rd F.XPT_COMMIT_STATUS_APPLIED 0) r true) else s1
      s2.finishXpt c.cid

/-- COMMIT_TAKE_EFFECT. -/
def execCommitTakeEffect (r : Fin 8) (s : State) : Host.Outcome State Fault Refusal := ok (s.xptEffect r.val)

/-- Every commit that has not taken effect is discarded on its remaining rasters (R131, a warm reset). -/
def State.discardCommits (s : State) : State :=
  s.xCommits.foldl (fun s c =>
    (c.effects.foldl (fun s e => if e.fate = 0 then s.discardOn c e.raster else s) s).finishXpt c.cid) s

/-! ### Locks (R133) -/

/-- The code of a lock request (R202): the width must be the group's own, or 1, 2 or 4 where the owner takes any. -/
def State.lockCode (s : State) (d w : Nat) (lock : Bool) : Nat :=
  let busy := ((List.range w).map (· + d)).any fun m => (s.xs m).staged || (s.xs m).pending
  firstFail ((s.dstFails d w).take 3 ++ [(lock && busy, Rc.lockBusy)])

/-- Lock or unlock the group. -/
def State.lockGroup (s : State) (d w : Nat) (lock : Bool) : State :=
  forEach ((List.range w).map (· + d)) (fun m s =>
    let s1 := s.setXlock m lock
    if m < 6336 then s1.wr F.XPT_DEST_STATUS_LOCKED m (b2n lock) else s1) s

/-- A write of XPT_LOCK. -/
def State.xptLock (w : Nat) (s : State) : State :=
  let s1 := ((s.wr F.XPT_LOCK_DEST 0 (bits w 0 13)).wr F.XPT_LOCK_WIDTH 0 (bits w 16 2)).wr F.XPT_LOCK_LOCK 0 (bits w 18 1)
  if !bit w 31 then s1
  else if s1.lockCode (bits w 0 13) (widthOf (bits w 16 2)) (bit w 18) = 0 then
    s1.lockGroup (bits w 0 13) (widthOf (bits w 16 2)) (bit w 18)
  else s1.event F.XPT_EVENT_LOCK_REFUSED 0 Irq.xpt

/-- XPT_LOCK_REQUEST: a write with GO set. -/
def execXptLockRequest (w : Word) (s : State) : Host.Outcome State Fault Refusal :=
  ok (s.hostWriteSet 0x40030 w.toNat 0x80000000 State.xptLock)

/-! ### Planes and plane substitution (R121, R122, R140, R141) -/

/-- STEP of the journal. -/
def State.psubStep (s : State) : Nat := s.rd F.XPT_PSUB_JOURNAL_STEP 0
def State.psubSpare (s : State) : Nat := s.rd F.XPT_PSUB_JOURNAL_SPARE 0

/-- The substitution changes step. -/
def State.psubTo (s : State) (step : Nat) : State :=
  { s.wr F.XPT_PSUB_JOURNAL_STEP 0 step with psubFrame := (s.pos 0).frame }.event F.XPT_EVENT_PSUB_STEP 0 Irq.xpt

/-- The plane that stands SPARE. -/
def State.sparePlane (s : State) : Option Nat := (List.range 9).find? fun k => s.rd F.XPT_PLANE_STATUS_STATE k = 1

/-- The substitution is ABANDONED (R140): before the switch the spare stands by again; after it the essence has moved and
the spare is kept in service. The grant is returned. -/
def State.psubAbandon (s : State) (reason : Nat) : State :=
  let sp := s.psubSpare
  let j := s.rd F.XPT_PSUB_JOURNAL_LOGICAL 0
  let moved := decide (3 ≤ s.psubStep)
  let s1 := if moved then ((s.wr F.XPT_PLANE_MAP_PHYS j sp).wr F.XPT_PLANE_STATUS_STATE sp 0).wr F.WEAR_SPARES_PLANE 0 0
    else s.wr F.XPT_PLANE_STATUS_STATE sp 1
  ((s1.wr F.XPT_PSUB_JOURNAL_REASON 0 reason).psubTo 6).returnGrant Gc.psub j

/-- START (R140). -/
def State.psubStart (s : State) : State :=
  let j := s.rd F.XPT_PSUB_CTRL_LOGICAL 0
  match s.sparePlane with
  | some sp =>
    if s.grantOk (s.rd F.XPT_PSUB_CTRL_GRANT 0) Gc.psub j then
      let s1 := ((s.wr F.XPT_PSUB_JOURNAL_LOGICAL 0 j).wr F.XPT_PSUB_JOURNAL_OLD 0 (s.rd F.XPT_PLANE_MAP_PHYS j)).wr
        F.XPT_PSUB_JOURNAL_SPARE 0 sp
      let s2 := (((s1.wr F.XPT_PSUB_JOURNAL_RASTERS_DONE 0 0).wr F.XPT_PSUB_JOURNAL_REASON 0 0).wr
        F.XPT_PSUB_JOURNAL_FRAMES_DONE 0 0).wr F.XPT_PSUB_JOURNAL_MISMATCH_CNT 0 0
      (s2.wr F.XPT_PLANE_STATUS_STATE sp 2).psubTo 1
    else s.event F.XPT_EVENT_PSUB_REFUSED 0 Irq.xpt
  | none => s.event F.XPT_EVENT_PSUB_REFUSED 0 Irq.xpt

/-- A write of XPT_PSUB_CTRL: ABORT, accepted before SWITCH_BEGUN only, then START. -/
def State.psubCtrl (w : Nat) (s : State) : State :=
  let s1 := (s.wr F.XPT_PSUB_CTRL_LOGICAL 0 (bits w 4 3)).wr F.XPT_PSUB_CTRL_GRANT 0 (bits w 16 16)
  let s2 := if bit w 1 && decide (s1.psubStep = 1 ∨ s1.psubStep = 2) then s1.psubAbandon 0 else s1
  if bit w 0 then s2.psubStart else s2

/-- PSUB_START: a write with START set. -/
def execPsubStart (w : Word) (s : State) : Host.Outcome State Fault Refusal :=
  ok (s.hostWriteSet 0x40140 w.toNat 1 State.psubCtrl)

/-- PSUB_ABORT: a write with ABORT set. -/
def execPsubAbort (w : Word) (s : State) : Host.Outcome State Fault Refusal :=
  ok (s.hostWriteSet 0x40140 w.toNat 2 State.psubCtrl)

/-- PSUB_LOAD_DONE: the next frame start of raster 0 (Table 5-7 step 1). -/
def execPsubLoadDone (s : State) : Host.Outcome State Fault Refusal :=
  ok (if s.psubStep = 1 ∧ s.psubFrame < (s.pos 0).frame then
    (s.wr F.XPT_PLANE_STATUS_STATE s.psubSpare 3).psubTo 2 else s)

/-- Rasters that have moved; the switch is complete when every enabled one has. -/
def State.psubMove (r : Nat) (s : State) : State :=
  let m := withBit (s.rd F.XPT_PSUB_JOURNAL_RASTERS_DONE 0) r true
  let s1 := s.wr F.XPT_PSUB_JOURNAL_RASTERS_DONE 0 m
  if (List.range 8).all fun q => !s.enabled q || bit m q then s1.psubTo 4 else s1

/-- PSUB_COMPARE_DONE: 64 clean frames have passed and raster 0 stands on its switch line: SWITCH_BEGUN, and raster 0 moves
(step 3). -/
def execPsubCompareDone (s : State) : Host.Outcome State Fault Refusal :=
  ok (if s.psubStep = 2 ∧ s.psubFrame + 64 ≤ (s.pos 0).frame ∧ s.atSwitch 0 then
    (((s.wr F.XPT_PSUB_JOURNAL_FRAMES_DONE 0 64).psubTo 3).wr64 F.XPT_PSUB_JOURNAL_SW_FRAME_LO F.XPT_PSUB_JOURNAL_SW_FRAME_HI 0
      (s.pos 0).frame).psubMove 0
  else s)

/-- PSUB_RASTER_MOVE: raster `r` stands on its switch line after SWITCH_BEGUN. -/
def execPsubRasterMove (r : Fin 8) (s : State) : Host.Outcome State Fault Refusal :=
  ok (if s.psubStep = 3 ∧ s.atSwitch r.val ∧ !bit (s.rd F.XPT_PSUB_JOURNAL_RASTERS_DONE 0) r.val then s.psubMove r.val else s)

/-- PSUB_SWITCHED_DONE: one full frame of raster 0 has run on the spare without a mismatch (steps 4, 5): the old plane is
retired and fused, the map updated, the grant returned. -/
def execPsubSwitchedDone (s : State) : Host.Outcome State Fault Refusal :=
  let j := s.rd F.XPT_PSUB_JOURNAL_LOGICAL 0
  ok (if s.psubStep = 4 ∧ s.psubFrame + 2 ≤ (s.pos 0).frame then
    let s1 := (s.wr F.XPT_PLANE_STATUS_STATE (s.rd F.XPT_PSUB_JOURNAL_OLD 0) 4).wr F.XPT_PLANE_STATUS_STATE s.psubSpare 0
    (((s1.wr F.XPT_PLANE_MAP_PHYS j s.psubSpare).wr F.WEAR_SPARES_PLANE 0 0).psubTo 5).returnGrant Gc.psub j
  else s)

/-- The physical plane that forwards destination `d` now. -/
def State.planeOf (s : State) (d : Nat) : Nat :=
  let moved : Bool := match s.dstRaster d with
    | some r => bit (s.rd F.XPT_PSUB_JOURNAL_RASTERS_DONE 0) r
    | none => true
  if d % 8 = s.rd F.XPT_PSUB_JOURNAL_LOGICAL 0 ∧ (s.psubStep = 3 ∨ s.psubStep = 4) ∧ moved = true then s.psubSpare
  else s.rd F.XPT_PLANE_MAP_PHYS (d % 8)

/-- A checksum mismatch on physical plane `k` (R122). -/
def State.planeErr (s : State) (k : Nat) : State := (s.incSat F.XPT_PLANE_STATUS_ERR_CNT k).faultEvent (Src.xpt k) false

/-- What follows of raster `n` started or stopped: the offsets and windows of the ports measured against it (R107, R534), the
destinations on it (R535), and a switch that waited for it alone (R140). -/
def State.rasterDone (n : Nat) (s : State) : State :=
  let ps := (List.range 1152).filter fun p => s.on F.ALIGN_PORT_STATUS_FMT_VALID p && s.rd F.ALIGN_PORT_CFG_RASTER p = n
  let s1 := (forEach ps (fun p s => (s.showOfs p).oowUpdate p) s).showRaster n
  let m := s1.rd F.XPT_PSUB_JOURNAL_RASTERS_DONE 0
  if s1.psubStep = 3 ∧ ((List.range 8).all fun q => !s1.enabled q || bit m q) = true then s1.psubTo 4 else s1

/-- A write to SLATE_RASTER_CFG[n]. -/
def State.rasterCfg (n w : Nat) (s : State) : State :=
  let t := s.rasterSet n w
  if t.enabled n = s.enabled n then t else t.rasterDone n

/-- RASTER_CFG_WRITE. -/
def execRasterCfgWrite (n : Fin 8) (w : Word) (s : State) : Host.Outcome State Fault Refusal :=
  ok (s.hostWrite (0x10200 + 0x40 * n.val) w.toNat (State.rasterCfg n.val w.toNat))

end Sys2Proof.Machine
end

