-- ==== Sys2Proof/Machine/Sable.lean ====
section
/-! DEFINITION. The frame store (chapter 8): expander ports, pages and placement, buffers, recorders, players, the host
windows, leases and releases. -/
namespace Sys2Proof.Machine

/-! ### Formats in store (R228, R229, Table 8-2) -/

/-- The line structure of a strand of a format: the sub-image's for 2160p (R228). -/
def strandStruct (st : Nat) : Nat := if st = 6 then 5 else st

/-- Lines of the strand-frame. -/
def strandLines (st : Nat) : Nat := totalLines (strandStruct st)

/-- The strand carries two data-stream pairs (PAIR layout); the rates of 50 and above are 3GA. -/
def storePair (st rate : Nat) : Bool := match st with
  | 3 => true | 4 => true | 5 => decide (rate ≤ 4) | 6 => decide (rate ≤ 4) | _ => false

/-- Active line ranges of a strand structure (Table 2-1). -/
def activeRanges (st : Nat) : List (Nat × Nat) := match st with
  | 1 => [(21, 262), (283, 525)] | 2 => [(23, 310), (336, 623)] | 3 => [(26, 745)]
  | 4 => [(21, 560), (584, 1123)] | 5 => [(42, 1121)] | _ => []

/-- Bytes of one active line in store (Table 8-2). -/
def lineBytes (st rate : Nat) : Nat := match st with
  | 1 => 1800 | 2 => 1800 | 3 => 6400 | 4 => 9600 | _ => if storePair st rate then 9600 else 4800

/-- How many active lines of a structure lie before line `l`; none where line `l` is not active. -/
def activeIndex (st l : Nat) : Option Nat :=
  (activeRanges (strandStruct st)).foldl (fun a r => match a with
    | (some i, _) => (some i, 0)
    | (none, n) => if r.1 ≤ l ∧ l ≤ r.2 then (some (n + l - r.1), 0) else (none, n + (r.2 + 1 - r.1))) (none, 0) |>.1

/-- Active and ancillary area of a strand-frame in bytes, and the whole with its header (Table 8-2). -/
def activeBytes (st rate : Nat) : Nat :=
  ((activeRanges (strandStruct st)).map fun r => r.2 + 1 - r.1).foldl (· + ·) 0 * lineBytes st rate
def ancBytes (st rate : Nat) : Nat := 128 * strandLines st * (if storePair st rate then 2 else 1)
def strandBytes (st rate : Nat) : Nat := 64 + activeBytes st rate + ancBytes st rate

/-- Slot units U of a format; 0 where Table 8-2 has none. DESIGN CHOICE (log 137): a request names no layout (Table 7-7), so 1080p at
50-60 takes the 3GA row; a level B frame in such a buffer has the ancillary bytes its slot leaves. -/
def slotUnits (st rate : Nat) : Nat :=
  if rateOk st rate && decide (rate ≤ 7) then ceilDiv (strandBytes st rate) 65536 else 0

/-- The demand of a recorder or player in B/s, rounded up (R249). -/
def storeDemand (w st rate : Nat) : Nat :=
  let d := w * strandBytes st rate * nominalRate rate
  if fractional rate then ceilDiv (d * 1000) 1001 else d

/-! ### Ports and pages (R222-R227, R248, R249) -/

/-- The port holds memory in service. -/
def State.portUp (s : State) (c : Nat) : Bool := s.rd F.CXLP_PORT_STATUS_STATE c = 2 || s.rd F.CXLP_PORT_STATUS_STATE c = 3

/-- Page `g` of a port lies in a MARKED region; 128 pages of 2 MiB make a region of 256 MiB. -/
def CxlPort.bad (x : CxlPort) (g : Nat) : Bool := x.marked.contains (g / 128)

/-- The ordinary pages: all but the reserve, which holds the highest-numbered ones (DESIGN CHOICE, log 17). -/
def CxlPort.ordinary (x : CxlPort) : Nat := x.total - x.reserve

/-- Ordinary pages in MARKED regions. -/
def CxlPort.badPages (x : CxlPort) : Nat :=
  (x.marked.map fun g => Nat.min (128 * g + 128) x.ordinary - 128 * g).foldl (· + ·) 0

/-- Pages allocation can use in all, and those of them still free. -/
def CxlPort.usable (x : CxlPort) : Nat := x.ordinary - x.badPages
def CxlPort.free (x : CxlPort) : Nat := x.usable - countIf x.used (fun g => !x.bad g)

/-- A free healthy page; the device's own choice, so the search starts at a free value `d`. -/
def CxlPort.pick (x : CxlPort) (d : Nat) : Option Nat :=
  ((List.range (x.used.length + 128 * x.marked.length + 1)).map fun i => (d + i) % Nat.max 1 x.ordinary).find? fun g =>
    decide (g < x.ordinary) && !x.bad g && !x.used.contains g

/-- Weight of port `c` for placement: the placement loop's, even striping before its first pass; 0 out of service (R225). -/
def State.weight (s : State) (c : Nat) : Nat :=
  if !s.portUp c then 0 else if s.sable.looped then (s.cxl c).weight else 1

/-- Capacity of a trained link in half GB/s, each direction (Table 8-8). -/
def linkHalf (speed width : Nat) : Nat :=
  if speed = 2 then (if width = 16 then 220 else if width = 8 then 110 else 0)
  else if speed = 1 then (if width = 16 then 110 else if width = 8 then 55 else 0) else 0

/-- Client demand in B/s (writes, reads): running recorders and players, audio blocks and committed layer fetch (R249). -/
def State.storeLoad (s : State) : Nat × Nat :=
  let unit := fun (h : Nat) => match s.handleDesc h with
    | some i => let d := s.desc i; storeDemand (widthOf d.width) d.struct d.rate
    | none => 0
  let w := ((List.range 128).map fun r => if s.on F.SABLE_REC_RUNNING r then unit (s.rd F.SABLE_REC_HANDLE r) else 0).foldl
    (· + ·) 0
  let r := ((List.range 128).map fun p => if s.on F.SABLE_PLAY_RUNNING p then unit (s.rd F.SABLE_PLAY_HANDLE p) else 0).foldl
    (· + ·) 0
  let a := 3072000 * countIf (List.range 1024) fun b => s.on F.AUDIO_DBLK_EN b
  (w + a, r + a + s.rd F.OCHRE_FETCH_USE_USE 0 * 1000000)

/-- R26 is satisfied: two ports in service or more, 64 GiB or more. -/
def State.memOk (s : State) : Bool :=
  let up := (List.range 4).filter s.portUp
  decide (2 ≤ up.length ∧ 256 ≤ (up.map fun c => s.rd F.CXLP_PORT_STATUS_CAP_UNITS c).foldl (· + ·) 0)

/-- Show the budget and OVERLOAD, which demand beyond it sets (R249, R250). -/
def State.loadShow (s : State) : State :=
  let up := (List.range 4).filter s.portUp
  let cap := (up.map fun c => linkHalf (s.rd F.CXLP_PORT_STATUS_SPEED c) (s.rd F.CXLP_PORT_STATUS_WIDTH c)).foldl (· + ·) 0 / 2
  let s1 := (s.wr F.SABLE_BW_CAP_WR 0 cap).wr F.SABLE_BW_CAP_RD 0 cap
  let l := s1.storeLoad
  let excess := decide (cap * 1000000000 < l.1 ∨ cap * 1000000000 < l.2)
  let s2 := s1.wr F.SABLE_STATUS_OVERLOAD 0 (b2n excess)
  if excess && !s.on F.SABLE_STATUS_OVERLOAD 0 then s2.event F.SABLE_EVENT_OVERLOAD 0 Irq.sable else s2

/-- Show ports, pages, budget and overload in the registers (R224, R226, R249, R250). -/
def State.storeShow (s : State) : State :=
  let s1 := forEach (List.range 4) (fun c s =>
    let x := s.cxl c
    ((s.wr F.CXLP_FREE_PAGES c x.free).wr F.CXLP_SPARE_PAGES c x.reserve).wr F.CXLP_MARKED_REGIONS c x.marked.length) s
  let up := (List.range 4).filter s.portUp
  let s2 := ((s1.wr F.SABLE_STATUS_PORTS_UP 0 (up.foldl (fun a c => a + 2 ^ c) 0)).wr F.SABLE_STATUS_MEM_OK 0 (b2n s.memOk)).wr
    F.SABLE_STATUS_DESC_FREE 0 (16384 - countIf s.sable.descs fun d => decide (d.2.state ≠ 0))
  let s3 := (s2.wr F.SABLE_PAGES_TOTAL 0 ((up.map fun c => (s.cxl c).usable).foldl (· + ·) 0)).wr
    F.SABLE_PAGES_FREE 0 ((up.map fun c => (s.cxl c).free).foldl (· + ·) 0)
  s3.loadShow.admShow

/-- CXL_PORT_BRINGUP_DONE: the steps of R222 have ended on training port `c`: no partner, a failed step (`reason` 1-6), or a
link of `speed` code and `width` lanes with `units` of 256 MiB. Training at another width or speed is a failed step (R221). -/
def execCxlPortBringupDone (c : Fin 4) (partner : Bool) (reason : Fin 7) (speed : Fin 3) (width : Fin 32) (units : Nat)
    (s : State) : Host.Outcome State Fault Refusal :=
  let r := if reason.val ≠ 0 then reason.val else if linkHalf speed.val width.val = 0 then 2 else 0
  ok (if s.rd F.CXLP_PORT_STATUS_STATE c ≠ 1 then s
  else if !partner then ((s.wr F.CXLP_PORT_STATUS_STATE c 0).wr F.CXLP_PORT_STATUS_REASON c 0).storeShow
  else if r ≠ 0 then ((s.wr F.CXLP_PORT_STATUS_STATE c 4).wr F.CXLP_PORT_STATUS_REASON c r).storeShow
  else
    let u := Nat.min units 1024
    let st := if linkHalf speed.val width.val = 220 then 2 else 3
    let s1 := ((((s.wr F.CXLP_PORT_STATUS_STATE c st).wr F.CXLP_PORT_STATUS_REASON c 0).wr F.CXLP_PORT_STATUS_SPEED c speed).wr
      F.CXLP_PORT_STATUS_WIDTH c width).wr F.CXLP_PORT_STATUS_CAP_UNITS c u
    let x := s1.cxl c.val
    let s2 := (s1.setCxl c.val { x with total := 128 * u, reserve := ceilDiv (3 * 128 * u) 100, timeouts := [] }).storeShow
    if s2.mode = Mode.calibrate && s2.memOk && s2.on F.TOP_DEV_MODE_CAL_DONE 0 then s2.wr F.TOP_DEV_MODE_MEM_SHORT 0 0
    else s2)

/-- A write to CXLP_PORT_CTRL (R223). -/
def State.cxlCtrl (c w : Nat) (s : State) : State :=
  let s1 := s.writeField F.CXLP_PORT_CTRL_RETRAIN_REFUSED c (bits w 1 1)
  if !bit w 0 then s1
  else
    let st := s.rd F.CXLP_PORT_STATUS_STATE c
    if (st = 0 ∨ st = 4 ∨ st = 5) ∧ s.on F.TOP_DEV_MODE_CAL_DONE 0 then s1.cxlTrain c
    else s1.wr F.CXLP_PORT_CTRL_RETRAIN_REFUSED c 1

/-- CXLP_RETRAIN: a write with RETRAIN set. -/
def execCxlpRetrain (c : Fin 4) (w : Word) (s : State) : Host.Outcome State Fault Refusal :=
  ok (s.hostWriteSet (0x1B0000 + 0x100 * c.val) w.toNat 1 (State.cxlCtrl c.val))

/-- PLACEMENT_LOOP: once a second. How the three measures of R225 make a weight is not stated: the weights are operands, a port
out of service taking 0; `wr` and `rd` are the measured GB/s per port. -/
def execPlacementLoop (ws wr rd : List Nat) (s : State) : Host.Outcome State Fault Refusal :=
  let s1 := forEach (List.range 4) (fun c s =>
    ((s.setCxl c { s.cxl c with weight := if s.portUp c then ws.getD c 0 else 0 }).wr F.CXLP_BW_MEAS_WR c (wr.getD c 0)).wr
      F.CXLP_BW_MEAS_RD c (rd.getD c 0)) s
  let s2 := { s1 with sable := { s1.sable with looped := true } }
  ok (((s2.wr F.SABLE_BW_MEAS_WR 0 (wr.foldl (· + ·) 0)).wr F.SABLE_BW_MEAS_RD 0 (rd.foldl (· + ·) 0)).storeShow)

/-- A region takes its mark (R226). -/
def State.markRegion (s : State) (c g : Nat) : State :=
  let x := s.cxl c
  if x.marked.contains g then s
  else ((s.setCxl c { x with marked := g :: x.marked }).event F.SABLE_EVENT_REGION_MARKED 0 Irq.sable).storeShow

/-- CXL_EVENT_RECORD: a correctable-error record with device physical address `addr`, counted for its region or discarded
beyond the used capacity (R226, R438). -/
def execCxlEventRecord (c : Fin 4) (addr : Nat) (s : State) : Host.Outcome State Fault Refusal :=
  let g := addr / 2 ^ 28
  ok (if s.rd F.CXLP_PORT_STATUS_CAP_UNITS c ≤ g then s.violation 4 c 0x03 1 (addr / 65536) (Src.cxl c)
  else
    let x := s.cxl c.val
    let win := s.rd F.SABLE_PLACE_CFG_CE_WIN 0 * 3600 * sClk
    let l := (tget x.ces g []).filter (fun t => decide (s.clk < t + win)) ++ [s.clk]
    let s1 := (s.setCxl c.val { x with ces := tput x.ces g l [] }).incSat F.CXLP_CE_CNT_COUNT c
    if s.rd F.SABLE_PLACE_CFG_CE_THR 0 ≤ l.length then s1.markRegion c.val g else s1)

/-- Take page `g` of port `c`, or give it back. -/
def State.takePage (s : State) (c g : Nat) : State := s.setCxl c { s.cxl c with used := g :: (s.cxl c).used }
def State.givePage (s : State) (c g : Nat) : State := s.setCxl c { s.cxl c with used := (s.cxl c).used.erase g }

/-- Take the lowest reserve page outside MARKED regions, which get no new pages (R226); those below it leave the reserve too; spent,
SPARE_LOW (R227). -/
def State.takeSpare (s : State) (c : Nat) : Option (State × Nat) :=
  let x := s.cxl c
  ((List.range x.reserve).find? fun k => !x.bad (x.ordinary + k)).map fun k =>
    let s1 := s.setCxl c { x with reserve := x.reserve - (k + 1), used := (x.ordinary + k) :: x.used }
    (if x.reserve = k + 1 then s1.event F.SABLE_EVENT_SPARE_LOW 0 Irq.sable else s1, x.ordinary + k)

/-- MIGRATION_PAGE_DONE: extent `e` of buffer `d`, in a MARKED region, has been copied to port `c`; `spare`: to a reserve page
of its own port (R226, R227). -/
def execMigrationPageDone (d : Fin 16384) (e : Nat) (c : Fin 4) (spare : Bool) (s : State) : Host.Outcome State Fault Refusal :=
  let x := s.desc d.val
  ok (match x.pages[e]? with
    | none => s
    | some p =>
      if !s.grantOk (s.rd F.SABLE_PLACE_GRANT_GRANT 0) Gc.migration 0 || !p.placed || !(s.cxl p.port).bad p.page ||
          s.weight c = 0 then s
      else
        let put := fun (s : State) (g : Nat) =>
          ((s.givePage p.port p.page).setDesc d.val { x with pages := x.pages.set e { p with port := c.val, page := g } }).storeShow
        if spare then
          match (if c.val = p.port then s.takeSpare c.val else none) with
          | some t => put t.1 t.2
          | none => s
        else
          let r := s.draw
          match (s.cxl c.val).pick r.2 with
          | some g => put (r.1.takePage c.val g) g
          | none => s)

/-- The port sequence of an allocation (R224, R225): even over the permitted ports in use while the weights are equal; else
the 16 entries shared in proportion. The order of shared entries is not stated: `d` and `o`, free values, fix it. -/
def State.pattern (s : State) (exclude d o : Nat) : List Nat :=
  let use := (List.range 4).filter fun c => s.portUp c && !bit exclude c
  let up := (List.range 4).filter s.portUp
  let w0 := s.weight (up.headD 0)
  if up.all fun c => s.weight c = w0 then (List.range 16).map fun i => use.getD (i % Nat.max 1 use.length) 4
  else
    let tot := (use.map s.weight).foldl (· + ·) 0
    (List.range 16).map fun i =>
      let x := ((2 * o + 1) * i % 16 * tot + d % Nat.max 1 tot) / 16
      (use.foldl (fun a c => if a.2 then a else if x < a.1.2 + s.weight c then ((c, 0), true) else ((4, a.1.2 + s.weight c), false))
        ((4, 0), false)).1.1

/-- Place extents `0 … n - 1` of a buffer; none when a page is missing (R224). -/
def State.placeAll (s : State) (pat : List Nat) (n d : Nat) : Option (State × List Page) :=
  (List.range n).foldl (fun a e => match a with
    | none => none
    | some (s, ps) =>
      match ((List.range 16).map fun j => pat.getD ((e + j) % 16) 4).find? fun c => decide (c < 4) && s.portUp c &&
          decide (0 < (s.cxl c).free) with
      | none => none
      | some c =>
        match (s.cxl c).pick (d + e) with
        | some g => some (s.takePage c g, ps ++ [{ port := c, page := g }])
        | none => none) (some (s, []))

/-! ### Buffers (R209-R211, R233-R236) -/

/-- The descriptor that has been FREE longest (R233); among those free since reset the choice is a free value. -/
def State.pickDesc (s : State) (d : Nat) : Option Nat :=
  match ((List.range (s.sable.descs.length + 1)).map fun i => (d + i) % 16384).find? fun i =>
      (s.desc i).state = 0 && (s.desc i).freedNo = 0 with
  | some i => some i
  | none => ((s.sable.descs.filter fun e => e.2.state = 0 && decide (e.2.freedNo ≠ 0)).foldl
      (fun (a : Option (Nat × Desc)) e => match a with
        | some b => if e.2.freedNo < b.2.freedNo then some e else a
        | none => some e) none).map (·.1)

/-- The size of a buffer request in 64 KiB units (R228); 0 where the request is refused with ARG (Table 7-7). -/
def bufUnits (w0 w1 : Nat) : Nat :=
  let cap := bits w0 16 16
  if bits w0 12 4 ≠ 0 ∨ bits w0 2 2 = 3 ∨ bits w1 4 4 ≠ 0 ∨ bits w1 11 21 ≠ 0 ∨ bits w1 0 4 = 15 then 0
  else
    let u := slotUnits (bits w0 4 4) (bits w0 8 4) * widthOf (bits w0 2 2)
    match bits w0 0 2 with
    | 0 => cap * u
    | 1 => if cap = 1 then u else 0
    | 2 => if 1 ≤ cap ∧ cap ≤ 2000 then ceilDiv (3072 * cap) 65536 else 0
    | _ => 0

/-- The descriptor and generation an allocation takes: the device's choice, or the handle `at'` that a mirror names (R404). -/
def State.allocDesc (s : State) (d : Nat) (at' : Option Nat) : Option (Nat × Nat) :=
  match at' with
  | none => (s.pickDesc d).map fun i => (i, (s.desc i).gen)
  | some h => if (s.desc (h % 16384)).state = 0 then some (h % 16384, h / 65536 % 65536) else none

/-- BUFALLOC by engine `n` of the request words (R210): the state, the code and the handle. -/
def State.bufAlloc (s : State) (n w0 w1 w2 w3 : Nat) (at' : Option Nat) : State × Nat × Nat :=
  let units := bufUnits w0 w1
  if units = 0 then (s, Rc.arg, 0)
  else
    let d0 := s.draw
    let d1 := d0.1.draw
    match s.allocDesc d0.2 at' with
    | none => (s, Rc.noDesc, 0)
    | some (i, gen) =>
      match d1.1.placeAll (s.pattern (bits w1 0 4) d0.2 d1.2) (ceilDiv units 32) d1.2 with
      | none => (s, Rc.noSpace, 0)
      | some (s1, ps) =>
        let lr := bits w1 8 3
        let lease := if s.short n then (if w2 = 0 ∧ w3 = 0 then 0 else s.widen lr true w2) else w2 + 2 ^ 32 * w3
        let x : Desc := { kind := bits w0 0 2, width := bits w0 2 2, struct := bits w0 4 4, rate := bits w0 8 4, state := 1
                          gen := gen, capacity := bits w0 16 16, exclude := bits w1 0 4, leaseRaster := lr, owner := n
                          lease := lease, size := units, writeSeq := 0xFFFFFFFF, pages := ps }
        ((s1.setDesc i x).storeShow, 0, i + 65536 * gen)

/-- A running recorder or player, or an enabled audio delay context, uses descriptor `i` (R211, R304). -/
def State.bufInUse (s : State) (i : Nat) : Bool :=
  ((List.range 128).any fun r => s.on F.SABLE_REC_RUNNING r && s.rd F.SABLE_REC_HANDLE r % 16384 = i)
  || ((List.range 128).any fun p => s.on F.SABLE_PLAY_RUNNING p && (s.rd F.SABLE_PLAY_HANDLE p % 16384 = i ||
    match (s.player p).next with
    | some q => q.1.handle % 16384 = i
    | none => false))
  || ((s.desc i).kind = 2 && (List.range 1024).any fun b => s.on F.AUDIO_DBLK_EN b && s.rd F.AUDIO_DBLK_HANDLE b % 16384 = i)

/-- BUFFREE by engine `n` (R211): the generation advances at once. -/
def State.bufFree (s : State) (n h : Nat) : State × Nat :=
  if bits h 14 2 ≠ 0 then (s, Rc.arg)
  else
    match s.handleDesc h with
    | none => (s, Rc.stale)
    | some i =>
      if s.bufInUse i then (s, Rc.inUse)
      else
        let x := s.desc i
        ((s.setDesc i { x with gen := (x.gen + 1) % 65536, state := 2, freer := n, freedAt := some s.clk }).storeShow, 0)

/-- The descriptor that an access issued now reaches under handle `h`: one issued in the clock of its BUFFREE still does (R234). -/
def State.readDesc (s : State) (h : Nat) : Option Nat :=
  match s.handleDesc h with
  | some i => some i
  | none =>
    let i := h % 16384
    let d := s.desc i
    if bits h 14 2 = 0 ∧ d.state = 2 ∧ d.freedAt = some s.clk ∧ d.gen = (h / 65536 + 1) % 65536 then some i else none

/-- A read of buffer `i` was issued on raster `r` (Table 8-4). -/
def State.noteRead (s : State) (i r : Nat) : State :=
  s.setDesc i { s.desc i with lastRaster := r, lastFrame := (s.egress r).frame, lastValid := true }

/-- A stale fetch (R234). -/
def State.staleRead (s : State) : State := (s.incSat F.SABLE_STALE_CNT_COUNT 0).event F.SABLE_EVENT_STALE_READ 0 Irq.sable

/-- Put the release queue in place: COUNT and the head record follow it (R235). -/
def State.setRelq (s : State) (q : List (List Nat)) : State :=
  let h := q.headD []
  forEach (List.range 4) (fun k s => s.wr F.SABLE_REL_EVT_WORD k (h.getD k 0))
    (({ s with sable := { s.sable with relq := q } }).wr F.SABLE_REL_QSTAT_COUNT 0 q.length)

/-- A release record (Table 8-5). -/
def Desc.relRecord (x : Desc) (i : Nat) : List Nat :=
  [i + 65536 * ((x.gen + 65535) % 65536), x.lastRaster + 8 * b2n x.lastValid + 16 * x.freer, x.lastFrame % 2 ^ 32,
   x.lastFrame / 2 ^ 32 % 2 ^ 32]

/-- DESCRIPTOR_RELEASE: no access of the old generation remains (R235). -/
def execDescriptorRelease (d : Fin 16384) (s : State) : Host.Outcome State Fault Refusal :=
  let x := s.desc d.val
  ok (if x.state ≠ 2 then s
  else
    let s1 := x.pages.foldl (fun s p => if p.placed then s.givePage p.port p.page else s) s
    let s2 := { s1 with sable := { s1.sable with
                 bytes := s1.sable.bytes.filter (fun b => decide (b.1 / 2 ^ 44 ≠ d.val)), freeNo := s1.sable.freeNo + 1 } }
    let s3 := s2.setDesc d.val { gen := x.gen, freedNo := s.sable.freeNo }
    let s4 := if s.sable.relq.length < 256 then
        (s3.setRelq (s.sable.relq ++ [x.relRecord d.val])).event F.SABLE_EVENT_RELEASED 0 Irq.sable
      else (s3.wr F.SABLE_REL_QSTAT_OVF 0 1).event F.SABLE_EVENT_REL_OVF 0 Irq.sable
    (s4.engEvent x.freer 11).storeShow)

/-- A write of SABLE_REL_POP. -/
def State.relPop (w : Nat) (s : State) : State := if bit w 0 then s.setRelq s.sable.relq.tail else s

/-- SABLE_REL_POP: a write with bit 0 set removes the head record. -/
def execSableRelPop (w : Word) (s : State) : Host.Outcome State Fault Refusal :=
  ok (s.hostWrite 0x80044 w.toNat (State.relPop w.toNat))

/-- The lease in force at a reader's frame start now: one written in this very clock applies from the next (R236). -/
def Desc.leaseAtStart (x : Desc) (clk : Nat) : Nat × Nat := if x.leaseAt = some clk then x.leaseWas else (x.lease, x.leaseRaster)

/-- The reader's frame is within the lease (R236). -/
def State.leased (s : State) (i : Nat) : Bool :=
  let l := (s.desc i).leaseAtStart s.clk
  l.1 = 0 || (s.enabled l.2 && decide ((s.pos l.2).frame ≤ l.1))

/-- A write of the last word of SABLE_LEASE_CTRL (R236). -/
def State.leaseGo (w : Nat) (s : State) : State :=
  let s1 := s.wr F.SABLE_LEASE_CTRL_RASTER 0 (bits w 0 3)
  if !bit w 31 then s1
  else
    match s.handleDesc (s.rd F.SABLE_LEASE_CTRL_HANDLE 0) with
    | none => s1.event F.SABLE_EVENT_LEASE_REFUSED 0 Irq.sable
    | some i =>
      let x := s.desc i
      s1.setDesc i { x with leaseAt := some s.clk, leaseWas := x.leaseAtStart s.clk, leaseRaster := bits w 0 3
                            lease := s.rd64 F.SABLE_LEASE_CTRL_FRAME_LO F.SABLE_LEASE_CTRL_FRAME_HI 0 }

/-- LEASE_SET: a write with GO set. -/
def execLeaseSet (w : Word) (s : State) : Host.Outcome State Fault Refusal :=
  ok (s.hostWriteSet 0x8003C w.toNat 0x80000000 State.leaseGo)

/-! ### Bytes (R243, R248) -/

/-- Key of byte `o` of buffer `i`. -/
def byteKey (i o : Nat) : Nat := i * 2 ^ 44 + o

/-- The page that holds byte `o` of a buffer. -/
def Desc.pageAt (x : Desc) (o : Nat) : Page := x.pages.getD (o / 2 ^ 21) { port := 0, page := 0, placed := false }

/-- Pages of `n` bytes from `o`. -/
def pageSpan (o n : Nat) : List Nat := if n = 0 then [] else (List.range ((o + n - 1) / 2 ^ 21 - o / 2 ^ 21 + 1)).map (· + o / 2 ^ 21)

/-- Byte ranges with one more put in; those that meet become one. -/
def addRange (lo hi : Nat) (l : List (Nat × Nat)) : List (Nat × Nat) :=
  let meets := fun (e : Nat × Nat) => decide (e.1 ≤ hi ∧ lo ≤ e.2)
  let t := l.filter meets
  ((t.map (·.1)).foldl Nat.min lo, (t.map (·.2)).foldl Nat.max hi) :: l.filter fun e => !meets e

/-- Write bytes from offset `o` of buffer `i`; what falls on an unplaced page is dropped, and the others are WRITTEN (R243,
R248). DAMAGED clears when no replaced extent is unwritten and none unplaced. -/
def State.writeBytes (s : State) (i o : Nat) (bs : List Nat) : State :=
  let x := s.desc i
  let ps := (pageSpan o bs.length).foldl (fun (l : List Page) e => match l[e]? with
    | some p => if p.placed then l.set e { p with written := true } else l
    | none => l) x.pages
  let mem := (bs.zipIdx.filter fun b => (x.pageAt (o + b.2)).placed).foldl
    (fun m b => tput m (byteKey i (o + b.2)) (b.1 % 256) 256) s.sable.bytes
  let dam := x.damaged && ps.any fun p => !p.placed || (p.replaced && !p.written)
  let s1 := s.setDesc i { x with pages := ps, damaged := dam, fresh := if x.copied then addRange o (o + bs.length) x.fresh else [] }
  { s1 with sable := { s1.sable with bytes := mem } }

/-- Read one byte of buffer `i` as the host sees it (R243): 0 on an UNWRITTEN page, a free value where a WRITTEN page was not
written. -/
def State.readByte (s : State) (i o : Nat) : State × Nat :=
  let p := (s.desc i).pageAt o
  if !p.placed || !p.written then (s, 0)
  else
    let b := tget s.sable.bytes (byteKey i o) 256
    if b < 256 then (s, b) else let d := s.draw; (d.1, d.2 % 256)

/-- The buffer and offset a host window access of `n` bytes at `o` reaches, when it can be carried out (R244). -/
def State.hostWin (s : State) (w o n : Nat) : Option (Nat × Nat) :=
  match s.readDesc (s.rd F.SABLE_HWIN_HANDLE w) with
  | some i =>
    let b := s.rd F.SABLE_HWIN_BASE_LO w * 65536 + s.rd F.SABLE_HWIN_BASE_HI w * 2 ^ 32 + o
    if s.on F.SABLE_HWIN_EN w && decide (b + n ≤ (s.desc i).size * 65536) then some (i, b) else none
  | none => none

/-- A host window access that is not carried out; on a stale handle EN clears too (R244). -/
def State.hostWinErr (s : State) (w : Nat) : State :=
  let s1 := if s.on F.SABLE_HWIN_EN w && (s.handleDesc (s.rd F.SABLE_HWIN_HANDLE w)).isNone then
    s.wr F.SABLE_HWIN_EN w 0 else s
  (s1.wr F.SABLE_HWIN_ERR w 1).event F.SABLE_EVENT_HWIN_ERR 0 Irq.sable

/-- A write of bytes through window `w`. -/
def State.hostWinWrite (w o : Nat) (bs : List Nat) (s : State) : State :=
  match s.hostWin w o bs.length with
  | some (i, b) => s.writeBytes i b bs
  | none => s.hostWinErr w

/-- The poisoned read of an expander (R247): counted and a fault event of its source. -/
def State.poisoned (s : State) (c : Nat) : State :=
  ((s.incSat F.CXLP_POISON_CNT_COUNT c).event F.SABLE_EVENT_POISON 0 Irq.sable).faultEvent (Src.cxl c) true

/-- A read of `n` bytes through window `w`; `poison`: the port whose data came poisoned, or (`tmo`) not within 20 us, which is handled
as poison (Table 8-7). The answer is the number the bytes make, low byte first (R5); all ones where it fails. A read that is carried
out counts as one on raster 0, since the window has none (DESIGN CHOICE, log 138). -/
def State.hostWinRead (w o n : Nat) (poison : Option (Fin 4)) (tmo : Bool) (s : State) : State :=
  let give := fun (s : State) (v : Nat) => { s with hif := { s.hif with lastRead := v } }
  match s.hostWin w o n, poison with
  | some (i, b), none =>
    let r := (List.range n).foldl (fun (a : State × Nat) k =>
      let x := a.1.readByte i (b + k)
      (x.1, a.2 + x.2 * 256 ^ k)) (s.noteRead i 0, 0)
    give r.1 r.2
  | some (i, _), some c =>
    let s1 := s.noteRead i 0
    give ((if tmo then s1 else s1.poisoned c.val).hostWinErr w) (256 ^ n - 1)
  | none, _ => give (s.hostWinErr w) (256 ^ n - 1)

/-- HOST_WINDOW_ACCESS: BAR4 offset w * 64 GiB + o; a write of `data`, or a read of `n` bytes, which is
poisoned by a port, or (true) not answered within 20 us. Writes are mirrored and refused
on a standby (Table 14-3, R401). -/
def execHostWindowAccess (w : Fin 16) (o : Nat) (data : Option (List Nat)) (n : Nat) (bad : Option (Fin 4) × Bool) (s : State) :
    Host.Outcome State Fault Refusal :=
  ok (match data with
    | none => if !s.pins.ready || s.hif.d3 then s else s.hostWinRead w.val o n bad.1 bad.2
    | some bs =>
      if !s.pins.ready || s.hif.d3 then s
      else if s.mode ≤ Mode.init then s.wr F.TOP_INIT_STATUS_WR_EARLY 0 1
      else if s.mode = Mode.standby then s.event F.COBALT_EVENT_STBY_REFUSED 0 Irq.cobalt
      else
        let t := s.hostWinWrite w.val o bs
        if s.mirroring then t.sendHostw s.posWords 4 (w.val * 2 ^ 36 + o) bs else t)

/-! ### Expander errors (R247, R248, R438) -/

/-- CXL_MEM_TIMEOUT: no response within 20 us. The reader's side of it is the fetch that failed. -/
def execCxlMemTimeout (c : Fin 4) (addr : Nat) (s : State) : Host.Outcome State Fault Refusal :=
  let x := s.cxl c.val
  let s1 := s.setCxl c.val { x with timeouts := x.timeouts.filter (fun t => decide (s.clk < t + msClk)) ++ [s.clk] }
  ok (((s1.incSat F.CXLP_TIMEOUT_CNT_COUNT c).event F.SABLE_EVENT_TIMEOUT 0 Irq.sable).violation 4 c 0x01 3 (addr / 65536)
    (Src.cxl c))

/-- Replace the extents of buffer `i` lost on port `c` (R248). -/
def State.replaceLost (s : State) (c i : Nat) : State :=
  let x := s.desc i
  if !x.pages.any (fun p => p.placed && p.port = c) then s
  else
    let r := x.pages.zipIdx.foldl (fun (a : State × List Page) pe =>
      let p := pe.1
      if !p.placed || decide (p.port ≠ c) then (a.1, a.2 ++ [p])
      else
        let d := a.1.draw
        let dest := (List.range 4).map (fun k => (d.2 + k) % 4) |>.find? fun k =>
          decide (k ≠ c ∧ 0 < d.1.weight k ∧ 0 < (d.1.cxl k).free)
        match dest with
        | some k =>
          match (d.1.cxl k).pick (d.2 / 4) with
          | some g => (d.1.takePage k g, a.2 ++ [{ port := k, page := g, replaced := true }])
          | none => (d.1, a.2 ++ [{ p with placed := false, written := false, replaced := true }])
        | none => (d.1, a.2 ++ [{ p with placed := false, written := false, replaced := true }])) (s, [])
    let lost := (x.pages.zipIdx.filter fun pe => pe.1.placed && pe.1.port = c).map (·.2)
    let s1 := r.1.setDesc i { x with pages := r.2, damaged := true }
    let s2 := { s1 with sable := { s1.sable with
      bytes := s1.sable.bytes.filter fun b => !(b.1 / 2 ^ 44 = i && lost.contains (b.1 % 2 ^ 44 / 2 ^ 21)) } }
    s2.event F.SABLE_EVENT_DAMAGED 0 Irq.sable

/-- CXL_PORT_FAIL: link down or a fatal AER, or (`rep`) 16 timeouts within 1 ms (Table 8-7). -/
def execCxlPortFail (c : Fin 4) (rep : Bool) (s : State) : Host.Outcome State Fault Refusal :=
  ok (if !s.portUp c.val || (rep && decide ((s.cxl c.val).timeouts.length < 16)) then s
  else
    let s1 := (s.wr F.CXLP_PORT_STATUS_STATE c 5).wr F.CXLP_PORT_STATUS_REASON c 7
    let s2 := (s1.setCxl c.val { s1.cxl c.val with used := [], weight := 0 }).event F.SABLE_EVENT_PORT_FAIL 0 Irq.sable
    let s3 := (s2.sable.descs.filter fun e => decide (e.2.state ≠ 0)).foldl (fun s e => s.replaceLost c.val e.1) s2
    s3.storeShow.faultEvent (Src.cxl c) true)

/-- CXL_MAILBOX_TIMEOUT: a command not completed within 2 s is abandoned and logged (R438). -/
def execCxlMailboxTimeout (c : Fin 4) (s : State) : Host.Outcome State Fault Refusal := ok (s.violation 4 c 0x04 2 0 (Src.cxl c))

end Sys2Proof.Machine
end

