-- ==== Sys2Proof/Machine/Lines.lean ====
section
/-! DEFINITION. The lines that sources inside the device put out as strand words (R115, R138, R231, R252): generators' patterns,
players' stored lines, heads' composed lines; and what a recorder stores of strand words (R229, R231). -/
namespace Sys2Proof.Machine

/-! ### Formats on strands -/

/-- The serial class in which a format travels (Table 4-1); 1080p at 50-60 as level A. -/
def classOf (st rate : Nat) : Nat :=
  match st with
  | 1 => 1 | 2 => 1 | 3 => 2 | 4 => 2
  | 5 => if rate ≤ 4 then 2 else 4
  | 6 => if rate ≤ 4 then 5 else if rate ≤ 7 then 6 else 7
  | _ => 0

/-- The raster line of picture line `y` of a structure (Table 2-1). -/
def pictureLine (st y : Nat) : Nat := match st with
  | 3 => 26 + y | 4 => if y % 2 = 0 then 21 + y / 2 else 584 + y / 2 | 5 => 42 + y | _ => 83 + y

/-- Picture line that channel `c` of member strand `m` carries on strand line `l` of a format; none in blanking (R92, R95). -/
def rowOf (cls st m c l : Nat) : Option Nat :=
  let q := signalStruct cls st
  let second := decide (563 < l)
  let half := if second then l - 584 else l - 21
  if vBit q l then none
  else some (match cls with
    | 3 => 2 * half + c
    | 5 | 6 => 2 * (l - 42) + subImage cls m c / 2
    | 7 => 2 * (2 * half + m % 2) + subImage cls m c / 2
    | _ => match st with
      | 1 => if l ≤ 262 then 2 * (l - 21) + 1 else 2 * (l - 283)
      | 2 => if l ≤ 310 then 2 * (l - 23) else 2 * (l - 336) + 1
      | 3 => l - 26
      | 4 => 2 * half + b2n second
      | _ => l - 42)

/-- Pixels and lines of a picture, SD's among them. -/
def pixels (st : Nat) : Nat × Nat := match st with
  | 1 => (720, 485) | 2 => (720, 576) | _ => picture st

/-- A channel's line of class `cls`, structure `st`: samples `y` and `c` where it carries picture, else `v1` and `v2` in its vertical
ancillary space; `h1` and `h2` in its horizontal one. -/
def chanWords (cls st rate : Nat) (picture : Option ((Nat → Nat) × (Nat → Nat))) (v1 v2 h1 h2 : List Nat) : List Nat :=
  let sd := decide (cls = 1)
  let n := chanActive (signalStruct cls st)
  match picture with
  | some p => rawChan sd (chanLen cls st rate) n p.1 p.2 h1 h2
  | none =>
    if sd then
      let w := fun i => v1.getD i (if i % 2 = 0 then 0x200 else 0x40)
      rawChan true (chanLen cls st rate) n (fun i => w (2 * i + 1)) (fun i => w (2 * i)) h1 h2
    else rawChan false (chanLen cls st rate) n (fun i => v1.getD i 0x40) (fun i => v2.getD i 0x200) h1 h2

/-- The payload ID packet that line `l` of a strand structure carries, if any (R102). SD carries it in its one stream. -/
def pidOn (q l pid : Nat) : List Nat := if (pidLines q).contains l then pidPacket pid else []

/-! ### Generators (R138) -/

/-- Eight bars of BT.709 at 100 % and at 75 % amplitude: Y, Cb, Cr. -/
def bars100 : List (Nat × Nat × Nat) :=
  [(940, 512, 512), (877, 64, 553), (754, 615, 64), (691, 167, 105), (313, 857, 919), (250, 409, 960), (127, 960, 471), (64, 512, 512)]
def bars75 : List (Nat × Nat × Nat) :=
  [(721, 512, 512), (674, 176, 543), (581, 589, 176), (534, 253, 207), (251, 771, 817), (204, 435, 848), (111, 848, 481), (64, 512, 512)]

/-- Y, Cb and Cr of a pattern at pixel `x` of line `y` of a picture; `flat` is the word of XPT_GEN_CFG. The check field of RP 198 in
its usual codes: PRESUMED (log 139). -/
def patternAt (pat flat : Nat) (size : Nat × Nat) (x y : Nat) : Nat × Nat × Nat :=
  match pat with
  | 1 => bars100.getD (8 * x / size.1) (64, 512, 512)
  | 2 => bars75.getD (8 * x / size.1) (64, 512, 512)
  | 3 =>
    let n := 876 * x
    let d := size.1 - 1
    (64 + n / d + (if n % d ≠ 0 ∧ Config.roundUp n d then 1 else 0), 512, 512)
  | 4 => if 2 * y < size.2 then (0x198, 0x300, 0x300) else (0x110, 0x200, 0x200)
  | 5 => (bits flat 0 10, bits flat 10 10, bits flat 20 10)
  | _ => (64, 512, 512)

/-- The two samples of pixel `x`: luma, and the chroma that it carries. -/
def pixelPair (p : Nat × Nat × Nat) (x : Nat) : Nat × Nat := (p.1, if x % 2 = 0 then p.2.1 else p.2.2)

/-- Line `l` of member strand `m` of a generated signal: its samples by picture line and column, and its payload ID. -/
def madeLine (cls st rate m l pid : Nat) (at' : Nat → Nat → Nat × Nat) : List Nat :=
  let q := signalStruct cls st
  let lay := layOf cls
  let chan := fun (c : Nat) =>
    chanWords cls st rate ((rowOf cls st m c l).map fun y =>
      let col := fun i => subCol cls (subImage cls m c) i
      (fun i => (at' y (col i)).1, fun i => (at' y (col i)).2)) [] [] (pidOn q l pid) []
  stampLine cls st l false (lay.words (if lay = .pair ∧ cls ≠ 2 then [chan 0, chan 1]
    else if lay = .pair then let c := chan 0; [c, List.replicate c.length 0] else [chan 0]))

/-- The pattern and word of XPT_GEN_CFG of generator `g`. -/
def State.genWord (s : State) (g : Nat) : Nat :=
  s.rd F.XPT_GEN_CFG_Y g + 2 ^ 10 * s.rd F.XPT_GEN_CFG_CB g + 2 ^ 20 * s.rd F.XPT_GEN_CFG_CR g

/-- Line `l` of member strand `m` of a pattern in a format (R138). -/
def genLine (pat flat cls st rate m l : Nat) : List Nat :=
  madeLine cls st rate m l (pidMake cls st rate 0 false) fun y x => pixelPair (patternAt pat flat (pixels st) x y) x

/-! ### IP strands (R354, R355) -/

/-- The components of a 4:4:4 pixel, in the order of a packet, that stand for Y, Cb and Cr of ST 372: G, B and R of an RGB one. -/
def comp372 (samp k : Nat) : Nat := if samp = 3 ∨ samp = 4 then [1, 2, 0].getD k 0 else [1, 0, 2].getD k 0

/-- A 12-bit SAMPLING. -/
def deep (samp : Nat) : Bool := samp = 2 || samp = 4

/-- The word of link B that carries the two low bits of a 12-bit pixel's Y, Cb and Cr. -/
def lowWord (y cb cr : Nat) : Nat :=
  let e := y % 4 * 64 + cb % 4 * 16 + cr % 4 * 4
  let p := countIf (List.range 8) (fun i => bit e i) % 2
  e + 256 * p + 512 * (1 - p)

/-- Luma and chroma of sub-channel `c` of a 4:4:4 line in the dual-link mapping of ST 372, from its components. PRESUMED (log 135). -/
def dualLink (samp c : Nat) (v : Nat → Nat) : (Nat → Nat) × (Nat → Nat) :=
  let d := if deep samp then 4 else 1
  let at' := fun (k i : Nat) => v (3 * i + comp372 samp k)
  if c = 0 then (fun i => at' 0 i / d, fun i => if i % 2 = 0 then at' 1 i / d else at' 2 (i - 1) / d)
  else (fun i => if deep samp then lowWord (at' 0 i) (at' 1 i) (at' 2 i) else 64,
    fun i => if i % 2 = 0 then at' 1 (i + 1) / d else at' 2 i / d)

/-- The components back from the two links' luma and chroma: component `j` of the line. -/
def undualLink (samp : Nat) (ya ca yb cb : Nat → Nat) (j : Nat) : Nat :=
  let i := j / 3
  let low := fun (s : Nat) => if deep samp then yb i / s % 4 else 0
  let full := fun (x s : Nat) => if deep samp then 4 * x + low s else x
  if j % 3 = comp372 samp 0 then full (ya i) 64
  else if j % 3 = comp372 samp 1 then full (if i % 2 = 0 then ca i else cb (i - 1)) 16
  else full (if i % 2 = 0 then ca (i + 1) else cb i) 4

/-- The payload ID generated for channel `c` of a receive strand group (R355): format, SAMPLING, TCS and BT2020. PRESUMED (log 135). -/
def pidFlow (st rate samp tcs : Nat) (bt2020 : Bool) (c : Nat) : Nat :=
  let v := pidMake (classOf st rate) st rate tcs bt2020
  if samp = 0 then v
  else 0x87 + 256 * (v / 256 % 65536) + 65536 * (if samp ≤ 2 then 1 else 2) + 2 ^ 24 * (if deep samp then 2 else 1) + 2 ^ 30 * c

/-- The words of strand line `l` of member `m` of a receive group (R354, R355): component `j` of picture line `y` is `v y j`, the
packets of data stream `k`, in vertical ancillary space (true) or horizontal, `anc k`. -/
def ipWords (st rate samp tcs : Nat) (bt2020 : Bool) (m l : Nat) (v : Nat → Nat → Nat) (anc : Nat → Bool → List Nat) : List Nat :=
  let cls := classOf st rate
  let q := signalStruct cls st
  let lay := layOf cls
  let chan := fun (c : Nat) =>
    let pic := (rowOf cls st m c l).map fun y =>
      if samp = 0 then
        (fun i => v y (2 * subCol cls (subImage cls m c) i + 1), fun i => v y (2 * subCol cls (subImage cls m c) i))
      else dualLink samp c (v y)
    let k := 2 * (if lay = .pair then 2 * m + c else m)
    chanWords cls st rate pic (anc k true) (anc (k + 1) true) (pidOn q l (pidFlow st rate samp tcs bt2020 c) ++ anc k false)
      (anc (k + 1) false)
  stampLine cls st l false (lay.words (if lay = .pair then
    [chan 0, if cls = 2 ∧ samp = 0 then List.replicate (chanLen cls st rate) 0 else chan 1] else [chan 0]))

/-! ### Storing strand words (R229, R231) -/

/-- An ancillary packet's record (R231): its place in the header, and its words packed and padded. -/
def ancRecord (line stream sub : Nat) (vanc : Bool) (p : List Nat) : List Nat :=
  let b := pack10 p
  let h := line % 4096 + 2 ^ 12 * stream + 2 ^ 13 * sub + 2 ^ 14 * b2n vanc + 2 ^ 16 * (p.length % 256)
  leBytes h ++ b ++ List.replicate ((4 - b.length % 4) % 4) 0

/-- The records of a strand line's packets, in arrival order: those before its EAV at sample `e`, then those after. DESIGN CHOICE
(log 140): of packets that arrive together, the first sub-channel and stream stand first. -/
def lineRecords (l : Lay) (e line : Nat) (ws : List Nat) : List (List Nat) :=
  let chs := (l.chans ws).zipIdx
  let part := fun (vanc : Bool) => chs.flatMap fun c =>
    let w := if vanc then c.1.take e else c.1.drop e
    if l = .sd then (ancOf w).map (ancRecord line 0 c.2 vanc)
    else (ancOf (stream1 w)).map (ancRecord line 0 c.2 vanc) ++ (ancOf (stream2 w)).map (ancRecord line 1 c.2 vanc)
  part true ++ part false

/-- The packet words that records put back in one place (R231). -/
def recordWords (rs : List (List Nat)) (stream sub : Nat) (vanc : Bool) : List Nat :=
  rs.flatMap fun r =>
    let h := leWord r
    if bits h 12 1 = stream ∧ bits h 13 1 = sub ∧ bits h 14 1 = b2n vanc then
      [0, 0x3FF, 0x3FF] ++ (List.range (bits h 16 8)).map (packed (r.drop 4))
    else []

/-! ### Players and heads -/

/-- The words of strand line `l` that a player puts out of a format (R231, R240). -/
def playWords (st rate l : Nat) (p : PlayLine) : List Nat :=
  let cls := classOf st rate
  let lay := layOf cls
  let n := chanActive (signalStruct cls st)
  let chan := fun (c : Nat) =>
    let v := fun i => packed p.act (2 * (c * n + i))
    let u := fun i => packed p.act (2 * (c * n + i) + 1)
    let pic := if vBit (signalStruct cls st) l then none
      else if p.black then some (fun _ => 64, fun _ => 512)
      else if cls = 1 then some (fun i => packed p.act (2 * i + 1), fun i => packed p.act (2 * i))
      else some (v, u)
    chanWords cls st rate pic (recordWords p.anc 0 c true) (recordWords p.anc 1 c true) (recordWords p.anc 0 c false)
      (recordWords p.anc 1 c false)
  stampLine cls st l false (lay.words (if lay = .pair then [chan 0, chan 1] else [chan 0]))

/-- Source slot `x` has put out a line (R111, R237): the newest `n` are held. -/
def State.pushLine (s : State) (x n : Nat) (l : AlLine) : State :=
  { s with aligner := tput s.aligner x ((l :: tget s.aligner x []).take n) [] }

/-- The newest line `l` that source slot `x` holds. -/
def State.heldLine (s : State) (x l : Nat) : Option AlLine := (tget s.aligner x []).find? fun a => a.line = l

/-- The words of strand line `l` of member `m` of head `h` (R252): the picture lines it composed for egress frame `f`, and a payload
ID of 4:2:2 10-bit in the colorimetry of SPACE. -/
def State.headWords (s : State) (h m l f : Nat) : List Nat :=
  let w := s.hAct h 0 0
  let r := bits w 1 3
  let st := s.rStruct r
  let rate := s.rRate r
  let v := tget s.heads h {}
  let rows := if f = v.begun then v.out else v.prev
  let sp := bits w 9 2
  madeLine (classOf st rate) st rate m l (pidMake (classOf st rate) st rate (if sp = 3 then 0 else sp) (decide (sp ≠ 0)))
    fun y x => let o := tget rows y {}; (o.luma.getD x 64, o.chroma.getD x 512)

end Sys2Proof.Machine
end

