-- ==== Sys2Proof/Machine/Record.lean ====
section
/-! DEFINITION. Recorders and players (chapter 8): frames stored and played line by line, and the operations RECSTART, RECSTOP
and PLAY. -/
namespace Sys2Proof.Machine

/-- A recorder or player grant of `n` covers width `w` and the demand of a format (Table 15-1). -/
def State.storeGrant (s : State) (n cls unit : Nat) (x : Desc) : Bool :=
  match s.heldBy n cls unit with
  | none => false
  | some param => x.kind = 2 || decide (widthOf x.width ≤ widthOf (param / 65536) ∧
      storeDemand (widthOf x.width) x.struct x.rate ≤ param % 65536 * 1000000)

/-! ### Recorders (R212, R237, R238) -/

/-- The lowest-numbered enabled raster of a format, which times a generator into a recorder (R212). -/
def State.genRaster (s : State) (st rate : Nat) : Option Nat :=
  (List.range 8).find? fun r => s.enabled r && s.rStruct r = st && s.rRate r = rate

/-- The route entry RECSTART compares: the active one, else the PENDING one (R212). -/
def State.recRoute (s : State) (r : Nat) : Option XEnt :=
  let d := 5760 + 4 * r
  if (s.xa d).routed then some (s.xa d)
  else if (s.xs d).pending && (s.xs d).ent.routed then some (s.xs d).ent else none

/-- A route entry offers the structure and rate of buffer `x` at its width (R212). -/
def State.recFits (s : State) (d : Nat) (e : XEnt) (x : Desc) : Bool :=
  let src := groupSrc d e
  decide (widthOf e.width = widthOf x.width) &&
    (if isGen src then (s.genRaster x.struct x.rate).isSome
     else let l := s.live src none; l.st = x.struct && l.rate = x.rate)

/-- RECSTART of recorder `r` into handle `h` by engine `n` (R212). -/
def State.recStart (s : State) (n r h : Nat) : State × Nat :=
  if 128 ≤ r ∨ bits h 14 2 ≠ 0 then (s, Rc.arg)
  else
    let d := 5760 + 4 * r
    let busy := fun i => s.on F.SABLE_REC_RUNNING r ||
      (List.range 128).any fun q => s.on F.SABLE_REC_RUNNING q && s.rd F.SABLE_REC_HANDLE q % 16384 = i
    let code := match s.handleDesc h with
      | none => firstFail [(true, Rc.stale), ((s.heldBy n Gc.recorder r).isNone, Rc.noGrant),
          (s.on F.SABLE_REC_RUNNING r, Rc.inUse)]
      | some i =>
        let x := s.desc i
        firstFail [(!s.storeGrant n Gc.recorder r x, Rc.noGrant), ((s.recRoute r).isNone, Rc.notRouted),
          (decide (x.kind ≠ 0) || (match s.recRoute r with | some e => !s.recFits d e x | none => false), Rc.format),
          (busy i, Rc.inUse)]
    if code = 0 then
      let x := s.desc (h % 16384)
      let at' := match s.genRaster x.struct x.rate with
        | some g => (g + 1, (s.egress g).frame + 1)
        | none => (0, 0)
      let s1 := s.setRecorder r { seq := x.writeSeq, genAt := at' }
      ((((s1.wr F.SABLE_REC_RUNNING r 1).wr F.SABLE_REC_HANDLE r h).wr F.SABLE_REC_WRITE_SEQ r x.writeSeq).storeShow, 0)
    else (s, code)

/-- RECSTOP (R212): writing ends with the frame in progress. -/
def State.recStop (s : State) (r : Nat) : State × Nat :=
  if 128 ≤ r then (s, Rc.arg)
  else if s.on F.SABLE_REC_RUNNING r then
    (((s.setRecorder r { s.recorder r with stopping := true }).recEnd r).storeShow, 0)
  else (s, 0)

/-- The payload ID of the frame that source slot `src` puts out (R102, R138, R231, R252, R355), in the format of buffer `x`: a fabric
port's; a flow's generated one; that of the frame a player shows; a head's; a generator's. -/
def State.recPid (s : State) (src : Nat) (x : Desc) : Nat :=
  let made := pidMake (classOf x.struct x.rate) x.struct x.rate
  if src < 4608 then s.rd F.ALIGN_PORT_PID_PID (s.slotPort src)
  else if src < 5760 then
    match s.flowOfSlot src 0 with
    | some i => pidFlow (s.fStruct i) (s.fRate i) (s.fSampling i) (bits (s.fw i 15) 0 2) (bit (s.fw i 15) 2) 0
    | none => 0
  else if src < 6272 then
    let p := s.player ((src - 5760) / 4)
    let d := s.desc (p.set.handle % 16384)
    if d.kind = 1 then
      leWord ((List.range 4).map fun k => tget s.sable.bytes (byteKey (p.set.handle % 16384) (0x18 + k)) 0)
    else ((d.stored.find? fun f => some f.seq = p.shown).map (·.pid)).getD 0
  else if src < 6656 then
    let sp := bits (s.hAct ((src - 6272) / 4) 0 0) 9 2
    made (if sp = 3 then 0 else sp) (decide (sp ≠ 0))
  else made 0 false

/-- A frame begins in the ring (R237): the next number, in the slot of that number. An open frame of that slot, as in a ring of one
frame, ends as it would. -/
def State.recFrame (s : State) (r i src : Nat) : State :=
  let q := ((s.recorder r).seq + 1) % 2 ^ 32
  let x := s.desc i
  let cap := Nat.max 1 x.capacity
  let st := x.stored.filter fun f => decide (f.seq % cap ≠ q % cap) || (s.recorder r).open'.contains f.seq
  let s1 := s.setDesc i { x with stored := { seq := q, time := s.ptp, pid := s.recPid src x
                                             ancUsed := List.replicate (widthOf x.width) 0 } :: st }
  s1.setRecorder r { s.recorder r with seq := q, open' := (s.recorder r).open' ++ [q] }

/-- A generator's frame begins for recorder `r` (R212): the first sample of a frame of the raster that times it, on the egress
timeline, not yet begun; a raster that stands in for one now disabled starts with its next frame. -/
def State.genDue (s : State) (r st rate : Nat) : Option (Nat × Nat) :=
  match s.genRaster st rate with
  | none => none
  | some g =>
    let e := s.egress g
    if e.line = 1 ∧ e.sample = 0 ∧ (s.recorder r).genAt ≠ (g + 1, e.frame + 1) then some (g + 1, e.frame + 1) else none

/-- RECORDER_FRAME_START: a frame of the recorder's source begins; a spare that waits for it takes the recorder (R443). -/
def execRecorderFrameStart (r : Fin 128) (s0 : State) : Host.Outcome State Fault Refusal :=
  let s := s0.spareTake 1 r.val
  let d := 5760 + 4 * r.val
  let e := s.xa d
  ok (if !s.on F.SABLE_REC_RUNNING r then s
  else if (s.recorder r.val).stopping then
    ((s.setRecorder r.val { s.recorder r.val with stopping := false }).wr F.SABLE_REC_RUNNING r 0).storeShow
  else if !(s.judge d).live then s
  else
    match s.handleDesc (s.rd F.SABLE_REC_HANDLE r) with
    | none => s
    | some i =>
      let due := s.genDue r.val (s.desc i).struct (s.desc i).rate
      if isGen (groupSrc d e) && due.isNone then s
      else if isGen (groupSrc d e) && decide (widthOf e.width = widthOf (s.desc i).width) then
        let s1 := s.recFrame r.val i (groupSrc d e)
        s1.setRecorder r.val { s1.recorder r.val with genAt := due.getD (0, 0) }
      else if s.recFits d e (s.desc i) then s.recFrame r.val i (groupSrc d e)
      else s.incSat F.SABLE_REC_FMT_SKIP r)

/-- Byte offset of member strand `k` of frame number `q` (R229). -/
def Desc.strandAt (x : Desc) (q k : Nat) : Nat :=
  (q % Nat.max 1 x.capacity * widthOf x.width + k) * slotUnits x.struct x.rate * 65536

/-- The header of a strand-frame (Table 8-3). -/
def Stored.header (f : Stored) (k crc : Nat) : List Nat :=
  let ws := [f.seq, 1 + 2 * b2n f.crcSeen + 4 * b2n (f.truncated.contains k), f.time.sec % 2 ^ 32,
    f.time.sec / 2 ^ 32 % 65536 + 65536 * f.time.frac, f.time.ns, f.ancUsed.getD k 0, f.pid, crc] ++ List.replicate 8 0
  ws.flatMap leBytes

/-- Put the ancillary packets of a line after those of its strand that fit (R231): the bytes written and the packets dropped. -/
def ancPlace (size used : Nat) (pkts : List (List Nat)) : List Nat × Nat :=
  pkts.foldl (fun a p => if used + a.1.length + p.length ≤ size then (a.1 ++ p, a.2) else (a.1, a.2 + 1)) ([], 0)

/-- Write one line of member strand `k` (R229, R231). -/
def State.recStrandLine (s : State) (r i q l k : Nat) (act : List Nat) (anc : List (List Nat)) : State :=
  let x := s.desc i
  let f := (x.stored.find? fun f => f.seq = q).getD { seq := q }
  let base := x.strandAt q k
  let n := lineBytes x.struct x.rate
  let s1 := match activeIndex x.struct l with
    | some j => s.writeBytes i (base + 64 + j * n) ((List.range n).map fun b => act.getD b 0)
    | none => s
  let used := f.ancUsed.getD k 0
  let a := ancPlace (ancBytes x.struct x.rate) used anc
  let s2 := s1.writeBytes i (base + 64 + activeBytes x.struct x.rate + used) a.1
  let upd := fun (g : Stored) => if g.seq = q then
    { g with ancUsed := g.ancUsed.set k (used + a.1.length), truncated := if a.2 ≠ 0 ∧ !g.truncated.contains k then k :: g.truncated else g.truncated } else g
  (s2.setDesc i { s2.desc i with stored := (s2.desc i).stored.map upd }).addSat F.SABLE_REC_ANC_TRUNC r a.2

/-- Complete member strand `k` of frame `q`: the end of its ancillary area, then its header (R230, R231). -/
def State.recStrandDone (s : State) (i q k : Nat) : State :=
  let x := s.desc i
  let f := (x.stored.find? fun f => f.seq = q).getD { seq := q }
  let base := x.strandAt q k
  let act := (List.range (activeBytes x.struct x.rate)).map fun b => tget s.sable.bytes (byteKey i (base + 64 + b)) 0
  let used := f.ancUsed.getD k 0
  let s1 := if used + 4 ≤ ancBytes x.struct x.rate then
    s.writeBytes i (base + 64 + activeBytes x.struct x.rate + used) [0, 0, 0, 0] else s
  s1.writeBytes i base (f.header k (crc32 act))

/-- The frame is complete (R237); one whose slot the next frame already takes is no longer held. -/
def State.recDone (s : State) (r i q : Nat) : State :=
  let s1 := forEach (List.range (widthOf (s.desc i).width)) (fun k s => s.recStrandDone i q k) s
  let fin := fun (g : Stored) => if g.seq = q then { g with done := true } else g
  let cap := Nat.max 1 (s1.desc i).capacity
  let taken := (s1.recorder r).open'.any fun m => decide (m ≠ q ∧ m % cap = q % cap)
  let st := (s1.desc i).stored.map fin
  let s2 := s1.setDesc i { s1.desc i with writeSeq := q, stored := if taken then st.filter fun f => decide (f.seq ≠ q) else st }
  let s3 := s2.setRecorder r { s2.recorder r with open' := (s2.recorder r).open'.erase q }
  (((s3.wr F.SABLE_REC_WRITE_SEQ r q).incSat F.SABLE_REC_FRAMES r).recEnd r).storeShow

/-- Strand words of line `l` that source slot `x` gives recorder member `k`, in the format of buffer `d`, and whether their CRC failed
on arrival (R104, R116): `ws` of a fabric strand; of another source, what it put out. -/
def State.recWords (s : State) (x k l : Nat) (d : Desc) (ws : List Nat) : List Nat × Bool :=
  if x < 4608 then
    let lay := codeLay (s.strand (x + k)).lay
    let e := (s.strand (x + k)).eav
    (ws, lay ≠ .sd && (liveStreams lay ws).any fun y => !streamCrc y e)
  else if isGen x then
    let cls := classOf d.struct d.rate
    (genLine (s.rd F.XPT_GEN_CFG_PATTERN (x - 6656)) (s.genWord (x - 6656)) cls d.struct d.rate k l, false)
  else if 6272 ≤ x then
    let h := (x + k - 6272) / 4
    (s.headWords h ((x + k) % 4) l (s.egress (bits (s.hAct h 0 0) 1 3)).frame, false)
  else (((s.heldLine (x + k) l).map (·.words)).getD [], false)

/-- RECORDER_LINE_COMPLETE: 2 us have passed since the last word of the next line of the recorder's oldest unfinished frame. `ws` are
a fabric source's strand words of that line, by member strand, as they arrived. A line whose write cannot be placed gives up the
frame (R238, R248). -/
def execRecorderLineComplete (r : Fin 128) (ws : List (List Nat)) (_ _ : Unit) (s : State) : Host.Outcome State Fault Refusal :=
  let d := 5760 + 4 * r.val
  let src := groupSrc d (s.xa d)
  ok (match (s.recorder r.val).open', s.handleDesc (s.rd F.SABLE_REC_HANDLE r) with
    | [], _ => s
    | _ :: _, none => s.setRecorder r.val { s.recorder r.val with open' := [] }
    | q :: _, some i =>
      let x := s.desc i
      match x.stored.find? fun f => f.seq = q with
      | none => s.setRecorder r.val { s.recorder r.val with open' := (s.recorder r.val).open'.erase q }
      | some f =>
        let cls := classOf x.struct x.rate
        let lay := layOf cls
        let n := chanActive (signalStruct cls x.struct)
        let lines := (List.range (widthOf x.width)).map fun k => s.recWords src k f.next x (ws.getD k [])
        let act := fun (k : Nat) => pack10 (activeValues lay n (lines.getD k ([], false)).1)
        let anc := fun (k : Nat) => lineRecords lay n f.next (lines.getD k ([], false)).1
        let spans := (List.range (widthOf x.width)).flatMap fun k =>
          let base := x.strandAt q k + 64
          let bytes := ((anc k).map (·.length)).foldl (· + ·) 0
          (match activeIndex x.struct f.next with
            | some j => pageSpan (base + j * lineBytes x.struct x.rate) (lineBytes x.struct x.rate)
            | none => []) ++ pageSpan (base + activeBytes x.struct x.rate + f.ancUsed.getD k 0) bytes
        if spans.any fun e => !(x.pages.getD e { port := 0, page := 0, placed := false }).placed then s.recDrop r.val q
        else
          let s1 := forEach (List.range (widthOf x.width)) (fun k s => s.recStrandLine r.val i q f.next k (act k) (anc k)) s
          let upd := fun (g : Stored) => if g.seq = q then
            { g with at' := tput g.at' f.next s.clk 0, next := f.next + 1, crcSeen := g.crcSeen || lines.any (·.2) } else g
          let s2 := s1.setDesc i { s1.desc i with stored := (s1.desc i).stored.map upd }
          if f.next = strandLines x.struct then s2.recDone r.val i q else s2)

/-! ### Players (R213, R239-R242) -/

/-- At least `n` lines of raster `r` have passed since house clock `t`. -/
def State.linesAgo (s : State) (r n t : Nat) : Bool :=
  decide (n * s.rSamples r * s.phaseFull r ≤ (s.clk - t) * s.phaseStep r)

/-- The required lag (R239). -/
def PlaySet.lag (p : PlaySet) : Nat := if p.chase then p.depth else 2 + (p.depth - 1) * totalLines p.st

/-- A stored frame is eligible under `m` (R239): line 1 of every member strand was complete that many lines before now. -/
def State.playable (s : State) (p : PlaySet) (m : Nat) (f : Stored) : Bool :=
  decide (tget f.at' 1 0 ≠ 0) && s.linesAgo p.raster m (tget f.at' 1 0)

/-- What a frame start chooses: the frame, the run of repeats, LOST, and whether DROP or REPEAT is counted. -/
structure Pick where
  last : Option Nat
  rep : Nat := 0
  lost : Bool := false
  rptd : Bool := false
  dropped : Bool := false
deriving DecidableEq, Repr

/-- The choice of R239 and R241 for player `p` on buffer `d`. -/
def State.pickFrame (s : State) (p : Nat) (x : Player) (d : Desc) : Pick :=
  let n := x.set.lag
  let el := s.playable x.set n
  if d.kind = 1 then { last := some 0 }
  else
    match (if x.fresh then none else x.last) with
    | none =>
      match d.stored.find? el with
      | some f => { last := some f.seq }
      | none => { last := x.last, lost := true, rep := x.rep }
    | some q =>
      if d.stored.any fun f => decide (f.seq = (q + 2) % 2 ^ 32) && s.playable x.set (n + s.rd F.SABLE_PLAY_HYST p) f then
        { last := some ((q + 2) % 2 ^ 32), dropped := true }
      else if d.stored.any fun f => decide (f.seq = (q + 1) % 2 ^ 32) && el f then { last := some ((q + 1) % 2 ^ 32) }
      else
        { last := some q, rep := x.rep + 1, rptd := true
          lost := !d.stored.any el || (!s.on F.SABLE_PLAY_LOSS_MODE p && decide (s.rd F.SABLE_PLAY_FRZ_LIM p < x.rep + 1)) }

/-- Show LOST and LAPSED of a player; becoming either is an event (R236, R241). A player that is lost or valid again changes
what its readers meet. -/
def State.playFlags (s : State) (p : Nat) (lost lapsed : Bool) : State :=
  let s1 := if lapsed && !s.on F.SABLE_PLAY_LAPSED p then s.event F.SABLE_EVENT_LAPSED 0 Irq.sable else s
  let s2 := if lost && !s.on F.SABLE_PLAY_LOST p then s1.event F.SABLE_EVENT_PLAYER_LOST 0 Irq.sable else s1
  (((s2.wr F.SABLE_PLAY_LAPSED p (b2n lapsed)).wr F.SABLE_PLAY_LOST p (b2n lost)).showSrc (5760 + 4 * p) 4).recCheck

/-- Player `p` chooses its frame now and shows it from line `l` on; at a frame start a spare that waits for it takes the player
(R443). -/
def State.playChoose (s0 : State) (p l : Nat) : State :=
  let s := if l = 1 then s0.spareTake 2 p else s0
  let x := s.player p
  let f := (s.egress x.set.raster).frame
  match s.handleDesc x.set.handle with
  | none =>
    (s.staleRead.setPlayer p { x with begun := f, beginAt := none, line := l, shown := none, torn := false }).playFlags p true false
  | some i =>
    let held := s.leased i
    let k := s.pickFrame p x (s.desc i)
    let k' := if held then k else { last := x.last, rep := x.rep, lost := true }
    let y := { x with begun := f, beginAt := none, line := l, torn := false, rep := k'.rep, last := k'.last
                      mute := k'.rptd || k'.dropped
                      fresh := if k'.lost then x.fresh else false, shown := if k'.lost then none else k'.last }
    let s1 := (s.setPlayer p y).wr F.SABLE_PLAY_PLAY_SEQ p (k'.last.getD 0)
    let s2 := if k'.rptd then s1.incSat F.SABLE_PLAY_REPEAT p else s1
    let s3 := if k'.dropped then s2.incSat F.SABLE_PLAY_DROP p else s2
    s3.playFlags p k'.lost (!held)

/-- Adopt a set (R213): a change of buffer or depth starts afresh (R239). -/
def State.playAdopt (s : State) (p : Nat) (q : PlaySet) : State :=
  let x := s.player p
  let same := decide ((q.handle, q.depth, q.chase) = (x.set.handle, x.set.depth, x.set.chase))
  ((s.setPlayer p { x with set := q, next := none, fresh := x.fresh || !same }).wr F.SABLE_PLAY_HANDLE p q.handle).wr
    F.SABLE_PLAY_CHASE p (b2n q.chase)

/-- The player stops (R213). -/
def State.playStop (s0 : State) (p : Nat) : State :=
  let s := s0.spareTake 2 p
  let x := s.player p
  let s1 := s.setPlayer p { x with stopping := false, next := none, beginAt := none, shown := none }
  ((((s1.wr F.SABLE_PLAY_RUNNING p 0).wr F.SABLE_PLAY_LOST p 0).wr F.SABLE_PLAY_LAPSED p 0).showSrc (5760 + 4 * p) 4).recCheck.storeShow

/-- PLAYER_FRAME_START: the first clock of a frame of the player's raster on the egress timeline, or of the raster it moves to,
or of the line at which a new player begins (R213, R239). -/
def execPlayerFrameStart (p : Fin 128) (s : State) : Host.Outcome State Fault Refusal :=
  let x := s.player p.val
  let e := s.egress x.set.raster
  let due := s.enabled x.set.raster && decide (e.frame ≠ x.begun)
  ok (if !s.on F.SABLE_PLAY_RUNNING p then s
  else if x.stopping && due then s.playStop p.val
  else
    match x.beginAt with
    | some b => if s.enabled x.set.raster && decide ((e.frame, e.line) ≠ b) then s.playChoose p.val e.line else s
    | none =>
      match x.next with
      | some (q, f) =>
        if s.enabled q.raster && decide ((s.egress q.raster).frame ≠ f) then (s.playAdopt p.val q).playChoose p.val 1
        else if due then s.playChoose p.val 1 else s
      | none => if due then s.playChoose p.val 1 else s)

/-- One line fetched (R240): whether the chosen frame serves it, or the complete frame before it from here on, or black. A line whose
egress has passed has missed its deadline and is served the same way (R250). -/
def State.playLine (s : State) (p i : Nat) : State :=
  let x := s.player p
  let d := s.desc i
  let sl := if d.struct = 6 then (x.line + 1) / 2 else x.line
  let late := decide (x.line < (s.egress x.set.raster).line)
  let whole := fun (q : Option Nat) => d.kind = 1 || d.stored.any fun f => f.done && decide (some f.seq = q)
  if x.torn then (if whole x.shown then s else s.setPlayer p { x with shown := none })
  else
    let good := !late && (d.kind = 1 || match d.stored.find? fun f => some f.seq = x.shown with
      | some f => decide (tget f.at' sl 0 ≠ 0) && s.linesAgo x.set.raster (x.set.lag - 1) (tget f.at' sl 0)
      | none => false)
    if good then s
    else
      let prev := x.shown.map fun q => (q + 2 ^ 32 - 1) % 2 ^ 32
      (s.setPlayer p { x with torn := true, shown := if d.kind = 0 && whole prev then prev else none }).incSat F.SABLE_PLAY_TEAR p

/-- The ancillary records of strand line `l` in an area of `size` bytes that `get` reads (R231): a header of 0 ends the area. -/
def ancWalk (get : Nat → Nat) (size l : Nat) : Nat → Nat → List (List Nat)
  | 0, _ => []
  | fuel + 1, o =>
    let h := get o + 256 * get (o + 1) + 65536 * get (o + 2) + 2 ^ 24 * get (o + 3)
    let n := 4 + ceilDiv (ceilDiv (10 * bits h 16 8) 8) 4 * 4
    if size < o + 4 ∨ h = 0 ∨ size < o + n then []
    else
      let r := ancWalk get size l fuel (o + n)
      if bits h 0 12 = l then ((List.range n).map fun b => get (o + b)) :: r else r

/-- Strand line `l` of member strand `k` of frame number `q` as a player puts it out: black where it lies in an UNWRITTEN page
(R243); `w` numbers the bytes that nothing wrote. -/
def State.lineOf (s : State) (i q k l w : Nat) : PlayLine :=
  let d := s.desc i
  let base := d.strandAt q k + 64
  let get := fun o =>
    let v := tget s.sable.bytes (byteKey i o) 256
    if v < 256 then v else if (d.pageAt o).placed && (d.pageAt o).written then Config.unwrittenByte w k o % 256 else 0
  let n := lineBytes d.struct d.rate
  let size := ancBytes d.struct d.rate
  let anc := ancWalk (fun o => get (base + activeBytes d.struct d.rate + o)) size l (size / 4) 0
  match activeIndex d.struct l with
  | none => { black := false, anc }
  | some j =>
    if (pageSpan (base + j * n) n).any fun e => let p := d.pages.getD e { port := 0, page := 0, placed := false }; !p.placed || !p.written then
      { anc }
    else { black := false, act := (List.range n).map fun b => get (base + j * n + b), anc }

/-- Player `p` puts out its line: of the frame it shows, of the complete frame before it where the read came poisoned (Table 8-7),
else black (R240). -/
def State.playEmit (s : State) (p i : Nat) (poison : Bool) : State :=
  let x := s.player p
  let d := s.desc i
  let l := if d.struct = 6 then (x.line + 1) / 2 else x.line
  let from' := if poison then
      x.shown.bind fun q => (d.stored.find? fun f => f.done && decide (f.seq = (q + 2 ^ 32 - 1) % 2 ^ 32)).map (·.seq)
    else x.shown
  let put := fun (s : State) (out : List PlayLine) =>
    forEach (List.range out.length) (fun k s =>
      s.pushLine (5760 + 4 * p + k) 16 { line := l, words := playWords d.struct d.rate l (out.getD k {}), at' := s.clk })
      (s.setPlayer p { x with out := out })
  match from' with
  | none => put s (List.replicate (widthOf d.width) {})
  | some q =>
    let w := s.draw
    put w.1 ((List.range (widthOf d.width)).map fun k => s.lineOf i q k l w.2)

/-- Player `p` is to fetch its next line: it runs, is not lost, and that line lies in its frame, at most one ahead of its egress. -/
def State.playDue (s : State) (p : Nat) : Bool :=
  let x := s.player p
  let e := s.egress x.set.raster
  s.on F.SABLE_PLAY_RUNNING p && !s.on F.SABLE_PLAY_LOST p && x.beginAt.isNone && s.enabled x.set.raster &&
    decide (e.frame = x.begun ∧ x.line ≤ e.line + 1 ∧ x.line ≤ totalLines x.set.st)

/-- Player `p` fetches its next line of buffer `i` and puts it out. `bad`: the port whose data came poisoned, or (`tmo`) not within
20 us. -/
def State.playFetch (s : State) (p i : Nat) (bad : Option (Fin 4)) (tmo : Bool) : State :=
  let x := s.player p
  let s1 := s.playLine p i
  let s2 := if (s1.player p).shown.isSome then s1.noteRead i x.set.raster else s1
  let s3 := match bad with
    | some c => (if tmo then s2 else s2.poisoned c.val).incSat F.SABLE_PLAY_POISON p
    | none => s2
  let s4 := s3.playEmit p i bad.isSome
  s4.setPlayer p { s4.player p with line := x.line + 1 }

/-- PLAY of player `p`, handle `h`, control word `w` by engine `n` (R213). -/
def State.play (s : State) (n p h w : Nat) : State × Nat :=
  let x := s.player p
  if bit w 17 then
    (if 128 ≤ p then (s, Rc.arg)
     else if s.on F.SABLE_PLAY_RUNNING p then (s.setPlayer p { x with stopping := true, next := none }, 0) else (s, 0))
  else
    let r := bits w 18 3
    let dep := bits w 0 16
    let arg := (decide (128 ≤ p ∨ bits w 21 11 ≠ 0 ∨ bits h 14 2 ≠ 0), Rc.arg)
    let code := match s.handleDesc h with
      | none => firstFail [arg, (true, Rc.stale), ((s.heldBy n Gc.player p).isNone, Rc.noGrant), (!s.enabled r, Rc.target)]
      | some i =>
        let d := s.desc i
        let depthOk := if bit w 16 then decide (2 ≤ dep ∧ dep + 1 ≤ d.capacity * s.rLines r)
          else decide (1 ≤ dep ∧ dep + 1 ≤ d.capacity)
        firstFail [arg, (!s.storeGrant n Gc.player p d, Rc.noGrant), (!s.enabled r, Rc.target),
          (decide (d.kind = 2 ∨ d.struct ≠ s.rStruct r ∨ d.rate ≠ s.rRate r), Rc.format),
          (d.kind = 0 && !depthOk, Rc.depth)]
    if code ≠ 0 then (s, code)
    else
      let d := s.desc (h % 16384)
      let q : PlaySet := ⟨h, dep, bit w 16, r, d.struct, d.rate⟩
      let e := s.egress r
      let y := { x with ever := true, everWidth := widthOf d.width, everStruct := d.struct, everRate := d.rate }
      if s.on F.SABLE_PLAY_RUNNING p && x.beginAt.isNone then
        (s.setPlayer p { y with stopping := false, next := some (q, e.frame) }, 0)
      else
        let s1 := s.setPlayer p { y with set := q, next := none, stopping := false, fresh := true, begun := e.frame, rep := 0
                                         beginAt := some (e.frame, e.line) }
        ((((s1.wr F.SABLE_PLAY_RUNNING p 1).wr F.SABLE_PLAY_HANDLE p h).wr F.SABLE_PLAY_CHASE p (bits w 16 1)).storeShow, 0)

end Sys2Proof.Machine
end

