-- ==== Sys2Proof/Machine/Compose.lean ====
section
/-! DEFINITION. What a composition head does to its pixels (R258, R259, R263-R268): source lines out of the frame store, scaling,
colour conversion, alpha, blending and the output stage. A component is carried in units of 1/fx of a 10-bit code; a result that
is no whole number of them goes up or down by the opaque Config.roundUp, and every filter the spec does not give is opaque. -/
namespace Sys2Proof.Machine

/-- Units of one 10-bit code: processing carries at least 16 bits a component (R263). -/
def fx : Nat := 2 ^ (6 + Config.ochreGuard)

/-- Units of 1.0 of R', G' and B'. -/
def rgbOne : Nat := 1024 * fx

/-- A quotient as a whole number, exact where it is one, else up or down; open where the divisor is 0. -/
def quot (n d : Int) : Int :=
  if d = 0 then Config.noQuotient n
  else
    let m := if d < 0 then -n else n
    if m % (d.natAbs : Int) = 0 then m / (d.natAbs : Int)
    else if Config.roundUp m d.natAbs then m / (d.natAbs : Int) + 1 else m / (d.natAbs : Int)

def clip (lo hi x : Int) : Int := if x < lo then lo else if hi < x then hi else x

/-! ### Source lines (R94, R95, R229) -/

/-- Where pixel `x` of picture line `y` lies: member strand, sub-channel and word. A 2160p picture is four sub-images in
2-sample interleave (R95). -/
def pixelAt (st : Nat) (pair : Bool) (sub x y : Nat) : Nat × Nat × Nat :=
  if st = 6 then
    let im := x / 2 % 2 + 2 * (y % 2)
    let p := x / 4 * 2 + x % 2
    if pair then (im / 2, im % 2, p) else (im, 0, p)
  else (0, if pair then sub else 0, x)

/-- A source picture line as the stored bytes `b` of its member strands give it: luma, chroma as carried, and the luma of the
other sub-channel of a PAIR source. -/
def sourceRow (st : Nat) (pair : Bool) (sub y : Nat) (b : List (List Nat)) : SrcRow :=
  let w := (picture st).1
  let n := if st = 6 then w / 2 else w
  let val := fun (sub second x : Nat) =>
    let p := pixelAt st pair sub x y
    packed (b.getD p.1 []) (2 * (p.2.1 * n + p.2.2) + second)
  { ok := true
    luma := (List.range w).map (val sub 0)
    chroma := (List.range w).map (val sub 1)
    key := if pair && decide (st ≠ 6) then (List.range w).map (val (1 - sub) 0) else [] }

/-- Component `k` (Y, Cb, Cr, key luma) of pixel `x` of a line at 4:4:4, its samples in units of `u`: co-sited chroma stands,
the rest is interpolated (R263). -/
def comp444 (u : Nat) (r : SrcRow) (k x : Nat) : Int :=
  match k with
  | 0 => (r.luma.getD x 0 * u : Nat)
  | 3 => (r.key.getD x 0 * u : Nat)
  | _ =>
    if x % 2 = 0 then (r.chroma.getD (x + (k - 1)) 0 * u : Nat)
    else Config.chromaUp ((List.range ((r.chroma.length + 1) / 2)).map fun i => ((r.chroma.getD (2 * i + (k - 1)) 0 * u : Nat) : Int)) x

/-! ### Scaling (R258, R259, R265) -/

/-- 1.0 of the values SINC, SOFT and SHARP are computed in. -/
def one40 : Nat := 2 ^ 40

/-- `n` terms of the series of sin (`odd`) or cos from term `t`, at the square `q` of the angle. -/
def trigTerms (n k : Nat) (q t : Int) : Int :=
  match n with
  | 0 => 0
  | n + 1 => t - trigTerms n (k + 2) q (t * q / one40 / (k * (k + 1) : Nat))

/-- `sin (pi * num / den)` for whole `num` and `den`. -/
def sinPi (num den : Nat) : Int :=
  let m := num % (2 * den)
  let h := m % den
  let a : Int := ((if 2 * h ≤ den then h else den - h) * 3454217652358 / den : Nat)
  let v := trigTerms 12 2 (a * a / one40) a
  if m < den then v else -v

/-- `sinc (x) sinc (x / n)` at `x = num / den` for `x < n`, else 0: the Lanczos-n windowed sinc. -/
def lanczos (n num den : Nat) : Int :=
  if num = 0 then one40
  else if n * den ≤ num ∨ num % den = 0 then 0
  else sinPi num den * sinPi num (n * den) * (n * den * den : Nat) / (10851744800547 * (num * num : Nat))

/-- `n` terms of the series of `exp (-a)` from term `t`. -/
def expTerms (n k : Nat) (a t : Int) : Int :=
  match n with
  | 0 => 0
  | n + 1 => t - expTerms n (k + 1) a (t * a / one40 / (k : Nat))

/-- `v ^ (2 ^ n)` of a fraction. -/
def squares (n : Nat) (v : Int) : Int :=
  match n with
  | 0 => v
  | n + 1 => squares n (v * v / one40)

/-- A Gaussian of standard deviation 0.5 pixel, `exp (-2 x ^ 2)`, 1 at 0. -/
def gaussian (num den : Nat) : Int :=
  squares 8 (expTerms 10 1 ((2 * num * num * one40 / (256 * den * den) : Nat) : Int) one40)

/-- SINC, SOFT and SHARP at `num / den` source pixels (R265). Where the value is no fraction, the device's weight is open within
2^-17 of it: DESIGN CHOICE (log 142). -/
def kernelExact (k num den : Nat) : Int :=
  let near := fun (v : Int) => v + (Config.kernel k num den) % (2 ^ 24 + 1) - 2 ^ 23
  let v := match k with
    | 0 => lanczos 3 num den | 1 => gaussian num den | _ => lanczos 2 num den
  if num = 0 ∨ v = 0 then v else near v

/-- A kernel at `num / den` source pixels, to a scale of its own: SINC, SOFT and SHARP, or a table that gives it every 1/128. -/
def kernelAt (table : Nat → Int) (k num den : Nat) : Int :=
  if k < 3 then kernelExact k num den
  else
    let a := 128 * num / den
    if 128 * num % den = 0 ∧ a < 1024 then table a else Config.kernelBetween (table a) (table (a + 1)) num den

/-- Sample `i` of `out` of a line of `n` samples `f` filtered with `t` taps: the position's phase to 1/64, the kernel stretched for
a downscale, taps outside taken from the nearest edge, and the weights normalised. -/
def resample (table : Nat → Int) (k n out t i : Nat) (f : Nat → Int) : Int :=
  let pos : Int := (2 * i + 1) * n - out
  let base := pos / (2 * out)
  let ph := quot (64 * (pos % (2 * out))) (2 * out)
  let taps := (List.range t).map fun j =>
    let o : Int := (j : Int) - ((t - 1) / 2 : Nat)
    let d := (64 * o - ph).natAbs
    let w := if out < n then kernelAt table k (d * out) (64 * n) else kernelAt table k d 64
    (w, f (clip 0 (n - 1) (base + o)).toNat)
  quot ((taps.map fun e => e.1 * e.2).foldl (· + ·) 0) ((taps.map (·.1)).foldl (· + ·) 0)

/-- Component `k` of pixel `i` of line `j` of a layer whose words are `w`, from its source lines `rows` by picture line. An
interlaced picture (`inter`) is scaled horizontally only (R262). -/
def layerComp (inter : Bool) (w : Nat → Nat) (table : Nat → Int) (rows : Nat → SrcRow) (k i j : Nat) : Int :=
  let cx := bits (w 3) 0 13
  let cy := bits (w 4) 0 12
  if scales (w 0) then
    let kn := bits (w 7) 9 3
    let across := fun (r : Nat) =>
      resample table kn (bits (w 3) 16 13) (bits (w 6) 0 14) (bits (w 7) 4 5) i fun c => comp444 fx (rows (cy + r)) k (cx + c)
    if inter then across j else resample table kn (bits (w 4) 16 12) (bits (w 6) 16 14) (bits (w 7) 0 4) j across
  else comp444 fx (rows (cy + j)) k (cx + i)

/-! ### Colour conversion (R263, R264) -/

/-- Luma coefficients of red and blue in ten-thousandths: BT.709, or BT.2020 non-constant luminance. -/
def lumaCoef (space : Nat) : Int × Int := if space = 0 then (2126, 722) else (2627, 593)

/-- R', G' and B' of Y'CbCr, in units of 1/rgbOne, clipped to 0-1. -/
def toRgb (space : Nat) (y cb cr : Int) : Int × Int × Int :=
  let kr := (lumaCoef space).1
  let kb := (lumaCoef space).2
  let kg := 10000 - kr - kb
  let l := y - 64 * fx
  let b := cb - 512 * fx
  let r := cr - 512 * fx
  let one : Int := rgbOne
  (clip 0 one (quot ((l * 8960000 + 1752 * (10000 - kr) * r) * one) (7848960000 * fx)),
   clip 0 one (quot ((l * 8960000 * kg - 1752 * (kr * (10000 - kr) * r + kb * (10000 - kb) * b)) * one) (7848960000 * kg * fx)),
   clip 0 one (quot ((l * 8960000 + 1752 * (10000 - kb) * b) * one) (7848960000 * fx)))

/-- Y'CbCr of R'G'B'. -/
def toYcc (space : Nat) (r g b : Int) : Int × Int × Int :=
  let kr := (lumaCoef space).1
  let kb := (lumaCoef space).2
  let l := kr * r + (10000 - kr - kb) * g + kb * b
  (64 * fx + quot (876 * fx * l) (10000 * rgbOne),
   512 * fx + quot (896 * fx * (10000 * b - l)) (2 * (10000 - kb) * rgbOne),
   512 * fx + quot (896 * fx * (10000 * r - l)) (2 * (10000 - kr) * rgbOne))

/-- A 1D LUT's channel at `v`: linear between its points, entries `e`; slot 0 is the identity. -/
def lut1 (slot : Nat) (e : Nat → Nat) (v : Int) : Int :=
  if slot = 0 then v
  else
    let p := (v * 1024).toNat
    let i := p / rgbOne
    let f := p % rgbOne
    quot (((e i * (rgbOne - f) + e (i + 1) * f) : Nat) : Int) 65535

/-- The axes of a cell's point in falling order of their fractions. -/
def axes (f : Nat → Nat) : Nat × Nat × Nat :=
  if f 0 ≥ f 1 then
    if f 1 ≥ f 2 then (0, 1, 2) else if f 0 ≥ f 2 then (0, 2, 1) else (2, 0, 1)
  else
    if f 0 ≥ f 2 then (1, 0, 2) else if f 1 ≥ f 2 then (1, 2, 0) else (2, 1, 0)

/-- Channel `c` of node `n` of a 3D LUT whose words are `e` (Table 9-8). -/
def node3 (e : Nat → Nat) (c : Nat) (n : Nat → Nat) : Nat :=
  let k := 1089 * Nat.min 32 (n 0) + 33 * Nat.min 32 (n 1) + Nat.min 32 (n 2)
  match c with
  | 0 => e (2 * k) % 65536
  | 1 => e (2 * k) / 65536 % 65536
  | _ => e (2 * k + 1) % 65536

/-- A 3D LUT at a colour, by tetrahedral interpolation; slot 0 is the identity. -/
def lut3 (slot : Nat) (e : Nat → Nat) (rgb : Nat → Int) (c : Nat) : Int :=
  if slot = 0 then rgb c
  else
    let p := fun (k : Nat) => (rgb k * 32).toNat
    let i := fun (k : Nat) => p k / rgbOne
    let f := fun (k : Nat) => p k % rgbOne
    let a := axes f
    let up := fun (on : List Nat) => node3 e c fun k => i k + (if on.contains k then 1 else 0)
    quot ((up [] * (rgbOne - f a.1) + up [a.1] * (f a.1 - f a.2.1) + up [a.1, a.2.1] * (f a.2.1 - f a.2.2) +
      up [0, 1, 2] * f a.2.2 : Nat) : Int) 65535

/-- The three components of a pixel, by number. -/
def pick3 (p : Int × Int × Int) (k : Nat) : Int := match k with
  | 0 => p.1 | 1 => p.2.1 | _ => p.2.2

/-- Conversion by LUTs from one space to another; `lut kind slot entry` is the library. -/
def convert (lut : Nat → Nat → Nat → Nat) (src dst w11 : Nat) (p : Int × Int × Int) : Int × Int × Int :=
  let a := bits w11 0 6
  let b := bits w11 8 5
  let c := bits w11 16 6
  let rgb := toRgb src p.1 p.2.1 p.2.2
  let x := fun (k : Nat) => lut1 a (fun i => lut 0 a (1025 * k + i) % 65536) (pick3 rgb k)
  let z := fun (k : Nat) => lut1 c (fun i => lut 0 c (1025 * k + i) % 65536) (lut3 b (lut 1 b) x k)
  toYcc dst (z 0) (z 1) (z 2)

/-! ### Alpha and blending (R266, R267) -/

/-- A layer's alpha as a fraction: CONST, SOURCE by the other sub-channel's luma, KEY by its own 10-bit luma. -/
def alphaOf (mode : Nat) (opacity : Int) (w8 gain : Nat) (y key : Int) : Int × Int :=
  match mode with
  | 1 => (clip 0 (876 * fx) (key - 64 * fx) * opacity, 876 * fx * 1023)
  | 2 => (clip 0 65536 ((quot y fx - bits w8 16 10) * gain) * opacity, 65536 * 1023)
  | _ => (opacity, 1023)

/-- A pixel of a layer at a place of the head's picture: its alpha as a fraction and its components. -/
abbrev LayerPixel := (Int × Int) × (Int × Int × Int)

/-- A pixel that is not shown. -/
def clearPixel : LayerPixel := ((0, 1), (0, 0, 0))

/-- `out = a * pix + (1 - a) * out`, per component. -/
def blend (out : Int × Int × Int) (p : LayerPixel) : Int × Int × Int :=
  let f := fun (x o : Int) => if p.1.1 = 0 then o else quot (p.1.1 * x + (p.1.2 - p.1.1) * o) p.1.2
  (f p.2.1 out.1, f p.2.2.1 out.2.1, f p.2.2.2 out.2.2)

/-- Three 10-bit components of a colour word. -/
def colourOf (v : Nat) : Int × Int × Int := ((bits v 0 10 * fx : Nat), (bits v 10 10 * fx : Nat), (bits v 20 10 * fx : Nat))

/-- The layer at depth `k` (R267). -/
def layerAt (out0 out2 k : Nat) : Nat := if bit out0 4 then bits out2 (3 * k) 3 else k

/-! ### The output stage (R252, R268) -/

/-- A component reduced to steps of `q` units: rounded with `dither` none, else up where what is left exceeds the dither value. -/
def reduce (q : Nat) (dither : Option Nat) (v : Int) : Int :=
  match dither with
  | none =>
    let r := v % q
    if 2 * r < q then v / q else if (q : Int) < 2 * r then v / q + 1 else quot v q
  | some t => if (t % q : Nat) < v % q then v / q + 1 else v / q

/-- The dither value of a pixel: a function of SEED, line and sample, and under SPATIOTEMPORAL of the frame number. -/
def ditherOf (out0 seed line sample frame : Nat) : Option Nat :=
  match bits out0 7 2 with
  | 0 => none
  | 1 => some (Config.dither 1 seed line sample 0)
  | m => some (Config.dither m seed line sample (frame % 65536))

/-- One sample of a composed line: what the next head's cascade layer takes, at 12 bits, and the 10-bit word the head emits. -/
def outputSample (out0 : Nat) (dither : Option Nat) (v : Int) : Nat × Nat :=
  match bits out0 5 2 with
  | 1 => let e := 4 * (clip 1 254 (reduce (4 * fx) dither v)).toNat; (4 * e, e)
  | 2 => let d := clip 0 4095 (reduce (fx / 4) none v); (d.toNat, (clip 4 1019 (reduce 4 none d)).toNat)
  | _ => let e := (clip 4 1019 (reduce fx dither v)).toNat; (4 * e, e)

/-- A blended line of pixels at 4:4:4 to the samples of the output stage: 4:2:2 with co-sited chroma (R267, R268). -/
def outputRow (out0 seed line frame : Nat) (px : List (Int × Int × Int)) : OutRow :=
  let ys := px.map (·.1)
  let cbs := px.map (·.2.1)
  let crs := px.map (·.2.2)
  let s := fun (k x : Nat) =>
    let d := ditherOf out0 seed line x frame
    outputSample out0 d (match k with
      | 0 => ys.getD x 0
      | _ => Config.chromaDown (if x % 2 = 0 then cbs else crs) (x / 2 * 2))
  let xs := List.range px.length
  { die := { ok := true, luma := xs.map fun x => (s 0 x).1, chroma := xs.map fun x => (s 1 x).1 }
    luma := xs.map fun x => (s 0 x).2
    chroma := xs.map fun x => (s 1 x).2 }

end Sys2Proof.Machine
end

