-- ==== Sys2Proof/Machine/Ochre.lean ====
section
/-! DEFINITION. Composition heads (chapter 9): parameter sets and their checks, commits and latches, layers while a head runs,
and the LUT and kernel library. -/
namespace Sys2Proof.Machine

/-- A head's parameter set: the word of a block (R256). -/
abbrev HSet := Nat → Nat → Nat

def State.activeSet (s : State) (h : Nat) : HSet := fun b i => s.hAct h b i
def State.stagedSet (s : State) (h : Nat) : HSet := fun b i => s.hStg h b i

/-- Head `h` beside its registers. -/
def State.head (s : State) (h : Nat) : Head := tget s.heads h {}
def State.setHead (s : State) (h : Nat) (x : Head) : State := { s with heads := tput s.heads h x {} }
def State.layer (s : State) (h l : Nat) : Layer := tget s.layers (h * 8 + l) {}
def State.setLayer (s : State) (h l : Nat) (x : Layer) : State := { s with layers := tput s.layers (h * 8 + l) x {} }

/-- Fields of a set. -/
def HSet.en (x : HSet) : Bool := bit (x 0 0) 0
def HSet.raster (x : HSet) : Nat := bits (x 0 0) 1 3
def HSet.space (x : HSet) : Nat := bits (x 0 0) 9 2
def HSet.layerEn (x : HSet) (l : Nat) : Bool := bit (x (1 + l) 0) 0
def HSet.kind (x : HSet) (l : Nat) : Nat := bits (x (1 + l) 0) 1 2
def HSet.cascades (x : HSet) : Bool := x.layerEn 0 && decide (x.kind 0 = 1)
def HSet.scaled (x : HSet) (l : Nat) : Bool := scales (x (1 + l) 0)

/-- The words a block defines (Tables 9-2 and 9-3). -/
def definedWord (b i : Nat) : Bool := decide (b ≤ 8) && decide (i < if b = 0 then 4 else 12)

/-- No reserved bit is set and no coded field holds a reserved encoding in word `i` of block `b` (R205). -/
def wordClean (b i v : Nat) : Bool :=
  if b = 0 then
    match i with
    | 0 => decide (v < 2 ^ 11 ∧ bits v 5 2 ≠ 3 ∧ bits v 7 2 ≠ 3)
    | 1 => decide (v < 2 ^ 30)
    | 2 => decide (v < 2 ^ 24)
    | _ => decide (v < 2 ^ 16 ∧ v ≠ 0)
  else
    match i with
    | 0 => decide (v < 2 ^ 13 ∧ bits v 1 2 ≠ 3 ∧ bits v 7 1 = 0 ∧ bits v 8 2 ≠ 3)
    | 1 => true
    | 2 => decide (v < 2 ^ 16)
    | 3 => decide (bits v 13 3 = 0 ∧ bits v 29 3 = 0)
    | 4 => decide (bits v 12 4 = 0 ∧ bits v 28 4 = 0)
    | 5 => decide (bits v 14 2 = 0 ∧ bits v 30 2 = 0)
    | 6 => decide (bits v 14 2 = 0 ∧ bits v 30 2 = 0)
    | 7 => decide (v < 2 ^ 12 ∧ bits v 9 3 ≠ 7)
    | 8 => decide (bits v 10 6 = 0 ∧ v < 2 ^ 26)
    | 9 => decide (v < 2 ^ 16)
    | 10 => decide (v < 2 ^ 30)
    | _ => decide (bits v 6 2 = 0 ∧ bits v 13 3 = 0 ∧ v < 2 ^ 22)

/-- Three 10-bit components, each 4 to 1,019. -/
def colourOk (v : Nat) : Bool := (List.range 3).all fun k => decide (4 ≤ bits v (10 * k) 10 ∧ bits v (10 * k) 10 ≤ 1019)

/-! ### Chains (R269-R271) -/

/-- The set of head `g` in force at a latch of raster `r` at `at'`: its accepted one when that latches no later, else its
active one. -/
def State.setAt (s : State) (g r : Nat) (at' : Nat × Nat) : HSet :=
  let x := s.head g
  if x.accepted ∧ x.raster = r ∧ (x.latch.1 < at'.1 ∨ (x.latch.1 = at'.1 ∧ x.latch.2 ≤ at'.2)) then s.stagedSet g else s.activeSet g

/-- How many heads after `h` follow in a row by cascade, sets given by `f`. -/
def chainAfter (f : Nat → HSet) (h : Nat) : Nat := (((List.range 95).map (· + (h + 1))).takeWhile fun g => decide (g < 96) && (f g).cascades).length

/-- How many heads before `h` it is chained from. -/
def chainBefore (f : Nat → HSet) (h : Nat) : Nat := ((List.range h).map (h - ·)).takeWhile (fun g => (f g).cascades) |>.length

/-- Lines head `h` computes ahead of house time (R270). -/
def State.headAhead (s : State) (h : Nat) : Nat := chainAfter s.activeSet h

/-! ### Checks (R207, R258-R272) -/

/-- Picture of the head's raster. -/
def State.headPicture (s : State) (x : HSet) : Nat × Nat := picture (s.rStruct x.raster)

/-- A library slot is VALID: identity slots always are (R264). -/
def State.slotValid (s : State) (kind slot : Nat) : Bool := (decide (kind < 2) && slot = 0) || tget s.lutValid (kind * 64 + slot) false

/-- A PAIR source: one picture in a sub-channel of one strand (R272); a 6G group's pictures fill both sub-channels (R95). -/
def pairSource (d : Desc) : Bool := storePair d.struct d.rate && decide (d.struct ≠ 6)

/-- Parameter checks of an enabled BUFFER layer's words on source picture `p`, `pair`: a PAIR source (R258-R266). -/
def State.bufferParamBad (s : State) (x : HSet) (l : Nat) (p : Nat × Nat) (pair ring : Bool) (cap : Nat) : Bool :=
  let w := x (1 + l)
  let cw := bits (w 3) 16 13
  let ch := bits (w 4) 16 12
  let ow := bits (w 6) 0 14
  let oh := bits (w 6) 16 14
  let scale := x.scaled l
  let dep := w 2
  (List.range 12).any (fun i => !wordClean (1 + l) i (w i))
  || (ring && (if bit (w 0) 4 then decide (dep < 2) else decide (dep < 1 ∨ cap ≤ dep)))
  || decide (bits (w 3) 0 13 % 2 ≠ 0 ∨ cw % 2 ≠ 0 ∨ bits (w 5) 0 14 % 2 ≠ 0 ∨ ow % 2 ≠ 0 ∨ cw = 0 ∨ ch = 0)
  || decide (p.1 < bits (w 3) 0 13 + cw ∨ p.2 < bits (w 4) 0 12 + ch)
  || decide (ow < 1 ∨ 16382 < ow ∨ oh < 1 ∨ 16382 < oh)
  || (if scale then
        decide (8 * ow < cw ∨ 8 * cw < ow ∨ 8 * oh < ch ∨ 8 * ch < oh) ||
        decide (bits (w 7) 0 4 < 2 ∨ 8 < bits (w 7) 0 4 ∨ bits (w 7) 4 5 < 2 ∨ 16 < bits (w 7) 4 5) ||
        (decide (3 ≤ bits (w 7) 9 3) && !s.slotValid 2 (bits (w 7) 9 3 - 3))
      else decide (ow ≠ cw ∨ oh ≠ ch))
  || (if bit (w 0) 10 then !(s.slotValid 0 (bits (w 11) 0 6) && s.slotValid 1 (bits (w 11) 8 5) && s.slotValid 0 (bits (w 11) 16 6))
      else decide (bits (w 0) 11 2 ≠ x.space))
  || (bits (w 0) 8 2 = 1 && !pair)

/-- The failing checks of layer `l` of a set for head `h` latching at `at'`: code and condition. -/
def State.layerFails (s : State) (h l : Nat) (x : HSet) (at' : Nat × Nat) : List (Bool × Nat) :=
  if !x.layerEn l then []
  else
    let w := x (1 + l)
    match x.kind l with
    | 1 =>
      let sets := fun g => if g = h then x else s.setAt g x.raster at'
      let up := sets (h - 1)
      [(decide (l ≠ 0 ∨ h = 0) || bit (w 0) 10 || decide (up.raster ≠ x.raster ∨ up.space ≠ x.space) ||
        decide (12 < chainBefore sets h + 1 + chainAfter sets h), Rc.param)]
    | 2 => [(!wordClean (1 + l) 0 (w 0) || !colourOk (w 10) || decide (bits (w 0) 8 2 ≠ 0 ∨ bits (w 5) 0 14 % 2 ≠ 0 ∨
        bits (w 6) 0 14 % 2 ≠ 0 ∨ bits (w 6) 0 14 = 0 ∨ bits (w 6) 16 14 = 0), Rc.param)]
    | 0 =>
      match s.handleDesc (w 1) with
      | none => [(true, Rc.stale)]
      | some i =>
        let d := s.desc i
        let hi := decide (s.rStruct x.raster = 4)
        let rows := decide (bits (w 4) 0 12 % 2 ≠ 0 ∨ bits (w 4) 16 12 % 2 ≠ 0 ∨ bits (w 5) 16 14 % 2 ≠ 0 ∨
          bits (w 6) 16 14 ≠ bits (w 4) 16 12)
        [(decide (d.kind = 2 ∨ d.struct ≤ 2 ∨ (d.kind = 0 ∧ d.rate ≠ s.rRate x.raster) ∨ (d.kind = 1 ∧ bit (w 0) 4) ∨
            widthOf d.width ≠ formatWidth d.struct d.rate) || decide (hi ≠ decide (d.struct = 4)) || (hi && rows), Rc.format),
         (s.bufferParamBad x l (picture d.struct) (pairSource d) (d.kind = 0) d.capacity, Rc.param),
         (x.scaled l && decide (32768 < bits (w 7) 0 4 * Nat.min (bits (w 3) 16 13) (bits (w 6) 0 14)), Rc.lines)]
    | _ => [(true, Rc.param)]

/-- The output block fails (R251, R267, R282, R283), whether or not the set enables the head. -/
def State.outputBad (s : State) (x : HSet) : Bool :=
  !headFormat (s.rStruct x.raster) (s.rRate x.raster) || (List.range 4).any (fun i => !wordClean 0 i (x 0 i)) ||
    !colourOk (x 0 1) || (bit (x 0 0) 4 && !(List.range 8).all fun l => (List.range 8).any fun k => bits (x 0 2) (3 * k) 3 = l)

/-- A grant of `n` for a head class covers pixel rate `p` (Table 15-1). -/
def State.headGrant (s : State) (n cls inst p : Nat) : Bool :=
  match s.heldBy n cls inst with
  | some param => decide (p ≤ pixelRate (param % 16) (param / 16 % 16))
  | none => false

/-- A layer's fetch demand in B/s * 1001 (R279): whole frames a second times 1,001 over 1, or 1,000 at the 1/1.001 rates. -/
def State.layerDemand (s : State) (x : HSet) (l : Nat) : Nat :=
  let w := x (1 + l)
  if !x.layerEn l || decide (x.kind l ≠ 0) then 0
  else
    match s.handleDesc (w 1) with
    | none => 0
    | some i =>
      let d := s.desc i
      let hgt := (picture d.struct).2
      let half := pairSource d && decide (bits (w 0) 8 2 ≠ 1)
      let r := s.rRate x.raster
      ceilDiv (activeBytes d.struct d.rate * widthOf d.width * Nat.min (bits (w 4) 16 12) hgt) (Nat.max 1 hgt * if half then 2 else 1)
        * nominalRate r * (if fractional r then 1000 else 1001)

/-- Demand of a set over its enabled layers, and the committed demand with `x` put for head `h`'s accepted set (R279, R280). -/
def State.setDemand (s : State) (x : HSet) : Nat := ((List.range 8).map (s.layerDemand x)).foldl (· + ·) 0
def State.committed (s : State) (h : Nat) (x : HSet) : Nat :=
  ((List.range 96).map fun g =>
    let acc := if g = h then s.setDemand x else if (s.head g).accepted then s.setDemand (s.stagedSet g) else 0
    Nat.max (s.setDemand (s.activeSet g)) acc).foldl (· + ·) 0

/-- The fetch reservation in GB/s (R280). -/
def State.fetchResv (s : State) : Nat :=
  let t := s.rd F.OCHRE_FETCH_GRANT_GRANT 0
  if s.grantOk t Gc.fetch 0 then s.rd F.ADMIT_LEDGER_PARAM (t % 4096) % 512 else 0

/-- Layers of a set that need a scaler they do not hold (R261). -/
def State.newScalers (s : State) (h : Nat) (x : HSet) : List Nat :=
  (List.range 8).filter fun l => x.scaled l && !(s.activeSet h).scaled l

/-- The grant checks of a set for master `n`, with the detail of each: an enabled head, each enabled layer and each layer with
SCALE set need a grant (R280). The head's own grant fails in its output block: DEDUCED (log 143). -/
def State.grantFails (s : State) (n h : Nat) (x : HSet) : List (Bool × Nat) :=
  let p := pixelRate (s.rStruct x.raster) (s.rRate x.raster)
  (x.en && !s.headGrant n Gc.head h p, 0x100) :: (decide (s.fetchResv * 1001000000000 < s.committed h x), 0x100)
    :: (List.range 8).map fun l => ((x.layerEn l && !s.headGrant n Gc.layer (8 * h + l) p) ||
      (x.scaled l && !s.headGrant n Gc.scaler (8 * h + l) p), l)

/-- The latch of frame `f` of raster `r`: its frame and line, and the line count at which the deadline clock falls (R208). -/
def State.latchOf (s : State) (r f : Nat) : Nat × Nat :=
  let o := s.latchFor r f
  if o ≠ 0 then (f, o) else if s.rStruct r = 1 then (f + 1, 1) else (f, builtinLatch (s.rStruct r))

/-- The first frame at or after `t` whose deadline has not come (R208). -/
def State.headFrame (s : State) (r t : Nat) : Nat :=
  let e := s.egress r
  let here := e.frame * s.rLines r + e.line
  let cands := (List.range 4).map (· + Nat.max t (e.frame - 1))
  (cands.find? fun f => let l := s.latchOf r f; decide (here + 1 < l.1 * s.rLines r + l.2)).getD (Nat.max t (e.frame + 2))

/-- The result of committing head `h` for master `n` against target frame `t` on raster `r` (R207, R281): code and detail, which
names the failing layer, or in [8] the output block. Of several that fail with the lowest code, the output block stands before the
layers, and a lower layer before a higher: DESIGN CHOICE (log 143). -/
def State.headCode (s : State) (n h r t : Nat) (named validate : Bool) : Nat × Nat :=
  let x := s.stagedSet h
  let y := s.head h
  let at' := s.latchOf r (s.headFrame r t)
  let out := s.outputBad x || ((s.activeSet h).en && decide (x.raster ≠ (s.activeSet h).raster))
  let param := if validate then (out, Rc.param, 0x100) ::
      ((List.range 8).flatMap fun l => (s.layerFails h l x at').map fun c => (c.1, c.2, l)) else []
  let grants := (s.grantFails n h x).map fun c => (c.1, Rc.noGrant, c.2)
  let want := s.newScalers h x
  let free := s.rd F.OCHRE_STATUS_SCALERS_FREE 0
  let all := [(!s.commitsOk, Rc.mode, 0), (!named || !s.enabled r, Rc.target, 0),
    (decide (y.claim ≠ some n), Rc.nothing, 0), (y.accepted, Rc.pending, 0),
    (decide (free < want.length), Rc.noScaler, want.getD free 0)] ++ param ++ grants
  let code := firstFail (all.map fun c => (c.1, c.2.1))
  (code, ((all.find? fun c => c.1 && c.2.1 = code).map (·.2.2)).getD 0)

/-! ### Status (OCHRE_STATUS, OCHRE_FETCH_USE, OCHRE_HEAD_STATUS) -/

/-- Bring the registers that follow the sets up to date. -/
def State.ochreShow (s : State) : State :=
  let held := countIf (List.range 768) (fun k => decide (s.rd F.OCHRE_LAYER_STATUS_SCALER k ≠ 255)) + b2n s.wear.scaler.isSome
  let use := ceilDiv (s.committed 96 fun _ _ => 0) 1001000000
  ((((s.wr F.OCHRE_STATUS_SCALERS_FREE 0 (192 - held)).wr F.OCHRE_STATUS_HEADS_RUNNING 0
    (countIf (List.range 96) fun h => s.on F.OCHRE_HEAD_STATUS_RUNNING h)).wr F.OCHRE_FETCH_USE_USE 0 use).wr
    F.OCHRE_FETCH_GRANT_RESV 0 s.fetchResv).loadShow

/-- The head log shows its head record; COUNT follows it. -/
def State.setOchreLog (s : State) (q : List (List Nat)) : State :=
  let h := q.headD []
  forEach (List.range 4) (fun k s => s.wr F.OCHRE_LOG_EVT_WORD k (h.getD k 0))
    ({ s with ochreLog := q }.wr F.OCHRE_LOG_QSTAT_COUNT 0 q.length)

/-- Note a condition of head `h` (layer 8: the output block) in the frame it composes: logged unless it held in the frame before
(R284). -/
def State.headCond (s : State) (h l reason detail : Nat) : State :=
  let x := s.head h
  let e := s.egress (s.activeSet h).raster
  let was := tget x.cond (reason * 16 + l) 0
  let s1 := s.setHead h { x with cond := tput x.cond (reason * 16 + l) (x.begun + 1) 0 }
  if was = x.begun + 1 ∨ was = x.begun ∧ x.begun ≠ 0 then s1
  else
    let r := [h + 128 * b2n (l = 8) + 256 * (l % 8) + 65536 * reason + 2 ^ 24 * detail, e.frame % 2 ^ 32,
      e.frame / 2 ^ 32 % 2 ^ 32, e.line % 4096 + 65536 * (s.ochreSeq % 65536)]
    let s2 := { s1 with ochreSeq := (s1.ochreSeq + 1) % 65536 }
    if s.ochreLog.length < 256 then s2.setOchreLog (s.ochreLog ++ [r])
    else ((s2.incSat F.OCHRE_LOG_LOST_LOST 0).wr F.OCHRE_LOG_QSTAT_OVF 0 1).event F.OCHRE_EVENT_LOG_OVF 0 Irq.ochre

/-- A write of OCHRE_LOG_POP. -/
def State.ochrePop (w : Nat) (s : State) : State := if bit w 0 then s.setOchreLog s.ochreLog.tail else s

/-- OCHRE_LOG_POP: a write with bit 0 set removes the head record. -/
def execOchreLogPop (w : Word) (s : State) : Host.Outcome State Fault Refusal :=
  ok (s.hostWrite 0xA0044 w.toNat (State.ochrePop w.toNat))

/-! ### Staging (R205, R206, R255, R257) -/

/-- The words a set defines, as block and word. -/
def setWords : List (Nat × Nat) := (List.range 9).flatMap fun b => (List.range (if b = 0 then 4 else 12)).map fun i => (b, i)

/-- Store a staged word for `n`: a first claim copies the active set (R255). -/
def State.stageWord (s : State) (n h b i v : Nat) : State :=
  let s1 := if (s.head h).claim = some n then s
    else setWords.foldl (fun s k => { s with headStg := tput s.headStg (hkey h k.1 k.2) (s.hAct h k.1 k.2) 0 })
      (s.setHead h { s.head h with claim := some n })
  { s1 with headStg := tput s1.headStg (hkey h b i) (v % 2 ^ 32) 0 }

/-- A host write of word `i` of block `b` of head `h`'s staged set (R257). -/
def State.headStage (h b i w : Nat) (s : State) : State :=
  let x := s.head h
  if x.accepted || (decide (x.claim ≠ none ∧ x.claim ≠ some 7)) then s.event F.OCHRE_EVENT_STAGE_REFUSED 0 Irq.ochre
  else if definedWord b i then s.stageWord 7 h b i w
  else s

/-- HEAD_STAGED_WRITE. -/
def execHeadStagedWrite (h : Fin 96) (b : Fin 9) (i : Fin 64) (w : Word) (s : State) : Host.Outcome State Fault Refusal :=
  ok (s.hostWriteWin true 2 (0x400000 + 0x1000 * h.val + 0x100 * b.val + 4 * i.val) w.toNat
    (State.headStage h.val b.val i.val w.toNat))

/-- LSET by engine `n` of selector `g`, index `imm` and value `v` (R205, R206): the state and the code. -/
def State.lset (s : State) (n g imm v : Nat) : State × Nat :=
  let h := g % 128
  let l := bits g 8 3
  let hw := bit g 11
  let b := if hw then 0 else 1 + l
  let x := s.head h
  let bad := decide (96 ≤ h ∨ bits g 7 1 ≠ 0 ∨ 2 ^ 12 ≤ g ∨ (hw = true ∧ l ≠ 0) ∨ 64 ≤ imm) || !definedWord b imm || !wordClean b imm v
  let code := firstFail [(bad, Rc.arg), (decide (x.claim ≠ none ∧ x.claim ≠ some n), Rc.conflict), (x.accepted, Rc.pending)]
  if code = 0 then (s.stageWord n h b imm v, 0) else (s, code)

/-- Discard a master's staged words of a head and end its claim. -/
def State.unclaim (h : Nat) (n : Nat) (s : State) : State :=
  if (s.head h).claim = some n ∧ !(s.head h).accepted then s.setHead h { s.head h with claim := none } else s

/-- Every head claimed by a master (R156, R206). -/
def State.unclaimAll (s : State) (n : Nat) : State := forEach (List.range 96) (fun h s => s.unclaim h n) s

/-! ### Commits (R207, R208, R261, R281, R283) -/

/-- A free scaler, the device's choice: none that a layer holds or a spare test uses. -/
def State.freeScaler (s : State) : State × Option Nat :=
  let d := s.draw
  (d.1, ((List.range 192).map fun i => (d.2 + i) % 192).find? fun k =>
    !((List.range 768).any fun j => s.rd F.OCHRE_LAYER_STATUS_SCALER j = k) && decide (s.wear.scaler ≠ some k))

/-- Reserve a scaler for layer `l` of head `h`. -/
def State.takeScaler (s : State) (h l : Nat) : State :=
  match s.freeScaler with
  | (s1, some k) => s1.wr F.OCHRE_LAYER_STATUS_SCALER (8 * h + l) k
  | (s1, none) => s1

/-- Return the scalers of head `h` that set `x` does not use. -/
def State.dropScalers (s : State) (h : Nat) (x : HSet) : State :=
  forEach ((List.range 8).filter fun l => !x.scaled l) (fun l s => s.wr F.OCHRE_LAYER_STATUS_SCALER (8 * h + l) 255) s

/-- Show the end of a commit attempt or of a commit. -/
def State.headStatus (s : State) (h st n code detail : Nat) (val : Bool) : State :=
  (((((s.wr F.OCHRE_HEAD_COMMIT_STATUS_STATE h st).wr F.OCHRE_HEAD_COMMIT_STATUS_MASTER h n).wr
    F.OCHRE_HEAD_COMMIT_STATUS_VALIDATED h (b2n val)).wr F.OCHRE_HEAD_COMMIT_STATUS_RESULT h code).wr
    F.OCHRE_HEAD_COMMIT_STATUS_DETAIL h detail)

/-- Report a refused commit of head `h`. -/
def State.headRefused (s : State) (n h code detail : Nat) (validate : Bool) : State :=
  if (s.head h).accepted then s else s.headStatus h 3 n code detail validate

/-- Accept the commit of head `h` for master `n` toward frame `t` of raster `r` (R207, R208). -/
def State.headAccept (s : State) (n h r t : Nat) (validate : Bool) : State :=
  let f := s.headFrame r t
  let s1 := forEach (s.newScalers h (s.stagedSet h)) (fun l s => s.takeScaler h l) s
  let s2 := s1.setHead h { s1.head h with claim := none, accepted := true, master := n, frame := f, latch := s.latchOf r f, raster := r
                                          offs := (s.raster r).offs }
  let s3 := ((s2.headStatus h 1 n 0 0 validate).wr64 F.OCHRE_HEAD_COMMIT_STATUS_FRAME_LO
    F.OCHRE_HEAD_COMMIT_STATUS_FRAME_HI h f).wr F.OCHRE_HEAD_COMMIT_STATUS_RASTER h r
  s3.ochreShow

/-- Commit head `h` (R207, R281): the state and the code. -/
def State.headCommit (s : State) (n h r t : Nat) (validate : Bool) : State × Nat :=
  let c := s.headCode n h r t true validate
  (if c.1 ≠ 0 then s.headRefused n h c.1 c.2 validate else s.headAccept n h r t validate, c.1)

/-- A write of OCHRE_HCOMMIT_CTRL (R281): GO, then DISCARD. -/
def State.headCtrl (w : Nat) (s : State) : State :=
  let s1 := s.writeWord 0xA0020 w
  let h := s1.rd F.OCHRE_HCOMMIT_CTRL_HEAD 0
  let r := (s1.stagedSet h).raster
  let s2 := if bit w 0 then
      let t := s1.widen r (s1.on F.OCHRE_HCOMMIT_CTRL_STYLE 0) (if s1.on F.OCHRE_HCOMMIT_CTRL_STYLE 0 then
        s1.rd F.OCHRE_HCOMMIT_TGT_FRAME_LO 0 else s1.rd64 F.OCHRE_HCOMMIT_TGT_FRAME_LO F.OCHRE_HCOMMIT_TGT_FRAME_HI 0)
      let c := s1.headCommit 7 h r t (s1.on F.OCHRE_HCOMMIT_CTRL_VALIDATE 0)
      if c.2 = 0 then c.1 else c.1.event F.OCHRE_EVENT_HCOMMIT_REFUSED 0 Irq.ochre
    else s1
  if bit w 1 then s2.unclaim h 7 else s2

/-- HEAD_COMMIT_GO: a write with GO set. -/
def execHeadCommitGo (w : Word) (s : State) : Host.Outcome State Fault Refusal :=
  ok (s.hostWriteSet 0xA0020 w.toNat 1 State.headCtrl)

/-- HEAD_COMMIT_DISCARD: a write with DISCARD set. -/
def execHeadCommitDiscard (w : Word) (s : State) : Host.Outcome State Fault Refusal :=
  ok (s.hostWriteSet 0xA0020 w.toNat 2 State.headCtrl)

/-- Discard head `h`'s accepted commit (R283): its scaler reservations return. -/
def State.headDiscard (h : Nat) (s : State) : State :=
  let x := s.head h
  if !x.accepted then s
  else ((((s.setHead h { x with accepted := false }).wr F.OCHRE_HEAD_COMMIT_STATUS_STATE h 4).dropScalers h (s.activeSet h))).ochreShow

/-! ### A running head (R270-R278) -/

/-- Rows of an interlaced picture come field after field; row `y` of `n` is the `rowOrder`-th in the order of composition. -/
def rowOrder (inter : Bool) (n y : Nat) : Nat := if inter then y / 2 + (if y % 2 = 1 then (n + 1) / 2 else 0) else y

/-- The row that is `k`-th in the order of composition. -/
def rowAt (inter : Bool) (n k : Nat) : Nat := if inter then (if k < (n + 1) / 2 then 2 * k else 2 * (k - (n + 1) / 2) + 1) else k

/-- The strand line that carries source picture line `y` (R95, R229). -/
def storeLine (st y : Nat) : Nat := if st = 6 then 42 + y / 2 else pictureLine st y

/-- First and last source row, counted from the crop's top, that output row `j` of a layer uses (R258, R259): its own row where
nothing scales vertically, as on an interlaced head (R262). -/
def HSet.rowsFor (x : HSet) (inter : Bool) (l j : Nat) : Nat × Nat :=
  let w := x (1 + l)
  let ch := bits (w 4) 16 12
  if x.scaled l && !inter then
    let oh := Nat.max 1 (bits (w 6) 16 14)
    let t := bits (w 7) 0 4
    -- centre row, floor((2 j + 1) ch / (2 oh) - 1 / 2), may lie half a row above the crop
    let c := ((2 * j + 1) * ch + oh) / (2 * oh)
    (Nat.min (ch - 1) (c - 1 - (t - 1) / 2), Nat.min (ch - 1) (c + t / 2 - 1))
  else (Nat.min (ch - 1) j, Nat.min (ch - 1) j)

/-- A layer's visible output rows in a picture of `hgt` lines: the first, and the first below it that is not (R258). -/
def HSet.visible (x : HSet) (hgt l : Nat) : Nat × Nat :=
  let y := sx 14 (bits (x (1 + l) 5) 16 14)
  ((-y).toNat, Nat.min (bits (x (1 + l) 6) 16 14) ((hgt : Int) - y).toNat)

/-- The source rows that a layer's visible rows use: the first, and how many. -/
def HSet.span (x : HSet) (inter : Bool) (hgt l : Nat) : Nat × Nat :=
  let v := x.visible hgt l
  if v.2 ≤ v.1 then (0, 0)
  else
    let a := (x.rowsFor inter l v.1).1
    (a, (x.rowsFor inter l (v.2 - 1)).2 + 1 - a)

/-- Source rows of its span that must have been fetched, in the order of composition, once output row `j` is composed. -/
def HSet.needed (x : HSet) (inter : Bool) (hgt l j : Nat) : Nat :=
  let v := x.span inter hgt l
  rowOrder inter v.2 ((x.rowsFor inter l j).2 - v.1) + 1

/-- How many source rows a layer's fetch buffer lets come, when picture line `y` is composed next and `used` rows have been: six
beyond those the line before has used, or beyond those a scaler takes in before the last that line `y` needs (R277). -/
def HSet.room (x : HSet) (inter : Bool) (hgt l used y : Nat) : Nat :=
  let v := x.visible hgt l
  let j : Int := (y : Int) - sx 14 (bits (x (1 + l) 5) 16 14)
  let j := if j < v.1 then v.1 + (if inter then y % 2 else 0) else j.toNat
  let need := if v.2 ≤ j then 0 else x.needed inter hgt l j
  Nat.min (x.span inter hgt l).2 (Nat.max used (need - 1) + 6)

/-- A source picture line stored at clock `t` meets the chase requirement for an output line whose egress lies `ahead` samples
of raster `r` from now (R274). -/
def State.chaseOk (s : State) (r lines : Nat) (ahead : Int) (t : Nat) : Bool :=
  decide (t ≠ 0) && decide (((lines * s.rSamples r : Nat) - ahead) * (s.phaseFull r : Int) ≤ ((s.clk - t) * s.phaseStep r : Nat))

/-- Samples of raster `r` from now to the egress instant of picture line `y` of frame `f`. -/
def State.toPicture (s : State) (r f y : Nat) : Int :=
  let e := s.egress r
  (((f : Int) - e.frame) * s.rLines r + ((pictureLine (s.rStruct r) y : Int) - e.line)) * s.rSamples r - e.sample

/-- Switch a layer off: LAYER_OFF, and the frame counted in OFF_FRAMES where `count` says so. -/
def State.layerOff (s : State) (h l : Nat) (count : Bool) : State :=
  let s1 := (s.setLayer h l { s.layer h l with on := false }).event F.OCHRE_EVENT_LAYER_OFF 0 Irq.ochre
  if count then s1.incSat F.OCHRE_LAYER_STATUS_OFF_FRAMES (8 * h + l) else s1

/-- Show stored frame `q` of the buffer a layer names. -/
def State.layerShow (s : State) (h l hd q : Nat) : State :=
  (s.setLayer h l { last := some (hd, q), was := (s.layer h l).was, on := true }).wr F.OCHRE_LAYER_STATUS_PLAY_SEQ (8 * h + l) q

/-- A payload ID that a layer refuses (R96, R272): other than 4:2:2 at 10 bits, square division, or 3G level B. -/
def pidRefused (v : Nat) : Bool := !pid422 v || Config.pidSqd v || decide (pidClass v = some 3)

/-- The payload ID of a frame: a RING's stored ones, a STILL's in its strand-frame headers, of which 0 is accepted (R272). -/
def State.framePidBad (s : State) (i : Nat) (f : Option Stored) : State × Bool :=
  let d := s.desc i
  match f with
  | some f => (s, pidRefused f.pid)
  | none =>
    (List.range (widthOf d.width)).foldl (fun a k =>
      let o := d.strandAt 0 k + 0x18
      let b := (List.range 4).foldl (fun (c : State × Nat) j => let x := c.1.readByte i (o + j); (x.1, c.2 + x.2 * 256 ^ j)) (a.1, 0)
      (b.1, a.2 || (decide (b.2 ≠ 0) && pidRefused b.2))) (s, false)

/-- The stored frame a RING layer chooses (R273, R274). -/
def State.layerChoice (s : State) (h l : Nat) (d : Desc) : Option Stored :=
  let x := s.activeSet h
  let w := x (1 + l)
  if bit (w 0) 4 then
    let p := sx 14 (bits (w 5) 16 14)
    let src := bits (w 4) 0 12 + (x.rowsFor (s.rStruct x.raster = 4) l (-p).toNat).1
    let j := s.headAhead h
    let ahead := s.toPicture x.raster ((s.head h).begun) p.toNat
    d.stored.find? fun f => s.chaseOk x.raster (w 2 + j) ahead (tget f.at' (storeLine d.struct src) 0)
  else (d.stored.filter (·.done))[w 2 - 1]?

/-- A layer that is not ready (R273): REPEAT shows the frame before again while its slot holds it; else it is switched off. -/
def State.layerNotReady (s : State) (h l i : Nat) : State :=
  let w := s.activeSet h (1 + l)
  let hd := w 1
  let held := match (s.layer h l).last with
    | some (hd', q) => if hd' = hd ∧ ((s.desc i).kind = 1 ∨ (s.desc i).stored.any fun f => f.seq = q) then some q else none
    | none => none
  let s1 := s.headCond h l 0x04 0
  match bit (w 0) 3, held with
  | false, some q => (s1.layerShow h l hd q).incSat F.OCHRE_LAYER_STATUS_REPEAT (8 * h + l)
  | _, _ => s1.layerOff h l true

/-- The start of a frame for an enabled BUFFER layer whose checks pass (R272-R275). -/
def State.bufferStart (s : State) (h l : Nat) : State :=
  let hd := s.activeSet h (1 + l) 1
  match s.handleDesc hd with
  | none => (s.headCond h l 0x02 0).layerOff h l true
  | some i =>
    let d := s.desc i
    if !s.leased i then (s.headCond h l 0x03 0).layerOff h l true
    else if d.kind = 1 then
      let p := s.framePidBad i none
      if p.2 then ((p.1.incSat F.OCHRE_LAYER_STATUS_FMT_REJECT (8 * h + l)).headCond h l 0x07 0).layerNotReady h l i
      else p.1.layerShow h l hd 0
    else
      match s.layerChoice h l d with
      | none => s.layerNotReady h l i
      | some f =>
        if (s.framePidBad i (some f)).2 then
          ((s.incSat F.OCHRE_LAYER_STATUS_FMT_REJECT (8 * h + l)).headCond h l 0x07 0).layerNotReady h l i
        else if (s.layer h l).last = some (hd, f.seq) then s.layerNotReady h l i
        else s.layerShow h l hd f.seq

/-- Head `g`'s frame `f` is ready for a cascade: the head composes it, and not every enabled layer of it is switched off. Which
frame is 'not ready under its own layers' conditions' is DEDUCED (log 144). -/
def State.cascadeReady (s : State) (g f : Nat) : Bool :=
  let x := s.activeSet g
  let ls := (List.range 8).filter x.layerEn
  (s.head g).live && decide ((s.head g).begun = f) && (ls.isEmpty || ls.any fun l => (s.layer g l).on)

/-- The start of a frame for layer `l` (R271-R275, R282). -/
def State.layerStart (h : Nat) (l : Nat) (s : State) : State :=
  let x := s.activeSet h
  if !x.layerEn l then (s.setLayer h l {}).wr F.OCHRE_LAYER_STATUS_CFG_BAD (8 * h + l) 0
  else
    let code := firstFail ((s.layerFails h l x (s.latchOf x.raster (s.egress x.raster).frame)).filter fun c => decide (c.2 ≠ Rc.stale))
    let s1 := s.wr F.OCHRE_LAYER_STATUS_CFG_BAD (8 * h + l) (b2n (decide (code ≠ 0)))
    if code ≠ 0 then ((s1.headCond h l 0x06 code).event F.OCHRE_EVENT_CFG_BAD 0 Irq.ochre).layerOff h l true
    else
      match x.kind l with
      | 1 => if s.cascadeReady (h - 1) (s.head h).begun then s1.setLayer h l { on := true }
             else (s1.headCond h l 0x08 0).layerOff h l true
      | 2 => s1.setLayer h l { on := true }
      | _ => s1.bufferStart h l

/-- Whether the frame that head `h` composes is a valid source's (R253). -/
def State.headRuns (s : State) (h : Nat) : Bool :=
  let x := s.activeSet h
  let only := x.cascades && ((List.range 7).all fun l => !x.layerEn (l + 1))
  x.en && !s.outputBad x && !(only && !(s.head (h - 1)).live)

/-- Judge head `h`'s active set for the frame it composes (R253, R270, R282). A disabled head's output block is not judged:
DESIGN CHOICE (log 143). -/
def State.headJudge (h : Nat) (s : State) : State :=
  let x := s.activeSet h
  let bad := x.en && s.outputBad x
  let s1 := ((s.wr F.OCHRE_HEAD_STATUS_HEAD_CFG_BAD h (b2n bad)).wr F.OCHRE_HEAD_STATUS_CHAINED h (b2n x.cascades)).wr
    F.OCHRE_HEAD_STATUS_AHEAD h (s.headAhead h)
  let s2 := s1.setHead h { s1.head h with live := s.headRuns h }
  if bad then (s2.headCond h 8 0x09 Rc.param).event F.OCHRE_EVENT_CFG_BAD 0 Irq.ochre else s2

/-- The layers `ls` of head `h` start the frame it composes. -/
def State.headLayers (h : Nat) (ls : List Nat) (s : State) : State :=
  if (s.activeSet h).en && !s.outputBad (s.activeSet h) then forEach ls (fun l s => s.layerStart h l) s
  else forEach ls (fun l s => s.setLayer h l {}) s

/-- The first clock of a frame that head `h` composes: what its layers showed is told, and they choose. -/
def State.headStart (h : Nat) (s : State) : State :=
  let x := s.activeSet h
  let v := s.head h
  let e := addSamples (s.egress x.raster) (s.headAhead h * s.rSamples x.raster) (s.rLines x.raster) (s.rSamples x.raster)
  let ls := List.range 8
  let shown := ls.foldl (fun a l => a + b2n (s.layer h l).on * 2 ^ l) 0
  let s1 := (s.setHead h { v with begun := e.frame, line := 0, prev := v.out, out := [] }).wr F.OCHRE_HEAD_STATUS_SHOWN h shown
  let s2 := forEach ls (fun l s => (s.setLayer h l { s.layer h l with was := (s.layer h l).last }).wr F.OCHRE_LAYER_STATUS_SHOWN
    (8 * h + l) (b2n (s.layer h l).on)) s1
  ((s2.headJudge h).headLayers h ls).ochreShow

/-- Line 1 of a frame of head `h` at its output, in house time: it turns RUNNING or lost as the frame it composed says (R253). -/
def State.headShow (h : Nat) (s : State) : State :=
  let v := s.head h
  let f := (s.egress (s.activeSet h).raster).frame
  let s1 := if s.on F.OCHRE_HEAD_STATUS_RUNNING h then s.addWrap F.OCHRE_HEAD_STATUS_FRAMES h 1 else s
  let s2 := (s1.setHead h { v with shown := f }).wr F.OCHRE_HEAD_STATUS_RUNNING h (b2n v.live)
  (s2.showSrc (6272 + 4 * h) 4).recCheck.ochreShow

/-- HEAD_FRAME_START: the first clock of a frame of the head, on the egress timeline advanced by the lines it computes ahead, where
it starts to compose the frame (R270, R273); and in house time, where its output turns valid or lost (R253). -/
def execHeadFrameStart (h : Fin 96) (s : State) : Host.Outcome State Fault Refusal :=
  let x := s.activeSet h
  let r := x.raster
  let e := addSamples (s.egress r) (s.headAhead h * s.rSamples r) (s.rLines r) (s.rSamples r)
  let s1 := if s.enabled r && (x.en || (s.head h).live) && decide (e.frame ≠ (s.head h).begun) then s.headStart h else s
  ok (if s.enabled r && (s1.on F.OCHRE_HEAD_STATUS_RUNNING h || (s1.head h).live) && decide ((s.egress r).frame ≠ (s.head h).shown) then
    s1.headShow h else s1)

/-- The accepted set becomes active (R283). A head whose frame began before the latch, by the lines it computes ahead, takes its new
parameters for that frame (R270): the layers whose words changed choose again, against what they showed in the frame before. -/
def State.headLatch (h : Nat) (s : State) : State :=
  let x := s.head h
  let old := s.activeSet h
  let s1 := setWords.foldl (fun s k => { s with headAct := tput s.headAct (hkey h k.1 k.2) (s.hStg h k.1 k.2) 0 }) s
  let s2 := ((s1.setHead h { x with accepted := false, latches := (x.latches + 1) % 2 ^ 32 }).wr F.OCHRE_HEAD_COMMIT_STATUS_STATE h 2).dropScalers h (s1.activeSet h)
  let s3 := if x.master = 7 then s2.event F.OCHRE_EVENT_HCOMMIT_DONE 0 Irq.ochre else s2.engEvent x.master 9
  let ls := (List.range 8).filter fun l => (List.range 12).any fun i => decide (old (1 + l) i ≠ s3.activeSet h (1 + l) i)
  (if old.en && decide ((s.egress x.raster).frame < x.begun) then
    (forEach ls (fun l s => s.setLayer h l { s.layer h l with last := (s.layer h l).was }) (s3.headJudge h)).headLayers h ls
  else s3).ochreShow

/-- The latch of head `h`'s accepted commit, where it has come, or its raster was disabled since (R283). Heads that a
BLOCK_RESET marked are re-initialised from their active sets at a latch line (Table 16-1). -/
def State.headEffect (h : Nat) (s : State) : State :=
  let x := s.head h
  let r := if x.accepted then x.raster else (s.activeSet h).raster
  let e := s.egress r
  let phys := s.rd F.OCHRE_HEAD_STATUS_PHYS h
  let lost := x.accepted && (!s.enabled r || decide ((s.raster r).offs ≠ x.offs))
  let due := x.accepted && decide (x.latch.1 < e.frame ∨ (x.latch.1 = e.frame ∧ x.latch.2 ≤ e.line))
  let here := s.enabled r && decide ((e.frame, e.line) = s.latchOf r e.frame)
  let s1 := if here && tget s.headReinit phys false then
      forEach (List.range 8) (fun l s => s.setLayer h l {}) { s with headReinit := tput s.headReinit phys false false }
    else s
  if lost || (due && s.mode = Mode.safe) then s1.headDiscard h else if due then s1.headLatch h else s1

/-- HEAD_LATCH. -/
def execHeadLatch (h : Fin 96) (s : State) : Host.Outcome State Fault Refusal := ok (s.headEffect h.val)

/-- Member strands that carry source picture line `y` (R95). -/
def strandsOf (d : Desc) (y : Nat) : List Nat :=
  if d.struct = 6 then (if storePair d.struct d.rate then [y % 2] else [2 * (y % 2), 2 * (y % 2) + 1]) else [0]

/-- Source picture line `y` of frame number `q` of buffer `i`, as it is stored, its line at offset `o` of each strand-frame;
bytes that nothing wrote are open. -/
def State.fetchRow (s : State) (i q o y : Nat) (sub : Nat) : State × SrcRow :=
  let d := s.desc i
  let n := lineBytes d.struct d.rate
  let w := s.draw
  let b := (List.range (widthOf d.width)).map fun k => (List.range n).map fun j =>
    let v := tget s.sable.bytes (byteKey i (d.strandAt q k + o + j)) 256
    if v < 256 then v else Config.unwrittenByte w.2 k j % 256
  (w.1, sourceRow d.struct (storePair d.struct d.rate) sub y b)

/-- Picture line `row` of stored frame `q` of a layer's source may be fetched: a chase layer's waits until it is complete. -/
def State.rowStored (d : Desc) (chase : Bool) (q row : Nat) : Bool :=
  !chase || !(d.stored.any fun f => f.seq = q && decide (tget f.at' (storeLine d.struct row) 0 = 0))

/-- LAYER_LINE_FETCH: the next source line of layer `l` of head `h`, when its six-line buffer has room (R277). `bad`: the
port whose data came poisoned, or (`tmo`) not within 20 us. -/
def execLayerLineFetch (h : Fin 96) (l : Fin 8) (bad : Option (Fin 4)) (tmo : Bool) (s : State) : Host.Outcome State Fault Refusal :=
  let x := s.activeSet h
  let y := s.layer h l
  let w := x (1 + l.val)
  let inter := decide (s.rStruct x.raster = 4)
  let hgt := (s.headPicture x).2
  let span := x.span inter hgt l
  let next := rowAt inter hgt (s.head h).line
  ok (match y.last with
    | none => s
    | some (hd, q) =>
      if !y.on || decide (x.kind l ≠ 0 ∨ x.room inter hgt l y.used next ≤ y.fetched) then s
      else
        match s.readDesc hd with
        | none => ((s.staleRead.headCond h l 0x02 0).layerOff h l true)
        | some i =>
          let d := s.desc i
          let row := rowAt inter span.2 y.fetched + span.1 + bits (w 4) 0 12
          if !State.rowStored d (bit (w 0) 4) q row then s
          else
          let n := lineBytes d.struct d.rate
          let o := match activeIndex d.struct (storeLine d.struct row) with
            | some j => 64 + j * n
            | none => 64
          let q := if d.kind = 1 then 0 else q
          let dry := (strandsOf d row).any fun k => (pageSpan (d.strandAt q k + o) n).any fun e =>
            let p := d.pages.getD e { port := 0, page := 0 }; !p.placed || !p.written
          let got := if dry || bad.isSome then (s, {}) else s.fetchRow i q o row (bits (w 0) 5 1)
          let s1 := got.1.noteRead i x.raster
          let s2 := s1.setLayer h l { y with fetched := y.fetched + 1
                                             rows := tput y.rows row got.2 {}
                                             urgent := decide (y.fetched + 1 - y.used < s.rd F.OCHRE_FETCH_CFG_WM 0) }
          let s3 := match bad with
            | some c => if tmo then s2 else s2.poisoned c.val
            | none => s2
          if dry || bad.isSome then s3.incSat F.OCHRE_LAYER_STATUS_NOT_WRITTEN (8 * h.val + l.val) else s3)

/-- A layer's part in composing picture line `y`: its source lines, or the condition that switches it off (R274, R278). -/
def State.layerCompose (h y : Nat) (l : Nat) (s : State) : State :=
  let x := s.activeSet h
  let v := s.layer h l
  let w := x (1 + l)
  let j : Int := (y : Int) - sx 14 (bits (w 5) 16 14)
  if !v.on || decide (x.kind l ≠ 0) || decide (j < 0 ∨ (bits (w 6) 16 14 : Int) ≤ j) then s
  else
    let j := j.toNat
    let inter := decide (s.rStruct x.raster = 4)
    let need := x.needed inter (s.headPicture x).2 l j
    let late := bit (w 0) 4 && (match v.last with
      | some (hd, q) =>
        let d := s.desc (hd % 16384)
        let ahead := s.toPicture x.raster (s.head h).begun y
        let rows := x.rowsFor inter l j
        match d.stored.find? fun f => f.seq = q with
        | some f => ((List.range (rows.2 + 1 - rows.1)).map (· + rows.1)).any fun r =>
            !s.chaseOk x.raster (w 2 + s.headAhead h) ahead (tget f.at' (storeLine d.struct (bits (w 4) 0 12 + r)) 0)
        | none => true
      | none => false)
    if late then ((s.incSat F.OCHRE_LAYER_STATUS_CHASE_MISS (8 * h + l)).headCond h l 0x05 0).layerOff h l false
    else if v.fetched < need then
      ((((s.incSat F.OCHRE_LAYER_STATUS_UNDERRUN (8 * h + l)).event F.OCHRE_EVENT_UNDERRUN 0 Irq.ochre).headCond h l 0x01 0).layerOff h l
        false).faultEvent (Src.ochre (s.rd F.OCHRE_HEAD_STATUS_PHYS h)) false
    else s.setLayer h l { v with used := Nat.max v.used need }

/-- Layer `l` of head `h` in picture line `y`, pixel by pixel (R258, R266, R269): nothing where it is off or outside its
rectangle, or needs a source line that was not written (R276). -/
def State.layerPixel (s : State) (h y l : Nat) : Nat → LayerPixel :=
  let x := s.activeSet h
  let v := s.layer h l
  let w := x (1 + l)
  let opacity : Int := bits (w 8) 0 10
  let j : Int := (y : Int) - sx 14 (bits (w 5) 16 14)
  let at' := fun (px : Nat) => (px : Int) - sx 14 (bits (w 5) 0 14)
  let inside := fun (px : Nat) => decide (0 ≤ j ∧ j < (bits (w 6) 16 14 : Nat) ∧ 0 ≤ at' px ∧ at' px < (bits (w 6) 0 14 : Nat))
  if !x.layerEn l || !v.on then fun _ => clearPixel
  else
    match x.kind l with
    | 1 =>
      let r := (tget (s.head (h - 1)).out y {}).die
      let r := if r.ok then r else { luma := Config.noLine (2 * y), chroma := Config.noLine (2 * y + 1) }
      fun px => ((opacity, 1023), (comp444 (fx / 4) r 0 px, comp444 (fx / 4) r 1 px, comp444 (fx / 4) r 2 px))
    | 2 => fun px => if inside px then ((opacity, 1023), colourOf (w 10)) else clearPixel
    | _ =>
      let inter := decide (s.rStruct x.raster = 4)
      let use := x.rowsFor inter l j.toNat
      let whole := (List.range (use.2 + 1 - use.1)).all fun k => (tget v.rows (bits (w 4) 0 12 + use.1 + k) {}).ok
      let table := fun e => sx 16 (tget s.lut (2 * 2 ^ 24 + (bits (w 7) 9 3 - 3) * 2 ^ 18 + e) 0)
      let lib := fun kind slot e => tget s.lut (kind * 2 ^ 24 + slot * 2 ^ 18 + e) 0
      fun px =>
        if inside px && whole then
          let c := fun k => layerComp inter w table (fun r => tget v.rows r {}) k (at' px).toNat j.toNat
          let p := (c 0, c 1, c 2)
          (alphaOf (bits (w 0) 8 2) opacity (w 8) (w 9) (c 0) (c 3),
           if bit (w 0) 10 then convert lib (bits (w 0) 11 2) x.space (w 11) p else p)
        else clearPixel

/-- Compose picture line `y` of head `h` (R267, R268). -/
def State.composeRow (h y : Nat) (s : State) : State :=
  let x := s.activeSet h
  let v := s.head h
  let ls := (List.range 8).map fun k => s.layerPixel h y (layerAt (x 0 0) (x 0 2) k)
  let px := (List.range (s.headPicture x).1).map fun i => ls.foldl (fun o f => blend o (f i)) (colourOf (x 0 1))
  let row := outputRow (x 0 0) (bits (x 0 3) 0 16) (pictureLine (s.rStruct x.raster) y) v.begun px
  s.setHead h { v with out := tput v.out y row {} }

/-- HEAD_LINE_COMPOSE: a head whose frame is a valid source's composes its next picture line, in the order its raster carries them, once that line's
instant less the lines it computes ahead has come. -/
def execHeadLineCompose (h : Fin 96) (s : State) : Host.Outcome State Fault Refusal :=
  let x := s.activeSet h
  let v := s.head h.val
  let hgt := (s.headPicture x).2
  let y := rowAt (s.rStruct x.raster = 4) hgt v.line
  let due := decide (v.line < hgt) && decide (s.toPicture x.raster v.begun y ≤ (s.headAhead h * s.rSamples x.raster : Nat))
  ok (if v.live && s.enabled x.raster && due then
    let s1 := s.setHead h { v with line := v.line + 1 }
    (forEach (List.range 8) (fun l s => s.layerCompose h y l) s1).composeRow h y
  else s)

/-! ### The library (R264, R285) -/

/-- Entry words and first and last writable slot of a kind (Table 9-8). -/
def lutWords (kind : Nat) : Nat := match kind with
  | 0 => 3075 | 1 => 71874 | _ => 1024
def lutWritable (kind slot : Nat) : Bool := match kind with
  | 0 => decide (1 ≤ slot ∧ slot ≤ 63) | 1 => decide (1 ≤ slot ∧ slot ≤ 31) | _ => decide (slot ≤ 3)

/-- A set names a slot. -/
def HSet.names (x : HSet) (kind slot : Nat) : Bool :=
  x.en && (List.range 8).any fun l =>
    let w := x (1 + l)
    x.layerEn l && decide (x.kind l = 0) && (match kind with
      | 0 => bit (w 0) 10 && decide (bits (w 11) 0 6 = slot ∨ bits (w 11) 16 6 = slot)
      | 1 => bit (w 0) 10 && decide (bits (w 11) 8 5 = slot)
      | _ => x.scaled l && decide (bits (w 7) 9 3 = slot + 3))

/-- Some active or accepted set names the slot. -/
def State.slotNamed (s : State) (kind slot : Nat) : Bool :=
  (List.range 96).any fun h => (s.activeSet h).names kind slot || ((s.head h).accepted && (s.stagedSet h).names kind slot)

/-- A library operation is refused. -/
def State.lutRefuse (s : State) : State := (s.wr F.OCHRE_LUT_STAT_REFUSED 0 1).event F.OCHRE_EVENT_LUT_REFUSED 0 Irq.ochre

/-- Show the selected slot in OCHRE_LUT_STAT and OCHRE_LUT_CRC. -/
def State.lutShow (s : State) : State :=
  let k := s.rd F.OCHRE_LUT_SEL_KIND 0
  let n := s.rd F.OCHRE_LUT_SEL_SLOT 0
  let v := s.slotValid k n
  (((s.wr F.OCHRE_LUT_STAT_OPEN 0 (b2n (s.lutOpen = some (k * 64 + n)))).wr F.OCHRE_LUT_STAT_VALID 0 (b2n v)).wr
    F.OCHRE_LUT_STAT_IN_USE 0 (b2n (s.slotNamed k n))).wr F.OCHRE_LUT_CRC_CRC 0 (if v then tget s.lutCrc (k * 64 + n) 0 else 0)

/-- A write of OCHRE_LUT_SEL: SLOT and KIND, then OPEN, then CLOSE. -/
def State.lutSel (w : Nat) (s : State) : State :=
  let s1 := s.writeWord 0xA0080 w
  let k := s1.rd F.OCHRE_LUT_SEL_KIND 0
  let n := s1.rd F.OCHRE_LUT_SEL_SLOT 0
  let key := k * 64 + n
  let s2 := if !bit w 16 then s1
    else if lutWritable k n && !s1.slotNamed k n then
      { s1 with lutOpen := some key, lutValid := tput s1.lutValid key false false, lutCrc := tput s1.lutCrc key 0 0 }.wr
        F.OCHRE_LUT_ADDR_ADDR 0 0
    else s1.lutRefuse
  let s3 := if !bit w 17 then s2
    else if s2.lutOpen = some key then
      let s3 := { s2 with lutOpen := none }
      if s2.rd F.OCHRE_LUT_ADDR_ADDR 0 = lutWords k then
        let ws := (List.range (lutWords k)).map fun i => tget s2.lut (k * 2 ^ 24 + n * 2 ^ 18 + i) 0
        { s3 with lutValid := tput s3.lutValid key true false, lutCrc := tput s3.lutCrc key (crcWords ws) 0 }
      else s2.lutRefuse
    else s2.lutRefuse
  s3.lutShow

/-- LUT_OPEN and LUT_CLOSE: a write with OPEN, with CLOSE set. -/
def execLutOpen (w : Word) (s : State) : Host.Outcome State Fault Refusal :=
  ok (s.hostWriteSet 0xA0080 w.toNat 0x10000 State.lutSel)
def execLutClose (w : Word) (s : State) : Host.Outcome State Fault Refusal :=
  ok (s.hostWriteSet 0xA0080 w.toNat 0x20000 State.lutSel)

/-- A write of OCHRE_LUT_DATA. -/
def State.lutData (w : Nat) (s : State) : State :=
  let a := s.rd F.OCHRE_LUT_ADDR_ADDR 0
  match s.lutOpen with
  | some key =>
    if a < lutWords (key / 64) then
      { s with lut := tput s.lut (key / 64 * 2 ^ 24 + key % 64 * 2 ^ 18 + a) (w % 2 ^ 32) 0 }.wr F.OCHRE_LUT_ADDR_ADDR 0 (a + 1)
    else s.lutRefuse
  | none => s.lutRefuse

/-- LUT_DATA_WRITE. -/
def execLutDataWrite (w : Word) (s : State) : Host.Outcome State Fault Refusal :=
  ok (s.hostWrite 0xA0088 w.toNat (State.lutData w.toNat))

end Sys2Proof.Machine
end

