-- ==== Sys2Proof/Machine/Keys.lean ====
section
/-! DEFINITION. Key storage and protection (chapter 19): slots, key update messages, masks, and the keys derived from the
root. -/
namespace Sys2Proof.Machine

/-- USE codes (Table 19-1). -/
abbrev Use.command : Nat := 1
abbrev Use.seal : Nat := 2
abbrev Use.opens : Nat := 3
abbrev Use.wrap : Nat := 4

/-- The bytes of an ASCII label. -/
def ascii (x : String) : List Nat := x.toList.map Char.toNat

/-- Bytes of 32-bit words, little-endian (R5). -/
def wordBytes (ws : List Nat) : List Nat := ws.flatMap leBytes

/-- Word `i` of a byte string. -/
def wordAt (bs : List Nat) (off : Nat) : Nat := leWord (bs.drop off)

/-- `n` bytes from `off`. -/
def sub (bs : List Nat) (off n : Nat) : List Nat := (bs.drop off).take n

/-- All bytes are 0. -/
def zeros (bs : List Nat) : Bool := bs.all fun b => b = 0

/-! ### Derived keys (R483, R484, R492) -/

/-- The test root (R483). -/
def testRoot : List Nat := (Config.sha384 (ascii "FENMAVEL FM1152 TEST ROOT 1")).take 32

/-- The binding key and the wrap key of a root (R484). -/
def bindingKey (root : List Nat) : List Nat := Config.hmacSha384 root (ascii "FM1152-BIND")
def wrapKey (root : List Nat) : List Nat := (Config.hmacSha384 (bindingKey root) (ascii "FM1152-WRAP")).take 32

/-- The start nonce as 8 little-endian bytes. -/
def State.nonceBytes (s : State) : List Nat := leBytes (s.rd F.KEYS_NONCE_LO 0) ++ leBytes (s.rd F.KEYS_NONCE_HI 0)

/-- The key that tags cue records (R492). -/
def State.commandKey (s : State) (slot : Nat) : List Nat :=
  Config.hmacSha256 (tget s.keys.slots slot []) (ascii "FM1152-CMD" ++ s.nonceBytes)

/-! ### The root (R482) -/

/-- A word of 1,023 cells corrected with the helper data for the enrolled word `ref`: the code corrects 55 bit errors. -/
def correct (cell ref : Nat) : Option Nat :=
  let d := Nat.xor cell ref
  if countIf (List.range 1023) (fun i => bit d i) ≤ 55 then some ref else none

/-- The root of 16 words: the first 256 bits of SHA-384 over them, laid end to end from their bit 0 (log 18). -/
def rootOf (ws : List Nat) : List Nat :=
  let v := ws.foldr (fun w n => w % 2 ^ 1023 + 2 ^ 1023 * n) 0
  (Config.sha384 ((List.range 2046).map fun i => v / 256 ^ i % 256)).take 32

/-- The check value of a root. -/
def rootCheck (root : List Nat) : List Nat := (Config.hmacSha384 root (ascii "FM1152-CHECK")).take 8

/-- The production root regenerated from the cells' start-up state with OTP's helper data and check value; none: it fails. -/
def State.regenerate (s : State) (cells : List Nat) : Option (List Nat) :=
  let ws := (List.range 16).map fun i => correct (cells.getD i 0) (s.keys.helper.getD i 0)
  let root := rootOf (ws.map fun w => w.getD 0)
  if ws.all (·.isSome) && !s.keys.helper.isEmpty && decide (rootCheck root = s.keys.check) then some root else none

/-! ### Slots (R486, R487) -/

/-- The OTP counter. -/
def State.otpCtr (s : State) : Nat := s.rd F.KEYS_STATUS_OTP_CTR 0

/-- A COUNTER_BOUND slot whose WRITE_CTR the OTP counter has left. -/
def State.slotRevoked (s : State) (k : Nat) : Bool :=
  s.on F.KEYS_SLOT_ATTR_COUNTER_BOUND k && decide (s.rd F.KEYS_SLOT_ATTR_WRITE_CTR k ≠ s.otpCtr)

/-- Slot `k` is usable for `use` (R487). -/
def State.slotUsable (s : State) (k use : Nat) : Bool :=
  s.on F.KEYS_SLOT_ATTR_VALID k && s.rd F.KEYS_SLOT_ATTR_USE k = use && !s.slotRevoked k

/-- Show REVOKED of every slot. -/
def State.keysShow (s : State) : State :=
  forEach (List.range 64) (fun k s => s.wr F.KEYS_SLOT_ATTR_REVOKED k (b2n (s.slotRevoked k))) s

/-- Every write and every refresh of a slot takes a fresh mask from the entropy source (R488). The key the slot stands for does
not change by it. -/
def State.newMask (k : Nat) (s : State) : State :=
  let d := s.draw
  { d.1 with keys := { d.1.keys with masks := tins d.1.keys.masks k (d.2 % 2 ^ 256) } }

/-- Empty slot `k` (ERASE). -/
def State.slotErase (k : Nat) (s : State) : State :=
  let s1 := (((s.clr F.KEYS_SLOT_ATTR_VALID k).clr F.KEYS_SLOT_ATTR_USE k).clr F.KEYS_SLOT_ATTR_DEBUG_PERMITTED k).clr
    F.KEYS_SLOT_ATTR_LOCKED k
  let s2 := ((s1.clr F.KEYS_SLOT_ATTR_COUNTER_BOUND k).clr F.KEYS_SLOT_ATTR_KEY_ID k).clr F.KEYS_SLOT_ATTR_WRITE_CTR k
  { s2 with keys := { s2.keys with slots := tput s2.keys.slots k [] [], masks := tput s2.keys.masks k 0 0 } }

/-! ### Key update messages (R489-R491) -/

/-- A key update entry (Table 19-3). -/
structure KeyEntry where
  slot : Nat
  op : Nat
  use : Nat
  dbg : Bool
  locked : Bool
  bound : Bool
  keyId : Nat
  wrapSlot : Nat
  bySlot : Bool
  wrapped : List Nat
  resv : Bool
deriving DecidableEq, Repr

/-- Entry `i` of a message: `resv`, a reserved field or the wrapped key of an ERASE is not 0. -/
def keyEntry (m : List Nat) (i : Nat) : KeyEntry :=
  let e := sub m (0x80 + 64 * i) 64
  let w := wordAt e 0
  let op := bits w 6 2
  { slot := bits w 0 6, op := op, use := bits w 8 3, dbg := bit w 11, locked := bit w 12, bound := bit w 13
    keyId := bits w 16 8, wrapSlot := bits w 24 6, bySlot := bit w 30, wrapped := sub e 8 40
    resv := decide (bits w 14 2 ≠ 0 ∨ bit w 31 = true) || !zeros (sub e 4 4) || !zeros (sub e 0x30 16)
      || (op = 2 && !zeros (sub e 8 40)) }

/-- ENTRIES, COUNTER and the entries of a message. -/
def msgEntries (m : List Nat) : Nat := bits (wordAt m 0) 16 4
def msgCounter (m : List Nat) : Nat := bits (wordAt m 4) 0 12
def msgList (m : List Nat) : List KeyEntry := (List.range (msgEntries m)).map (keyEntry m)

/-- Two entries of a list name one slot. -/
def sameSlot (l : List KeyEntry) : Bool :=
  match l with
  | [] => false
  | e :: r => r.any (fun x => x.slot = e.slot) || sameSlot r

/-- Check 1 (FORMAT) fails. -/
def formatBad (m : List Nat) : Bool :=
  let n := msgEntries m
  decide (bits (wordAt m 0) 0 16 ≠ 1 ∨ bits (wordAt m 0) 20 12 ≠ 0 ∨ n = 0 ∨ 8 < n)
  || decide (bits (wordAt m 4) 12 20 ≠ 0 ∨ 2048 < msgCounter m)
  || !zeros (sub m 8 8) || !zeros (sub m 0x71 15) || !zeros (sub m (0x80 + 64 * n) (64 * (8 - n)))
  || (msgList m).any (·.resv) || sameSlot (msgList m)

/-- The test root is in force. -/
def State.testRootOn (s : State) : Bool := s.on F.KEYS_STATUS_TEST_ROOT 0

/-- Check 8 (ATTR) fails for entry `i` of the list. -/
def State.attrBad (s : State) (l : List KeyEntry) (i : Nat) (e : KeyEntry) : Bool :=
  decide (e.op = 3 ∨ e.use = 0 ∨ 4 < e.use)
  || (e.bySlot && (!s.slotUsable e.wrapSlot Use.wrap || (l.take i).any fun x => x.op = 1 && x.slot = e.wrapSlot))
  || (s.testRootOn && e.op = 1 && !e.dbg)

/-- The key an entry carries, unwrapped against the slots as they stood before the message. -/
def State.entryKey (s : State) (e : KeyEntry) : Option (List Nat) :=
  Config.aesUnwrap (if e.bySlot then tget s.keys.slots e.wrapSlot [] else wrapKey s.keys.root) e.wrapped

/-- The first entry that fails a check. -/
def firstBad (l : List KeyEntry) (p : Nat → KeyEntry → Bool) : Option Nat :=
  (List.range l.length).find? fun i => match l[i]? with
    | some e => p i e
    | none => false

/-- RESULT and BAD_ENTRY of a message (R490, Table 19-4), in the table's order. The checks that need a root (5 and 9) are not
made while none is in force, so that RESULT ROOT can be reported (DEDUCED, log 18). -/
def State.keyVerdict (s : State) (m : List Nat) : Nat × Nat :=
  let l := msgList m
  let noRoot := s.on F.TOP_INIT_STATUS_ROOT_FAIL 0
  let owner := sub m 0x10 97
  let hash := if s.testRootOn then Config.sha384 testRoot else s.keys.ownerHash
  if formatBad m then (1, 0)
  else if !s.testRootOn && !s.on F.KEYS_STATUS_ENROLLED 0 then (2, 0)
  else if Config.sha384 owner ≠ hash then (3, 0)
  else if !Config.p384Verify owner (m.take 0x2B0) (sub m 0x2B0 96) then (4, 0)
  else if !noRoot && decide (Config.hmacSha384 (bindingKey s.keys.root) (m.take 0x280) ≠ sub m 0x280 48) then (5, 0)
  else if msgCounter m < s.otpCtr then (6, 0)
  else
    match firstBad l (fun _ e => decide (e.op = 1 ∨ e.op = 2) && s.on F.KEYS_SLOT_ATTR_LOCKED e.slot) with
    | some i => (7, i)
    | none =>
      match firstBad l (fun i e => s.attrBad l i e) with
      | some i => (8, i)
      | none =>
        match firstBad l (fun _ e => !noRoot && e.op = 1 && (s.entryKey e).isNone) with
        | some i => (9, i)
        | none => if noRoot then (10, 0) else (0, 0)

/-- Apply one entry; `s0` is the state before the message. -/
def State.applyEntry (s0 : State) (ctr : Nat) (s : State) (e : KeyEntry) : State :=
  if e.op = 1 then
    let k := e.slot
    let s1 := (((s.wr F.KEYS_SLOT_ATTR_VALID k 1).wr F.KEYS_SLOT_ATTR_USE k e.use).wr
      F.KEYS_SLOT_ATTR_DEBUG_PERMITTED k (b2n e.dbg)).wr F.KEYS_SLOT_ATTR_LOCKED k (b2n e.locked)
    let s2 := ((s1.wr F.KEYS_SLOT_ATTR_COUNTER_BOUND k (b2n e.bound)).wr F.KEYS_SLOT_ATTR_KEY_ID k e.keyId).wr
      F.KEYS_SLOT_ATTR_WRITE_CTR k ctr
    { s2 with keys := { s2.keys with slots := tins s2.keys.slots k ((s0.entryKey e).getD []) } }.newMask k
  else if e.op = 2 then s.slotErase e.slot
  else s

/-- A message is accepted (R491): the OTP counter first, then every entry. -/
def State.keyApply (s : State) (m : List Nat) : State :=
  let c := msgCounter m
  let s1 := if s.otpCtr < c ∧ !s.testRootOn then s.wr F.KEYS_STATUS_OTP_CTR 0 c else s
  let s2 := ((msgList m).foldl (fun x e => s.applyEntry c x e) s1).keysShow
  ((s2.wr F.KEYS_UPD_CTRL_STATE 0 2).wr F.KEYS_UPD_CTRL_RESULT 0 0).event F.KEYS_EVENT_UPD_DONE 0 Irq.hostif

/-- A message is refused with its RESULT. -/
def State.keyRefuse (s : State) (r entry : Nat) : State :=
  let s1 := ((s.wr F.KEYS_UPD_CTRL_STATE 0 3).wr F.KEYS_UPD_CTRL_RESULT 0 r).wr F.KEYS_UPD_CTRL_BAD_ENTRY 0 entry
  (s1.incSat F.KEYS_UPD_FAILS_COUNT 0).event F.KEYS_EVENT_UPD_REFUSED 0 Irq.hostif

/-- A reset that takes the power while a message is processed (R491): fuses of the counter may be burnt already, how many of the
message's steps is free. -/
def State.burnLoss (s : State) : State :=
  let c := msgCounter s.keys.msg
  if s.rd F.KEYS_UPD_CTRL_STATE 0 = 1 && (s.keyVerdict s.keys.msg).1 = 0 && decide (s.otpCtr < c) && !s.testRootOn then
    let d := s.draw
    d.1.wr F.KEYS_STATUS_OTP_CTR 0 (s.otpCtr + d.2 % (c - s.otpCtr + 1))
  else s

/-- The bytes of KEYS_MSG. -/
def State.keysMsg (s : State) : List Nat := wordBytes ((List.range 196).map fun i => s.rd F.KEYS_MSG_WORD i)

/-- CLEAR: KEYS_MSG reads as zeros to the next GO (R489). -/
def State.keysMsgClear (s : State) : State := forEach (List.range 196) (fun i s => s.clr F.KEYS_MSG_WORD i) s

/-- A write of KEYS_UPD_CTRL: GO takes the message as it stands, unless one is being processed (R491); then CLEAR. -/
def State.keysCtrl (w : Nat) (s : State) : State :=
  let s1 := if bit w 0 ∧ s.rd F.KEYS_UPD_CTRL_STATE 0 ≠ 1 then
      let s0 := ((s.wr F.KEYS_UPD_CTRL_STATE 0 1).wr F.KEYS_UPD_CTRL_RESULT 0 0).wr F.KEYS_UPD_CTRL_BAD_ENTRY 0 0
      { s0 with keys := { s0.keys with msg := s.keysMsg } }
    else s
  if bit w 1 then s1.keysMsgClear else s1

/-- KEY_UPDATE_GO: a write with GO set. -/
def execKeyUpdateGo (w : Word) (s : State) : Host.Outcome State Fault Refusal :=
  ok (s.hostWriteSet 0x190010 w.toNat 1 State.keysCtrl)

/-- KEY_UPDATE_COMPLETE: the message being processed is applied whole or refused (R490, R491). -/
def execKeyUpdateComplete (s : State) : Host.Outcome State Fault Refusal :=
  ok (if s.rd F.KEYS_UPD_CTRL_STATE 0 = 1 then
    let v := s.keyVerdict s.keys.msg
    let s1 := if v.1 = 0 then s.keyApply s.keys.msg else s.keyRefuse v.1 v.2
    { s1 with keys := { s1.keys with msg := [] } }
  else s)

/-- KEYS_MSG_CLEAR: a write with CLEAR set. -/
def execKeysMsgClear (w : Word) (s : State) : Host.Outcome State Fault Refusal :=
  ok (s.hostWriteSet 0x190010 w.toNat 2 State.keysCtrl)

/-- KEY_MASK_REFRESH: a millisecond after the last one, every slot takes a fresh mask, while the entropy source passes its
tests (R488). -/
def execKeyMaskRefresh (s : State) : Host.Outcome State Fault Refusal :=
  ok (if s.on F.KEYS_STATUS_TRNG_OK 0 ∧ s.keys.refreshAt + msClk ≤ s.clk then
    let s1 := forEach ((List.range 64).filter fun k => s.on F.KEYS_SLOT_ATTR_VALID k) (fun k s => s.newMask k) s
    { s1 with keys := { s1.keys with refreshAt := s.clk } }
  else s)

/-- TRNG_FAIL: the entropy source fails its continuous tests (R488). -/
def execTrngFail (s : State) : Host.Outcome State Fault Refusal :=
  ok (if s.on F.KEYS_STATUS_TRNG_OK 0 then
    ((s.wr F.KEYS_STATUS_TRNG_OK 0 0).event F.KEYS_EVENT_TRNG_FAIL 0 Irq.hostif).faultEvent Src.keys false
  else s)

end Sys2Proof.Machine
end

