-- ==== Sys2Proof/Machine/Audio.lean ====
section
/-! DEFINITION. Audio routing (chapter 10): the sample timelines, channel owners and rates, staging and commits, what a
destination channel plays at a boundary, delay, and the TDM ports. -/
namespace Sys2Proof.Machine

/-! ### Time (R286, R287) -/

/-- Units of the house timescale in a second. -/
def secUnits : Nat := 1000000000 * nsUnits

/-- Boundaries per second of the two timelines, and the crosspoint latency in periods. -/
def aRate (t44 : Bool) : Nat := if t44 then 44100 else 48000
def aLat (t44 : Bool) : Nat := if t44 then 44 else 48

/-- The last boundary at or before now. -/
def State.boundaryNow (s : State) (rate : Nat) : Nat := s.house * rate / secUnits

/-- The first boundary at or after the house instant `k` samples of raster `r` from its present position. -/
def State.boundaryAt (s : State) (r : Nat) (k : Int) (rate : Nat) : Nat :=
  let den := s.phaseStep r
  let num : Int := k * s.phaseFull r - (s.raster r).phase
  let x : Int := ((s.house * den : Nat) + num * 262144) * rate
  ceilDiv x.toNat (den * secUnits)

/-- Luma samples of the active picture of a structure; the rest of the line is its horizontal blanking (R29). -/
def activeWidth (st : Nat) : Nat :=
  match st with
  | 1 => 720 | 2 => 720 | 3 => 1280 | 6 => 3840 | _ => 1920

/-- The 48 kHz boundary at which an audio commit takes effect (R204, R300). -/
def State.aInstant (s : State) (c : ACommit) : Nat :=
  let line := s.samplesTo c.raster c.pos.frame c.pos.line
  match c.joined with
  | none => s.boundaryAt c.raster (line + c.pos.sample) 48000
  | some _ =>
    let adv := s.rd F.SLATE_RASTER_TIMING_ADV c.raster
    let a := s.boundaryAt c.raster (line + activeWidth (s.rStruct c.raster) - adv) 48000
    let b := s.boundaryAt c.raster (line + s.rSamples c.raster - adv) 48000
    if a = b then a else if Config.switchAfter a then b else a

/-- The first boundary of a timeline at or after that instant (R300). -/
def State.aEffect (s : State) (c : ACommit) (rate : Nat) : Nat := ceilDiv (s.aInstant c * rate) 48000

/-! ### Channels (Table 10-1, R289, R290) -/

/-- A sample that is missing. -/
abbrev noSample : Nat := 2 ^ 27

/-- The second port of a 24G pair. -/
def State.second24 (s : State) (p : Nat) : Bool := p % 2 = 1 && s.rd F.ALIGN_PORT_CFG_CLASS (p - 1) = 7

/-- The VALID audio flow entry of a direction that holds an IP channel (R289). -/
def State.flowOfCh (s : State) (c dir : Nat) : Option Nat :=
  s.flowIdx.find? fun i => s.fValid i && s.fDir i = dir && (s.fType i = 2 || s.fType i = 3)
    && decide (s.fFirstCh i ≤ c ∧ c < s.fFirstCh i + s.fChannels i)

/-- TDM port `i` carries its channel number `x` (0-31). -/
def State.tdmHas (s : State) (i x : Nat) : Bool :=
  s.on F.TDM_CFG_EN i && decide ((if s.rd F.TDM_CFG_RATE i % 2 = 1 then x / 2 else x) ≤ s.rd F.TDM_CFG_SLOTS i)

/-- A group of a fabric port as the embedder is set: enabled, not PASS, and no group above 4 on SD. -/
def State.embGroup (s : State) (p g : Nat) : Bool :=
  !s.on F.AUDIO_PORT_EMB_MODE p && bit (s.rd F.AUDIO_PORT_GRP_EN p) g && (decide (g < 4) || decide (s.portClass p ≠ 1))

/-- A source and a destination channel are assigned (R289). -/
def State.srcAssigned (s : State) (c : Nat) : Bool :=
  if c < 36864 then
    decide (s.portClass (c / 32) ≠ 0) && !s.second24 (c / 32) && s.on F.AUDIO_PORT_DEEMB_EN (c / 32)
  else if c < 57344 then (s.flowOfCh c 0).isSome
  else if c < 61440 then true
  else if c < 61952 then s.tdmHas ((c - 61440) / 32) ((c - 61440) % 32)
  else decide (c < 62016)
def State.dstAssigned (s : State) (d : Nat) : Bool :=
  if d < 36864 then
    decide (s.portClass (d / 32) ≠ 0) && !s.second24 (d / 32) && s.embGroup (d / 32) (d % 32 / 4)
  else if d < 57344 then (s.flowOfCh d 1).isSome
  else if d < 57856 then s.tdmHas ((d - 57344) / 32) ((d - 57344) % 32)
  else false

/-- The rate code of an IP channel: 0 48 kHz, 1 96 kHz. -/
def State.ipRate (s : State) (c dir : Nat) : Nat :=
  match s.flowOfCh c dir with
  | some i => b2n (s.f96 i)
  | none => 0

/-- Rate codes: 0 48 kHz, 1 96 kHz, 2 44.1 kHz, 3 88.2 kHz (R290, Table 10-2). -/
def State.srcRate (s : State) (c : Nat) : Nat :=
  if c < 36864 then bits (s.rd F.AUDIO_PORT_RATE96 (c / 32)) (c % 32 / 4) 1
  else if c < 57344 then s.ipRate c 0
  else if c < 61440 then bits (tget s.aud.deemb (1152 + (c - 57344) / 32) {}).rate (c % 32 / 4) 1
  else if 61440 ≤ c ∧ c < 61952 then s.rd F.TDM_CFG_RATE ((c - 61440) / 32)
  else 0
def State.dstRate (s : State) (d : Nat) : Nat :=
  if d < 36864 then bits (s.rd F.AUDIO_PORT_GRP96 (d / 32)) (d % 32 / 4) 1
  else if d < 57344 then s.ipRate d 1
  else if d < 57856 then s.rd F.TDM_CFG_RATE ((d - 57344) / 32)
  else 0

/-- A channel whose samples carry AES3 bits (R296). -/
def State.transparent (s : State) (c : Nat) : Bool :=
  decide (36864 ≤ c ∧ c < 57344) && (match s.flowOfCh c 0 with
    | some i => s.fType i = 3
    | none => false)

/-- The TDM port whose channel a source is. -/
def tdmOf (c : Nat) : Option Nat := if 61440 ≤ c ∧ c < 61952 then some ((c - 61440) / 32) else none

/-! ### The tables (R298, R299) -/

def State.aa (s : State) (d : Nat) : AAct := tget s.aud.act d {}
def State.setAa (s : State) (d : Nat) (e : AAct) : State := { s with aud := { s.aud with act := tput s.aud.act d e {} } }
def State.ash (s : State) (d : Nat) : AShadow := tget s.aud.sh d {}
def State.setAsh (s : State) (d : Nat) (e : AShadow) : State := { s with aud := { s.aud with sh := tput s.aud.sh d e {} } }

/-- Fields of the attribute word (Table 7-5). -/
def attrGain (a : Nat) : Nat := bits a 0 12
def attrInvert (a : Nat) : Bool := bit a 12
def attrMode (a : Nat) : Nat := bits a 13 2
def attrFade (a : Nat) : Nat := bits a 16 13

/-- An attribute word with no reserved encoding. -/
def attrOk (a : Nat) : Bool :=
  decide (attrGain a ≤ 2640 ∧ attrMode a ≠ 3 ∧ a / 2 ^ 29 = 0) &&
    (decide (attrMode a ≠ 2) || decide (64 ≤ attrFade a ∧ attrFade a ≤ 4096))

/-- The code of ASTAGE (R203, R296, R180); `gd`, `gs` and `ga` are the register words. -/
def State.aStageCode (s : State) (master gd gs ga : Nat) : Nat :=
  let d := gd % 65536
  let x := gs % 65536
  let un := bit ga 15
  let dr := s.dstRate d
  let sr := if un then dr else s.srcRate x
  let ds := if dr % 2 = 1 then [d, d + 1] else [d]
  let clear := decide (attrGain ga = 2400 ∧ attrMode ga = 0) && !attrInvert ga
  firstFail [(!un && !s.srcAssigned x, Rc.srcRange), (!s.dstAssigned d, Rc.dstRange),
    (ds.any fun m => (s.ash m).staged && decide ((s.ash m).stager ≠ master), Rc.conflict),
    (ds.any fun m => (s.ash m).pending, Rc.pending),
    (decide (65535 < gd ∨ (65535 < gs ∧ un = false)) || !attrOk ga || (!un && s.transparent x && !clear), Rc.arg),
    (decide (sr ≠ dr ∨ (dr % 2 = 1 ∧ (d % 2 = 1 ∨ (un = false ∧ x % 2 = 1)))), Rc.audioRate)]

/-- Store a staged entry: STAGED while it differs from the active one. -/
def State.aStageEnt (s : State) (master d : Nat) (e : AEnt) : State :=
  s.setAsh d { ent := e, stager := master, staged := decide (e ≠ (s.aa d).ent) }

/-- Stage what ASTAGE carries. -/
def State.aStage (s : State) (master gd gs ga : Nat) : State :=
  let d := gd % 65536
  let x := gs % 65536
  let e := fun (i : Nat) => if bit ga 15 then AEnt.mk 0 false (ga - 32768) else AEnt.mk (x + i) true ga
  let s1 := s.aStageEnt master d (e 0)
  if s.dstRate d % 2 = 1 then s1.aStageEnt master (d + 1) (e 1) else s1

/-- An entry as the shadow table shows it. -/
def State.aShown (s : State) (d : Nat) : AEnt := if (s.ash d).staged || (s.ash d).pending then (s.ash d).ent else (s.aa d).ent

/-- The attribute word a host write gives: a reserved encoding leaves its field as it was (R8). -/
def attrWrite (w old : Nat) : Nat :=
  let g := if attrGain w ≤ 2640 then attrGain w else attrGain old
  let m := if attrMode w ≠ 3 then attrMode w else attrMode old
  let f := if m ≠ 2 ∨ (64 ≤ attrFade w ∧ attrFade w ≤ 4096) then attrFade w else attrFade old
  g + 4096 * b2n (attrInvert w) + 8192 * m + 65536 * f

/-- A host write of a word of shadow entry `d` (R299). -/
def State.aShadowWrite (d word w : Nat) (s : State) : State :=
  if 1 < word then s
  else if ((s.ash d).staged ∧ (s.ash d).stager ≠ 7) ∨ (s.ash d).pending then
    s.event F.AUDIO_EVENT_STAGE_REFUSED 0 Irq.audio
  else
    let o := s.aShown d
    s.aStageEnt 7 d (if word = 0 then { o with src := w % 65536, routed := bit w 16 } else { o with attr := attrWrite w o.attr })

/-- SHADOW_AUDIO_WRITE. -/
def execShadowAudioWrite (d : Fin 65536) (word : Fin 4) (w : Word) (s : State) : Host.Outcome State Fault Refusal :=
  ok (s.hostWriteWin true 2 (0x200000 + 16 * d.val + 4 * word.val) w.toNat (State.aShadowWrite d.val word.val w.toNat))

/-- Unstage every audio entry of a master that is not PENDING (R206, AUDIO_COMMIT_CTRL DISCARD). -/
def State.unstageAudio (s : State) (master : Nat) : State :=
  forEach ((s.aud.sh.filter fun e => e.2.staged && !e.2.pending && e.2.stager = master).map (·.1)) (fun d s => s.setAsh d {}) s

/-! ### Commits (R204, R300) -/

/-- The channels a commit of `master` captures. -/
def State.aCaptured (s : State) (master : Nat) : List Nat :=
  (s.aud.sh.filter fun e => e.2.staged && !e.2.pending && e.2.stager = master).map (·.1)

/-- The crosspoint commit a WITH joins, and its effect on raster `r`. -/
def State.aJoin (s : State) (master r : Nat) : Option (XCommit × Effect) :=
  match s.xLast.find? fun e => e.1 = master with
  | some e => (waitsOn e.2 r).map fun f => (e.2, f)
  | none => none

/-- The result of an audio commit. -/
def State.aCommitCode (s : State) (master r : Nat) (target : Pos) (join : Bool) : Nat :=
  let badPos := !join && (!s.lineOk r target.line || decide (s.rSamples r ≤ target.sample))
  firstFail [(!s.commitsOk, Rc.mode), (decide (8 ≤ s.aud.commits.length), Rc.queueFull),
    ((s.aCaptured master).isEmpty, Rc.nothing), (!s.enabled r || badPos, Rc.target),
    (join && (s.aJoin master r).isNone, Rc.noPair)]

/-- The egress timeline of raster `r` stands at least LEAD lines before line and sample of frame `f` (R204). -/
def State.meetsAt (s : State) (r f line sample : Nat) : Bool :=
  let e := s.egress r
  let n := s.rSamples r
  decide ((e.frame * s.rLines r + e.line + s.leadFor r f) * n + e.sample ≤ (f * s.rLines r + line) * n + sample)

/-- The frame of an AT commit's position (R204): the first at or after the target's that the commit reaches LEAD lines ahead. -/
def State.aFrame (s : State) (r : Nat) (target : Pos) : Nat :=
  let f0 := Nat.max target.frame (s.pos r).frame
  (((List.range 5).map (· + f0)).find? fun f => s.meetsAt r f target.line target.sample).getD (f0 + 5)

/-- Accept an audio commit: captured entries PENDING; its COMMIT_ID and the position the target is rewritten to. -/
def State.acceptAud (s : State) (master r : Nat) (target : Pos) (join : Bool) : State × Nat × Pos :=
  let cap := s.aCaptured master
  let cid := (Config.audioSeries + s.aud.next) % 65536
  let j := if join then s.aJoin master r else none
  let pos := match j with
    | some p => Pos.mk p.2.frame p.2.line 0
    | none => { target with frame := s.aFrame r target }
  let shown := match j with
    | some p => s.shownAt r (p.2.frame, p.2.line)
    | none => pos
  let c : ACommit := { cid := cid, master := master, raster := r, offs := (s.raster r).offs, pos := pos, dests := cap
                       joined := j.map fun p => p.1.cid }
  let s1 := forEach cap (fun d s => s.setAsh d { s.ash d with pending := true, cid := cid }) s
  ({ s1 with aud := { s1.aud with commits := s1.aud.commits ++ [c], next := s1.aud.next + 1 } }, cid, shown)

/-- A host GO. -/
def State.hostAudioCommit (s : State) : State :=
  let r := s.rd F.AUDIO_COMMIT_CTRL_RASTER 0
  let join := s.on F.AUDIO_COMMIT_CTRL_WITH 0
  let t := s.commitTarget r (s.on F.AUDIO_COMMIT_CTRL_STYLE 0) (s.rd64 F.AUDIO_COMMIT_TGT_FRAME_LO F.AUDIO_COMMIT_TGT_FRAME_HI 0)
    (s.rd F.AUDIO_COMMIT_TGT_LINE 0) (s.rd F.AUDIO_COMMIT_TGT_SAMPLE 0)
  let code := s.aCommitCode 7 r t join
  if code = 0 then
    let a := s.acceptAud 7 r t join
    let s1 := (((a.1.wr F.AUDIO_COMMIT_STATUS_COMMIT_ID 0 a.2.1).wr F.AUDIO_COMMIT_STATUS_STATE 0 1).wr
      F.AUDIO_COMMIT_STATUS_RASTER 0 r).wr F.AUDIO_COMMIT_STATUS_RESULT 0 0
    ((s1.wr64 F.AUDIO_COMMIT_STATUS_FRAME_LO F.AUDIO_COMMIT_STATUS_FRAME_HI 0 a.2.2.frame).wr
      F.AUDIO_COMMIT_STATUS_LINE 0 a.2.2.line).wr F.AUDIO_COMMIT_STATUS_SAMPLE 0 a.2.2.sample
  else
    (((s.wr F.AUDIO_COMMIT_STATUS_COMMIT_ID 0 0).wr F.AUDIO_COMMIT_STATUS_STATE 0 3).wr
      F.AUDIO_COMMIT_STATUS_RESULT 0 code).event F.AUDIO_EVENT_COMMIT_REFUSED 0 Irq.audio

/-- A write of AUDIO_COMMIT_CTRL: GO, then DISCARD of what GO did not capture. -/
def State.audioCtrl (w : Nat) (s : State) : State :=
  let s1 := ((s.wr F.AUDIO_COMMIT_CTRL_WITH 0 (bits w 2 1)).wr F.AUDIO_COMMIT_CTRL_RASTER 0 (bits w 4 3)).wr
    F.AUDIO_COMMIT_CTRL_STYLE 0 (bits w 7 1)
  let s2 := if bit w 0 then s1.hostAudioCommit else s1
  if bit w 1 then s2.unstageAudio 7 else s2

/-- AUDIO_COMMIT_GO: a write with GO set. -/
def execAudioCommitGo (w : Word) (s : State) : Host.Outcome State Fault Refusal :=
  ok (s.hostWriteSet 0xC0010 w.toNat 1 State.audioCtrl)

/-- AUDIO_COMMIT_DISCARD: a write with DISCARD set. -/
def execAudioCommitDiscard (w : Word) (s : State) : Host.Outcome State Fault Refusal :=
  ok (s.hostWriteSet 0xC0010 w.toNat 2 State.audioCtrl)

/-- Take an audio commit out of flight and report it: engines see AUDIO_DONE, the host its STATE. -/
def State.aFinish (s : State) (c : ACommit) (done : Bool) : State :=
  let s1 := { s with aud := { s.aud with commits := s.aud.commits.filter fun x => decide (x.cid ≠ c.cid) } }
  if c.master = 7 then
    let s2 := if s1.rd F.AUDIO_COMMIT_STATUS_COMMIT_ID 0 = c.cid ∧ s1.rd F.AUDIO_COMMIT_STATUS_STATE 0 = 1 then
        s1.wr F.AUDIO_COMMIT_STATUS_STATE 0 (if done then 2 else 4) else s1
    if done then s2.event F.AUDIO_EVENT_COMMIT_DONE 0 Irq.audio else s2
  else s1.engEvent c.master 10

/-- The captured channels the commit still holds. -/
def State.aHeld (s : State) (c : ACommit) : List Nat := c.dests.filter fun d => (s.ash d).pending && (s.ash d).cid = c.cid

/-- Begin a change on channel `d` (R301, R302): under CUT the new signal at once, else on top of what still runs. -/
def State.beginChange (s : State) (d : Nat) (c : AChg) : State :=
  let l := if c.mode = 0 then [] else { c with po := tget s.aud.last d 0 } :: tget s.aud.chg d []
  { s with aud := { s.aud with chg := tput s.aud.chg d l [] } }

/-- A channel whose rate code lies on the 44.1 kHz timeline. -/
def State.on44 (s : State) (d : Nat) : Bool := decide (2 ≤ s.dstRate d)

/-- Make a captured entry active (R300). -/
def State.aApply (c : ACommit) (d : Nat) (s : State) : State :=
  let old := (s.aa d).ent
  let new := (s.ash d).ent
  let chg : AChg := { old := old, new := new, start := s.aEffect c (aRate (s.on44 d)), mode := attrMode new.attr
                      len := attrFade new.attr }
  ((s.beginChange d chg).setAa d { s.aa d with ent := new }).setAsh d {}

/-- The commit is discarded: SAFE at its instant, its raster disabled since acceptance, or the one it joined discarded. -/
def State.aLost (s : State) (c : ACommit) : Bool := c.gone || !s.enabled c.raster || decide ((s.raster c.raster).offs ≠ c.offs)

/-- Discard an audio commit. -/
def State.aDiscard (s : State) (c : ACommit) : State := (forEach (s.aHeld c) (fun d s => s.setAsh d {}) s).aFinish c false

/-- The first audio commit in flight whose effect boundary has come, or that is lost, takes effect or is discarded. -/
def State.audioEffect (s : State) : State :=
  match s.aud.commits.find? fun c => s.aLost c || decide (s.aEffect c 48000 ≤ s.boundaryNow 48000) with
  | none => s
  | some c =>
    if s.aLost c || s.mode = Mode.safe then s.aDiscard c
    else
      let s1 := forEach (s.aHeld c) (fun d s => s.aApply c d) s
      (s1.addWrap F.AUDIO_ACTIVE_GEN_GEN 0 1).aFinish c true

/-- AUDIO_COMMIT_EFFECT. -/
def execAudioCommitEffect (s : State) : Host.Outcome State Fault Refusal := ok s.audioEffect

/-! ### Samples -/

/-- A rational result as a whole number: exact where it is one, else rounded up or down (R303). -/
def quant (n : Int) (d : Nat) : Int :=
  if n % (d : Int) = 0 then n / (d : Int) else if Config.roundUp n d then n / (d : Int) + 1 else n / (d : Int)

/-- Full scale of 24 bits (R303). -/
def sat24 (x : Int) : Int := if 8388607 < x then 8388607 else if x < -8388608 then -8388608 else x

/-- The largest number of `n` bits that satisfies a test which holds up to some number. -/
def searchBits (p : Nat → Bool) (n acc : Nat) : Nat :=
  match n with
  | 0 => acc
  | k + 1 => if p (acc + 2 ^ k) then searchBits p k (acc + 2 ^ k) else searchBits p k acc

/-- GAIN steps of 0.05 dB in a factor of ten. -/
def gainSteps : Nat := 400

/-- A magnitude times 10^(dB/20), dB in steps of 0.05 from GAIN 2,400 = 0 (Table 7-5): the factor is the 400th root of a power
of ten, so the whole part is exact. -/
def gainMag (x g : Nat) : Nat :=
  let le := fun (y : Nat) => if 2400 ≤ g then decide (y ^ gainSteps ≤ x ^ gainSteps * 10 ^ (g - 2400)) else decide (y ^ gainSteps * 10 ^ (2400 - g) ≤ x ^ gainSteps)
  let y := searchBits le 26 0
  let exact := if 2400 ≤ g then decide (y ^ gainSteps = x ^ gainSteps * 10 ^ (g - 2400)) else decide (y ^ gainSteps * 10 ^ (2400 - g) = x ^ gainSteps)
  if exact then y else if Config.roundUp x g then y + 1 else y

/-- Gain and polarity of an attribute word, saturated. -/
def gained (a : Nat) (x : Int) : Int :=
  let g := attrGain a
  let y : Int := if g = 0 then 0 else if g = 2400 then x else if 0 ≤ x then (gainMag x.natAbs g : Int) else -(gainMag x.natAbs g : Int)
  sat24 (if attrInvert a then -y else y)

/-- Sample `i` of a history, newest first. -/
def histAt (l : List Nat) (i : Nat) : Nat := l.getD i noSample

/-- The factor, in 32nds, of a ramp at distance 1 to 32 from a run of missing samples; 32 for none within reach. -/
def rampOf (l : List Nat) (at' : Nat → Nat) : Nat :=
  ((List.range 32).map (· + 1)).find? (fun e => decide (histAt l (at' e) = noSample)) |>.getD 32

/-- Sample `i` of a history as it plays (R307): 0 while missing, ramped over the 32 samples before and after a run. -/
def played (l : List Nat) (i : Nat) : Int :=
  let x := histAt l i
  if x = noSample then 0
  else
    let before := if 32 ≤ i then rampOf l (fun e => i - e) else 32
    let after := rampOf l (fun e => i + e)
    quant (sx 24 x * before * after) 1024

/-- The source of a TDM port that carries no signal (R311, R313). -/
def State.tdmSilent (s : State) (c : Nat) : Bool :=
  match tdmOf c with
  | some i => decide (s.rd F.TDM_STATUS_STATE i = 3 ∨ s.rd F.TDM_STATUS_STATE i = 0)
  | none => false

/-- The source's rate differs from the channel's, or it is unassigned (R303). -/
def State.aConflict (s : State) (d : Nat) (e : AEnt) : Bool := e.routed && s.srcAssigned e.src && decide (s.srcRate e.src ≠ s.dstRate d)
def State.aMissing (s : State) (e : AEnt) : Bool := e.routed && !s.srcAssigned e.src

/-- What entry `e` gives channel `d`, its source's sample taken `i` boundaries back; `raw` looks past a stopped TDM port. -/
def State.entVal (s : State) (d : Nat) (e : AEnt) (raw : Bool) (i : Nat) : Int :=
  if !e.routed || (!raw && (s.aConflict d e || s.aMissing e || s.tdmSilent e.src)) then 0
  else gained e.attr (played (tget s.aud.hist e.src []) i)

/-- A signal crosses zero (R301): its sample is 0 or differs in sign from the one before. -/
def crosses (x before : Int) : Bool := x = 0 || (decide (x < 0) != decide (before < 0))

/-- The output of channel `d` at boundary `k` and its changes afterwards (R301, R302), `e` being the entry at the bottom of the
stack; `lat` is the latency. A change whose length is over gives the new signal; FADE_COMPLETE and ZEROX_TIMEOUT take it
off the stack. -/
def State.sigOf (s : State) (d k lat : Nat) (l : List AChg) (e : AEnt) (raw : Bool) : Int × List AChg :=
  match l with
  | [] => (s.entVal d e raw lat, [])
  | c :: r =>
    let o := s.sigOf d k lat r c.old c.raw
    let n := s.entVal d c.new false lat
    let keep := { c with po := wrapInt 24 o.1 } :: o.2
    if c.mode = 2 then
      let i := k - c.start
      if c.len ≤ i then (n, keep) else (sat24 (quant ((c.len - i : Nat) * o.1 + (i : Int) * n) c.len), keep)
    else if c.start + s.rd F.AUDIO_CFG_ZX_TIMEOUT 0 ≤ k then (n, keep)
    else
      let half := decide (c.zx = 1) || crosses o.1 (sx 24 c.po)
      if !half then (o.1, keep)
      else if crosses n (s.entVal d c.new false (lat + 1)) then (n, [])
      else (0, { c with zx := 1, po := wrapInt 24 o.1 } :: o.2)

/-- Lane number of a delay position. -/
def AAct.laneKey (e : AAct) : Nat := e.block * 16 + e.lane

/-- Where sample `n` of lane `l` lies in an audio delay block of `ms` milliseconds (R246). -/
def laneByte (ms l n : Nat) : Nat := 4 * (16 * (n % (48 * ms)) + l)

/-- The sample of boundary `k - back` of a lane (R246, R306): 0 before the lane was assigned, on an UNWRITTEN page, and where its
read came poisoned or late (R243, R247); `bad`: the port it came from, or (true) not within 20 us. -/
def State.laneAt (s : State) (lane k back : Nat) (bad : Option (Fin 4 × Bool)) : State × Int :=
  match s.readDesc (s.rd F.AUDIO_DBLK_HANDLE (lane / 16)) with
  | none => (s.staleRead, 0)
  | some i =>
    let s1 := s.noteRead i 0
    match bad with
    | some c => (if c.2 then s1 else s1.poisoned c.1.val, 0)
    | none =>
      if k < back ∨ k - back < tget s.aud.lanes lane 0 then (s1, 0)
      else
        let o := laneByte (s.desc i).capacity (lane % 16) (k - back)
        let r := (List.range 3).foldl (fun (a : State × Nat) j => let x := a.1.readByte i (o + j); (x.1, a.2 + x.2 * 256 ^ j)) (s1, 0)
        (r.1, sx 24 r.2)

/-- Give a lane its channel's output of boundary `k`. -/
def State.lanePush (s : State) (lane k x : Nat) : State :=
  match s.handleDesc (s.rd F.AUDIO_DBLK_HANDLE (lane / 16)) with
  | some i => s.writeBytes i (laneByte (s.desc i).capacity (lane % 16) k) (leBytes (x % 2 ^ 24))
  | none => s

/-- The AES3 bits that pass with a transparent source (R296); none: the sender generates them. -/
def State.aesBits (s : State) (d lat : Nat) : Option Nat :=
  let e := (s.aa d).ent
  if e.routed && s.transparent e.src && (tget s.aud.chg d []).isEmpty then
    let x := histAt (tget s.aud.hist e.src []) lat
    some (if x = noSample then 0 else bits x 24 3)
  else none

/-- The AES3 bits that a sender generates for boundary `b` (R296): valid, no user data, and the channel status of professional linear
PCM. PRESUMED (log 133): AES3's bits 0, 1, 6 and 7, in blocks of 192 boundaries; the other bits are open. -/
def aesGen (r96 : Bool) (b : Nat) : Nat :=
  let j := b % 192
  4 * b2n (if j = 0 then true else if j = 1 then false
    else if !r96 && decide (j = 6 ∨ j = 7) then decide (j = 7) else Config.statusBit r96 j)

/-- The delay of channel `d` at boundary `k` (R306): its output goes into its lane, and what it plays comes from there, crossfaded for
480 samples from the read position a change leaves. -/
def State.delayed (s : State) (d k x : Nat) (bad : Option (Fin 4 × Bool)) : State × Int :=
  let e := s.aa d
  let s1 := if e.dlyEn then s.lanePush e.laneKey k x else s
  let new := if e.dlyEn then s1.laneAt e.laneKey k e.delay bad else (s1, sx 24 x)
  match tget s.aud.xfade d (0, 0, 0) with
  | (0, 0, 0) => new
  | (ln, dl, i) =>
    let s2 := if ln ≠ 0 ∧ (ln ≠ e.laneKey + 1 ∨ e.dlyEn = false) then new.1.lanePush (ln - 1) k x else new.1
    let old := if ln = 0 then (s2, sx 24 x) else s2.laneAt (ln - 1) k dl bad
    let y := sat24 (quant ((480 - i : Nat) * old.2 + (i : Int) * new.2) 480)
    let nx := if i + 1 < 480 then (ln, dl, i + 1) else (0, 0, 0)
    ({ old.1 with aud := { old.1.aud with xfade := tput old.1.aud.xfade d nx (0, 0, 0) } }, y)

/-- A destination channel of a fabric port or an IP flow keeps its samples until they are in a line or a packet (R293, R366). -/
def State.embPush (s : State) (d k x : Nat) : State :=
  if d < 57344 then
    let l := tget s.aud.emb d [] ++ [(k, x)]
    { s with aud := { s.aud with emb := tput s.aud.emb d (l.drop (l.length - 64)) [] } }
  else s

/-- Channel `d` at boundary `k` (R287, R301, R303, R306). -/
def State.channelAt (k lat : Nat) (bad : List (Nat × Fin 4 × Bool)) (d : Nat) (s : State) : State :=
  let e := s.aa d
  let conflict := s.aConflict d e.ent
  let miss := s.aMissing e.ent
  let olds := (tget s.aud.chg d []).map (·.old)
  let anyConflict := conflict || olds.any fun o => s.aConflict d o
  let s1 := if anyConflict && !e.conflict then s.event F.AUDIO_EVENT_RATE_CONFLICT 0 Irq.audio else s
  let left := tget s.aud.ramp d 0
  let left' := if conflict || miss then 32 else left - 1
  let s2 := s1.setAa d { e with conflict := anyConflict, missing := miss || olds.any fun o => s.aMissing o }
  let s3 := { s2 with aud := { s2.aud with ramp := tput s2.aud.ramp d left' 0 } }
  let v := s3.sigOf d k lat (tget s3.aud.chg d []) e.ent false
  let x := if 0 < left ∧ !(conflict || miss) then quant (v.1 * (33 - left : Nat)) 32 else v.1
  let code := wrapInt 24 x
  let aes := s3.aesBits d lat
  let s4 := { s3 with aud := { s3.aud with chg := tput s3.aud.chg d v.2 [], last := tput s3.aud.last d code 0 } }
  let y := s4.delayed d k code ((bad.find? fun e => e.1 = d).map (·.2))
  let s5 := y.1
  let o := wrapInt 24 y.2 + 2 ^ 24 * aes.getD (if d < 57344 then aesGen (decide (s.dstRate d = 1)) k else 0)
  { s5 with aud := { s5.aud with out := tput s5.aud.out d o 0 } }.embPush d k o

/-! ### What sources present -/

/-- The owner of source channel `c` that counts slips: fabric port 0-1151, TDM port 1152 + i, or receive flow 1168 + i. -/
def State.slipOwner (s : State) (c : Nat) : Option Nat :=
  match tdmOf c with
  | some i => some (1152 + i)
  | none => if c < 36864 then some (c / 32) else (s.flowOfCh c 0).map (· + 1168)

/-- Count a slip of an owner (R308, R309). -/
def State.ownerSlip (u : Nat) (s : State) : State :=
  if u < 1152 then s.incSat F.AUDIO_PORT_SLIP u
  else if u < 1168 then s.incSat F.TDM_CNT0_SLIP (u - 1152)
  else
    let w := s.fw (u - 1168) 20
    s.setFw (u - 1168) 20 (w % 65536 + 65536 * Nat.min (w / 65536 + 1) 65535)

/-- Count a slip of the unit whose first channel is `c` (R308): a TDM port, an IP flow, or a de-embedded group. -/
def State.countSlip (s : State) (c : Nat) : State :=
  match s.slipOwner c with
  | some u =>
    let first := if u < 1152 then decide (c % 4 = 0) else if u < 1168 then decide ((c - 61440) % 32 = 0) else decide (s.fFirstCh (u - 1168) = c)
    if first then s.ownerSlip u else s
  | none => s

/-- Count a run of missing samples against the owner of channel `c` (R307). -/
def State.countMissing (s : State) (c : Nat) : State :=
  if c < 36864 then s.incSat F.AUDIO_PORT_MISSING (c / 32)
  else
    match s.flowOfCh c 0 with
    | some i =>
      let w := s.fw i 20
      s.setFw i 20 (Nat.min (w % 65536 + 1) 65535 + 65536 * (w / 65536))
    | none => s

/-- A de-embedded group declared asynchronous (R291). -/
def State.asyncGroup (s : State) (c : Nat) : Bool := decide (c < 36864) && bit (s.rd F.AUDIO_PORT_ASYNC (c / 32)) (c % 32 / 4)

/-- The samples that lie in an operand for channel `c`. -/
def arrivals (smp : List (Nat × Nat)) (c : Nat) : List Nat := (smp.filter fun e => e.1 = c).map (·.2)

/-- Put arrivals into a slipping unit's FIFO; a new one is centred (R308). -/
def State.fifoPush (s : State) (c : Nat) (xs : List Nat) : State :=
  let l := tget s.aud.fifo c (List.replicate 32 noSample)
  { s with aud := { s.aud with fifo := tins s.aud.fifo c (l ++ xs) } }

/-- What a slipping unit's FIFO presents (R308): a fill below 8 repeats a sample, one above 56 drops one. -/
def State.fifoPop (s : State) (c : Nat) : State × Nat :=
  let l := tget s.aud.fifo c []
  let x := l.headD noSample
  let put := fun (l : List Nat) (s : State) => { s with aud := { s.aud with fifo := tins s.aud.fifo c l } }
  if l.tail.length < 8 then ((put l s).countSlip c, x)
  else if 56 < l.tail.length then ((put (l.drop 2) s).countSlip c, x)
  else (put l.tail s, x)

/-- A tone's amplitude in units of 2^-16 (R297): full scale less 0.5 dB a step of LEVEL, by the 40th root of a power of ten. -/
def toneAmp (level : Nat) : Nat :=
  searchBits (fun y => decide (y ^ 40 * 10 ^ level ≤ (8388607 * 65536) ^ 40)) 40 0

/-- The sample of a tone at boundary `k`: its phase is 0 at boundary 0. -/
def toneAt (freq level k : Nat) : Int := quant (toneAmp level * sinPi (2 * (freq * k % 48000)) 48000) (2 ^ 56)

/-- What source channel `c` presents at boundary `k` (R295-R297, R308); the operand gives what TDM master ports take in. -/
def State.present (s : State) (c k : Nat) (smp : List (Nat × Nat)) : State × Nat :=
  if 61952 ≤ c then
    let g := c - 61952
    (s, if s.on F.AUDIO_GEN_CFG_MODE g then wrapInt 24 (toneAt (s.rd F.AUDIO_GEN_CFG_FREQ g) (s.rd F.AUDIO_GEN_CFG_LEVEL g) k) else 0)
  else if (decide (36864 ≤ c) || s.asyncGroup c) && s.aud.fifo.any fun e => e.1 = c then s.fifoPop c
  else if 61440 ≤ c then (s, (arrivals smp c).headD noSample)
  else
    let l := tget s.aud.due c []
    ({ s with aud := { s.aud with due := tput s.aud.due c (l.filter fun e => decide (k < e.1)) [] } },
     ((l.find? fun e => e.1 = k).map (·.2)).getD noSample)

/-- How many boundaries after one a run of missing samples in it counts: when the ramp before it is about to be played (R287, R307).
DESIGN CHOICE (log 145): a sample that comes later than its boundary, but before that, is not missing. -/
abbrev missAge : Nat := 16

/-- Take channel `c`'s sample into its history; `gap` boundaries were passed over, and a change of supplier begins a run (R291). A run
of missing samples is counted once it can be made good no more. -/
def State.feed (k gap : Nat) (smp : List (Nat × Nat)) (c : Nat) (s : State) : State :=
  let p := s.present c k smp
  let x := if c < 36864 ∧ 16 ≤ c % 32 ∧ tget s.aud.gap (c / 32) false then noSample else p.2
  let h := tget s.aud.hist c []
  let s1 := p.1
  let l := (x :: List.replicate gap noSample ++ h).take 100
  let s2 := { s1 with aud := { s1.aud with hist := tput s1.aud.hist c l [] } }
  let ends := (List.range (gap + 1)).any fun i => histAt l (missAge + i) = noSample && decide (histAt l (missAge + i + 1) ≠ noSample)
  if ends then s2.countMissing c else s2

/-- Every element once. -/
def distinct (l : List Nat) : List Nat := l.foldr (fun x acc => if acc.contains x then acc else x :: acc) []

/-- After the audio domain `t44` moved, the sources `cs` of its timeline may slip by one sample, which plays the sample before again
(R309): which owners' sources do is a free value. -/
def State.moveSlips (s : State) (t44 : Bool) (cs : List Nat) : State :=
  let d := if t44 then 6 else 5
  if !tget s.aud.moved d false then s
  else
    let v := s.draw
    let s1 := { v.1 with aud := { v.1.aud with moved := tput v.1.aud.moved d false false } }
    let us := (distinct (cs.filterMap s.slipOwner)).filter (bit v.2)
    let s2 := forEach (cs.filter fun c => us.any fun u => s.slipOwner c = some u) (fun c s =>
      let h := tget s.aud.hist c []
      { s with aud := { s.aud with hist := tput s.aud.hist c (h.set 0 (histAt h 1)) [] } }) s1
    forEach us State.ownerSlip s2

/-- The source channels of a timeline that are followed: routed ones, ones with a history or a FIFO, ones that present. -/
def State.sources (s : State) (t44 : Bool) (smp : List (Nat × Nat)) : List Nat :=
  let l := (s.aud.act.filter (·.2.ent.routed)).map (·.2.ent.src) ++ s.aud.hist.map (·.1) ++ s.aud.fifo.map (·.1) ++ s.aud.due.map (·.1) ++ smp.map (·.1)
  (distinct l).filter fun c => decide (2 ≤ s.srcRate c) == t44

/-- The destination channels of a timeline that have an entry or a change. -/
def State.dests (s : State) (t44 : Bool) : List Nat :=
  (distinct (s.aud.act.map (·.1) ++ s.aud.chg.map (·.1))).filter fun d => s.on44 d == t44

/-- Two frames a boundary: 96 and 88.2 kHz (R310). -/
def State.tdmTwo (s : State) (i : Nat) : Bool := decide (s.rd F.TDM_CFG_RATE i % 2 = 1)

/-- The slots of a frame, by the samples `fr` of the port's channels; `second`: the second frame of its boundary. A slot carries the top
WIDTH bits of its sample, or the sample and zeros below (R310). -/
def State.tdmSlots (s : State) (i : Nat) (fr : List Nat) (second : Bool) : List Nat :=
  let w := s.rd F.TDM_CFG_WIDTH i
  (List.range (s.rd F.TDM_CFG_SLOTS i + 1)).map fun k =>
    let x := fr.getD (if s.tdmTwo i then 2 * k + b2n second else k) 0 % 2 ^ 24
    if w < 24 then x / 2 ^ (24 - w) else x * 2 ^ (w - 24)

/-- The sample in a slot of `w` bits: padded below with zeros, or its first 24 bits (R310). -/
def slotCode (w x : Nat) : Nat := if w < 24 then x % 2 ^ w * 2 ^ (24 - w) else x / 2 ^ (w - 24) % 2 ^ 24

/-- The output samples of enabled TDM slave ports join their FIFOs (R308, R310), a slip drops one; those of master ports are sent. -/
def State.tdmOut (t44 : Bool) (i : Nat) (s : State) : State :=
  let st := s.rd F.TDM_STATUS_STATE i
  if s.on F.TDM_CFG_EN i && (decide (2 ≤ s.rd F.TDM_CFG_RATE i) == t44) && decide (st = 2 ∨ st = 4) then
    let fr := (List.range 32).map fun x => tget s.aud.out (57344 + 32 * i + x) 0
    let t := tget s.tdms i {}
    if s.on F.TDM_CFG_MASTER i then
      { s with tdms := tput s.tdms i { t with dout := s.tdmSlots i fr false ++ if s.tdmTwo i then s.tdmSlots i fr true else [] } {} }
    else if 56 < t.outq.length then { s with tdms := tput s.tdms i { t with outq := t.outq.tail ++ [fr] } {} }.incSat F.TDM_CNT0_SLIP i
    else { s with tdms := tput s.tdms i { t with outq := t.outq ++ [fr] } {} }
  else s

/-- AUDIO_BOUNDARY: the last boundary of a timeline that has come, if it is not computed yet. `x` is what TDM master ports take in, as
source channel and sample code, and the destination channels whose delay lane was read poisoned, with the port, or (true) not
answered within 20 us. -/
def execAudioBoundary (t44 : Bool) (x : List (Nat × Nat) × List (Nat × Fin 4 × Bool)) (s : State) : Host.Outcome State Fault Refusal :=
  let smp := x.1
  let bad := x.2
  let k := s.boundaryNow (aRate t44)
  let done := if t44 then s.aud.bnd44 else s.aud.bnd
  ok (if done = k + 1 then s
  else
    let gap := if done = 0 then 0 else if done ≤ k then Nat.min (k - done) 100 else 100
    let cs := s.sources t44 smp
    let s1 := (forEach cs (fun c s => s.feed k gap smp c) s).moveSlips t44 cs
    let s2 := forEach (s1.dests t44) (fun d s => s.channelAt k (aLat t44) bad d) s1
    let s3 := forEach (List.range 16) (fun i s => s.tdmOut t44 i) s2
    let s4 := if t44 then s3 else { s3 with aud := { s3.aud with gap := [] } }
    if t44 then { s4 with aud := { s4.aud with bnd44 := k + 1 } } else { s4 with aud := { s4.aud with bnd := k + 1 } })

/-- The last boundary computed on the timeline of channel `d`. -/
def State.lastBnd (s : State) (d : Nat) : Nat := if s.on44 d then s.aud.bnd44 else s.aud.bnd

/-- Take the newest change off channel `d` if it is of a mode and over. -/
def State.endChange (s : State) (d mode len : Nat) : State :=
  match tget s.aud.chg d [] with
  | c :: _ => if c.mode = mode ∧ c.start + (if mode = 2 then c.len else len) < s.lastBnd d then
      { s with aud := { s.aud with chg := tput s.aud.chg d [] [] } } else s
  | [] => s

/-- ZEROX_TIMEOUT: boundary B + ZX_TIMEOUT has been computed. -/
def execZeroxTimeout (d : Fin 65536) (s : State) : Host.Outcome State Fault Refusal :=
  ok (s.endChange d.val 1 (s.rd F.AUDIO_CFG_ZX_TIMEOUT 0))

/-- FADE_COMPLETE: boundary B + FADE_LEN has been computed. -/
def execFadeComplete (d : Fin 65536) (s : State) : Host.Outcome State Fault Refusal := ok (s.endChange d.val 2 0)

/-! ### Delay (R304-R306) -/

/-- Some channel uses lane `l` of block `b`; `d`: by a channel other than `d`. -/
def State.laneUsed (s : State) (b l : Nat) (d : Option Nat) : Bool :=
  s.aud.act.any fun e => e.2.dlyEn && e.2.block = b && e.2.lane = l && decide (d ≠ some e.1)
def State.blockUsed (s : State) (b : Nat) : Bool := s.aud.act.any fun e => e.2.dlyEn && e.2.block = b

/-- BUSY of a block follows its lanes. -/
def State.dblkShow (s : State) (b : Nat) : State := s.wr F.AUDIO_DBLK_BUSY b (b2n (s.blockUsed b))

/-- A block context can be enabled (R304). -/
def State.dblkOk (s : State) (b tok : Nat) : Bool :=
  let h := s.rd F.AUDIO_DBLK_HANDLE b
  (match s.handleDesc h with
    | some i => (s.desc i).kind = 2
    | none => false)
  && s.grantOk tok Gc.audioDelay b
  && !((List.range 1024).any fun x => decide (x ≠ b) && s.on F.AUDIO_DBLK_EN x && s.rd F.AUDIO_DBLK_HANDLE x = h)

/-- A write of a word of AUDIO_DBLK. HANDLE stands while the context is enabled. -/
def State.dblkWrite (b : Nat) (hi : Bool) (w : Nat) (s : State) : State :=
  let refuse := fun (s : State) => s.event F.AUDIO_EVENT_DBLK_REFUSED 0 Irq.audio
  if !hi then (if s.on F.AUDIO_DBLK_EN b then refuse s else s.wr F.AUDIO_DBLK_HANDLE b w)
  else if bit w 0 then
    if s.dblkOk b (bits w 16 16) then ((s.wr F.AUDIO_DBLK_EN b 1).wr F.AUDIO_DBLK_GRANT b (bits w 16 16)).loadShow else refuse s
  else if s.on F.AUDIO_DBLK_EN b && s.blockUsed b then refuse s
  else ((s.wr F.AUDIO_DBLK_EN b 0).wr F.AUDIO_DBLK_GRANT b (bits w 16 16)).loadShow

/-- DELAY_BLOCK_WRITE. -/
def execDelayBlockWrite (b : Fin 1024) (hi : Bool) (w : Word) (s : State) : Host.Outcome State Fault Refusal :=
  ok (s.hostWrite (0xC1000 + 8 * b.val + (if hi then 4 else 0)) w.toNat (State.dblkWrite b.val hi w.toNat))

/-- CAPACITY of a block in milliseconds. -/
def State.blockMs (s : State) (b : Nat) : Nat :=
  match s.handleDesc (s.rd F.AUDIO_DBLK_HANDLE b) with
  | some i => (s.desc i).capacity
  | none => 0

/-- Give channel `d` its delay: a channel already carrying delay crossfades from its old read position (R306). -/
def State.setDelay (s : State) (d delay b l : Nat) (en : Bool) : State :=
  let e := s.aa d
  let e2 := { e with delay := delay, dlyEn := en, block := b, lane := l }
  let s1 := if en && !(e.dlyEn && e.laneKey = e2.laneKey) then
      { s with aud := { s.aud with lanes := tput s.aud.lanes e2.laneKey (s.lastBnd d) 0 } } else s
  let x := if e.dlyEn then (e.laneKey + 1, e.delay, 0) else (0, 0, 0)
  let s2 := if decide (e2 ≠ e) && e.dlyEn then { s1 with aud := { s1.aud with xfade := tput s1.aud.xfade d x (0, 0, 0) } } else s1
  ((s2.setAa d e2).dblkShow e.block).dblkShow b

/-- GO of instance `m` (R305). -/
def State.delayGo (m w : Nat) (s : State) : State :=
  let d := s.rd F.AUDIO_DLY_CTRL_DEST m
  let dl := s.rd F.AUDIO_DLY_CTRL_DELAY m
  let b := bits w 0 10
  let l := bits w 10 4
  let pair := decide (s.dstRate d % 2 = 1)
  let lanes := if pair then [(d, l), (d + 1, l + 1)] else [(d, l)]
  let max := 48 * s.blockMs b - 1
  let bad := !s.on F.AUDIO_DBLK_EN b || (lanes.any fun e => s.laneUsed b e.2 (some e.1)) || decide (dl = 0 ∨ max < dl)
    || (pair && decide (d % 2 = 1 ∨ l % 2 = 1))
  if bad then s.event F.AUDIO_EVENT_DLY_REFUSED 0 Irq.audio
  else lanes.foldl (fun s e => s.setDelay e.1 dl b e.2 (bit w 16)) s

/-- A write of word `word` of AUDIO_DLY_CTRL[m] by the master that owns instance `own` (R305). -/
def State.dlyCtrlWrite (own m word w : Nat) (s : State) : State :=
  if own ≠ m then s.event F.AUDIO_EVENT_DLY_REFUSED 0 Irq.audio
  else if word = 0 then s.wr F.AUDIO_DLY_CTRL_DEST m w
  else if word = 1 then s.wr F.AUDIO_DLY_CTRL_DELAY m w
  else
    let s1 := ((s.wr F.AUDIO_DLY_CTRL_BLOCK m (bits w 0 10)).wr F.AUDIO_DLY_CTRL_LANE m (bits w 10 4)).wr
      F.AUDIO_DLY_CTRL_EN m (bits w 16 1)
    if bit w 31 then s1.delayGo m w else s1

/-- DELAY_SET: a host write of the third word of instance `m` with GO set. -/
def execDelaySet (m : Fin 6) (w : Word) (s : State) : Host.Outcome State Fault Refusal :=
  ok (s.hostWriteSet (0xC0108 + 16 * m.val) w.toNat 0x80000000 (State.dlyCtrlWrite 5 m.val 2))

/-! ### Ports (R291, R294) -/

/-- A channel of group `g` of port `p`'s embedder has ROUTED set in either table. -/
def State.groupRouted (s : State) (p g : Nat) : Bool :=
  (List.range 4).any fun j =>
    let d := 32 * p + 4 * g + j
    (s.aa d).ent.routed || (((s.ash d).staged || (s.ash d).pending) && (s.ash d).ent.routed)

/-- A source channel of port `p` is routed in either table. -/
def State.deembRouted (s : State) (p : Nat) : Bool :=
  (s.aud.act.any fun e => e.2.ent.routed && e.2.ent.src / 32 = p)
  || (s.aud.sh.any fun e => (e.2.staged || e.2.pending) && e.2.ent.routed && e.2.ent.src / 32 = p)

/-- A write of AUDIO_PORT's first word. The second port of a 24G pair has no settings. -/
def State.audioPortWrite (p w : Nat) (s : State) : State :=
  if s.second24 p then s
  else
    let en0 := s.rd F.AUDIO_PORT_GRP_EN p
    let en := if s.portClass p = 1 ∧ 16 ≤ bits w 8 8 then en0 else bits w 8 8
    let r96 := bits w 16 8
    let o96 := s.rd F.AUDIO_PORT_GRP96 p
    let bad := (List.range 8).any fun g => s.groupRouted p g && ((bit o96 g != bit r96 g) || (bit en0 g && !bit en g))
    if bad || (!bit w 0 && s.on F.AUDIO_PORT_DEEMB_EN p && s.deembRouted p) then s.event F.AUDIO_EVENT_CFG_REFUSED 0 Irq.audio
    else ((((s.wr F.AUDIO_PORT_DEEMB_EN p (bits w 0 1)).wr F.AUDIO_PORT_EMB_MODE p (bits w 1 1)).wr
      F.AUDIO_PORT_GRP_EN p en).wr F.AUDIO_PORT_GRP96 p r96)

/-- AUDIO_PORT_CFG_WRITE. -/
def execAudioPortCfgWrite (p : Fin 1152) (w : Word) (s : State) : Host.Outcome State Fault Refusal :=
  ok (s.hostWrite (0xC4000 + 16 * p.val) w.toNat (State.audioPortWrite p.val w.toNat))

/-- The de-embedder of a port, or of player `p` under 1152 + p. -/
def State.deemb (s : State) (q : Nat) : Deemb := tget s.aud.deemb q {}
def State.setDeemb (s : State) (q : Nat) (x : Deemb) : State := { s with aud := { s.aud with deemb := tput s.aud.deemb q x {} } }

/-- The choice of a frame start (R291): what the frame before showed, and the supplier of channels 16-31. -/
def Deemb.choose (x : Deemb) (sub1 : Bool) : Deemb := { sub1 := sub1, rate := x.r96 }

/-- DEEMB_SOURCE_CHOICE: a frame start of port `p`'s sub-channel 0 signal (R291): the groups the de-embedder has seen, at 96 kHz and
asynchronous, and, on an HD port, whether sub-channel 1 supplies channels 16-31, as it does while it carries a signal. A change of
choice is a change of source for them. -/
def execDeembSourceChoice (p : Fin 1152) (_ _ _ _ : Unit) (s : State) : Host.Outcome State Fault Refusal :=
  let q := p.val
  let x := s.deemb q
  let sub1 := s.portClass q = 3 || (s.portClass q = 2 && x.wave)
  ok (if !x.start then s
  else
    let s1 := (((s.wr F.AUDIO_PORT_PRESENT q x.seen).wr F.AUDIO_PORT_RATE96 q x.r96).wr F.AUDIO_PORT_ASYNC q x.async).setDeemb q
      (x.choose sub1)
    if x.sub1 ≠ sub1 then { s1 with aud := { s1.aud with gap := tput s1.aud.gap q true false } } else s1)

/-- The port's group that group `g` of sub-channel `c` supplies, while sub-channel 1 supplies channels 16-31 or not (R291). -/
def deembGroup (sub1 : Bool) (c g : Nat) : Option Nat :=
  if c = 1 then (if sub1 ∧ g < 4 then some (g + 4) else none) else if sub1 ∧ 4 ≤ g then none else some g

/-- Channel `c` has received a sample dated at house instant `at'` (R287, R292): it stands at the boundary nearest to where the samples
before it place it, the first at the first boundary at or after its date. One that comes after its boundary still stands there.
DESIGN CHOICE (log 145). -/
def State.takeSample (s : State) (c code at' : Nat) : State :=
  let a := tget s.aud.anchor c (0, 0, 0)
  let e := a.1 + (2 * (at' - a.2.1) * 48000 + secUnits) / (2 * secUnits)
  let fresh := decide (a.2.2 = 0 ∨ at' < a.2.1 ∨ a.2.2 + 64 < e)
  let b := if fresh then ceilDiv (at' * 48000) secUnits else Nat.max e (a.2.2 + 1)
  if !fresh && decide (e + 4 < b) then s
  else
    let s1 := { s with aud := { s.aud with anchor := tput s.aud.anchor c (if fresh then (b, at', b) else (a.1, a.2.1, b)) (0, 0, 0) } }
    if s.aud.bnd ≤ b then { s1 with aud := { s1.aud with due := tput s1.aud.due c (tget s1.aud.due c [] ++ [(b, code)]) [] } }
    else
      let h := tget s1.aud.hist c []
      let i := s.aud.bnd - 1 - b
      { s1 with aud := { s1.aud with hist := tput s1.aud.hist c (h.set i code) [] } }

/-- What the packets of one line's channels show de-embedder `q` (R291). -/
def Deemb.line (x : Deemb) (sub1 : Bool) (fs : List AncFacts) : Deemb :=
  let note := fun (x : Deemb) (c : Nat) (f : AncFacts) =>
    let y := f.samples.foldl (fun (x : Deemb) m => match deembGroup sub1 c (m.ch / 4) with
      | some g => { x with seen := withBit x.seen g true }
      | none => x) x
    f.ctl.foldl (fun (x : Deemb) m => match deembGroup sub1 c m.grp with
      | some g => { x with seen := withBit x.seen g true, r96 := withBit x.r96 g m.r96, async := withBit x.async g m.async }
      | none => x) y
  fs.zipIdx.foldl (fun x f => note x f.2 f.1) x

/-- De-embed one line whose channels' packets are `fs` (R291, R292): the line is dated at house instant `at'`, lasts `clks` CORE clocks and
has `len` words. A sample with clock phase data stands in the line before its packet's, or in the one before that; without, the
samples of a channel follow at their rate: PRESUMED (log 145). `base`: the first of the 32 channels. -/
def State.deembLine (s : State) (base at' clks len : Nat) (sub1 sd : Bool) (fs : List AncFacts) : State :=
  let smp := fs.zipIdx.flatMap fun f => f.1.samples.filterMap fun m => (deembGroup sub1 f.2 (m.ch / 4)).map fun g => (base + 4 * g + m.ch % 4, m)
  let unit := clks * 262144
  let date := fun (i : Nat) (e : Nat × AudSample) =>
    if sd then at' + countIf (smp.take i) (fun x => x.1 = e.1) * secUnits / 48000
    else at' + e.2.clk * unit / Nat.max 1 len - (if e.2.late then 2 * unit else unit)
  smp.zipIdx.foldl (fun s e =>
    let c := e.1.1
    let code := e.1.2.code % 2 ^ 24
    if s.asyncGroup c then s.fifoPush c [code] else s.takeSample c code (date e.2 e.1)) s

/-- The house instant at which a line dated now leaves the aligner of port `p` (R292): its egress instant in window, else now, which is
its arrival plus the ingress lead (R110). -/
def State.leaves (s : State) (p line : Nat) : Nat :=
  let r := s.rd F.ALIGN_PORT_CFG_RASTER p
  let w := s.winNow p r
  if s.enabled r && w.inside then
    ((s.house : Int) - s.ofsOn r (rasterLine (s.portClass p) (s.rLines r) line) * (s.phaseFull r * 262144 : Nat) / (s.phaseStep r : Nat)).toNat
  else s.house

/-- The de-embedder of port `p` reads a line of its first strand, slot `d` (R289, R291). -/
def State.deembStrand (s : State) (p d : Nat) (j : StrandLine) : State :=
  let y := s.strand d
  let lay := codeLay y.lay
  if s.second24 p || !s.on F.AUDIO_PORT_DEEMB_EN p || s.slotFill d || !y.locked then s
  else
    let chs := lay.chans j.words
    let used := if s.portClass p = 2 ∨ s.portClass p = 3 then chs else chs.take 1
    let sd := decide (lay = .sd)
    let fs := used.map fun c => lineAnc sd (chanAnc sd c)
    let x := s.deemb p
    let x1 := x.line x.sub1 fs
    let s1 := s.setDeemb p { x1 with wave := x.wave || !isFill (chs.getD 1 []), start := x.start || decide (y.line = 1) }
    s1.deembLine (32 * p) (s.leaves p y.line) j.clks y.len x.sub1 sd fs

/-- STRAND_LINE_JUDGE: strand slot `d` at the dated instant of one of its lines: monitored (R100-R107), and de-embedded (R291). A slot
that carries no signal under its port's class is not monitored (R99). -/
def execStrandLineJudge (d : Fin 4608) (j : StrandLine) (s : State) : Host.Outcome State Fault Refusal :=
  let p := s.slotPort d.val
  let k := d.val - 4 * p
  let s1 := s.judgeLine p k d.val j
  ok (if s.portClass p = 0 ∨ s.portWidth p ≤ k then s else if k = 0 then s1.deembStrand p d.val j else s1)

/-- The line that player `p` has just put out is de-embedded (R295), dated at its egress; the samples of a frame that repeats or drops
one are missing. Whether its sub-channel 1 supplies channels 16-31 follows from packets stored of it in the frame before: DEDUCED
(log 145). -/
def State.deembPlay (s : State) (p : Nat) : State :=
  let x := s.player p
  let r := x.set.raster
  let cls := classOf x.set.st x.set.rate
  match x.out.head?, tget s.aligner (5760 + 4 * p) [] with
  | some o, a :: _ =>
    let lay := layOf cls
    let fs := ((lay.chans a.words).take (if cls = 2 then 2 else 1)).map fun c => lineAnc false (chanAnc false c)
    let y0 := s.deemb (1152 + p)
    let y := if a.line = 1 ∧ x.line ≤ 2 then y0.choose (cls = 2 && y0.wave) else y0
    let wave := o.anc.any fun rec => bit (leWord rec) 13
    let s1 := s.setDeemb (1152 + p) { y.line y.sub1 fs with wave := y.wave || wave }
    let e := s.egress r
    let ahead : Int := (((x.line : Int) - 1 - e.line) * s.rSamples r - e.sample) * (s.phaseFull r * 262144 : Nat) / (s.phaseStep r : Nat)
    let clks := s.rSamples r * strandStep cls * s.phaseFull r / s.phaseStep r
    if x.mute then s1
    else s1.deembLine (57344 + 32 * p) ((s.house : Int) + ahead).toNat clks (chanLen cls x.set.st x.set.rate) y.sub1 false fs
  | _, _ => s

/-- PLAYER_LINE_FETCH: one line ahead of its egress (R240), and its audio (R295). `bad`: the port whose data came poisoned, or (`tmo`)
not within 20 us. -/
def execPlayerLineFetch (p : Fin 128) (bad : Option (Fin 4)) (tmo : Bool) (s : State) : Host.Outcome State Fault Refusal :=
  ok (if !s.playDue p.val then s
  else
    match s.readDesc (s.player p.val).set.handle with
    | none => s.staleRead.playFlags p.val true false
    | some i => (s.playFetch p.val i bad tmo).deembPlay p.val)

/-! ### TDM ports (R310-R314) -/

/-- Frames a second of a TDM rate code. -/
def tdmHz (r : Nat) : Nat :=
  match r with
  | 0 => 48000 | 1 => 96000 | 2 => 44100 | _ => 88200

/-- The channels of a port's range that its slots use. -/
def State.tdmChannels (s : State) (i : Nat) : List Nat := ((List.range 32).filter fun x => s.tdmHas i x).map (· + (61440 + 32 * i))

/-- Every destination that reads port `i` begins a ZEROX change: from its signal to 0, or back from 0 (R311, R313). -/
def State.tdmZerox (s : State) (i : Nat) (stop : Bool) : State :=
  forEach ((s.aud.act.filter fun e => e.2.ent.routed && decide (tdmOf e.2.ent.src = some i)).map (·.1)) (fun d s =>
    let e := (s.aa d).ent
    s.beginChange d { old := if stop then e else { e with routed := false }, new := e, start := s.lastBnd d, mode := 1
                      len := 0, raw := stop }) s

/-- The divider of a master port (R312). -/
def tdmDiv (rate slots width : Nat) : Nat :=
  let f := if rate < 2 then 49152000 else 45158400
  let b := tdmHz rate * slots * width
  (f * 65536 * 2 + b) / (2 * b)

/-- Drop what waits of port `i`'s channels; `fill` puts its FIFOs in place, centred. -/
def State.tdmFifos (s : State) (i : Nat) (fill : Bool) : State :=
  let f := s.aud.fifo.filter fun e => decide (tdmOf e.1 ≠ some i)
  let s1 := { s with aud := { s.aud with fifo := f } }
  if fill then forEach (s.tdmChannels i) (fun c s => s.fifoPush c []) s1 else s1

/-- Clear EN: the port is OFF, destinations that read it change to 0 by ZEROX. -/
def State.tdmOff (s : State) (i : Nat) : State :=
  if s.on F.TDM_CFG_EN i then
    let s1 := if s.rd F.TDM_STATUS_STATE i = 3 then s else s.tdmZerox i true
    let s2 := { (s1.tdmFifos i false) with tdms := tput s1.tdms i {} {} }
    ((s2.wr F.TDM_CFG_EN i 0).wr F.TDM_STATUS_STATE i 0).wr F.TDM_DIV_DIV i 0
  else s

/-- Set EN: ACQUIRING, and a master's divider computed. -/
def State.tdmOn (s : State) (i : Nat) : State :=
  if s.on F.TDM_CFG_EN i then s
  else
    let now := s.boundaryNow (aRate (decide (2 ≤ s.rd F.TDM_CFG_RATE i)))
    let s1 := { (s.wr F.TDM_CFG_EN i 1) with tdms := tput s.tdms i { since := now } {} }
    let dv := if s.on F.TDM_CFG_MASTER i then tdmDiv (s.rd F.TDM_CFG_RATE i) (s.rd F.TDM_CFG_SLOTS i + 1) (s.rd F.TDM_CFG_WIDTH i) else 0
    (s1.wr F.TDM_STATUS_STATE i 1).wr F.TDM_DIV_DIV i dv

/-- The format fields of a TDM_CFG word. -/
def tdmFormat (w : Nat) : Nat := bits w 1 23

/-- Write the format fields; a reserved WIDTH or FS_WIDTH leaves its field (R8). -/
def State.tdmFields (s : State) (i w : Nat) : State :=
  let s1 := (((s.wr F.TDM_CFG_MASTER i (bits w 1 1)).wr F.TDM_CFG_RATE i (bits w 2 2)).wr F.TDM_CFG_SLOTS i (bits w 4 5)).writeField
    F.TDM_CFG_WIDTH i (bits w 9 6)
  (((s1.wr F.TDM_CFG_OFFSET i (bits w 15 5)).wr F.TDM_CFG_BCLK_POL i (bits w 20 1)).wr F.TDM_CFG_FS_POL i (bits w 21 1)).writeField
    F.TDM_CFG_FS_WIDTH i (bits w 22 2)

/-- A write of TDM_CFG[i] (R311). -/
def State.tdmCfg (i w : Nat) (s : State) : State :=
  let en := s.on F.TDM_CFG_EN i
  let s1 := s.tdmFields i w
  let changes := decide (tdmFormat (s1.readWord (0xD0000 + 0x20 * i)) ≠ tdmFormat (s.readWord (0xD0000 + 0x20 * i)))
  let slots := s1.rd F.TDM_CFG_SLOTS i + 1
  let fast := decide (49152000 < tdmHz (s1.rd F.TDM_CFG_RATE i) * slots * s1.rd F.TDM_CFG_WIDTH i)
    || decide (s1.rd F.TDM_CFG_RATE i % 2 = 1 ∧ 16 < slots)
  let refused := (en && changes) || (!en && fast)
  let s2 := if refused then s.wr F.TDM_STATUS_CFG_REFUSED i 1 else if en then s else s1
  let s3 := if refused then s2 else s2.wr F.TDM_CFG_RASTER i (bits w 24 3)
  if !bit w 0 then s3.tdmOff i else if refused then s3 else s3.tdmOn i

/-- TDM_CFG_WRITE. -/
def execTdmCfgWrite (i : Fin 16) (w : Word) (s : State) : Host.Outcome State Fault Refusal :=
  ok (s.hostWrite (0xD0000 + 0x20 * i.val) w.toNat (State.tdmCfg i.val w.toNat))

/-- A stop, glitch or rate change of port `i`: its event bit, its frame on RASTER, a violation of the clock master's, which is
the fault event (R313, R438, Table 16-6). -/
def State.tdmFault (s : State) (i : Nat) (f : Fld) (code answer len : Nat) : State :=
  ((s.wr f i 1).wr F.TDM_LAST_EV_FRAME i (s.pos (s.rd F.TDM_CFG_RASTER i)).frame).violation 5 i code answer (len % 65536) Src.tdm

/-- A slave port enters RUNNING: with its FIFOs centred, where RESYNC has not done so before (R313, R314); from STOPPED its destinations
return by ZEROX. -/
def State.tdmRun (s : State) (i : Nat) : State :=
  let was := s.rd F.TDM_STATUS_STATE i
  let t := tget s.tdms i {}
  let s1 := s.wr F.TDM_STATUS_STATE i 2
  if was = 4 then { s1 with tdms := tput s.tdms i { t with good := 0, off := 0 } {} }
  else
    let s2 := { s1.tdmFifos i true with
                tdms := tput s.tdms i { t with good := 0, off := 0, odd := false, outq := List.replicate 32 [] } {} }
    if was = 3 then s2.tdmZerox i false else s2

/-- 32 of what waits, the newest; what is not there is missing. -/
def centred {α : Type} (none : α) (l : List α) : List α := List.replicate (32 - l.length) none ++ l.drop (l.length - 32)

/-- RESYNC: the FIFOs of port `i` are centred again (R313). -/
def State.tdmCentre (s : State) (i : Nat) : State :=
  let t := tget s.tdms i {}
  let s1 := forEach (s.tdmChannels i) (fun c s =>
    { s with aud := { s.aud with fifo := tins s.aud.fifo c (centred noSample (tget s.aud.fifo c [])) } }) s
  { s1 with tdms := tput s.tdms i { t with off := 0, good := 0, outq := centred [] t.outq } {} }

/-- The output of a slave port at a frame: what waits longest (R310); a fill below 8 repeats it (R308). -/
def State.tdmSend (s : State) (i : Nat) : State :=
  let t := tget s.tdms i {}
  let put := fun (t : Tdm) (s : State) => { s with tdms := tput s.tdms i t {} }
  if t.odd then put { t with dout := s.tdmSlots i t.cur true, odd := false } s
  else
    let fr := t.outq.headD []
    let t1 := { t with cur := fr, odd := s.tdmTwo i, dout := s.tdmSlots i fr false }
    if t.outq.length ≤ 8 then (put t1 s).incSat F.TDM_CNT0_SLIP i else put { t1 with outq := t.outq.tail } s

/-- The samples of a frame of slots `smp` into the FIFOs of port `i`, missing ones where the frame was not of the right length, and those
of the next frame out (R308, R310, R313). -/
def State.tdmFlow (s : State) (i : Nat) (good : Bool) (smp : List Nat) : State :=
  let w := s.rd F.TDM_CFG_WIDTH i
  let second := (tget s.tdms i {}).odd
  (forEach (List.range (s.rd F.TDM_CFG_SLOTS i + 1)) (fun k s =>
    s.fifoPush (61440 + 32 * i + if s.tdmTwo i then 2 * k + b2n second else k) [if good then slotCode w (smp.getD k 0) else noSample]) s).tdmSend i

/-- The frame that ended at an FSYNC edge, in a RUNNING port: a glitch, or its samples into the FIFOs; then its period. -/
def State.tdmRunning (s : State) (i : Nat) (len : Nat) (good : Bool) (per : Option Nat) (smp : List Nat) : State :=
  let hz := tdmHz (s.rd F.TDM_CFG_RATE i)
  let s1 := s.tdmFlow i good smp
  let s2 := if good then s1 else (s1.incSat F.TDM_CNT0_GLITCH i).tdmFault i F.TDM_STATUS_GLITCH_EV 2 1 len
  let t := tget s2.tdms i {}
  match per with
  | none => s2
  | some p =>
    let d : Int := (p * hz : Nat) - 1250000000
    let off := if 6250000 < d.natAbs then t.off + 1 else 0
    let s3 := { s2 with tdms := tput s2.tdms i { t with off := off } {} }
    if off < 16 then s3
    else
      (((s3.wr F.TDM_STATUS_STATE i 4).incSat F.TDM_CNT1_RESYNC i).tdmFault i F.TDM_STATUS_RATE_EV 3 6 len).tdmCentre i

/-- TDM_FRAME: an active FSYNC edge of slave port `i`, after a frame of `len` bit clocks whose slots carried `smp` (R313, R314). A port in
RESYNC follows the foreign rate. -/
def execTdmFrame (i : Fin 16) (len : Nat) (smp : List Nat) (s : State) : Host.Outcome State Fault Refusal :=
  let j := i.val
  let t := tget s.tdms j {}
  let st := s.rd F.TDM_STATUS_STATE j
  let good := decide (len = (s.rd F.TDM_CFG_SLOTS j + 1) * s.rd F.TDM_CFG_WIDTH j)
  let per := t.lastEdge.map fun e => s.clk - e
  let hz := tdmHz (s.rd F.TDM_CFG_RATE j)
  ok (if !s.on F.TDM_CFG_EN j || s.on F.TDM_CFG_MASTER j then s
  else
    let s1 := { s with tdms := tput s.tdms j { t with lastEdge := some s.clk } {} }
    let s2 := match per with
      | some p => s1.wr F.TDM_STATUS_RATE_ERR j (wrapInt 16 ((((p * hz : Nat) : Int) - 1250000000) * 100000 / 1250000000))
      | none => s1
    if st = 2 then s2.tdmRunning j len good per smp
    else
      let s2 := if st = 4 then s2.tdmFlow j good smp else s2
      let t2 := tget s2.tdms j {}
      let g := if per.isNone then 0 else if good then t2.good + 1 else 0
      let s3 := { s2 with tdms := tput s2.tdms j { t2 with good := g } {} }
      if 16 ≤ g then s3.tdmRun j else s3)

/-- TDM_STOP: no active FSYNC edge for two nominal periods of a RUNNING slave port. -/
def execTdmStop (i : Fin 16) (s : State) : Host.Outcome State Fault Refusal :=
  let j := i.val
  let t := tget s.tdms j {}
  ok (match t.lastEdge with
    | some e =>
      if s.rd F.TDM_STATUS_STATE j = 2 ∧ !s.on F.TDM_CFG_MASTER j ∧
          2 * 1250000000 ≤ (s.clk - e) * tdmHz (s.rd F.TDM_CFG_RATE j) then
        let s1 := (s.wr F.TDM_STATUS_STATE j 3).incSat F.TDM_CNT1_STOP j
        let s2 := (s1.tdmZerox j true).tdmFault j F.TDM_STATUS_STOP_EV 1 6 0
        { s2 with tdms := tput s2.tdms j { t with good := 0, off := 0, lastEdge := .none, outq := [], cur := [], odd := false, dout := [] } {} }
      else s
    | none => s)

/-- TDM_MASTER_START: the first boundary of a master port's timeline after EN (R314). -/
def execTdmMasterStart (i : Fin 16) (s : State) : Host.Outcome State Fault Refusal :=
  let due := decide ((tget s.tdms i.val {}).since < s.boundaryNow (aRate (decide (2 ≤ s.rd F.TDM_CFG_RATE i.val))))
  ok (if s.on F.TDM_CFG_EN i.val && s.on F.TDM_CFG_MASTER i.val && s.rd F.TDM_STATUS_STATE i.val = 1 && due then
    s.wr F.TDM_STATUS_STATE i.val 2
  else s)

end Sys2Proof.Machine
end

