-- ==== Sys2Proof/Machine/Blocks.lean ====
section
/-! DEFINITION. What travels on a Tetos lane (R316-R322, R342): blocks, PAM4 levels, the scrambler, RS(558,528), frames and test
patterns, as bits in the order of transmission. -/
namespace Sys2Proof.Machine

/-! ### Bits and levels (R316) -/

/-- The number whose bits are `bs`, the first one lowest; and the first one highest. -/
def lowFirst (bs : List Nat) : Nat := bs.foldr (fun b a => b % 2 + 2 * a) 0
def highFirst (bs : List Nat) : Nat := bs.foldl (fun a b => 2 * a + b % 2) 0

/-- The lowest `n` bits of a number, the lowest first; and the highest of them first. -/
def bitsLow (n v : Nat) : List Nat := (List.range n).map fun i => v / 2 ^ i % 2
def bitsHigh (n v : Nat) : List Nat := (bitsLow n v).reverse

/-- `k` pieces of `n` elements each. -/
def pieces {α : Type} (n k : Nat) (l : List α) : List (List α) :=
  match k with
  | 0 => []
  | k + 1 => l.take n :: pieces n k (l.drop n)

/-- PAM4 levels of bits, two at a time, Gray-coded, and the bits of a level. -/
def levelsOf (bs : List Nat) : List Nat :=
  match bs with
  | a :: b :: r => (2 * a + (a + b) % 2) :: levelsOf r
  | _ => []
def levelBits (l : Nat) : List Nat := [l / 2 % 2, (l / 2 + l) % 2]

/-- The 66 bits of a block: header, then payload bit 0 first. -/
def Blk.bits (b : Blk) : List Nat := (if b.ctl then [1, 0] else [0, 1]) ++ bitsLow 64 b.pay

/-- A received block of 66 bits; none where its header is 00 or 11. -/
def blkOf (bs : List Nat) : Option Blk :=
  match bs with
  | 0 :: 1 :: r => some { ctl := false, pay := lowFirst r }
  | 1 :: 0 :: r => some { ctl := true, pay := lowFirst r }
  | _ => none

/-- Type and content of a control block's payload (R327). -/
def blkType (pay : Nat) : Nat := pay / 2 ^ 56 % 256
def ctlPay (typ content : Nat) : Nat := typ % 256 * 2 ^ 56 + content % 2 ^ 56

/-- The marker's payload (Table 11-5): the number of the first turn that begins after it, and FSEQ. -/
def markerPay (turn fseq : Nat) : Nat := 0xF0E1D2C3 * 2 ^ 32 + turn % 65536 * 65536 + fseq % 65536
def isMarker (b : Blk) : Bool := b.ctl && decide (b.pay / 2 ^ 32 % 2 ^ 32 = 0xF0E1D2C3)

/-! ### Scrambler (R317) -/

/-- One bit scrambled, and one descrambled, by 1 + x^39 + x^58; the state holds the last 58 bits sent, the last lowest. -/
def scrBit (st b : Nat) : Nat := (b + st / 2 ^ 38 + st / 2 ^ 57) % 2

/-- A payload scrambled from a state, and the state after it. -/
def scramble (st pay : Nat) : Nat × Nat :=
  let r := (bitsLow 64 pay).foldl (fun (a : Nat × List Nat) b => let o := scrBit a.1 b; ((2 * a.1 + o) % 2 ^ 58, o :: a.2)) (st, [])
  (r.1, lowFirst r.2.reverse)

/-- A payload descrambled. -/
def descramble (st pay : Nat) : Nat × Nat :=
  let r := (bitsLow 64 pay).foldl (fun (a : Nat × List Nat) b => ((2 * a.1 + b) % 2 ^ 58, scrBit a.1 b :: a.2)) (st, [])
  (r.1, lowFirst r.2.reverse)

/-- Blocks scrambled or descrambled one after the other. -/
def throughScr (f : Nat → Nat → Nat × Nat) (st : Nat) (bs : List Blk) : Nat × List Blk :=
  match bs with
  | [] => (st, [])
  | b :: r =>
    let x := f st b.pay
    let y := throughScr f x.1 r
    (y.1, { b with pay := x.2 } :: y.2)

/-! ### RS(558,528) over GF(2^10) (R319) -/

/-- Product in GF(2^10) modulo x^10 + x^3 + 1. -/
def gfMul (a b : Nat) : Nat :=
  ((List.range 10).foldl (fun (c : Nat × Nat) i =>
    (if bit b i then Nat.xor c.1 c.2 else c.1, if 512 ≤ c.2 then Nat.xor (2 * c.2) 0x409 else 2 * c.2)) (0, a)).1

/-- Powers of an element, by its binary exponent, and the inverse. -/
def gfPow (a e : Nat) : Nat :=
  ((List.range 10).foldl (fun (c : Nat × Nat) i => (if bit e i then gfMul c.1 c.2 else c.1, gfMul c.2 c.2)) (1, a)).1
def gfInv (a : Nat) : Nat := gfPow a 1022

/-- Alpha to the power `e`. -/
def gfExp (e : Nat) : Nat := gfPow 2 (e % 1023)

/-- Polynomials, the constant term first: sum, multiple, and value. -/
def polyAdd (p q : List Nat) : List Nat :=
  match p, q with
  | a :: r, b :: t => Nat.xor a b :: polyAdd r t
  | [], q => q
  | p, [] => p
def polyScale (k : Nat) (p : List Nat) : List Nat := p.map (gfMul k)
def polyAt (p : List Nat) (x : Nat) : Nat := p.foldr (fun c a => Nat.xor c (gfMul a x)) 0

/-- The generator polynomial without its leading 1. -/
def rsGen : List Nat := (((List.range 30).foldl (fun g i => polyAdd (0 :: g) (polyScale (gfExp i) g)) [1]).take 30)

/-- The 30 parity symbols of 528 message symbols, the highest power first. DEDUCED (log 146): the first symbol is the highest power. -/
def rsParity (msg : List Nat) : List Nat :=
  (msg.foldl (fun (r : List Nat) m =>
    let f := Nat.xor m (r.getLastD 0)
    polyAdd (0 :: r.dropLast) (polyScale f rsGen)) (List.replicate 30 0)).reverse

/-- A step of the search for the error locator. -/
structure Locator where
  c : List Nat := [1]
  b : List Nat := [1]
  len : Nat := 0
  gap : Nat := 1
  last : Nat := 1
deriving DecidableEq, Repr

def Locator.step (syn : List Nat) (x : Locator) (n : Nat) : Locator :=
  let d := (List.range (x.len + 1)).foldl (fun a i => Nat.xor a (gfMul (x.c.getD i 0) (syn.getD (n - i) 0))) 0
  if d = 0 then { x with gap := x.gap + 1 }
  else
    let c := polyAdd x.c (List.replicate x.gap 0 ++ polyScale (gfMul d (gfInv x.last)) x.b)
    if 2 * x.len ≤ n then { c := c, b := x.c, len := n + 1 - x.len, gap := 1, last := d } else { x with c := c, gap := x.gap + 1 }

/-- The word corrected, with the count of wrong symbols, at most 15; none for an uncorrectable one. The first symbol is the highest
power. -/
def rsDecode (w : List Nat) : Option (List Nat × Nat) :=
  let low := w.reverse
  let syn := (List.range 30).map fun i => polyAt low (gfExp i)
  if syn.all (· = 0) then some (w, 0)
  else
    let x := (List.range 30).foldl (Locator.step syn) {}
    let om := (List.range 30).map fun i => (List.range (i + 1)).foldl (fun a j => Nat.xor a (gfMul (x.c.getD j 0) (syn.getD (i - j) 0))) 0
    let der := (List.range 15).flatMap fun i => [x.c.getD (2 * i + 1) 0, 0]
    let at' := (List.range 558).filter fun p => polyAt x.c (gfExp (1023 - p)) = 0
    if x.len ≤ 15 ∧ at'.length = x.len then
      let fix := at'.foldl (fun (l : List Nat) p =>
        let y := gfExp (1023 - p)
        l.set p (Nat.xor (l.getD p 0) (gfMul (gfExp p) (gfMul (polyAt om y) (gfInv (polyAt der y)))))) low
      if (List.range 30).all fun i => polyAt fix (gfExp i) = 0 then some (fix.reverse, x.len) else none
    else none

/-! ### Frames (R318) -/

/-- The 85 blocks of a frame: 80 protected ones and the trailer of their parity. -/
def frameBlocks (bs : List Blk) : List Blk :=
  let msg := (pieces 10 528 (bs.flatMap Blk.bits)).map highFirst
  let par := (rsParity msg).flatMap (bitsHigh 10)
  bs ++ (pieces 60 5 par).map fun p => { ctl := true, pay := lowFirst p }

/-- Symbols of a received frame's 85 blocks of bits. -/
def frameSyms (raw : List (List Nat)) : List Nat :=
  (pieces 10 528 ((raw.take 80).flatMap id)).map highFirst ++
    (pieces 10 30 ((raw.drop 80).flatMap fun b => (b.drop 2).take 60)).map highFirst

/-- The 80 protected blocks that symbols spell. -/
def symBlocks (syms : List Nat) : List (Option Blk) := (pieces 66 80 ((syms.take 528).flatMap (bitsHigh 10))).map blkOf

/-- Symbol errors put into a frame's bits before transmission (R342): symbol `p` of the code word takes `v` added. -/
def spoil (bs : List Nat) (es : List (Nat × Nat)) : List Nat :=
  es.foldl (fun l e =>
    let at' := fun i => if e.1 < 528 then 10 * e.1 + i else
      let b := 10 * (e.1 - 528) + i
      5280 + 66 * (b / 60) + 2 + b % 60
    (List.range 10).foldl (fun l i => if bit e.2 (9 - i) then l.set (at' i) (1 - l.getD (at' i) 0) else l) l) bs

/-! ### Cells (R322) -/

/-- The five data blocks of 16 words, and the words of five payloads. -/
def cellBlocks (ws : List Nat) : List Blk :=
  let v := ws.foldr (fun w a => w % 2 ^ 20 + 2 ^ 20 * a) 0
  (List.range 5).map fun j => { ctl := false, pay := v / 2 ^ (64 * j) % 2 ^ 64 }
def cellWords (ps : List Nat) : List Nat :=
  let v := ps.foldr (fun p a => p % 2 ^ 64 + 2 ^ 64 * a) 0
  (List.range 16).map fun i => v / 2 ^ (20 * i) % 2 ^ 20

/-! ### Finding the block grid (R320) -/

/-- Two bits are a valid header. -/
def hdrOk (bs : List Nat) : Bool :=
  match bs with
  | a :: b :: _ => decide (a % 2 ≠ b % 2)
  | _ => false

/-- Hunt: successive headers at a candidate position, `run` of them valid so far; an invalid one slips it by a bit. The bits left, and
the run, 64 of which is block lock. -/
def huntGrid (fuel run : Nat) (bs : List Nat) : List Nat × Nat :=
  match fuel with
  | 0 => (bs, run)
  | n + 1 =>
    if 64 ≤ run ∨ bs.length < 66 then (bs, run)
    else if hdrOk bs then huntGrid n (run + 1) (bs.drop 66) else huntGrid n 0 (bs.drop 1)

/-- Some 64 consecutive blocks have 16 invalid headers. -/
def gridLost (hs : List Bool) : Bool := (List.range (hs.length - 63)).any fun i => decide (16 ≤ countIf ((hs.drop i).take 64) fun b => !b)

/-! ### Test patterns (R342) -/

/-- Order of a pattern's register, and its next bit. PRESUMED (log 146): the usual polynomials. -/
def prbsOrder (pat : Nat) : Nat := match pat with
  | 0 => 7 | 1 => 13 | _ => 31
def prbsBit (pat st : Nat) : Nat := match pat with
  | 0 => (st / 2 ^ 6 + st / 2 ^ 5) % 2
  | 1 => (st / 2 ^ 12 + st / 2 ^ 11 + st / 2 + st) % 2
  | _ => (st / 2 ^ 30 + st / 2 ^ 27) % 2
def prbsNext (pat st : Nat) : Nat := (2 * st + prbsBit pat st) % 2 ^ prbsOrder pat

/-- `n` bits of a pattern from a state, and the state after them. -/
def prbsRun (pat n st : Nat) : List Nat × Nat :=
  match n with
  | 0 => ([], st)
  | n + 1 =>
    let r := prbsRun pat n (prbsNext pat st)
    (prbsBit pat st :: r.1, r.2)

end Sys2Proof.Machine
end

