-- ==== Sys2Proof/Machine/Cue.lean ====
section
/-! DEFINITION. The cue engines' host side (chapter 6): control, command rings and records, the ends of waits, the event ring,
engine memories and engine substitution. -/
namespace Sys2Proof.Machine

/-! ### Memories (R147, R149) -/

/-- First byte of the cue window. -/
abbrev winBase : Nat := 0x1F800

/-- The return address that stands for the built-in dispatcher (R154). -/
abbrev dispatchRet : Nat := 0x40000

/-- The number whose memories receive a copy of every write to `n`'s (R172). -/
def State.copyTo (s : State) (n : Nat) : Option Nat :=
  if s.subst.step ≠ 0 ∧ s.subst.target = n then some s.spareNum else none

/-- Store a program or data memory word of engine number `n`. -/
def State.pmemPut (s : State) (n a v : Nat) : State :=
  let s1 := { s with pmem := tput s.pmem (n * 32768 + a) (v % 2 ^ 32) 0 }
  match s.copyTo n with
  | some q => { s1 with pmem := tput s1.pmem (q * 32768 + a) (v % 2 ^ 32) 0 }
  | none => s1
def State.dmemPut (s : State) (n a v : Nat) : State :=
  let s1 := { s with dmem := tput s.dmem (n * 16384 + a) (v % 2 ^ 32) 0 }
  match s.copyTo n with
  | some q => { s1 with dmem := tput s1.dmem (q * 16384 + a) (v % 2 ^ 32) 0 }
  | none => s1
def State.smemPut (s : State) (a v : Nat) : State := { s with smem := tput s.smem a (v % 2 ^ 32) 0 }

/-- Word `a` of program memory as fetched: the cue window holds its record's body; what stands beyond it, or in an empty window,
is a free value (log 19). -/
def State.pmemWord (s : State) (n a : Nat) : Nat :=
  if a * 4 < winBase then tget s.pmem (n * 32768 + a) 0
  else
    let i := a - winBase / 4
    match (s.eng n).win with
    | some w => if i < w.words.length then w.words.getD i 0 else Config.free (w.fill + i) % 2 ^ 32
    | none => Config.free (s.freeCtr + i) % 2 ^ 32
def State.dmemWord (s : State) (n a : Nat) : Nat := tget s.dmem (n * 16384 + a) 0
def State.smemWord (s : State) (a : Nat) : Nat := tget s.smem a 0

/-- What CUE_WIN_SEL's window reaches (R149): target and first word of its page. -/
def State.cueWin (s : State) : Option (Nat × Nat) :=
  let t := s.rd F.CUE_WIN_SEL_TARGET 0
  let p := s.rd F.CUE_WIN_SEL_PAGE 0
  if (t = 0 ∧ p ≤ 1) ∨ (t = 1 ∧ p = 0) ∨ t = 2 then some (t, p * 16384) else none

/-- A host write of word `a` of a memory: target 0 program, 1 data, 2 shared. The cue window is the fetcher's alone (R147). -/
def State.cueMemWrite (n t a w : Nat) (s : State) : State :=
  match t with
  | 0 =>
    if (s.es n = Es.stopped ∨ s.es n = Es.halted ∨ s.es n = Es.faulted) ∧ a * 4 < winBase then s.pmemPut n a w
    else s.wr F.CUE_STATUS_CTRL_REFUSED n 1
  | 1 => s.dmemPut n a w
  | _ => s.smemPut a w

/-- A write of word `i` of the window. -/
def State.cueWinWrite (i w : Nat) (s : State) : State :=
  match s.cueWin with
  | none => s
  | some (t, b) => s.cueMemWrite (s.rd F.CUE_WIN_SEL_ENGINE 0) t (b + i) w

/-- A read of word `i` of the window. -/
def State.cueWinRead (s : State) (i : Nat) : Nat :=
  let n := s.rd F.CUE_WIN_SEL_ENGINE 0
  match s.cueWin with
  | none => 0
  | some (0, b) => s.pmemWord n (b + i)
  | some (1, b) => s.dmemWord n (b + i)
  | some (_, b) => s.smemWord (b + i)

/-- CUE_MEMORY_WINDOW_WRITE: a host write of word `i` of the window. -/
def execCueMemoryWindowWrite (i : Fin 16384) (w : Word) (s : State) : Host.Outcome State Fault Refusal :=
  ok (s.hostWrite (0x70000 + 4 * i.val) w.toNat (State.cueWinWrite i.val w.toNat))

/-- A write of CUE_WIN_SEL: numbers of no engine, TARGET 3 and pages out of range for the target are reserved (R8). -/
def State.winSelWrite (w : Nat) (s : State) : State :=
  let s1 := if bits w 0 3 ≤ 4 then s.wr F.CUE_WIN_SEL_ENGINE 0 (bits w 0 3) else s
  let s2 := if bits w 4 2 ≤ 2 then s1.wr F.CUE_WIN_SEL_TARGET 0 (bits w 4 2) else s1
  let t := s2.rd F.CUE_WIN_SEL_TARGET 0
  let p := bits w 8 4
  if (t = 0 ∧ p ≤ 1) ∨ (t = 1 ∧ p = 0) ∨ t = 2 then s2.wr F.CUE_WIN_SEL_PAGE 0 p else s2

/-! ### The dispatcher (R154) -/

/-- CALL 0x1_F800 with a record loaded: the return address is pushed, the record's depth noted (R155, R183). -/
def State.callWindow (s : State) (n ret : Nat) : State :=
  let e := s.eng n
  let win := e.win.map fun w => { w with depth := some e.stack.length }
  (s.setEng n { e with stack := ret :: e.stack, win := win }).setPc n winBase

/-- An IDLE engine whose window holds a record calls it, as after a WAITEV that ended with RS OK (R154, R195). -/
def State.dispatch (s : State) (n : Nat) : State :=
  if s.es n = Es.idle ∧ (s.eng n).win.isSome then
    let s1 := (s.wr F.CUE_STATUS_STATE n Es.running).setRs n Rc.ok
    if 16 ≤ (s.eng n).stack.length then s1.faultStop n Fc.stack 0
    else
      let s2 := s1.callWindow n dispatchRet
      s2.setEng n { s2.eng n with runSince := s2.clk }
  else s

/-- Enter IDLE. -/
def State.enterIdle (s : State) (n : Nat) : State := (s.wr F.CUE_STATUS_STATE n Es.idle).dispatch n

/-! ### Control (R156, R157) -/

def State.ctrlRefused (s : State) (n : Nat) : State := s.wr F.CUE_STATUS_CTRL_REFUSED n 1

/-- STOPPED, HALTED or FAULTED. -/
def State.engOff (s : State) (n : Nat) : Bool := s.es n = Es.stopped || s.es n = Es.halted || s.es n = Es.faulted

/-- START; refused of the spare number (R143). -/
def State.reqStart (s : State) (n : Nat) : State :=
  if s.engOff n && s.enginesRun && decide (n ≠ s.spareNum) then (s.engStart n).dispatch n else s.ctrlRefused n

/-- STOP: an engine in a commit's wait for its acknowledgement (R169) is inside an instruction; it stops with the wait kept. -/
def State.reqStop (s : State) (n : Nat) : State :=
  if s.es n = Es.spare ∨ s.es n = Es.retired then s.ctrlRefused n else s.engStop n 0

/-- RESUME. -/
def State.reqResume (s : State) (n : Nat) : State :=
  let e := s.eng n
  if (s.es n = Es.stopped ∨ s.es n = Es.faulted) ∧ s.enginesRun = true ∧ n ≠ s.spareNum then
    let s1 := s.setEng n { e with wasIdle := false, runSince := s.clk }
    match e.wait with
    | .none => if e.wasIdle ∧ s.es n = Es.stopped then s1.enterIdle n else s1.wr F.CUE_STATUS_STATE n Es.running
    | .commit _ _ _ => s1.wr F.CUE_STATUS_STATE n Es.running
    | _ => s1.wr F.CUE_STATUS_STATE n Es.waiting
  else s.ctrlRefused n

/-- ENG_RESET. -/
def State.reqReset (s : State) (n : Nat) : State :=
  if s.es n = Es.spare ∨ s.es n = Es.retired then s.ctrlRefused n else s.engReset n

/-- Unstage what an engine number has staged (R156, R206). -/
def State.unstageEng (s : State) (n : Nat) : State := ((s.unstageXpt n).unclaimAll n).unstageAudio n

/-- DISCARD_STAGED. -/
def State.reqDiscard (s : State) (n : Nat) : State := if s.engOff n then s.unstageEng n else s.ctrlRefused n

/-- The fields of a write of CUE_CTRL[n]: MODE and STYLE, only while STOPPED; AUTH_REQ and RING_EN, whose clearing ends a fetch. -/
def State.cueFields (n w : Nat) (s : State) : State :=
  let m := bits w 8 1
  let st := bits w 9 1
  let s1 := if m = s.rd F.CUE_CTRL_MODE n ∧ st = s.rd F.CUE_CTRL_STYLE n then s
    else if s.es n = Es.stopped then (s.wr F.CUE_CTRL_MODE n m).wr F.CUE_CTRL_STYLE n st else s.ctrlRefused n
  let s2 := (s1.wr F.CUE_CTRL_AUTH_REQ n (bits w 10 1)).wr F.CUE_CTRL_RING_EN n (bits w 11 1)
  if bit w 11 then s2 else s2.setEng n { s2.eng n with fetching := false }

/-- A write of CUE_CTRL[n]: its fields, then its requests in bit order. -/
def State.cueCtrl (n w : Nat) (s : State) : State :=
  let s3 := s.cueFields n w
  let s4 := if bit w 0 then s3.reqStart n else s3
  let s5 := if bit w 1 then s4.reqStop n else s4
  let s6 := if bit w 2 then s5.reqResume n else s5
  let s7 := if bit w 3 then s6.reqReset n else s6
  if bit w 4 then s7.reqDiscard n else s7

/-- A host write of CUE_CTRL[n] with the bits of `b` set; a standby's own host is refused (R168). -/
def State.cueCtrlHost (s : State) (n w b : Nat) : State :=
  s.hostWriteSet (0x61000 + 0x100 * n) w b (State.cueCtrl n)

/-- CUE_START: a write with START set. -/
def execCueStart (n : Fin 5) (w : Word) (s : State) : Host.Outcome State Fault Refusal := ok (s.cueCtrlHost n.val w.toNat 1)

/-- CUE_STOP: a write with STOP set. -/
def execCueStop (n : Fin 5) (w : Word) (s : State) : Host.Outcome State Fault Refusal := ok (s.cueCtrlHost n.val w.toNat 2)

/-- CUE_RESUME: a write with RESUME set. -/
def execCueResume (n : Fin 5) (w : Word) (s : State) : Host.Outcome State Fault Refusal := ok (s.cueCtrlHost n.val w.toNat 4)

/-- ENG_RESET: a write with ENG_RESET set. -/
def execEngReset (n : Fin 5) (w : Word) (s : State) : Host.Outcome State Fault Refusal := ok (s.cueCtrlHost n.val w.toNat 8)

/-- DISCARD_STAGED: a write with DISCARD_STAGED set. -/
def execDiscardStaged (n : Fin 5) (w : Word) (s : State) : Host.Outcome State Fault Refusal := ok (s.cueCtrlHost n.val w.toNat 16)

/-- A change of SPARE_NUM (R143): the old spare number's engine stands STOPPED, the new one's state is cleared and it is SPARE. -/
def State.setSpare (s : State) (n : Nat) : State :=
  let old := s.spareNum
  if n = old then s
  else
    let s1 := if s.es old = Es.spare then s.wr F.CUE_STATUS_STATE old Es.stopped else s
    ((s1.engReset n).wr F.CUE_STATUS_STATE n Es.spare).wr F.CUE_GLOBAL_CFG_SPARE_NUM 0 n

/-- A write of CUE_GLOBAL_CFG: SPARE_NUM only in CALIBRATE, 5-7 reserved. -/
def State.globalCfg (w : Nat) (s : State) : State :=
  let s1 := s.wr F.CUE_GLOBAL_CFG_AUTO_SUBST 0 (bits w 3 1)
  if s.mode = Mode.calibrate ∧ bits w 0 3 ≤ 4 then s1.setSpare (bits w 0 3) else s1

/-- A write of CUE_PMAP: RETIRED bits are set, never cleared; a retired engine behind the spare number serves no more. -/
def State.pmapWrite (w : Nat) (s : State) : State :=
  let s1 := s.wr F.CUE_PMAP_RETIRED 0 (Nat.lor (s.rd F.CUE_PMAP_RETIRED 0) (bits w 16 5))
  if s1.es s1.spareNum = Es.spare ∧ bit (s1.rd F.CUE_PMAP_RETIRED 0) (s1.phys s1.spareNum) then
    (s1.wr F.CUE_STATUS_STATE s1.spareNum Es.retired).spareShow
  else s1

/-! ### Command rings (R150-R153) -/

/-- Slots of engine `n`'s command ring; 0 while its size is outside 4-12 (R151). -/
def State.ringSlots (s : State) (n : Nat) : Nat :=
  let l := s.rd F.CUE_RING_SIZE_LOG2 n
  if 4 ≤ l ∧ l ≤ 12 then 2 ^ l else 0

/-- A write of CUE_RING_TAIL (R151); the spare number's doorbells are refused (R143). -/
def State.doorbell (n w : Nat) (s : State) : State :=
  if n = s.spareNum ∨ s.ringSlots n < (w + 2 ^ 32 - s.rd F.CUE_RING_HEAD_HEAD n) % 2 ^ 32 then
    (s.wr F.CUE_RING_STAT_RING_ERR n 1).evRecord 0x08 n 0 0 w 0
  else s.wr F.CUE_RING_TAIL_TAIL n w

/-- RING_DOORBELL. -/
def execRingDoorbell (n : Fin 5) (w : Word) (s : State) : Host.Outcome State Fault Refusal :=
  ok (s.hostWrite (0x6102C + 0x100 * n.val) w.toNat (State.doorbell n.val w.toNat))

/-- The fetcher may read (R152, R168, R413). -/
def State.canFetch (s : State) (n : Nat) : Bool :=
  s.on F.CUE_CTRL_RING_EN n && (s.eng n).win.isNone && decide (s.rd F.CUE_RING_HEAD_HEAD n ≠ s.rd F.CUE_RING_TAIL_TAIL n)
    && decide (s.ringSlots n ≠ 0) && (s.es n = Es.idle || s.es n = Es.running || s.es n = Es.waiting) && !s.fromMirror
    && !s.twin.fetchStop

/-- CUE_RECORD_FETCH: the fetcher begins to read the slot at HEAD. -/
def execCueRecordFetch (n : Fin 5) (s : State) : Host.Outcome State Fault Refusal :=
  ok (if s.canFetch n.val then s.setEng n.val { s.eng n.val with fetching := true } else s)

/-- Header fields of a record's 512 words (Table 6-4). -/
def recSeq (ws : List Nat) : Nat := bits (ws.getD 0 0) 0 16
def recLen (ws : List Nat) : Nat := bits (ws.getD 0 0) 16 9
def recCounter (ws : List Nat) : Nat := ws.getD 2 0 + 2 ^ 32 * ws.getD 3 0
def recBody (ws : List Nat) : List Nat := (ws.drop 16).take (recLen ws)

/-- The checks of R150 fail. -/
def recBad (ws : List Nat) : Bool :=
  decide (recLen ws = 0 ∨ 496 < recLen ws ∨ bits (ws.getD 0 0) 27 5 ≠ 0 ∨ ws.getD 1 0 / 64 ≠ 0)
    || !zeros ((ws.drop 4).take 4)

/-- The checks of R153 hold. -/
def State.recAuth (s : State) (n : Nat) (ws : List Nat) : Bool :=
  let slot := bits (ws.getD 1 0) 0 6
  bit (ws.getD 0 0) 25 && s.slotUsable slot Use.command
    && decide (Config.hmacSha256 (s.commandKey slot) (wordBytes (ws.take 8 ++ recBody ws)) = wordBytes ((ws.drop 8).take 8))
    && decide (s.rd64 F.CUE_AUTH_CTR_LO F.CUE_AUTH_CTR_HI n < recCounter ws)

/-- A record enters the cue window of engine `n`: CUE_READY is set, and an IDLE engine calls it (R152, R154). -/
def State.loadWindow (s : State) (n : Nat) (ws : List Nat) : State :=
  let w : CueWin := { words := recBody ws, fill := s.freeCtr, seq := recSeq ws, notify := bit (ws.getD 0 0) 26 }
  let s1 := { s.setEng n { s.eng n with win := some w } with freeCtr := s.freeCtr + 512 }
  let s2 := (s1.wr F.CUE_RING_STAT_LAST_SEQ n (recSeq ws)).wr F.CUE_EVPEND_BITS n (withBit (s1.rd F.CUE_EVPEND_BITS n) 7 true)
  s2.dispatch n

/-- CUE_RECORD_ACCEPT: the record read, as its 512 words, is checked; HEAD passes it either way (R150-R153). -/
def execCueRecordAccept (n : Fin 5) (ws : List Nat) (s : State) : Host.Outcome State Fault Refusal :=
  let m := n.val
  ok (if !(s.eng m).fetching then s
  else
    let s1 := s.setEng m { s.eng m with fetching := false }
    if !s1.canFetch m then s1
    else
      let s2 := s1.addWrap F.CUE_RING_HEAD_HEAD m 1
      let must := bit (ws.getD 0 0) 25 || s.on F.CUE_CTRL_AUTH_REQ m
      if recBad ws then (s2.wr F.CUE_RING_STAT_RECORD_ERR m 1).evRecord 0x05 m (recSeq ws) 0 0 0
      else if must && !s.recAuth m ws then
        ((s2.incSat F.CUE_AUTH_FAILS_COUNT m).wr F.CUE_RING_STAT_AUTH_FAIL m 1).evRecord 0x04 m (recSeq ws) 0 0 0
      else
        let s3 := if must then s2.wr64 F.CUE_AUTH_CTR_LO F.CUE_AUTH_CTR_HI m (recCounter ws) else s2
        (s3.mirror Mt.record (m :: pairWords ws)).loadWindow m ws)

/-! ### Watchdog and waits (R158-R161, R167) -/

/-- CTRL clocks (800 MHz) that engine `n` has been RUNNING. -/
def State.runClocks (s : State) (n : Nat) : Nat := (s.clk - (s.eng n).runSince) * 16 / 25

/-- WATCHDOG_EXPIRE. -/
def execWatchdogExpire (n : Fin 5) (s : State) : Host.Outcome State Fault Refusal :=
  let lim := s.rd F.CUE_WDOG_LIMIT n.val
  ok (if s.es n.val = Es.running ∧ lim ≠ 0 ∧ lim ≤ s.runClocks n.val then s.faultStop n.val Fc.watchdog 0 else s)

/-- Comparator `x` of engine `n` has reached its position. -/
def State.cmpReached (s : State) (n x : Nat) : Bool :=
  decide ((s.cmp n x).purpose ≠ 0) && s.reached (s.cmp n x).raster (s.cmp n x).pos

/-- WAIT_MATCH. -/
def execWaitMatch (n : Fin 5) (s : State) : Host.Outcome State Fault Refusal :=
  ok (match (s.eng n.val).wait with
    | .pos x => if !s.fromMirror && s.cmpReached n.val x then s.wakeMirror n.val Rc.ok (some x) else s
    | _ => s)

/-- Comparator `x` keeps a wait of its engine. -/
def keepsWait (w : Wait) (x : Nat) : Bool :=
  match w with
  | .pos y => y = x
  | .event _ _ t => t = some x
  | .tsync _ _ t => t = x
  | .ask _ t => t = some x
  | _ => false

/-- CUE_COMPARATOR_FIRE: a comparator armed by a WAIT with ARM sets CMPx and disarms; one left armed by a wait that START ended
disarms alone (R156). -/
def execCueComparatorFire (n : Fin 5) (x : Fin 4) (s : State) : Host.Outcome State Fault Refusal :=
  let p := (s.cmp n.val x.val).purpose
  ok (if s.cmpReached n.val x.val && !keepsWait (s.eng n.val).wait x.val then
    let s1 := s.disarmCmp n.val x.val
    if p = 2 then s1.engEvent n.val x.val else s1
  else s)

/-- The bits a WAITEV takes: written to its register and cleared, except CUE_READY (R155, R160). -/
def State.takeEvents (s : State) (n mask : Nat) : State × Nat :=
  let p := s.rd F.CUE_EVPEND_BITS n
  let m := Nat.land p mask
  (s.wr F.CUE_EVPEND_BITS n (p - m + (if bit m 7 then 128 else 0)), m)

/-- Give a WAITEV its destination register. -/
def State.setDst (s : State) (n : Nat) (dst : Option Nat) (v : Nat) : State :=
  match dst with
  | some d => s.setG n d v
  | none => s

/-- WAITEV_WAKE. -/
def execWaitevWake (n : Fin 5) (s : State) : Host.Outcome State Fault Refusal :=
  ok (match (s.eng n.val).wait with
    | .event mask dst tmo =>
      let t := s.takeEvents n.val mask
      if !s.fromMirror && decide (t.2 ≠ 0) then
        ((t.1.mirrorVal n.val Vk.waitev [t.2]).setDst n.val dst t.2).wake n.val Rc.ok tmo
      else s
    | _ => s)

/-- WAITEV_TIMEOUT. -/
def execWaitevTimeout (n : Fin 5) (s : State) : Host.Outcome State Fault Refusal :=
  ok (match (s.eng n.val).wait with
    | .event _ dst (some t) =>
      if !s.fromMirror && s.cmpReached n.val t then
        ((s.mirrorVal n.val Vk.waitEnd [Rc.timeout]).setDst n.val dst 0).wake n.val Rc.timeout (some t)
      else s
    | _ => s)

/-- The barrier engine `m` waits in. -/
def State.barrier (s : State) (m : Nat) : Option (Nat × Nat × Nat) :=
  match (s.eng m).wait with
  | .tsync id mask t => some (id, mask, t)
  | _ => none

/-- TSYNC_RELEASE: every member of the barrier engine `n` waits in has executed it. -/
def execTsyncRelease (n : Fin 5) (s : State) : Host.Outcome State Fault Refusal :=
  ok (match s.barrier n.val with
    | some (id, mask, _) =>
      let ms := bitList mask 5
      let here := fun m => match s.barrier m with
        | some (i, k, _) => decide (i = id ∧ k = mask)
        | none => false
      if !s.fromMirror && ms.all here then
        forEach ms (fun m s => s.wakeMirror m Rc.ok ((s.barrier m).map (·.2.2))) s
      else s
    | none => s)

/-- TSYNC_TIMEOUT. -/
def execTsyncTimeout (n : Fin 5) (s : State) : Host.Outcome State Fault Refusal :=
  ok (match s.barrier n.val with
    | some (_, _, t) => if !s.fromMirror && s.cmpReached n.val t then s.wakeMirror n.val Rc.timeout (some t) else s
    | none => s)

/-- FENCE_COMPLETE: every earlier write is acknowledged (R166, R217); FENCE writes no RS. Its end is mirrored as that of any wait (R168). -/
def execFenceComplete (n : Fin 5) (s : State) : Host.Outcome State Fault Refusal :=
  ok (match (s.eng n.val).wait with
    | .fence => if s.fromMirror then s else (s.mirrorVal n.val Vk.waitEnd [Rc.ok]).endWait n.val .none
    | _ => s)

/-! ### The event ring (R164) -/

/-- EVR_HEAD_WRITE. -/
def execEvrHeadWrite (w : Word) (s : State) : Host.Outcome State Fault Refusal :=
  ok (s.hostWrite 0x6001C w.toNat fun s => s.wr F.CUE_EVR_HEAD_HEAD 0 w.toNat)

/-! ### Engine substitution (R172, R173) -/

/-- The SUBST event record: CODE is RESULT, DATA0 the faulting PC. -/
def State.substRecord (s : State) (target seq result pc : Nat) : State := s.evRecord 0x07 target seq result pc 0

/-- Copy program and data memories from one number to another. -/
def copyMem (t : Tab Nat) (size from' dest : Nat) : Tab Nat :=
  let rest := t.filter fun e => decide (e.1 / size ≠ dest)
  (t.filter fun e => e.1 / size = from').foldl (fun t e => tins t (dest * size + e.1 % size) e.2) rest
def State.copyEng (s : State) (from' dest : Nat) : State :=
  { s with pmem := copyMem s.pmem 32768 from' dest, dmem := copyMem s.dmem 16384 from' dest }

/-- START of CUE_SUBST_CTRL. -/
def State.substStart (s : State) : State :=
  let t := s.rd F.CUE_SUBST_CTRL_TARGET 0
  let code := if t = s.spareNum ∨ 4 < t then 3 else if s.subst.step ≠ 0 then 2 else if s.es s.spareNum ≠ Es.spare then 1 else 0
  let s1 := (s.wr F.CUE_SUBST_CTRL_AUTO 0 0).wr F.CUE_SUBST_CTRL_RESULT 0 code
  if code = 0 then
    { s1.wr F.CUE_SUBST_CTRL_STATE 0 1 with subst := { s.subst with step := 1, target := t, auto := false } }
  else s1.wr F.CUE_SUBST_CTRL_STATE 0 4

/-- ABORT, accepted until the move begins. -/
def State.substAbort (s : State) : State :=
  if s.subst.step = 0 ∨ s.subst.auto = true then s
  else { s.wr F.CUE_SUBST_CTRL_STATE 0 5 with subst := { s.subst with step := 0 } }

/-- A write of CUE_SUBST_CTRL: ABORT, then START. -/
def State.substCtrl (w : Nat) (s : State) : State :=
  let s1 := if bits w 4 3 ≤ 7 then s.wr F.CUE_SUBST_CTRL_TARGET 0 (bits w 4 3) else s
  let s2 := if bit w 1 then s1.substAbort else s1
  if bit w 0 then s2.substStart else s2

/-- ENG_SUBST_START: a write with START set. -/
def execEngSubstStart (w : Word) (s : State) : Host.Outcome State Fault Refusal :=
  ok (s.hostWriteSet 0x60008 w.toNat 1 State.substCtrl)

/-- ENG_SUBST_ABORT: a write with ABORT set. -/
def execEngSubstAbort (w : Word) (s : State) : Host.Outcome State Fault Refusal :=
  ok (s.hostWriteSet 0x60008 w.toNat 2 State.substCtrl)

/-- ENG_SUBST_COPY_DONE. -/
def execEngSubstCopyDone (s : State) : Host.Outcome State Fault Refusal :=
  ok (if s.subst.step = 1 ∧ s.subst.auto = false then
    let s1 := (s.copyEng s.subst.target s.spareNum).wr F.CUE_SUBST_CTRL_STATE 0 2
    { s1 with subst := { s1.subst with step := 2 } }
  else s)

/-- The spare takes number `t`: CUE_PMAP exchanges the two, and the released engine begins its self-test, unless it is retired. -/
def State.exchange (s : State) (t : Nat) : State :=
  let sp := s.spareNum
  let old := s.phys t
  let s1 := (s.wr F.CUE_PMAP_PHYS t (s.phys sp)).wr F.CUE_PMAP_PHYS sp old
  let s2 := (s1.wr F.CUE_SUBST_CTRL_STATE 0 3).wr F.CUE_SUBST_CTRL_RESULT 0 0
  let gone := bit (s.rd F.CUE_PMAP_RETIRED 0) old
  let s3 := s2.wr F.CUE_STATUS_STATE sp (if gone then Es.retired else Es.stopped)
  { s3 with subst := { s3.subst with step := 0, testing := if gone then .none else some old } }.spareShow

/-- ENG_SUBST_SWAP: the target waits, idles, is STOPPED or HALTED: its state moves to the spare (step 3). State is held by
number, so the move shows in CUE_PMAP alone. -/
def execEngSubstSwap (s : State) : Host.Outcome State Fault Refusal :=
  let t := s.subst.target
  ok (if s.subst.step = 2 ∧ (s.es t = Es.waiting ∨ s.es t = Es.idle ∨ s.es t = Es.stopped ∨ s.es t = Es.halted) then
    ((s.copyEng t s.spareNum).exchange t).substRecord t (s.winSeq t) 0 0
  else s)

/-- ENG_SUBST_SELFTEST_DONE: the released engine's self-test ends. -/
def execEngSubstSelftestDone (pass : Bool) (s : State) : Host.Outcome State Fault Refusal :=
  ok (match s.subst.testing with
    | none => s
    | some p =>
      let s1 := { s with subst := { s.subst with testing := .none } }
      if pass then (s1.wr F.CUE_STATUS_STATE s1.spareNum Es.spare).spareShow
      else ((s1.wr F.CUE_PMAP_RETIRED 0 (withBit (s1.rd F.CUE_PMAP_RETIRED 0) p true)).wr F.CUE_STATUS_STATE s1.spareNum
        Es.retired).spareShow)

/-- The number's engine restarts after an automatic substitution (R173). -/
def State.autoRestart (s : State) (n : Nat) : State :=
  let b := s.subst
  let s1 := s.setEng n { s.eng n with win := .none }
  let s2 := s1.engReset n
  if !s2.enginesRun then s2
  else if s2.on F.CUE_CTRL_MODE n then
    let s3 := ((s2.engStart n).setPc n (s2.rd F.CUE_RESTART_ADDR_ADDR n)).setG n 0 b.code
    s3.setG n 1 b.pc
  else s2.engStart n

/-- ENG_SUBST_AUTO_DONE: the copy of an automatic substitution ends; `ecc`: a program memory word could not be corrected. -/
def execEngSubstAutoDone (ecc : Bool) (s : State) : Host.Outcome State Fault Refusal :=
  let b := s.subst
  ok (if b.step = 1 ∧ b.auto = true then
    if ecc then
      ({ (s.wr F.CUE_SUBST_CTRL_STATE 0 4).wr F.CUE_SUBST_CTRL_RESULT 0 4 with
        subst := { b with step := 0 } }).substRecord b.target b.seq 4 b.pc
    else (((s.copyEng b.target s.spareNum).exchange b.target).autoRestart b.target).substRecord b.target b.seq 0 b.pc
  else s)

end Sys2Proof.Machine
end

