-- ==== Sys2Proof/Machine/Fab.lean ====
section
/-! DEFINITION. Tetos link fabric lanes (chapter 11): receiving frames, turns and control blocks, lane states, remaps, tests and
violations. -/
namespace Sys2Proof.Machine

def State.framed (s : State) (n : Nat) : Bool := s.on F.FAB_LANE_STATUS_FRAME_LOCK n

/-- The logical lane carried by physical lane `n`. -/
def State.laneOf (s : State) (n : Nat) : Option Nat :=
  let l := s.rd F.FAB_LANE_STATUS_LOGICAL n
  if l < 144 then some l else none

/-- Strands per lane (Table 11-1). -/
def State.laneN (s : State) (n : Nat) : Nat := if s.on F.FAB_LANE_CTRL_FORERUNNER n then 16 else 32

/-- A partner's breach (R343): logged, counted in VIOL and against the lane's FAB group. -/
def State.laneViol (s : State) (n code answer detail : Nat) : State :=
  ((s.incSat F.FAB_LANE_CNT_VIOL n).event F.FAB_EVENT_VIOLATION 0 Irq.fab).violation 1 n code answer detail (Src.fab n)

/-! ### Lane states (R320, R330-R335) -/

/-- Frame lock is lost: counted; the lane keeps when, while it carries a logical lane. -/
def State.unframe (s : State) (n : Nat) : State :=
  let x := s.lane n
  let s1 := s.setLane n { x with marks := 0, miss := 0, card := false, absent := false, buf := [], raw := [], rxq := [], part := []
                                 noStat := 0, skipLost := false, gap := false, drop := 0
                                 lostAt := if s.framed n then some s.clk else x.lostAt }
  let s2 := if s.framed n then s1.incSat F.FAB_LANE_CNT_LOCK_LOSS n else s1
  (s2.wr F.FAB_LANE_STATUS_FRAME_LOCK n 0).wr F.FAB_LANE_STATUS_PARTNER_READY n 0

/-- The device returns its own SYSTEM grant of a lane that enters OFF or L-DEEP (R423). -/
def State.laneGrantBack (s : State) (n : Nat) : State :=
  match s.heldEntry Gc.lane n with
  | some e => if s.rd F.ADMIT_LEDGER_HOLDER e = 6 then s.returnEntry e else s
  | none => s

/-- The lane stops: OFF or L-DEEP. -/
def State.laneStop (s : State) (n st : Nat) : State :=
  let s1 := (s.unframe n).setLane n {}
  ((s1.wr F.FAB_LANE_STATUS_STATE n st).wr F.FAB_LANE_STATUS_SIG_DET n 0).laneGrantBack n

/-- The lane wakes (R332, R333): from OFF into L-IDLE, from L-DEEP into training, with the presets. -/
def State.laneWake (s : State) (n : Nat) : State :=
  let s1 := s.eqReset n
  if s.laneSt n = Ln.off then
    (s1.setLane n { s1.lane n with hot := true }).wr F.FAB_LANE_STATUS_STATE n Ln.idle
  else s1.toTraining n false

/-- A valid lane grant stands for physical lane `n`: the token given, or the SYSTEM grant (R334, R423). -/
def State.laneGrant (s : State) (n tok : Nat) : Bool := s.grantOk tok Gc.lane n || (s.heldBy 6 Gc.lane n).isSome

/-- A lane write is refused. -/
def State.laneRefused (s : State) (n : Nat) : State :=
  (s.wr F.FAB_LANE_STATUS_CFG_REFUSED n 1).event F.FAB_EVENT_CFG_REFUSED 0 Irq.fab

/-- A lane that CALIBRATE trains: its SYSTEM grant, the presets, training (R423, R452). -/
def State.laneTrain (s : State) (n : Nat) : State :=
  let s1 := if (s.heldEntry Gc.lane n).isSome then s else (s.grantNow 6 Gc.lane n (s.rd F.FAB_LANE_CTRL_FORERUNNER n)).1
  (s1.eqReset n).toTraining n false

/-- Make the lane's state follow STATE_REQ; a RETIRED lane stays so, and no lane moves before stage LINKS of CALIBRATE (R452). -/
def State.laneFollow (s : State) (n req : Nat) : State :=
  let st := s.laneSt n
  let down := decide (st = Ln.off ∨ st = Ln.deep)
  if st = Ln.retired ∨ s.mode < Mode.calibrate ∨ (s.mode = Mode.calibrate ∧ s.rd F.TOP_DEV_MODE_CAL_STAGE 0 < 2) then s
  else if req = 0 then (if st = Ln.off then s else s.laneStop n Ln.off)
  else if req = 1 then (if st = Ln.deep then s else s.laneStop n Ln.deep)
  else if down then (if s.mode = Mode.calibrate then s.laneTrain n else s.laneWake n)
  else s

/-- A write of FAB_LANE_CTRL (R334): fields that must stand keep their value, and CFG_REFUSED is set. -/
def State.laneCtrl (n w : Nat) (s : State) : State :=
  let st := s.laneSt n
  let down := decide (st = Ln.off ∨ st = Ln.deep)
  let s1 := s.wr F.FAB_LANE_CTRL_GRANT n (bits w 16 16)
  let changes := decide (bits w 2 1 ≠ s.rd F.FAB_LANE_CTRL_FORERUNNER n ∨
    (bits w 3 2 ≠ 3 ∧ bits w 3 2 ≠ s.rd F.FAB_LANE_CTRL_CLASS n))
  let s2 := if down then (s1.wr F.FAB_LANE_CTRL_FORERUNNER n (bits w 2 1)).writeField F.FAB_LANE_CTRL_CLASS n (bits w 3 2)
    else if changes then s1.laneRefused n else s1
  let req := bits w 0 2
  if req = 3 then s2
  else if req = 2 ∧ down = true ∧ s.inService = true ∧ !s2.laneGrant n (bits w 16 16) then s2.laneRefused n
  else (s2.wr F.FAB_LANE_CTRL_STATE_REQ n req).laneFollow n req

/-- LANE_CTRL_WRITE. -/
def execLaneCtrlWrite (n : Fin 152) (w : Word) (s : State) : Host.Outcome State Fault Refusal :=
  ok (s.hostWrite (0xE1000 + 0x80 * n.val) w.toNat (State.laneCtrl n.val w.toNat))

/-- Lanes carry signals from CALIBRATE on (R335). -/
def State.lanesLive (s : State) : Bool := decide (Mode.calibrate ≤ s.mode)

/-- SIGNAL_DETECT (R332). -/
def execSignalDetect (n : Fin 152) (s : State) : Host.Outcome State Fault Refusal :=
  let m := n.val
  ok (if !s.lanesLive || decide (s.rd F.FAB_LANE_CTRL_STATE_REQ m ≠ 2) then s
  else
    let s1 := s.wr F.FAB_LANE_STATUS_SIG_DET m 1
    if s.laneSt m = Ln.idle then s1.toTraining m true
    else s1)

/-- LANE_ACTIVE: training and framing are complete (R332, R333). -/
def execLaneActive (n : Fin 152) (s : State) : Host.Outcome State Fault Refusal :=
  let m := n.val
  let st := s.laneSt m
  ok (if s.framed m ∧ (st = Ln.training ∨ st = Ln.hunt ∨ st = Ln.blockLock) then
    let s1 := s.wr F.FAB_LANE_STATUS_STATE m Ln.active
    if (s.lane m).hot then
      ((s1.setLane m { s1.lane m with hot := false }).wr F.FAB_LANE_STATUS_HOTPLUG_EV m 1).event F.FAB_EVENT_HOTPLUG 0 Irq.fab
    else s1
  else s)

/-- LANE_SIGNAL_LOSS: signal detect absent for 1 ms (R332). A partner that sent READY 0 before it went idle leaves in order, and
the lane does not count as having lost its lock (R332, R339). -/
def execLaneSignalLoss (n : Fin 152) (s : State) : Host.Outcome State Fault Refusal :=
  let m := n.val
  let st := s.laneSt m
  ok (if Ln.idle ≤ st ∧ st ≤ Ln.active then
    let orderly := !s.on F.FAB_LANE_STATUS_PARTNER_READY m && s.framed m
    let s1 := s.unframe m
    let s2 := if orderly then s1.setLane m { s1.lane m with lostAt := .none } else s1
    (s2.wr F.FAB_LANE_STATUS_SIG_DET m 0).wr F.FAB_LANE_STATUS_STATE m Ln.idle
  else s.wr F.FAB_LANE_STATUS_SIG_DET m 0)

/-! ### Remaps (R336-R340) -/

/-- STATE of the remap, and whether one runs. -/
def State.rmSt (s : State) : Nat := s.rd F.FAB_REMAP_STATUS_STATE 0
def State.rmRuns (s : State) : Bool := decide (1 ≤ s.rmSt ∧ s.rmSt ≤ 4)
def State.rmNew (s : State) : Nat := s.rd F.FAB_REMAP_STATUS_NEW 0
def State.rmOld (s : State) : Nat := s.rd F.FAB_REMAP_STATUS_OLD 0
def State.rmTo (s : State) (st : Nat) : State :=
  { s.wr F.FAB_REMAP_STATUS_STATE 0 st with remap := { s.remap with since := s.clk } }

/-- Logical lane `l` may move onto role `k` (R336): declared, in range, and, once the spare is framed, the same partner card. -/
def State.wired (s : State) (l k : Nat) : Bool :=
  let p := s.rd F.FAB_SPARE_CFG_PHYS k
  let old := s.rd F.FAB_LMAP_PHYS l
  s.on F.FAB_SPARE_CFG_VALID k && decide (s.rd F.FAB_SPARE_CFG_LO k ≤ l ∧ l ≤ s.rd F.FAB_SPARE_CFG_HI k)
    && !s.on F.FAB_SPARE_CFG_IN_USE k && decide (s.laneSt p ≠ Ln.failed ∧ s.laneSt p ≠ Ln.retired)
    && (!s.framed p || s.rd F.FAB_LANE_PARTNER_CARD_ID p = s.rd F.FAB_LANE_PARTNER_CARD_ID old)
def State.spareGranted (s : State) (k : Nat) : Bool :=
  let p := s.rd F.FAB_SPARE_CFG_PHYS k
  s.laneGrant p (s.rd F.FAB_LANE_CTRL_GRANT p)

/-- Show the remap of `l` from its lane to role `k`. -/
def State.rmShow (s : State) (l k : Nat) (auto : Bool) (reason : Nat) : State :=
  ((((s.wr F.FAB_REMAP_STATUS_AUTO 0 (b2n auto)).wr F.FAB_REMAP_STATUS_LOGICAL 0 l).wr F.FAB_REMAP_STATUS_OLD 0
    (s.rd F.FAB_LMAP_PHYS l)).wr F.FAB_REMAP_STATUS_NEW 0 (s.rd F.FAB_SPARE_CFG_PHYS k)).wr F.FAB_REMAP_STATUS_REASON 0 reason

/-- Begin a remap (Table 11-10): WAKE, or OFFER at once on a warm spare. -/
def State.rmBegin (s : State) (l k : Nat) (auto hitless retire : Bool) : State :=
  let p := s.rd F.FAB_SPARE_CFG_PHYS k
  let s1 := s.rmShow l k auto 0
  let s2 := { s1 with remap := { s1.remap with hitless := hitless, retire := retire, switched := false, role := k } }
  if s2.laneSt p = Ln.active ∧ s2.on F.FAB_SPARE_CFG_WARM k = true then s2.rmTo 2
  else
    let s3 := s2.wr F.FAB_LANE_CTRL_STATE_REQ p 2
    ((if s3.laneSt p = Ln.off ∨ s3.laneSt p = Ln.deep then (s3.eqReset p).toTraining p false else s3)).rmTo 1

/-- The spare of an ended remap goes back to L-DEEP, unless it is kept warm. -/
def State.rmRelease (s : State) : State :=
  let p := s.rmNew
  if s.on F.FAB_SPARE_CFG_WARM s.remap.role || decide (s.laneSt p = Ln.failed ∨ s.laneSt p = Ln.retired) then s
  else (s.wr F.FAB_LANE_CTRL_STATE_REQ p 1).laneStop p Ln.deep

/-- The lowest-numbered role that passes R336 for logical lane `l`. -/
def State.roleFor (s : State) (l : Nat) : Option Nat := (List.range 8).find? fun k => s.wired l k && s.spareGranted k

/-- Start the automatic remap of logical lane `l`, or report that no spare passes R336. -/
def State.rmAuto (s : State) (l : Nat) : State :=
  match s.roleFor l with
  | some k => s.rmBegin l k true false true
  | none =>
    let k := ((List.range 8).find? fun k => s.wired l k)
    ((s.rmShow l (k.getD 0) true (if k.isSome then 1 else 2)).wr F.FAB_REMAP_STATUS_STATE 0 6).event F.FAB_EVENT_REMAP_FAIL 0 Irq.fab

/-- The next failed lane that waited for the running remap. -/
def State.rmNext (s : State) : State :=
  match s.remap.queue with
  | [] => s
  | l :: q => ({ s with remap := { s.remap with queue := q } }).rmAuto l

/-- The remap ends FAILED (6) or ABORTED (7). -/
def State.rmEnd (s : State) (st reason : Nat) : State :=
  let s1 := s.rmRelease.wr F.FAB_REMAP_STATUS_REASON 0 reason
  ((s1.wr F.FAB_REMAP_STATUS_STATE 0 st).event F.FAB_EVENT_REMAP_FAIL 0 Irq.fab)

/-- The logical lane moves onto the spare: FAB_LMAP and the lanes' LOGICAL follow. -/
def State.rmSwitch (s : State) : State :=
  let l := s.rd F.FAB_REMAP_STATUS_LOGICAL 0
  let s1 := (s.wr F.FAB_LMAP_PHYS l s.rmNew).wr F.FAB_LANE_STATUS_LOGICAL s.rmNew l
  let s2 := (s1.wr F.FAB_LANE_STATUS_LOGICAL s.rmOld 0xFF).wr F.FAB_SPARE_CFG_IN_USE s.remap.role 1
  let x := s2.lane s.rmOld
  let s3 := (s2.setLane s.rmOld { x with lostAt := .none, buf := [] }).setLane s.rmNew { s2.lane s.rmNew with buf := x.buf, cls := x.cls }
  { s3.wr F.FAB_REMAP_STATUS_STATE 0 4 with remap := { s3.remap with switched := true } }

/-- DONE is exchanged (R337, R340): the old lane takes the role from L-DEEP, or is RETIRED and recorded. -/
def State.rmDone (s : State) : State :=
  let k := s.remap.role
  let old := s.rmOld
  let s1 := (s.wr F.FAB_REMAP_STATUS_STATE 0 5).event F.FAB_EVENT_REMAP_DONE 0 Irq.fab
  let otp := tins s1.wear.laneOtp (s.rd F.FAB_REMAP_STATUS_LOGICAL 0) s.rmNew
  let s2 := if s.remap.retire then
      { ((s1.unframe old).wr F.FAB_LANE_STATUS_STATE old Ln.retired).wr F.WEAR_SPARES_LANES 0 (s1.rd F.WEAR_SPARES_LANES 0 - 1)
        with wear := { s1.wear with laneOtp := otp } }
    else
      (((s1.wr F.FAB_LANE_CTRL_STATE_REQ old 1).laneStop old Ln.deep).wr F.FAB_SPARE_CFG_PHYS k old).wr F.FAB_SPARE_CFG_IN_USE k 0
  s2.rmNext

/-- A lane that carries a logical lane becomes FAILED (R339), and its logical lane is remapped. -/
def State.laneFail (s : State) (n : Nat) : State :=
  match s.laneOf n with
  | none => s
  | some l =>
    let s1 := (s.unframe n).wr F.FAB_LANE_STATUS_STATE n Ln.failed
    let s2 := ((s1.wr F.FAB_LANE_STATUS_FAIL_EV n 1).event F.FAB_EVENT_LANE_FAIL 0 Irq.fab).faultEvent (Src.fab n) false
    let s3 := s2.setLane n { s2.lane n with lostAt := .none, bad := [] }
    let auto := s3.on F.FAB_REMAP_STATUS_AUTO 0
    let same := decide (s3.rd F.FAB_REMAP_STATUS_LOGICAL 0 = l)
    if !s3.rmRuns then s3.rmAuto l
    else if same then
      if s3.rmSt = 3 then
        { s3 with remap := { s3.remap with retire := true } }.rmSwitch
      else if s3.rmSt < 3 then
        { s3.wr F.FAB_REMAP_STATUS_AUTO 0 1 with remap := { s3.remap with hitless := false, retire := true } }
      else { s3 with remap := { s3.remap with retire := true } }
    else if !auto ∧ s3.rmSt < 4 then (s3.rmEnd 7 7).rmAuto l
    else { s3 with remap := { s3.remap with queue := s3.remap.queue ++ [l] } }

/-- LANE_LOCK_TIMEOUT: FAIL_MS have passed without frame lock (R339). -/
def execLaneLockTimeout (n : Fin 152) (s : State) : Host.Outcome State Fault Refusal :=
  ok (match (s.lane n.val).lostAt with
    | some t =>
      if s.on F.FAB_GLOBAL_CTRL_AUTO_REMAP 0 && decide (t + s.rd F.FAB_GLOBAL_CTRL_FAIL_MS 0 * msClk ≤ s.clk) && !s.framed n.val
          && s.inService then s.laneFail n.val else s
    | none => s)

/-- START of a planned remap (R336, R339). -/
def State.rmStart (s : State) : State :=
  let l := s.rd F.FAB_REMAP_CTRL_LOGICAL 0
  let k := s.rd F.FAB_REMAP_CTRL_ROLE 0
  let refuse := fun (r : Nat) =>
    ((s.rmShow l k false r).wr F.FAB_REMAP_STATUS_STATE 0 6).event F.FAB_EVENT_REMAP_FAIL 0 Irq.fab
  if s.rmRuns then s.wr F.FAB_REMAP_STATUS_REASON 0 6
  else if !s.wired l k then refuse 2
  else if !s.spareGranted k then refuse 1
  else s.rmBegin l k false (s.on F.FAB_REMAP_CTRL_HITLESS 0) (s.on F.FAB_REMAP_CTRL_RETIRE 0)

/-- A write of FAB_REMAP_CTRL: ABORT, until COMMITTED, then START. -/
def State.remapCtrl (w : Nat) (s : State) : State :=
  let s1 := (((s.wr F.FAB_REMAP_CTRL_HITLESS 0 (bits w 2 1)).wr F.FAB_REMAP_CTRL_RETIRE 0 (bits w 3 1)).writeField
    F.FAB_REMAP_CTRL_LOGICAL 0 (bits w 8 8)).wr F.FAB_REMAP_CTRL_ROLE 0 (bits w 16 3)
  let s2 := if bit w 1 && decide (1 ≤ s1.rmSt ∧ s1.rmSt ≤ 3) then (s1.rmEnd 7 0).rmNext else s1
  if bit w 0 then s2.rmStart else s2

/-- REMAP_START: a write with START set. -/
def execRemapStart (w : Word) (s : State) : Host.Outcome State Fault Refusal :=
  ok (s.hostWriteSet 0xE0200 w.toNat 1 State.remapCtrl)

/-- REMAP_ABORT: a write with ABORT set. -/
def execRemapAbort (w : Word) (s : State) : Host.Outcome State Fault Refusal :=
  ok (s.hostWriteSet 0xE0200 w.toNat 2 State.remapCtrl)

/-- REMAP_WAKE_DONE: the spare is frame-locked; its partner's card is compared, and REQ goes out (R336, R337). -/
def execRemapWakeDone (s : State) : Host.Outcome State Fault Refusal :=
  ok (if s.rmSt = 1 ∧ s.framed s.rmNew = true then
    if s.rd F.FAB_LANE_PARTNER_CARD_ID s.rmNew = s.rd F.FAB_LANE_PARTNER_CARD_ID s.rmOld then s.rmTo 2 else (s.rmEnd 6 2).rmNext
  else s)

/-- REMAP_WAKE_TIMEOUT. -/
def execRemapWakeTimeout (s : State) : Host.Outcome State Fault Refusal :=
  ok (if s.rmSt = 1 ∧ s.remap.since + 60 * msClk ≤ s.clk then (s.rmEnd 6 3).rmNext else s)

/-- REMAP_OFFER_TIMEOUT. The REASON of a missing answer is not stated: one of WAKE_TIMEOUT and NAK, a free value (log 20). -/
def execRemapOfferTimeout (s : State) : Host.Outcome State Fault Refusal :=
  ok (if s.rmSt = 2 ∧ s.remap.since + msClk ≤ s.clk then
    let d := s.draw
    (d.1.rmEnd 6 (3 + d.2 % 2)).rmNext
  else s)

/-- REMAP_COMPARE_DONE (R337): the words of 4,096 turns have been compared, or some differ: COMMIT names a turn 16,384 ahead, or the remap fails. -/
def execRemapCompareDone (_ : Unit) (s : State) : Host.Outcome State Fault Refusal :=
  ok (if s.rmSt = 3 ∧ (4096 ≤ s.remap.compared ∨ s.remap.differ = true) then
    if !s.remap.differ then
      let t := ((s.lane s.rmOld).turn + 16384) % 65536
      { s.rmTo 4 with remap := { s.remap with since := s.clk, turn := t } }
    else (s.rmEnd 6 5).rmNext
  else s)

/-- Turn count `t` has reached turn `u`, both wrapping. -/
def turnReached (t u : Nat) : Bool := decide ((t + 65536 - u) % 65536 < 32768)

/-- REMAP_SWITCH_TURN: the committed TURN has come; without HITLESS the spare carries the lane at once (R338). -/
def execRemapSwitchTurn (s : State) : Host.Outcome State Fault Refusal :=
  ok (if s.rmSt = 4 ∧ !s.remap.switched ∧ (!s.remap.hitless ∨ turnReached (s.lane s.rmOld).turn s.remap.turn) then s.rmSwitch else s)

/-- A lane stands in a spare role. -/
def State.spareLane (s : State) (n : Nat) : Bool := (List.range 8).any fun k => s.rd F.FAB_SPARE_CFG_PHYS k = n

/-- A REMAP block with content `c` comes in on spare lane `n` (Table 11-8). -/
def State.remapRx (s : State) (n c : Nat) : State :=
  let op := bits c 0 4
  let det := c / 2 ^ 32 % 2 ^ 24 + 4 * 2 ^ 24
  let mine := decide (n = s.rmNew) && s.rmRuns
  if op = 1 then s
  else if mine ∧ s.rmSt = 2 ∧ op = 2 then
    if s.remap.hitless then
      let s1 := s.rmTo 3
      { s1 with remap := { s1.remap with seenOld := [], seenNew := [], compared := 0, differ := false } }
    else s.rmTo 4
  else if mine ∧ s.rmSt = 2 ∧ op = 3 then (s.rmEnd 6 4).rmNext
  else if mine ∧ s.rmSt = 4 ∧ s.remap.switched = true ∧ op = 5 then s.rmDone
  else if mine ∧ s.rmSt < 4 ∧ op = 6 then (s.rmEnd 7 0).rmNext
  else s.laneViol n 0x08 5 det

/-! ### Receiving (R317-R329) -/

/-- Give the strands of `k` turns from the next one on 16 zero words each, and count them lost (R325). -/
def State.loseTurns (s : State) (n k : Nat) : State :=
  let N := s.laneN n
  let x := s.lane n
  let b := (List.range (Nat.min k 65536)).foldl (fun (b : Tab (List Nat)) i =>
    let d := (x.turn + i) % N
    tput b d ((tget b d [] ++ List.replicate 16 0).take 64) []) x.buf
  (s.setLane n { x with buf := b, turn := (x.turn + k) % 65536 }).addSat F.FAB_LANE_FEC_CELL_LOST n k

/-- A frame counts as uncorrectable (R325, R339). -/
def State.frameBad (s : State) (n : Nat) : State :=
  let x := s.lane n
  let bad := (x.bad.filter fun t => decide (s.clk < t + msClk)) ++ [s.clk]
  let s1 := (s.setLane n { x with bad := bad, uncAt := some s.clk }).incSat F.FAB_LANE_FEC_UNCORR n
  if 16 ≤ bad.length ∧ s.on F.FAB_GLOBAL_CTRL_AUTO_REMAP 0 ∧ s.inService ∧ (s.laneOf n).isSome then s1.laneFail n else s1

/-- Symbols corrected in this second; more than 10^-5 of them degrade the lane (Table 11-6). -/
def State.countSyms (s : State) (n k : Nat) : State :=
  let x := s.lane n
  let new := decide (x.secAt + sClk ≤ s.clk)
  let high := if new then decide (x.frames * 558 < x.corr * 100000) else x.high
  s.setLane n (if new then { x with secAt := s.clk, corr := k, frames := 1, high := high }
    else { x with corr := x.corr + k, frames := x.frames + 1 })

/-- A lane in a test (R342): the checker takes a pattern's first bits as its start and counts the bits that differ from then on; under
FRAMED every frame is decoded, and its corrected symbols count. `bs`: the bits received. -/
def State.testRx (s : State) (n : Nat) (bs : List Nat) : State :=
  let x := s.lane n
  let pat := s.rd F.FAB_LANE_TEST_PATTERN n
  let tot := x.bits + bs.length
  let count := fun (s : State) (e : Nat) =>
    (((s.setLane n { s.lane n with bits := tot % 2 ^ 20 }).wr F.FAB_LANE_TEST_SYNC n 1).addSat F.FAB_LANE_TEST_ERR_BITS n e).addSat
      F.FAB_LANE_TEST_BITS_M n (tot / 2 ^ 20)
  if pat = 3 then
    let raw := x.raw ++ pieces 66 ((x.rxBits ++ bs).length / 66) (x.rxBits ++ bs)
    let s1 := s.setLane n { x with rxBits := (x.rxBits ++ bs).drop ((x.rxBits ++ bs).length / 66 * 66), raw := raw }
    if raw.length < 85 then s1
    else
      let s2 := s1.setLane n { s1.lane n with raw := raw.drop 85 }
      match rsDecode (frameSyms (raw.take 85)) with
      | some (_, e) => (count s2 e).addSat F.FAB_LANE_FEC_CORR_SYM n e
      | none => (count s2 0).incSat F.FAB_LANE_FEC_UNCORR n
  else
    let k := if s.on F.FAB_LANE_TEST_SYNC n then 0 else prbsOrder pat
    let st := if k = 0 then x.prbs else highFirst (bs.take k)
    let r := prbsRun pat (bs.length - k) st
    count (s.setLane n { x with prbs := r.2 }) (countIf (List.zip r.1 (bs.drop k)) fun e => decide (e.1 ≠ e.2))

/-- A block stands out of its place, or is of a reserved TYPE (violation 0x02): `place` in its frame, of FSEQ `q`. -/
def State.strayBlk (s : State) (n q place : Nat) (b : Blk) : Bool :=
  let fore := s.on F.FAB_LANE_CTRL_FORERUNNER n
  let stat := decide (place = 1) && (if fore then decide (q % 16 = 0) else decide (q % 2 = 0))
  let tag := decide (place = 1) && (if fore then decide (q % 16 = 8) else decide (q % 2 = 1))
  b.ctl && decide (place ≠ 0) && (match blkType b.pay with
    | 1 => false
    | 2 => !stat
    | 3 => !tag
    | 4 => !(tag && s.spareLane n)
    | _ => true)

/-- A frame of a framed lane is complete in its 85 blocks `raw` (R317-R320, R325): block lock is lost where 16 headers of 64 were invalid;
an uncorrectable frame gives its marker alone; else its blocks wait, descrambled, those out of place left out. -/
def State.frameRx (n : Nat) (raw : List (List Nat)) (s : State) : State :=
  let x := s.lane n
  let hs := x.heads ++ raw.map hdrOk
  let pays := (raw.take 80).map fun b => ({ pay := lowFirst (b.drop 2) } : Blk)
  let dirty := (throughScr descramble x.dscr (pays.drop 1)).1
  let first : Blk := (blkOf (raw.headD [])).getD {}
  let x1 := { x with heads := hs.drop (hs.length - 63) }
  let lose := fun (s : State) =>
    let s1 := s.frameBad n
    s1.setLane n { s1.lane n with dscr := dirty, rxq := (s1.lane n).rxq ++ [{ blk := first, good := false }] }
  if gridLost hs then
    let s1 := (s.unframe n).wr F.FAB_LANE_STATUS_STATE n Ln.hunt
    s1.setLane n { s1.lane n with grid := 0, heads := [] }
  else
    match rsDecode (frameSyms raw) with
    | none => lose (s.setLane n x1)
    | some (syms, errs) =>
      let s1 := ((s.setLane n x1).addSat F.FAB_LANE_FEC_CORR_SYM n errs).countSyms n errs
      let bl := symBlocks syms
      if bl.any (·.isNone) then lose (s1.laneViol n 0x01 3 0)
      else
        let bs := bl.map (·.getD {})
        let mk := bs.headD {}
        let d := throughScr descramble x.dscr (bs.drop 1)
        let q := if isMarker mk then mk.pay % 65536 else (x.fseq + 1) % 65536
        let els := (mk :: d.2).zipIdx.map fun b => ({ blk := b.1, place := b.2 } : RxBlk)
        let bad := els.filter fun e => s.strayBlk n q e.place e.blk
        let s2 := bad.foldl (fun s e => s.laneViol n 0x02 1 (e.blk.pay / 2 ^ 32 % 2 ^ 32)) s1
        let statDue := if s.on F.FAB_LANE_CTRL_FORERUNNER n then decide (q % 16 = 0) else decide (q % 2 = 0)
        let isStat := els.any fun e => decide (e.place = 1) && e.blk.ctl && blkType e.blk.pay = 2
        let y := s2.lane n
        s2.setLane n { y with dscr := d.1, rxq := y.rxq ++ els.filter fun e => !s.strayBlk n q e.place e.blk
                              noStat := if !statDue then y.noStat else if isStat then 0 else y.noStat + 1 }

/-- TETOS_FRAME_RX: the PAM4 levels that lane `n` receives in a frame period (R316-R320). A lane in a test gives them to its checker, or
its own sender's; one with no block lock hunts for the grid; one with no frame lock keeps its blocks for MARKER_RX; a framed one
decodes each frame that is complete. -/
def execTetosFrameRx (n : Fin 152) (lev : List (Fin 4)) (_ _ _ : Unit) (s : State) : Host.Outcome State Fault Refusal :=
  let m := n.val
  let x := s.lane m
  let st := s.laneSt m
  let bs := lev.flatMap fun l => levelBits l.val
  let got := x.rxBits ++ bs
  let h := huntGrid got.length x.grid got
  let k := if 64 ≤ h.2 then h.1.length / 66 else 0
  let raw := x.raw ++ pieces 66 k h.1
  let s1 := s.setLane m { x with rxBits := h.1.drop (66 * k), grid := h.2, raw := raw }
  ok (if st = Ln.test then s.testRx m (if s.on F.FAB_LANE_TEST_LOOP m then x.txFrame.flatMap levelBits else bs)
  else if st < Ln.training ∨ Ln.active < st then s
  else if !s.framed m then
    if x.grid < 64 ∧ 64 ≤ h.2 then s1.wr F.FAB_LANE_STATUS_STATE m Ln.blockLock else s1
  else if raw.length < 85 then s1
  else (s1.setLane m { s1.lane m with raw := raw.drop 85 }).frameRx m (raw.take 85))

/-- A PRBS test of the lane begins (R341, R342). -/
def State.testBegin (s : State) (n : Nat) : State :=
  let x := s.lane n
  let y := if s.on F.FAB_LANE_TEST_LOOP n || !s.framed n then { x with rxBits := [], raw := [], txHead := [] } else x
  ((((s.setLane n { y with prev := s.laneSt n, testWait := false, testEcho := false, bits := 0, txPrbs := 1 }).wr F.FAB_LANE_STATUS_STATE n Ln.test).wr
    F.FAB_LANE_TEST_RUNNING n 1).wr F.FAB_LANE_TEST_SYNC n 0)

/-- The block of lane `n` that stands next, and the lane without the `k` first ones. -/
def State.front (s : State) (n : Nat) : Option RxBlk := (s.lane n).rxq.head?
def State.popRx (s : State) (n k : Nat) : State := s.setLane n { s.lane n with rxq := (s.lane n).rxq.drop k }

/-- The control block of type `t` that stands next on a framed lane: its content. -/
def State.frontCtl (s : State) (n t : Nat) : Option Nat :=
  match s.front n with
  | some e => if s.framed n && e.blk.ctl && decide (e.place ≠ 0) && blkType e.blk.pay = t then some (e.blk.pay % 2 ^ 56) else none
  | none => none

/-- The rest of a cell that a receiver cannot tell from the first turn after block 0 (R325): how many blocks it leaves out is open,
DESIGN CHOICE (log 147). -/
def State.resume (s : State) (n : Nat) : State :=
  let d := s.draw
  d.1.setLane n { d.1.lane n with drop := d.2 % 5, part := [] }

/-- The marker's place of a frame has come (R320, R325, R341): the marker was found there or not, in a frame FEC found good or not. -/
def State.markerRx (s : State) (m : Nat) (found good : Bool) (turnM fseq : Nat) : State :=
  let x := s.lane m
  if !found then
    if 2 ≤ x.miss then (s.unframe m).wr F.FAB_LANE_STATUS_STATE m Ln.blockLock
    else s.setLane m { x with miss := x.miss + 1, gap := x.gap || !good, part := if good then x.part else [] }
  else if !good then s.setLane m { x with miss := 0, gap := true, part := [] }
  else
    let lost := (turnM + 65536 - x.turn) % 65536
    let s1 := if x.gap then (s.loseTurns m lost).resume m else s
    let s2 := s1.setLane m { s1.lane m with miss := 0, fseq := fseq, gap := false, turn := if x.gap then turnM else x.turn }
    if x.testWait ∧ x.testEcho ∧ fseq % 256 = 0 then s2.testBegin m else s2

/-- Frame lock is sought in the blocks `raw` that lane `m` holds (R320): the pattern, and the pattern again 85 blocks later. -/
def State.markerHunt (s : State) (m : Nat) : State :=
  let x := s.lane m
  let at' := fun (b : List Nat) => (blkOf b).any isMarker
  let k := x.raw.findIdx at'
  match x.raw[k]? with
  | none => s.setLane m { x with raw := [], since := x.since + x.raw.length }
  | some b =>
    let pay := lowFirst (b.drop 2)
    if x.marks = 1 ∧ x.since + k = 84 then
      let s1 := s.resume m
      (s1.setLane m { s1.lane m with marks := 2, miss := 0, turn := pay / 65536 % 65536, fseq := pay % 65536, gap := false
                                     skipLost := false, lostAt := .none, card := false, raw := x.raw.drop k }).wr
        F.FAB_LANE_STATUS_FRAME_LOCK m 1
    else (s.setLane m { x with marks := 1, since := 0, raw := x.raw.drop (k + 1) }).wr F.FAB_LANE_STATUS_STATE m Ln.blockLock

/-- MARKER_RX: an alignment marker is looked for: in the blocks of a lane with block lock, or at its place on a framed one. -/
def execMarkerRx (n : Fin 152) (_ _ _ : Unit) (s : State) : Host.Outcome State Fault Refusal :=
  let m := n.val
  let st := s.laneSt m
  ok (if st < Ln.training ∨ Ln.active < st ∨ (s.lane m).grid < 64 then s
  else if !s.framed m then s.markerHunt m
  else
    match s.front m with
    | some e =>
      if e.place ≠ 0 then s
      else (s.popRx m 1).markerRx m (isMarker e.blk) e.good (e.blk.pay / 65536 % 65536) (e.blk.pay % 65536)
    | none => s)

/-- Keep what turn `t` brought on lane `n` while a remap compares its two lanes (R337): whatever both have brought is compared. -/
def State.compare (s : State) (n t : Nat) (ws : List Nat) : State :=
  if s.rmSt ≠ 3 ∨ (n ≠ s.rmOld ∧ n ≠ s.rmNew) then s
  else
    let y := s.remap
    let other := if n = s.rmOld then y.seenNew else y.seenOld
    match other.find? fun e => e.1 = t with
    | some e =>
      let o := other.filter fun e => e.1 ≠ t
      { s with remap := { y with seenOld := if n = s.rmOld then y.seenOld else o, seenNew := if n = s.rmOld then o else y.seenNew
                                 compared := y.compared + 1, differ := y.differ || decide (e.2 ≠ ws) } }
    | none =>
      { s with remap := { y with seenOld := if n = s.rmOld then (t, ws) :: y.seenOld.take 4095 else y.seenOld
                                 seenNew := if n = s.rmOld then y.seenNew else (t, ws) :: y.seenNew.take 4095 } }

/-- A whole cell of 16 words comes in on lane `n`; `out`: words its elastic buffer has released since the strand's last cell (R324,
R325). A lane that carries no logical lane keeps none. -/
def State.cellRx (s : State) (m : Nat) (ws : List Nat) (out : Nat) : State :=
  let x := s.lane m
  let d := x.turn % s.laneN m
  let have' := (tget x.buf d []).drop out
  let s1 := (s.compare m x.turn ws).setLane m { x with turn := (x.turn + 1) % 65536 }
  if x.skipLost then s.loseTurns m 1
  else if (s.laneOf m).isNone then s1
  else if 64 < have'.length + 16 then
    ((s1.setLane m { s1.lane m with buf := tput x.buf d have' [] }).incSat F.FAB_LANE_FEC_CELL_LOST m).laneViol m 0x07 1 0
  else s1.setLane m { s1.lane m with buf := tput x.buf d (have' ++ ws) [] }

/-- CELL_RX: the data blocks that stand next join the cell in part; five of them are a cell (R321, R322). -/
def execCellRx (n : Fin 152) (out : Nat) (_ : Unit) (s : State) : Host.Outcome State Fault Refusal :=
  let m := n.val
  let x := s.lane m
  let run := x.rxq.takeWhile fun e => !e.blk.ctl && decide (e.place ≠ 0)
  let old := run.take x.drop
  let new := (run.drop x.drop).take (5 - x.part.length)
  let part := x.part ++ new.map (·.blk.pay)
  let s1 := s.setLane m { x with rxq := x.rxq.drop (old.length + new.length), drop := x.drop - old.length, part := part }
  ok (if !s.framed m || run.isEmpty then s
  else if part.length < 5 then s1
  else (s1.setLane m { s1.lane m with part := [] }).cellRx m (cellWords part) out)

/-- A SKIP that names `strand` comes in on lane `m`; `inCell`: it stands inside a cell (R321, R323, Table 11-12). -/
def State.skipRx (s : State) (m strand : Nat) (inCell : Bool) : State :=
  let x := s.lane m
  if x.skipLost then s.loseTurns m 1
  else if inCell || decide (strand ≠ x.turn % s.laneN m) then
    (s.setLane m { x with skipLost := true, part := [] }).laneViol m 0x03 3 (2 ^ 24)
  else (s.compare m x.turn []).setLane m { x with turn := (x.turn + 1) % 65536 }

/-- SKIP_RX: a SKIP block stands next. -/
def execSkipRx (n : Fin 152) (_ _ : Unit) (s : State) : Host.Outcome State Fault Refusal :=
  ok (match s.frontCtl n.val 1 with
    | some c => ((s.popRx n.val 1).setLane n.val { (s.popRx n.val 1).lane n.val with drop := 0 }).skipRx n.val (c % 32)
        (decide ((s.lane n.val).part ≠ []))
    | none => s)

/-- A tap after a request (R331): 1 increase, 2 decrease, 3 preset; out of range it stays. -/
def tapMove (req v max preset : Nat) : Nat :=
  match req with
  | 1 => if v < max then v + 1 else v
  | 2 => v - 1
  | 3 => preset
  | _ => v

/-- Apply a partner's FFE requests, each tap at most once a millisecond (R331). -/
def State.ffeApply (s : State) (n pre post : Nat) : State :=
  let x := s.lane n
  let p := eqPreset (s.rd F.FAB_LANE_CTRL_CLASS n)
  let early := fun (t : Option Nat) => match t with
    | some t => decide (s.clk < t + msClk)
    | none => false
  let s1 := if pre = 0 then s
    else if early x.ffePre then s.laneViol n 0x09 2 0
    else (s.setLane n { s.lane n with ffePre := some s.clk }).wr F.FAB_LANE_EQ_TX_PRE n (tapMove pre (s.rd F.FAB_LANE_EQ_TX_PRE n) 16 p.1)
  if post = 0 then s1
  else if early x.ffePost then s1.laneViol n 0x09 2 0
  else (s1.setLane n { s1.lane n with ffePost := some s.clk }).wr F.FAB_LANE_EQ_TX_POST n
    (tapMove post (s.rd F.FAB_LANE_EQ_TX_POST n) 24 p.2.1)

/-- The partner's CARD_ID (violation 0x0B). -/
def State.cardSeen (s : State) (n id det : Nat) : State :=
  let x := s.lane n
  let s1 := (s.wr F.FAB_LANE_PARTNER_CARD_ID n id).setLane n { x with card := true }
  if x.card && decide (id ≠ s.rd F.FAB_LANE_PARTNER_CARD_ID n) then
    ((s1.wr F.FAB_LANE_STATUS_WIRING_EV n 1).event F.FAB_EVENT_WIRING 0 Irq.fab).laneViol n 0x0B 4 det
  else s1

/-- A STATUS block with content `c` comes in on lane `m` (Table 11-6). -/
def State.statusRx (s : State) (m c : Nat) : State :=
    let det := c / 2 ^ 32 % 2 ^ 24 + 2 * 2 ^ 24
    let x := s.lane m
    let t := bits c 0 16
    let s1 := if x.skipLost then s.loseTurns m ((t + 65536 - x.turn) % 65536)
      else if t ≠ x.turn then (s.loseTurns m ((t + 65536 - x.turn) % 65536)).laneViol m 0x04 4 det
      else s
    let s2 := s1.setLane m { s1.lane m with skipLost := false, absent := false, testEcho := bit c 43, turn := t }
    let s3 := if bit c 16 || bit c 17 || bit c 19 then s2.laneViol m 0x05 2 det else s2
    let s4 := (s3.wr F.FAB_LANE_PARTNER_PARTNER_LANE m (bits c 20 8)).cardSeen m (bits c 28 8) det
    let s5 := s4.ffeApply m (bits c 36 2) (bits c 38 2)
    (((s5.wr F.FAB_LANE_PARTNER_RX_LOCK m (bits c 40 1)).wr F.FAB_LANE_STATUS_PARTNER_READY m (bits c 41 1)).wr
      F.FAB_LANE_PARTNER_DEGRADED m (bits c 42 1)).wr F.FAB_LANE_PARTNER_TEST_REQ m (bits c 43 1)

/-- STATUS_BLOCK_RX: a STATUS block stands next. -/
def execStatusBlockRx (n : Fin 152) (_ : Unit) (s : State) : Host.Outcome State Fault Refusal :=
  ok (match s.frontCtl n.val 2 with
    | some c => (s.popRx n.val 1).statusRx n.val c
    | none => s)

/-- STATUS_ABSENT: 64 STATUS slots in a row without STATUS (violation 0x0A). -/
def execStatusAbsent (n : Fin 152) (s : State) : Host.Outcome State Fault Refusal :=
  let m := n.val
  ok (if s.framed m && !(s.lane m).absent && decide (64 ≤ (s.lane m).noStat) then
    ((s.setLane m { s.lane m with absent := true }).wr F.FAB_LANE_STATUS_PARTNER_READY m 0).laneViol m 0x0A 6 0
  else s)

/-- A TAG block with content `c` comes in on lane `m` (Table 11-7, R329). -/
def State.tagRx (s : State) (m c : Nat) : State :=
  let strand := bits c 0 5
  let cls := bits c 18 4
  let det := c / 2 ^ 32 % 2 ^ 24 + 3 * 2 ^ 24
  match s.laneOf m with
    | none => s
    | some l =>
      if bits c 5 13 ≠ 32 * l + strand then s.laneViol m 0x06 1 det
      else
        let x := s.lane m
        let s1 := s.setLane m { x with cls := tins x.cls strand cls }
        let p := s.slotPort (32 * l + strand)
        if cls ≠ 0 ∧ cls ≠ s.portClass p then s1.laneViol m 0x06 1 det else s1

/-- TAG_RX: a TAG block stands next. -/
def execTagRx (n : Fin 152) (_ : Unit) (s : State) : Host.Outcome State Fault Refusal :=
  ok (match s.frontCtl n.val 3 with
    | some c => (s.popRx n.val 1).tagRx n.val c
    | none => s)

/-- REMAP_RX: a REMAP block stands next. -/
def execRemapRx (n : Fin 152) (_ : Unit) (s : State) : Host.Outcome State Fault Refusal :=
  ok (match s.frontCtl n.val 4 with
    | some c => (s.popRx n.val 1).remapRx n.val c
    | none => s)

/-! ### Tests (R341, R342) -/

/-- START: only on a lane that carries no logical lane, with a test grant. -/
def State.testStart (s : State) (n tok : Nat) : State :=
  let st := s.laneSt n
  let free := ((s.laneOf n).isNone || st = Ln.idle) && decide (st ≠ Ln.test ∧ st ≠ Ln.retired)
  if !free || !s.grantOk tok Gc.laneTest n then s.laneRefused n
  else if s.on F.FAB_LANE_TEST_LOOP n then s.testBegin n
  else s.setLane n { s.lane n with testWait := true, testEcho := false }

/-- STOP: the lane trains and returns to the state it had before; the test grant goes back (Table 15-1). -/
def State.testStop (s : State) (n : Nat) : State :=
  let x := s.lane n
  if s.laneSt n = Ln.test then
    let back := if x.prev = Ln.active ∨ x.prev = Ln.blockLock ∨ x.prev = Ln.hunt then Ln.training else x.prev
    let s1 := (s.unframe n).setLane n { (s.unframe n).lane n with testWait := false, testEcho := false, lostAt := .none
                                                                  train := 0, txHead := [], txq := [] }
    ((((s1.wr F.FAB_LANE_STATUS_STATE n back).wr F.FAB_LANE_TEST_RUNNING n 0).wr F.FAB_LANE_TEST_SYNC n 0)).returnGrant Gc.laneTest n
  else if x.testWait then (s.setLane n { x with testWait := false }).returnGrant Gc.laneTest n
  else s

/-- A write of FAB_LANE_TEST's first word: STOP, then START. -/
def State.testCtrl (n w : Nat) (s : State) : State :=
  let s1 := (((s.wr F.FAB_LANE_TEST_PATTERN n (bits w 2 2)).wr F.FAB_LANE_TEST_LOOP n (bits w 4 1)).wr
    F.FAB_LANE_TEST_INJ_SYM n (bits w 5 5)).writeField F.FAB_LANE_TEST_INJ_BER n (bits w 10 4)
  let s2 := s1.wr F.FAB_LANE_TEST_GRANT n (bits w 16 16)
  let s3 := if bit w 1 then s2.testStop n else s2
  if bit w 0 then s3.testStart n (bits w 16 16) else s3

/-- LANE_TEST_START: a write with START set. -/
def execLaneTestStart (n : Fin 152) (w : Word) (s : State) : Host.Outcome State Fault Refusal :=
  ok (s.hostWriteSet (0xE1020 + 0x80 * n.val) w.toNat 1 (State.testCtrl n.val))

/-- LANE_TEST_STOP: a write with STOP set. -/
def execLaneTestStop (n : Fin 152) (w : Word) (s : State) : Host.Outcome State Fault Refusal :=
  ok (s.hostWriteSet (0xE1020 + 0x80 * n.val) w.toNat 2 (State.testCtrl n.val))

/-- A write of FAB_SPARE_CFG[k]: the declaration, only in CALIBRATE; WARM keeps the spare ACTIVE or lets it go to L-DEEP. -/
def State.spareCfg (k w : Nat) (s : State) : State :=
  let p := s.rd F.FAB_SPARE_CFG_PHYS k
  let s1 := if s.mode = Mode.calibrate then
      ((s.wr F.FAB_SPARE_CFG_LO k (bits w 8 8)).wr F.FAB_SPARE_CFG_HI k (bits w 16 8)).wr F.FAB_SPARE_CFG_VALID k (bits w 24 1)
    else s
  let s2 := s1.wr F.FAB_SPARE_CFG_WARM k (bits w 25 1)
  if s2.on F.FAB_SPARE_CFG_IN_USE k || (s2.rmRuns && decide (s2.rmNew = p)) then s2
  else if bit w 25 then
    if !s2.inService || s2.laneGrant p (s2.rd F.FAB_LANE_CTRL_GRANT p) then (s2.wr F.FAB_LANE_CTRL_STATE_REQ p 2).laneFollow p 2 else s2
  else (s2.wr F.FAB_LANE_CTRL_STATE_REQ p 1).laneFollow p 1

end Sys2Proof.Machine
end

