-- ==== Sys2Proof/Machine/Media.lean ====
section
/-! DEFINITION. Media Ethernet and ST 2110 (chapter 12): the fate of a received frame, the flow table, receive and send
flows, PAUSE, links, and the host packet rings. Headers that the spec takes from their own standards are read as those
standards lay them out (PRESUMED, log 21). -/
namespace Sys2Proof.Machine

/-! ### Ports (R344-R347) -/

/-- Logical ports of a SPLIT (Table 12-1). -/
def splitPorts (sp : Nat) : Nat := if sp = 0 then 1 else if sp = 1 then 2 else 4

/-- Number `l` names a logical port (R345). -/
def State.lportExists (s : State) (l : Nat) : Bool :=
  l = 32 || (decide (l < 32) && decide (l % 4 < splitPorts (s.rd F.MEDIA_PORT_CFG_SPLIT (l / 4))))

/-- It is enabled. -/
def State.lportOn (s : State) (l : Nat) : Bool :=
  s.lportExists l && (if l = 32 then s.on F.MGT_CFG_EN 0 else s.on F.MEDIA_LPORT_CFG_EN l)

/-- A register field of logical port `l`, from the media port's and MGT's. -/
def lpf (l : Nat) (media mgt : Fld) : Fld × Nat := if l < 32 then (media, l) else (mgt, 0)
def State.lrd (s : State) (l : Nat) (media mgt : Fld) : Nat := s.rd (lpf l media mgt).1 (lpf l media mgt).2
def State.lwr (s : State) (l : Nat) (media mgt : Fld) (v : Nat) : State := s.wr (lpf l media mgt).1 (lpf l media mgt).2 v

/-- Count in a 16-bit counter of logical port `l`; it saturates. -/
def State.lcnt (s : State) (l : Nat) (media mgt : Fld) : State := s.incSat (lpf l media mgt).1 (lpf l media mgt).2

/-- Count a frame and its bytes, FCS included (log 24). -/
def State.rxCount (s : State) (l n : Nat) : State :=
  if l < 32 then
    (s.addWrap F.MEDIA_LPORT_CNT_RX_FRAMES l 1).wr64 F.MEDIA_LPORT_CNT_RX_BYTES_LO F.MEDIA_LPORT_CNT_RX_BYTES_HI l
      (s.rd64 F.MEDIA_LPORT_CNT_RX_BYTES_LO F.MEDIA_LPORT_CNT_RX_BYTES_HI l + n)
  else
    (s.addWrap F.MGT_CNT_RX_FRAMES 0 1).wr64 F.MGT_CNT_RX_BYTES_LO F.MGT_CNT_RX_BYTES_HI 0
      (s.rd64 F.MGT_CNT_RX_BYTES_LO F.MGT_CNT_RX_BYTES_HI 0 + n)
def State.txCount (s : State) (l n : Nat) : State :=
  if l < 32 then
    (s.addWrap F.MEDIA_LPORT_CNT_TX_FRAMES l 1).wr64 F.MEDIA_LPORT_CNT_TX_BYTES_LO F.MEDIA_LPORT_CNT_TX_BYTES_HI l
      (s.rd64 F.MEDIA_LPORT_CNT_TX_BYTES_LO F.MEDIA_LPORT_CNT_TX_BYTES_HI l + n)
  else
    (s.addWrap F.MGT_CNT_TX_FRAMES 0 1).wr64 F.MGT_CNT_TX_BYTES_LO F.MGT_CNT_TX_BYTES_HI 0
      (s.rd64 F.MGT_CNT_TX_BYTES_LO F.MGT_CNT_TX_BYTES_HI 0 + n)

/-- The fault source of logical port `l`. -/
def lportSrc (l : Nat) : Nat := if l < 32 then Src.media (l / 4) else Src.mgt

/-- Log a media violation (R379): the logical port as partner, the flow entry as detail. -/
def State.mediaViolation (s : State) (l code answer entry : Nat) : State :=
  (s.event F.MEDIA_EVENT_VIOLATION 0 Irq.media).violation 2 l code answer entry (lportSrc l)

/-- Logical port `l` has link. -/
def State.lportLink (s : State) (l : Nat) : Bool := decide (s.lrd l F.MEDIA_LPORT_STATUS_LINK F.MGT_STATUS_LINK ≠ 0)

/-- Essence entries: of a TYPE other than HOST or DROP (R346). -/
def State.essence (s : State) (i : Nat) : Bool := decide (s.fType i ≠ 0 ∧ s.fType i ≠ 6)

/-- A VALID essence entry names logical port `l`. -/
def State.lportUsed (s : State) (l : Nat) : Bool := s.flowIdx.any fun i => s.fValid i && s.essence i && s.fPort i = l

/-! ### Flow entries (R350-R353) -/

def State.fsrcEn (s : State) (i : Nat) : Bool := bit (s.fw i 0) 3
def State.fIpv6 (s : State) (i : Nat) : Bool := bit (s.fw i 0) 2
def State.fAddr (s : State) (i at' : Nat) : List Nat := (List.range (if s.fIpv6 i then 4 else 1)).map fun k => s.fw i (at' + k)
def State.fSeal (s : State) (i : Nat) : Bool := bit (s.fw i 11) 6
def State.fSealSlot (s : State) (i : Nat) : Nat := bits (s.fw i 11) 0 6
def State.fPtime (s : State) (i : Nat) : Bool := bit (s.fBind i) 24
def State.fL16 (s : State) (i : Nat) : Bool := bit (s.fBind i) 25
def State.fAsync (s : State) (i : Nat) : Bool := bit (s.fBind i) 26
def State.fPlayout (s : State) (i : Nat) : Nat := bits (s.fw i 11) 16 14
def State.fAudio (s : State) (i : Nat) : Bool := s.fType i = 2 || s.fType i = 3

/-- The entry beside its words, and what its binding shares. -/
def State.fst (s : State) (i : Nat) : FlowSt := tget s.flowSt i {}
def State.setFst (s : State) (i : Nat) (x : FlowSt) : State := { s with flowSt := tput s.flowSt i x {} }
def State.fKey (s : State) (i : Nat) : Nat :=
  if s.fAudio i then 8192 + s.fFirstCh i else if s.fType i = 4 then 131072 + s.fSlot i else s.fSlot i
def State.fb (s : State) (i : Nat) : FlowBind := tget s.flowBind (s.fKey i) {}
def State.setFb (s : State) (i : Nat) (x : FlowBind) : State := { s with flowBind := tput s.flowBind (s.fKey i) x {} }

/-- Count in the low or high 16-bit counter of a status word; it saturates (Table 12-4). -/
def State.fLow (s : State) (i w k : Nat) : State :=
  let x := s.fw i w
  s.setFw i w (Nat.min (x % 65536 + k) 65535 + 65536 * (x / 65536))
def State.fHigh (s : State) (i w k : Nat) : State :=
  let x := s.fw i w
  s.setFw i w (x % 65536 + 65536 * Nat.min (x / 65536 + k) 65535)
def State.fCountUp (s : State) (i w k : Nat) : State := s.setFw i w (s.fw i w + k)

/-- LATE, EARLY, DUP, SEAL_FAIL, UNDERRUN of an entry. -/
def State.fLate (s : State) (i : Nat) : State := s.fLow i 18 1
def State.fEarly (s : State) (i : Nat) : State := s.fHigh i 18 1
def State.fUnderrun (s : State) (i : Nat) : State := s.fLow i 20 1

/-- The other leg of a protected flow: VALID, and the two name each other (R371, R372). -/
def State.fTwin (s : State) (i : Nat) : Option Nat :=
  let j := s.fPartner i
  if s.fLeg i ≠ 0 ∧ j ≠ i ∧ s.fValid j = true ∧ s.fLeg j ≠ 0 ∧ s.fPartner j = i then some j else none

/-- CORE clocks of a frame at a rate code, as a fraction. -/
def rateClocks (rate : Nat) : Nat × Nat :=
  if fractional rate then (1251250000, nominalRate rate) else (1250000000, nominalRate rate)

/-- RX_ACTIVE and SRC_VALID of entry `i` (Table 12-4): a packet in the last 10 ms or frame period, whichever is longer. -/
def State.flowActive (s : State) (i : Nat) : Bool :=
  match (s.fst i).lastRx with
  | none => false
  | some t =>
    let p := rateClocks (s.fRate i)
    let fr := if s.fType i = 1 ∨ s.fType i = 5 then p.1 / p.2 else 0
    decide (s.clk ≤ t + Nat.max (10 * msClk) fr)
def State.flowShow (s : State) (i : Nat) : State :=
  let valid := if s.fType i = 1 ∨ s.fType i = 5 then !(s.fb i).lost else s.flowActive i
  if s.fValid i && s.fDir i = 0 then s.setFw i 21 (b2n (s.flowActive i) + 2 * b2n valid) else s.setFw i 21 0

/-- The formats of Table 12-6, with the strands of each. -/
def flowFormat (st rate samp : Nat) : Option Nat :=
  match st with
  | 3 => if 5 ≤ rate ∧ rate ≤ 7 ∧ samp = 0 then some 1 else none
  | 4 => if 2 ≤ rate ∧ rate ≤ 4 ∧ samp = 0 then some 1 else none
  | 5 => if rate ≤ 4 ∧ samp ≤ 4 then some 1 else if 5 ≤ rate ∧ rate ≤ 7 ∧ samp = 0 then some 1 else none
  | 6 => if rate ≤ 4 ∧ samp = 0 then some 2 else if 5 ≤ rate ∧ rate ≤ 7 ∧ samp = 0 then some 4 else none
  | _ => none

/-- The audio packing of R363. -/
def audioPacking (count : Nat) (r96 ptime aes : Bool) : Bool :=
  decide (1 ≤ count ∧ count ≤ (if r96 then (if ptime then 32 else 4) else if ptime then 64 else 8)) &&
    (!aes || decide (count % 2 = 0))

/-- Bytes an audio receive entry reserves (R364). -/
def State.poolBytes (s : State) (i : Nat) : Nat :=
  if s.fAudio i && s.fDir i = 0 then
    4 * s.fChannels i * ceilDiv ((s.fPlayout i + (if s.fPtime i then 125 else 1000) + 1000) * 48) 1000
  else 0

/-- The free pool in bytes, and MEDIA_AUD_POOL after a change. -/
def State.poolFree (s : State) : Nat :=
  16777216 - ((s.flowIdx.filter fun i => s.fValid i).map fun i => s.poolBytes i).foldl (· + ·) 0
def State.poolShow (s : State) : State := s.wr F.MEDIA_AUD_POOL_FREE 0 (s.poolFree / 1024)

/-- Direction and match key of an entry (R351). -/
def State.matchKey (s : State) (i : Nat) : List Nat :=
  [s.fDir i, s.fPort i, b2n (s.fIpv6 i), bits (s.fw i 1) 0 16, b2n (s.fsrcEn i)] ++ s.fAddr i 2 ++
    (if s.fsrcEn i then s.fAddr i 6 else [])

/-- Entries of one direction bind a common slot or channel (Table 12-5 BOUND). -/
def State.bindsShared (s : State) (i j : Nat) : Bool :=
  let video := fun k => s.fType k = 1 || s.fType k = 5
  if video i && video j then
    decide (s.fSlot i < s.fSlot j + s.fWidth j ∧ s.fSlot j < s.fSlot i + s.fWidth i)
  else s.fAudio i && s.fAudio j &&
    decide (s.fFirstCh i < s.fFirstCh j + s.fChannels j ∧ s.fFirstCh j < s.fFirstCh i + s.fChannels i)

/-- SLOT and channel ranges (Table 12-5 RANGE). -/
def State.flowRangeBad (s : State) (i : Nat) : Bool :=
  if s.fAudio i then
    decide (s.fFirstCh i < 36864 ∨ 57344 < s.fFirstCh i + s.fChannels i) || (s.f96 i && decide (s.fFirstCh i % 2 = 1))
  else if s.fType i = 0 ∨ s.fType i = 6 then false
  else decide (s.fSlot i < 4608 ∨ 5760 < s.fSlot i + s.fWidth i ∨ s.fSlot i % s.fWidth i ≠ 0)

/-- A format outside Table 12-6 or audio packing beyond R363. -/
def State.flowFormatBad (s : State) (i : Nat) : Bool :=
  match s.fType i with
  | 0 => false
  | 1 => decide (flowFormat (s.fStruct i) (s.fRate i) (s.fSampling i) ≠ some (s.fWidth i))
  | 2 => !audioPacking (s.fCount i) (s.f96 i) (s.fPtime i) false
  | 3 => !audioPacking (s.fCount i) (s.f96 i) (s.fPtime i) true
  | 4 => false
  | 5 => decide (10 < s.fRate i)
  | 6 => false
  | _ => true

/-- A partner entry that does not fit (Table 12-5 PARTNER). -/
def State.flowPartnerBad (s : State) (i : Nat) : Bool :=
  let j := s.fPartner i
  decide (s.fLeg i ≠ 0) && s.fValid j &&
    (decide (s.fLeg j = 0 ∨ s.fPartner j ≠ i ∨ s.fDir j ≠ s.fDir i ∨ s.fType j ≠ s.fType i ∨ s.fBind j ≠ s.fBind i)
      || (decide (s.fDir i = 1) && decide (s.fPort i = s.fPort j)))

/-- The first failing check of ENABLE (R352, Table 12-5); 0: none. -/
def State.enableCode (s : State) (i : Nat) : Nat :=
  let others := s.flowIdx.filter fun j => decide (j ≠ i) && s.fValid j
  let l := s.fPort i
  let macOff := decide (s.fDir i = 1) && decide (s.lrd l F.MEDIA_MAC_EN F.MGT_MAC_EN = 0)
  let mac0 := if l < 32 then decide (s.fDir i = 1) && !s.on F.MEDIA_MAC_EN (l * 8) else macOff
  let use := if s.fDir i = 1 then Use.seal else Use.opens
  let checks : List (Bool × Nat) := [
    (others.any fun j => s.matchKey j = s.matchKey i, 1),
    (!s.lportOn l || (decide (l = 32) && s.essence i) || mac0, 2),
    (s.flowRangeBad i, 3),
    (others.any fun j => decide (s.fDir j = s.fDir i) && !(decide (s.fLeg i ≠ 0) && decide (j = s.fPartner i)) && s.bindsShared i j, 4),
    (s.flowFormatBad i, 5),
    (s.flowPartnerBad i, 6),
    (s.fSeal i && (!s.slotUsable (s.fSealSlot i) use || s.fType i = 5), 7),
    (decide (s.poolFree < s.poolBytes i), 8),
    (s.fValid i, 9),
    (s.fType i = 4 && !(others.any fun j => s.fType j = 1 && s.fDir j = s.fDir i && s.fSlot j = s.fSlot i), 11)]
  match checks.find? (·.1) with
  | some c => c.2
  | none => 0

/-- The routes that use what entry `i` binds: active or staged, video or audio (R353). -/
def State.flowInUse (s : State) (i : Nat) : Bool :=
  let lo := s.fFirstCh i
  let inCh := fun c => decide (lo ≤ c ∧ c < lo + s.fChannels i)
  let aEnts := (s.aud.act.map fun e => (e.1, e.2.ent)) ++
    ((s.aud.sh.filter fun e => e.2.staged || e.2.pending).map fun e => (e.1, e.2.ent))
  if s.fAudio i then
    aEnts.any fun e => e.2.routed && (if s.fDir i = 0 then inCh e.2.src else inCh e.1)
  else if s.fType i = 1 ∨ s.fType i = 5 then
    (if s.fDir i = 0 then s.readsSlots (s.fSlot i) (s.fWidth i) else s.writesSlots (s.fSlot i) (s.fWidth i))
  else false

/-- The code of DISABLE (R353). -/
def State.disableCode (s : State) (i : Nat) : Nat :=
  let anc := s.fType i = 1 && (s.flowIdx.any fun j => s.fValid j && s.fType j = 4 && s.fDir j = s.fDir i && s.fSlot j = s.fSlot i)
  if !s.fValid i then 9 else if (s.fTwin i).isNone && (s.flowInUse i || anc) then 10 else 0

/-- Forget what an entry's binding shared: its lines, and samples not yet played. -/
def State.clearBind (s : State) (i : Nat) : State :=
  let mine := fun c => s.fAudio i && decide (s.fFirstCh i ≤ c ∧ c < s.fFirstCh i + s.fChannels i)
  { s with flowBind := tput s.flowBind (s.fKey i) {} {}
           aud := { s.aud with due := s.aud.due.filter fun e => !mine e.1
                               fifo := s.aud.fifo.filter fun e => !mine e.1 } }

/-- ENABLE, DISABLE and CLEAR_STATS of entry `i` (R352, R353). -/
def State.flowEnable (i : Nat) (s : State) : State := ((s.setFw i 0 (withBit (s.fw i 0) 0 true)).setFst i {}).poolShow
def State.flowDisable (i : Nat) (s : State) : State :=
  let s1 := if (s.fTwin i).isNone && s.fDir i = 0 then s.clearBind i else s
  ((s1.setFw i 0 (withBit (s.fw i 0) 0 false)).setFst i {}).poolShow
def State.flowClear (i : Nat) (s : State) : State := forEach [16, 17, 18, 19, 20] (fun w s => s.setFw i w 0) s

/-- Perform OP on entry INDEX and report it. -/
def State.flowOp (s : State) : State :=
  let i := s.rd F.MEDIA_FLOW_CTRL_INDEX 0
  let op := s.rd F.MEDIA_FLOW_CTRL_OP 0
  let code := if op = 1 then s.enableCode i else if op = 2 then s.disableCode i else 0
  let s1 := (s.wr F.MEDIA_FLOW_STATUS_INDEX 0 i).wr F.MEDIA_FLOW_STATUS_RESULT 0 code
  if code ≠ 0 then s1.event F.MEDIA_EVENT_FLOW_REFUSED 0 Irq.media
  else if op = 1 then s1.flowEnable i else if op = 2 then s1.flowDisable i else if op = 3 then s1.flowClear i else s

/-- A write to MEDIA_FLOW_CTRL: INDEX and OP, then GO. -/
def State.flowCtrl (w : Nat) (s : State) : State :=
  let s1 := s.writeWord 0x100010 w
  if bit w 31 then s1.flowOp else s1

/-- The word that a flow command writes: its INDEX and GO with the command's OP. -/
def flowCtrlWord (w op : Nat) : Nat := w % 65536 + 65536 * op + 2 ^ 31

/-- FLOW_ENABLE. -/
def execFlowEnable (w : Word) (s : State) : Host.Outcome State Fault Refusal :=
  ok (s.hostWrite 0x100010 (flowCtrlWord w.toNat 1) (State.flowCtrl (flowCtrlWord w.toNat 1)))

/-- FLOW_DISABLE. -/
def execFlowDisable (w : Word) (s : State) : Host.Outcome State Fault Refusal :=
  ok (s.hostWrite 0x100010 (flowCtrlWord w.toNat 2) (State.flowCtrl (flowCtrlWord w.toNat 2)))

/-- FLOW_CLEAR_STATS. -/
def execFlowClearStats (w : Word) (s : State) : Host.Outcome State Fault Refusal :=
  ok (s.hostWrite 0x100010 (flowCtrlWord w.toNat 3) (State.flowCtrl (flowCtrlWord w.toNat 3)))

/-- The bits of word `k` that Tables 12-2 to 12-4 give an entry of direction `dir` and TYPE `typ`; the others are reserved (R7). -/
def flowMask (dir typ k : Nat) : Nat :=
  match k with
  | 10 => match typ with
    | 1 => 0x1FFFFFFF
    | 2 | 3 => 0x07FFFFFF
    | 4 => 0x1FFF
    | 5 => 0x1C781FFF
    | _ => 0
  | 11 => 0x3FFFFFFF
  | 14 => 0x1FF3F
  | 15 => if dir = 0 ∧ typ = 1 then 7 else 0xFFFFFFFF
  | 21 => 3
  | _ => if k ≤ 20 then 0xFFFFFFFF else 0

/-- `w` with its field of `n` bits at `lo` as in `old` where `keep`. -/
def keepField (old lo n : Nat) (keep : Bool) (w : Nat) : Nat :=
  if keep then w - bits w lo n * 2 ^ lo + bits old lo n * 2 ^ lo else w

/-- What a write of `w` leaves in configuration word `k` of entry `i` (R8): a reserved TYPE, LEG, STRUCT, RATE, SAMPLING or TCS leaves its
field unchanged. DEDUCED (log 89): which fields BIND and word 15 hold, the entry's TYPE and DIR as they stand at the write say. -/
def State.flowTakes (s : State) (i k w : Nat) : Nat :=
  let old := s.fw i k
  let v := w % 2 ^ 32
  let typ := s.fType i
  match k with
  | 0 => withBit (keepField old 14 2 (bits v 14 2 = 3) (keepField old 4 4 (decide (7 ≤ bits v 4 4)) v)) 0 false
  | 10 =>
    let u := keepField old 19 4 ((typ = 1 || typ = 5) && decide (10 < bits v 19 4)) v
    keepField old 23 3 (typ = 1 && decide (4 < bits v 23 3)) (keepField old 15 4 (typ = 1 && (totalLines (bits v 15 4) = 0)) u)
  | 11 | 14 => Nat.land v (flowMask 0 0 k)
  | 15 => keepField old 0 2 (s.fDir i = 0 && typ = 1 && bits v 0 2 = 3) v
  | _ => v

/-- A BAR2 write to word `k` of entry `i` (R350, R352): VALID and the status words are read-only. -/
def State.flowWrite (i k w : Nat) (s : State) : State :=
  if 16 ≤ k then s
  else if s.fValid i then s.event F.MEDIA_EVENT_FLOW_WR_REFUSED 0 Irq.media
  else s.setFw i k (s.flowTakes i k w)

/-- FLOW_ENTRY_WRITE. -/
def execFlowEntryWrite (i : Fin 65536) (k : Fin 32) (w : Word) (s : State) : Host.Outcome State Fault Refusal :=
  ok (s.hostWriteWin false 2 (0x800000 + 0x80 * i.val + 4 * k.val) w.toNat (State.flowWrite i.val k.val w.toNat))

/-! ### The host's side of a received frame (R348, R349, R378, R533) -/

/-- Receive and transmit ring of physical port `n`, 8 = MGT: slots, enabled, indices. -/
structure RingRegs where
  log2 : Fld
  en : Fld
  tail : Fld
  head : Fld
  idx : Nat
def rxRing (n : Nat) : RingRegs :=
  if n < 8 then ⟨F.MEDIA_RING_RXR_LOG2, F.MEDIA_RING_RXR_EN, F.MEDIA_RING_RXR_TAIL, F.MEDIA_RING_RXR_HEAD, n⟩
  else ⟨F.MGT_RING_RXR_LOG2, F.MGT_RING_RXR_EN, F.MGT_RING_RXR_TAIL, F.MGT_RING_RXR_HEAD, 0⟩
def txRing (n : Nat) : RingRegs :=
  if n < 8 then ⟨F.MEDIA_RING_TXR_LOG2, F.MEDIA_RING_TXR_EN, F.MEDIA_RING_TXR_TAIL, F.MEDIA_RING_TXR_HEAD, n⟩
  else ⟨F.MGT_RING_TXR_LOG2, F.MGT_RING_TXR_EN, F.MGT_RING_TXR_TAIL, F.MGT_RING_TXR_HEAD, 0⟩

/-- Slots of a ring; 0 while its size field is outside 4-12 (R533). -/
def State.pktSlots (s : State) (r : RingRegs) : Nat :=
  let l := s.rd r.log2 r.idx
  if 4 ≤ l ∧ l ≤ 12 then 2 ^ l else 0

/-- The ring holds a descriptor at HEAD. -/
def State.ringReady (s : State) (r : RingRegs) : Bool :=
  decide (s.pktSlots r ≠ 0) && s.on r.en r.idx && decide (s.rd r.head r.idx ≠ s.rd r.tail r.idx)

/-- Write a descriptor's words at HEAD of ring number `q` and advance HEAD. -/
def State.ringPut (s : State) (r : RingRegs) (q : Nat) (ws : List Nat) : State :=
  let slot := s.rd r.head r.idx % s.pktSlots r
  ({ s with rings := tput s.rings (q * 4096 + slot) ws [] }).addWrap r.head r.idx 1

/-- Words 2-7 of a receive descriptor (Table 12-8). -/
def State.rxDescWords (s : State) (f : RxFrame) (len host : Nat) : List Nat :=
  let tag := decide (f.tags = 1)
  let ts := s.on F.PTP_PORT_CFG_RXTS_EN f.port
  let t := s.stamp f.port true
  [f.bufLen % 16384 + 65536 * (len % 16384),
   1 + 2 * b2n ts + 4 * (if f.port < 32 then f.port % 4 else 0) + 16 * b2n tag +
     (if tag then 32 * (f.vid % 4096) + 131072 * (f.pcp % 8) else 0)] ++
  (if ts then t.words else [0, 0, 0]) ++ [host]

/-- Deliver a frame to the host receive ring of its physical port, or drop it whole (R349). `host`: the HOST entry matched. -/
def State.toHost (s : State) (f : RxFrame) (host : Nat) : State :=
  let n := if f.port < 32 then f.port / 4 else 8
  let l := f.port
  let len := f.len - 4 - (if f.tags = 1 then 4 else 0)
  let wait := tget s.hostFifo n 0 - f.drained
  let s0 := { s with hostFifo := tput s.hostFifo n wait 0 }
  if 262144 < wait + len then
    (s0.lcnt l F.MEDIA_LPORT_CNT_RX_OVF F.MGT_CNT_RX_OVF).event F.MEDIA_EVENT_RX_OVF 0 Irq.media
  else if !s.ringReady (rxRing n) || decide (f.bufLen < len) then s0.lcnt l F.MEDIA_LPORT_CNT_HOSTQ_DROP F.MGT_CNT_HOSTQ_DROP
  else
    let s1 := { s0 with hostFifo := tput s.hostFifo n (wait + len) 0 }
    (s1.ringPut (rxRing n) (2 * n) (s.rxDescWords f len host)).raise (Irq.ring + n)

/-! ### Packets (RFC 3550, RFC 4175 and ST 2110-20, RFC 8331: log 21) -/

/-- A big-endian number of `n` bytes at byte `off`. -/
def beAt (bs : List Nat) (off n : Nat) : Nat := (sub bs off n).foldl (fun a b => a * 256 + b % 256) 0

/-- An RTP packet: payload type, marker, sequence number, timestamp, payload. -/
structure Rtp where
  pt : Nat
  mark : Bool
  seq : Nat
  ts : Nat
  body : List Nat
deriving DecidableEq, Repr

/-- Read an RTP packet; none: version not 2, or shorter than its headers. -/
def rtpOf (bs : List Nat) : Option Rtp :=
  let b0 := beAt bs 0 1
  let hd := 12 + 4 * (b0 % 16)
  let ext := if bit b0 4 then 4 + 4 * beAt bs (hd + 2) 2 else 0
  let pad := if bit b0 5 then bs.getLastD 0 % 256 else 0
  if b0 / 64 ≠ 2 ∨ bs.length < 12 ∨ bs.length < hd + ext + pad then none
  else some ⟨beAt bs 1 1 % 128, bit (beAt bs 1 1) 7, beAt bs 2 2, beAt bs 4 4, (bs.drop (hd + ext)).take (bs.length - hd - ext - pad)⟩

/-- A sample row data segment: picture line, first pixel, pixels, and their components in the order of the packet. -/
structure Srd where
  row : Nat
  px : Nat
  n : Nat
  comps : List Nat := []
deriving DecidableEq, Repr

/-- Bytes and pixels of a pgroup by SAMPLING. -/
def pgroup (samp : Nat) : Nat × Nat := if samp = 0 then (5, 2) else if samp = 1 ∨ samp = 3 then (15, 4) else (9, 2)

/-- Components of a pixel, and bits of one. -/
def perPixel (samp : Nat) : Nat := if samp = 0 then 2 else 3
def compBits (samp : Nat) : Nat := if deep samp then 12 else 10

/-- The numbers of `w` bits that bytes hold, most significant bit first; and back. -/
def unpackBits (w : Nat) (bs : List Nat) : List Nat :=
  let n := 8 * bs.length
  let x := bs.foldl (fun a b => a * 256 + b % 256) 0
  (List.range (n / w)).map fun i => x / 2 ^ (n - w * (i + 1)) % 2 ^ w
def packBits (w : Nat) (vs : List Nat) : List Nat :=
  let n := ceilDiv (w * vs.length) 8
  let x := vs.foldl (fun a v => a * 2 ^ w + v % 2 ^ w) 0 * 2 ^ (8 * n - w * vs.length)
  (List.range n).map fun i => x / 256 ^ (n - 1 - i) % 256

/-- The segment headers of a -20 payload after its extended sequence number, with field bits: at most `n`. -/
def srdHeaders (bs : List Nat) (n : Nat) : List (Nat × Nat × Nat × Bool) :=
  match n with
  | 0 => []
  | n + 1 =>
    let h := (beAt bs 0 2, beAt bs 2 2 % 32768, beAt bs 4 2 % 32768, bit (beAt bs 2 2) 15)
    if bit (beAt bs 4 2) 15 then h :: srdHeaders (bs.drop 6) n else [h]

/-- What a -20 payload carries: extended sequence bits, field 2, segments; or the violation's code (Table 12-9). -/
def srdsOf (st samp : Nat) (bs : List Nat) : Nat ⊕ (Nat × Bool × List Srd) :=
  let hs := srdHeaders (bs.drop 2) 4
  let total := (hs.map fun h => h.1).foldl (· + ·) 0
  let pg := pgroup samp
  let f2 := (hs.headD (0, 0, 0, false)).2.2.2
  let pic := picture st
  let seg := fun (h : Nat × Nat × Nat × Bool) =>
    (⟨if interlaced st then 2 * h.2.1 + b2n h.2.2.2 else h.2.1, h.2.2.1, h.1 / pg.1 * pg.2, []⟩ : Srd)
  let data := fun (i : Nat) =>
    let o := 2 + 6 * hs.length + ((hs.take i).map fun h => h.1).foldl (· + ·) 0
    unpackBits (compBits samp) (sub bs o (hs.getD i (0, 0, 0, false)).1)
  let bad := fun (h : Nat × Nat × Nat × Bool) =>
    decide (h.1 % pg.1 ≠ 0 ∨ h.2.2.1 % pg.2 ≠ 0 ∨ pic.2 ≤ (seg h).row ∨ pic.1 < (seg h).px + (seg h).n)
  if bs.length < 8 ∨ bs.length < 2 + 6 * hs.length + total then .inl 1
  else if 3 < hs.length ∨ hs.any bad = true then .inl 2
  else .inr (beAt bs 0 2, f2, hs.zipIdx.map fun h => { seg h.1 with comps := data h.2 })

/-- Every pixel below `n` lies in a segment; `fuel` bounds the segments used. -/
def covered (segs : List (Nat × Nat)) (n fuel reach : Nat) : Bool :=
  match fuel with
  | 0 => decide (n ≤ reach)
  | k + 1 =>
    if n ≤ reach then true
    else
      match segs.find? fun e => decide (e.1 ≤ reach ∧ reach < e.1 + e.2) with
      | some e => covered segs n k (e.1 + e.2)
      | none => false

/-! ### Time of a packet (R356, R357) -/

/-- The media clock of `rate` Hz now, and a timestamp taken as the instant nearest the present (R356). -/
def State.mediaNow (s : State) (rate : Nat) : Nat := s.house * rate / secUnits
def State.unwrapTs (s : State) (rate ts : Nat) : Int := (s.mediaNow rate : Int) + sx 32 (ts + 2 ^ 32 - s.mediaNow rate % 2 ^ 32)

/-- The frame of raster `r` that a packet of timestamp `ts` belongs to (R356): its start lies in [T - P/2, T + P/2); T of
field 2 is taken less half a frame. -/
def State.packetFrame (s : State) (r ts : Nat) (f2 : Bool) : Int :=
  let t : Int := s.unwrapTs 90000 ts * secUnits - (s.house * 90000 : Nat)
  let pn : Int := (s.frameSamples r * s.phaseFull r * 262144 : Nat)
  let d : Int := s.phaseStep r
  let c0 : Int := (s.samplesTo r (s.pos r).frame 1 * s.phaseFull r - (s.raster r).phase) * 262144
  let num := 2 * t * d - pn * 90000 * (if f2 then 2 else 1) - 2 * c0 * 90000
  let den := 2 * pn * 90000
  ((s.pos r).frame : Int) - (-num) / den

/-- Raster line on which strand line `l` of a structure begins. -/
def ipRasterLine (st l : Nat) : Nat := if st = 6 then 2 * l - 1 else l

/-- CORE clocks from now to the egress instant of strand line `l` of frame `f` of raster `r`, as a fraction. -/
def State.egressIn (s : State) (r st : Nat) (f : Int) (l : Nat) : Int × Nat :=
  let smp := s.samplesTo r 0 (ipRasterLine st l) + f * s.frameSamples r - s.rd F.SLATE_RASTER_TIMING_ADV r
  (smp * s.phaseFull r - (s.raster r).phase, s.phaseStep r)

/-- CORE clocks of a strand line on raster `r`, over the same denominator. -/
def State.strandLine (s : State) (r st : Nat) : Nat := s.rSamples r * (if st = 6 then 2 else 1) * s.phaseFull r

/-- A line's egress instant is less than 1.5 us away. -/
def tooLate (x : Int × Nat) : Bool := decide (x.1 < 1875 * (x.2 : Int))

/-! ### Received essence -/

/-- The sequence of an entry (Table 12-4 LOST): numbers passed over are missing. `w`: width of the number. -/
def State.flowSeq (s : State) (i seq w : Nat) : State :=
  let x := s.fst i
  match x.next with
  | none => s.setFst i { x with next := some ((seq + 1) % 2 ^ w) }
  | some n =>
    let d := (seq + 2 ^ w - n) % 2 ^ w
    if d < 2 ^ (w - 1) then (s.fCountUp i 17 d).setFst i { x with next := some ((seq + 1) % 2 ^ w) } else s

/-- A packet of a newer timestamp arrives and the frame before it had no marker (Table 12-9, 0x05). -/
def State.flowFrameEnd (s : State) (i : Nat) (p : Rtp) : State :=
  let x := s.fst i
  let newer := match x.ts with
    | some t => decide (0 < (p.ts + 2 ^ 32 - t) % 2 ^ 32 ∧ (p.ts + 2 ^ 32 - t) % 2 ^ 32 < 2 ^ 31)
    | none => false
  let s1 := if newer && !x.marked then s.mediaViolation (s.fPort i) 0x05 7 i else s
  if x.ts.isNone || newer then s1.setFst i { s1.fst i with ts := some p.ts, marked := p.mark }
  else if x.ts = some p.ts ∧ p.mark = true then s1.setFst i { s1.fst i with marked := true } else s1

/-- A packet met its timing rules: the entry's and the flow's last reception. -/
def State.flowAccept (s : State) (i : Nat) : State :=
  let s1 := s.setFst i { s.fst i with lastRx := some s.clk }
  s1.setFb i { s1.fb i with lastRx := s.clk }

/-- The merge of a protected flow (R371): a copy of a number used in the last 10 ms is discarded and counted; none: it is. -/
def State.flowMerge (s : State) (i seq : Nat) : Option State :=
  if (s.fTwin i).isNone then some s
  else
    let b := s.fb i
    let seen := b.seen.filter fun e => decide (s.clk ≤ e.2 + 10 * msClk)
    if seen.any fun e => e.1 = seq then none else some (s.setFb i { b with seen := (seq, s.clk) :: seen })

/-- Count a discarded copy. -/
def State.flowDup (s : State) (i : Nat) : State := s.fLow i 19 1

/-- A VIDEO packet (R356, R357, R371). -/
def State.rxVideo (s : State) (i : Nat) (p : Rtp) : State :=
  match srdsOf (s.fStruct i) (s.fSampling i) p.body with
  | .inl code => s.mediaViolation (s.fPort i) code 1 i
  | .inr (hi, f2, segs) =>
    let seq := p.seq + 65536 * hi
    let s1 := (s.flowSeq i seq 32).flowFrameEnd i p
    let r := s.fRaster i
    let st := s.fStruct i
    let f := s.packetFrame r p.ts f2
    let x := s.egressIn r st f (storeLine st (segs.headD ⟨0, 0, 0, []⟩).row)
    if !s.enabled r || decide (f < 0) || tooLate x then s1.fLate i
    else if (60 * s.strandLine r st : Nat) < x.1 then s1.fEarly i
    else
      let s2 := s1.flowAccept i
      match s2.flowMerge i seq with
      | none => s2.flowDup i
      | some s3 =>
        let put := fun (t : Tab (List (Nat × List Nat))) (g : Srd) =>
          tins t (f.toNat * 8192 + g.row) ((g.px, g.comps) :: tget t (f.toNat * 8192 + g.row) [])
        s3.setFb i { s3.fb i with lines := segs.foldl put (s3.fb i).lines }

/-- Bytes of a sample in a packet: AES3 subframe, L16, L24. -/
def State.sampleBytes (s : State) (i : Nat) : Nat := if s.fType i = 3 then 4 else if s.fL16 i then 2 else 3

/-- Sample `m` of channel `c` of an audio payload, as the crosspoint's code: an AES3 subframe keeps its V, U and C bits. -/
def State.sampleAt (s : State) (i : Nat) (bs : List Nat) (m c : Nat) : Nat :=
  let z := s.sampleBytes i
  let x := beAt bs ((m * s.fCount i + c) * z) z
  if z = 4 then x % 2 ^ 27 else if z = 2 then x * 256 else x

/-- The channel number and boundary on which the sample of media-clock index `n` of flow channel `c` is presented (R286, R364);
a date between boundaries is met at the next one (log 23). -/
def State.sampleDate (s : State) (i c : Nat) (n : Int) : Nat × Int :=
  let off : Int := ceilDiv (s.fPlayout i * 48) 1000
  if s.f96 i then (s.fFirstCh i + 2 * c + (n % 2).toNat, n / 2 + off) else (s.fFirstCh i + c, n + off)

/-- An AUDIO or AES3 packet (R364, R365, R371). -/
def State.rxAudio (s : State) (i : Nat) (p : Rtp) : State :=
  let unit := s.fCount i * s.sampleBytes i
  if p.body.length % unit ≠ 0 then s.mediaViolation (s.fPort i) 0x03 1 i
  else
    let n := p.body.length / unit
    let inOrder := match (s.fst i).next with
      | none => true
      | some x => decide ((p.seq + 65536 - x) % 65536 < 32768)
    let s1 := s.flowSeq i p.seq 16
    let chans := List.range (s.fCount i)
    if s.fAsync i then
      let s2 := s1.flowAccept i
      match s2.flowMerge i p.seq with
      | none => s2.flowDup i
      | some s3 =>
        let col := fun (c par : Nat) => ((List.range n).filter fun m => !s.f96 i || m % 2 = par).map fun m => s.sampleAt i p.body m c
        if !inOrder then s3
        else if s.f96 i then forEach chans (fun c s' => (s'.fifoPush (s.fFirstCh i + 2 * c) (col c 0)).fifoPush (s.fFirstCh i + 2 * c + 1) (col c 1)) s3
        else forEach chans (fun c s' => s'.fifoPush (s.fFirstCh i + c) (col c 0)) s3
    else
      let t0 := s.unwrapTs (if s.f96 i then 96000 else 48000) p.ts
      let cap : Int := ceilDiv ((s.fPlayout i + (if s.fPtime i then 125 else 1000) + 1000) * 48) 1000
      let late := fun (b : Int) => decide (b * secUnits < (s.house * 48000 : Nat))
      let first := (s.sampleDate i 0 t0).2
      let last := (s.sampleDate i 0 (t0 + n - 1)).2
      if decide (0 < n) && decide ((s.boundaryNow 48000 : Int) + cap < last) then s1.fEarly i
      else
        let s2 := if decide (0 < n) && late first then s1.fLate i else s1
        if decide (0 < n) && late last then s2
        else
          let s3 := s2.flowAccept i
          match s3.flowMerge i p.seq with
          | none => s3.flowDup i
          | some s4 =>
            let put := fun (m c : Nat) (s' : State) =>
              let k := s.sampleDate i c (t0 + m)
              if late k.2 then s'
              else
                let l := tget s'.aud.due k.1 [] ++ [(k.2.toNat, s.sampleAt i p.body m c)]
                { s' with aud := { s'.aud with due := tins s'.aud.due k.1 l } }
            forEach (List.range n) (fun m s' => forEach chans (fun c s' => put m c s') s') s4

/-- Bits `off … off+n-1` of a byte string, first bit first. -/
def beBits (bs : List Nat) (off n : Nat) : Nat :=
  (List.range n).foldl (fun a k => 2 * a + b2n (bit (bs.getD ((off + k) / 8) 0) (7 - (off + k) % 8))) 0

/-- Even parity of a ten-bit ancillary word: bit 8 over bits 7-0, bit 9 its inverse. -/
def ancParity (w : Nat) : Bool :=
  let odd := decide ((bitList w 8).length % 2 = 1)
  (bit w 8 == odd) && (bit w 9 != bit w 8)

/-- One ancillary packet of an RFC 8331 payload at bit `off`: its line and horizontal offset, its data stream (with S clear: the first,
or the chroma under C), its DID and SDID, its bits in whole 32-bit words, whether checksum and parity hold, and its words; none: it
runs beyond the payload. -/
structure AncPkt where
  line : Nat
  hoff : Nat
  stream : Nat
  did : Nat
  sdid : Nat
  size : Nat
  good : Bool
  words : List Nat
def ancAt (bs : List Nat) (off : Nat) : Option AncPkt :=
  let word := fun k => beBits bs (off + 32 + 10 * k) 10
  let dc := word 2 % 256
  let size := (32 + 10 * (4 + dc) + 31) / 32 * 32
  if 8 * bs.length < off + 62 ∨ 8 * bs.length < off + size then none
  else
    let sum := ((List.range (3 + dc)).map fun k => word k % 512).foldl (· + ·) 0 % 512
    let cs := word (3 + dc)
    some ⟨beBits bs (off + 1) 11, beBits bs (off + 12) 12, if beBits bs (off + 24) 1 = 1 then beBits bs (off + 25) 7 else beBits bs off 1,
      word 0 % 256, word 1 % 256, size,
      decide (cs % 512 = sum) && (bit cs 9 != bit cs 8) && ancParity (word 0) && ancParity (word 1) && ancParity (word 2),
      (List.range (4 + dc)).map word⟩

/-- An ST 299 audio packet or an ST 352 packet (R367). -/
def ancRefused (did sdid : Nat) : Bool :=
  decide ((0xE0 ≤ did ∧ did ≤ 0xE7) ∨ (0xA0 ≤ did ∧ did ≤ 0xA7) ∨ (did = 0x41 ∧ sdid = 0x01))

/-- Words in horizontal blanking and in vertical ancillary space that the packets of a line fill in one data stream. -/
def ancFilled (l : List (Nat × List Nat)) (place : Nat) : Nat :=
  ((l.filter fun e => e.1 = place).map fun e => e.2.length + 3).foldl (· + ·) 0

/-- Where VIDEO entry `v` places a packet of frame `f` (R367): its line, or, where Line_Number or the offset is left open, the first line
after the switch line that has space; and in horizontal blanking or not. RFC 8331 leaves a line open from 0x7FD and an offset from
0xFFC; 0xFFE stands for anywhere in horizontal blanking (PRESUMED, log 21). -/
def State.ancPlace (s : State) (v f : Nat) (a : AncPkt) : Nat × Bool :=
  let st := s.fStruct v
  let cls := classOf st (s.fRate v)
  let q := signalStruct cls st
  let n := chanActive q
  let hanc := decide (a.hoff = 0xFFE ∨ (n ≤ a.hoff ∧ a.hoff < 0xFFC))
  let sw := s.rd F.SLATE_RASTER_STATUS_SWLINE_EFF (s.fRaster v)
  let first := (if st = 6 then (sw + 1) / 2 else sw) + 1
  let room := fun (l : Nat) =>
    vBit q l && decide (ancFilled (tget (s.fb v).anc (f * 8192 + l) []) (2 * a.stream) + a.words.length + 3 ≤ n)
  if 0x7FD ≤ a.line ∨ 0xFFC ≤ a.hoff then
    (((List.range (totalLines q)).map (· + first)).find? room |>.getD (totalLines q + 1), false)
  else (a.line, hanc)

/-- Put a packet in its place of frame `f` of VIDEO entry `v`. -/
def State.ancPut (s : State) (v f : Nat) (p : Nat × Bool) (a : AncPkt) : State :=
  let b := s.fb v
  s.setFb v { b with anc := tins b.anc (f * 8192 + p.1) (tget b.anc (f * 8192 + p.1) [] ++ [(2 * a.stream + b2n p.2, a.words)]) }

/-- The ancillary packets of a -40 payload for VIDEO entry `v`, `n` left from bit `off` (R367): a bad one is dropped and logged; one of
ST 299 or ST 352 is dropped, and whether LATE counts it is open (log 22); one too close to its line's egress instant counts in LATE;
the others take their places. DESIGN CHOICE (log 148): one whose line the structure does not have is dropped. -/
def State.rxAncList (s : State) (i v : Nat) (f : Int) (bs : List Nat) (n off : Nat) : State :=
  match n with
  | 0 => s
  | n + 1 =>
    match ancAt bs off with
    | none => s.mediaViolation (s.fPort i) 0x04 1 i
    | some a =>
      let st := s.fStruct v
      let p := s.ancPlace v f.toNat a
      let inside := decide (1 ≤ p.1 ∧ p.1 ≤ totalLines (signalStruct (classOf st (s.fRate v)) st) ∧ 0 ≤ f)
      let s1 :=
        if !a.good then s.mediaViolation (s.fPort i) 0x04 1 i
        else if ancRefused a.did a.sdid then (s.draw.1).fLow i 18 (s.draw.2 % 2)
        else if !inside then s
        else if tooLate (s.egressIn (s.fRaster v) st f p.1) then s.fLate i
        else s.ancPut v f.toNat p a
      rxAncList s1 i v f bs n (off + a.size)

/-- An ANC packet (R367). -/
def State.rxAnc (s : State) (i : Nat) (p : Rtp) : State :=
  if p.body.length < 8 then s.mediaViolation (s.fPort i) 0x01 1 i
  else
    let s1 := (s.flowSeq i (p.seq + 65536 * beAt p.body 0 2) 32).flowFrameEnd i p
    let s2 := s1.flowAccept i
    match s2.flowMerge i (p.seq + 65536 * beAt p.body 0 2) with
    | none => s2.flowDup i
    | some s3 =>
      match s.flowOfSlot (s.fSlot i) 0 with
      | some v => s3.rxAncList i v (s.packetFrame (s.fRaster v) p.ts (beAt p.body 5 1 / 64 = 3)) p.body (beAt p.body 4 1) 64
      | none => s3

/-- One opaque send strand hears a packet of source slot `x` (R370). -/
def State.opaqueHear (x : Nat) (pkt : List Nat) (mark : Bool) (d : Nat) (s : State) : State :=
  let o := tget s.opaques d {}
  let put := fun (o : Opaque) => { s with opaques := tput s.opaques d o {} }
  if o.src = some x then
    if o.nxt.isSome && o.oldMark then s
    else put { o with fifo := o.fifo ++ [(s.clk, pkt)], oldMark := o.nxt.isSome && mark }
  else if o.nxt = some x then put { o with newMark := mark }
  else s

/-- An OPAQUE packet (R369-R371); a receive strand is valid again from a frame's last packet (log 25). -/
def State.rxOpaque (s : State) (i : Nat) (p : Rtp) (pkt : List Nat) : State :=
  let s1 := ((s.flowSeq i p.seq 16).flowFrameEnd i p).flowAccept i
  match s1.flowMerge i p.seq with
  | none => s1.flowDup i
  | some s2 =>
    let s3 := if p.mark then s2.setFb i { s2.fb i with lost := false } else s2
    forEach (s3.opaques.map (·.1)) (fun d s => s.opaqueHear (s.fSlot i) pkt p.mark d) s3

/-- Open a sealed payload with the entry's key (R495); none: it fails. -/
def State.flowOpen (s : State) (i : Nat) (bs : List Nat) : Option (List Nat) :=
  let k := s.fSealSlot i
  if bs.length < 32 ∨ bs.getD 0 0 ≠ 1 ∨ bs.getD 1 0 ≠ s.rd F.KEYS_SLOT_ATTR_KEY_ID k ∨ s.slotUsable k Use.opens = false then none
  else Config.gcmOpen (tget s.keys.slots k []) (sub bs 4 12) (sub bs 0 16) (bs.drop 16)

/-- A packet that does not open, or comes unsealed (R373). -/
def State.sealFail (s : State) (i : Nat) : State :=
  ((s.fHigh i 19 1).event F.MEDIA_EVENT_SEAL_FAIL 0 Irq.media).mediaViolation (s.fPort i) 0x06 1 i

/-- Handle a datagram that matches entry `i` as its TYPE requires (R348 step 5). -/
def State.rxFlow (s : State) (i : Nat) (f : RxFrame) (d : Datagram) : State :=
  let s1 := s.fCountUp i 16 1
  if s.fType i = 0 then s1.toHost f i
  else if s.fType i = 6 then s1
  else
    match (if s.fSeal i then s.flowOpen i d.payload else some d.payload) with
    | none => s1.sealFail i
    | some bs =>
      match rtpOf bs with
      | none => s1.mediaViolation (s.fPort i) 0x01 1 i
      | some p =>
        if bit (s.fw i 11) 15 && decide (p.pt ≠ bits (s.fw i 11) 8 7) then s1
        else if s.fType i = 1 then s1.rxVideo i p
        else if s.fAudio i then s1.rxAudio i p
        else if s.fType i = 4 then s1.rxAnc i p
        else s1.rxOpaque i p bs

/-- The entry that applies to a datagram (R351): with SRC_EN before without. -/
def State.flowMatch (s : State) (l : Nat) (d : Datagram) : Option Nat :=
  let n := if d.ipv6 then 4 else 1
  let hit := fun (src : Bool) (i : Nat) =>
    s.fValid i && s.fDir i = 0 && s.fPort i = l && (s.fIpv6 i == d.ipv6) && s.fAddr i 2 = d.dst.take n
      && bits (s.fw i 1) 0 16 = d.dport && (s.fsrcEn i == src) && (!src || s.fAddr i 6 = d.src.take n)
  match s.flowIdx.find? (hit true) with
  | some i => some i
  | none => s.flowIdx.find? (hit false)

/-- Rate of a logical port in tenths of Gb/s, and a pause of `q` quanta in CORE clocks (R374). -/
def State.pauseClocks (s : State) (l q : Nat) : Nat :=
  let v := s.portSpeed l
  ceilDiv (q * 512 * 10 * 125) ((if v = 2 then 25 else 10 * v) * 100)

/-- A received PAUSE (R374). -/
def State.rxPause (s : State) (l q : Nat) : State :=
  let s1 := s.lcnt l F.MEDIA_LPORT_CNT_PAUSE_RX F.MGT_CNT_PAUSE_RX
  if s.lrd l F.MEDIA_LPORT_CFG_PAUSE_OBEY F.MGT_CFG_PAUSE_OBEY = 0 then s1
  else
    { s1.lwr l F.MEDIA_LPORT_STATUS_PAUSED F.MGT_STATUS_PAUSED (b2n (decide (q ≠ 0))) with
      pauseUntil := tput s.pauseUntil l (if q = 0 then 0 else s.clk + s.pauseClocks l q) 0 }

/-- An enabled perfect-match address of logical port `l` (R347, R348). -/
def State.macHit (s : State) (l dst : Nat) : Bool :=
  if l < 32 then
    (List.range 8).any fun k => s.on F.MEDIA_MAC_EN (l * 8 + k) && s.rd64 F.MEDIA_MAC_LO F.MEDIA_MAC_HI (l * 8 + k) = dst
  else (List.range 16).any fun k => s.on F.MGT_MAC_EN k && s.rd64 F.MGT_MAC_LO F.MGT_MAC_HI k = dst

/-- Step 6 of R348. -/
def State.rxRest (s : State) (f : RxFrame) : State :=
  let l := f.port
  let bcast := decide (f.dst = 2 ^ 48 - 1)
  let mcast := bit f.dst 0
  let en := decide (l = 32) || s.on F.MEDIA_LPORT_CFG_HOSTQ_EN l
  if en && (bcast || !mcast || decide (s.lrd l F.MEDIA_LPORT_CFG_HOST_MCAST F.MGT_CFG_HOST_MCAST ≠ 0)) then s.toHost f 0xFFFF
  else s.lcnt l F.MEDIA_LPORT_CNT_NOMATCH_FLOW F.MGT_CNT_NOMATCH_FLOW

/-- The steps of R348 on a frame of an enabled port. -/
def State.rxFrame (s : State) (f : RxFrame) : State :=
  let l := f.port
  let s0 := s.rxCount l f.len
  let max := s.lrd l F.MEDIA_LPORT_CFG_MAXLEN F.MGT_CFG_MAXLEN + (if f.tags = 0 then 0 else 4)
  if !f.fcsOk then s0.lcnt l F.MEDIA_LPORT_CNT_FCS_ERR F.MGT_CNT_FCS_ERR
  else if f.len < 64 ∨ max < f.len then s0.lcnt l F.MEDIA_LPORT_CNT_LEN_ERR F.MGT_CNT_LEN_ERR
  else if f.control then
    match f.pause with
    | some q => s0.rxPause l q
    | none => s0.lcnt l F.MEDIA_LPORT_CNT_CTRL_DROP F.MGT_CNT_CTRL_DROP
  else if !bit f.dst 0 && !s.macHit l f.dst then s0.lcnt l F.MEDIA_LPORT_CNT_NOMATCH_MAC F.MGT_CNT_NOMATCH_MAC
  else if 2 ≤ f.tags then s0.rxRest f
  else
    match f.udp with
    | none => s0.rxRest f
    | some d =>
      if !d.csumOk then s0.lcnt l F.MEDIA_LPORT_CNT_CSUM_ERR F.MGT_CNT_CSUM_ERR
      else
        match s.flowMatch l d with
        | some i => s0.rxFlow i f d
        | none => s0.rxRest f

/-- MEDIA_FRAME_RX: a frame at an enabled logical port. -/
def execMediaFrameRx (f : RxFrame) (s : State) : Host.Outcome State Fault Refusal :=
  ok (if s.lportOn f.port then s.rxFrame f else s)

/-- PAUSE_EXPIRE: the pause time of a logical port has passed (R374). -/
def execPauseExpire (l : Fin 33) (s : State) : Host.Outcome State Fault Refusal :=
  ok (if s.lrd l.val F.MEDIA_LPORT_STATUS_PAUSED F.MGT_STATUS_PAUSED ≠ 0 ∧ tget s.pauseUntil l.val 0 ≤ s.clk then
    { s.lwr l.val F.MEDIA_LPORT_STATUS_PAUSED F.MGT_STATUS_PAUSED 0 with pauseUntil := tput s.pauseUntil l.val 0 0 }
  else s)

/-! ### Receive strands (R358, R359) -/

/-- Show every destination that reads slots `lo …`. -/
def State.showSlots (s : State) (lo n : Nat) : State :=
  s.showSrc lo n

/-- Picture lines that strand line `l` of a structure carries. -/
def strandRows (st l : Nat) : List Nat :=
  let rows := (picture st).2
  if st = 6 then (if 42 ≤ l ∧ l ≤ 1121 then [2 * (l - 42), 2 * (l - 42) + 1] else [])
  else (List.range rows).filter fun y => pictureLine st y = l

/-- Strand lines that carry active picture in a frame. -/
def activeLines (st : Nat) : Nat := if st = 6 then 1080 else (picture st).2

/-- A frame of a receive group begins on its egress timeline (R359). -/
def State.bindFrame (s : State) (i : Nat) (f : Nat) : State :=
  let b := s.fb i
  let whole := decide (b.good = activeLines (s.fStruct i)) && decide (b.judged.1 + 1 = f)
  (s.setFb i { b with judged := (f, 1), good := 0, bad := false, lost := b.lost && !whole
                      lines := b.lines.filter fun e => decide (f ≤ e.1 / 8192)
                      anc := b.anc.filter fun e => decide (f ≤ e.1 / 8192) }).showSlots (s.fSlot i) (s.fWidth i)

/-- Component `j` of picture line `y` of frame `f` as packets brought it. -/
def FlowBind.comp (b : FlowBind) (per f y j : Nat) : Option Nat :=
  ((tget b.lines (f * 8192 + y) []).find? fun e => decide (per * e.1 ≤ j ∧ j < per * e.1 + e.2.length)).bind fun e => e.2[j - per * e.1]?

/-- Every word of picture line `y` of frame `f` has arrived. -/
def FlowBind.whole (b : FlowBind) (per n f y : Nat) : Bool :=
  let segs := (tget b.lines (f * 8192 + y) []).map fun e => (e.1, e.2.length / per)
  covered segs n segs.length 0

/-- The words of a line (R355, R358), `k` a drawn number: a single strand with missing words repeats its last complete line; the
words of a group's line that are missing, and of a strand before its first complete line, are open (free values, log 148). -/
def FlowBind.pixel (b : FlowBind) (per k f : Nat) (repeats : Bool) (y j : Nat) : Nat :=
  (if repeats then b.last[j]? else b.comp per f y j).getD (Config.noPixel k y j % 4096)

/-- The member strands of receive entry `i` put out line `l` of frame `f` into their line buffers of 10,560 words (R111, R355): structure
generated, the picture, and the packets of a bound ANC flow. -/
def State.ipPut (s : State) (i f l : Nat) (repeats : Bool) : State :=
  let st := s.fStruct i
  let rt := s.fRate i
  let w := s.fw i 15
  let b := s.fb i
  let k := s.draw.2
  let anc := fun (x : Nat) (v : Bool) =>
    ((tget b.anc (f * 8192 + l) []).filter fun e => decide (e.1 = 2 * x + b2n (!v))).flatMap fun e => [0, 0x3FF, 0x3FF] ++ e.2
  forEach (List.range (s.fWidth i)) (fun m s =>
    let ws := ipWords st rt (s.fSampling i) (bits w 0 2) (bit w 2) m l (b.pixel (perPixel (s.fSampling i)) k f repeats) anc
    s.pushLine (s.fSlot i + m) (10560 / Nat.max 1 ws.length) { line := l, words := ws, at' := s.clk }) s.draw.1

/-- The destinations that read source slot `x` alone count a slip (R358, R137). -/
def State.ipSlip (s : State) (x : Nat) : State :=
  let ds := (s.routes.filter fun e => decide (e.1 < 6336) && e.2.src = x).map (·.1)
  let s1 := forEach ds (fun d s => s.incSat F.XPT_DEST_STATUS_SLIP_CNT d) s
  if ds.isEmpty then s1 else s1.event F.XPT_EVENT_SLIP 0 Irq.xpt

/-- Strand line `l` of frame `f` at its egress instant (R358). -/
def State.bindLine (s : State) (i f l : Nat) : State :=
  let st := s.fStruct i
  let b := s.fb i
  let per := perPixel (s.fSampling i)
  let n := (picture st).1
  let rows := strandRows st l
  if rows.isEmpty then (s.setFb i { b with judged := (f, l) }).ipPut i f l false
  else if rows.all fun y => b.whole per n f y then
    let last := if s.fWidth i = 1 then (List.range (per * n)).map fun j => (b.comp per f (rows.headD 0) j).getD 0 else []
    (s.setFb i { b with judged := (f, l), good := b.good + 1, last := last }).ipPut i f l false
  else
    let s1 := s.fUnderrun i
    let s2 := match s.fTwin i with
      | some j => s1.fUnderrun j
      | none => s1
    if s.fWidth i = 1 then ((s2.setFb i { b with judged := (f, l) }).ipPut i f l true).ipSlip (s.fSlot i)
    else ((s2.setFb i { b with judged := (f, l), bad := true }).ipPut i f l false).showSlots (s.fSlot i) (s.fWidth i)

/-- IP_LINE_EGRESS: the line of the egress timeline that begins now, for the receive VIDEO entry `i`. -/
def execIpLineEgress (i : Fin 65536) (s : State) : Host.Outcome State Fault Refusal :=
  let k := i.val
  let r := s.fRaster k
  let e := s.egress r
  let l := if s.fStruct k = 6 then (e.line + 1) / 2 else e.line
  ok (if s.fValid k && s.fDir k = 0 && s.fType k = 1 && s.enabled r && decide (e.sample = 0 ∧ ipRasterLine (s.fStruct k) l = e.line)
      && decide ((s.fb k).judged ≠ (e.frame, l)) then
    ((if l = 1 then s.bindFrame k e.frame else s).bindLine k e.frame l)
  else s)

/-- IP_FLOW_TIMEOUT: no packet of the flow accepted for one frame period (R359). -/
def execIpFlowTimeout (i : Fin 65536) (s : State) : Host.Outcome State Fault Refusal :=
  let k := i.val
  let p := rateClocks (s.fRate k)
  let b := s.fb k
  ok (if s.fValid k && s.fDir k = 0 && (s.fType k = 1 || s.fType k = 5) && decide (b.lastRx * p.2 + p.1 ≤ s.clk * p.2) then
    (s.setFb k { b with lost := true }).showSlots (s.fSlot k) (s.fWidth k)
  else s)

/-! ### Sending (R360-R362, R366, R368, R370, R374) -/

/-- The device transmits entry `i` (R362): BOTH, or OWN, or no twin. -/
def State.sends (s : State) (i : Nat) : Bool :=
  bit (s.fw i 11) 7 || s.on F.TOP_DEV_MODE_OWN 0 || s.mode = Mode.standalone || (s.mode = Mode.safe && s.twin.solo)

/-- The `n` bytes of a number, most significant first. -/
def beBytes (n v : Nat) : List Nat := (List.range n).map fun k => v / 256 ^ (n - 1 - k) % 256

/-- The Internet checksum of bytes. -/
def inetSum (bs : List Nat) : Nat :=
  let t := ((List.range ((bs.length + 1) / 2)).map fun k => bs.getD (2 * k) 0 * 256 + bs.getD (2 * k + 1) 0).foldl (· + ·) 0
  let u := t % 65536 + t / 65536
  65535 - (u % 65536 + u / 65536)

/-- The bytes of an address field, from word `w` of entry `i` (R350). -/
def State.fAddrBytes (s : State) (i w : Nat) : List Nat := (s.fAddr i w).flatMap leBytes

/-- The UDP payload of an RTP packet of entry `i`: the packet, or its envelope with number `pkt` (R373, R494). -/
def State.sealUp (s : State) (i pkt : Nat) (rtp : List Nat) : List Nat :=
  if s.fSeal i then
    let k := s.fSealSlot i
    let h := [1, s.rd F.KEYS_SLOT_ATTR_KEY_ID k, 0, 0] ++ beBytes 4 (s.fw i 15) ++ beBytes 8 pkt
    h ++ Config.gcmSeal (tget s.keys.slots k []) (h.drop 4) h rtp
  else rtp

/-- The frame, without its FCS, in which entry `i` sends a UDP payload (R361, R370): addresses, DSCP, TTL and ports from the entry, the
source address perfect-match address 0 of the port, DF and identification 0 over IPv4, a UDP checksum over IPv6 alone. PRESUMED
(log 21): the headers as their standards lay them out. -/
def State.udpFrame (s : State) (i : Nat) (body : List Nat) : List Nat :=
  let l := s.fPort i
  let mac := fun (v : Nat) => (List.range 6).map fun k => v / 256 ^ k % 256
  let src := if l < 32 then s.rd64 F.MEDIA_MAC_LO F.MEDIA_MAC_HI (l * 8) else s.rd64 F.MGT_MAC_LO F.MGT_MAC_HI 0
  let w13 := s.fw i 13
  let w14 := s.fw i 14
  let tag := if bit w13 28 then [0x81, 0] ++ beBytes 2 (bits w13 29 3 * 8192 + bits w13 16 12) else []
  let n := body.length + 8
  let udp := fun (c : Nat) => beBytes 2 (bits (s.fw i 1) 16 16) ++ beBytes 2 (bits (s.fw i 1) 0 16) ++ beBytes 2 n ++ beBytes 2 c ++ body
  let sa := s.fAddrBytes i 6
  let da := s.fAddrBytes i 2
  let ip := if s.fIpv6 i then
      let tc := bits w14 0 6 * 4
      let c := inetSum (sa ++ da ++ beBytes 4 n ++ [0, 0, 0, 17] ++ udp 0)
      [0x86, 0xDD, 0x60 + tc / 16, tc % 16 * 16, 0, 0] ++ beBytes 2 n ++ [17, bits w14 8 8] ++ sa ++ da ++ udp (if c = 0 then 65535 else c)
    else
      let h := fun (c : Nat) => [0x45, bits w14 0 6 * 4] ++ beBytes 2 (20 + n) ++ [0, 0, 0x40, 0, bits w14 8 8, 17] ++ beBytes 2 c ++ sa ++ da
      [0x08, 0] ++ h (inetSum (h 0)) ++ udp 0
  let f := mac (s.fw i 12 + 2 ^ 32 * (w13 % 65536)) ++ mac src ++ tag ++ ip
  f ++ List.replicate (60 - f.length) 0

/-- An RTP packet (R361): payload type and SSRC of entry `i`. -/
def State.rtpBytes (s : State) (i : Nat) (mark : Bool) (seq ts : Nat) (body : List Nat) : List Nat :=
  [0x80, bits (s.fw i 11) 8 7 + 128 * b2n mark] ++ beBytes 2 seq ++ beBytes 4 ts ++ beBytes 4 (s.fw i 15) ++ body

/-- A frame leaves logical port `l`: counted with its FCS, and seen on the wire. -/
def State.wireOut (s : State) (l : Nat) (f : List Nat) : State := { s.txCount l (f.length + 4) with sent := tput s.sent l f [] }

/-- An essence packet at its scheduled instant: sent, or, on a paused port, dropped (R374); built and discarded by a device
that does not transmit (R362). A seal's key that is not usable stops the packet too (R487). `pkt` numbers its envelope (R494). -/
def State.sendPacket (s : State) (i pkt : Nat) (rtp : List Nat) : State :=
  let l := s.fPort i
  if !s.sends i then s
  else if s.fSeal i && !s.slotUsable (s.fSealSlot i) Use.seal then s.sealFail i
  else if s.lrd l F.MEDIA_LPORT_STATUS_PAUSED F.MGT_STATUS_PAUSED ≠ 0 then
    ((s.lcnt l F.MEDIA_LPORT_CNT_TX_LATE F.MGT_CNT_TX_LATE).event F.MEDIA_EVENT_TX_LATE 0 Irq.media).fLate i
  else (s.fCountUp i 16 1).wireOut l (s.udpFrame i (s.sealUp i pkt rtp))

/-- A send strand group carries fill (R362). -/
def State.sendFill (s : State) (i : Nat) : Bool := s.carries (s.fSlot i) = .fill

/-- First active strand line of a field. -/
def firstActive (st : Nat) (f2 : Bool) : Nat := storeLine st (b2n f2)

/-- CORE clocks since the start of frame `f` of raster `r` on the house timeline, as a numerator over `phaseStep`. -/
def State.sinceFrame (s : State) (r f : Nat) : Int := -(s.clocksTo r f 1).1

/-- The scheduled instant of packet `k` of `npk` after its frame's start (R360), in the same units times `npk`; the packets of
field 2 follow its first active line (log 26). -/
def State.txDue (s : State) (i npk k : Nat) : Int :=
  let r := s.fRaster i
  let st := s.fStruct i
  let f2 := interlaced st && decide (npk ≤ 2 * k)
  let half := if f2 then npk / 2 else 0
  (((firstActive st f2 * s.strandLine r st + 1250 * s.phaseStep r) * npk
    + (k - half) * s.frameSamples r * s.phaseFull r : Nat) : Int)

/-! ### The packets of a send group (R360, R361) -/

/-- Bytes of an RTP packet of entry `i` at most (R360): the UDP size limit of ST 2110-10 without the UDP header (PRESUMED, log 21), less
the envelope. -/
def State.rtpRoom (s : State) (i : Nat) : Nat :=
  (if bit (s.fw i 14) 16 then 8960 else 1460) - 8 - (if s.fSeal i then 32 else 0)

/-- At most `n` segments in `room` bytes from pixel `px` of row `row` on, whole pgroups, on lines of `w` pixels: the segments, and where
the next packet goes on. -/
def fillSrds (samp w rows n room row px : Nat) : List Srd × Nat × Nat :=
  match n with
  | 0 => ([], row, px)
  | n + 1 =>
    let pg := pgroup samp
    let k := Nat.min ((room - 6) / pg.1) ((w - px) / pg.2)
    if rows ≤ row ∨ k = 0 then ([], row, px)
    else
      let px' := px + k * pg.2
      let r := if w ≤ px' then fillSrds samp w rows n (room - 6 - k * pg.1) (row + 1) 0
        else fillSrds samp w rows n (room - 6 - k * pg.1) row px'
      (⟨row, px, k * pg.2, []⟩ :: r.1, r.2)

/-- Where packet `k` of a frame or field begins, and how many there are. -/
def packetStart (samp w rows room k row px : Nat) : Nat × Nat :=
  match k with
  | 0 => (row, px)
  | k + 1 => let r := fillSrds samp w rows 3 room row px; packetStart samp w rows room k r.2.1 r.2.2
def packetCount (samp w rows room fuel row px : Nat) : Nat :=
  match fuel with
  | 0 => 0
  | n + 1 => if rows ≤ row then 0 else let r := fillSrds samp w rows 3 room row px; packetCount samp w rows room n r.2.1 r.2.2 + 1

/-- Picture lines of a frame or field of entry `i`, and NPACKETS of its frame (R360). -/
def State.fieldRows (s : State) (i : Nat) : Nat := (picture (s.fStruct i)).2 / (if interlaced (s.fStruct i) then 2 else 1)
def State.npackets (s : State) (i : Nat) : Nat :=
  let w := (picture (s.fStruct i)).1
  let rows := s.fieldRows i
  packetCount (s.fSampling i) w rows (s.rtpRoom i - 14) (rows * w) 0 0 * (if interlaced (s.fStruct i) then 2 else 1)

/-- Two-sample interleave of two sub-images' lines (R95). -/
def weave (a b : List Nat) : List Nat :=
  match a, b with
  | a0 :: a1 :: a, b0 :: b1 :: b => a0 :: a1 :: b0 :: b1 :: weave a b
  | _, _ => []

/-- The words of channel `c` of member `m` of send entry `i`, on the line that carries picture line `y` of frame `f`. -/
def State.sendChan (s : State) (i f m c y : Nat) : Option (List Nat) :=
  let st := s.fStruct i
  let lay := layOf (classOf st (s.fRate i))
  ((tget s.sendLines (s.fSlot i + m) []).find? fun e => e.1 = f && e.2.line = storeLine st y).map fun e =>
    ((lay.chans e.2.words).getD c []).take (chanActive (signalStruct (classOf st (s.fRate i)) st))

/-- The components of picture line `y` of frame `f` in the order of a packet, as the group's destination words had them (R354, R360);
words that the send buffer does not hold are open (`k` a drawn number). -/
def State.sendRow (s : State) (i f y k : Nat) : List Nat :=
  let st := s.fStruct i
  let samp := s.fSampling i
  let n := (picture st).1
  let split := fun (ws : List Nat) => ws.flatMap fun w => [w % 1024, w / 1024 % 1024]
  let pair := decide (layOf (classOf st (s.fRate i)) = .pair)
  let im := 2 * (y % 2)
  let found : Option (List Nat) :=
    if samp ≠ 0 then
      match s.sendChan i f 0 0 y, s.sendChan i f 0 1 y with
      | some a, some b =>
        some ((List.range (3 * n)).map (undualLink samp (fun j => a.getD j 0 / 1024 % 1024) (fun j => a.getD j 0 % 1024)
          (fun j => b.getD j 0 / 1024 % 1024) fun j => b.getD j 0 % 1024))
      | _, _ => none
    else if st = 6 then
      let at' := fun (im : Nat) => if pair then s.sendChan i f (im / 2) (im % 2) y else s.sendChan i f im 0 y
      match at' im, at' (im + 1) with
      | some a, some b => some (split (weave a b))
      | _, _ => none
    else (s.sendChan i f 0 0 y).map split
  found.getD ((List.range (perPixel samp * n)).map fun j => Config.noPixel k y j)

/-- RTP timestamp of frame `f` of raster `r` on the house timescale's 90 kHz clock, or of its field 2 (R361); a value that is no whole
number goes up or down by the opaque Config.roundUp. -/
def State.frameTs (s : State) (r f : Nat) (f2 : Bool) : Nat :=
  let half : Int := if f2 then s.frameSamples r * s.phaseFull r * 131072 else 0
  let x : Int := (s.house * s.phaseStep r : Nat) - s.sinceFrame r f * 262144 + half
  (quant (x * 90000) (s.phaseStep r * secUnits)).toNat % 2 ^ 32

/-- Packet `k` of the `npk` of frame `f` (R361). -/
def State.videoPacket (s : State) (i f npk k : Nat) : List Nat :=
  let samp := s.fSampling i
  let inter := interlaced (s.fStruct i)
  let per := if inter then npk / 2 else npk
  let f2 := inter && decide (per ≤ k)
  let w := (picture (s.fStruct i)).1
  let at' := packetStart samp w (s.fieldRows i) (s.rtpRoom i - 14) (k % per) 0 0
  let ss := (fillSrds samp w (s.fieldRows i) 3 (s.rtpRoom i - 14) at'.1 at'.2).1
  let pg := pgroup samp
  let last := ss.length - 1
  let heads := ss.zipIdx.flatMap fun g =>
    beBytes 2 (g.1.n / pg.2 * pg.1) ++ beBytes 2 (32768 * b2n f2 + g.1.row) ++ beBytes 2 ((if g.2 < last then 32768 else 0) + g.1.px)
  let data := ss.flatMap fun g =>
    let y := if inter then 2 * g.row + b2n f2 else g.row
    packBits (compBits samp) (((s.sendRow i f y s.draw.2).drop (perPixel samp * g.px)).take (perPixel samp * g.n))
  let seq := (f * npk + k) % 2 ^ 32
  s.rtpBytes i (decide ((k + 1) % per = 0)) (seq % 65536) (s.frameTs (s.fRaster i) f f2) (beBytes 2 (seq / 65536) ++ heads ++ data)

/-- VIDEO_PACKET_TX: packet `k` of frame `f` (R360-R362). -/
def execVideoPacketTx (i : Fin 65536) (f k : Nat) (_ _ : Unit) (s : State) : Host.Outcome State Fault Refusal :=
  let e := i.val
  let r := s.fRaster e
  let npk := s.npackets e
  let seq := (f * npk + k) % 2 ^ 32
  let ahead := match (s.fst e).next with
    | none => true
    | some x => decide ((seq + 2 ^ 32 - x) % 2 ^ 32 < 2 ^ 31)
  ok (if s.fValid e && s.fDir e = 1 && s.fType e = 1 && s.enabled r && decide (f ≤ (s.pos r).frame ∧ k < npk) && ahead
      && decide (s.txDue e npk k ≤ s.sinceFrame r f * npk) && !s.sendFill e then
    (s.draw.1.setFst e { s.fst e with next := some ((seq + 1) % 2 ^ 32) }).sendPacket e
      (f * 65536 + (if interlaced (s.fStruct e) then k % (npk / 2) else k)) (s.videoPacket e f npk k)
  else s)

/-- The sample that destination channel `d` had at boundary `b`, AES3 bits above it; a channel that nothing is routed to carries 0. -/
def State.sentSample (s : State) (d b : Nat) : Nat :=
  (((tget s.aud.emb d []).find? fun e => e.1 = b).map (·.2)).getD (2 ^ 24 * aesGen (decide (s.dstRate d = 1)) b)

/-- The payload of the samples of the `per` boundaries from `b` on (R366): L24, or AES3 subframes with their bits. -/
def State.audioPayload (s : State) (i b per : Nat) : List Nat :=
  let one := fun (m c : Nat) => if s.f96 i then s.sentSample (s.fFirstCh i + 2 * c + m % 2) (b + m / 2) else s.sentSample (s.fFirstCh i + c) (b + m)
  (List.range (if s.f96 i then 2 * per else per)).flatMap fun m => (List.range (s.fCount i)).flatMap fun c =>
    if s.fType i = 3 then beBytes 4 (one m c % 2 ^ 27) else beBytes 3 (one m c % 2 ^ 24)

/-- AUDIO_PACKET_TX: the packet of the samples computed last (R366). -/
def execAudioPacketTx (i : Fin 65536) (s : State) : Host.Outcome State Fault Refusal :=
  let e := i.val
  let per := if s.fPtime e then 6 else 48
  let q := s.aud.bnd / per
  let b := (q - 1) * per
  ok (if s.fValid e && s.fDir e = 1 && s.fAudio e && decide (0 < q ∧ (s.fst e).next ≠ some q) then
    (s.setFst e { s.fst e with next := some q }).sendPacket e b
      (s.rtpBytes e false ((q - 1) % 65536) ((if s.f96 e then 2 * b else b) % 2 ^ 32) (s.audioPayload e b per))
  else s)

/-- An ancillary packet in an RFC 8331 payload, in whole 32-bit words (PRESUMED, log 21). -/
def ancBits (a : AncOut) : List Nat :=
  let n := a.words.length
  let v := a.words.foldl (fun x w => x * 1024 + w % 1024) (((a.stream % 2 * 2048 + a.line % 2048) * 4096 + a.place % 4096) * 256 + 128 + a.stream % 128)
  let len := ceilDiv (32 + 10 * n) 32 * 4
  beBytes len (v * 2 ^ (8 * len - 32 - 10 * n))

/-- The frame and field whose ancillary packets entry `i` sends next: of the oldest that waits, else the one whose last packet has yet
to carry the marker. -/
def State.ancNow (s : State) (i : Nat) : Option (Nat × Nat) :=
  match tget s.ancOut (s.fSlot i) [] with
  | a :: _ => some (a.frame, a.field)
  | [] => if (s.fst i).marked then none else some ((s.fst i).part.1, (s.fst i).part.2.1)

/-- All lines of a frame or field have left on raster `r`. -/
def State.fieldOver (s : State) (r : Nat) (p : Nat × Nat) : Bool :=
  let e := s.egress r
  decide (p.1 < e.frame) || (decide (p.2 = 2) && decide (p.1 = e.frame ∧ s.rLines r / 2 < e.line))

/-- ANC_PACKET_TX: at most `n` of the ancillary packets of the oldest frame or field that waits (R368); the last one carries the
marker. How many packets go together is open, and so is a flow's first sequence number: an operand, and a free value (log 148). -/
def execAncPacketTx (i : Fin 65536) (n : Nat) (s : State) : Host.Outcome State Fault Refusal :=
  let e := i.val
  let x := s.fst e
  let q := tget s.ancOut (s.fSlot e) []
  let r := ((s.flowOfSlot (s.fSlot e) 1).map s.fRaster).getD 0
  ok (if s.fValid e && s.fDir e = 1 && s.fType e = 4 && !s.sendFill e then
    match s.ancNow e with
    | none => s
    | some p =>
      let mine := (q.takeWhile fun a => decide ((a.frame, a.field) = p)).take n
      let rest := q.drop mine.length
      let more := rest.any fun a => decide ((a.frame, a.field) = p)
      let mark := !more && s.fieldOver r p
      let idx := if (x.part.1, x.part.2.1) = p then x.part.2.2 else 0
      let seq := x.next.getD (s.draw.2 % 2 ^ 32)
      let data := mine.flatMap ancBits
      let body := beBytes 2 (seq / 65536) ++ beBytes 2 data.length ++ [mine.length % 256, p.2 * 64, 0, 0] ++ data
      if mine.isEmpty && !mark then s
      else
        { s.draw.1.setFst e { x with next := some ((seq + 1) % 2 ^ 32), marked := mark, part := (p.1, p.2, idx + 1) } with
          ancOut := tput s.ancOut (s.fSlot e) rest [] }.sendPacket e (p.1 * 65536 + idx)
          (s.rtpBytes e mark (seq % 65536) (s.frameTs r p.1 (p.2 = 3)) body)
  else s)

/-- The VALID opaque send entries that bind slot `d`: both legs of a protected flow. -/
def State.opaqueSenders (s : State) (d : Nat) : List Nat :=
  s.flowIdx.filter fun i => s.fValid i && s.fDir i = 1 && s.fType i = 5 && s.fSlot i = d

/-- An opaque strand sends (R369): routed to a packet source, no loss policy in force. -/
def State.opaqueOpen (s : State) (d : Nat) : Bool :=
  (s.xa d).routed && !isGen (s.xa d).src && !s.on F.XPT_DEST_STATUS_SUBST d

/-- A forwarded packet with PT and SSRC of entry `i`; its sequence number, timestamp and payload pass (R370). -/
def State.reheaded (s : State) (i : Nat) (b : List Nat) : List Nat :=
  b.take 1 ++ [b.getD 1 0 / 128 * 128 + bits (s.fw i 11) 8 7] ++ (b.drop 2).take 6 ++ beBytes 4 (s.fw i 15) ++ b.drop 12

/-- OPAQUE_FORWARD: the packet of strand `d` that arrived 2 us ago (R370). -/
def execOpaqueForward (d : Fin 6336) (s : State) : Host.Outcome State Fault Refusal :=
  let o := tget s.opaques d.val {}
  ok (match o.fifo with
    | [] => s
    | p :: rest =>
      if s.clk < p.1 + 2 * usClk then s
      else
        let s1 := { s with opaques := tput s.opaques d.val { o with fifo := rest } {} }
        if s.opaqueOpen d.val then forEach (s.opaqueSenders d.val) (fun i s => s.sendPacket i 0 (s.reheaded i p.2)) s1 else s1)

/-- The opaque strand takes its new source. -/
def State.opaqueSwitch (s : State) (d : Nat) : State :=
  let o := tget s.opaques d {}
  { s with opaques := tput s.opaques d { o with src := o.nxt, nxt := none, oldMark := false, newMark := false } {} }

/-- OPAQUE_SOURCE_SWITCH: both markers have come since the switching point (R370). -/
def execOpaqueSourceSwitch (d : Fin 6336) (s : State) : Host.Outcome State Fault Refusal :=
  let o := tget s.opaques d.val {}
  ok (if o.nxt.isSome && o.oldMark && o.newMark then s.opaqueSwitch d.val else s)

/-- OPAQUE_SWITCH_TIMEOUT: two frame periods after the switching point a marker is still missing (R370). -/
def execOpaqueSwitchTimeout (d : Fin 6336) (s : State) : Host.Outcome State Fault Refusal :=
  let o := tget s.opaques d.val {}
  let es := s.opaqueSenders d.val
  let p := rateClocks (s.fRate (es.headD 0))
  ok (if o.nxt.isSome && !(o.oldMark && o.newMark) && decide (o.switchAt * p.2 + 2 * p.1 ≤ s.clk * p.2) then
    forEach es (fun i s => s.fUnderrun i) (s.opaqueSwitch d.val)
  else s)

/-! ### Configuration and links (R344-R347, R375) -/

/-- A write to MEDIA_PORT_CFG (R346): a change of SPLIT or PHY while a logical port is enabled leaves both. -/
def State.mediaPortCfg (n w : Nat) (s : State) : State :=
  let sp := bits w 0 2
  let ph := bits w 2 3
  let change := (decide (sp ≤ 2) && decide (sp ≠ s.rd F.MEDIA_PORT_CFG_SPLIT n)) ||
    (decide (ph ≤ 3) && decide (ph ≠ s.rd F.MEDIA_PORT_CFG_PHY n))
  let on := (List.range 4).map (· + 4 * n) |>.filter fun l => s.lportOn l
  if change && !on.isEmpty then
    let s1 := s.writeFields [(F.MEDIA_PORT_CFG_AN_EN, n, 5), (F.MEDIA_PORT_CFG_LT_EN, n, 6)] w
    forEach on (fun l s => s.wr F.MEDIA_LPORT_STATUS_CFG_REFUSED l 1) s1
  else s.writeWord (0x100100 + 0x20 * n) w

/-- MEDIA_PORT_CFG_WRITE. -/
def execMediaPortCfgWrite (n : Fin 8) (w : Word) (s : State) : Host.Outcome State Fault Refusal :=
  ok (s.hostWrite (0x100100 + 0x20 * n.val) w.toNat (State.mediaPortCfg n.val w.toNat))

/-- A write to MEDIA_LPORT_CFG (R346): clearing EN of a port that a VALID essence entry names leaves the fields. -/
def State.lportCfg (l w : Nat) (s : State) : State :=
  if s.on F.MEDIA_LPORT_CFG_EN l && !bit w 0 && s.lportUsed l then s.wr F.MEDIA_LPORT_STATUS_CFG_REFUSED l 1
  else s.writeWord (0x100400 + 0x10 * l) w

/-- MEDIA_LPORT_CFG_WRITE. -/
def execMediaLportCfgWrite (l : Fin 32) (w : Word) (s : State) : Host.Outcome State Fault Refusal :=
  ok (s.hostWrite (0x100400 + 0x10 * l.val) w.toNat (State.lportCfg l.val w.toNat))

/-- A write to MGT_CFG: SPEED moves only while EN is 0. -/
def State.mgtCfg (w : Nat) (s : State) : State :=
  if s.on F.MGT_CFG_EN 0 then (s.writeWord 0x120000 w).wr F.MGT_CFG_SPEED 0 (s.rd F.MGT_CFG_SPEED 0) else s.writeWord 0x120000 w

/-- MEDIA_LINK_CHANGE: a logical port gains or loses link (R346, R429). -/
def execMediaLinkChange (l : Fin 33) (up : Bool) (s : State) : Host.Outcome State Fault Refusal :=
  let k := l.val
  ok (if s.lportLink k = up ∨ s.lportExists k = false then s
  else
    let s1 := ((s.lwr k F.MEDIA_LPORT_STATUS_LINK F.MGT_STATUS_LINK (b2n up)).lwr k F.MEDIA_LPORT_STATUS_LINK_EV
      F.MGT_STATUS_LINK_EV 1).event F.MEDIA_EVENT_LINK 0 Irq.media
    let s2 := if k < 32 then s1.wr F.MEDIA_PORT_STATUS_LINK (k / 4) (withBit (s1.rd F.MEDIA_PORT_STATUS_LINK (k / 4)) (k % 4) up) else s1
    if !up && decide (k < 32) && s.lportUsed k then s2.faultEvent (lportSrc k) true else s2)

/-- LPI_ENTER: MGT has had no frame to send for LPI_IDLE us (R375). -/
def execLpiEnter (s : State) : Host.Outcome State Fault Refusal :=
  ok (if s.on F.MGT_CFG_EN 0 && s.on F.MGT_CFG_EEE_EN 0 && decide (s.rd F.MGT_CFG_SPEED 0 ≠ 1)
      && decide (s.lpiSince + s.rd F.MGT_CFG_LPI_IDLE 0 * usClk ≤ s.clk) && !s.ringReady (txRing 8) then
    s.wr F.MGT_STATUS_LPI 0 1 else s)

/-! ### Rings (R151, R377, R378, R533) -/

/-- A TAIL write: more than the ring's size ahead of HEAD, or behind it, it is ignored (R151, R533). -/
def State.ringTail (r : RingRegs) (w : Nat) (s : State) : State :=
  if s.pktSlots r < (w + 2 ^ 32 - s.rd r.head r.idx) % 2 ^ 32 then s.event F.MEDIA_EVENT_RING_ERR 0 Irq.media
  else s.wr r.tail r.idx w

/-- BAR0 offset of a TAIL register. -/
def ringTailOff (n tx : Nat) : Nat := (if n < 8 then 0x102000 + 0x40 * n else 0x120300) + 0xC + 0x20 * tx

/-- TX_RING_DOORBELL. -/
def execTxRingDoorbell (n : Fin 9) (w : Word) (s : State) : Host.Outcome State Fault Refusal :=
  ok (s.hostWrite (ringTailOff n.val 1) w.toNat (State.ringTail (txRing n.val) w.toNat))

/-- RX_RING_POST. -/
def execRxRingPost (n : Fin 9) (w : Word) (s : State) : Host.Outcome State Fault Refusal :=
  ok (s.hostWrite (ringTailOff n.val 0) w.toNat (State.ringTail (rxRing n.val) w.toNat))

/-- RESULT of a transmit descriptor (Table 12-7); `bad`: host memory fault. -/
def State.txResult (s : State) (l len : Nat) (bad : Bool) : Nat :=
  if len < 14 ∨ s.lrd l F.MEDIA_LPORT_CFG_MAXLEN F.MGT_CFG_MAXLEN + 4 < len then 1
  else if !s.lportOn l || !s.lportLink l then 2
  else if bad then 3 else 0

/-- A scheduled essence packet of entry `i` leaves within `d` CORE clocks from now: a video packet of this frame's schedule or the last
one's (R360), the next audio packet (R366), an opaque packet that waits (R370). -/
def State.essenceWithin (s : State) (i d : Nat) : Bool :=
  if s.fType i = 1 then
    let r := s.fRaster i
    let npk := s.npackets i
    s.enabled r && !s.sendFill i && [(s.pos r).frame, (s.pos r).frame - 1].any fun f => (List.range npk).any fun k =>
      let rem := s.txDue i npk k - s.sinceFrame r f * npk
      decide (0 ≤ rem ∧ rem < (d * s.phaseStep r * npk : Nat))
  else if s.fAudio i then
    let per := if s.fPtime i then 6 else 48
    decide ((s.boundaryNow 48000 / per + 1) * per * secUnits < (s.house + d * 262144) * 48000)
  else if s.fType i = 5 then
    s.opaqueOpen (s.fSlot i) && (tget s.opaques (s.fSlot i) {}).fifo.any fun p => decide (s.clk ≤ p.1 + 2 * usClk ∧ p.1 + 2 * usClk < s.clk + d)
  else false

/-- A frame of `len` bytes without its FCS may begin on logical port `l` now: the port is not paused (R374), and on a media port the frame,
with its FCS and the eight bytes before it, ends before the next scheduled essence packet (R376). -/
def State.hostMaySend (s : State) (l len : Nat) : Bool :=
  let d := ceilDiv ((Nat.max 60 len + 12) * 8 * 125) (100 * s.portSpeed l)
  s.lrd l F.MEDIA_LPORT_STATUS_PAUSED F.MGT_STATUS_PAUSED = 0 &&
    (l = 32 || !(s.flowIdx.any fun i => s.fValid i && s.fDir i = 1 && s.fPort i = l && s.sends i && s.essenceWithin i d))

/-- TX_DESCRIPTOR_SEND: the descriptor at HEAD of ring `n`, with its words 2 and 3, and the frame's bytes; none: they could not be read
from host memory. A frame for a paused port, or one that would displace essence, waits. -/
def execTxDescriptorSend (n : Fin 9) (w2 w3 : Nat) (fr : Option (List Nat)) (s : State) : Host.Outcome State Fault Refusal :=
  let q := n.val
  let r := txRing q
  let l := if q < 8 then 4 * q + bits w2 14 2 else 32
  let len := bits w2 0 14
  let res := s.txResult l len fr.isNone
  ok (if !s.ringReady r || (decide (res = 0) && !s.hostMaySend l len) then s
  else
    let s1 := s.ringPut r (2 * q + 1) [1 + 2 * res, 0, 0, 0]
    if res ≠ 0 then s1
    else
      let bs := (List.range len).map fun k => (fr.getD []).getD k 0 % 256
      let s2 := s1.wireOut l (bs ++ List.replicate (60 - len) 0)
      let s3 := if q = 8 then { s2.wr F.MGT_STATUS_LPI 0 0 with lpiSince := s.clk } else s2
      if bit w2 16 then
        let t := s.stamp l false
        let tw := [t.words.getD 0 0, t.words.getD 1 0, t.words.getD 2 0 + 2 ^ 30 * (s.rd F.PTP_STATUS_STEP_GEN 0 % 4)]
        s3.txqPush q (tw ++ [bits w3 0 16 + 65536 * (if q < 8 then l % 4 else 0) + 2 ^ 18 * b2n (s.on F.PTP_PORT_CFG_CORR_EN l)])
      else s3)

end Sys2Proof.Machine
end

