-- ==== Sys2Proof/Machine/Cobalt.lean ====
section
/-! DEFINITION. Twin operation, the link and the pair (chapter 14): reception, pairing, shared time, STATUS, ownership, state
transfer, digests and role swaps. What engines and hosts mirror is in Machine/Mirror.lean. -/
namespace Sys2Proof.Machine

def State.setTwin (s : State) (f : Twin → Twin) : State := { s with twin := f s.twin }

/-- PAIR_STATE codes (COBALT_STATUS). -/
abbrev Ps.off : Nat := 0
abbrev Ps.hello : Nat := 1
abbrev Ps.transfer : Nat := 2
abbrev Ps.converging : Nat := 3
abbrev Ps.inStep : Nat := 4
abbrev Ps.lost : Nat := 5
abbrev Ps.failed : Nat := 6

def State.pair (s : State) : Nat := s.rd F.COBALT_STATUS_PAIR_STATE 0
def State.setPair (s : State) (p : Nat) : State := s.wr F.COBALT_STATUS_PAIR_STATE 0 p
def State.role (s : State) : Nat := s.rd F.COBALT_STATUS_ROLE 0

/-! ### Reception (R394, R395, R414) -/

/-- The raster registers a HELLO carries (R397): SLATE_RASTER_CFG, _LINES, _TIMING and _OFS. -/
def State.rasterWords (s : State) (n : Nat) : List Nat :=
  [s.rd F.SLATE_RASTER_CFG_EN n + 16 * s.rd F.SLATE_RASTER_CFG_STRUCT n + 256 * s.rd F.SLATE_RASTER_CFG_RATE n +
     4096 * s.rd F.SLATE_RASTER_CFG_BASIS n + 8192 * s.rd F.SLATE_RASTER_CFG_F2SW n,
   s.rd F.SLATE_RASTER_LINES_SWLINE n + 65536 * s.rd F.SLATE_RASTER_LINES_LATCH n,
   s.rd F.SLATE_RASTER_TIMING_LEAD n + 65536 * s.rd F.SLATE_RASTER_TIMING_ADV n, s.rd F.SLATE_RASTER_OFS_OFS n]

/-- Pages the frame store can use. -/
def State.usablePages (s : State) : Nat := (((List.range 4).filter s.portUp).map fun c => (s.cxl c).usable).foldl (· + ·) 0

/-- Pages allocated. -/
def State.allocatedPages (s : State) : Nat :=
  (s.sable.descs.map fun e => countIf e.2.pages fun p => p.placed).foldl (· + ·) 0

/-- The body of this device's HELLO (Table 14-2): stepping, CARD, ROLE_REQ, mode; CUE_PMEM_CRC of the five numbers; SPARE_NUM;
the raster registers; one more than the WIDE frame of each EVER_LOCKED raster, else 0; usable pages. -/
def State.hello (s : State) : List Nat :=
  [s.rd F.TOP_ID_MINOR 0 + 16 * s.rd F.TOP_ID_MAJOR 0, s.rd F.FAB_GLOBAL_CTRL_CARD 0, s.rd F.COBALT_CTRL_ROLE_REQ 0, s.mode]
  ++ ((List.range 5).map fun n => s.rd F.CUE_PMEM_CRC_CRC n) ++ [s.spareNum] ++ (List.range 8).flatMap s.rasterWords
  ++ ((List.range 8).map fun n => if s.on F.SLATE_RASTER_STATUS_EVER_LOCKED n then (s.pos n).frame + 1 else 0)
  ++ [s.usablePages]

/-- A device in CALIBRATE or in service, with PAIR_EN, seeks its twin (R397). -/
def State.seeks (s : State) : Bool := s.on F.COBALT_CTRL_PAIR_EN 0 && (s.mode = Mode.calibrate || s.inService)

/-- A message has come on a lane: the lane is framed, and the link is UP (R394). A link that was not UP begins anew: nothing is
left to be acknowledged, and HELLO is exchanged unless the pair has failed (R397). -/
def State.linkHeard (s : State) (h : CobHdr) : State :=
  let i := h.lane.val
  let s1 := ((s.wr F.COBALT_LANE_FRAME_LOCK i 1).wr F.COBALT_LANE_STATE i 2).wr F.COBALT_STATUS_LANES_UP 0
    (withBit (s.rd F.COBALT_STATUS_LANES_UP 0) i true)
  if s.on F.COBALT_STATUS_LINK_UP 0 then s1.setTwin fun t => { t with lastRx := s.clk }
  else
    let s2 := (s1.wr F.COBALT_STATUS_LINK_UP 0 1).setTwin fun t => { t with lastRx := s.clk, rxSeq := h.seq, unacked := [], held := [] }
    if s.pair = Ps.failed then s2 else (s2.setPair Ps.hello).send Mt.hello s2.hello

/-- An ACK covers every message up to it; when the last STATE message is covered, the pair converges (R404). -/
def State.linkAcked (s : State) (h : CobHdr) : State :=
  let q := s.twin.unacked.filter fun m => decide (2 ^ 31 ≤ (h.ack + 2 ^ 32 - m.seq) % 2 ^ 32)
  let s1 := s.setTwin fun t => { t with unacked := q }
  if s.twin.transferring && s.pair = Ps.transfer && !(q.any fun m => m.typ = Mt.state) then
    (s1.setTwin fun t => { t with transferring := false }).setPair Ps.converging
  else s1

/-- A twin's breach (R414): logged with its TYPE and SEQ. -/
def State.cobaltBreach (s : State) (code answer typ seq : Nat) : State :=
  (s.event F.COBALT_EVENT_VIOLATION 0 Irq.cobalt).violation 3 0 code answer (typ % 256 + 256 * (seq % 2 ^ 24)) Src.cobalt

/-- A mirrored item, or an acknowledgement, without its counterpart here, and a divergence (R403): IN_STEP cleared, and a transfer
asked for. -/
def State.outOfStep (s : State) (typ seq : Nat) : State :=
  (s.clearInStep.setTwin fun t => { t with resyncAsked := true }).cobaltBreach 0x04 6 typ seq

/-- Deliver a message of `typ`, which only a sender of role `sender` (0 both, 1 ACTIVE, 2 STANDBY) may send: its SEQ is taken in order,
and `f` is what it does. -/
def State.deliver (s : State) (h : CobHdr) (typ sender : Nat) (f : State → State) : State :=
  let s1 := s.setTwin fun t => { t with rxSeq := (h.seq + 1) % 2 ^ 32 }
  if sender ≠ 0 ∧ s1.role = sender then s1.cobaltBreach 0x03 1 typ h.seq else f s1

/-- Header fields of a received message's words (Table 14-1): TYPE, LEN, and what CobHdr gives. -/
def wordsType (ws : List Nat) : Nat := ws.getD 0 0 % 256
def wordsLen (ws : List Nat) : Nat := ws.getD 0 0 / 65536 % 65536
def wordsHdr (lane : Fin 4) (ws : List Nat) : CobHdr := ⟨lane, ws.getD 0 0 / 2 ^ 32 % 2 ^ 32, ws.getD 1 0 % 2 ^ 32⟩

/-- LEN outside 3-1,024, or a message that its SOM does not fit (Table 14-7). -/
def badLen (som : Nat) (ws : List Nat) : Bool := decide (som < 3 ∨ 1024 < som ∨ wordsLen ws ≠ som ∨ ws.length ≠ som)

/-- The trailer of a received message holds the CRC-32 of what precedes it. -/
def goodCrc (ws : List Nat) : Bool :=
  decide (ws.getLastD 0 = crcWords (ws.dropLast.flatMap fun w => [w % 2 ^ 32, w / 2 ^ 32 % 2 ^ 32]))

/-- A TYPE that Table 14-2 does not give. -/
def reservedType (t : Nat) : Bool := decide (t = 0 ∨ 12 < t)

/-! ### Pairing (R397) -/

/-- A raster that has locked on a COUNT basis. -/
def State.countLocked (s : State) (n : Nat) : Bool :=
  s.on F.SLATE_RASTER_STATUS_EVER_LOCKED n && !s.on F.SLATE_RASTER_CFG_BASIS n

/-- A mode in which a device is the active one already. -/
def owning (m : Nat) : Bool := m = Mode.standalone || m = Mode.active

/-- This device is the active one of the pair (R397, 1-4). Requests that the rules leave equal fall to CARD (log 29). -/
def State.becomesActive (s : State) (b : List Nat) : Bool :=
  let own := s.hello
  let req := own.getD 2 0
  let peer := b.getD 2 0
  if owning s.mode != owning (b.getD 3 0) then owning s.mode
  else if (decide (req = 1)) != decide (peer = 1) then decide (req = 1)
  else if (decide (peer = 2)) != decide (req = 2) then decide (peer = 2)
  else decide (own.getD 1 0 = 0)

/-- FAIL_REASON of a HELLO; 0: the pair succeeds. -/
def State.pairFails (s : State) (b : List Nat) : Nat :=
  let own := s.hello
  let inSrv := fun m => decide (Mode.standalone ≤ m ∧ m ≤ Mode.safe)
  let num := (List.range 8).any fun n => s.countLocked n && decide (b.getD (42 + n) 0 ≠ 0 ∧ b.getD (42 + n) 0 ≠ (s.pos n).frame + 1)
  let req := own.getD 2 0
  firstFail [(own.getD 0 0 ≠ b.getD 0 0, 1),
    (decide ((own.drop 4).take 6 ≠ (b.drop 4).take 6), 2),
    (decide ((own.drop 10).take 32 ≠ (b.drop 10).take 32), 3), (num, 4),
    (own.getD 1 0 = b.getD 1 0, 5), (s.becomesActive b && decide (b.getD 50 0 < s.allocatedPages), 6),
    (owning s.mode && owning (b.getD 3 0), 7),
    (decide (req ≠ 0 ∧ req = b.getD 2 0) && !inSrv s.mode && !inSrv (b.getD 3 0), 8)]

/-- The pair has failed and stays as it is. -/
def State.pairFailed (s : State) (why : Nat) : State :=
  ((s.setPair Ps.failed).wr F.COBALT_STATUS_FAIL_REASON 0 why).event F.COBALT_EVENT_PAIR_FAIL 0 Irq.cobalt

/-- Roles are decided and the transfer begins; a STANDALONE device becomes ACTIVE (Table 17-1); a standby's COUNT rasters that have
never locked take the active's numbers as seeds. -/
def State.paired (s : State) (b : List Nat) : State :=
  let act := s.becomesActive b
  let s1 := ((s.setPair Ps.transfer).setRole (if act then 1 else 2)).wr F.COBALT_STATUS_FAIL_REASON 0 0
  let s2 := s1.setTwin fun t => { t with transferring := false, alone := true, cleanFrames := 0, swapActive := false,
                                         swapAgreed := false, fetchStop := false, lastEcho := none }
  if act then (if s.mode = Mode.standalone then s2.setMode Mode.active else s2)
  else forEach (List.range 8) (fun n s =>
    if decide (b.getD (42 + n) 0 ≠ 0) && !s.on F.SLATE_RASTER_CFG_BASIS n && !s.on F.SLATE_RASTER_STATUS_EVER_LOCKED n then
      s.wr64 F.SLATE_RASTER_SEED_SEED_LO F.SLATE_RASTER_SEED_SEED_HI n (b.getD (42 + n) 0 - 1) else s) s2

/-- What a HELLO does. -/
def State.onHello (b : List Nat) (s : State) : State :=
  if s.pair ≠ Ps.hello then s
  else
    let s1 := s.setTwin fun t => { t with peerMode := b.getD 3 0 }
    if s.pairFails b = 0 then s1.paired b else s1.pairFailed (s.pairFails b)

/-- PAIR_EN as written: 0 to 1 begins the search, 1 to 0 ends it. A device in DEBUG begins none (R24). -/
def State.pairEn (s : State) (was : Bool) : State :=
  let now := s.on F.COBALT_CTRL_PAIR_EN 0
  if now && !was && decide (s.mode ≠ Mode.debug) then
    forEach (List.range 4) (fun i s => s.wr F.COBALT_LANE_STATE i 1) ((s.setPair Ps.hello).wr F.COBALT_STATUS_FAIL_REASON 0 0)
  else if was && !now then
    let s1 := (((s.setPair Ps.off).wr F.COBALT_STATUS_LINK_UP 0 0).wr F.COBALT_STATUS_LANES_UP 0 0).wr F.COBALT_STATUS_FAIL_REASON 0 0
    let s2 := forEach (List.range 4) (fun i s => (s.wr F.COBALT_LANE_STATE i 0).wr F.COBALT_LANE_FRAME_LOCK i 0) s1
    (s2.setTwin fun t => { t with unacked := [], held := [], peerMode := 0, alone := true, transferring := false, swapActive := false,
                                  swapAgreed := false, fetchStop := false, resyncAsked := false }).candAbsent 7
  else s

/-- A state transfer begins anew (R404). -/
def State.startTransfer (s : State) : State :=
  (s.setPair Ps.transfer).setTwin fun t => { t with transferring := false, cleanFrames := 0 }

/-- A write to COBALT_CTRL: the settings, the search, then TAKE (R410) and RESYNC (R404). On a standby RESYNC asks the active
device for a transfer. -/
def State.cobaltCtrl (w : Nat) (s : State) : State :=
  let s1 := ((s.writeWord 0x140000 w).pairEn (s.on F.COBALT_CTRL_PAIR_EN 0)).reselect
  let s2 := if bit w 5 && s1.mode = Mode.standby then
    let d := s1.draw
    (d.1.send Mt.giveup [d.2 % 256]).takeOwn else s1
  if bit w 6 && s2.on F.COBALT_STATUS_LINK_UP 0 then
    if s2.mode = Mode.active then
      (if Ps.transfer ≤ s2.pair ∧ s2.pair ≤ Ps.inStep then s2.startTransfer else s2)
    else if s2.mode = Mode.standby then s2.setTwin fun t => { t with resyncAsked := true } else s2
  else s2

/-- PAIR_EN_WRITE. -/
def execPairEnWrite (w : Word) (s : State) : Host.Outcome State Fault Refusal :=
  ok (s.hostWrite 0x140000 w.toNat (State.cobaltCtrl w.toNat))

/-- TAKE: a write with TAKE set. -/
def execTake (w : Word) (s : State) : Host.Outcome State Fault Refusal :=
  ok (s.hostWriteSet 0x140000 w.toNat 32 State.cobaltCtrl)

/-- COBALT_RESYNC: a write with RESYNC set. -/
def execCobaltResync (w : Word) (s : State) : Host.Outcome State Fault Refusal :=
  ok (s.hostWriteSet 0x140000 w.toNat 64 State.cobaltCtrl)

/-! ### Time (R396) -/

/-- The one-way delay in house units. -/
def State.oneWay (s : State) : Nat := s.rd F.COBALT_DELAY_ONE_WAY 0 * nsUnits / 10

/-- The house timescale when a message sent now leaves. -/
def State.houseAtSom (s : State) : Nat := s.house + (s.shortLane.2 - s.clk) * 262144

/-- COBALT_TIME_TX: an ACTIVE device sends its house timescale at the first bit of the message's SOM. -/
def execCobaltTimeTx (s : State) : Host.Outcome State Fault Refusal :=
  ok (if s.mode = Mode.active then s.send Mt.time (houseValue s.houseAtSom) else s)

/-- A TIME value, as a timing point of candidate 7; one that steps by more than 1 us is discarded (R396, R414). -/
def State.twinTime (s : State) (v seq : Nat) : State :=
  let step := match s.twin.timeAt with
    | some t => ((v : Int) - s.twin.timeVal - ((s.clk - t) * 262144 : Nat)).natAbs
    | none => 0
  let s1 := s.setTwin fun t => { t with timeVal := v, timeAt := some s.clk }
  if 1000 * nsUnits < step then (s1.addSat F.REFSEL_CAND_GLITCH_CNT 7 1).cobaltBreach 0x06 1 Mt.time seq
  else if s.twin.peerMode ≠ Mode.active then s1
  else
    let s2 := s1.setCand 7 { s1.cand 7 with lastEdge := s.house, seen := true }
    (s2.setPhase 7 ((v : Int) + s.oneWay - s.house)).candPresent 7

/-- COBALT_ECHO_TX: the loop delay is measured at pairing, and every second thereafter. -/
def execCobaltEchoTx (s : State) : Host.Outcome State Fault Refusal :=
  let due := match s.twin.lastEcho with
    | some t => decide (t + sClk ≤ s.clk)
    | none => true
  ok (if due && decide (Ps.transfer ≤ s.pair ∧ s.pair ≤ Ps.inStep) then
    (s.send Mt.echo (houseValue s.houseAtSom ++ houseValue 0 ++ houseValue 0)).setTwin fun t => { t with lastEcho := some s.clk }
  else s)

/-- What an ECHO does: one with no responder's values is answered; a complete one gives half the loop delay plus SKEW. -/
def State.onEcho (orig rx tx : Nat) (s : State) : State :=
  if rx = 0 ∧ tx = 0 then s.send Mt.echo (houseValue orig ++ houseValue s.house ++ houseValue s.houseAtSom)
  else
    let loop : Int := (s.house : Int) - orig - ((tx : Int) - rx)
    let one := loop * 10 / (2 * nsUnits : Nat) + sx 16 (s.rd F.COBALT_DELAY_SKEW 0)
    s.wr F.COBALT_DELAY_ONE_WAY 0 (Nat.min one.toNat 65535)

/-! ### STATUS and the link (R395, R460) -/

/-- COBALT_STATUS_TX: every 10 us. -/
def execCobaltStatusTx (s : State) : Host.Outcome State Fault Refusal :=
  let src := fun lo n => ((List.range n).map fun i => s.rd F.FLT_STATUS_SRC (lo + i) * 2 ^ i).foldl (· + ·) 0
  ok (if s.twin.lastStatus + 10 * usClk ≤ s.clk then
    (s.send Mt.status [s.mode, s.role, s.rd F.TOP_DEV_MODE_OWN 0, s.pair, s.refCond, src 0 32, src 32 17,
      b2n s.twin.resyncAsked + 2 * b2n (!s.pins.ready)]).setTwin fun t => { t with lastStatus := s.clk }
  else s)

/-- What a peer's STATUS changes here: `low`: its READY is low, as in a warm reset (R460). -/
def State.peerStatus (s : State) (mode pair : Nat) (own resync low : Bool) : State :=
  let t := s.twin
  let s1 := (s.setTwin fun t => { t with peerMode := mode, peerPair := pair, peerReset := low }).wr F.COBALT_STATUS_PEER_OWN 0 (b2n own)
  let s2 := if low && !t.peerReset then
      let s' := s1.clearInStep.setTwin fun t => { t with alone := true, transferring := false }
      if s.mode = Mode.standby then forEach (List.range 5) (fun n s => s.engStop n 2) s' else s'
    else s1
  let s3 := if s.mode = Mode.standby && s.pair = Ps.inStep && decide (pair ≠ Ps.inStep) then
      s2.clearInStep.setTwin fun t => { t with alone := true } else s2
  let past := decide (Ps.transfer ≤ s3.pair ∧ s3.pair ≤ Ps.inStep)
  let fresh := (decide (mode = Mode.standby) && decide (t.peerMode ≠ Mode.standby ∧ t.peerMode ≠ Mode.active)) || (t.peerReset && !low)
  let s4 := if s.mode = Mode.active && past && (fresh || (resync && decide (s3.pair ≠ Ps.transfer))) then s3.startTransfer else s3
  if mode ≠ Mode.active ∧ t.peerMode = Mode.active then s4.candAbsent 7 else s4

/-- The link becomes LOST (R395): the candidate it carries goes, and nothing waits for an acknowledgement; the loss is a partner
event of the COBALT source (R429). -/
def State.linkLost (s : State) : State :=
  let s1 := (s.wr F.COBALT_STATUS_LINK_UP 0 0).wr F.COBALT_STATUS_LANES_UP 0 0
  let s2 := forEach (List.range 4) (fun i s => (s.wr F.COBALT_LANE_FRAME_LOCK i 0).wr F.COBALT_LANE_STATE i 1) s1
  let s3 := if Ps.hello ≤ s.pair ∧ s.pair ≤ Ps.inStep then s2.setPair Ps.lost else s2
  let s4 := s3.setTwin fun t => { t with lostAt := s.clk, unacked := [], held := [], alone := true, transferring := false, swapActive := false,
                                         swapAgreed := false, fetchStop := false, timeAt := none }
  ((s4.candAbsent 7).event F.COBALT_EVENT_LINK_LOST 0 Irq.cobalt).faultEvent Src.cobalt true

/-- COBALT_LINK_LOST: nothing received for 30 us, or no lane framed. -/
def execCobaltLinkLost (unframed : Bool) (s : State) : Host.Outcome State Fault Refusal :=
  ok (if s.on F.COBALT_STATUS_LINK_UP 0 && (unframed || decide (s.twin.lastRx + 30 * usClk ≤ s.clk)) then s.linkLost else s)

/-- COBALT_RETX_TIMEOUT: the first message not acknowledged for 24 us from its transmission goes again with RETX, or after three
times the link is LOST. -/
def execCobaltRetxTimeout (_ : Unit) (s : State) : Host.Outcome State Fault Refusal :=
  ok (match s.twin.unacked.find? fun m => decide (m.sent + 24 * usClk ≤ s.clk) with
    | none => s
    | some m =>
      if 3 ≤ m.tries then s.linkLost
      else (s.transmit { m with tries := m.tries + 1 }).incSat F.COBALT_LANE_RETX s.shortLane.1)

/-! ### Ownership (R409, R410) -/

/-- What a GIVEUP does: a standby takes ownership; an ACTIVE device, whose standby took it, leaves its role without a GIVEUP of its own. -/
def State.onGiveup (s : State) : State :=
  if s.mode = Mode.standby then s.takeOwn.reselect
  else if s.mode = Mode.active then (s.leaveActive Mode.standby).reselect else s

/-- SILENCE_TAKEOVER: the link LOST for SILENT_MS with TAKE_ON_SILENCE set. -/
def execSilenceTakeover (s : State) : Host.Outcome State Fault Refusal :=
  ok (if s.mode = Mode.standby && s.on F.COBALT_CTRL_TAKE_ON_SILENCE 0 && s.pair = Ps.lost
      && decide (s.twin.lostAt + s.rd F.COBALT_CFG_SILENT_MS 0 * msClk ≤ s.clk) then s.takeOwn.reselect else s)

/-! ### State transfer (R404): the objects, in the order sent, as rows of a key and its values (log 30) -/

/-- A table of numbers as rows, and back. -/
def rowsOf (t : Tab Nat) : List (Nat × List Nat) := t.map fun e => (e.1, [e.2])
def ofRows (r : List (Nat × List Nat)) : Tab Nat := r.foldl (fun t e => tput t e.1 (e.2.headD 0) 0) []

/-- Register fields with bit addresses in `[lo, hi)`, as rows; and their replacement. -/
def State.regRows (s : State) (lo hi : Nat) : List (Nat × List Nat) := rowsOf (s.regs.filter fun e => decide (lo ≤ e.1 ∧ e.1 < hi))
def State.setRegRows (s : State) (lo hi : Nat) (r : List (Nat × List Nat)) : State :=
  let keep := s.regs.filter fun e => !decide (lo ≤ e.1 ∧ e.1 < hi)
  { s with regs := (r.filter fun e => decide (lo ≤ e.1 ∧ e.1 < hi)).foldl (fun t e => tins t e.1 (e.2.headD 0)) keep }

/-- A player's choice of buffer as numbers, and back. -/
def PlaySet.nums (p : PlaySet) : List Nat := [p.handle, p.depth, b2n p.chase, p.raster, p.st, p.rate]
def PlaySet.ofNums (l : List Nat) : PlaySet :=
  ⟨l.getD 0 0, l.getD 1 0, decide (l.getD 2 0 = 1), l.getD 3 0, l.getD 4 0, l.getD 5 0⟩

def optNums (o : Option (List Nat)) : List Nat := match o with
  | some l => (l.length + 1) :: l
  | none => [0]
def takeOpt (l : List Nat) : Option (List Nat) × List Nat :=
  let n := l.headD 0
  if n = 0 then (none, l.drop 1) else (some ((l.drop 1).take (n - 1)), l.drop n)

/-- A player, a recorder, a descriptor, an audio entry as numbers, and back. -/
def Player.nums (p : Player) : List Nat :=
  p.set.nums ++ [b2n p.stopping, b2n p.fresh, p.begun, b2n p.torn, p.line, p.rep, p.everWidth, p.everStruct, p.everRate, b2n p.ever]
    ++ optNums (p.next.map fun q => q.2 :: q.1.nums) ++ optNums (p.beginAt.map fun q => [q.1, q.2]) ++ optNums (p.last.map fun q => [q])
    ++ optNums (p.shown.map fun q => [q])
def Player.ofNums (l : List Nat) : Player :=
  let g := fun i => l.getD i 0
  let a := takeOpt (l.drop 16)
  let b := takeOpt a.2
  let c := takeOpt b.2
  let d := takeOpt c.2
  { set := PlaySet.ofNums l, stopping := decide (g 6 = 1), fresh := decide (g 7 = 1), begun := g 8, torn := decide (g 9 = 1), line := g 10
    rep := g 11, everWidth := g 12, everStruct := g 13, everRate := g 14, ever := decide (g 15 = 1)
    next := a.1.map fun q => (PlaySet.ofNums (q.drop 1), q.headD 0), beginAt := b.1.map fun q => (q.getD 0 0, q.getD 1 0)
    last := c.1.map fun q => q.headD 0, shown := d.1.map fun q => q.headD 0 }
def Recorder.nums (r : Recorder) : List Nat := [b2n r.stopping, r.seq, r.genAt.1, r.genAt.2] ++ r.open'
def Recorder.ofNums (l : List Nat) : Recorder := ⟨decide (l.getD 0 0 = 1), l.getD 1 0, l.drop 4, (l.getD 2 0, l.getD 3 0)⟩
def Desc.nums (d : Desc) : List Nat :=
  [d.kind, d.width, d.struct, d.rate, d.state, b2n d.damaged, d.gen, d.capacity, d.exclude, d.leaseRaster, d.owner, d.lastRaster,
   b2n d.lastValid, d.lease, d.size, d.writeSeq, d.lastFrame, d.freedNo, d.freer]
def Desc.ofNums (l : List Nat) (ps : List Page) : Desc :=
  let g := fun i => l.getD i 0
  { kind := g 0, width := g 1, struct := g 2, rate := g 3, state := g 4, damaged := decide (g 5 = 1), gen := g 6, capacity := g 7
    exclude := g 8, leaseRaster := g 9, owner := g 10, lastRaster := g 11, lastValid := decide (g 12 = 1), lease := g 13, size := g 14
    writeSeq := g 15, lastFrame := g 16, freedNo := g 17, freer := g 18, pages := ps }
def AAct.nums (a : AAct) : List Nat :=
  [a.ent.src, b2n a.ent.routed, a.ent.attr, a.delay, b2n a.dlyEn, a.block, a.lane, b2n a.conflict, b2n a.missing]
def AAct.ofNums (l : List Nat) : AAct :=
  let g := fun i => l.getD i 0
  { ent := ⟨g 0, decide (g 1 = 1), g 2⟩, delay := g 3, dlyEn := decide (g 4 = 1), block := g 5, lane := g 6, conflict := decide (g 7 = 1)
    missing := decide (g 8 = 1) }

/-- A wait as numbers, and back. -/
def Wait.nums (w : Wait) : List Nat := match w with
  | .none => [0]
  | .pos x => [1, x]
  | .event m d t => [2, m] ++ optNums (d.map fun q => [q]) ++ optNums (t.map fun q => [q])
  | .tsync i m t => [3, i, m, t]
  | .fence => [4]
  | .ask d t => [5, d] ++ optNums (t.map fun q => [q])
  | .commit t c d => [6, t, c] ++ optNums (d.map fun q => [q])
def Wait.ofNums (l : List Nat) : Wait :=
  let a := takeOpt (l.drop 2)
  let b := takeOpt a.2
  match l.headD 0 with
  | 1 => .pos (l.getD 1 0)
  | 2 => .event (l.getD 1 0) (a.1.map fun q => q.headD 0) (b.1.map fun q => q.headD 0)
  | 3 => .tsync (l.getD 1 0) (l.getD 2 0) (l.getD 3 0)
  | 4 => .fence
  | 5 => .ask (l.getD 1 0) (a.1.map fun q => q.headD 0)
  | 6 => .commit (l.getD 1 0) (l.getD 2 0) ((takeOpt (l.drop 3)).1.map fun q => q.headD 0)
  | _ => .none

/-- An engine's state beside its registers, as numbers, and back. -/
def Eng.nums (e : Eng) : List Nat :=
  (e.stack.length :: e.stack) ++ [b2n e.wasIdle]
    ++ (List.range 4).flatMap (fun x => let c := tget e.cmps x {}; [c.purpose, c.raster, c.pos.frame, c.pos.line, c.pos.sample])
    ++ (let w := e.wait.nums; w.length :: w)
    ++ optNums (e.win.map fun w => [w.fill, w.seq, b2n w.notify, match w.depth with | some d => d + 1 | none => 0] ++ w.words)
def Eng.ofNums (l : List Nat) (clk : Nat) : Eng :=
  let n := l.headD 0
  let a := l.drop (1 + n)
  let c := a.drop 1
  let w := c.drop 20
  let z := w.drop (1 + w.headD 0)
  let cmp := fun x : Nat => (⟨c.getD (5 * x) 0, c.getD (5 * x + 1) 0, ⟨c.getD (5 * x + 2) 0, c.getD (5 * x + 3) 0, c.getD (5 * x + 4) 0⟩⟩ : Cmp)
  { stack := (l.drop 1).take n, wasIdle := decide (a.headD 0 = 1), cmps := (List.range 4).foldl (fun t x => tput t x (cmp x) {}) []
    wait := Wait.ofNums ((w.drop 1).take (w.headD 0)), runSince := clk
    win := (takeOpt z).1.map fun q => { words := q.drop 4, fill := q.getD 0 0, seq := q.getD 1 0, notify := decide (q.getD 2 0 = 1)
                                        depth := if q.getD 3 0 = 0 then none else some (q.getD 3 0 - 1) } }

/-- The register fields of an engine's state (Table 6-1, CUE_STATUS). -/
def engFields : List (Fld × Nat) :=
  [(F.CUE_STATUS_STATE, 1), (F.CUE_STATUS_STOP_CAUSE, 1), (F.CUE_STATUS_FAULT_CLASS, 1), (F.CUE_STATUS_FAULT_CODE, 1), (F.CUE_STATUS_RS, 1),
   (F.CUE_PC_PC, 1), (F.CUE_EVPEND_BITS, 1), (F.CUE_GREG_VALUE, 16), (F.CUE_KREG_W0, 4), (F.CUE_KREG_W1, 4), (F.CUE_KREG_W2, 4),
   (F.CUE_KREG_W3, 4)]
def engCopies : List (Fld × Nat × Nat) := engFields.flatMap fun f => (List.range f.2).map fun j => (f.1, f.2, j)
def State.engRegs (s : State) (n : Nat) : List Nat := engCopies.map fun f => s.rd f.1 (n * f.2.1 + f.2.2)
def State.setEngRegs (s : State) (n : Nat) (l : List Nat) : State :=
  (engCopies.zip l).foldl (fun s e => s.wr e.1.1 (n * e.1.2.1 + e.1.2.2) e.2) s

/-- The in-service engine numbers. -/
def State.engsIn (s : State) : List Nat :=
  (List.range 5).filter fun n => decide (n ≠ s.spareNum ∧ s.es n ≠ Es.spare ∧ s.es n ≠ Es.retired)

/-- Objects 1-15 of the copy (R404 step 2): crosspoint, audio, heads, library words, library slots, descriptors, recorders and
players' registers, recorders, players, GPO levels, GPO schedule, engines, their data memories, shared memory, ledger. -/
def stateObjects : Nat := 15
def State.object (s : State) (o : Nat) : List (Nat × List Nat) :=
  match o with
  | 1 => s.xActive.map fun e => (e.1, [xLow e.2 (s.xlocked e.1)])
  | 2 => s.aud.act.map fun e => (e.1, e.2.nums)
  | 3 => rowsOf s.headAct
  | 4 => rowsOf s.lut
  | 5 => s.lutValid.map fun e => (e.1, [b2n e.2, tget s.lutCrc e.1 0])
  | 6 => s.sable.descs.map fun e => (e.1, e.2.nums)
  | 7 => s.regRows F.SABLE_REC_RUNNING.base (F.SABLE_PLAY_LOSS_MODE.base + 256 * 128)
  | 8 => s.sable.recs.map fun e => (e.1, e.2.nums)
  | 9 => s.sable.plays.map fun e => (e.1, e.2.nums)
  | 10 => [(0, [s.rd F.SLATE_GPO_LEVEL_LEVEL 0])]
  | 11 => s.regRows F.SLATE_GPO_SCHED_VALID.base (F.SLATE_GPO_SCHED_VALID.base + 256 * 256)
  | 12 => s.engsIn.map fun n => (n, s.engRegs n ++ (s.eng n).nums)
  | 13 => rowsOf (s.dmem.filter fun e => s.engsIn.contains (e.1 / 16384))
  | 14 => rowsOf s.smem
  | 15 => s.regRows (F.ADMIT_LEDGER_CLASS.base + 64) (F.ADMIT_LEDGER_CLASS.base + 64 * 2048)
  | _ => []

/-- The standby installs a descriptor: an allocated one on pages of its own, under the active's index and generation. -/
def State.installDesc (e : Nat × List Nat) (s : State) : State :=
  let x := Desc.ofNums e.2 []
  if x.state = 0 then s.setDesc e.1 x
  else
    let d0 := s.draw
    let d1 := d0.1.draw
    match d1.1.placeAll (s.pattern x.exclude d0.2 d1.2) (ceilDiv x.size 32) d1.2 with
    | some p => p.1.setDesc e.1 { x with pages := p.2 }
    | none => s.setDesc e.1 { x with pages := List.replicate (ceilDiv x.size 32) { port := 0, page := 0, placed := false } }

/-- Install one object. -/
def State.install (s : State) (o : Nat) (r : List (Nat × List Nat)) : State :=
  let first := fun (e : Nat × List Nat) => e.2.headD 0
  match o with
  | 1 => { s with xActive := r.foldl (fun t e => tput t e.1 (xOfLow (first e) {}) {}) []
                  xLock := r.foldl (fun t e => tput t e.1 (bit (first e) 25) false) [] }
  | 2 => { s with aud := { s.aud with act := r.foldl (fun t e => tput t e.1 (AAct.ofNums e.2) {}) [] } }
  | 3 => { s with headAct := ofRows r }
  | 4 => { s with lut := ofRows r }
  | 5 => { s with lutValid := r.foldl (fun t e => tput t e.1 (decide (first e = 1)) false) []
                  lutCrc := r.foldl (fun t e => tput t e.1 (e.2.getD 1 0) 0) [] }
  | 6 =>
    let bare := { s with sable := { s.sable with descs := [], bytes := [] } }
    let freed := forEach (List.range 4) (fun c s => s.setCxl c { s.cxl c with used := [] }) bare
    (r.foldl (fun s e => s.installDesc e) freed).storeShow
  | 7 => s.setRegRows F.SABLE_REC_RUNNING.base (F.SABLE_PLAY_LOSS_MODE.base + 256 * 128) r
  | 8 => { s with sable := { s.sable with recs := r.foldl (fun t e => tput t e.1 (Recorder.ofNums e.2) {}) [] } }
  | 9 => { s with sable := { s.sable with plays := r.foldl (fun t e => tput t e.1 (Player.ofNums e.2) {}) [] } }
  | 10 => s.wr F.SLATE_GPO_LEVEL_LEVEL 0 (first (r.headD (0, [])))
  | 11 => s.setRegRows F.SLATE_GPO_SCHED_VALID.base (F.SLATE_GPO_SCHED_VALID.base + 256 * 256) r
  | 12 => r.foldl (fun s e => (s.setEngRegs e.1 e.2).setEng e.1 (Eng.ofNums (e.2.drop engCopies.length) s.clk)) s
  | 13 => { s with dmem := ofRows r }
  | 14 => { s with smem := ofRows r }
  | 15 => s.setRegRows (F.ADMIT_LEDGER_CLASS.base + 64) (F.ADMIT_LEDGER_CLASS.base + 64 * 2048) r
  | _ => s

/-- Every in-service engine is WAITING, IDLE, STOPPED or HALTED (R172, R404). -/
def State.enginesQuiet (s : State) : Bool :=
  s.engsIn.all fun n => s.es n = Es.waiting || s.es n = Es.idle || s.es n = Es.stopped || s.es n = Es.halted

/-- Every buffer that is not free has content older than this transfer (R405). -/
def State.markCopied (s : State) : State :=
  { s with sable := { s.sable with descs := s.sable.descs.map fun e => (e.1, { e.2 with copied := decide (e.2.state ≠ 0), fresh := [] }) } }

/-- An object as words, their count first, and its rows again. -/
def flatRows (r : List (Nat × List Nat)) : List Nat :=
  let ws := r.flatMap fun e => e.1 :: e.2.length :: e.2
  (ws.length + 1) :: ws
def rowsFrom (fuel : Nat) (ws : List Nat) : List (Nat × List Nat) :=
  match fuel, ws with
  | n + 1, k :: len :: r => (k, r.take len) :: rowsFrom n (r.drop len)
  | _, _ => []

/-- Send an object in STATE messages of at most 1,019 words of data each: the object, the offset in it, the data. -/
def State.sendObject (o : Nat) (ws : List Nat) (s : State) : State :=
  (List.range (ceilDiv ws.length 1019)).foldl (fun s k => s.send Mt.state ([o, 1019 * k] ++ (ws.drop (1019 * k)).take 1019)) s

/-- STATE_TRANSFER_FREEZE: at the first quiet instant an ACTIVE device with a standby copies its state and sends it. -/
def execStateTransferFreeze (s : State) : Host.Outcome State Fault Refusal :=
  ok (if s.mode = Mode.active && s.pair = Ps.transfer && !s.twin.transferring && decide (s.twin.peerMode = Mode.standby)
      && !s.twin.peerReset && s.on F.COBALT_STATUS_LINK_UP 0 && s.enginesQuiet then
    (forEach ((List.range stateObjects).map (· + 1)) (fun o s' => s'.sendObject o (flatRows (s.object o))) s).markCopied.setTwin fun t =>
      { t with transferring := true, alone := false }
  else s)

/-- What a STATE message does: a standby joins the parts of an object and installs it when whole; with the last object the pair
converges, and mirrored items apply. -/
def State.onState (o off : Nat) (ws : List Nat) (s : State) : State :=
  if s.role ≠ 2 then s
  else
    let all := (if off = 0 then [] else s.twin.part.take off) ++ ws
    let s0 := (s.setTwin fun t => { t with part := all, alone := true }).setPair Ps.transfer
    if all.headD 0 ≠ all.length then s0
    else
      let s1 := s0.install o (rowsFrom all.length all.tail)
      let got := o :: (if o = 1 then [] else s.twin.got)
      if o = stateObjects then
        ((s1.markCopied.setTwin fun t => { t with part := [], got := [], alone := false, resyncAsked := false, cleanFrames := 0 }).setPair
          Ps.converging).admShow
      else s1.setTwin fun t => { t with part := [], got := got }

/-! ### Digests (R405-R408) -/

/-- Fields of a digest entry (Table 14-4), kept as its two words. -/
def digSlot (w : Nat) : Nat := bits w 0 13
def digIn (w : Nat) : Bool := bit w 13
def digOk (w : Nat) : Bool := bit w 14
def digConv (w : Nat) : Bool := bit w 15

/-- The entries of a stored digest list: frame, whether all of it is there, then two words an entry. -/
def digPairs (l : List Nat) : List (Nat × Nat) := match l with
  | a :: b :: r => (a, b) :: digPairs r
  | _ => []
def State.digList (s : State) (k : Nat) : List (Nat × Nat) := digPairs ((tget s.twin.digests k []).drop 2)

/-- The ingress digests of a fabric port, here and at the peer, differ (Table 14-5). -/
def State.inputDiffers (s : State) (slot : Nat) : Bool :=
  let find := fun (k : Nat) => ((List.range 8).flatMap fun r => s.digList (2 * r + k)).find? fun e => digIn e.1 && digSlot e.1 = slot
  match find 0, find 1 with
  | some a, some b => decide (a.2 ≠ b.2)
  | _, _ => false

/-- Attribute a mismatch of an egress group (Table 14-5): 0 INPUT, 1 PEER, 2 SELF, 3 UNKNOWN. -/
def State.digCulprit (s : State) (mine peer : Nat) : Nat :=
  let src := (s.xa (digSlot mine)).src
  if src < 4608 ∧ s.inputDiffers (4 * s.slotPort src) = true then 0
  else if digOk mine && !digOk peer then 1 else if !digOk mine && digOk peer then 2 else 3

/-- Compare the lists of raster `r` once both of a frame are there (R407, R408). -/
def State.digCompare (s : State) (r : Nat) : State :=
  let a := tget s.twin.digests (2 * r) []
  let b := tget s.twin.digests (2 * r + 1) []
  if a = [] ∨ b = [] ∨ a.headD 0 ≠ b.headD 0 ∨ b.getD 1 0 = 0 then s
  else
    let peer := s.digList (2 * r + 1)
    let hits := (s.digList (2 * r)).filterMap fun e =>
      if digIn e.1 || digConv e.1 then none
      else
        match peer.find? fun p => !digIn p.1 && digSlot p.1 = digSlot e.1 with
        | some p => if digConv p.1 || p.2 = e.2 then none else some (s.digCulprit e.1 p.1)
        | none => none
    let cnt := fun k => countIf hits fun h => h = k
    let s1 := (((s.addSat F.COBALT_DIG_CNT_ATTR_INPUT 0 (cnt 0)).addSat F.COBALT_DIG_CNT_ATTR_PEER 0 (cnt 1)).addSat
      F.COBALT_DIG_CNT_ATTR_SELF 0 (cnt 2)).addSat F.COBALT_DIG_CNT_ATTR_UNKNOWN 0 (cnt 3)
    if hits.isEmpty then
      (s1.addWrap F.COBALT_DIG_CNT_MATCH_FRAMES 0 1).setTwin fun t => { t with cleanFrames := t.cleanFrames + b2n (decide (r = 0)) }
    else
      let s2 := ((s1.addWrap F.COBALT_DIG_CNT_MISMATCH_GROUPS 0 hits.length).event F.COBALT_EVENT_MISMATCH 0 Irq.cobalt).setTwin fun t =>
        { t with cleanFrames := 0 }
      if cnt 2 = 0 then s2
      else
        let ts := s.clk :: s.twin.selfTimes.filter fun t => decide (s.clk < t + sClk)
        let s3 := s2.setTwin fun t => { t with selfTimes := ts }
        if s.rd F.COBALT_CFG_ATTR_THR 0 ≤ ts.length then s3.faultEvent Src.cobalt false else s3

/-- Store the entries of a DIGEST, behind those of the same frame that came before, and compare. A message of 1,019 entries has others
behind it: DESIGN CHOICE (log 30). -/
def State.digStore (s : State) (k frame : Nat) (es : List (Nat × Nat)) (last : Bool) : State :=
  let old := tget s.twin.digests k []
  let had := if old.head? = some frame ∧ old.getD 1 0 = 0 then old.drop 2 else []
  (s.setTwin fun t => { t with digests := tput t.digests k (frame :: b2n last :: (had ++ es.flatMap fun e => [e.1, e.2])) [] }).digCompare (k / 2)

/-- Send a list in DIGEST messages (Table 14-4) of at most 1,019 entries, the last of them shorter. -/
def State.sendDigest (s : State) (r frame : Nat) (es : List (Nat × Nat)) : State :=
  (List.range (es.length / 1019 + 1)).foldl (fun s k =>
    let part := (es.drop (1019 * k)).take 1019
    s.send Mt.digest ([r + 2 ^ 32 * (frame % 2 ^ 32), frame / 2 ^ 32 % 2 ^ 32 + 2 ^ 32 * part.length] ++
      part.map fun e => e.1 + 2 ^ 32 * e.2)) s

/-- Buffer `i` has not been wholly rewritten since the transfer (R405): the active area of some strand of some frame. -/
def State.unrewritten (s : State) (i : Nat) : Bool :=
  let x := s.desc i
  let n := widthOf x.width
  x.copied && (List.range (Nat.max 1 x.capacity)).any fun q => (List.range n).any fun k =>
    let lo := x.strandAt q k + 64
    !x.fresh.any fun e => decide (e.1 ≤ lo ∧ lo + activeBytes x.struct x.rate ≤ e.2)
def State.oldBuffer (s : State) (h : Nat) : Bool := match s.handleDesc h with
  | some i => s.unrewritten i
  | none => false

/-- A destination group is CONVERGING (R405): its player, or a BUFFER layer of its head, reads such a buffer. -/
def State.converges (s : State) (d : Nat) : Bool :=
  let x := groupSrc d (s.xa d)
  if 5760 ≤ x ∧ x < 6272 then
    let p := (x - 5760) / 4
    s.on F.SABLE_PLAY_RUNNING p && s.oldBuffer (s.player p).set.handle
  else if 6272 ≤ x ∧ x < 6656 then
    let h := s.activeSet ((x - 6272) / 4)
    h.en && (List.range 8).any fun l => h.layerEn l && decide (h.kind l = 0) && s.oldBuffer (h (1 + l) 1)
  else false

/-- The digest of the `n` member strands kept from `key` on (R398), and whether none of them met an error. -/
def State.groupDigest (s : State) (key n : Nat) : Nat × Bool :=
  let ms := (List.range n).map fun k => tget s.digs (key + k) {}
  (Nat.xor (ms.foldl (fun a m => crcJoin a m.out.1 m.out.2) 0xFFFFFFFF) 0xFFFFFFFF, ms.all fun m => !m.outBad)

/-- The digest groups of raster `r` (R406): key, first slot, KIND and strands of each routed fabric egress group, routed IP send group
and valid fabric ingress port. -/
def State.digGroups (s : State) (r : Nat) : List (Nat × Nat × Nat × Nat) :=
  let ports := (List.range 1152).filter fun p => decide (s.rd F.ALIGN_PORT_CFG_RASTER p = r ∧ 0 < s.portWidth p)
  let out := (ports.filter fun p => (s.xa (4 * p)).routed).map fun p => (4 * p, 4 * p, 0, s.portWidth p)
  let ip := (s.flowIdx.filter fun i => s.fValid i && s.fDir i = 1 && s.fType i = 1 && s.fRaster i = r && (s.xa (s.fSlot i)).routed).map
    fun i => (s.fSlot i, s.fSlot i, 0, s.fWidth i)
  let inp := (ports.filter fun p => s.on F.ALIGN_PORT_STATUS_FMT_VALID p).map fun p => (8192 + 4 * p, 4 * p, 1, s.portWidth p)
  out ++ ip ++ inp

/-- The entries of raster `r`'s DIGEST message (Table 14-4); `errs`: first slots whose paths' other checks (R407: ECC, poison, heads,
audio) reported an error in the frame. -/
def State.digEntries (s : State) (r : Nat) (errs : List (Fin 8192)) : List (Nat × Nat) :=
  (s.digGroups r).map fun g =>
    let c := s.groupDigest g.1 g.2.2.2
    let good := c.2 && !(g.2.2.1 = 0 && errs.any fun e => e.val = g.2.1)
    (g.2.1 + 2 ^ 13 * g.2.2.1 + 2 ^ 14 * b2n good + 2 ^ 15 * b2n (decide (g.2.2.1 = 0) && s.converges g.2.1), c.1)

/-- DIGEST_TX: the digests of the frame of raster `r` that has ended (R406); `errs`: first slots whose paths met an error. -/
def execDigestTx (r : Fin 8) (errs : List (Fin 8192)) (s : State) : Host.Outcome State Fault Refusal :=
  let f := (s.pos r).frame
  ok (if s.enabled r && decide (0 < f) && decide ((tget s.twin.digests (2 * r.val) []).head? ≠ some (f - 1)) then
    let es := s.digEntries r errs
    (s.sendDigest r.val (f - 1) es).digStore (2 * r.val) (f - 1) es true
  else s)

/-- What a DIGEST does. -/
def State.onDigest (r frame : Nat) (es : List (Nat × Nat)) (s : State) : State :=
  s.digStore (2 * r + 1) frame es (decide (es.length < 1019))

/-- Frames of raster 0 in the swap period, and the frame the next periodic swap is proposed for. -/
def State.swapPeriod (s : State) : Nat := s.rd F.COBALT_CTRL_SWAP_PERIOD 0 * 3600 * sClk
def State.swapTimer (s : State) : State :=
  let n := ceilDiv (s.swapPeriod * s.phaseStep 0) (Nat.max 1 (s.frameSamples 0 * s.phaseFull 0))
  (s.setTwin fun t => { t with swapBase := s.clk }).wr64 F.COBALT_SWAP_NEXT_FRAME_LO F.COBALT_SWAP_NEXT_FRAME_HI 0 ((s.pos 0).frame + n)

/-- PAIR_IN_STEP: 64 clean frames of raster 0 (R405). -/
def execPairInStep (s : State) : Host.Outcome State Fault Refusal :=
  ok (if s.pair = Ps.converging ∧ 64 ≤ s.twin.cleanFrames ∧ s.twin.alone = false then
    ((s.setPair Ps.inStep).event F.COBALT_EVENT_PAIRED 0 Irq.cobalt).swapTimer else s)

/-! ### Role swaps (R412, R413) -/

/-- A swap is refused: 1 NOT_IN_STEP, 2 NOT_ACTIVE, 3 BUSY, 4 TOO_LATE, 5 PEER. -/
def State.swapRefuse (s : State) (why : Nat) : State :=
  ((s.wr F.COBALT_SWAP_CTRL_STATE 0 4).wr F.COBALT_SWAP_CTRL_REASON 0 why).event F.COBALT_EVENT_SWAP_REFUSED 0 Irq.cobalt

/-- No swap is under way. -/
def State.swapDrop (s : State) : State :=
  s.setTwin fun t => { t with swapActive := false, swapAgreed := false, swapDefer := 0, fetchStop := false }

/-- Propose a swap at a raster 0 frame, or refuse it. -/
def State.swapPropose (s : State) (f : Nat) : State :=
  let why := firstFail [(decide (s.pair ≠ Ps.inStep), 1), (decide (s.mode ≠ Mode.active), 2), (s.twin.swapActive, 3),
    (decide (f < (s.pos 0).frame + 1), 4)]
  if why ≠ 0 then s.swapRefuse why
  else
    (((s.wr F.COBALT_SWAP_CTRL_STATE 0 0).wr F.COBALT_SWAP_CTRL_REASON 0 0).send Mt.swap [1, f]).setTwin fun t =>
      { t with swapActive := true, swapAgreed := false, swapFrame := f, swapDefer := 0 }

/-- CANCEL: a swap not yet taken is withdrawn, and the peer told. -/
def State.swapCancel (s : State) : State :=
  if s.twin.swapActive then
    ((s.swapDrop.send Mt.swap [3, s.twin.swapFrame]).wr F.COBALT_SWAP_CTRL_STATE 0 0).wr F.COBALT_SWAP_CTRL_REASON 0 0
  else s

/-- A write to COBALT_SWAP_CTRL. -/
def State.swapCtrl (w : Nat) (s : State) : State :=
  let s1 := if bit w 1 then s.swapCancel else s
  if bit w 0 then s1.swapPropose (s1.rd64 F.COBALT_SWAP_TGT_FRAME_LO F.COBALT_SWAP_TGT_FRAME_HI 0) else s1

/-- SWAP_GO. -/
def execSwapGo (w : Word) (s : State) : Host.Outcome State Fault Refusal :=
  ok (s.hostWriteSet 0x140010 w.toNat 1 State.swapCtrl)

/-- SWAP_CANCEL. -/
def execSwapCancel (w : Word) (s : State) : Host.Outcome State Fault Refusal :=
  ok (s.hostWriteSet 0x140010 w.toNat 2 State.swapCtrl)

/-- SWAP_AUTO_TIMER: SWAP_PERIOD hours have passed on an ACTIVE device. -/
def execSwapAutoTimer (s : State) : Host.Outcome State Fault Refusal :=
  ok (if s.on F.COBALT_CTRL_SWAP_AUTO 0 && s.mode = Mode.active && decide (s.twin.swapBase + s.swapPeriod ≤ s.clk) then
    (s.swapPropose ((s.pos 0).frame + 1)).swapTimer else s)

/-- What a SWAP does: OP 1 PROPOSE, 2 AGREE, 3 REFUSE, 4 DEFER. -/
def State.onSwap (seq op f : Nat) (s : State) : State :=
  let t := s.twin
  match op with
  | 1 =>
    if s.pair = Ps.inStep ∧ s.mode = Mode.standby ∧ t.swapActive = false ∧ (s.pos 0).frame + 1 ≤ f then
      ((s.send Mt.swap [2, f]).wr F.COBALT_SWAP_CTRL_STATE 0 1).setTwin fun t =>
        { t with swapActive := true, swapAgreed := true, swapFrame := f, swapDefer := 0 }
    else s.send Mt.swap [3, f]
  | 2 =>
    if !t.swapActive || t.swapAgreed then s
    else if f ≠ t.swapFrame then (s.cobaltBreach 0x05 5 Mt.swap seq).swapDrop.swapRefuse 5
    else (s.wr F.COBALT_SWAP_CTRL_STATE 0 1).setTwin fun t => { t with swapAgreed := true }
  | 3 =>
    if !t.swapActive then s
    else if s.mode = Mode.active then s.swapDrop.swapRefuse 5
    else (s.swapDrop.wr F.COBALT_SWAP_CTRL_STATE 0 0).wr F.COBALT_SWAP_CTRL_REASON 0 0
  | 4 => if t.swapAgreed then (s.wr F.COBALT_SWAP_CTRL_STATE 0 2).setTwin fun t => { t with swapFrame := f } else s
  | _ => s

/-- SWAP_FETCH_STOP: from one frame before the swap frame the ACTIVE device fetches no more records (R413). -/
def execSwapFetchStop (s : State) : Host.Outcome State Fault Refusal :=
  ok (if s.twin.swapAgreed && s.mode = Mode.active && decide (s.twin.swapFrame ≤ (s.pos 0).frame + 1) then
    s.setTwin fun t => { t with fetchStop := true } else s)

/-- The roles change (R412). -/
def State.swapTake (s : State) : State :=
  let m := if s.mode = Mode.active then Mode.standby else Mode.active
  let s1 := ((s.swapDrop.setRole (if m = Mode.active then 1 else 2)).wr F.COBALT_SWAP_CTRL_STATE 0 3).setMode m
  ((s1.setTwin fun t => { t with peerMode := s.mode, holdGive := false }).event F.COBALT_EVENT_SWAP_DONE 0 Irq.cobalt).swapTimer.reselect

/-- Raster 0 stands at or past the switch line of a frame. -/
def State.reachedSwitch (s : State) (f : Nat) : Bool := Pos.le ⟨f, s.swLineFor 0 f, 0⟩ (s.egress 0)

/-- SWAP_EXECUTE: at the switch line of raster 0 in the agreed frame; with a record still in a cue window the swap is deferred by
a frame, after 16 times refused (R413). -/
def execSwapExecute (s : State) : Host.Outcome State Fault Refusal :=
  let t := s.twin
  ok (if !t.swapAgreed || !s.reachedSwitch t.swapFrame then s
  else if s.engs.any fun e => e.2.win.isSome then
    if 16 ≤ t.swapDefer then s.swapDrop.swapRefuse 3
    else
      let s1 := if s.mode = Mode.active then s.send Mt.swap [4, t.swapFrame + 1] else s
      (s1.wr F.COBALT_SWAP_CTRL_STATE 0 2).setTwin fun t => { t with swapFrame := t.swapFrame + 1, swapDefer := t.swapDefer + 1 }
  else s.swapTake)

end Sys2Proof.Machine
end

