-- ==== Sys2Proof/Machine/Wear.lean ====
section
/-! DEFINITION. The fault collector's host side, wear forecasts, and spare units (chapter 16). -/
namespace Sys2Proof.Machine

/-! ### Causes and clearing (R428, R431, R435) -/

/-- The condition of Table 16-1 under which a source's cause is active beside its device events. -/
def State.causeCond (s : State) (src : Nat) : Bool :=
  if src ≤ 3 then (List.range 38).any fun i => s.laneSt (38 * src + i) = Ln.failed
  else if src ≤ 11 then (List.range 4).any fun i => s.lportUsed (4 * (src - 4) + i) && !s.lportLink (4 * (src - 4) + i)
  else if src = 12 then s.on F.MGT_CFG_EN 0 && !s.on F.MGT_STATUS_LINK 0
  else if src = 13 then false
  else if src ≤ 17 then s.rd F.CXLP_PORT_STATUS_STATE (src - 14) = 5
  else if src = 18 then s.on F.SABLE_STATUS_OVERLOAD 0
  else if src = 34 then (List.range 16).any fun i => s.rd F.TDM_STATUS_STATE i = 3
  else if src = 35 then s.ref.locoscFailed || (List.range 13).any fun d => critical d && s.on F.SYNTH_DOMAIN_UNPROTECTED d
  else if src = 36 then s.inService && (s.rd F.REFSEL_COND_COND 0 = 0 || decide (6 ≤ s.rd F.REFSEL_COND_COND 0))
  else if 38 ≤ src ∧ src ≤ 42 then s.es (src - 38) = Es.faulted && decide (2 ≤ s.rd F.CUE_STATUS_FAULT_CLASS (src - 38))
  else if src = 43 then s.on F.COBALT_CTRL_PAIR_EN 0 && s.pair = Ps.lost
  else if src = 46 then s.on F.ADMIT_STATUS_TEMP_ALARM 0 || s.adm.frozen
  else if src = 47 then (List.range 15).any fun d =>
    s.on F.WEAR_DOM_STATE d && decide (s.rd F.WEAR_DOM_LOW d < s.rd F.WEAR_CFG_WEAR_WARN 0)
  else false

/-- A source's cause is active: its condition holds, or its last device event lies less than 10 ms back. -/
def State.causeNow (s : State) (src : Nat) : Bool :=
  s.causeCond src || (s.flt.lastDev.any fun e => e.1 = src && decide (s.clk < e.2 + 10 * msClk))

/-- FLT_CAUSE shows each source's cause as it stands. -/
def State.causeShow (s : State) : State := forEach (List.range 49) (fun i s => s.wr F.FLT_CAUSE_SRC i (b2n (s.causeNow i))) s

/-- FAULT_CAUSE_EXPIRE. -/
def execFaultCauseExpire (src : Fin 49) (s : State) : Host.Outcome State Fault Refusal :=
  ok (s.wr F.FLT_CAUSE_SRC src (b2n (s.causeNow src)))

/-- HOLD_LIMIT_EXPIRE. -/
def execHoldLimitExpire (src : Fin 49) (s : State) : Host.Outcome State Fault Refusal :=
  ok (if s.flt.holds.any fun e => e.1 = src.val && decide (e.2 + s.rd F.FLT_CFG_HOLD_LIM 0 * msClk ≤ s.clk) then
    { s with flt := { s.flt with holds := tdel s.flt.holds src } } else s)

/-- Clear source `i` (R435): it fails while its cause is active or an event came in this clock. -/
def State.faultClear (i : Nat) (s : State) : State :=
  if !s.on F.FLT_STATUS_SRC i then s
  else if s.causeNow i || (tget s.flt.win i []).any fun e => e.at' = s.clk then
    (s.wr F.FLT_CLR_STATUS_CLR_FAIL 0 1).wr F.FLT_CLR_STATUS_FAIL_SRC 0 i
  else
    let s1 := { s with flt := { s.flt with win := tput s.flt.win i [] [], holds := tdel s.flt.holds i } }
    (((s1.wr F.FLT_STATUS_SRC i 0).wr F.FLT_SEVERE_SRC i 0).wr F.FLT_SRC_STAT_IN_WIN i 0).wr F.FLT_SRC_STAT_PARTNER_ONLY i 0

/-- A write of FLT_STATUS SRC_LO (0) or SRC_HI (1). -/
def State.faultWrite (hi w : Nat) (s : State) : State :=
  forEach ((bitList w 32).filter fun b => decide (32 * hi + b < 49)) (fun b s => s.faultClear (32 * hi + b)) s

/-- FAULT_CLEAR. -/
def execFaultClear (hi : Fin 2) (w : Word) (s : State) : Host.Outcome State Fault Refusal :=
  ok (s.hostWrite (0x160000 + 4 * hi.val) w.toNat (State.faultWrite hi.val w.toNat))

/-! ### Wear (R439-R441) -/

/-- Hours since the device left INIT, and operating hours (R440). -/
def State.sessionHours (s : State) : Nat := match s.wear.left with
  | some t => (s.clk - t) / (3600 * sClk)
  | none => 0
def State.hours (s : State) : Nat := s.wear.base + s.sessionHours

/-- WEAR_HOURS follows. -/
def State.hoursShow (s : State) : State := s.wr F.WEAR_HOURS_HOURS 0 s.hours

/-- The monitor of domain `d` with the fewest hours left, and what the fit gives it: of several the lowest (DESIGN CHOICE, log 73). -/
def State.worstMonitor (s : State) (d : Nat) : Option (Nat × Nat × Nat × Nat) :=
  (s.wear.hist.filter fun k => k.1 / 64 = d).foldl (fun a k =>
    let e := Config.wearFit k.1 s.hours k.2
    match a with
    | some b => if e.1 < b.2.1 then some (k.1 % 64, e) else a
    | none => some (k.1 % 64, e)) none

/-- Hours as months of 730.5 hours, rounded down and saturated. -/
def wearMonths (h : Nat) : Nat := Nat.min (2 * h / 1461) 65535

/-- Give domain `d` its estimate (R440). -/
def State.domEstimate (d : Nat) (s : State) : State :=
  match s.worstMonitor d, decide (1000 ≤ s.hours) with
  | some (m, e), true =>
    let warn := s.rd F.WEAR_CFG_WEAR_WARN 0
    let s1 := (((s.wr F.WEAR_DOM_STATE d 1).wr F.WEAR_DOM_MONTHS d (wearMonths e.1)).wr F.WEAR_DOM_LOW d (wearMonths e.2.1)).wr
      F.WEAR_DOM_HIGH d (wearMonths e.2.2)
    let s2 := s1.wr F.WEAR_DOM_MONITOR d m
    let was := s.on F.WEAR_DOM_STATE d && decide (s.rd F.WEAR_DOM_LOW d < warn)
    if s2.rd F.WEAR_DOM_LOW d < warn ∧ was = false then s2.faultEvent Src.wear false else s2
  | _, _ => (((s.wr F.WEAR_DOM_STATE d 0).wr F.WEAR_DOM_MONTHS d 0).wr F.WEAR_DOM_LOW d 0).wr F.WEAR_DOM_HIGH d 0

/-- WEAR_ESTIMATE: a further 24 operating hours have passed; `m`: today's sample of each monitor (domain * 64 + monitor), the
canary rows' latest results beside them. -/
def execWearEstimate (m : List (Nat × Nat)) (s : State) : Host.Outcome State Fault Refusal :=
  ok (if s.wear.days < s.hours / 24 then
    let add := fun (t : Tab (List Nat)) (x : Nat × Nat) => tins t x.1 (x.2 :: tget t x.1 [])
    let s1 := { s with wear := { s.wear with days := s.hours / 24, hist := (m ++ s.wear.vmin).foldl add s.wear.hist } }
    forEach (List.range 15) State.domEstimate s1.hoursShow
  else s)

/-- WEAR_HOUR_STEP: 128 further operating hours; the OTP counter ends at 2,048. -/
def execWearHourStep (s : State) : Host.Outcome State Fault Refusal :=
  ok (if s.wear.steps < s.hours / 128 then
    let s1 := { s with wear := { s.wear with steps := s.wear.steps + 1 } }.hoursShow
    s1.wr F.WEAR_HIST_CTRL_OTP_STEPS 0 (Nat.min (s.rd F.WEAR_HIST_CTRL_OTP_STEPS 0 + 1) 2048)
  else s)

/-- SRAM_CANARY_TEST: one more operating hour; `m`: the minimum voltages measured (domain * 64 + monitor). -/
def execSramCanaryTest (m : List (Nat × Nat)) (s : State) : Host.Outcome State Fault Refusal :=
  ok (if s.wear.canary < s.hours then
    { s with wear := { s.wear with canary := s.hours, vmin := m.foldl (fun (t : Tab Nat) (x : Nat × Nat) => tins t x.1 x.2) s.wear.vmin } }.hoursShow
  else s)

/-- Fill WEAR_HIST: operating hours, OTP step, daily samples, CRC-32 (R441). -/
def State.wearSave (s : State) : State :=
  let ws := s.hours % 2 ^ 32 :: s.rd F.WEAR_HIST_CTRL_OTP_STEPS 0 ::
    ((List.range 1021).map fun i => Config.wearImage s.wear.hist i % 2 ^ 32)
  let s1 := forEach (List.range 1023) (fun i s => s.wr F.WEAR_HIST_WORD i (ws.getD i 0)) s
  s1.wr F.WEAR_HIST_WORD 1023 (crcWords ws)

/-- Apply WEAR_HIST, or refuse (R441). -/
def State.wearRestore (s : State) : State :=
  let ws := (List.range 1023).map fun i => s.rd F.WEAR_HIST_WORD i
  let step := s.rd F.WEAR_HIST_CTRL_OTP_STEPS 0
  let good := !s.wear.tried && decide (s.sessionHours < 1) && decide (crcWords ws = s.rd F.WEAR_HIST_WORD 1023)
    && (decide (ws.getD 1 0 = step) || decide (ws.getD 1 0 + 1 = step))
  let s1 := { s with wear := { s.wear with tried := true } }
  if good then
    let h := ws.getD 0 0
    ({ s1 with wear := { s1.wear with base := h, steps := h / 128, days := h / 24, canary := h
                                      hist := Config.wearLoad (ws.drop 2) } }.hoursShow).wr F.WEAR_HIST_CTRL_RESTORED 0 1
  else s1.wr F.WEAR_HIST_CTRL_RESTORE_REFUSED 0 1

/-- A write of WEAR_HIST_CTRL: SAVE, then RESTORE. -/
def State.wearCtrl (w : Nat) (s : State) : State :=
  let s1 := if bit w 3 then s.wr F.WEAR_HIST_CTRL_RESTORE_REFUSED 0 0 else s
  let s2 := if bit w 0 then s1.wearSave else s1
  if bit w 1 then s2.wearRestore else s2

/-- WEAR_SAVE: a write with SAVE set. -/
def execWearSave (w : Word) (s : State) : Host.Outcome State Fault Refusal :=
  ok (s.hostWriteSet 0x170008 w.toNat 1 State.wearCtrl)

/-- WEAR_RESTORE: a write with RESTORE set. -/
def execWearRestore (w : Word) (s : State) : Host.Outcome State Fault Refusal :=
  ok (s.hostWriteSet 0x170008 w.toNat 2 State.wearCtrl)

/-! ### Spare substitution and tests (R443, R444) -/

/-- The SPARE_TEST grant's unit for a spare. -/
def spareInst (kind k : Nat) : Nat := if kind = 0 then k else if kind = 1 then 4 + k else 12 + k

def State.substState (s : State) (st : Nat) : State := s.wr F.WEAR_SUBST_STATUS_STATE 0 st

/-- The test of `unit` begins; a head's uses a free scaler of the pool, if there is one. -/
def State.spareTestBegin (s : State) (kind k unit : Nat) : State :=
  let f := if kind = 0 then s.freeScaler else (s, none)
  let s1 := { f.1 with wear := { f.1.wear with step := 6, kind := kind, spare := k, only := true, unit := unit,
                                               since := (s.pos 0).frame, scaler := f.2 } }
  ((s1.substState 6).wr F.WEAR_SUBST_STATUS_SCALER_UNTESTED 0 (b2n (decide (kind = 0) && f.2.isNone))).ochreShow

/-- START of WEAR_SUBST_CTRL. -/
def State.spareStart (s : State) : State :=
  let kind := s.rd F.WEAR_SUBST_CTRL_KIND 0
  let n := s.rd F.WEAR_SUBST_CTRL_TARGET 0
  let k := s.rd F.WEAR_SUBST_CTRL_SPARE 0
  let only := s.on F.WEAR_SUBST_CTRL_TEST 0
  let unit := s.spareUnit kind k
  if s.wear.step ≠ 0 ∨ s.unitRetired kind unit = true ∨ (kind = 0 ∧ (4 ≤ k ∨ (only = false ∧ 96 ≤ n))) ∨
      s.grantOk (s.rd F.WEAR_SUBST_CTRL_GRANT 0) Gc.spareTest (spareInst kind k) = false then s.substState 4
  else if only then s.spareTestBegin kind k unit
  else
    let s1 := { s with wear := { s.wear with step := 1, kind := kind, target := n, spare := k, only := false } }
    let s2 := (s1.substState 1).wr F.WEAR_SUBST_STATUS_MISMATCH 0 0
    let idle := (kind = 1 && !s.on F.SABLE_REC_RUNNING n) || (kind = 2 && !s.on F.SABLE_PLAY_RUNNING n)
    if idle then s2.spareMove else s2

/-- ABORT: accepted until the move. -/
def State.spareAbort (s : State) : State :=
  if s.wear.step = 1 ∨ s.wear.step = 2 then { s.substState 5 with wear := { s.wear with step := 0 } } else s

/-- A write of WEAR_SUBST_CTRL: its fields, ABORT, then START. -/
def State.spareCtrl (w : Nat) (s : State) : State :=
  let s1 := s.writeWord 0x170020 w
  let s2 := if bit w 1 then s1.spareAbort else s1
  if bit w 0 then s2.spareStart else s2

/-- SPARE_SUBST_START: a write with START set and TEST clear. -/
def execSpareSubstStart (w : Word) (s : State) : Host.Outcome State Fault Refusal :=
  ok (s.hostWriteSet 0x170020 (withBit w.toNat 4 false) 1 State.spareCtrl)

/-- SPARE_SUBST_ABORT: a write with ABORT set. -/
def execSpareSubstAbort (w : Word) (s : State) : Host.Outcome State Fault Refusal :=
  ok (s.hostWriteSet 0x170020 w.toNat 2 State.spareCtrl)

/-- SPARE_TEST_START: a write with START and TEST set. -/
def execSpareTestStart (w : Word) (s : State) : Host.Outcome State Fault Refusal :=
  ok (s.hostWriteSet 0x170020 w.toNat 17 State.spareCtrl)

/-- The target head stands at its latch line. -/
def State.atLatch (s : State) (h : Nat) : Bool :=
  let r := (s.activeSet h).raster
  let e := s.egress r
  s.enabled r && decide ((e.frame, e.line) = s.latchOf r e.frame)

/-- HEAD_SUBST_LOAD: the spare takes a copy of the sets and begins its shadow frames. Sets are held by number, so the copy shows
in nothing else. -/
def execHeadSubstLoad (s : State) : Host.Outcome State Fault Refusal :=
  let w := s.wear
  ok (if w.step = 1 ∧ w.kind = 0 ∧ s.atLatch w.target = true then
    { s.substState 2 with wear := { w with step := 2, since := (s.egress (s.activeSet w.target).raster).frame } } else s)

/-- HEAD_SUBST_MOVE: two shadow frames later, at the latch line; `mism`: the shadow frames whose CRCs differed. -/
def execHeadSubstMove (mism : Fin 3) (s : State) : Host.Outcome State Fault Refusal :=
  let w := s.wear
  ok (if w.step = 2 ∧ s.atLatch w.target = true ∧ w.since + 2 ≤ (s.egress (s.activeSet w.target).raster).frame then
    let s1 := (s.addSat F.WEAR_SUBST_STATUS_MISMATCH 0 mism).spareMove
    let f := s1.freeScaler
    ({ f.1 with wear := { f.1.wear with scaler := f.2 } }.wr F.WEAR_SUBST_STATUS_SCALER_UNTESTED 0 (b2n f.2.isNone)).ochreShow
  else s)

/-- SPARE_TEST_DONE: the test of the unit ends; a head's takes 16 frames of raster 0. A unit that fails is RETIRED. -/
def execSpareTestDone (pass : Bool) (s : State) : Host.Outcome State Fault Refusal :=
  let w := s.wear
  ok (if w.step = 6 ∧ (w.kind ≠ 0 ∨ w.since + 16 ≤ (s.pos 0).frame) then
    let s1 := { s with wear := { w with step := 0, scaler := none
                                        retired := if pass then w.retired else (w.kind * 256 + w.unit) :: w.retired } }
    let s2 := (s1.substState (if pass || !w.only then 3 else 4)).wr F.WEAR_SUBST_STATUS_PASS 0 (b2n pass)
    (s2.sparesShow.returnGrant Gc.spareTest (spareInst w.kind w.spare)).ochreShow
  else s)

/-! ### Scrubbing and repair (R445, R446) -/

/-- The burst on port `c` ends. -/
def State.scrubEnd (s : State) (c : Nat) : State := (s.wr F.WEAR_SCRUB_RUNNING c 0).returnGrant Gc.scrub c

/-- The burst on port `c` has had time to read this many per cent of the pages used when it began, at its grant's rate. -/
def State.scrubBound (s : State) (c : Nat) : Nat :=
  let b := tget s.wear.scrubs c (0, 0)
  let rate := match s.heldEntry Gc.scrub c with
    | some e => s.rd F.ADMIT_LEDGER_PARAM e % 16
    | none => 0
  if b.2 = 0 then 100 else Nat.min 100 (100 * ((s.clk - b.1) * rate * 4 / 5) / b.2)

/-- PROGRESS of a burst goes on, no further than its rate allows: live traffic may hold it back (R250), so how far is a free value. -/
def State.scrubShow (c : Nat) (s : State) : State :=
  if !s.on F.WEAR_SCRUB_RUNNING c then s
  else
    let d := s.draw
    let p := s.rd F.WEAR_SCRUB_PROGRESS c
    d.1.wr F.WEAR_SCRUB_PROGRESS c (p + d.2 % (s.scrubBound c - p + 1))

/-- A write of WEAR_SCRUB[c] +0x0: GRANT, STOP, then START. -/
def State.scrubCtrl (c w : Nat) (s : State) : State :=
  let s1 := s.wr F.WEAR_SCRUB_GRANT c (bits w 16 16)
  let s2 := if bit w 1 && s1.on F.WEAR_SCRUB_RUNNING c then s1.scrubEnd c else s1
  if bit w 0 && !s2.on F.WEAR_SCRUB_RUNNING c && s2.portUp c && s2.grantOk (bits w 16 16) Gc.scrub c then
    ({ s2 with wear := { s2.wear with scrubs := tins s2.wear.scrubs c (s2.clk, (s2.cxl c).used.length * 2 ^ 21) } }.wr
      F.WEAR_SCRUB_RUNNING c 1).wr F.WEAR_SCRUB_PROGRESS c 0
  else s2

/-- SCRUB_START: a write with START set. -/
def execScrubStart (c : Fin 4) (w : Word) (s : State) : Host.Outcome State Fault Refusal :=
  ok (s.hostWriteSet (0x170040 + 8 * c.val) w.toNat 1 (State.scrubCtrl c.val))

/-- SCRUB_STOP: a write with STOP set. -/
def execScrubStop (c : Fin 4) (w : Word) (s : State) : Host.Outcome State Fault Refusal :=
  ok (s.hostWriteSet (0x170040 + 8 * c.val) w.toNat 2 (State.scrubCtrl c.val))

/-- SCRUB_DONE: the whole capacity has been read (`full`, at the grant's rate), or the port has left service; `poison`: the regions of the poisoned
locations found. -/
def execScrubDone (c : Fin 4) (full : Bool) (poison : List Nat) (s : State) : Host.Outcome State Fault Refusal :=
  ok (if s.on F.WEAR_SCRUB_RUNNING c && ((full && decide (s.scrubBound c = 100)) || !s.portUp c) then
    let s1 := (forEach poison (fun g s => s.markRegion c.val g) s).addSat F.WEAR_SCRUB_POISON_FOUND c poison.length
    (if full then s1.wr F.WEAR_SCRUB_PROGRESS c 100 else s1).scrubEnd c.val
  else s)

/-- SOFT_REPAIR_COMPLETE: a row or column has been repaired after its address cycle, or (`spare` false) its array had no spare
left. -/
def execSoftRepairComplete (spare : Bool) (s : State) : Host.Outcome State Fault Refusal :=
  ok (if spare then s.incSat F.WEAR_REPAIR_SOFT 0 else (s.wr F.WEAR_REPAIR_NO_SPARE 0 1).faultEvent Src.otp false)

/-- PROMOTE: soft repairs go to OTP while entries are left. -/
def State.promote (s : State) : State :=
  let k := Nat.min (s.rd F.WEAR_REPAIR_SOFT 0) (s.rd F.WEAR_SPARES_REPAIRS 0)
  (s.subSat F.WEAR_REPAIR_SOFT 0 k).subSat F.WEAR_SPARES_REPAIRS 0 k

/-- A write of WEAR_REPAIR. -/
def State.repairWrite (w : Nat) (s : State) : State :=
  let s1 := if bit w 17 then s.wr F.WEAR_REPAIR_NO_SPARE 0 0 else s
  if bit w 16 then s1.promote else s1

/-- REPAIR_PROMOTE: a write with PROMOTE set. -/
def execRepairPromote (w : Word) (s : State) : Host.Outcome State Fault Refusal :=
  ok (s.hostWriteSet 0x170018 w.toNat 65536 State.repairWrite)

end Sys2Proof.Machine
end

