-- ==== Sys2Proof/Machine/Win.lean ====
section
/-! DEFINITION. The table windows of BAR2 (R504, R505, Table 20-3), unmapped accesses, and the beats of the table loader (R477). -/
namespace Sys2Proof.Machine

/-- An access to an offset that no register or table occupies, or one handled as such (R466, R499, R504): UNMAPPED, with the
offset, of BAR2 modulo 64 MiB. -/
def State.unmapped (s : State) (bar2 : Bool) (off : Nat) : State :=
  ((s.wr F.HOSTIF_UNMAPPED_OFFSET 0 off).wr F.HOSTIF_UNMAPPED_BAR2 0 (b2n bar2)).event F.HOSTIF_EVENT_UNMAPPED 0 Irq.hostif

/-! ### BAR2 (Table 20-3) -/

/-- Words of the entries of the crosspoint tables (Table 5-3). -/
def State.xActWords (s : State) (d : Nat) : List Nat := [xLow (s.xa d) (s.xlocked d), 0]
def State.xShWords (s : State) (d : Nat) : List Nat := [xLow (s.xShown d) (s.xlocked d), xHigh (s.xs d)]

/-- Words of the entries of the audio tables (Table 10-2). -/
def AEnt.word0 (e : AEnt) (rate : Nat) : Nat := e.src % 65536 + 65536 * b2n e.routed + 2 ^ 17 * (rate % 4)
def State.aActWords (s : State) (d : Nat) : List Nat :=
  let a := s.aa d
  [a.ent.word0 (s.dstRate d), a.ent.attr,
   a.delay % 2 ^ 17 + 2 ^ 17 * b2n a.dlyEn + 2 ^ 18 * (a.block % 1024) + 2 ^ 28 * (a.lane % 16),
   b2n a.conflict + 2 * b2n a.missing + 4 * b2n (!(tget s.aud.chg d []).isEmpty)]
def State.aShWords (s : State) (d : Nat) : List Nat :=
  let a := s.ash d
  let e := s.aShown d
  [e.word0 (s.dstRate d) + 2 ^ 20 * (a.stager % 8) + 2 ^ 23 * b2n a.staged + 2 ^ 24 * b2n a.pending, e.attr,
   if a.pending then a.cid % 65536 else 0, 0]

/-- The eight words of a descriptor (Table 8-4). -/
def Desc.words (d : Desc) : List Nat :=
  [d.kind % 4 + 4 * (d.width % 4) + 16 * (d.struct % 16) + 256 * (d.rate % 16) + 4096 * (d.state % 4) + 2 ^ 14 * b2n d.damaged
     + 65536 * (d.gen % 65536),
   d.capacity % 65536 + 2 ^ 16 * (d.exclude % 16) + 2 ^ 20 * (d.leaseRaster % 8) + 2 ^ 24 * (d.owner % 8)
     + 2 ^ 27 * (d.lastRaster % 8) + 2 ^ 30 * b2n d.lastValid,
   d.lease % 2 ^ 32, d.lease / 2 ^ 32 % 2 ^ 32, d.size % 2 ^ 32, d.writeSeq % 2 ^ 32, d.lastFrame % 2 ^ 32,
   d.lastFrame / 2 ^ 32 % 2 ^ 32]

/-- A window of Table 20-3: its number and the offset within it. -/
def bar2Win (off : Nat) : Option (Nat × Nat) :=
  if off < 0x10000 then some (0, off)
  else if off < 0x20000 then some (1, off - 0x10000)
  else if 0x100000 ≤ off ∧ off < 0x200000 then some (2, off - 0x100000)
  else if 0x200000 ≤ off ∧ off < 0x300000 then some (3, off - 0x200000)
  else if 0x300000 ≤ off ∧ off < 0x380000 then some (4, off - 0x300000)
  else if 0x400000 ≤ off ∧ off < 0x460000 then some (5, off - 0x400000)
  else if 0x460000 ≤ off ∧ off < 0x4C0000 then some (6, off - 0x460000)
  else if 0x800000 ≤ off ∧ off < 0x1000000 then some (7, off - 0x800000)
  else none

/-- The word at a BAR2 offset; none where the window table places nothing. -/
def State.bar2Word (s : State) (off : Nat) : Option Nat :=
  (bar2Win off).map fun p =>
    let o := p.2
    let set := fun (f : Nat → Nat → Nat → Nat) =>
      if definedWord (o % 4096 / 256) (o % 256 / 4) then f (o / 4096) (o % 4096 / 256) (o % 256 / 4) else 0
    match p.1 with
    | 0 => (s.xActWords (o / 8)).getD (o % 8 / 4) 0
    | 1 => (s.xShWords (o / 8)).getD (o % 8 / 4) 0
    | 2 => (s.aActWords (o / 16)).getD (o % 16 / 4) 0
    | 3 => (s.aShWords (o / 16)).getD (o % 16 / 4) 0
    | 4 => (s.desc (o / 32)).words.getD (o % 32 / 4) 0
    | 5 => set s.hStg
    | 6 => set s.hAct
    | _ => let t := s.flowShow (o / 128)
      Nat.land (t.fw (o / 128) (o % 128 / 4)) (flowMask (t.fDir (o / 128)) (t.fType (o / 128)) (o % 128 / 4))

/-- A write of one word in BAR2 under its table's own rule; words that no host write reaches ignore it (R504, R505). -/
def State.bar2Put (off w : Nat) (s : State) : State :=
  match bar2Win off with
  | none => s.unmapped true off
  | some (1, o) => s.shadowWrite (o / 8) (decide (o % 8 = 4)) w
  | some (3, o) => s.aShadowWrite (o / 16) (o % 16 / 4) w
  | some (5, o) => s.headStage (o / 4096) (o % 4096 / 256) (o % 256 / 4) w
  | some (7, o) => s.flowWrite (o / 128) (o % 128 / 4) w
  | some _ => s

/-- The tables whose host writes an ACTIVE device mirrors (Table 14-3). -/
def bar2Mirrored (off : Nat) : Bool := match bar2Win off with
  | some (1, _) | some (3, _) | some (5, _) => true
  | _ => false

/-- A write of this word would be refused by its table's rule (R125, R299, R257, R352). -/
def State.bar2Refuses (s : State) (off : Nat) : Bool :=
  match bar2Win off with
  | some (1, o) =>
    let d := o / 8
    decide (o % 8 = 0) && decide (firstFail ((s.xlocked d, Rc.locked) :: s.heldFails d 1 7) ≠ 0)
  | some (3, o) => ((s.ash (o / 16)).staged && decide ((s.ash (o / 16)).stager ≠ 7)) || (s.ash (o / 16)).pending
  | some (5, o) => (s.head (o / 4096)).accepted || decide ((s.head (o / 4096)).claim ≠ none ∧ (s.head (o / 4096)).claim ≠ some 7)
  | some (7, o) => decide (o % 128 < 64) && s.fValid (o / 128)
  | _ => false

/-- A host write of one word in BAR2. -/
def State.bar2Write (off w : Nat) (s : State) : State :=
  if (bar2Win off).isNone then (if s.hif.d3 || !s.pins.ready then s else s.unmapped true off)
  else s.hostWriteWin (bar2Mirrored off) 2 off w (State.bar2Put off w)

/-! ### The table loader (R477) -/

/-- Beat `k` of a transfer into the device: four words at OFFSET + 16 k, written as the host would write them; each refused entry
counts. -/
def State.tldBeat (ws : List Nat) (k : Nat) (s : State) : State :=
  let off := 16 * (s.rd F.HOSTIF_TLD_OFFSET 0 + k)
  let entries := if (bar2Win off).map (·.1) = some 1 then [off, off + 8] else [off]
  let s1 := s.addSat F.HOSTIF_TLD_REFUSED_CNT 0 (countIf entries fun o => s.bar2Refuses o)
  forEach (List.range 4) (fun j s => s.bar2Write (off + 4 * j) (ws.getD (4 * k + j) 0)) s1

/-- The beats of `n` moved that stand. The beats of one flow entry are a locked sequence (R475): where a transfer ends before its last
beat inside an entry, that entry's beats are discarded. -/
def State.tldStands (s : State) (n : Nat) : Nat :=
  let b := s.rd F.HOSTIF_TLD_OFFSET 0 + n
  if n < s.rd F.HOSTIF_TLD_LEN 0 / 16 ∧ 0 < n ∧ (bar2Win (16 * (b - 1))).map (·.1) = some 7 then n - Nat.min n (b % 8) else n

/-- The beats a running transfer has moved, up to LEN, one for every four of `ws`: with DIR IN these words, read from host memory, in
ascending order; with DIR OUT the words of BAR2 as they stand now, which are what is written to host memory (log 60). -/
def State.tldMove (s : State) (ws : List Nat) : State :=
  let n := Nat.min (ws.length / 4) (s.rd F.HOSTIF_TLD_LEN 0 / 16)
  if s.rd F.HOSTIF_TLD_STATE 0 ≠ 1 then s
  else if s.rd F.HOSTIF_TLD_DIR 0 = 0 then forEach (List.range (s.tldStands n)) (fun k s => s.tldBeat ws k) s
  else { s with hif := { s.hif with tldOut := (List.range (4 * n)).map fun j =>
    (s.bar2Word (16 * s.rd F.HOSTIF_TLD_OFFSET 0 + 4 * j)).getD 0 } }

/-- A transfer ends with STATE `st`. -/
def State.tldEnd (s : State) (st : Nat) : State := (s.wr F.HOSTIF_TLD_STATE 0 st).event F.HOSTIF_EVENT_TLD_DONE 0 Irq.hostif

end Sys2Proof.Machine
end

