-- ==== Sys2Proof/Machine/Modes.lean ====
section
/-! DEFINITION. Start-up, modes and resets (chapter 17), and enrolment (R485). -/
namespace Sys2Proof.Machine

/-! ### What resets take (R456-R461, R503, Table 17-3) -/

/-- Reset domain of the field a bit address belongs to (Table 20-2). -/
def regDom (k : Nat) : Dom := match (fieldsAt (k / 32 * 4)).find? fun f => f.1.key f.2.1 = k with
  | some f => f.1.dom
  | none => .c

/-- The register fields that a warm reset, or (`hostOnly`) a host-interface reset, returns to their reset values. -/
def State.dropRegs (s : State) (hostOnly : Bool) : State :=
  { s with regs := s.regs.filter fun e => regDom e.1 = .c || (hostOnly && regDom e.1 = .w) }


/-- The matrix log of a tenure (R476), with its device event. -/
def State.mlog (s : State) (m t left : Nat) (wr lock : Bool) : State :=
  let s1 := ((((s.wr F.HOSTIF_MLOG_MASTER 0 m).wr F.HOSTIF_MLOG_TARGET 0 t).wr F.HOSTIF_MLOG_WRITE 0 (b2n wr)).wr
    F.HOSTIF_MLOG_BEATS_LEFT 0 left).wr F.HOSTIF_MLOG_LOCKED 0 (b2n lock)
  (s1.addWrap F.HOSTIF_MLOG_CNT_COUNT 0 1).faultEvent Src.hostif false

/-- A master is reset in the middle of a burst (R476): dummy beats end it, its lock is released, and it is logged. -/
def State.masterReset (s : State) (b : Burst) : State := match b with
  | none => s
  | some (m, t, wr, left, lock) => (s.mlog m t left wr lock).event F.HOSTIF_EVENT_MASTER_RESET 0 Irq.hostif

/-- A summary not yet written is discarded, a table-loader transfer ends ABORTED. -/
def State.hostJobsEnd (s : State) : State :=
  let st := s.rd F.HOSTIF_SUM_STATUS_STATE 0
  let s1 := if st = 1 ∨ st = 2 then s.wr F.HOSTIF_SUM_STATUS_STATE 0 4 else s
  if s.rd F.HOSTIF_TLD_STATE 0 = 1 then s1.tldEnd 4 else s1

/-- Every transmit timestamp queue is emptied (R392). -/
def State.ptpFlushAll (s : State) : State := forEach (List.range 9) (fun q s => s.ptpFlush q) s

/-- A host-interface reset (R461). -/
def State.hostReset (s : State) (b : Burst) : State :=
  let s1 := (s.ptpFlushAll.hostJobsEnd.dropRegs true).masterReset b
  (forEach (List.range 5) (fun n s => s.setEng n { s.eng n with fetching := false }) s1).wr F.TOP_RESET_STATUS_HOSTIF_RST 0 1

/-- HOST_IF_RESET: PCI Express hot reset, link down or Function Level Reset; `tld`: the words a running table-loader transfer had
moved in by then. -/
def execHostIfReset (b : Burst) (tld : List Nat) (s : State) : Host.Outcome State Fault Refusal := ok ((s.tldMove tld).hostReset b)

/-- D3HOT_ENTRY: a host-interface reset, and BAR decoding stops (R467). -/
def execD3hotEntry (b : Burst) (tld : List Nat) (s : State) : Host.Outcome State Fault Refusal :=
  let s1 := (s.tldMove tld).hostReset b
  ok { s1 with hif := { s1.hif with d3 := true } }

/-- D0_RESTORE. -/
def execD0Restore (s : State) : Host.Outcome State Fault Refusal := ok { s with hif := { s.hif with d3 := false } }

/-- Staged words and commits not yet in effect are discarded (R131, R283, R300). -/
def State.stagedEnd (s : State) : State :=
  let s1 := { s.discardCommits with xShadow := [] }
  let s2 := s1.aud.commits.foldl (fun s c => s.aDiscard c) s1
  let s3 := forEach (List.range 96) (fun h s => (s.headDiscard h).setHead h { (s.headDiscard h).head h with claim := none })
    { s2 with aud := { s2.aud with sh := [] } }
  { s3 with headStg := [] }

/-- The engines stop and lose everything but their memories (R157, Table 20-2). -/
def State.enginesWarm (s : State) : State :=
  let one := fun (n : Nat) (s : State) =>
    let s1 := ((((((s.wr F.CUE_STATUS_RS n 0).wr F.CUE_STATUS_DIVERGED n 0).wr F.CUE_STATUS_FAULT_CLASS n 0).wr F.CUE_STATUS_FAULT_CODE n 0).wr
      F.CUE_STATUS_CTRL_REFUSED n 0).wr F.CUE_STATUS_REFUSED_ANY n 0).wr F.CUE_STATUS_STOP_CAUSE n 2
    let s2 := s1.setEng n {}
    if s.es n = Es.spare ∨ s.es n = Es.retired then s2 else s2.wr F.CUE_STATUS_STATE n Es.stopped
  let s1 := forEach (List.range 5) one s
  { s1 with subst := { testing := s.subst.testing } }

/-- A plane substitution before SWITCH_BEGUN is abandoned with REASON RESET; a later one goes on (R141). -/
def State.psubWarm (s : State) : State := if s.psubStep = 1 ∨ s.psubStep = 2 then s.psubAbandon 2 else s

/-- Every fault window is emptied and every HOLD released (R436). -/
def State.faultsWarm (s : State) : State :=
  forEach (List.range 49) (fun i s => s.wr F.FLT_SRC_STAT_IN_WIN i 0) { s with flt := { s.flt with win := [], holds := [] } }

/-- Every commit, latch and audio change whose effect falls in this clock takes effect (R459). -/
def State.takeDue (s : State) : State :=
  let s1 := forEach (List.range 8) (fun r s => forEach (List.range s.xCommits.length) (fun _ s => s.xptEffect r) s) s
  let s2 := forEach (List.range s1.aud.commits.length) (fun _ s => s.audioEffect) s1
  forEach (List.range 96) State.headEffect s2

/-- A warm reset (R459, R460, Table 17-3): READY drops; the pair leaves IN_STEP. -/
def State.warmReset (s : State) (b : Burst) : State :=
  let s := s.takeDue
  let s1 := { s with adm := { s.adm with queue := [] } }.stagedEnd.enginesWarm.psubWarm.faultsWarm.ptpFlushAll.hostJobsEnd
  let s2 := { (s1.dropRegs false).masterReset b with pins := { s.pins with ready := false } }
  let s3 := { s2 with keys := { s2.keys with msg := [] } }
  ((s3.clearInStep.setTwin fun t => { t with alone := true, transferring := false }).incSat F.TOP_RESET_STATUS_WARM_CNT 0).admShow

/-- WARM of TOP_RESET_CTRL. -/
def State.warmCtrl (s : State) (b : Burst) : State :=
  if Mode.standalone ≤ s.mode then s.warmReset b else s.wr F.TOP_RESET_STATUS_WARM_REFUSED 0 1

/-- WARM_RESET_COMPLETE: READY returns; an ACTIVE device then begins a state transfer (R460). -/
def execWarmResetComplete (s : State) : Host.Outcome State Fault Refusal :=
  ok (if !s.pins.ready && decide (Mode.standalone ≤ s.mode) then
    let s1 := { s with pins := { s.pins with ready := true } }
    if s.mode = Mode.active ∧ Ps.transfer ≤ s.pair ∧ s.pair ≤ Ps.inStep then s1.startTransfer else s1
  else s)

/-- What a cold reset leaves (R436, R441, R446, R457, R485): the state after power-up with what OTP records (retirements, hour
steps, repair entries, the key counter, the owner hash), THERMTRIP_N (R425), and what does not belong to RST_N: the pins' levels,
the TAP, and the model's own queue and counter of free values. -/
def State.coldState (s : State) (cause : Nat) : State :=
  let keep := fun (f : Fld) (n : Nat) (t : State) => forEach (List.range n) (fun i t => t.wr f i (s.rd f i)) t
  let only := fun (f : Fld) (n v : Nat) (t : State) => forEach (List.range n) (fun i t => if s.rd f i = v then t.wr f i v else t) t
  let base : State :=
    { freeCtr := s.freeCtr, pending := s.pending
      pins := { rstN := s.pins.rstN, thermtripN := s.pins.thermtripN, tapIr := s.pins.tapIr, rstAt := s.pins.rstAt }
      gpis := (s.gpis.filter fun g => g.2.raw).map fun g => (g.1, { raw := true })
      adm := { trip := s.adm.trip }
      keys := { ownerHash := s.keys.ownerHash, helper := s.keys.helper, check := s.keys.check }
      twin := { parting := s.twin.parting }
      wear := { retired := s.wear.retired, laneOtp := s.wear.laneOtp } }
  let t1 := keep F.WEAR_HIST_CTRL_OTP_STEPS 1 (keep F.WEAR_SPARES_REPAIRS 1 (keep F.KEYS_STATUS_OTP_CTR 1
    (keep F.KEYS_STATUS_ENROLLED 1 (keep F.CUE_PMAP_RETIRED 1 (keep F.TOP_BOOT_DBG_DISABLED 1 base)))))
  ((only F.XPT_PLANE_STATUS_STATE 9 4 (only F.FAB_LANE_STATUS_STATE 152 Ln.retired t1)).wr F.TOP_RESET_STATUS_COLD_CAUSE 0
    cause).wr F.TOP_DEV_MODE_MODE 0 Mode.reset

/-- A cold reset (R458): an ACTIVE device gives up first, and its GIVEUP leaves. The reason such a GIVEUP carries is not
stated: a free value. -/
def State.coldReset (s0 : State) (cause : Nat) : State :=
  let s := s0.burnLoss
  if s.mode = Mode.active then
    let d := s.draw
    let g := d.1.giveUpTo (d.2 % 256) Mode.standby
    (g.setTwin fun t => { t with parting := t.unacked.head? }).coldState cause
  else s.coldState cause

/-- RST_N_ASSERT: RST_N has been low for 1 us. -/
def execRstNAssert (s : State) : Host.Outcome State Fault Refusal :=
  let t := s.coldReset 0
  ok { t with pins := { t.pins with rstN := false } }

/-- RAIL_UNDERVOLTAGE: a monitored rail has been below its threshold for 200 ns: as RST_N held low (R517). -/
def execRailUndervoltage (s : State) : Host.Outcome State Fault Refusal :=
  let t := s.coldReset 0
  ok { t with pins := { t.pins with rstN := false } }

/-- INIT begins: MODE, its first step, and the filters of the general-purpose inputs sample for the first time (R49). -/
def State.initBegin (s : State) : State := (s.gpiSettle.wr F.TOP_DEV_MODE_MODE 0 Mode.init).wr F.TOP_INIT_STATUS_STEP 0 1

/-- RST_N_RELEASE: the rising edge of RST_N, with the straps' levels. -/
def execRstNRelease (dbg enrol : Bool) (smb : Fin 4) (s : State) : Host.Outcome State Fault Refusal :=
  ok (if s.pins.rstN then s
  else
    let s1 := { s with pins := { s.pins with rstN := true, dbgEn := dbg, enrol := enrol, smbAddr := smb.val, rstAt := s.clk } }
    (((s1.wr F.TOP_DEV_MODE_DBG_STRAP 0 (b2n dbg)).wr F.TOP_DEV_MODE_ENROL_STRAP 0 (b2n enrol)).wr F.TOP_BOOT_SMB_ADDR 0
      smb.val).initBegin)

/-- COLD of TOP_RESET_CTRL: RST_N stays high, so INIT follows at once with the straps as latched (log 31). -/
def State.coldCtrl (s : State) (cause : Nat) : State :=
  let p := s.pins
  let t := s.coldReset cause
  let t1 := { t with pins := { t.pins with dbgEn := p.dbgEn, enrol := p.enrol, smbAddr := p.smbAddr } }
  (((t1.wr F.TOP_DEV_MODE_DBG_STRAP 0 (b2n p.dbgEn)).wr F.TOP_DEV_MODE_ENROL_STRAP 0 (b2n p.enrol)).wr F.TOP_BOOT_SMB_ADDR 0
    p.smbAddr).initBegin

/-- BLOCK of TOP_RESET_CTRL (R462). -/
def State.blockCtrl (s : State) : State :=
  let src := s.rd F.TOP_RESET_CTRL_BLOCK_SRC 0
  if resettable src then s.blockReset src else s.wr F.TOP_RESET_STATUS_BLOCK_REFUSED 0 1

/-- A write of TOP_RESET_CTRL: BLOCK, then WARM; COLD overrides both. `cause` is COLD_CAUSE of the writer. -/
def State.resetCtrl (cause : Nat) (b : Burst) (w : Nat) (s : State) : State :=
  let s1 := s.writeField F.TOP_RESET_CTRL_BLOCK_SRC 0 (bits w 8 6)
  if bit w 1 then s1.coldCtrl cause
  else
    let s2 := if bit w 2 then s1.blockCtrl else s1
    if bit w 0 then s2.warmCtrl b else s2

/-- WARM_RESET: a write with WARM set. -/
def execWarmReset (w : Word) (b : Burst) (tld : List Nat) (s : State) : Host.Outcome State Fault Refusal :=
  ok (s.hostWriteSet 0x20 w.toNat 1 fun v s => (s.tldMove tld).resetCtrl 1 b v)

/-- COLD_RESET_CMD: a write with COLD set. -/
def execColdResetCmd (w : Word) (s : State) : Host.Outcome State Fault Refusal :=
  ok (s.hostWriteSet 0x20 w.toNat 2 (State.resetCtrl 1 none))

/-- BLOCK_RESET_CMD: a write with BLOCK set. -/
def execBlockResetCmd (w : Word) (s : State) : Host.Outcome State Fault Refusal :=
  ok (s.hostWriteSet 0x20 w.toNat 4 (State.resetCtrl 1 none))

/-! ### INIT (R449-R451) -/

/-- INIT applies a recorded plane retirement (R121, R141). -/
def State.loadPlanes (s : State) : State :=
  match (List.range 8).find? fun k => s.rd F.XPT_PLANE_STATUS_STATE k = 4 with
  | some k => ((s.wr F.XPT_PLANE_MAP_PHYS k 8).wr F.XPT_PLANE_STATUS_STATE 8 0).wr F.WEAR_SPARES_PLANE 0 0
  | none => s

/-- INIT applies recorded lane retirements to FAB_LMAP and the spare roles (R340). -/
def State.loadLanes (s : State) : State :=
  let phys := fun (j : Nat) => tget s.wear.laneOtp j j
  let s1 := forEach (List.range 144) (fun j s => (s.wr F.FAB_LMAP_PHYS j (phys j)).wr F.FAB_LANE_STATUS_LOGICAL (phys j) j) s
  let s2 := forEach (List.range 8) (fun k s => s.wr F.FAB_SPARE_CFG_IN_USE k (b2n (decide (s.rd F.FAB_LANE_STATUS_LOGICAL (144 + k)
    ≠ 0xFF)))) s1
  s2.wr F.WEAR_SPARES_LANES 0 (8 - countIf (List.range 152) fun n => s.laneSt n = Ln.retired)

/-- INIT applies recorded engine retirements (R449, log 32): the spare takes the number of the lowest retired engine; a number that
is left with a retired engine stands RETIRED. -/
def State.loadEngines (s : State) : State :=
  let gone := fun (j : Nat) => bit (s.rd F.CUE_PMAP_RETIRED 0) j
  let s1 := if gone 4 then s.wr F.CUE_STATUS_STATE 4 Es.retired
    else match (List.range 4).find? gone with
      | some j => ((s.wr F.CUE_PMAP_PHYS j 4).wr F.CUE_PMAP_PHYS 4 j).wr F.CUE_STATUS_STATE 4 Es.retired
      | none => s
  (forEach ((List.range 4).filter fun j => gone (s1.phys j)) (fun j s => s.wr F.CUE_STATUS_STATE j Es.retired) s1).spareShow

/-- What INIT loads from OTP. -/
def State.loadOtp (s : State) : State :=
  let s1 := (s.loadPlanes.loadLanes.loadEngines.sparesShow).wr F.ADMIT_AVS_STATUS_V_FUSE 0 Config.vFuse
  { s1.wr F.ADMIT_AVS_STATUS_TARGET 0 800 with adm := { s1.adm with written := 800, acked := 800 } }

/-- Enrolment runs in this INIT (R485). -/
def State.enrols (s : State) : Bool := s.pins.enrol && !s.pins.dbgEn && !s.on F.KEYS_STATUS_ENROLLED 0

/-- READY_ASSERT: steps 1 to 4 of INIT are complete. `cells`: the start-up state of the root's SRAM, 16 words, which is read unless
DBG_EN is latched high; an enrolled unit regenerates its root from it (R482, R483). Of the
steps that follow, a self-test needs no command, so an enrolment's wait begins here (log 33). -/
def execReadyAssert (cells : List Nat) (s : State) : Host.Outcome State Fault Refusal :=
  ok (if !s.pins.rstN || s.mode ≠ Mode.init || s.pins.ready || s.on F.TOP_INIT_STATUS_FAIL 0 then s
  else
    let s1 := { s.loadOtp with pins := { s.pins with ready := true } }
    let s2 := (s1.synLock 12).synLock 13
    let s3 := if s.pins.dbgEn then { (s2.wr F.KEYS_STATUS_TEST_ROOT 0 1).wr F.KEYS_STATUS_ROOT_OK 0 1 with keys := { s2.keys with root := testRoot } }
      else if !s.on F.KEYS_STATUS_ENROLLED 0 then { s2 with keys := { s2.keys with cells := cells } }
      else match s.regenerate cells with
        | some root => { s2.wr F.KEYS_STATUS_ROOT_OK 0 1 with keys := { s2.keys with cells := cells, root := root } }
        | none => { s2.wr F.TOP_INIT_STATUS_ROOT_FAIL 0 1 with keys := { s2.keys with cells := cells } }
    if s.enrols then
      { (s3.wr F.TOP_INIT_STATUS_STEP 0 6).wr F.TOP_ENROL_CTRL_REQ 0 1 with keys := { s3.keys with enrolAt := s.clk } }
    else s3.wr F.TOP_INIT_STATUS_STEP 0 5)

/-- INIT_COMPLETE: INIT ends, or stops where OTP cannot be read (`otp` false) or an array cannot be repaired (`repair` false). -/
def execInitComplete (otp repair : Bool) (s : State) : Host.Outcome State Fault Refusal :=
  ok (if !s.pins.rstN || s.mode ≠ Mode.init || s.on F.TOP_INIT_STATUS_FAIL 0 then s
  else if !otp then (if s.pins.ready then s else (s.wr F.TOP_INIT_STATUS_FAIL 0 1).wr F.TOP_INIT_STATUS_STEP 0 2)
  else if !s.pins.ready then s
  else if !repair then (s.wr F.TOP_INIT_STATUS_FAIL 0 2).wr F.TOP_INIT_STATUS_STEP 0 5
  else if s.on F.TOP_ENROL_CTRL_REQ 0 then s
  else
    let lo := s.draw
    let hi := lo.1.draw
    let s1 := ((hi.1.wr F.KEYS_NONCE_LO 0 lo.2).wr F.KEYS_NONCE_HI 0 hi.2).wr F.KEYS_STATUS_TRNG_OK 0 1
    let s2 := ((s1.wr F.TOP_INIT_STATUS_STEP 0 0).wr F.TOP_INIT_STATUS_SELFTEST_PCT 0 100).setMode Mode.calibrate
    let s3 := { s2 with wear := { s2.wear with left := some s.clk } }
    if s.on F.TOP_INIT_STATUS_ROOT_FAIL 0 then s3.faultEvent Src.keys false else s3)

/-! ### Enrolment (R485) -/

/-- Zero TOP_ENROL_OUT. -/
def State.enrolZero (s : State) : State :=
  (forEach (List.range 44) (fun i s => s.wr F.TOP_ENROL_OUT_WORD i 0) s).wr F.TOP_ENROL_CTRL_OUT_VALID 0 0

/-- The owner key as written: 97 bytes. -/
def State.ownerKey (s : State) : List Nat :=
  (wordBytes ((List.range 25).map fun i => s.rd F.TOP_ENROL_KEY_WORD i)).take 97

/-- KEY_GO: the key is checked; the helper data for the cells as this start read them, the check value and the owner key's hash are
fused, and the binding key leaves encrypted to the owner key. -/
def State.enrolGo (s : State) : State :=
  if !s.on F.TOP_ENROL_CTRL_REQ 0 then s
  else
    let s0 := s.wr F.TOP_ENROL_CTRL_REQ 0 0
    if !Config.p384Valid s.ownerKey then s0.wr F.TOP_ENROL_CTRL_KEY_BAD 0 1
    else
      let d := s0.draw
      let root := rootOf s.keys.cells
      let out := Config.enrolOut (bindingKey root) s.ownerKey d.2
      let s1 := { d.1 with keys := { d.1.keys with ownerHash := Config.sha384 s.ownerKey, root := root, helper := s.keys.cells
                                                   check := rootCheck root } }
      let s2 := ((s1.wr F.KEYS_STATUS_ENROLLED 0 1).wr F.KEYS_STATUS_ROOT_OK 0 1).wr F.TOP_INIT_STATUS_ENROLLED 0 1
      (forEach (List.range 44) (fun i s => s.wr F.TOP_ENROL_OUT_WORD i (wordAt (out.take 173) (4 * i))) s2).wr
        F.TOP_ENROL_CTRL_OUT_VALID 0 1

/-- A write of TOP_ENROL_CTRL: KEY_GO, then ACK. -/
def State.enrolCtrl (w : Nat) (s : State) : State :=
  let s1 := if bit w 1 then s.enrolGo else s
  if bit w 3 then s1.enrolZero else s1

/-- ENROL_KEY_GO: a write with KEY_GO set. -/
def execEnrolKeyGo (w : Word) (s : State) : Host.Outcome State Fault Refusal :=
  ok (s.hostWriteSet 0x200 w.toNat 2 State.enrolCtrl)

/-- ENROL_TIMEOUT: 1.5 s have passed since REQ. -/
def execEnrolTimeout (s : State) : Host.Outcome State Fault Refusal :=
  ok (if s.on F.TOP_ENROL_CTRL_REQ 0 && decide (s.keys.enrolAt + 1500 * msClk ≤ s.clk) then s.wr F.TOP_ENROL_CTRL_REQ 0 0 else s)

/-- ENROL_ACK: a write with ACK set. -/
def execEnrolAck (w : Word) (s : State) : Host.Outcome State Fault Refusal :=
  ok (s.hostWriteSet 0x200 w.toNat 8 State.enrolCtrl)

/-! ### CALIBRATE (R452, R453) -/

/-- Stage LINKS: the lanes requested ACTIVE, the TL lanes and the CXL ports train. -/
def State.linksBegin (s : State) : State :=
  let s1 := s.wr F.TOP_DEV_MODE_CAL_STAGE 0 2
  let s2 := forEach (List.range 152) (fun n s => s.laneFollow n (s.rd F.FAB_LANE_CTRL_STATE_REQ n)) s1
  let s3 := forEach (List.range 4) (fun c s => s.cxlTrain c) s2
  if s3.on F.COBALT_CTRL_PAIR_EN 0 then forEach (List.range 4) (fun i s => s.wr F.COBALT_LANE_STATE i 1) s3 else s3

/-- Stage CLOCKS ends when CORE, CTRL and PIX have their primaries. -/
def State.clocksDone (s : State) : State :=
  if s.mode = Mode.calibrate && s.rd F.TOP_DEV_MODE_CAL_STAGE 0 = 1 && (List.range 3).all (fun y => s.on F.SYNTH_STATUS_LOCKED y) then
    s.linksBegin else s

/-- SYNTH_LOCK: 1 ms gates of a synthesiser that is not retired, signed errors in 0.01 ppm; after eight within 2 ppm in a row it is
locked (R85). -/
def execSynthLock (g : Fin 16 × List Nat) (s : State) : Host.Outcome State Fault Refusal :=
  let y := g.1
  let s1 := forEach g.2 (fun e s => s.synGate y.val (sx 32 e)) s
  ok (if s.on F.SYNTH_STATUS_RETIRED y.val then s
  else if s.on F.SYNTH_STATUS_LOCKED y.val || decide ((s1.syn y.val).near < 8) then s1
  else (s1.synLock y.val).clocksDone)

/-- CAL_GO: the working stage begins with the core voltage target and stage CLOCKS. -/
def State.calGo (s : State) : State :=
  if s.mode ≠ Mode.calibrate ∨ s.rd F.TOP_DEV_MODE_CAL_STAGE 0 ≠ 0 then s.wr F.TOP_MODE_REQ_REQ_REFUSED 0 1
  else
    let s1 := (s.wr F.TOP_DEV_MODE_CAL_STAGE 0 1).enrolZero
    (s1.setTarget (s1.rd F.ADMIT_AVS_STATUS_V_FUSE 0 + s1.rd F.ADMIT_AVS_CFG_MARGIN 0)).clocksDone

/-- CALIBRATE_DONE: CLOCKS and LINKS are complete. Lanes without frame lock stand in L-IDLE (R335); R26 is judged. -/
def execCalibrateDone (s : State) : Host.Outcome State Fault Refusal :=
  let st := s.rd F.TOP_DEV_MODE_CAL_STAGE 0
  let idle := fun (n : Nat) (s : State) =>
    if Ln.training ≤ s.laneSt n ∧ s.laneSt n ≤ Ln.blockLock ∧ !s.framed n then s.wr F.FAB_LANE_STATUS_STATE n Ln.idle else s
  ok (if s.mode = Mode.calibrate ∧ (st = 1 ∨ st = 2) then
    ((forEach (List.range 152) idle ((s.synExclude.wr F.TOP_DEV_MODE_CAL_STAGE 0 3).wr F.TOP_DEV_MODE_CAL_DONE 0 1)).wr
      F.TOP_DEV_MODE_MEM_SHORT 0 (b2n (!s.memOk)))
  else s)

/-! ### Mode requests (R454, R455, Table 17-1) -/

/-- The first condition that fails gives the code. -/
def firstCode (l : List (Bool × Nat)) : Nat := ((l.find? (·.1)).map (·.2)).getD 0

/-- A source with ACTION SAFE is severe. -/
def State.safeCause (s : State) : Bool := (List.range 49).any fun i => s.on F.FLT_SEVERE_SRC i && s.rd F.FLT_SRC_CFG_ACTION i = 4

/-- The judgement of a request for mode `t`: 0 where Table 17-1 makes the transition. -/
def State.modeCode (s : State) (t : Nat) : Nat :=
  let m := s.mode
  let cal := [(!s.on F.TOP_DEV_MODE_CAL_DONE 0, 2), (s.on F.TOP_DEV_MODE_MEM_SHORT 0, 3), (!s.enabled 0, 4), (s.pins.dbgEn, 8)]
  let past := decide (Ps.transfer ≤ s.pair ∧ s.pair ≤ Ps.inStep)
  if m = Mode.calibrate ∧ t = Mode.standalone then firstCode cal
  else if m = Mode.calibrate ∧ t = Mode.active then firstCode (cal ++ [(!past || decide (s.role ≠ 1), 5)])
  else if m = Mode.calibrate ∧ t = Mode.standby then firstCode (cal ++ [(!past || decide (s.role ≠ 2), 5)])
  else if m = Mode.calibrate ∧ t = Mode.debug then
    firstCode [(!s.on F.TOP_DEV_MODE_CAL_DONE 0, 2), (!s.pins.dbgEn || s.on F.TOP_BOOT_DBG_DISABLED 0, 8)]
  else if m = Mode.active ∧ t = Mode.standalone then
    firstCode [(decide (s.pair ≠ Ps.off ∧ s.pair ≠ Ps.lost ∧ s.pair ≠ Ps.failed), 7)]
  else if m = Mode.active ∧ t = Mode.standby then 0
  else if (m = Mode.standalone ∨ m = Mode.active ∨ m = Mode.standby) ∧ t = Mode.safe then 0
  else if m = Mode.safe ∧ t = Mode.standalone then
    firstCode [(s.safeCause, 6), (decide (s.pair = Ps.inStep ∧ s.twin.peerMode = Mode.active), 7)]
  else if m = Mode.safe ∧ t = Mode.standby then
    firstCode [(s.safeCause, 6), (decide (s.twin.peerMode ≠ Mode.active) || !s.on F.COBALT_STATUS_LINK_UP 0, 5)]
  else 1

/-- Make a permitted transition. -/
def State.modeGo (s : State) (t : Nat) : State :=
  if t = Mode.safe then s.enterSafe
  else if s.mode = Mode.active ∧ t = Mode.standby then
    let d := s.draw
    d.1.giveUp (d.2 % 256)
  else if s.mode = Mode.safe ∧ t = Mode.standby then (s.setMode t).setTwin fun x => { x with resyncAsked := true }
  else s.setMode t

/-- GO of TOP_MODE_REQ. -/
def State.modeReq (s : State) : State :=
  let t := s.rd F.TOP_MODE_REQ_TARGET 0
  let code := s.modeCode t
  let s1 := (s.wr F.TOP_MODE_REQ_RESULT 0 code).wr F.TOP_MODE_REQ_STATE 0 (if code = 0 then 1 else 2)
  if code = 0 then (s1.modeGo t).reselect else s1.wr F.TOP_MODE_REQ_REQ_REFUSED 0 1

/-- A write of TOP_MODE_REQ: TARGET, CAL_GO, then GO. -/
def State.modeWrite (w : Nat) (s : State) : State :=
  let s1 := s.writeWord 0x14 w
  let s2 := if bit w 4 then s1.calGo else s1
  if bit w 3 then s2.modeReq else s2

/-- CAL_GO: a write with CAL_GO set. -/
def execCalGo (w : Word) (s : State) : Host.Outcome State Fault Refusal :=
  ok (s.hostWriteSet 0x14 w.toNat 16 State.modeWrite)

/-- MODE_REQUEST: a write with GO set. -/
def execModeRequest (w : Word) (s : State) : Host.Outcome State Fault Refusal :=
  ok (s.hostWriteSet 0x14 w.toNat 8 State.modeWrite)

end Sys2Proof.Machine
end

