-- ==== Sys2Proof/Machine/Bar.lean ====
section
/-! DEFINITION. Register reads of BAR0 with their effects and captures (R6, R499, R500), and unmapped host accesses (R466). -/
namespace Sys2Proof.Machine

/-- What the last host read returned. -/
def State.answer (s : State) (v : Nat) : State := { s with hif := { s.hif with lastRead := v } }

/-- UNMAPPED_ACCESS: a host access to an unmapped offset, or a partial or oversized write (R499, R505). With the BARs not decoded
or READY low it meets nothing (R459, R467). -/
def execUnmappedAccess (bar2 : Bool) (off : Nat) (write : Bool) (s : State) : Host.Outcome State Fault Refusal :=
  ok (if s.hif.d3 then s
  else if !s.pins.ready then (if write then s else s.answer 0xFFFFFFFF)
  else
    let s1 := s.unmapped bar2 off
    if write then s1 else s1.answer 0)

/-! ### Register reads (R6, R499, R500) -/

/-- FLT_SRC_STAT IN_WIN of source `i`: the events that lie in its window now (R430). -/
def State.winShow (i : Nat) (s : State) : State :=
  let w := s.rd F.FLT_SRC_CFG_W i * msClk
  s.wr F.FLT_SRC_STAT_IN_WIN i (Nat.min 255 (countIf (tget s.flt.win i []) fun e => decide (s.clk < e.at' + w)))

/-- Bring the registers of a word's block up to date where they follow other state or time. -/
def State.refresh (off : Nat) (s : State) : State :=
  match blockOf off with
  | some .slate => if off % 64 = 0x18 ∧ 0x10200 ≤ off ∧ off < 0x10400 then
      s.wr F.SLATE_RASTER_STATUS_IN_USE ((off - 0x10200) / 64) (b2n (s.inUse ((off - 0x10200) / 64))) else s
  | some .refsel => (forEach (List.range 8) State.refselShow s).histShow.ctlShow
  | some .vermilion => if 0x160400 ≤ off ∧ off < 0x160710 then s.winShow ((off - 0x160400) / 16) else s.causeShow
  | some .ochre => if off < 0xA1000 then s.ochreShow.lutShow else s
  | some .admission => if off < 0x150020 then s.admShow else s
  | some .media => if off = 0x100018 then s.poolShow else s
  | some .wear => if off = 0x170000 then s.hoursShow else if 0x170040 ≤ off ∧ off < 0x170060 then s.scrubShow ((off - 0x170040) / 8) else s
  | some .keys => s.keysShow
  | _ => s

/-- The value a word shows now. g and k read 0 while their engine is RUNNING or WAITING (chapter 6); the second port of a 24G
pair shows no AUDIO_PORT, and of ALIGN_PORT only its CFG. -/
def State.wordNow (s : State) (off : Nat) : Nat :=
  if 0x70000 ≤ off ∧ off < 0x80000 then s.cueWinRead ((off - 0x70000) / 4)
  else if 0x61000 ≤ off ∧ off < 0x61500 ∧ 0x80 ≤ off % 256 then
    let n := (off - 0x61000) / 256
    if s.es n = Es.running ∨ s.es n = Es.waiting then 0 else s.readWord off
  else if 0xC4000 ≤ off ∧ off < 0xC8800 ∧ s.second24 ((off - 0xC4000) / 16) = true then 0
  else if 0x56000 ≤ off ∧ off < 0x5F000 ∧ off % 32 ≠ 0 ∧ s.second24 ((off - 0x56000) / 32) = true then 0
  else s.readWord off

/-- The multi-word read-only registers that the device updates (R500): offset of the first, words, the two strides and counts. -/
def captureRegs : List (Nat × Nat × (Nat × Nat) × (Nat × Nat)) :=
  [(0x10020, 4, (0, 1), (0, 1)), (0x10100, 4, (0x10, 8), (0, 1)), (0x109A0, 8, (0, 1), (0, 1)), (0x20038, 2, (0, 1), (0, 1)),
   (0x20050, 2, (0, 1), (0, 1)), (0x20058, 2, (0, 1), (0, 1)), (0x40020, 2, (0, 1), (0, 1)), (0x40040, 2, (8, 8), (0, 1)),
   (0x61040, 2, (0x100, 5), (0, 1)), (0x610C0, 4, (0x100, 5), (0x10, 4)), (0x80008, 2, (0, 1), (0, 1)),
   (0x80050, 4, (0, 1), (0, 1)), (0xA0050, 4, (0, 1), (0, 1)), (0xA1000, 4, (0x20, 96), (0, 1)), (0xC0020, 4, (0, 1), (0, 1)),
   (0x101008, 2, (0x40, 32), (0, 1)), (0x101018, 2, (0x40, 32), (0, 1)), (0x120208, 2, (0, 1), (0, 1)),
   (0x120218, 2, (0, 1), (0, 1)), (0x130410, 4, (0x40, 9), (0, 1)), (0x140020, 2, (0, 1), (0, 1)), (0x158000, 2, (8, 4096), (0, 1)),
   (0x160008, 2, (0, 1), (0, 1)), (0x160018, 2, (0, 1), (0, 1)), (0x164000, 8, (0x20, 512), (0, 1)), (0x170010, 2, (0, 1), (0, 1)),
   (0x170100, 3, (0x10, 15), (0, 1)), (0x180020, 3, (0, 1), (0, 1)), (0x190018, 2, (0, 1), (0, 1)), (0x1A0004, 4, (0x20, 64), (0, 1))]

/-- The multi-word register a word belongs to: its first word and its length. -/
def captureOf (off : Nat) : Option (Nat × Nat) :=
  captureRegs.findSome? fun r =>
    let o := off - r.1
    let i := if r.2.2.1.1 = 0 then 0 else o / r.2.2.1.1
    let o1 := if r.2.2.1.1 = 0 then o else o % r.2.2.1.1
    let j := if r.2.2.2.1 = 0 then 0 else o1 / r.2.2.2.1
    let o2 := if r.2.2.2.1 = 0 then o1 else o1 % r.2.2.2.1
    if r.1 ≤ off ∧ i < r.2.2.1.2 ∧ j < r.2.2.2.2 ∧ o2 < 4 * r.2.1 then some (off - o2, r.2.1) else none

/-- Master `m` reads the lowest word of a multi-word register: every word of it is captured for that master (R500). -/
def State.capture (s : State) (m b n : Nat) : State :=
  { s with hif := { s.hif with captures := (List.range n).foldl (fun (t : Tab Nat) k =>
      tins t (m * 2 ^ 26 + b + 4 * k) (s.wordNow (b + 4 * k) + 1)) s.hif.captures } }

/-- Master `m` reads a mapped word: the captured value of a higher word, else the present one; `clear`: its RC fields clear. -/
def State.readReg (s : State) (m off : Nat) (clear : Bool) : State × Nat :=
  let s1 := s.refresh off
  let now := s1.wordNow off
  let r := match captureOf off with
    | none => (s1, now)
    | some (b, n) =>
      if off = b then (s1.capture m b n, now)
      else
        let c := tget s1.hif.captures (m * 2 ^ 26 + off) 0
        (s1, if c = 0 then now else c - 1)
  (if clear then r.1.readClear off else r.1, r.2)

/-- A BAR0 offset that a register or the engine memory window occupies. -/
def bar0Mapped (off : Nat) : Bool := decide (off % 4 = 0) && (mapped off || decide (0x70000 ≤ off ∧ off < 0x80000))

/-- A host read of a BAR0 word (R459, R466, R467). -/
def State.hostRead (s : State) (off : Nat) : State :=
  if s.hif.d3 then s
  else if !s.pins.ready then s.answer (if off = 0x10 ∨ off = 0x24 then s.wordNow off else 0xFFFFFFFF)
  else if bar0Mapped off then
    let r := s.readReg 0 off true
    r.1.answer r.2
  else (s.unmapped false off).answer 0

/-- RC_READ. -/
def execRcRead (off : Nat) (s : State) : Host.Outcome State Fault Refusal := ok (s.hostRead off)

/-- CAPTURE_READ: the host reads a word of a multi-word register. -/
def execCaptureRead (off : Nat) (s : State) : Host.Outcome State Fault Refusal :=
  ok (if (captureOf off).isSome then s.hostRead off else s)

end Sys2Proof.Machine
end

