-- ==== Sys2Proof/Machine/HostIf.lean ====
section
/-! DEFINITION. The host interface beside its BARs (chapter 18): DMA errors, the SMBus target, the control matrix, the table
loader's commands, the summary record, and the TAP (R527). -/
namespace Sys2Proof.Machine

/-! ### DMA (R470) -/

/-- What every failed DMA read leaves: DMA_ERR, the structure and address, and a device event of HOSTIF. -/
def State.dmaErr (s : State) (t addr : Nat) : State :=
  ((((s.wr F.HOSTIF_DMA_ERR_STRUCT 0 t).wr F.HOSTIF_DMA_ERR_ADDR_LO 0 addr).wr F.HOSTIF_DMA_ERR_ADDR_HI 0 (addr / 2 ^ 32)).event
    F.HOSTIF_EVENT_DMA_ERR 0 Irq.hostif).faultEvent Src.hostif false

/-- DMA_READ_ERROR: a read of structure `t` (the codes of HOSTIF_DMA_ERR) at `addr` fails; `frame`: it was a transmit frame buffer,
whose descriptor TX_DESCRIPTOR_SEND then reports with RESULT 3; `tld`: the words the loader had moved in. A structure whose ring is
not enabled, or that the device only writes, meets no read. -/
def execDmaReadError (t : Nat) (addr : Nat) (frame : Bool) (tld : List Nat) (s : State) : Host.Outcome State Fault Refusal :=
  let off := fun (r : RingRegs) => if s.on r.en r.idx then (s.wr r.en r.idx 0).dmaErr t addr else s
  ok (if t < 5 then
    if s.on F.CUE_CTRL_RING_EN t then
      ((s.wr F.CUE_CTRL_RING_EN t 0).setEng t { s.eng t with fetching := false }).dmaErr t addr
    else s
  else if 16 ≤ t ∧ t ≤ 24 then off (rxRing (t - 16))
  else if 32 ≤ t ∧ t ≤ 40 then
    if frame then (if s.on (txRing (t - 32)).en (txRing (t - 32)).idx then s.dmaErr t addr else s) else off (txRing (t - 32))
  else if t = 49 then
    if s.rd F.HOSTIF_TLD_STATE 0 = 1 then ((s.tldMove tld).tldEnd 3).dmaErr t addr else s
  else s)

/-! ### The SMBus target (R471) -/

/-- A command that the target answers: RST_N rose at least 1 ms ago and is high, and a PEC that was sent holds. -/
def State.smbAnswers (s : State) (pec : Bool) : Bool := s.pins.rstN && decide (s.pins.rstAt + msClk ≤ s.clk) && pec

/-- SMB_SET_ADDR. -/
def execSmbSetAddr (off : Nat) (pec : Bool) (s : State) : Host.Outcome State Fault Refusal :=
  ok (if s.smbAnswers pec then { s with hif := { s.hif with smbOff := off % 2 ^ 32 } } else s)

/-- The registers READ may reach. -/
def State.smbReadable (s : State) (off : Nat) : Bool :=
  if !s.pins.ready then off = 0x10 || off = 0x18 || off = 0x150044
  else mapped off && (blockOf off = some .top || off = 0x20004 || off = 0x160000 || off = 0x160004 || off = 0x160008 ||
    off = 0x16000C || off = 0x160018 || off = 0x16001C || blockOf off = some .admission || blockOf off = some .wear ||
    off = 0x140008 || off = 0x180018)

/-- The target's answer and REFUSED. -/
def State.smbAnswer (s : State) (v : Nat) (refused : Bool) : State :=
  { s with hif := { s.hif with smbRead := v, smbRefused := refused } }

/-- SMB_READ: RC registers are not cleared; the offset advances by 4 (also when refused, log 34). -/
def execSmbRead (pec : Bool) (s : State) : Host.Outcome State Fault Refusal :=
  let off := s.hif.smbOff
  ok (if s.smbAnswers pec then
    let r := if s.smbReadable off then s.readReg 0 off false else (s, 0)
    let t := r.1.smbAnswer r.2 (!s.smbReadable off)
    { t with hif := { t.hif with smbOff := (off + 4) % 2 ^ 32 } }
  else s)

/-- SMB_WRITE: WARM and COLD of TOP_RESET_CTRL, and ADMIT_CEILING; refused before READY. -/
def execSmbWrite (w : Word) (pec : Bool) (s : State) : Host.Outcome State Fault Refusal :=
  let off := s.hif.smbOff
  ok (if s.smbAnswers pec then
    if s.pins.ready && off = 0x20 then
      (s.smbAnswer s.hif.smbRead false).boardWrite 0x20 (w.toNat % 4) (State.resetCtrl 2 none (w.toNat % 4 + 256 * s.rd F.TOP_RESET_CTRL_BLOCK_SRC 0))
    else if s.pins.ready && off = 0x150000 then
      (s.smbAnswer s.hif.smbRead false).boardWrite 0x150000 w.toNat fun s => (s.writeWord 0x150000 w.toNat).admShow
    else s.smbAnswer s.hif.smbRead true
  else s)

/-- SMB_STATUS: READY in bit 0, REFUSED in bit 1. -/
def execSmbStatus (pec : Bool) (s : State) : Host.Outcome State Fault Refusal :=
  ok (if s.smbAnswers pec then s.smbAnswer (b2n s.pins.ready + 2 * b2n s.hif.smbRefused) s.hif.smbRefused else s)

/-! ### The control matrix (R475) -/

/-- MATRIX_LOCK_BREAK: master `m` has held target `t` locked for more than 64 beats: the sequence is discarded, none of it having
been applied, and logged. -/
def execMatrixLockBreak (m : Fin 9) (t : Fin 4) (write : Bool) (left : Fin 32) (s : State) : Host.Outcome State Fault Refusal :=
  ok ((s.mlog m.val t.val left.val write true).event F.HOSTIF_EVENT_LOCK_BROKEN 0 Irq.hostif)

/-! ### The table loader's commands (R477) -/

/-- A write of HOSTIF_TLD's command word: DIR; GO, ignored while a transfer runs; ABORT, with the words moved in by then. -/
def State.tldCtrl (ws : List Nat) (w : Nat) (s : State) : State :=
  let run := decide (s.rd F.HOSTIF_TLD_STATE 0 = 1)
  let s1 := if bit w 1 && run then (s.tldMove ws).tldEnd 4 else s
  let s2 := s1.wr F.HOSTIF_TLD_DIR 0 (bits w 2 1)
  if bit w 0 && !run then (s2.wr F.HOSTIF_TLD_STATE 0 1).wr F.HOSTIF_TLD_REFUSED_CNT 0 0 else s2

/-- TLD_GO: a write with GO set. -/
def execTldGo (w : Word) (s : State) : Host.Outcome State Fault Refusal :=
  ok (s.hostWriteSet 0x180050 w.toNat 1 (State.tldCtrl []))

/-- TLD_ABORT: a write with ABORT set. -/
def execTldAbort (w : Word) (tld : List Nat) (s : State) : Host.Outcome State Fault Refusal :=
  ok (s.hostWriteSet 0x180050 w.toNat 2 (State.tldCtrl tld))

/-- TLD_DONE: the running transfer has moved LEN bytes; with DIR IN they are given. -/
def execTldDone (tld : List Nat) (s : State) : Host.Outcome State Fault Refusal :=
  ok (if s.rd F.HOSTIF_TLD_STATE 0 = 1 ∧ tld.length = s.rd F.HOSTIF_TLD_LEN 0 / 16 * 4 then
    (s.tldMove tld).tldEnd 2 else s)

/-- WIDE frame, line and sample of raster `n`, as records carry them. -/
def State.rasterPos (s : State) (n : Nat) : List Nat :=
  let p := s.pos n
  [p.frame % 2 ^ 32, p.frame / 2 ^ 32 % 2 ^ 32, p.line % 65536 + 65536 * (p.sample % 65536)]

/-! ### The summary record (R219, R478-R481) -/

/-- A request by a master (engine number, 7 host): refused (`false`) while an earlier summary is not yet written. -/
def State.summaryReq (s : State) (master : Nat) (full : Bool) : State × Bool :=
  let st := s.rd F.HOSTIF_SUM_STATUS_STATE 0
  if st = 1 ∨ st = 2 then (s, false)
  else
    let q := if s.hif.sumSeq + 1 = 2 ^ 32 then 1 else s.hif.sumSeq + 1
    let e := s.egress 0
    let s1 := { s with hif := { s.hif with sumFull := full, sumSeq := q, sumClk := s.clk + usClk
                                           sumAt := addSamples e (s.rSamples 0) (s.rLines 0) (s.rSamples 0) } }
    ((s1.wr F.HOSTIF_SUM_STATUS_STATE 0 1).wr F.HOSTIF_SUM_STATUS_REQUESTER 0 master, true)

/-- A write of HOSTIF_RESYNC. -/
def State.resync (w : Nat) (s : State) : State :=
  let s1 := s.wr F.HOSTIF_RESYNC_FULL 0 (bits w 1 1)
  if bit w 0 then
    let r := s1.summaryReq 7 (bit w 1)
    if r.2 then r.1 else r.1.event F.HOSTIF_EVENT_SUM_REFUSED 0 Irq.hostif
  else s1

/-- SUMMARY_REQUEST: a write of HOSTIF_RESYNC with GO set. -/
def execSummaryRequest (w : Word) (s : State) : Host.Outcome State Fault Refusal :=
  ok (s.hostWriteSet 0x180004 w.toNat 1 State.resync)

/-- The consistency point has come (R219, R478): a switch line of raster 0 that begins at least one line after acceptance, or one
microsecond after acceptance where raster 0 is disabled. -/
def State.sumDue (s : State) : Bool :=
  if s.enabled 0 then
    let e := s.egress 0
    (s.switchLines 0 (e.frame - 1) ++ s.switchLines 0 e.frame).any fun c =>
      Pos.le s.hif.sumAt ⟨c.1, c.2, 0⟩ && Pos.le ⟨c.1, c.2, 0⟩ e
  else decide (s.hif.sumClk ≤ s.clk)

/-- A crosspoint, audio or head commit has reached its instant and has not taken effect yet. -/
def State.commitDue (s : State) : Bool :=
  (List.range 8).any (fun r => (s.nextEffect r).isSome) ||
    s.aud.commits.any (fun c => decide (s.aEffect c 48000 ≤ s.boundaryNow 48000)) ||
    (List.range 96).any fun h => let x := s.head h
      let e := s.egress x.raster
      x.accepted && s.enabled x.raster && decide (x.latch.1 < e.frame ∨ (x.latch.1 = e.frame ∧ x.latch.2 ≤ e.line))

/-- `l` with zeros up to `n` words. -/
def padTo (n : Nat) (l : List Nat) : List Nat := l ++ List.replicate (n - l.length) 0

/-- Registers that follow time or other state, brought up to date for the capture. -/
def State.sumRefresh (s : State) : State :=
  let s1 := forEach (List.range 8) (fun n s => s.wr F.SLATE_RASTER_STATUS_IN_USE n (b2n (s.inUse n))) s
  (forEach (List.range 49) (fun i s => s.winShow i) (forEach (List.range 8) State.refselShow s1).histShow.ctlShow.causeShow.ochreShow.admShow.hoursShow)

/-- The 36 words of a set's nine blocks as the window lays them out: 64 words a block (R256). -/
def State.setImage (s : State) (h : Nat) : List Nat :=
  (List.range 9).flatMap fun b => (List.range 64).map fun i => if definedWord b i then s.hAct h b i else 0

/-- The active tables' images (Table 18-6). -/
def State.xptImage (s : State) : List Nat := (List.range 8192).flatMap s.xActWords
def State.audioImage (s : State) : List Nat := (List.range 65536).flatMap s.aActWords
def State.headImage (s : State) : List Nat := (List.range 96).flatMap s.setImage
def State.descImage (s : State) : List Nat := (List.range 16384).flatMap fun i => (s.desc i).words

/-- The outstanding leases in ascending descriptor index (R481). -/
def State.leases (s : State) : List (Nat × Desc) :=
  (s.sable.descs.filter fun e => e.2.state = 2 || (e.2.state = 1 && decide (e.2.lease ≠ 0)))
def leaseWords (e : Nat × Desc) : List Nat :=
  [e.1 + 65536 * (e.2.gen % 65536), e.2.leaseRaster % 8 + 8 * b2n (decide (e.2.state = 2)), e.2.lease % 2 ^ 32,
   e.2.lease / 2 ^ 32 % 2 ^ 32]

/-- Words 0x40-0xFFFF of the record (Table 18-5). How the queue counts share the bytes at 0x940 is not stated: `Config.sumQueues`. -/
def State.sumBody (s : State) : List Nat :=
  let r := fun (os : List Nat) => os.map s.readWord
  let raster := fun n => r [0x10200 + 64 * n, 0x10204 + 64 * n, 0x10208 + 64 * n, 0x10218 + 64 * n] ++ s.rasterPos n ++ [0]
  let ring := fun (n : Nat) =>
    let b := if n < 8 then 0x102000 + 0x40 * n else 0x120300
    r [b + 0x10, b + 0xC, b + 0x30, b + 0x2C]
  padTo 16 (r [0x10, 0x140008, 0x60004])
  ++ padTo 16 (r [0x20004, 0x20008, 0x20050, 0x20054, 0x20038, 0x2003C, 0x20058, 0x2005C, 0x130004, 0x130008, 0x13000C])
  ++ (List.range 8).flatMap raster
  ++ padTo 16 (r [0x40008] ++ [crcWords s.xptImage] ++ r [0xC0008] ++ [crcWords s.audioImage,
       s.xCommits.length % 16 + 16 * (s.aud.commits.length % 16)])
  ++ (List.range 96).flatMap (fun h => [(s.head h).latches, crcWords (s.setImage h)] ++ r [0xA2000 + 0x10 * h, 0xA1000 + 0x20 * h])
  ++ padTo 20 ((List.range 5).flatMap fun n => r [0x61030 + 0x100 * n, 0x6102C + 0x100 * n, 0x61034 + 0x100 * n, 0x61040 + 0x100 * n])
  ++ padTo 4 (r [0x60020 - 4, 0x60020, 0x60028])
  ++ (List.range 9).flatMap ring
  ++ padTo 20 ((List.range 9).flatMap fun q => [s.rd F.PTP_TXQ_COUNT q, s.rd F.PTP_TXQ_LOST q])
  ++ padTo 48 ((List.range 4).map fun i => Config.sumQueues (s.gpiq.length) (s.sable.relq.length) (s.ochreLog.length)
       (s.readWord 0x160028) i)
  ++ r [0x160000, 0x160004, 0x160008, 0x16000C, 0x160010, 0x160014, 0x160018, 0x16001C]
  ++ padTo 120 ((List.range 49).flatMap fun i => r [0x160400 + 0x10 * i, 0x160404 + 0x10 * i])
  ++ padTo 64 (((List.range 15).flatMap fun d => r [0x170100 + 0x10 * d, 0x170104 + 0x10 * d]) ++ r [0x170000, 0x170010, 0x170014])
  ++ padTo 64 (r [0x150000, 0x150004, 0x150008, 0x15000C, 0x150010, 0x150014, 0x150018, 0x150044])
  ++ padTo 64 ((List.range 5).flatMap fun n =>
       r [0x61004 + 0x100 * n, 0x61008 + 0x100 * n, 0x61018 + 0x100 * n, 0x61000 + 0x100 * n, 0x61048 + 0x100 * n] ++ [0, 0, 0])
  ++ padTo 64 (r [0x80000, 0x80008, 0x8000C, 0x80010, 0x1B0004, 0x1B0104, 0x1B0204, 0x1B0304] ++ [s.leases.length])
  ++ padTo 7168 ((s.leases.take 1792).flatMap leaseWords)
  ++ (List.range 4096).flatMap (fun i => if i = 0 then [0, 0] else r [0x158000 + 8 * i, 0x158004 + 8 * i])

/-- The record, and with FULL and BIG the table images behind it. COMPLETE equals SEQ. -/
def State.sumRecord (s : State) : List Nat :=
  let full := s.hif.sumFull
  let images := full && s.on F.HOSTIF_SUM_CFG_BIG 0
  let body := s.sumBody ++ (if images then s.xptImage ++ s.audioImage ++ s.headImage ++ s.descImage else [])
  [1 + 2 ^ 16 * b2n full + 2 ^ 17 * b2n (!s.enabled 0) + 2 ^ 18 * b2n (decide (1792 < s.leases.length))
     + 2 ^ 19 * b2n (full && !images),
   s.hif.sumSeq, if images then 1925120 else 65536, s.rd F.HOSTIF_SUM_STATUS_REQUESTER 0 + s.readWord 0 / 256 * 256]
  ++ (s.rasterPos 0) ++ s.ptp.words ++ [0, 0, 0, 0, crcWords body, s.hif.sumSeq] ++ body

/-- SUMMARY_CAPTURE: at the consistency point every field is captured; with EN clear the summary is discarded (R479). -/
def execSummaryCapture (s : State) : Host.Outcome State Fault Refusal :=
  ok (if s.rd F.HOSTIF_SUM_STATUS_STATE 0 = 1 && s.sumDue && !s.commitDue then
    if s.on F.HOSTIF_SUM_CFG_EN 0 then
      { s.wr F.HOSTIF_SUM_STATUS_STATE 0 2 with hif := { s.hif with sumImage := s.sumRefresh.sumRecord } }
    else s.wr F.HOSTIF_SUM_STATUS_STATE 0 4
  else s)

/-- SUMMARY_WRITTEN: the record captured stands at HOSTIF_SUM_BASE, its header written last. -/
def execSummaryWritten (s : State) : Host.Outcome State Fault Refusal :=
  ok (if s.rd F.HOSTIF_SUM_STATUS_STATE 0 = 2 then
    ((s.wr F.HOSTIF_SUM_STATUS_STATE 0 3).wr F.HOSTIF_SUM_SEQ_SEQ 0 s.hif.sumSeq).event F.HOSTIF_EVENT_SUM_DONE 0 Irq.summary
  else s)

/-! ### The TAP (R527) -/

/-- TAP instructions: 0 BYPASS, 1 IDCODE, 2 SAMPLE/PRELOAD, 3 EXTEST, 4 EXTEST_PULSE, 5 EXTEST_TRAIN, 6 CLAMP, 7 HIGHZ, 8 a debug
instruction, 9 any other opcode. The one that acts: 3-7 as BYPASS in service. -/
def State.tapActs (s : State) : Nat :=
  if decide (Mode.standalone ≤ s.mode ∧ s.mode ≤ Mode.safe) && decide (3 ≤ s.pins.tapIr ∧ s.pins.tapIr ≤ 7) then 0 else s.pins.tapIr

/-- TAP_INSTRUCTION_UPDATE. Any other opcode selects BYPASS, and so does a debug instruction unless DBG_EN was latched high. -/
def execTapInstructionUpdate (ir : Fin 10) (s : State) : Host.Outcome State Fault Refusal :=
  ok { s with pins := { s.pins with tapIr := if ir.val = 9 ∨ (ir.val = 8 ∧ s.pins.dbgEn = false) then 0 else ir.val } }

end Sys2Proof.Machine
end

