-- ==== Sys2Proof/Machine/RegWrite.lean ====
section
/-! DEFINITION. A write of one BAR0 word, whoever's it is: the rule of the register where its description gives one, else each
field's access code (R6, R8, R501). -/
namespace Sys2Proof.Machine

/-- Copy number and offset within the copy, of a replicated register's offset (R498). -/
def rep (off base stride n : Nat) : Option (Nat × Nat) :=
  if base ≤ off ∧ (off - base) / stride < n then some ((off - base) / stride, (off - base) % stride) else none

/-- A plain write of every field of a word but those named. -/
def State.writeBut (off : Nat) (fs : List Fld) (w : Nat) (s : State) : State :=
  s.writeFields ((fieldsAt off).filter fun x => !fs.contains x.1) w

def State.topWrite (off w : Nat) (s : State) : State :=
  if off = 0x14 then s.modeWrite w
  else if off = 0x20 then s.resetCtrl 1 none w
  else if off = 0x200 then s.enrolCtrl w
  else match rep off 0x300 4 25 with
  | some (i, _) => s.wr F.TOP_ENROL_KEY_WORD i w
  | none => s.writeWord off w

/-- A comparator's FIRED is one flag in SLATE_CMP_STATUS and SLATE_CMP_EVENT. -/
def State.slateWrite (off w : Nat) (s : State) : State :=
  if off = 0x10010 then (if bit w 0 then s.snap else s)
  else if off = 0x10800 then
    forEach (bitList w 32) (fun k s => (s.wr F.SLATE_CMP_EVENT_FIRED k 0).wr F.SLATE_CMP_STATUS_FIRED k 0) s
  else if off = 0x1098C then s.gpiPop w
  else if off = 0x10A00 then s.gpoWrite 0 w
  else if off = 0x10A04 then s.gpoWrite 1 w
  else if off = 0x10A08 then s.gpoWrite 2 w
  else match rep off 0x10200 0x40 8, rep off 0x10400 0x20 32, rep off 0x12000 0x20 256 with
  | some (n, r), _, _ =>
    if r = 0 then s.rasterCfg n w else if r = 4 then s.rasterLines n w else if r = 8 then s.rasterTiming n w
    else if r = 0xC then s.rasterOfs n w else if r = 0x10 then s.rasterSeed n false w else if r = 0x14 then s.rasterSeed n true w
    else s.writeWord off w
  | _, some (k, r), _ =>
    if r = 0 then (if bit w 0 then s.cmpArm k w else s.cmpDisarm k w)
    else if r = 0x14 then
      let s1 := s.writeWord off w
      s1.wr F.SLATE_CMP_EVENT_FIRED k (s1.rd F.SLATE_CMP_STATUS_FIRED k)
    else s.cmpTgt k ((r - 4) / 4) w
  | _, _, some (j, r) => s.schedWrite j (r / 4) w
  | _, _, _ => s.writeWord off w

/-- MIN_HIST takes 60 up to WINDOW. -/
def State.refselWrite (off w : Nat) (s : State) : State :=
  if off = 0x20000 then s.refCtrl w
  else if off = 0x20034 then
    let v := bits w 0 12
    s.writeBut off (if 60 ≤ v ∧ v ≤ s.rd F.REFSEL_HO_CFG_WINDOW 0 then [] else [F.REFSEL_HO_LIM_MIN_HIST]) w
  else if off = 0x20060 then s.locoscWrite w
  else if off = 0x20064 then s.ptpValid w
  else match rep off 0x20100 0x20 8 with
  | some (c, r) => if r < 0x10 then s.candWrite c (r / 4) w else s.writeWord off w
  | none => s.writeWord off w

/-- A write of 1 to RETIRED takes a synthesiser out of use as a second failure does; a write of 0 has no effect. -/
def State.synthWrite (off w : Nat) (s : State) : State :=
  match rep off 0x30000 0x20 16, rep off 0x30800 0x10 4 with
  | some (y, r), _ =>
    if r = 0 then s.synCtrl y w
    else if r = 4 then
      let s1 := s.writeBut off [F.SYNTH_STATUS_RETIRED] w
      if bit w 3 && !s.on F.SYNTH_STATUS_RETIRED y then
        (if s1.on F.SYNTH_STATUS_LOCKED y then ((s1.wr F.SYNTH_STATUS_LOCKED y 0).synMove y) else s1).wr F.SYNTH_STATUS_RETIRED y 1
          |>.synShow
      else s1
    else s.writeWord off w
  | _, some (i, r) => if r < 0xC then s.refoutWrite i off w else s.writeWord off w
  | _, _ => s.writeWord off w

def State.xptWrite (off w : Nat) (s : State) : State :=
  if off = 0x40010 then s.xptCtrl w else if off = 0x40030 then s.xptLock w else if off = 0x40140 then s.psubCtrl w
  else s.writeWord off w

def State.alignWrite (off w : Nat) (s : State) : State :=
  match rep off 0x56000 0x20 1152 with
  | some (p, r) => if r = 0 then s.portCfg p w else s.writeWord off w
  | none => s.writeWord off w

/-- CUE_START_ADDR and CUE_RESTART_ADDR take multiples of 4 below the cue window. -/
def State.cueWrite (off w : Nat) (s : State) : State :=
  if 0x70000 ≤ off then s.cueWinWrite ((off - 0x70000) / 4) w
  else if off = 0x60000 then s.globalCfg w
  else if off = 0x60004 then s.pmapWrite w
  else if off = 0x60008 then s.substCtrl w
  else if off = 0x60030 then s.winSelWrite w
  else match rep off 0x61000 0x100 5 with
  | some (n, r) =>
    if r = 0 then s.cueCtrl n w
    else if r = 0xC ∨ r = 0x10 then (if bits w 0 17 % 4 = 0 ∧ bits w 0 17 < winBase then s.writeWord off w else s)
    else if r = 0x2C then s.doorbell n w
    else s.writeWord off w
  | none => s.writeWord off w

def State.sableWrite (off w : Nat) (s : State) : State :=
  if off = 0x8003C then s.leaseGo w
  else if off = 0x80044 then s.relPop w
  else s.writeWord off w

def State.ochreWrite (off w : Nat) (s : State) : State :=
  if off = 0xA0020 then s.headCtrl w else if off = 0xA0044 then s.ochrePop w else if off = 0xA0080 then s.lutSel w
  else if off = 0xA0088 then s.lutData w else s.writeWord off w

/-- `own`: the owner whose grant a delay request needs (R305): an engine number, 5 for the host. -/
def State.audioWrite (own off w : Nat) (s : State) : State :=
  if off = 0xC0010 then s.audioCtrl w
  else match rep off 0xC0100 0x10 6, rep off 0xC1000 8 1024, rep off 0xC4000 0x10 1152 with
  | some (m, r), _, _ => s.dlyCtrlWrite own m (r / 4) w
  | _, some (b, r), _ => s.dblkWrite b (decide (r = 4)) w
  | _, _, some (p, r) => if r = 0 then s.audioPortWrite p w else s.writeWord off w
  | _, _, _ => s.writeWord off w

def State.tdmWrite (off w : Nat) (s : State) : State :=
  match rep off 0xD0000 0x20 16 with
  | some (i, r) => if r = 0 then s.tdmCfg i w else s.writeWord off w
  | none => s.writeWord off w

def State.fabWrite (off w : Nat) (s : State) : State :=
  if off = 0xE0200 then s.remapCtrl w
  else match rep off 0xE0100 4 8, rep off 0xE1000 0x80 152 with
  | some (k, _), _ => s.spareCfg k w
  | _, some (n, r) => if r = 0 then s.laneCtrl n w else if r = 0x20 then s.testCtrl n w else s.writeWord off w
  | _, _ => s.writeWord off w

def State.mediaWrite (off w : Nat) (s : State) : State :=
  if off = 0x100010 then s.flowCtrl w
  else match rep off 0x100100 0x20 8, rep off 0x100400 0x10 32, rep off 0x102000 0x40 8 with
  | some (n, r), _, _ => if r = 0 then s.mediaPortCfg n w else s.writeWord off w
  | _, some (l, r), _ => if r = 0 then s.lportCfg l w else s.writeWord off w
  | _, _, some (n, r) =>
    if r = 0xC then s.ringTail (rxRing n) w else if r = 0x2C then s.ringTail (txRing n) w else s.writeWord off w
  | _, _, _ => s.writeWord off w

def State.mgtWrite (off w : Nat) (s : State) : State :=
  if off = 0x120000 then s.mgtCfg w else if off = 0x12030C then s.ringTail (rxRing 8) w
  else if off = 0x12032C then s.ringTail (txRing 8) w else s.writeWord off w

/-- ARMED and STEP_GEN of PTP_STATUS take no write; the addend's high word applies both (R388). -/
def State.ptpWrite (off w : Nat) (s : State) : State :=
  if off = 0x130000 then s.ptpCtrl w
  else if off = 0x130004 then s.writeBut off [F.PTP_STATUS_ARMED, F.PTP_STATUS_STEP_GEN] w
  else if off = 0x13000C then s.addendWrite w
  else match rep off 0x130400 0x40 9 with
  | some (q, r) => if r = 8 then s.txqPop q w else s.writeWord off w
  | none => s.writeWord off w

/-- CLASS of a Cobalt lane is writable while PAIR_EN is 0. -/
def State.cobaltWrite (off w : Nat) (s : State) : State :=
  if off = 0x140000 then s.cobaltCtrl w
  else if off = 0x140010 then s.swapCtrl w
  else if 0x140100 ≤ off ∧ s.on F.COBALT_CTRL_PAIR_EN 0 = true then s.writeBut off [F.COBALT_LANE_CLASS] w
  else s.writeWord off w

/-- SLACK_HI must exceed SLACK_LO, SLACK_EMER lie below it: another value is a reserved encoding of that field. -/
def State.admWrite (off w : Nat) (s : State) : State :=
  if off = 0x150000 then (s.writeWord off w).admShow
  else if off = 0x150028 then s.askCtrl w
  else if off = 0x150030 then s.giveCtrl w
  else if off = 0x150040 then s.thermCfg w
  else if off = 0x150054 then s.avsCtrl w
  else if off = 0x150050 then
    s.writeBut off ((if bits w 8 8 < bits w 16 8 then [] else [F.ADMIT_AVS_CFG_SLACK_HI]) ++
      (if bits w 24 8 < bits w 8 8 then [] else [F.ADMIT_AVS_CFG_SLACK_EMER])) w
  else s.writeWord off w

/-- BLOCK_RESET is a reserved encoding of ACTION for a source that has none (R431). -/
def State.vermilionWrite (off w : Nat) (s : State) : State :=
  if off = 0x160000 then s.faultWrite 0 w else if off = 0x160004 then s.faultWrite 1 w
  else match rep off 0x160100 4 49 with
  | some (i, _) => if bits w 24 3 = 3 ∧ resettable i = false then s.writeBut off [F.FLT_SRC_CFG_ACTION] w else s.writeWord off w
  | none => s.writeWord off w

def State.wearWrite (off w : Nat) (s : State) : State :=
  if off = 0x170008 then s.wearCtrl w else if off = 0x170018 then s.repairWrite w else if off = 0x170020 then s.spareCtrl w
  else match rep off 0x170040 8 4 with
  | some (c, r) => if r = 0 then s.scrubCtrl c w else s.writeWord off w
  | none => s.writeWord off w

/-- Whether Table 18-4 lets master `m` reach target `t`; the codes above 8 name no master. -/
def reaches (m t : Nat) : Bool :=
  if t = 0 then decide (m ≤ 8 ∧ m ≠ 7)
  else if t = 1 then decide (m ≤ 8)
  else m = 0

/-- An unmasked vector whose pending bit stands is signalled (PRESUMED, log 7). -/
def State.msixMask (s : State) (v : Nat) : State :=
  if !s.on F.MSIX_TABLE_MASK v && s.on F.MSIX_PBA_PENDING v then
    { s.wr F.MSIX_PBA_PENDING v 0 with hif := { s.hif with msgs := tput s.hif.msgs v (tget s.hif.msgs v 0 + 1) 0 } }
  else s

def State.hostifWrite (off w : Nat) (s : State) : State :=
  if off = 0x180004 then s.resync w
  else if off = 0x18004C then (if bits w 0 21 % 16 = 0 then s.writeWord off w else s)
  else if off = 0x180050 then s.tldCtrl [] w
  else match rep off 0x180100 4 4, rep off 0x188000 16 512 with
  | some (t, _), _ => s.writeBut off (if reaches (bits w 4 4) t then [] else [F.HOSTIF_PARK_PARK_MASTER]) w
  | _, some (v, _) => (s.writeWord off w).msixMask v
  | _, _ => s.writeWord off w

def State.keysWrite (off w : Nat) (s : State) : State :=
  if off = 0x190010 then s.keysCtrl w
  else match rep off 0x191000 4 196 with
  | some (i, _) => s.wr F.KEYS_MSG_WORD i w
  | none => s.writeWord off w

def State.cxlpWrite (off w : Nat) (s : State) : State :=
  match rep off 0x1B0000 0x100 4 with
  | some (c, r) => if r = 0 then s.cxlCtrl c w else s.writeWord off w
  | none => s.writeWord off w

/-- A write of the BAR0 word at `off`; `own` names the writer where a rule asks for it (an engine number, 5 the host). -/
def State.regWrite (own off w : Nat) (s : State) : State :=
  match blockOf off with
  | some .top => s.topWrite off w
  | some .slate => s.slateWrite off w
  | some .refsel => s.refselWrite off w
  | some .synth => s.synthWrite off w
  | some .xpt => s.xptWrite off w
  | some .align => s.alignWrite off w
  | some .cue => s.cueWrite off w
  | some .sable => s.sableWrite off w
  | some .ochre => s.ochreWrite off w
  | some .audio => s.audioWrite own off w
  | some .tdm => s.tdmWrite off w
  | some .fab => s.fabWrite off w
  | some .media => s.mediaWrite off w
  | some .mgt => s.mgtWrite off w
  | some .ptp => s.ptpWrite off w
  | some .cobalt => s.cobaltWrite off w
  | some .admission => s.admWrite off w
  | some .vermilion => s.vermilionWrite off w
  | some .wear => s.wearWrite off w
  | some .hostif => s.hostifWrite off w
  | some .keys => s.keysWrite off w
  | some .probe => s.writeWord off w
  | some .cxlp => s.cxlpWrite off w
  | none => s

/-- A whole-word host write anywhere in BAR0. -/
def State.hostPut (off w : Nat) (s : State) : State :=
  if bar0Mapped off then s.hostWrite off w (State.regWrite 5 off w)
  else if s.hif.d3 || !s.pins.ready then s else s.unmapped false off

/-- REGISTER_WRITE. -/
def execRegisterWrite (off : Nat) (w : Word) (s : State) : Host.Outcome State Fault Refusal := ok (s.hostPut off w.toNat)

end Sys2Proof.Machine
end

