-- ==== Sys2Proof/Machine/Ednel.lean ====
section
/-! DEFINITION. How a cue engine takes one Ednel instruction (chapter 7): fetch and encoding checks (R174-R178), the next address
(R182), local memory (R147, R148), values from the mirror (R168), and the flow and arithmetic families. -/
namespace Sys2Proof.Machine

/-! ### Instruction words (R174-R178) -/

/-- An instruction as fetched: its word, the word after it, its address and the next sequential address. -/
structure Ins where
  w : Nat
  x : Nat
  pc : Nat
  nxt : Nat
deriving DecidableEq, Repr

/-- The opcode and the fields of Table 7-1. -/
def Ins.op (i : Ins) : Nat := bits i.w 24 8
def Ins.d (i : Ins) : Nat := bits i.w 20 4
def Ins.a (i : Ins) : Nat := bits i.w 16 4
def Ins.b (i : Ins) : Nat := bits i.w 12 4
def Ins.c (i : Ins) : Nat := bits i.w 8 4
def Ins.fn (i : Ins) : Nat := bits i.w 0 8
def Ins.imm (i : Ins) : Nat := bits i.w 0 16

/-- IMM or OFF, sign-extended. -/
def Ins.simm (i : Ins) : Int := sx 16 i.w

/-- I of format FX. -/
def Ins.isImm (i : Ins) : Bool := bit i.w 15

/-- The opcodes of Table 7-2 with an extension word. -/
def hasExt (op : Nat) : Bool := op = 0x11 || op = 0x31 || op = 0x33

/-- The instructions that do not, or not always, continue at the next sequential address (R182). -/
def flowCode (op : Nat) : Bool := decide (1 ≤ op ∧ op ≤ 5) || op = 7

/-- The opcodes of Table 7-2 (R178). -/
def definedOp (op : Nat) : Bool :=
  decide (1 ≤ op ∧ op ≤ 7) || decide (0x10 ≤ op ∧ op ≤ 0x1A) || decide (0x20 ≤ op ∧ op ≤ 0x25) || decide (0x30 ≤ op ∧ op ≤ 0x33)
    || decide (0x40 ≤ op ∧ op ≤ 0x44) || decide (0x50 ≤ op ∧ op ≤ 0x53) || decide (0x60 ≤ op ∧ op ≤ 0x64) || op = 0x70 || op = 0x71
    || decide (0x80 ≤ op ∧ op ≤ 0x83)

/-- The instruction at PC of engine `n`. -/
def State.ins (s : State) (n : Nat) : Ins :=
  let pc := s.pc n
  let w := s.pmemWord n (pc / 4)
  { w := w, x := s.pmemWord n (pc / 4 + 1), pc := pc, nxt := if hasExt (bits w 24 8) then pc + 8 else pc + 4 }

/-- The extension word is missing (R177). -/
def Ins.extBad (i : Ins) : Bool := hasExt i.op && (i.pc = 0x1FFFC || i.pc = 0x1F7FC)

/-- The next sequential address lies outside program memory, or in the cue window entered from outside (R182). -/
def Ins.nextBad (i : Ins) : Bool := decide (0x20000 ≤ i.nxt) || decide (i.pc < winBase ∧ winBase ≤ i.nxt)

/-- The encoding of opcode `op` as R174 checks it when the word executes: a time register field holds 0-3, and every field the
instruction does not use, or its description reserves (R182-R219), is 0. An opcode of no instruction has none. -/
def Ins.legal (op : Nat) (i : Ins) : Bool :=
  match op with
  | 0x01 => bits i.w 16 8 = 0
  | 0x02 | 0x03 => bits i.w 16 3 = 0 && (!bit i.w 19 || decide (i.d = 0))
  | 0x04 => i.d = 0 && if i.isImm then bits i.w 0 15 = 0 else i.a = 0
  | 0x05 | 0x06 | 0x07 | 0x81 => bits i.w 0 24 = 0
  | 0x10 | 0x12 => i.a = 0
  | 0x11 => i.a = 0 && i.imm = 0
  | 0x13 | 0x14 | 0x15 | 0x16 | 0x17 => i.isImm || decide (bits i.w 4 11 = 0)
  | 0x18 => (if i.isImm then bits i.w 5 9 = 0 else bits i.w 4 10 = 0) && !bit i.w 14
  | 0x19 => if i.isImm then bits i.w 5 9 = 0 else bits i.w 4 10 = 0
  | 0x1A => decide (bits i.w 12 3 ≤ 5) && (i.isImm || decide (bits i.w 4 8 = 0))
  | 0x20 | 0x21 | 0x24 | 0x25 | 0x43 => true
  | 0x22 | 0x23 => decide (i.d ≤ 3)
  | 0x30 => decide (i.d ≤ 3 ∧ i.a = 0 ∧ bits i.w 3 13 = 0)
  | 0x31 => decide (i.d ≤ 3 ∧ i.a ≤ 3 ∧ i.c = 0 ∧ i.fn = 0)
  | 0x32 => decide (i.d ≤ 3 ∧ i.a = 0 ∧ bits i.w 1 15 = 0)
  | 0x33 => decide (i.a = 0 ∧ bits i.w 2 2 = 0 ∧ bits i.w 6 10 = 0) && (bit i.w 0 || decide (i.d = 0))
  | 0x40 | 0x41 | 0x50 | 0x64 => decide (i.c = 0 ∧ i.fn = 0)
  | 0x42 => decide (i.a ≤ 3 ∧ i.b = 0 ∧ i.c = 0 ∧ i.fn = 0)
  | 0x44 => decide (i.d = 0 ∧ bits i.w 3 13 = 0)
  | 0x51 => decide (i.a ≤ 3 ∧ i.b = 0 ∧ i.c = 0 ∧ i.fn ≤ 1)
  | 0x52 => decide (bits i.w 6 10 = 0)
  | 0x53 => decide (i.a ≤ 3 ∧ i.c = 0 ∧ i.fn = 0)
  | 0x60 => decide (i.b = 0 ∧ i.c = 0 ∧ i.fn = 0)
  | 0x61 | 0x63 | 0x71 => decide (i.d = 0 ∧ i.b = 0 ∧ i.c = 0 ∧ i.fn = 0)
  | 0x62 => decide (i.d = 0 ∧ i.c = 0 ∧ i.fn = 0)
  | 0x70 => decide (bits i.w 2 2 = 0 ∧ bits i.w 6 10 = 0)
  | 0x80 => decide (i.d = 0 ∧ i.c = 0 ∧ bits i.w 6 2 = 0)
  | 0x82 => decide (i.d = 0 ∧ i.a = 0) && !bit i.w 15
  | 0x83 => decide (i.d = 0 ∧ i.a = 0 ∧ bits i.w 1 15 = 0)
  | _ => false

/-- Engine `n` takes an instruction: RUNNING, in no wait, in a mode in which engines run. -/
def State.takes (s : State) (n : Nat) : Bool := decide (s.es n = Es.running ∧ (s.eng n).wait = .none) && s.enginesRun

/-- The stop of an error met before the instruction executes (Table 6-7). -/
def EngErr.stop (e : EngErr) : Option Nat :=
  match e with
  | .pmem => some Fc.pmemEcc
  | .regfile => some Fc.regfile
  | .check => some Fc.check
  | .dmem | .smem => none

/-- Engine `n` takes the instruction at its PC if that is `op` (R163, R174, R177, R182): an error met, an encoding that is not
legal or a next address out of range stops it before any effect; otherwise `body` is its effect. -/
def State.engRun (s : State) (n op : Nat) (hw : Option EngErr) (body : Ins → State → State) : State :=
  let i := s.ins n
  if !s.takes n then s
  else match hw.bind EngErr.stop with
  | some code => s.faultStop n code 0
  | none =>
    if i.op ≠ op then s
    else if i.extBad || !i.legal op then s.faultStop n Fc.illegal 0
    else if !flowCode op && i.nextBad then s.faultStop n Fc.pcRange 0
    else body i s

/-- Go on at the next sequential address. -/
def State.go (s : State) (n : Nat) (i : Ins) : State := s.setPc n i.nxt

/-- Write a general register and go on. -/
def State.goG (s : State) (n : Nat) (i : Ins) (v : Nat) : State := (s.setG n i.d v).go n i

/-- Write RS and go on: the end of a checked instruction (R162). -/
def State.goRs (s : State) (n : Nat) (i : Ins) (code : Nat) : State := (s.setRs n code).go n i

/-! ### Values from the mirror (R168, R403) -/

/-- A value from outside the engine: read here by `own`; on a standby taken by `mir` from the first mirrored value, for which the
engine stands still while there is none. One of another instruction is dropped and the pair falls out of step. Mirrored values
are held as SEQ, number, PC, KIND, three position words, then value words from place 7. -/
def State.takeVal (s : State) (n kind : Nat) (own : State → State) (mir : List Nat → State → State) : State :=
  if s.fromMirror then
    match (s.eng n).vals with
    | [] => s
    | v :: _ =>
      if v.getD 2 0 = s.pc n ∧ v.getD 3 0 = kind then mir v (s.dropVal n)
      else (s.dropVal n).outOfStep Mt.value (v.getD 0 0)
  else own s

/-- A standby's own check differs from the active engine's (R170, R403): DIVERGED, its event record with both codes in DATA0 (own in
[7:0], the active's in [15:8]), and a partner violation. -/
def State.divergeIf (s : State) (n own act seq : Nat) : State :=
  if own = act then s
  else ((s.wr F.CUE_STATUS_DIVERGED n 1).evRecord 0x09 n (s.winSeq n) 0 (own + 256 * act) 0).outOfStep Mt.value seq

/-! ### Local memory (R147, R148, Table 6-3) -/

def isData (a : Nat) : Bool := decide (a < 0x10000)
def isShared (a : Nat) : Bool := decide (0x100000 ≤ a ∧ a < 0x200000)
def isOwn (a : Nat) : Bool := decide (0x200000 ≤ a ∧ a < 0x200010)

/-- The address ga + IMM. -/
def State.localAddr (s : State) (n : Nat) (i : Ins) : Nat := wrapInt 32 (s.g n i.a + i.simm)

/-- The word at a local address. -/
def State.localRead (s : State) (n a : Nat) : Nat :=
  if isData a then s.dmemWord n (a / 4)
  else if isShared a then s.smemWord ((a - 0x100000) / 4)
  else if a = 0x200000 then s.rd F.CUE_STATUS_RS n
  else if a = 0x200004 then s.rd F.CUE_EVPEND_BITS n
  else if a = 0x200008 then n + 256 * s.mode
  else if (s.eng n).win.isSome then s.winSeq n + 65536 else 0
def State.localWrite (s : State) (n a v : Nat) : State :=
  if isData a then s.dmemPut n (a / 4) v else s.smemPut ((a - 0x100000) / 4) v

/-- An uncorrectable error of the memory read at `a`. -/
def memErr (hw : Option EngErr) (a : Nat) : Option Nat :=
  match hw with
  | some .dmem => if isData a then some Fc.dmemEcc else none
  | some .smem => if isShared a then some Fc.smemEcc else none
  | _ => none

/-- What stops an LD or ST at address `a` that must be a multiple of `al` (R147, R148). -/
def accessFault (hw : Option EngErr) (a al : Nat) (write : Bool) : Option Nat :=
  if a % al ≠ 0 then some Fc.align
  else if !isData a && !isShared a && (write || !isOwn a) then some Fc.addr
  else if write then none else memErr hw a

/-- What stops the read of a list of `len` bytes at `a`: it must lie in one region of Table 6-3 (R198, R210, R214). -/
def listFault (hw : Option EngErr) (a al len : Nat) : Option Nat :=
  if a % al ≠ 0 then some Fc.align
  else if !decide (a + len ≤ 0x10000) && !decide (0x100000 ≤ a ∧ a + len ≤ 0x200000) then some Fc.addr
  else memErr hw a

/-- Carry out `f` unless something stops it at address `a`. -/
def State.orFault (s : State) (n a : Nat) (x : Option Nat) (f : State → State) : State :=
  match x with
  | some code => s.faultStop n code a
  | none => f s

/-! ### Flow (R182-R185) -/

/-- Branch to `t` (R182). -/
def State.branchTo (s : State) (n : Nat) (i : Ins) (t : Int) : State :=
  if t < 0 ∨ 0x20000 ≤ t ∨ (i.pc < winBase ∧ (winBase : Int) ≤ t) then s.faultStop n Fc.pcRange 0 else s.setPc n t.toNat

/-- Continue past an instruction that need not continue (R182). -/
def State.fallThrough (s : State) (n : Nat) (i : Ins) : State := if i.nextBad then s.faultStop n Fc.pcRange 0 else s.go n i

/-- The target of a branch. -/
def Ins.target (i : Ins) : Int := i.pc + 4 * i.simm

/-- BR. -/
def execBr (n : Fin 5) (hw : Option EngErr) (s : State) : Host.Outcome State Fault Refusal :=
  ok (s.engRun n.val 0x01 hw fun i s => s.branchTo n.val i i.target)

/-- The test value of BZ and BNZ: RS, or register S. -/
def State.testVal (s : State) (n : Nat) (i : Ins) : Nat := if bit i.w 19 then s.rd F.CUE_STATUS_RS n else s.g n i.d

/-- BZ. -/
def execBz (n : Fin 5) (hw : Option EngErr) (s : State) : Host.Outcome State Fault Refusal :=
  ok (s.engRun n.val 0x02 hw fun i s =>
    if s.testVal n.val i = 0 then s.branchTo n.val i i.target else s.fallThrough n.val i)

/-- BNZ. -/
def execBnz (n : Fin 5) (hw : Option EngErr) (s : State) : Host.Outcome State Fault Refusal :=
  ok (s.engRun n.val 0x03 hw fun i s =>
    if s.testVal n.val i ≠ 0 then s.branchTo n.val i i.target else s.fallThrough n.val i)

/-- The target of CALL: a word address, or with IND the byte address in a register. -/
def State.callTarget (s : State) (n : Nat) (i : Ins) : Nat := if i.isImm then s.g n i.a else 4 * bits i.w 0 15

/-- CALL (R183): a target out of range stops it before anything else; with no record loaded the window refuses. -/
def execCall (n : Fin 5) (hw : Option EngErr) (s : State) : Host.Outcome State Fault Refusal :=
  ok (s.engRun n.val 0x04 hw fun i s =>
    let t := s.callTarget n.val i
    let e := s.eng n.val
    if t % 4 ≠ 0 ∨ winBase < t then s.faultStop n.val Fc.pcRange 0
    else if t = winBase ∧ e.win.isNone then
      (if i.nextBad then s.faultStop n.val Fc.pcRange 0 else s.goRs n.val i Rc.noCue)
    else if 16 ≤ e.stack.length then s.faultStop n.val Fc.stack 0
    else if t = winBase then s.callWindow n.val i.nxt
    else (s.setEng n.val { e with stack := i.nxt :: e.stack }).setPc n.val t)

/-- The record in the window is consumed when the RET matches its CALL (R155). -/
def State.retConsume (s : State) (n : Nat) : State :=
  match (s.eng n).win with
  | some w => if w.depth = some (s.eng n).stack.length then s.consume n else s
  | none => s

/-- RET (R183, R155): a return into the cue window from outside it enters it other than by CALL, and faults (Table 6-7); the dispatcher's
return address leads to IDLE (R154). -/
def execRet (n : Fin 5) (hw : Option EngErr) (s : State) : Host.Outcome State Fault Refusal :=
  ok (s.engRun n.val 0x05 hw fun i s =>
    let e := s.eng n.val
    match e.stack with
    | [] => s.faultStop n.val Fc.stack 0
    | r :: rest =>
      let s1 := (s.setEng n.val { e with stack := rest }).retConsume n.val
      if r = dispatchRet then s1.enterIdle n.val
      else if 0x20000 ≤ r ∨ (winBase ≤ r ∧ i.pc < winBase) then s.faultStop n.val Fc.pcRange 0
      else s1.setPc n.val r)

/-- The move of a planned substitution whose target passes through WAITING (R172, R184). -/
def State.swapAt (s : State) (n : Nat) : State :=
  if s.subst.step = 2 ∧ s.subst.target = n then ((s.copyEng n s.spareNum).exchange n).substRecord n (s.winSeq n) 0 0 else s

/-- YIELD (R184): the watchdog count starts afresh; the clock of WAITING lets a planned substitution move the engine. -/
def execYield (n : Fin 5) (hw : Option EngErr) (s : State) : Host.Outcome State Fault Refusal :=
  ok (s.engRun n.val 0x06 hw fun i s =>
    ((s.setEng n.val { s.eng n.val with runSince := s.clk }).go n.val i).swapAt n.val)

/-- HALT (R185): inside a record it consumes the record. -/
def execHalt (n : Fin 5) (hw : Option EngErr) (s : State) : Host.Outcome State Fault Refusal :=
  ok (s.engRun n.val 0x07 hw fun _ s =>
    let s1 := (s.wr F.CUE_STATUS_STATE n.val Es.halted).evRecord 0x02 n.val (s.winSeq n.val) 0 0 0
    match (s.eng n.val).win with
    | some w => if w.depth.isSome then s1.consume n.val else s1
    | none => s1)

/-! ### Arithmetic (R186-R189) -/

/-- LI. -/
def execLi (n : Fin 5) (hw : Option EngErr) (s : State) : Host.Outcome State Fault Refusal :=
  ok (s.engRun n.val 0x10 hw fun i s => s.goG n.val i (wrapInt 32 i.simm))

/-- LI (long). -/
def execLiLong (n : Fin 5) (hw : Option EngErr) (s : State) : Host.Outcome State Fault Refusal :=
  ok (s.engRun n.val 0x11 hw fun i s => s.goG n.val i i.x)

/-- LUI. -/
def execLui (n : Fin 5) (hw : Option EngErr) (s : State) : Host.Outcome State Fault Refusal :=
  ok (s.engRun n.val 0x12 hw fun i s => s.goG n.val i (s.g n.val i.d % 65536 + 65536 * i.imm))

/-- The second operand of ADD and SUB: the register, or IMM[14:0] sign-extended; that of AND, OR and XOR: zero-extended. -/
def State.opSigned (s : State) (n : Nat) (i : Ins) : Int := if i.isImm then sx 15 i.w else s.g n (bits i.w 0 4)
def State.opPlain (s : State) (n : Nat) (i : Ins) : Nat := if i.isImm then bits i.w 0 15 else s.g n (bits i.w 0 4)

/-- ADD. -/
def execAdd (n : Fin 5) (hw : Option EngErr) (s : State) : Host.Outcome State Fault Refusal :=
  ok (s.engRun n.val 0x13 hw fun i s => s.goG n.val i (wrapInt 32 (s.g n.val i.a + s.opSigned n.val i)))

/-- SUB. -/
def execSub (n : Fin 5) (hw : Option EngErr) (s : State) : Host.Outcome State Fault Refusal :=
  ok (s.engRun n.val 0x14 hw fun i s => s.goG n.val i (wrapInt 32 (s.g n.val i.a - s.opSigned n.val i)))

/-- AND. -/
def execAnd (n : Fin 5) (hw : Option EngErr) (s : State) : Host.Outcome State Fault Refusal :=
  ok (s.engRun n.val 0x15 hw fun i s => s.goG n.val i (Nat.land (s.g n.val i.a) (s.opPlain n.val i)))

/-- OR. -/
def execOr (n : Fin 5) (hw : Option EngErr) (s : State) : Host.Outcome State Fault Refusal :=
  ok (s.engRun n.val 0x16 hw fun i s => s.goG n.val i (Nat.lor (s.g n.val i.a) (s.opPlain n.val i)))

/-- XOR. -/
def execXor (n : Fin 5) (hw : Option EngErr) (s : State) : Host.Outcome State Fault Refusal :=
  ok (s.engRun n.val 0x17 hw fun i s => s.goG n.val i (Nat.xor (s.g n.val i.a) (s.opPlain n.val i)))

/-- The amount of a shift: five bits. -/
def State.shiftBy (s : State) (n : Nat) (i : Ins) : Nat := (if i.isImm then i.w else s.g n (bits i.w 0 4)) % 32

/-- SHL. -/
def execShl (n : Fin 5) (hw : Option EngErr) (s : State) : Host.Outcome State Fault Refusal :=
  ok (s.engRun n.val 0x18 hw fun i s =>
    s.goG n.val i (s.g n.val i.a * 2 ^ s.shiftBy n.val i % 2 ^ 32))

/-- A right shift of a 32-bit value: zeros, or with `arith` copies of bit 31, come in. -/
def shr32 (v k : Nat) (arith : Bool) : Nat := if arith then wrapInt 32 (sx 32 v / 2 ^ k) else v / 2 ^ k

/-- SHR; with [14] set SHR.A. -/
def execShr (n : Fin 5) (hw : Option EngErr) (s : State) : Host.Outcome State Fault Refusal :=
  ok (s.engRun n.val 0x19 hw fun i s => s.goG n.val i (shr32 (s.g n.val i.a) (s.shiftBy n.val i) (bit i.w 14)))

/-- The conditions of CMP between two 32-bit values (R189). -/
def compare (cc x y : Nat) : Bool :=
  match cc with
  | 0 => x = y
  | 1 => decide (x ≠ y)
  | 2 => decide (x < y)
  | 3 => decide (y ≤ x)
  | 4 => decide (sx 32 x < sx 32 y)
  | _ => decide (sx 32 y ≤ sx 32 x)

/-- The second operand of CMP: the register, or IMM[11:0] sign-extended. -/
def State.cmpOperand (s : State) (n : Nat) (i : Ins) : Nat := if i.isImm then wrapInt 32 (sx 12 i.w) else s.g n (bits i.w 0 4)

/-- CMP. -/
def execCmp (n : Fin 5) (hw : Option EngErr) (s : State) : Host.Outcome State Fault Refusal :=
  ok (s.engRun n.val 0x1A hw fun i s =>
    s.goG n.val i (b2n (compare (bits i.w 12 3) (s.g n.val i.a) (s.cmpOperand n.val i))))

end Sys2Proof.Machine
end

