-- ==== Sys2Proof/Machine/EdnelMem.lean ====
section
/-! DEFINITION. Ednel's memory and time instructions that do not wait: LD, ST and their time register forms (R190), LDX and STX
(R191), TNOW (R192) and TADD (R193). -/
namespace Sys2Proof.Machine

/-! ### Memory (R190) -/

/-- LD of a word. -/
def execLd (n : Fin 5) (hw : Option EngErr) (s : State) : Host.Outcome State Fault Refusal :=
  ok (s.engRun n.val 0x20 hw fun i s =>
    let a := s.localAddr n.val i
    s.orFault n.val a (accessFault hw a 4 false) fun s => s.goG n.val i (s.localRead n.val a))

/-- ST of a word. -/
def execSt (n : Fin 5) (hw : Option EngErr) (s : State) : Host.Outcome State Fault Refusal :=
  ok (s.engRun n.val 0x21 hw fun i s =>
    let a := s.localAddr n.val i
    s.orFault n.val a (accessFault hw a 4 true) fun s => (s.localWrite n.val a (s.g n.val i.d)).go n.val i)

/-- What LD makes of an image (R146, R190): SHORT widens its frame; VALID is clear where the line or sample does not exist. -/
def State.ofImage (s : State) (n : Nat) (t : TReg) : TReg :=
  { t with pos := { t.pos with frame := s.widen t.raster (s.short n) t.pos.frame }
           valid := t.valid && s.lineOk t.raster t.pos.line && decide (t.pos.sample < s.rSamples t.raster) }

/-- LD of a time register. -/
def execLdTime (n : Fin 5) (hw : Option EngErr) (s : State) : Host.Outcome State Fault Refusal :=
  ok (s.engRun n.val 0x22 hw fun i s =>
    let a := s.localAddr n.val i
    s.orFault n.val a (accessFault hw a 16 false) fun s =>
      let w := fun k => s.localRead n.val (a + 4 * k)
      (s.setK n.val i.d (s.ofImage n.val (TReg.ofWords (w 0) (w 1) (w 2) (w 3)))).go n.val i)

/-- ST of a time register. -/
def execStTime (n : Fin 5) (hw : Option EngErr) (s : State) : Host.Outcome State Fault Refusal :=
  ok (s.engRun n.val 0x23 hw fun i s =>
    let a := s.localAddr n.val i
    s.orFault n.val a (accessFault hw a 16 true) fun s =>
      let ws := (s.k n.val i.d).words
      (forEach (List.range 4) (fun k s => s.localWrite n.val (a + 4 * k) (ws.getD k 0)) s).go n.val i)

/-! ### BAR0 registers (R148, R191) -/

/-- What LDX and STX may not reach: the KEYS block, the CUE block and TOP_RESET_CTRL. -/
def protectedOff (off : Nat) : Bool :=
  decide (0x190000 ≤ off ∧ off < 0x1A0000) || decide (0x60000 ≤ off ∧ off < 0x80000) || off = 0x20

/-- The matrix master of engine number `n`. -/
def State.engMaster (s : State) (n : Nat) : Nat := 1 + s.phys n

/-- Carry out an access at a BAR0 offset: ALIGN, PROTECTED and MATRIX come first. -/
def State.matrixAccess (s : State) (n : Nat) (i : Ins) (off : Nat) (f : State → State) : State :=
  if off % 4 ≠ 0 then s.faultStop n Fc.align off
  else if protectedOff off then s.goRs n i Rc.protect
  else if !bar0Mapped off then s.faultStop n Fc.matrix off
  else f s

/-- LDX: an RC register clears; a standby takes the value from the mirror. -/
def execLdx (n : Fin 5) (hw : Option EngErr) (s : State) : Host.Outcome State Fault Refusal :=
  ok (s.engRun n.val 0x24 hw fun i s =>
    let off := s.localAddr n.val i
    s.matrixAccess n.val i off fun s =>
      s.takeVal n.val Vk.ldx
        (fun s =>
          let r := s.readReg (s.engMaster n.val) off true
          ((r.1.mirrorVal n.val Vk.ldx [r.2]).setG n.val i.d r.2).goRs n.val i Rc.ok)
        (fun v s => (s.setG n.val i.d (v.getD 7 0)).goRs n.val i Rc.ok))

/-- STX. -/
def execStx (n : Fin 5) (hw : Option EngErr) (s : State) : Host.Outcome State Fault Refusal :=
  ok (s.engRun n.val 0x25 hw fun i s =>
    let off := s.localAddr n.val i
    s.matrixAccess n.val i off fun s => (s.regWrite n.val off (s.g n.val i.d)).goRs n.val i Rc.ok)

/-! ### Positions (R192, R193) -/

/-- The position of a raster as TNOW writes it: frame, line and sample 0 while it is disabled. -/
def State.nowReg (s : State) (r : Nat) : TReg :=
  ⟨r, if s.enabled r then { s.pos r with frame := (s.pos r).frame % 2 ^ 64 } else ⟨0, 0, 0⟩, true⟩

/-- TNOW. -/
def execTnow (n : Fin 5) (hw : Option EngErr) (s : State) : Host.Outcome State Fault Refusal :=
  ok (s.engRun n.val 0x30 hw fun i s =>
    s.takeVal n.val Vk.tnow
      (fun s =>
        let t := s.nowReg (bits i.w 0 3)
        ((s.mirrorVal n.val Vk.tnow t.words).setK n.val i.d t).go n.val i)
      (fun v s => (s.setK n.val i.d (TReg.ofWords (v.getD 7 0) (v.getD 8 0) (v.getD 9 0) (v.getD 10 0))).go n.val i))

/-- The position `f` frames, `l` lines and `x` samples after `p`: samples carry into lines, lines, counted from 1, into frames, and
frames count in 64 bits. -/
def addPos (p : Pos) (f l x : Int) (tl spl : Nat) : Pos :=
  let sm : Int := p.sample + x
  let ln : Int := p.line - 1 + l + sm / spl
  ⟨wrapInt 64 (p.frame + f + ln / tl), (ln % tl).toNat + 1, (sm % spl).toNat⟩

/-- What TADD writes: on a disabled raster the register unchanged. -/
def State.tadd (s : State) (t : TReg) (gf x : Nat) : TReg :=
  if s.enabled t.raster then
    ⟨t.raster, addPos t.pos (sx 32 gf) (sx 16 x) (sx 16 (x / 65536)) (s.rLines t.raster) (s.rSamples t.raster), true⟩
  else t

/-- TADD. -/
def execTadd (n : Fin 5) (hw : Option EngErr) (s : State) : Host.Outcome State Fault Refusal :=
  ok (s.engRun n.val 0x31 hw fun i s =>
    (s.setK n.val i.d (s.tadd (s.k n.val i.a) (s.g n.val i.b) i.x)).go n.val i)

end Sys2Proof.Machine
end

