-- ==== Sys2Proof/Machine/EdnelXpt.lean ====
section
/-! DEFINITION. Ednel's switching instructions (R196-R208): staging, reading and locking, and what a commit checks and does when it is
accepted. -/
namespace Sys2Proof.Machine

/-! ### Crosspoint (R196-R202) -/

/-- An attribute word without a reserved bit or encoding (Table 7-4). -/
def routeAttrOk (w : Nat) : Bool := decide (bits w 0 13 = 0 ∧ bits w 16 2 ≠ 3 ∧ bits w 25 7 = 0)

/-- The width an attribute word gives, in strands, and its UNROUTE. -/
def attrWidth (w : Nat) : Nat := widthOf (bits w 14 2)
def attrUnroute (w : Nat) : Bool := bit w 13

/-- The entry an attribute word and a source slot give the group's first member (R197). -/
def attrEntry (x w : Nat) : XEnt :=
  { src := if attrUnroute w then 0 else x, routed := !attrUnroute w, width := bits w 14 2, loss := bits w 16 2, gen := bits w 18 6
    oow := bit w 24 }

/-- The code of staging one route. -/
def State.routeCode (s : State) (n d x w : Nat) : Nat :=
  let c := s.stageCode n d x (attrWidth w) (attrUnroute w)
  firstFail [(decide (c ≠ 0), c), (!routeAttrOk w, Rc.arg)]

/-- Stage one route. -/
def State.stageOne (s : State) (n d x w : Nat) : State := s.stageRoute n d x (attrWidth w) (attrEntry x w)

/-- XSTAGE. -/
def execXstage (n : Fin 5) (hw : Option EngErr) (s : State) : Host.Outcome State Fault Refusal :=
  ok (s.engRun n.val 0x40 hw fun i s =>
    let d := s.g n.val i.d
    let x := s.g n.val i.a
    let w := s.g n.val i.b
    let c := s.routeCode n.val d x w
    (if c = 0 then s.stageOne n.val d x w else s).goRs n.val i c)

/-- The records of an XSTAGEB list: word 0 and attribute word. -/
def State.routeList (s : State) (n a k : Nat) : List (Nat × Nat) :=
  (List.range k).map fun j => (s.localRead n (a + 8 * j), s.localRead n (a + 8 * j + 4))
def recDest (r : Nat × Nat) : Nat := bits r.1 0 13
def recSrc (r : Nat × Nat) : Nat := bits r.1 16 13

/-- The destination groups of two records overlap. -/
def recOverlap (p q : Nat × Nat) : Bool :=
  decide (recDest p < recDest q + attrWidth q.2 ∧ recDest q < recDest p + attrWidth p.2)

/-- The code of record `r` after the records `before` (R198). -/
def State.recCode (s : State) (n : Nat) (before : List (Nat × Nat)) (r : Nat × Nat) : Nat :=
  let c := s.routeCode n (recDest r) (recSrc r) r.2
  firstFail [(decide (c ≠ 0), c), (decide (bits r.1 13 3 ≠ 0 ∨ bits r.1 29 3 ≠ 0) || before.any (recOverlap r), Rc.arg)]

/-- The first failing record of a list, with its code. -/
def State.listCode (s : State) (n : Nat) (l : List (Nat × Nat)) : Option (Nat × Nat) :=
  ((List.range l.length).map fun j => (j, s.recCode n (l.take j) (l.getD j (0, 0)))).find? fun p => decide (p.2 ≠ 0)

/-- XSTAGEB. -/
def execXstageb (n : Fin 5) (hw : Option EngErr) (s : State) : Host.Outcome State Fault Refusal :=
  ok (s.engRun n.val 0x41 hw fun i s =>
    let a := s.g n.val i.a
    let k := s.g n.val i.b
    if a % 8 ≠ 0 then s.faultStop n.val Fc.align a
    else if k = 0 ∨ 8192 < k then s.goRs n.val i Rc.arg
    else s.orFault n.val a (listFault hw a 8 (8 * k)) fun s =>
      let l := s.routeList n.val a k
      match s.listCode n.val l with
      | some (j, c) => (s.setG n.val i.d j).goRs n.val i c
      | none => ((l.foldl (fun s r => s.stageOne n.val (recDest r) (recSrc r) r.2) s).setG n.val i.d k).goRs n.val i Rc.ok)

/-- The word that XREAD returns (R201); a read through it clears nothing. -/
def State.xreadWord (s : State) (d sel : Nat) : Nat :=
  match sel with
  | 0 => (s.xActWords d).getD 0 0
  | 1 => (s.xActWords d).getD 1 0
  | 2 => (s.xShWords d).getD 0 0
  | 3 => (s.xShWords d).getD 1 0
  | _ => s.readWord (0x48000 + 4 * d)

/-- XREAD. -/
def execXread (n : Fin 5) (hw : Option EngErr) (s : State) : Host.Outcome State Fault Refusal :=
  ok (s.engRun n.val 0x43 hw fun i s =>
    let d := s.g n.val i.a
    let c := firstFail [(decide (4 < i.imm ∨ 8191 < d), Rc.arg), (decide (i.imm = 4 ∧ 6335 < d), Rc.dstRange)]
    if c ≠ 0 then s.goRs n.val i c
    else s.takeVal n.val Vk.xread
      (fun s =>
        let v := s.xreadWord d i.imm
        ((s.mirrorVal n.val Vk.xread [v]).setG n.val i.d v).goRs n.val i Rc.ok)
      (fun v s => (s.setG n.val i.d (v.getD 7 0)).goRs n.val i Rc.ok))

/-- XLOCK. -/
def execXlock (n : Fin 5) (hw : Option EngErr) (s : State) : Host.Outcome State Fault Refusal :=
  ok (s.engRun n.val 0x44 hw fun i s =>
    let d := s.g n.val i.a
    let w := widthOf (bits i.w 0 2)
    let c := s.lockCode d w (bit i.w 2)
    (if c = 0 then s.lockGroup d w (bit i.w 2) else s).goRs n.val i c)

/-! ### Audio and heads (R203, R205) -/

/-- ASTAGE. -/
def execAstage (n : Fin 5) (hw : Option EngErr) (s : State) : Host.Outcome State Fault Refusal :=
  ok (s.engRun n.val 0x50 hw fun i s =>
    let d := s.g n.val i.d
    let x := s.g n.val i.a
    let w := s.g n.val i.b
    let c := s.aStageCode n.val d x w
    (if c = 0 then s.aStage n.val d x w else s).goRs n.val i c)

/-- LSET. -/
def execLset (n : Fin 5) (hw : Option EngErr) (s : State) : Host.Outcome State Fault Refusal :=
  ok (s.engRun n.val 0x52 hw fun i s =>
    let r := s.lset n.val (s.g n.val i.a) i.imm (s.g n.val i.d)
    r.1.goRs n.val i r.2)

/-! ### Commits (R199, R204, R207) -/

/-- The head that HCOMMIT names, and whether its time register names that head's raster. -/
def State.hcHead (s : State) (n : Nat) (i : Ins) : Nat := s.g n i.b
def State.hcNamed (s : State) (n : Nat) (i : Ins) : Bool :=
  s.kOk n i.a && decide ((s.k n i.a).raster = (s.stagedSet (s.hcHead n i)).raster)

/-- The checks of XCOMMIT: the code, and what gd takes on a refusal. -/
def State.xcommitTry (s : State) (n : Nat) (i : Ins) : Nat × Option Nat :=
  let t := s.k n i.a
  s.commitCode n t.raster (if s.kOk n i.a then t.pos.line else 0)

/-- The checks of ACOMMIT. -/
def State.acommitTry (s : State) (n : Nat) (i : Ins) : Nat × Option Nat :=
  let t := s.k n i.a
  let c := s.aCommitCode n t.raster t.pos (bit i.w 0)
  (firstFail [(decide (c ≠ 0), c), (!s.kOk n i.a, Rc.target)], none)

/-- The checks of HCOMMIT: a refusal leaves its detail in gd. A number that no head has fails with ARG after the checks of lower code. -/
def State.hcommitTry (s : State) (n : Nat) (i : Ins) : Nat × Option Nat :=
  if 96 ≤ s.hcHead n i then
    (firstFail [(!s.commitsOk, Rc.mode), (!s.kOk n i.a || !s.enabled (s.k n i.a).raster, Rc.target), (true, Rc.arg)], some 0)
  else
    let c := s.headCode n (s.hcHead n i) (s.k n i.a).raster (s.k n i.a).pos.frame (s.hcNamed n i) true
    (c.1, some c.2)

/-- The checks of the commit instruction `i`. -/
def State.commitTry (s : State) (n : Nat) (i : Ins) : Nat × Option Nat :=
  if i.op = 0x42 then s.xcommitTry n i else if i.op = 0x51 then s.acommitTry n i else s.hcommitTry n i

/-- Acceptance of an XCOMMIT: the state, gd and kt. -/
def State.xcommitDo (s : State) (n : Nat) (i : Ins) : State × Nat × TReg :=
  let t := s.k n i.a
  let a := s.acceptXpt n t.raster t.pos
  (a.1, a.2, ⟨t.raster, s.shownAt t.raster (s.switchNamed t.raster t.pos), true⟩)

/-- Acceptance of an ACOMMIT. -/
def State.acommitDo (s : State) (n : Nat) (i : Ins) : State × Nat × TReg :=
  let t := s.k n i.a
  let a := s.acceptAud n t.raster t.pos (bit i.w 0)
  (a.1, a.2.1, ⟨t.raster, a.2.2, true⟩)

/-- Acceptance of an HCOMMIT. -/
def State.hcommitDo (s : State) (n : Nat) (i : Ins) : State × Nat × TReg :=
  let t := s.k n i.a
  let h := s.hcHead n i
  let l := s.latchOf t.raster (s.headFrame t.raster t.pos.frame)
  (s.headAccept n h t.raster t.pos.frame true, 0, ⟨t.raster, ⟨l.1, l.2, 0⟩, true⟩)

/-- Acceptance of the commit instruction `i`. -/
def State.commitDo (s : State) (n : Nat) (i : Ins) : State × Nat × TReg :=
  if i.op = 0x42 then s.xcommitDo n i else if i.op = 0x51 then s.acommitDo n i else s.hcommitDo n i

/-- A refused commit: gd takes the detail where there is one; a head shows it too. -/
def State.commitRefuse (s : State) (n : Nat) (i : Ins) (code : Nat) (detail : Option Nat) : State :=
  let s1 := if i.op = 0x53 ∧ s.hcHead n i < 96 then s.headRefused n (s.hcHead n i) code (detail.getD 0) true else s
  match detail with
  | some d => s1.setG n i.d d
  | none => s1

/-- The commit instruction at PC of engine `n` ends, with its code and refusal detail; RS takes `rs`. -/
def State.commitEnd (s : State) (n code : Nat) (detail : Option Nat) (rs : Nat) : State :=
  let i := s.ins n
  let s0 := s.setEng n { s.eng n with wait := .none }
  let s1 := if code = 0 then
      let a := s0.commitDo n i
      (a.1.setG n i.d a.2.1).setK n i.a a.2.2
    else s0.commitRefuse n i code detail
  s1.goRs n i rs

end Sys2Proof.Machine
end

