-- ==== Sys2Proof/Machine/EdnelWait.lean ====
section
/-! DEFINITION. Ednel's instructions that can wait (R167-R169, R194, R195, R199-R208, R214, R217, R218), and how a standby's waits end
as the mirror says (R168-R170). -/
namespace Sys2Proof.Machine

/-! ### Ends of a standby's waits (R168-R170, R423) -/

/-- The timeout register cannot be used (R145). -/
def State.tmoBad (s : State) (n : Nat) (t : Option Nat) : Bool :=
  match t with
  | some k => !s.kOk n k
  | none => false

/-- Enter the grant that the mirror reports for a request, under its token; an entry or unit already taken contradicts it. -/
def State.mirrorGrant (s : State) (holder cls inst param tok seq : Nat) : State :=
  let e := tok % 4096
  match costOf cls param with
  | some c =>
    if e = 0 ∨ s.entryValid e = true ∨ (s.heldEntry cls inst).isSome = true then s.outOfStep Mt.value seq
    else s.enterGrant e holder cls inst param (tok / 4096 % 16) c
  | none => s.outOfStep Mt.value seq

/-- The outcome of an ASK on a standby: the grant is entered, the request leaves the queue, gd and RS take the active's. Of its own
checks a standby makes those of the request's form; one that refused it queued nothing, and stays without a grant (R170). -/
def State.mirrorAsk (s : State) (n dst : Nat) (tmo : Option Nat) (code tok seq : Nat) : State :=
  let r := s.adm.queue.find? fun q => q.master = n
  let s1 := { s with adm := { s.adm with queue := s.adm.queue.filter fun q => decide (q.master ≠ n) } }.admShow
  let s2 := match r with
    | some q => if code = 0 then s1.mirrorGrant n q.cls q.inst q.param tok seq else s1
    | none => s1.divergeIf n (firstFail [(s.tmoBad n tmo, Rc.target), (true, Rc.arg)]) code seq
  (s2.setG n dst (if code = 0 then tok else 0)).wake n code tmo

/-- ACCEPT on a standby (R169, R170): its own commit takes its own effect, or none, at the active's instant; RS takes the active's
code, gd the active's COMMIT_ID. -/
def State.mirrorCommit (s : State) (n own : Nat) (detail : Option Nat) (v : List Nat) : State :=
  let act := v.getD 7 0
  let d := (s.ins n).d
  let s1 := s.atPos (valPos v) fun s => s.commitEnd n own detail act
  (if own = 0 ∧ act = 0 then s1.setG n d (v.getD 8 0) else s1).divergeIf n own act (v.getD 0 0)

/-- The bits a standby's WAITEV takes: those the active took, cleared here too, except CUE_READY. -/
def State.clearEvents (s : State) (n m : Nat) : State :=
  let p := s.rd F.CUE_EVPEND_BITS n
  let k := Nat.land p m
  s.wr F.CUE_EVPEND_BITS n (p - k + (if bit k 7 then 128 else 0))

/-- A standby engine's wait ends as the first mirrored value says; a value of another instruction is dropped and the pair falls out
of step (R168, R403). -/
def State.mirrorEnd (s : State) (n : Nat) : State :=
  match (s.eng n).vals with
  | [] => s
  | v :: _ =>
    let s1 := s.dropVal n
    let x := v.getD 7 0
    let lost := s1.outOfStep Mt.value (v.getD 0 0)
    match (s.eng n).wait with
    | .none => s
    | w =>
      if v.getD 2 0 ≠ s.pc n then lost
      else match w, v.getD 3 0 with
      | .pos c, 6 => s1.wake n x (some c)
      | .event _ d t, 5 => ((s1.clearEvents n x).setDst n d x).wake n Rc.ok t
      | .event _ d t, 6 => (s1.setDst n d 0).wake n x t
      | .tsync _ _ t, 6 => s1.wake n x (some t)
      | .fence, 6 => s1.endWait n .none
      | .ask d t, 4 => s1.mirrorAsk n d t x (v.getD 8 0) (v.getD 0 0)
      | .commit _ c d, 7 => s1.mirrorCommit n c d v
      | _, _ => lost

/-! ### Commit instructions (R169, R199, R204, R207) -/

/-- A commit instruction: alone, it ends at once; on a mirroring device it stands until the standby's acknowledgement; on a standby
it is acknowledged with the own code and ends with the active's acceptance. -/
def State.commitRun (s : State) (n : Nat) (i : Ins) : State :=
  let c := s.commitTry n i
  let w := s.setEng n { s.eng n with wait := .commit s.clk c.1 c.2 }
  if s.fromMirror then (if s.twin.alone then w else w.send Mt.cack [n, i.pc, c.1]).mirrorEnd n
  else if s.mirroring then w
  else s.commitEnd n c.1 c.2 c.1

/-- XCOMMIT. -/
def execXcommit (n : Fin 5) (hw : Option EngErr) (s : State) : Host.Outcome State Fault Refusal :=
  ok (s.engRun n.val 0x42 hw fun i s => s.commitRun n.val i)

/-- ACOMMIT; FN[0] is WITH. -/
def execAcommit (n : Fin 5) (hw : Option EngErr) (s : State) : Host.Outcome State Fault Refusal :=
  ok (s.engRun n.val 0x51 hw fun i s => s.commitRun n.val i)

/-- HCOMMIT. -/
def execHcommit (n : Fin 5) (hw : Option EngErr) (s : State) : Host.Outcome State Fault Refusal :=
  ok (s.engRun n.val 0x53 hw fun i s => s.commitRun n.val i)

/-! ### WAIT and WAITEV (R159, R160, R194, R195) -/

/-- The WAIT that suspends: a position already reached ends it at once with LATE. -/
def State.waitRun (s : State) (n : Nat) (i : Ins) : State :=
  let s1 := (s.armCmp n i.d 1).go n i
  if s.fromMirror then (s1.suspend n (.pos i.d)).mirrorEnd n
  else if s1.cmpReached n i.d then s1.wakeMirror n Rc.late (some i.d)
  else s1.suspend n (.pos i.d)

/-- The WAIT that arms alone: a position already reached sets CMPx at once and leaves the comparator disarmed. -/
def State.waitArm (s : State) (n : Nat) (i : Ins) : State :=
  let s1 := s.armCmp n i.d 2
  if s1.cmpReached n i.d then ((s.disarmCmp n i.d).engEvent n i.d).goRs n i Rc.late else s1.goRs n i Rc.ok

/-- WAIT; IMM[0] is ARM. -/
def execWait (n : Fin 5) (hw : Option EngErr) (s : State) : Host.Outcome State Fault Refusal :=
  ok (s.engRun n.val 0x32 hw fun i s =>
    if !s.kOk n.val i.d then s.goRs n.val i Rc.target
    else if bit i.w 0 then s.waitArm n.val i else s.waitRun n.val i)

/-- The reserved positions of Table 6-5. -/
abbrev evReserved : Nat := 0xFFE0C000

/-- The timeout register of WAITEV and ASK, if one is applied. -/
def Ins.tmo (i : Ins) : Option Nat := if bit i.w 1 then some (bits i.w 4 2) else none

/-- Arm the timeout. -/
def State.armTmo (s : State) (n : Nat) (t : Option Nat) : State :=
  match t with
  | some k => s.armCmp n k 3
  | none => s

/-- The instruction ends: its timeout is disarmed (R160). -/
def State.endTmo (s : State) (n : Nat) (t : Option Nat) : State :=
  match t with
  | some k => s.disarmCmp n k
  | none => s

/-- WAITEV once its operands are good: bits already pending end it at once. -/
def State.waitevRun (s : State) (n : Nat) (i : Ins) : State :=
  let dst := if bit i.w 0 then some i.d else none
  let s1 := (s.armTmo n i.tmo).go n i
  let w := s1.suspend n (.event i.x dst i.tmo)
  let t := s1.takeEvents n i.x
  if s.fromMirror then w.mirrorEnd n
  else if t.2 ≠ 0 then ((t.1.mirrorVal n Vk.waitev [t.2]).setDst n dst t.2).wake n Rc.ok i.tmo
  else w

/-- WAITEV. -/
def execWaitev (n : Fin 5) (hw : Option EngErr) (s : State) : Host.Outcome State Fault Refusal :=
  ok (s.engRun n.val 0x33 hw fun i s =>
    let c := firstFail [(decide (i.x = 0 ∨ Nat.land i.x evReserved ≠ 0), Rc.arg), (s.tmoBad n.val i.tmo, Rc.target)]
    if c ≠ 0 then s.goRs n.val i c else s.waitevRun n.val i)

/-! ### ASK (R214, R420) -/

/-- The request of ASK: class, instance and PARAM, and the code of its form. -/
def askCls (w0 : Nat) : Nat := bits w0 0 8
def askInst (w0 : Nat) : Nat := bits w0 8 16
def State.askForm (s : State) (n : Nat) (i : Ins) (w0 : Nat) : Nat :=
  firstFail [(decide (bits w0 24 8 ≠ 0), Rc.arg), (s.tmoBad n i.tmo, Rc.target)]

/-- The engine joins the queue of waiting requests. -/
def State.askQueue (s : State) (n : Nat) (w0 w1 : Nat) : State :=
  { s with adm := { s.adm with queue := s.adm.queue ++ [AskReq.mk n (askCls w0) (askInst w0) w1] } }.admShow

/-- The end of an ASK that does not wait. -/
def State.askDone (s : State) (n : Nat) (i : Ins) (code tok : Nat) : State :=
  (((s.go n i).mirrorVal n Vk.ask [code, tok]).setG n i.d tok).setRs n code

/-- ASK of request words `w0` and `w1`. A standby waits for the active's outcome. -/
def State.askRun (s : State) (n : Nat) (i : Ins) (w0 w1 : Nat) : State :=
  let form := s.askForm n i w0
  if s.fromMirror then
    let s1 := if form = 0 then (s.armTmo n i.tmo).askQueue n w0 w1 else s
    ((s1.go n i).suspend n (.ask i.d i.tmo)).mirrorEnd n
  else if form ≠ 0 then s.askDone n i form 0
  else
    match s.askVerdict (askCls w0) (askInst w0) w1 (bit i.w 0) with
    | some code =>
      if code = Rc.ok then
        let g := s.grant n (askCls w0) (askInst w0) w1
        (g.1.endTmo n i.tmo).askDone n i code g.2
      else s.askDone n i code 0
    | none => (((s.armTmo n i.tmo).askQueue n w0 w1).go n i).suspend n (.ask i.d i.tmo)

/-- ASK; IMM[0] is WAIT. -/
def execAsk (n : Fin 5) (hw : Option EngErr) (s : State) : Host.Outcome State Fault Refusal :=
  ok (s.engRun n.val 0x70 hw fun i s =>
    let a := s.g n.val i.a
    s.orFault n.val a (listFault hw a 8 8) fun s => s.askRun n.val i (s.localRead n.val a) (s.localRead n.val (a + 4)))

/-! ### FENCE and TSYNC (R166, R167, R217, R218) -/

/-- FENCE: the engine waits for the acknowledgement of its last write. -/
def execFence (n : Fin 5) (hw : Option EngErr) (s : State) : Host.Outcome State Fault Refusal :=
  ok (s.engRun n.val 0x81 hw fun i s =>
    let w := (s.go n.val i).suspend n.val .fence
    if s.fromMirror then w.mirrorEnd n.val else w)

/-- TSYNC: the engine enters the barrier. -/
def execTsync (n : Fin 5) (hw : Option EngErr) (s : State) : Host.Outcome State Fault Refusal :=
  ok (s.engRun n.val 0x82 hw fun i s =>
    let mask := bits i.w 8 5
    let t := bits i.w 13 2
    let c := firstFail [(!bit mask n.val || bit mask s.spareNum, Rc.arg), (!s.kOk n.val t, Rc.target)]
    if c ≠ 0 then s.goRs n.val i c
    else
      let w := ((s.armCmp n.val t 3).go n.val i).suspend n.val (.tsync (bits i.w 0 8) mask t)
      if s.fromMirror then w.mirrorEnd n.val else w)

end Sys2Proof.Machine
end

