-- ==== Sys2Proof/Machine/EdnelDev.lean ====
section
/-! DEFINITION. Ednel's frame store, admission and host instructions that do not wait (R209-R219), and undefined opcodes (R178). -/
namespace Sys2Proof.Machine

/-! ### Frame store (R209-R213) -/

/-- The four request words of BUFALLOC at `a` (Table 7-7), taken by `f`. -/
def State.bufRequest (s : State) (n a : Nat) (at' : Option Nat) : State × Nat × Nat :=
  s.bufAlloc n (s.localRead n a) (s.localRead n (a + 4)) (s.localRead n (a + 8)) (s.localRead n (a + 12)) at'

/-- BUFALLOC as a standby carries it out (R404): the active's handle on pages of its own; its own check may differ (R170). -/
def State.mirrorAlloc (s : State) (n : Nat) (i : Ins) (a act h seq : Nat) : State :=
  let r := s.bufRequest n a (if act = 0 then some h else none)
  let s1 := if act = 0 then r.1.setG n i.d h else if r.2.1 = 0 then r.1.setG n i.d r.2.2 else r.1
  (s1.goRs n i act).divergeIf n r.2.1 act seq

/-- BUFALLOC. -/
def execBufalloc (n : Fin 5) (hw : Option EngErr) (s : State) : Host.Outcome State Fault Refusal :=
  ok (s.engRun n.val 0x60 hw fun i s =>
    let a := s.g n.val i.a
    s.orFault n.val a (listFault hw a 16 16) fun s =>
      s.takeVal n.val Vk.bufalloc
        (fun s =>
          let r := s.bufRequest n.val a none
          let s1 := r.1.mirrorVal n.val Vk.bufalloc [r.2.1, r.2.2]
          (if r.2.1 = 0 then s1.setG n.val i.d r.2.2 else s1).goRs n.val i r.2.1)
        (fun v s => s.mirrorAlloc n.val i a (v.getD 7 0) (v.getD 8 0) (v.getD 0 0)))

/-- BUFFREE. -/
def execBuffree (n : Fin 5) (hw : Option EngErr) (s : State) : Host.Outcome State Fault Refusal :=
  ok (s.engRun n.val 0x61 hw fun i s =>
    let r := s.bufFree n.val (s.g n.val i.a)
    r.1.goRs n.val i r.2)

/-- RECSTART. -/
def execRecstart (n : Fin 5) (hw : Option EngErr) (s : State) : Host.Outcome State Fault Refusal :=
  ok (s.engRun n.val 0x62 hw fun i s =>
    s.asActive n.val fun s =>
      let r := s.recStart n.val (s.g n.val i.a) (s.g n.val i.b)
      r.1.goRs n.val i r.2)

/-- RECSTOP. -/
def execRecstop (n : Fin 5) (hw : Option EngErr) (s : State) : Host.Outcome State Fault Refusal :=
  ok (s.engRun n.val 0x63 hw fun i s =>
    s.asActive n.val fun s =>
      let r := s.recStop (s.g n.val i.a)
      r.1.goRs n.val i r.2)

/-- PLAY. -/
def execPlay (n : Fin 5) (hw : Option EngErr) (s : State) : Host.Outcome State Fault Refusal :=
  ok (s.engRun n.val 0x64 hw fun i s =>
    s.asActive n.val fun s =>
      let r := s.play n.val (s.g n.val i.d) (s.g n.val i.a) (s.g n.val i.b)
      r.1.goRs n.val i r.2)

/-! ### GIVE, EMIT and SUMMARY (R215, R216, R219) -/

/-- GIVE. -/
def execGive (n : Fin 5) (hw : Option EngErr) (s : State) : Host.Outcome State Fault Refusal :=
  ok (s.engRun n.val 0x71 hw fun i s =>
    let tok := s.g n.val i.a % 65536
    let c := s.giveVerdict n.val tok false
    (if c = Rc.ok then s.returnEntry (tok % 4096) else s).goRs n.val i c)

/-- The effect of an EMIT to `targets` (R216): a ring that takes no record refuses it whole, and counts the record lost. -/
def State.emit (s : State) (n targets d0 d1 : Nat) : State × Nat :=
  let host := bit targets 5
  let rec' := fun (s : State) => s.evRecord 0x01 n (s.winSeq n) 0 d0 d1
  if targets = 0 then (s, Rc.arg)
  else if host && (!s.evrOpen || s.evrFull) then (rec' s, Rc.ringFull)
  else
    let s1 := s.engMask (targets % 32) (16 + n)
    (if host then rec' s1 else s1, Rc.ok)

/-- EMIT; every earlier write is visible before it (R166). -/
def execEmit (n : Fin 5) (hw : Option EngErr) (s : State) : Host.Outcome State Fault Refusal :=
  ok (s.engRun n.val 0x80 hw fun i s =>
    let r := s.emit n.val (bits i.w 0 6) (s.g n.val i.a) (s.g n.val i.b)
    r.1.goRs n.val i r.2)

/-- SUMMARY; IMM[0] is FULL. -/
def execSummary (n : Fin 5) (hw : Option EngErr) (s : State) : Host.Outcome State Fault Refusal :=
  ok (s.engRun n.val 0x83 hw fun i s =>
    s.asActive n.val fun s =>
      let r := s.summaryReq n.val (bit i.w 0)
      r.1.goRs n.val i (if r.2 then Rc.ok else Rc.busy))

/-! ### Undefined opcodes (R178) -/

/-- UNDEFINED_OPCODE: the word at PC has an opcode that Table 7-2 does not list. -/
def execUndefinedOpcode (n : Fin 5) (hw : Option EngErr) (s : State) : Host.Outcome State Fault Refusal :=
  ok (let i := s.ins n.val
    if !s.takes n.val then s
    else match hw.bind EngErr.stop with
    | some code => s.faultStop n.val code 0
    | none => if definedOp i.op then s else s.faultStop n.val Fc.illegal 0)

end Sys2Proof.Machine
end

