-- ==== Sys2Proof/Machine/Mirror.lean ====
section
/-! DEFINITION. What the mirror brings (R168-R170, R399-R403): records, values, acknowledgements and host writes. -/
namespace Sys2Proof.Machine

/-- A standby takes mirrored items while the pair converges or is in step, until it has learnt that the active went on alone (R402). -/
def State.follows (s : State) : Bool :=
  s.mode = Mode.standby && (s.pair = Ps.converging || s.pair = Ps.inStep) && !s.twin.alone

/-- What a RECORD does: it enters the window of the engine of the same number, its tag unchecked and its COUNTER kept (R168, R493);
an engine that can take none lacks the state it refers to. -/
def State.onRecord (seq m : Nat) (ws : List Nat) (s : State) : State :=
  if !s.follows then s
  else if (s.eng m).win.isSome || !(s.es m = Es.idle || s.es m = Es.running || s.es m = Es.waiting) then
    s.outOfStep Mt.record seq
  else
    let s1 := if bit (ws.getD 0 0) 25 then s.wr64 F.CUE_AUTH_CTR_LO F.CUE_AUTH_CTR_HI m (recCounter ws) else s
    s1.loadWindow m ws

/-- A host's ASK granted on the active device (R399, R423). -/
def State.mirrorHost (s : State) (v : List Nat) (seq : Nat) : State :=
  let w := v.getD 0 0
  s.mirrorGrant 7 (bits w 8 8) (bits w 16 16) (v.getD 2 0) (v.getD 1 0) seq

/-- What a VALUE does: an outside value, or the end of a wait, of engine `n` (7: the host); it waits until its instruction takes it. -/
def State.onValue (seq m pc kind : Nat) (at' : Pos) (v : List Nat) (s : State) : State :=
  let item := [seq, m, pc, kind, at'.frame % 2 ^ 32, at'.frame / 2 ^ 32 % 2 ^ 32, at'.line % 65536 + 65536 * (at'.sample % 65536)] ++ v
  if !s.follows then s
  else if m = 7 then s.mirrorHost v seq
  else if 4 < m ∨ ((s.eng m).wait = .none ∧ s.es m ≠ Es.running) then s.outOfStep Mt.value seq
  else (s.setEng m { s.eng m with vals := (s.eng m).vals ++ [item] }).mirrorEnd m

/-- The commit that engine `n` waits to have acknowledged. -/
def State.commitWait (s : State) (n : Nat) : Option (Nat × Nat × Option Nat) :=
  match (s.eng n).wait with
  | .commit since code detail => some (since, code, detail)
  | _ => none

/-- The active device accepts the waiting commit now (R169), and tells the standby. -/
def State.commitAccept (s : State) (n code : Nat) (detail : Option Nat) : State :=
  let i := s.ins n
  let s1 := s.commitEnd n code detail code
  s1.mirror Mt.value ([n, i.pc, Vk.accept] ++ s.houseWords ++ [code, s1.g n i.d])

/-- What a CACK does: the acknowledgement of the commit that engine `n` waits at; none waits there: a violation, unless the device runs
alone after a timeout (R402). -/
def State.onCack (seq n pc : Nat) (s : State) : State :=
  match s.commitWait n with
  | some (_, own, detail) => if pc = s.pc n then s.commitAccept n own detail else s.outOfStep Mt.cack seq
  | none => if s.twin.alone then s else s.outOfStep Mt.cack seq

/-- CACK_TIMEOUT: no acknowledgement within ACK_TIMEOUT: accepted alone (R402); a device that mirrors no more accepts likewise. -/
def execCackTimeout (n : Fin 5) (s : State) : Host.Outcome State Fault Refusal :=
  ok (match s.commitWait n.val with
    | some (since, own, detail) =>
      if s.fromMirror || !decide (since + s.rd F.COBALT_CFG_ACK_TIMEOUT 0 * usClk ≤ s.clk) then s
      else
        let s1 := s.commitEnd n.val own detail own
        if s.mirroring then
          let s2 := { s1 with twin := { s1.twin with alone := true } }
          (s2.clearInStep.event F.COBALT_EVENT_ACK_TIMEOUT 0 Irq.cobalt).faultEvent Src.cobalt true
        else s1
    | none => s)

/-! ### Host writes (R399) -/

/-- Apply one mirrored word: a register, an engine memory named with its selection, or a BAR2 table; `none` where it refers to
nothing the active mirrors. -/
def State.hostwWord (s : State) (space off w : Nat) : Option State :=
  if space = 0 then
    let o := off % 2 ^ 24
    let q := off / 2 ^ 24
    if !mirroredOff o || !bar0Mapped o then none
    else if 0x70000 ≤ o ∧ o < 0x80000 then
      (let t := bits q 3 2
      let p := q / 32
      if q % 8 ≤ 4 ∧ ((t = 0 ∧ p ≤ 1) ∨ (t = 1 ∧ p = 0) ∨ (t = 2 ∧ p ≤ 15)) then
        some (s.cueMemWrite (q % 8) t (p * 16384 + (o - 0x70000) / 4) w)
      else some s)
    else some (s.regWrite 5 o w)
  else if space = 2 ∧ bar2Mirrored off = true then some (s.bar2Put off w) else none

/-- The words a byte list makes, little-endian (R5). -/
def wordsOf (l : List Nat) : List Nat := (List.range (l.length / 4)).map fun k => leWord (l.drop (4 * k))

/-- Apply a mirrored write (Table 14-2): space 0, 2 or 4, offset, and its bytes. -/
def State.hostwApply (s : State) (space off seq : Nat) (data : List Nat) : State :=
  if space = 4 then s.hostWinWrite (off / 2 ^ 36) (off % 2 ^ 36) data
  else
    let ws := wordsOf data
    (List.range ws.length).foldl (fun s k =>
      match s.hostwWord space (off + 4 * k) (ws.getD k 0) with
      | some t => t
      | none => s.outOfStep Mt.hostw seq) s

/-- What a HOSTW does: a mirrored host write, as though accepted at the active's position. -/
def State.onHostw (seq space off : Nat) (at' : Pos) (data : List Nat) (s : State) : State :=
  if !s.follows then s else s.atPos at' fun s => s.hostwApply space off seq data

end Sys2Proof.Machine
end

