-- ==== Sys2Proof/Machine/Deliver.lean ====
section
/-! DEFINITION. Reception on the twin link (R394, R395, R414): a message that arrives is heard and its ACK taken; it is delivered in the
order of SEQ, and one that comes early is held until the gap is filled. -/
namespace Sys2Proof.Machine

/-- Deliver a received message, the next in SEQ: which role may send it (0 both, 1 ACTIVE, 2 STANDBY), and what it does. -/
def State.act (h : CobHdr) (m : Received) (s : State) : State :=
  match m with
  | .hello b => s.deliver h Mt.hello 0 (State.onHello b)
  | .record n ws => s.deliver h Mt.record 1 (State.onRecord h.seq n ws)
  | .value n pc kind at' v => s.deliver h Mt.value 1 (State.onValue h.seq n pc kind at' v)
  | .cack n pc => s.deliver h Mt.cack 2 (State.onCack h.seq n pc)
  | .hostw space off at' data => s.deliver h Mt.hostw 1 (State.onHostw h.seq space off at' data)
  | .digest r frame es => s.deliver h Mt.digest 0 (State.onDigest r frame es)
  | .time v => s.deliver h Mt.time 1 fun s => s.twinTime v h.seq
  | .echo orig rx tx => s.deliver h Mt.echo 0 (State.onEcho orig rx tx)
  | .giveup => s.deliver h Mt.giveup 0 State.onGiveup
  | .swap op f => s.deliver h Mt.swap 0 (State.onSwap h.seq op f)
  | .state o off ws => s.deliver h Mt.state 1 (State.onState o off ws)
  | .status mode pair own resync low => s.deliver h Mt.status 0 fun s => s.peerStatus mode pair own resync low
  | .other typ => s.deliver h typ 0 fun s => s.cobaltBreach 0x02 1 typ h.seq

/-- Deliver what is held and now next in SEQ. -/
def State.drainHeld (n : Nat) (s : State) : State :=
  match n with
  | 0 => s
  | n + 1 =>
    match s.twin.held.find? fun e => decide (e.1.seq = s.twin.rxSeq) with
    | some e => ((s.setTwin fun t => { t with held := t.held.filter fun x => decide (x.1.seq ≠ e.1.seq) }).act e.1 e.2).drainHeld n
    | none => s

/-- A message arrives (R395): its SEQ is the next, or it is early and held, or it is a repetition and dropped. -/
def State.arrive (s : State) (h : CobHdr) (m : Received) : State :=
  if !s.seeks then s
  else
    let s1 := (s.linkHeard h).linkAcked h
    if h.seq = s1.twin.rxSeq then (s1.act h m).drainHeld s1.twin.held.length
    else if (h.seq + 2 ^ 32 - s1.twin.rxSeq) % 2 ^ 32 < 2 ^ 31 then
      s1.setTwin fun t => { t with held := (h, m) :: t.held.filter fun x => decide (x.1.seq ≠ h.seq) }
    else s1

/-- HELLO_RX. -/
def execHelloRx (h : CobHdr) (b : List Nat) (s : State) : Host.Outcome State Fault Refusal := ok (s.arrive h (.hello b))

/-- RECORD_RX. -/
def execRecordRx (h : CobHdr) (n : Fin 5) (ws : List Nat) (s : State) : Host.Outcome State Fault Refusal :=
  ok (s.arrive h (.record n.val ws))

/-- VALUE_RX. -/
def execValueRx (h : CobHdr) (n : Fin 8) (pc kind : Nat) (at' : Pos) (v : List Nat) (s : State) : Host.Outcome State Fault Refusal :=
  ok (s.arrive h (.value n.val pc kind at' v))

/-- CACK_RX. -/
def execCackRx (h : CobHdr) (n : Fin 5) (pc _code : Nat) (s : State) : Host.Outcome State Fault Refusal :=
  ok (s.arrive h (.cack n.val pc))

/-- HOSTW_RX. -/
def execHostwRx (h : CobHdr) (space off : Nat) (at' : Pos) (data : List Nat) (s : State) : Host.Outcome State Fault Refusal :=
  ok (s.arrive h (.hostw space off at' data))

/-- DIGEST_RX. -/
def execDigestRx (h : CobHdr) (r : Fin 8) (frame : Nat) (es : List (Nat × Nat)) (s : State) : Host.Outcome State Fault Refusal :=
  ok (s.arrive h (.digest r.val frame es))

/-- TIME_RX. -/
def execTimeRx (h : CobHdr) (v : Nat) (s : State) : Host.Outcome State Fault Refusal := ok (s.arrive h (.time v))

/-- ECHO_RX. -/
def execEchoRx (h : CobHdr) (orig rx tx : Nat) (s : State) : Host.Outcome State Fault Refusal :=
  ok (s.arrive h (.echo orig rx tx))

/-- GIVEUP_RX. -/
def execGiveupRx (h : CobHdr) (_reason : Fin 256) (s : State) : Host.Outcome State Fault Refusal := ok (s.arrive h .giveup)

/-- SWAP_RX. -/
def execSwapRx (h : CobHdr) (op : Fin 5) (f : Nat) (s : State) : Host.Outcome State Fault Refusal := ok (s.arrive h (.swap op.val f))

/-- STATE_RX: an offset into object `o` and the words from there on. -/
def execStateRx (h : CobHdr) (o : Nat) (part : Nat × List Nat) (s : State) : Host.Outcome State Fault Refusal :=
  ok (s.arrive h (.state o part.1 part.2))

/-- COBALT_STATUS_RX. -/
def execCobaltStatusRx (h : CobHdr) (mode pair : Fin 8) (own resync low : Bool) (s : State) : Host.Outcome State Fault Refusal :=
  ok (s.arrive h (.status mode.val pair.val own resync low))

/-- DISCARDED_MESSAGE_RX: the LEN of a SOM on a lane and the words that followed it; `uncorr`: in an uncorrectable frame. One whose CRC fails
is dropped, one of a wrong LEN is a violation, and one of a reserved TYPE is a violation and acknowledged (Table 14-7). -/
def execDiscardedMessageRx (lane : Fin 4) (m : Nat × List Nat) (uncorr : Bool) (s : State) : Host.Outcome State Fault Refusal :=
  let ws := m.2
  let h := wordsHdr lane ws
  ok (if !s.seeks then s
  else if uncorr then s.incSat F.COBALT_LANE_UNCORR lane
  else if badLen m.1 ws then s.cobaltBreach 0x01 1 (wordsType ws) h.seq
  else if goodCrc ws && reservedType (wordsType ws) then s.arrive h (.other (wordsType ws))
  else s)

end Sys2Proof.Machine
end

