-- ==== Sys2Proof/Machine/Egress.lean ====
section
/-! DEFINITION. What leaves the device (R98, R109, R114, R117, R134-R139, R293, R316-R329): the line a plane forwards to each
destination, embedded audio, what a lane sends turn by turn and frame by frame, and the probes. -/
namespace Sys2Proof.Machine

/-! ### Embedding (R293) -/

/-- Eight bits with the two bits above them that ancillary words take: even parity, and its complement. -/
def parity8 (v : Nat) : Nat :=
  let p := countIf (List.range 8) (fun i => bit v i) % 2
  v % 256 + 256 * p + 512 * (1 - p)

/-- The four words of an AES3 subframe in an ST 299 packet: 24 bits and V, U, C above them; `z` begins a channel-status block. -/
def hdAudio (z : Bool) (x : Nat) : List Nat :=
  let par := countIf (List.range 27) (fun i => bit x i) % 2
  [x % 16 * 16 + 8 * b2n z, x / 16 % 256, x / 4096 % 256, x / 2 ^ 20 % 16 + 16 * (x / 2 ^ 24 % 8) + 128 * par]

/-- An ST 299-1 or 299-2 packet of group `g` (0-7): the samples of boundary `b`, `clk` sample clocks into the line before, or, `late`,
into the one before that. -/
def hdPacket (g b clk : Nat) (late : Bool) (xs : List Nat) : List Nat :=
  let did := if g < 4 then 0xE7 - g else 0xA7 - (g - 4)
  let u := [clk % 256, clk / 256 % 16 + 16 * b2n late + 32 * (clk / 4096 % 2)] ++ xs.flatMap (hdAudio (b % 192 = 0))
  let head := [0, 0x3FF, 0x3FF, parity8 did, parity8 (b % 255 + 1), parity8 24] ++ u.map parity8
  let body := head.drop 3 ++ (bchWords head).map parity8
  [0, 0x3FF, 0x3FF] ++ body ++ [ancSum body]

/-- An ST 272 packet of group `g` (0-3): for each boundary its four samples, 20 bits each. -/
def sdPacket (g : Nat) (bs : List (Nat × List Nat)) : List Nat :=
  let not8 := fun (v : Nat) => v % 512 + 512 * (1 - v / 256 % 2)
  let one := fun (z : Bool) (c x : Nat) =>
    let a := x / 16 % 2 ^ 20
    let vuc := x / 2 ^ 24 % 8
    let par := countIf (List.range 20) (fun i => bit a i) + countIf (List.range 3) fun i => bit vuc i
    [not8 (b2n z + 2 * c + 8 * (a % 64)), not8 (a / 64 % 512), not8 (a / 2 ^ 15 % 32 + 32 * vuc + 256 * (par % 2))]
  ancMake (0xFF - 2 * g) 1 (bs.flatMap fun b => b.2.zipIdx.flatMap fun x => one (b.1 % 192 = 0) x.2 x.1)

/-- The audio control packet of group `g` at 96 kHz or 48 kHz. -/
def ctlPacket (sd : Bool) (g : Nat) (r96 : Bool) : List Nat :=
  if sd then ancMake (0xEF - g) 1 ([0, 0, 0, 0xF] ++ List.replicate 14 0)
  else ancMake (if g < 4 then 0xE3 - g else 0xA3 - (g - 4)) 1 (([0, if r96 then 8 else 0, 0xF] ++ List.replicate 8 0).map parity8)

/-- One stream's horizontal blanking, `n` words from `at'`: its packets other than audio, then `add`, then blanking. DESIGN CHOICE (log
149): packets keep their order and stand together. -/
def hancStream (sd : Bool) (at' n blank : Nat) (add : List Nat) (st : List Nat) : List Nat :=
  let keep := (ancOf ((st.drop at').take n)).filter fun p => !isAudPacket sd p
  let ws := (keep.flatMap fun p => [0, 0x3FF, 0x3FF] ++ p) ++ add
  let pad := (List.range n).map fun i => if sd then (if i % 2 = 0 then 0x200 else 0x40) else blank
  st.take at' ++ ((ws ++ pad.drop ws.length).take n) ++ st.drop (at' + n)

/-- A channel with its audio packets taken out, and `a1`, `a2` put into its streams' horizontal blanking; one with none stays. -/
def embedChan (sd : Bool) (act : Nat) (a1 a2 : List Nat) (ch : List Nat) : List Nat :=
  let has := (chanAnc sd ch).any (isAudPacket sd)
  if isFill ch || (!has && a1.isEmpty && a2.isEmpty) then ch
  else
    let at' := act + (if sd then 4 else 8)
    let n := ch.length - 4 - at'
    if sd then hancStream true at' n 0 (a1 ++ a2) ch
    else List.zipWith pair20 (hancStream false at' n 0x40 a1 (stream1 ch)) (hancStream false at' n 0x200 a2 (stream2 ch))

/-- ST 299-1 and ST 272 permit no audio data in the line after the switch line. PRESUMED (log 133). -/
def State.noAudio (s : State) (r rl : Nat) : Bool := decide (rl = s.rd F.SLATE_RASTER_STATUS_SWLINE_EFF r + 1)

/-- The boundaries whose samples port `p` embeds in a line that begins now. -/
def State.embBoundaries (s : State) (p : Nat) : List Nat :=
  let top := Nat.min (s.boundaryNow 48000 + 1) s.aud.bnd
  let from' := tget s.aud.embAt p 0
  let lo := if from' = 0 ∨ from' + 64 < top then top - 1 else from'
  (List.range (top - lo)).map (· + lo)

/-- Clock phase of boundary `b` for a line that begins now on raster `r`: sample clocks into the line before, of `len` a strand line of
`step` raster lines; (true) into the one before that. -/
def State.clkPhase (s : State) (r step len b : Nat) : Nat × Bool :=
  let u := s.rSamples r * step * s.phaseFull r * 262144
  let d := (s.house * 48000 - b * secUnits) * s.phaseStep r / 48000
  if d ≤ u then ((u - d) * len / Nat.max 1 u, false) else ((2 * u - d) * len / Nat.max 1 u, true)

/-- What the embedder of port `p` puts into sub-channel `c` of its first strand: control packets for stream one, data packets for
stream two. `black`: every sample is 0. -/
def State.embPackets (s : State) (p r step len c rl : Nat) (sub1 sd black : Bool) (bs : List Nat) : List Nat × List Nat :=
  let gs := (List.range 8).filter fun g => s.embGroup p g && (decide ((sub1 && decide (4 ≤ g)) = decide (c = 1)) && (decide (c = 0) || sub1))
  let num := fun (g : Nat) => if c = 1 then g - 4 else g
  let smp := fun (g b : Nat) => (List.range 4).map fun j =>
    let d := 32 * p + 4 * g + j
    if black then 2 ^ 24 * aesGen (decide (s.dstRate d = 1)) b else s.sentSample d b
  let ctl := if rl = s.rd F.SLATE_RASTER_STATUS_SWLINE_EFF r + 2 then
      gs.flatMap fun g => ctlPacket sd (num g) (bit (s.rd F.AUDIO_PORT_GRP96 p) g) else []
  let data := gs.flatMap fun g =>
    if sd then (if bs.isEmpty then [] else sdPacket (num g) (bs.map fun b => (b, smp g b)))
    else bs.flatMap fun b => let k := s.clkPhase r step len b; hdPacket (num g) b k.1 k.2 (smp g b)
  (ctl, data)

/-- The embedder of a fabric slot acts on a line's words (R293): member strand `m` of port `p`, whose line begins with raster line `rl`. -/
def State.embed (s : State) (p m cls st r rl : Nat) (black : Bool) (ws : List Nat) : State × List Nat :=
  let lay := layOf cls
  let sd := decide (lay = .sd)
  let chs := lay.chans ws
  let act := chanActive (signalStruct cls st)
  if s.on F.AUDIO_PORT_EMB_MODE p then (s, ws)
  else
    let sub1 := decide (cls = 3) || (decide (cls = 2) && !isFill (chs.getD 1 []))
    let bs := if m ≠ 0 ∨ s.noAudio r rl = true then [] else s.embBoundaries p
    let put := chs.zipIdx.map fun ch =>
      let a := if m = 0 then s.embPackets p r (strandStep cls) ch.1.length ch.2 rl sub1 sd black bs else ([], [])
      embedChan sd act a.1 a.2 ch.1
    let s1 := match bs.getLast? with
      | some b => { s with aud := { s.aud with embAt := tput s.aud.embAt p (b + 1) 0 } }
      | none => s
    (s1, lay.words put)

/-! ### The line of a destination (R98, R109, R114, R117, R134-R138) -/

/-- Class, structure, rate and member number of destination slot `d`'s strand. -/
def State.destStrand (s : State) (d : Nat) : Nat × Nat × Nat × Nat :=
  let r := (s.dstRaster d).getD 0
  if d < 4608 then let p := s.slotPort d; (s.portClass p, s.rStruct r, s.rRate r, d - 4 * p)
  else if d < 5760 then
    match s.flowOfSlot d 1 with
    | some i => (classOf (s.fStruct i) (s.fRate i), s.fStruct i, s.fRate i, d - s.fSlot i)
    | none => (0, 0, 0, 0)
  else
    let e := s.xa d
    let x := groupSrc d e
    let cls := if x < 4608 then s.portClass (s.slotPort x) else classOf (s.rStruct r) (s.rRate r)
    (cls, s.rStruct r, s.rRate r, d % widthOf e.width)

/-- Strand words of a line. -/
def strandWords (cls st rate : Nat) : Nat :=
  match layOf cls with
  | .sd => chanLen cls st rate / 2 * 11
  | .pair => 2 * chanLen cls st rate
  | .ga => chanLen cls st rate

/-- Strand line that house line `l` of a strand structure of `n` lines carries under line-mode offset `k`, in raster lines (R117). -/
def sourceLine (cls n l : Nat) (k : Int) : Nat := (((l : Int) - 1 - k / strandStep cls) % (n : Int)).toNat + 1

/-- Strand line `l` of source slot `x`, member `m`, as the switch reads it, and whether its CRC failed on arrival; `f`: the egress frame.
A line that no aligner or buffer holds is open: its words are free values (log 149). -/
def State.readLine (s : State) (x m n l f : Nat) : List Nat × Bool :=
  if 6272 ≤ x ∧ x < 6656 then (s.headWords ((x - 6272) / 4) m l f, false)
  else
    match s.heldLine x l with
    | some a => (a.words, a.crcBad)
    | none => ((List.range n).map fun i => Config.noPixel s.draw.2 l i % 2 ^ 20, false)

/-- The words that reach the aligner now (R134 PASS). -/
def State.lastLine (s : State) (x m n l f : Nat) : List Nat × Bool :=
  if 6272 ≤ x ∧ x < 6656 then s.readLine x m n l f
  else
    match tget s.aligner x [] with
    | a :: _ => (a.words, a.crcBad)
    | [] => s.readLine x m n l f

/-- The generator and PATTERN that destination `d` shows (R138): taken when a frame of it begins, or a new generator does. -/
def State.genHeld (s : State) (d g l : Nat) : Nat :=
  let h := tget s.destGen d 0
  if l ≠ 1 ∧ 0 < h ∧ (h - 1) / 16 = g then (h - 1) % 16 else s.rd F.XPT_GEN_CFG_PATTERN g

/-- The words of strand line `l` that destination `d` takes from what it carries, before egress writes its structure back: none for
fill; whether they are to show a CRC error (R109). -/
def State.carried (s : State) (d l f : Nat) (c : Carry) : Option (List Nat × Bool) :=
  let x := s.destStrand d
  let n := strandWords x.1 x.2.1 x.2.2.1
  let total := totalLines (signalStruct x.1 x.2.1)
  match c with
  | .fill => none
  | .black => some (genLine 0 0 x.1 x.2.1 x.2.2.1 x.2.2.2 l, false)
  | .gen g => some (genLine (s.genHeld d g l) (s.genWord g) x.1 x.2.1 x.2.2.1 x.2.2.2 l, false)
  | .pass y => some (s.lastLine y x.2.2.2 n l f)
  | .source y k => some (s.readLine y x.2.2.2 n (sourceLine x.1 total l k) f)

/-- One of the raster lines in the time of the strand line that begins at raster line `rl` is a switch line of frame `f`. -/
def State.onSwitch (s : State) (r step f rl : Nat) : Bool :=
  (s.switchLines r f).any fun c => c.1 = f && decide (rl ≤ c.2 ∧ c.2 < rl + step)

/-- The line that destination `d` carries at strand line `l`, begun by raster line `rl` of egress frame `f` (R109, R293): none for fill. -/
def State.destWords (s : State) (d r l f rl : Nat) : State × Option (List Nat) :=
  let c := s.carries d
  let x := s.destStrand d
  let s1 : State := match c with
    | .gen g => { s with destGen := tput s.destGen d (g * 16 + s.genHeld d g l + 1) 0 }
    | _ => { s with destGen := tput s.destGen d 0 0 }
  match s.carried d l f c with
  | none => (s1, none)
  | some w =>
    let inv := decide (d < 4608) && w.2 && !s.on F.ALIGN_PORT_CFG_CRC_POL (s.slotPort d) && !s.onSwitch r (strandStep x.1) f rl
    let s2 := if s.freeCtr < s.draw.1.freeCtr then { s1 with freeCtr := s.draw.1.freeCtr } else s1
    let e := if decide (d < 4608) && (s.xa d).routed then s2.embed (s.slotPort d) x.2.2.2 x.1 x.2.1 r rl (c = .black) w.1 else (s2, w.1)
    (e.1, some (stampLine x.1 x.2.1 l inv e.2))

/-! ### Forwarding a line (R122, R139, R360, R368) -/

/-- Luma of a strand's active words, of the channels that carry a signal. -/
def lumaOf (lay : Lay) (n : Nat) (ws : List Nat) : List Nat :=
  (lay.chans ws).flatMap fun ch =>
    if isFill ch then []
    else if lay = .sd then odds (ch.take n) else stream1 (ch.take n)

/-- A probe takes a line of its strand (R139); none: its loss policy gave none. -/
def State.probeTake (s : State) (i : Nat) (cls st l f : Nat) (ws : Option (List Nat)) : State :=
  let q0 := tget s.probeRun i {}
  let q := if q0.frame = f then q0 else { q0 with frame := f, acc := 0xFFFFFFFF, lo := 1023, hi := 0, subst := s.on F.XPT_DEST_STATUS_SUBST (6272 + i) }
  let lay := layOf cls
  let sq := signalStruct cls st
  let put := fun (q : ProbeRun) => { s with probeRun := tput s.probeRun i q {} }
  match ws with
  | none => put q
  | some w =>
    let ys := if vBit sq l then [] else lumaOf lay (chanActive sq) w
    put { q with acc := (lineCrcBytes lay sq l w).foldl crcByte q.acc, lo := ys.foldl Nat.min q.lo, hi := ys.foldl Nat.max q.hi }

/-- The ancillary packets of a send strand's line that an ANC flow carries (R368): all but audio, in the order of the line. -/
def sendAnc (lay : Lay) (m f fld l : Nat) (ws : List Nat) : List AncOut :=
  (lay.chans ws).zipIdx.flatMap fun ch =>
    let n := (if lay = .pair then 2 * m + ch.2 else m) * 2
    [(stream1 ch.1, n), (stream2 ch.1, n + 1)].flatMap fun st =>
      (ancPlaces st.1 0 st.1.length).filterMap fun p =>
        if isAudPacket false p.2 then none else some { frame := f, field := fld, line := l, stream := st.2, place := p.1, words := p.2 }
where
  /-- The packets of a stream with their places. -/
  ancPlaces (ws : List Nat) (i fuel : Nat) : List (Nat × List Nat) :=
    match fuel with
    | 0 => []
    | k + 1 => match ws with
      | 0 :: 0x3FF :: 0x3FF :: r =>
        let n := r.getD 2 0 % 256 + 4
        if r.length < n then [] else (i, r.take n) :: ancPlaces (r.drop n) (i + 3 + n) k
      | _ :: r => ancPlaces r (i + 1) k
      | [] => []

/-- An IP send slot takes a line into its buffer of 48 strand lines (R360), and its ANC flow the line's packets (R368). -/
def State.sendTake (s : State) (d m cls st l f : Nat) (ws : List Nat) : State :=
  let a : AlLine := { line := l, words := ws, at' := s.clk }
  let s1 := { s with sendLines := tput s.sendLines d (((f, a) :: tget s.sendLines d []).take 48) [] }
  let first := d - m
  if s.flowIdx.any fun i => s.fValid i && s.fDir i = 1 && s.fType i = 4 && s.fSlot i = first then
    let fld := if interlaced st then (if fBit (signalStruct cls st) l then 3 else 2) else 0
    { s1 with ancOut := tput s1.ancOut first (tget s1.ancOut first [] ++ sendAnc (layOf cls) m f fld l ws) [] }
  else s1

/-- Destination `d`'s strand line that begins now, if any: it is formed, and goes where it leaves the device; `bad`: its plane's check
failed. A fabric slot holds at most two lines not yet sent (DESIGN CHOICE, log 150). -/
def State.forwardLine (s : State) (d : Nat) (bad : Bool) : State :=
  match s.dstRaster d with
  | none => s
  | some r =>
    let e := s.egress r
    let x := s.destStrand d
    match (if s.enabled r ∧ e.sample = 0 ∧ x.1 ≠ 0 then strandLineAt x.1 x.2.1 e else none) with
    | none => s
    | some l =>
      if tget s.destLine d 0 = e.frame * 4096 + l + 1 then s
      else
        let w := s.destWords d r l e.frame e.line
        let s1 := { w.1 with destLine := tput w.1.destLine d (e.frame * 4096 + l + 1) 0 }
        let lay := layOf x.1
        let s2 := match w.2 with
          | some ws => if d < 5760 then s1.digest d lay (signalStruct x.1 x.2.1) l bad ws else s1
          | none => s1
        if d < 4608 then
          match w.2 with
          | some ws =>
            let q := tget s2.egressQ d [] ++ ws
            { s2 with egressQ := tput s2.egressQ d (q.drop (q.length - 2 * strandWords x.1 x.2.1 x.2.2.1)) [] }
          | none => { s2 with egressQ := tput s2.egressQ d [] [] }
        else if d < 5760 then
          match w.2 with
          | some ws => s2.sendTake d x.2.2.2 x.1 x.2.1 l e.frame ws
          | none => s2
        else s2.probeTake (d - 6272) x.1 x.2.1 l e.frame w.2

/-- PLANE_LINE_FORWARD: a plane forwards a line of destination `d`; `bad`: its checksum mismatched; `spareBad`: the comparing spare's
did; `differ`: the two outputs differed (R122, R140). -/
def execPlaneLineForward (d : Fin 8192) (bad spareBad differ : Bool) (s : State) : Host.Outcome State Fault Refusal :=
  let k := s.planeOf d.val
  let s0 := if d.val < 6336 then s.forwardLine d.val bad else s
  let s1 := if bad then s0.planeErr k else s0
  let mine := decide (d.val % 8 = s.rd F.XPT_PSUB_JOURNAL_LOGICAL 0)
  ok (if mine && s.psubStep = 2 then
    let s2 := if differ then s1.incSat F.XPT_PSUB_JOURNAL_MISMATCH_CNT 0 else s1
    if spareBad then (s2.planeErr s.psubSpare).psubAbandon 1 else s2
  else if mine && s.psubStep = 4 && bad then s1.psubAbandon 1
  else s1)

/-! ### Probes (R139) -/

/-- PROBE_FRAME_PUBLISH: the frame whose lines probe `i` took last has ended on its raster's egress timeline. -/
def execProbeFramePublish (i : Fin 64) (_ _ _ : Unit) (s : State) : Host.Outcome State Fault Refusal :=
  let r := s.rd F.PROBE_CFG_RASTER i.val
  let d := 6272 + i.val
  let q := tget s.probeRun i.val {}
  let x := s.destStrand d
  let e := s.egress r
  let ended := decide (q.frame < e.frame) ||
    (decide (q.frame = e.frame) && decide (lastActive (signalStruct x.1 x.2.1) * strandStep x.1 < e.line))
  let put := fun (s : State) (q : ProbeRun) => { s with probeRun := tput s.probeRun i.val { q with frame := e.frame + 1 } {} }
  ok (if !(s.xa d).routed || !s.enabled r || !ended then s
  else if q.subst || s.on F.XPT_DEST_STATUS_SUBST d then put (s.wr F.PROBE_RES_NOSIG i.val 1) { q with subst := false }
  else
    let crc := Nat.xor q.acc 0xFFFFFFFF
    let run := if q.crc = crc ∧ 0 < q.run then q.run + 1 else 1
    let thr := s.rd F.PROBE_CFG_BLK_THR i.val
    let frz := s.rd F.PROBE_CFG_FRZ i.val
    let black := decide (thr ≠ 0 ∧ q.hi ≤ thr)
    let freeze := decide (frz ≠ 0 ∧ frz ≤ run)
    let rise := (black && !s.on F.PROBE_RES_BLACK i.val) || (freeze && !s.on F.PROBE_RES_FREEZE i.val)
    let s1 := (((s.wr F.PROBE_RES_CRC i.val crc).wr F.PROBE_RES_YMIN i.val q.lo).wr F.PROBE_RES_YMAX i.val q.hi).wr
      F.PROBE_RES_FRAME i.val q.frame
    let s2 := ((s1.wr F.PROBE_RES_BLACK i.val (b2n black)).wr F.PROBE_RES_FREEZE i.val (b2n freeze)).wr F.PROBE_RES_NOSIG i.val 0
    let s3 := put s2 { q with crc := crc, run := run }
    if rise && s.on F.PROBE_CFG_IRQ i.val then s3.raise Irq.probe else s3)

/-! ### Turns of a lane (R321-R323, R337, R342) -/

/-- The destination slot of a lane's strand carries a signal: it is no fill (R98, R335). -/
def State.txLive (s : State) (n strand : Nat) : Bool :=
  match s.laneOf n with
  | some l => decide (s.carries (32 * l + strand) ≠ .fill) && decide (s.mode ≠ Mode.calibrate)
  | none => false

/-- Lane `n` begins a turn with the given blocks, which carry the words `ws`. -/
def State.pushTurn (s : State) (n turn : Nat) (ws : List Nat) (bl : List Blk) : State :=
  let x := s.lane n
  s.setLane n { x with
    txTurn := (turn + 1) % 65536, txLast := (turn % s.laneN n, ws)
    txq := x.txq ++ bl.zipIdx.map fun b => { blk := b.1, turn := turn, first := decide (b.2 = 0) } }

/-- A SKIP block that names `strand` (R321, Table 11-4). -/
def skipBlock (strand : Nat) : Blk := { ctl := true, pay := ctlPay 1 strand }

/-- Sixteen words of PRBS31, and the register after them (R342). -/
def prbsCell (st : Nat) : List Nat × Nat :=
  let r := prbsRun 2 320 (if st % 2 ^ 31 = 0 then 1 else st)
  ((pieces 20 16 r.1).map lowFirst, r.2)

/-- The spare of a hitless remap sends what the old lane sends until the switch (R337). -/
def State.mirrors (s : State) : Bool := s.remap.hitless && (decide (s.rmSt = 3) || (decide (s.rmSt = 4) && !s.remap.switched))

/-- The sender of lane `n` chooses its next turn: a cell of 16 words not yet sent, or a SKIP (R323). -/
def State.turnTx (s : State) (n : Nat) : State :=
  let x := s.lane n
  let d := x.txTurn % s.laneN n
  if s.laneSt n = Ln.test then
    let c := prbsCell x.txPrbs
    (s.setLane n { x with txPrbs := c.2 }).pushTurn n x.txTurn c.1 (cellBlocks c.1)
  else
    let k := match s.laneOf n with
      | some l => 32 * l + d
      | none => 0
    let q := tget s.egressQ k []
    let cell := s.txLive n d && decide (16 ≤ q.length)
    let ws := if cell then q.take 16 else []
    let bl := if cell then cellBlocks ws else [skipBlock d]
    let s1 := if cell then { s with egressQ := tput s.egressQ k (q.drop 16) [] } else s
    let s2 := s1.pushTurn n x.txTurn ws bl
    if s.mirrors && decide (n = s.rmOld) then s2.pushTurn s.rmNew x.txTurn ws bl else s2

/-- Lane `n` sends framed blocks: it is ACTIVE or in a FRAMED test, or has sent its training burst and framed. -/
def State.sendsTurns (s : State) (n : Nat) : Bool :=
  let st := s.laneSt n
  decide (st = Ln.active) || (decide (st = Ln.blockLock) && s.framed n) ||
    (decide (st = Ln.test) && decide (s.rd F.FAB_LANE_TEST_PATTERN n = 3))

/-- TURN_TX: the transmitter's next turn. The spare that mirrors an old lane takes that lane's turns. -/
def execTurnTx (n : Fin 152) (_ : Unit) (s : State) : Host.Outcome State Fault Refusal :=
  let m := n.val
  ok (if s.sendsTurns m && !(s.mirrors && decide (m = s.rmNew)) then s.turnTx m else s)

/-! ### Control blocks (R326-R329, R337) -/

/-- STATUS content (Table 11-6) with FFE requests `pre` and `post`. -/
def State.statusContent (s : State) (n pre post : Nat) : Nat :=
  let x := s.lane n
  let recent := match x.uncAt with
    | some t => decide (s.clk < t + sClk)
    | none => false
  x.txTurn + 2 ^ 16 * b2n s.ownPin + 2 ^ 17 * b2n s.holdPin + 2 ^ 18 * s.rd F.FAB_LANE_CTRL_FORERUNNER n
    + 2 ^ 19 * s.rd F.FAB_GLOBAL_CTRL_CARD 0 + 2 ^ 20 * s.rd F.FAB_LANE_STATUS_LOGICAL n + 2 ^ 36 * (pre % 4) + 2 ^ 38 * (post % 4)
    + 2 ^ 40 * b2n (s.framed n) + 2 ^ 41 * b2n (decide (s.laneSt n = Ln.active)) + 2 ^ 42 * b2n (recent || x.high)
    + 2 ^ 43 * b2n x.testWait

/-- Where the first word of fabric slot `d`'s next cell stands: egress frame and raster line (R329). The line begun last, the one before
where more than a line waits to be sent, or the next where nothing does. -/
def State.nextWord (s : State) (d : Nat) : Nat × Nat :=
  let r := (s.dstRaster d).getD 0
  let e := s.egress r
  let x := s.destStrand d
  let step := strandStep x.1
  let q := (tget s.egressQ d []).length
  let tl := Nat.max 1 (s.rLines r)
  let now := (e.frame * tl + (e.line - 1)) / step
  let i := if q = 0 then now + 1 else if q ≤ strandWords x.1 x.2.1 x.2.2.1 then now else now - 1
  (i * step / tl, i * step % tl + 1)

/-- TAG content of a strand (Table 11-7): its destination's format, or FILL, and the position of its next cell. -/
def State.tagContent (s : State) (n strand : Nat) : Nat :=
  let l := (s.laneOf n).getD 0
  let d := 32 * l + strand
  let x := s.destStrand d
  let at' := s.nextWord d
  let fmt := if s.txLive n strand then 2 ^ 18 * x.1 + 2 ^ 22 * x.2.1 + 2 ^ 26 * x.2.2.1 else 0
  strand + 2 ^ 5 * d + fmt + 2 ^ 30 + 2 ^ 31 * (s.dstRaster d).getD 0 + 2 ^ 34 * (at'.1 % 1024) + 2 ^ 44 * (at'.2 % 4096)

/-- REMAP content (Table 11-8) that the device sends in the remap's present state. -/
def State.remapContent (s : State) : Nat :=
  let op := match s.rmSt with
    | 2 => 1 | 4 => (if s.remap.switched then 5 else 4) | _ => 0
  op + 2 ^ 4 * s.rd F.FAB_REMAP_STATUS_LOGICAL 0 + 2 ^ 12 * s.rmOld + 2 ^ 20 * s.rmNew + 2 ^ 28 * s.remap.turn
    + 2 ^ 44 * b2n s.remap.hitless

/-! ### Frames of a lane (R316-R319, R326, R332, R342) -/

/-- A frame of `fseq` has a STATUS slot, and a TAG slot (R326). -/
def State.statSlot (s : State) (n q : Nat) : Bool :=
  if s.on F.FAB_LANE_CTRL_FORERUNNER n then decide (q % 16 = 0) else decide (q % 2 = 0)
def State.tagSlot (s : State) (n q : Nat) : Bool :=
  if s.on F.FAB_LANE_CTRL_FORERUNNER n then decide (q % 16 = 8) else decide (q % 2 = 1)

/-- An FFE request may go out: adaptation is not frozen, and a millisecond has passed since the last one (R331). -/
def State.ffeMay (s : State) (n : Nat) (t : Option Nat) : Bool :=
  !s.on F.FAB_LANE_EQ_ADAPT_FREEZE n && (match t with
    | some t => decide (t + msClk ≤ s.clk)
    | none => true)

/-- Lane `n` begins its next frame: the marker, and the control block of its slot, if it has one. -/
def State.frameBegin (s : State) (n pre post : Nat) : State :=
  let x := s.lane n
  let turn := match x.txq.find? (·.first) with
    | some b => b.turn
    | none => x.txTurn
  let mk : Blk := { ctl := true, pay := markerPay turn x.txFseq }
  let nf := (x.txFseq + 1) % 65536
  let ctl := fun (t c : Nat) => ({ ctl := true, pay := ctlPay t c } : Blk)
  if s.statSlot n x.txFseq then
    let a := if s.ffeMay n x.reqPre then pre else 0
    let b := if s.ffeMay n x.reqPost then post else 0
    let c := s.statusContent n a b
    s.setLane n { x with txFseq := nf, txCtl := (2, c), txHead := [mk, ctl 2 c]
                         reqPre := if a = 0 then x.reqPre else some s.clk, reqPost := if b = 0 then x.reqPost else some s.clk }
  else if s.tagSlot n x.txFseq then
    if s.rmRuns && decide (n = s.rmNew) && decide (2 ≤ s.rmSt) then
      let c := s.remapContent
      s.setLane n { x with txFseq := nf, txCtl := (4, c), txHead := [mk, ctl 4 c] }
    else
      let c := s.tagContent n x.tagStrand
      s.setLane n { x with txFseq := nf, txCtl := (3, c), txHead := [mk, ctl 3 c], tagStrand := (x.tagStrand + 1) % s.laneN n }
  else s.setLane n { x with txFseq := nf, txHead := [mk] }

/-- Turns until the frame of lane `n` has its 80 blocks. -/
def State.fillFrame (fuel n : Nat) (s : State) : State :=
  match fuel with
  | 0 => s
  | k + 1 =>
    let x := s.lane n
    if 80 ≤ x.txHead.length + x.txq.length then s
    else if s.mirrors && decide (n = s.rmNew) then State.fillFrame k n (s.turnTx s.rmOld)
    else State.fillFrame k n (s.turnTx n)

/-- `k` different symbols of a frame, each with what is added to it, by drawn numbers (R342): `left`: the symbols not yet chosen. -/
def State.spoilPlan (k : Nat) (left : List Nat) (s : State) : State × List (Nat × Nat) :=
  match k with
  | 0 => (s, [])
  | k + 1 =>
    let d := s.draw
    let e := d.1.draw
    let p := left.getD (d.2 % Nat.max 1 left.length) 0
    let r := State.spoilPlan k (left.filter (· ≠ p)) e.1
    (r.1, (p, e.2 % 1023 + 1) :: r.2)

/-- The frame of lane `n` closes and goes out: scrambled, with its parity, and in a FRAMED test with its symbol errors. -/
def State.frameEnd (s : State) (n : Nat) : State :=
  let s1 := State.fillFrame 80 n s
  let x := s1.lane n
  let k := 80 - x.txHead.length
  let body := x.txHead.drop 1 ++ (x.txq.take k).map (·.blk)
  let r := throughScr scramble x.scr body
  let bits := (frameBlocks (x.txHead.take 1 ++ r.2)).flatMap Blk.bits
  let inj := if s.laneSt n = Ln.test then s.rd F.FAB_LANE_TEST_INJ_SYM n else 0
  let e := State.spoilPlan inj (List.range 558) s1
  e.1.setLane n { x with txq := x.txq.drop k, txHead := [], scr := r.1, txFrame := levelsOf (spoil bits e.2) }

/-- A frame's time of TRAIN blocks (R332, Table 11-4). -/
def State.trainTx (s : State) (n : Nat) : State :=
  let x := s.lane n
  let r := prbsRun 1 (85 * 56) (if x.txPrbs % 2 ^ 13 = 0 then 1 else x.txPrbs % 2 ^ 13)
  let bl := (pieces 56 85 r.1).map fun b => ({ ctl := true, pay := ctlPay 5 (lowFirst b) } : Blk)
  s.setLane n { x with train := x.train + 85, txPrbs := r.2, txFrame := levelsOf (bl.flatMap Blk.bits) }

/-- A frame's time of a test pattern, one bit in 10^INJ_BER wrong (R342). -/
def State.patternTx (s : State) (n : Nat) : State :=
  let x := s.lane n
  let pat := s.rd F.FAB_LANE_TEST_PATTERN n
  let r := prbsRun pat 5610 (if x.txPrbs % 2 ^ prbsOrder pat = 0 then 1 else x.txPrbs % 2 ^ prbsOrder pat)
  let k := s.rd F.FAB_LANE_TEST_INJ_BER n
  let bs := if k = 0 then r.1 else r.1.zipIdx.map fun b => if (x.txBits + b.2 + 1) % 10 ^ k = 0 then 1 - b.1 else b.1
  s.setLane n { x with txPrbs := r.2, txBits := x.txBits + 5610, txFrame := levelsOf bs }

/-- STATUS_BLOCK_TX: a frame period of lane `n`'s sender passes: TRAIN blocks for a training burst, a test's pattern, or the frame in
progress goes out and the next begins with its marker and scheduled control slot (R326). `pre` and `post`: what the adaptation wants of the
far taps, held back under ADAPT_FREEZE and within a millisecond of the last request (R331). -/
def execStatusBlockTx (n : Fin 152) (pre post : Fin 4) (s : State) : Host.Outcome State Fault Refusal :=
  let m := n.val
  let st := s.laneSt m
  ok (if st < Ln.training ∨ Ln.test < st then s
  else if st = Ln.test ∧ s.rd F.FAB_LANE_TEST_PATTERN m ≠ 3 then s.patternTx m
  else if st = Ln.training ∧ (s.lane m).train < 128 then s.trainTx m
  else
    let s1 := if (s.lane m).txHead = [] then s else s.frameEnd m
    s1.frameBegin m pre.val post.val)

end Sys2Proof.Machine
end

