-- ==== Sys2Proof/Machine/Dispatch.lean ====
section
/-! DEFINITION. The dispatch: one arm per command of the table, each one call of the command's meaning. -/
namespace Sys2Proof.Machine

def exec (i : Instr) (s : State) : Host.Outcome State Fault Refusal :=
  match i with
  | .registerWrite off w => Sys2Proof.Machine.execRegisterWrite off w s
  | .rcRead off => Sys2Proof.Machine.execRcRead off s
  | .unmappedAccess bar2 off write => Sys2Proof.Machine.execUnmappedAccess bar2 off write s
  | .snap => Sys2Proof.Machine.execSnap s
  | .rasterCfgWrite n w => Sys2Proof.Machine.execRasterCfgWrite n w s
  | .rasterSeedWrite n hi w => Sys2Proof.Machine.execRasterSeedWrite n hi w s
  | .rasterTimingWrite n w => Sys2Proof.Machine.execRasterTimingWrite n w s
  | .rasterFrameStart n => Sys2Proof.Machine.execRasterFrameStart n s
  | .cmpArm k w => Sys2Proof.Machine.execCmpArm k w s
  | .cmpDisarm k w => Sys2Proof.Machine.execCmpDisarm k w s
  | .cmpTgtWrite k word w => Sys2Proof.Machine.execCmpTgtWrite k word w s
  | .comparatorFire k => Sys2Proof.Machine.execComparatorFire k s
  | .gpiLevelChange x level => Sys2Proof.Machine.execGpiLevelChange x level s
  | .gpiEdgeAccept u => Sys2Proof.Machine.execGpiEdgeAccept u s
  | .gpiPop w => Sys2Proof.Machine.execGpiPop w s
  | .gpoLevelWrite w => Sys2Proof.Machine.execGpoLevelWrite w s
  | .gpoSet w => Sys2Proof.Machine.execGpoSet w s
  | .gpoClr w => Sys2Proof.Machine.execGpoClr w s
  | .gpoSchedWrite j word w => Sys2Proof.Machine.execGpoSchedWrite j word w s
  | .gpoSchedApply j => Sys2Proof.Machine.execGpoSchedApply j s
  | .refinTimingPoint c => Sys2Proof.Machine.execRefinTimingPoint c s
  | .refinStop c => Sys2Proof.Machine.execRefinStop c s
  | .candSourceLost c => Sys2Proof.Machine.execCandSourceLost c s
  | .candQualified c => Sys2Proof.Machine.execCandQualified c s
  | .driftUpdate offs => Sys2Proof.Machine.execDriftUpdate offs s
  | .candDriftCleared c => Sys2Proof.Machine.execCandDriftCleared c s
  | .candDisqualified c => Sys2Proof.Machine.execCandDisqualified c s
  | .ptpValidWrite w => Sys2Proof.Machine.execPtpValidWrite w s
  | .ptpValidExpire => Sys2Proof.Machine.execPtpValidExpire s
  | .loopStageAdvance => Sys2Proof.Machine.execLoopStageAdvance s
  | .pullNow w => Sys2Proof.Machine.execPullNow w s
  | .slewComplete => Sys2Proof.Machine.execSlewComplete s
  | .historySample a => Sys2Proof.Machine.execHistorySample a s
  | .holdoverLimitExpire => Sys2Proof.Machine.execHoldoverLimitExpire s
  | .locoscFail => Sys2Proof.Machine.execLocoscFail s
  | .refselCandWrite c word w => Sys2Proof.Machine.execRefselCandWrite c word w s
  | .refselLocoscWrite w => Sys2Proof.Machine.execRefselLocoscWrite w s
  | .synthLock g => Sys2Proof.Machine.execSynthLock g s
  | .synthLockLoss g => Sys2Proof.Machine.execSynthLockLoss g s
  | .ditherSeedLoad y w => Sys2Proof.Machine.execDitherSeedLoad y w s
  | .refoutCfgWrite u word w => Sys2Proof.Machine.execRefoutCfgWrite u word w s
  | .refoutChangeApply u => Sys2Proof.Machine.execRefoutChangeApply u s
  | .alignPortCfgWrite p w => Sys2Proof.Machine.execAlignPortCfgWrite p w s
  | .strandLineJudge d j => Sys2Proof.Machine.execStrandLineJudge d j s
  | .windowReenter p r => Sys2Proof.Machine.execWindowReenter p r s
  | .lineModeSlip d => Sys2Proof.Machine.execLineModeSlip d s
  | .lossPolicyApply d => Sys2Proof.Machine.execLossPolicyApply d s
  | .lossPolicyReturn d => Sys2Proof.Machine.execLossPolicyReturn d s
  | .planeLineForward d bad spareBad differ => Sys2Proof.Machine.execPlaneLineForward d bad spareBad differ s
  | .shadowXptWrite d hi w => Sys2Proof.Machine.execShadowXptWrite d hi w s
  | .xptCommitGo w => Sys2Proof.Machine.execXptCommitGo w s
  | .xptCommitDiscard w => Sys2Proof.Machine.execXptCommitDiscard w s
  | .commitTakeEffect r => Sys2Proof.Machine.execCommitTakeEffect r s
  | .xptLockRequest w => Sys2Proof.Machine.execXptLockRequest w s
  | .probeFramePublish u a b c => Sys2Proof.Machine.execProbeFramePublish u a b c s
  | .psubStart w => Sys2Proof.Machine.execPsubStart w s
  | .psubAbort w => Sys2Proof.Machine.execPsubAbort w s
  | .psubLoadDone => Sys2Proof.Machine.execPsubLoadDone s
  | .psubCompareDone => Sys2Proof.Machine.execPsubCompareDone s
  | .psubRasterMove r => Sys2Proof.Machine.execPsubRasterMove r s
  | .psubSwitchedDone => Sys2Proof.Machine.execPsubSwitchedDone s
  | .cueStart n w => Sys2Proof.Machine.execCueStart n w s
  | .cueStop n w => Sys2Proof.Machine.execCueStop n w s
  | .cueResume n w => Sys2Proof.Machine.execCueResume n w s
  | .engReset n w => Sys2Proof.Machine.execEngReset n w s
  | .discardStaged n w => Sys2Proof.Machine.execDiscardStaged n w s
  | .ringDoorbell n w => Sys2Proof.Machine.execRingDoorbell n w s
  | .cueRecordFetch n => Sys2Proof.Machine.execCueRecordFetch n s
  | .cueRecordAccept n ws => Sys2Proof.Machine.execCueRecordAccept n ws s
  | .watchdogExpire n => Sys2Proof.Machine.execWatchdogExpire n s
  | .waitMatch n => Sys2Proof.Machine.execWaitMatch n s
  | .cueComparatorFire n x => Sys2Proof.Machine.execCueComparatorFire n x s
  | .waitevWake n => Sys2Proof.Machine.execWaitevWake n s
  | .waitevTimeout n => Sys2Proof.Machine.execWaitevTimeout n s
  | .evrHeadWrite w => Sys2Proof.Machine.execEvrHeadWrite w s
  | .engSubstStart w => Sys2Proof.Machine.execEngSubstStart w s
  | .engSubstAbort w => Sys2Proof.Machine.execEngSubstAbort w s
  | .engSubstCopyDone => Sys2Proof.Machine.execEngSubstCopyDone s
  | .engSubstSwap => Sys2Proof.Machine.execEngSubstSwap s
  | .engSubstSelftestDone pass => Sys2Proof.Machine.execEngSubstSelftestDone pass s
  | .engSubstAutoDone ecc => Sys2Proof.Machine.execEngSubstAutoDone ecc s
  | .tsyncRelease n => Sys2Proof.Machine.execTsyncRelease n s
  | .tsyncTimeout n => Sys2Proof.Machine.execTsyncTimeout n s
  | .fenceComplete n => Sys2Proof.Machine.execFenceComplete n s
  | .br n hw => Sys2Proof.Machine.execBr n hw s
  | .bz n hw => Sys2Proof.Machine.execBz n hw s
  | .bnz n hw => Sys2Proof.Machine.execBnz n hw s
  | .call n hw => Sys2Proof.Machine.execCall n hw s
  | .ret n hw => Sys2Proof.Machine.execRet n hw s
  | .yield n hw => Sys2Proof.Machine.execYield n hw s
  | .halt n hw => Sys2Proof.Machine.execHalt n hw s
  | .li n hw => Sys2Proof.Machine.execLi n hw s
  | .liLong n hw => Sys2Proof.Machine.execLiLong n hw s
  | .lui n hw => Sys2Proof.Machine.execLui n hw s
  | .add n hw => Sys2Proof.Machine.execAdd n hw s
  | .sub n hw => Sys2Proof.Machine.execSub n hw s
  | .and n hw => Sys2Proof.Machine.execAnd n hw s
  | .or n hw => Sys2Proof.Machine.execOr n hw s
  | .xor n hw => Sys2Proof.Machine.execXor n hw s
  | .shl n hw => Sys2Proof.Machine.execShl n hw s
  | .shr n hw => Sys2Proof.Machine.execShr n hw s
  | .cmp n hw => Sys2Proof.Machine.execCmp n hw s
  | .ld n hw => Sys2Proof.Machine.execLd n hw s
  | .st n hw => Sys2Proof.Machine.execSt n hw s
  | .ldTime n hw => Sys2Proof.Machine.execLdTime n hw s
  | .stTime n hw => Sys2Proof.Machine.execStTime n hw s
  | .ldx n hw => Sys2Proof.Machine.execLdx n hw s
  | .stx n hw => Sys2Proof.Machine.execStx n hw s
  | .tnow n hw => Sys2Proof.Machine.execTnow n hw s
  | .tadd n hw => Sys2Proof.Machine.execTadd n hw s
  | .wait n hw => Sys2Proof.Machine.execWait n hw s
  | .waitev n hw => Sys2Proof.Machine.execWaitev n hw s
  | .xstage n hw => Sys2Proof.Machine.execXstage n hw s
  | .xstageb n hw => Sys2Proof.Machine.execXstageb n hw s
  | .xcommit n hw => Sys2Proof.Machine.execXcommit n hw s
  | .xread n hw => Sys2Proof.Machine.execXread n hw s
  | .xlock n hw => Sys2Proof.Machine.execXlock n hw s
  | .astage n hw => Sys2Proof.Machine.execAstage n hw s
  | .acommit n hw => Sys2Proof.Machine.execAcommit n hw s
  | .lset n hw => Sys2Proof.Machine.execLset n hw s
  | .hcommit n hw => Sys2Proof.Machine.execHcommit n hw s
  | .bufalloc n hw => Sys2Proof.Machine.execBufalloc n hw s
  | .buffree n hw => Sys2Proof.Machine.execBuffree n hw s
  | .recstart n hw => Sys2Proof.Machine.execRecstart n hw s
  | .recstop n hw => Sys2Proof.Machine.execRecstop n hw s
  | .play n hw => Sys2Proof.Machine.execPlay n hw s
  | .ask n hw => Sys2Proof.Machine.execAsk n hw s
  | .give n hw => Sys2Proof.Machine.execGive n hw s
  | .emit n hw => Sys2Proof.Machine.execEmit n hw s
  | .fence n hw => Sys2Proof.Machine.execFence n hw s
  | .tsync n hw => Sys2Proof.Machine.execTsync n hw s
  | .summary n hw => Sys2Proof.Machine.execSummary n hw s
  | .undefinedOpcode n hw => Sys2Proof.Machine.execUndefinedOpcode n hw s
  | .cxlPortBringupDone c partner reason speed width units => Sys2Proof.Machine.execCxlPortBringupDone c partner reason speed width units s
  | .cxlpRetrain c w => Sys2Proof.Machine.execCxlpRetrain c w s
  | .placementLoop ws wr rd => Sys2Proof.Machine.execPlacementLoop ws wr rd s
  | .cxlEventRecord c addr => Sys2Proof.Machine.execCxlEventRecord c addr s
  | .migrationPageDone d e c spare => Sys2Proof.Machine.execMigrationPageDone d e c spare s
  | .recorderFrameStart r => Sys2Proof.Machine.execRecorderFrameStart r s
  | .recorderLineComplete r ws a b => Sys2Proof.Machine.execRecorderLineComplete r ws a b s
  | .playerFrameStart p => Sys2Proof.Machine.execPlayerFrameStart p s
  | .playerLineFetch p bad tmo => Sys2Proof.Machine.execPlayerLineFetch p bad tmo s
  | .descriptorRelease d => Sys2Proof.Machine.execDescriptorRelease d s
  | .leaseSet w => Sys2Proof.Machine.execLeaseSet w s
  | .hostWindowAccess w o data n bad => Sys2Proof.Machine.execHostWindowAccess w o data n bad s
  | .sableRelPop w => Sys2Proof.Machine.execSableRelPop w s
  | .cxlMemTimeout c addr => Sys2Proof.Machine.execCxlMemTimeout c addr s
  | .cxlPortFail c rep => Sys2Proof.Machine.execCxlPortFail c rep s
  | .cxlMailboxTimeout c => Sys2Proof.Machine.execCxlMailboxTimeout c s
  | .headStagedWrite h b u w => Sys2Proof.Machine.execHeadStagedWrite h b u w s
  | .headCommitGo w => Sys2Proof.Machine.execHeadCommitGo w s
  | .headCommitDiscard w => Sys2Proof.Machine.execHeadCommitDiscard w s
  | .headLatch h => Sys2Proof.Machine.execHeadLatch h s
  | .headFrameStart h => Sys2Proof.Machine.execHeadFrameStart h s
  | .headLineCompose h => Sys2Proof.Machine.execHeadLineCompose h s
  | .lutOpen w => Sys2Proof.Machine.execLutOpen w s
  | .lutDataWrite w => Sys2Proof.Machine.execLutDataWrite w s
  | .lutClose w => Sys2Proof.Machine.execLutClose w s
  | .ochreLogPop w => Sys2Proof.Machine.execOchreLogPop w s
  | .audioBoundary t44 x => Sys2Proof.Machine.execAudioBoundary t44 x s
  | .shadowAudioWrite d word w => Sys2Proof.Machine.execShadowAudioWrite d word w s
  | .audioCommitGo w => Sys2Proof.Machine.execAudioCommitGo w s
  | .audioCommitDiscard w => Sys2Proof.Machine.execAudioCommitDiscard w s
  | .audioCommitEffect => Sys2Proof.Machine.execAudioCommitEffect s
  | .zeroxTimeout d => Sys2Proof.Machine.execZeroxTimeout d s
  | .fadeComplete d => Sys2Proof.Machine.execFadeComplete d s
  | .delayBlockWrite b hi w => Sys2Proof.Machine.execDelayBlockWrite b hi w s
  | .delaySet m w => Sys2Proof.Machine.execDelaySet m w s
  | .audioPortCfgWrite p w => Sys2Proof.Machine.execAudioPortCfgWrite p w s
  | .deembSourceChoice p a b c d => Sys2Proof.Machine.execDeembSourceChoice p a b c d s
  | .tdmCfgWrite u w => Sys2Proof.Machine.execTdmCfgWrite u w s
  | .tdmFrame u len smp => Sys2Proof.Machine.execTdmFrame u len smp s
  | .tdmStop u => Sys2Proof.Machine.execTdmStop u s
  | .tdmMasterStart u => Sys2Proof.Machine.execTdmMasterStart u s
  | .tetosFrameRx n lev a b c => Sys2Proof.Machine.execTetosFrameRx n lev a b c s
  | .markerRx n a b c => Sys2Proof.Machine.execMarkerRx n a b c s
  | .cellRx n out a => Sys2Proof.Machine.execCellRx n out a s
  | .skipRx n a b => Sys2Proof.Machine.execSkipRx n a b s
  | .statusBlockRx n a => Sys2Proof.Machine.execStatusBlockRx n a s
  | .tagRx n a => Sys2Proof.Machine.execTagRx n a s
  | .remapRx n a => Sys2Proof.Machine.execRemapRx n a s
  | .turnTx n a => Sys2Proof.Machine.execTurnTx n a s
  | .statusBlockTx n pre post => Sys2Proof.Machine.execStatusBlockTx n pre post s
  | .laneCtrlWrite n w => Sys2Proof.Machine.execLaneCtrlWrite n w s
  | .signalDetect n => Sys2Proof.Machine.execSignalDetect n s
  | .laneActive n => Sys2Proof.Machine.execLaneActive n s
  | .laneSignalLoss n => Sys2Proof.Machine.execLaneSignalLoss n s
  | .laneLockTimeout n => Sys2Proof.Machine.execLaneLockTimeout n s
  | .remapStart w => Sys2Proof.Machine.execRemapStart w s
  | .remapAbort w => Sys2Proof.Machine.execRemapAbort w s
  | .remapWakeDone => Sys2Proof.Machine.execRemapWakeDone s
  | .remapWakeTimeout => Sys2Proof.Machine.execRemapWakeTimeout s
  | .remapOfferTimeout => Sys2Proof.Machine.execRemapOfferTimeout s
  | .remapCompareDone a => Sys2Proof.Machine.execRemapCompareDone a s
  | .remapSwitchTurn => Sys2Proof.Machine.execRemapSwitchTurn s
  | .laneTestStart n w => Sys2Proof.Machine.execLaneTestStart n w s
  | .laneTestStop n w => Sys2Proof.Machine.execLaneTestStop n w s
  | .statusAbsent n => Sys2Proof.Machine.execStatusAbsent n s
  | .mediaFrameRx f => Sys2Proof.Machine.execMediaFrameRx f s
  | .pauseExpire l => Sys2Proof.Machine.execPauseExpire l s
  | .ipLineEgress u => Sys2Proof.Machine.execIpLineEgress u s
  | .ipFlowTimeout u => Sys2Proof.Machine.execIpFlowTimeout u s
  | .videoPacketTx u f k a b => Sys2Proof.Machine.execVideoPacketTx u f k a b s
  | .audioPacketTx u => Sys2Proof.Machine.execAudioPacketTx u s
  | .ancPacketTx u n => Sys2Proof.Machine.execAncPacketTx u n s
  | .opaqueForward d => Sys2Proof.Machine.execOpaqueForward d s
  | .opaqueSourceSwitch d => Sys2Proof.Machine.execOpaqueSourceSwitch d s
  | .opaqueSwitchTimeout d => Sys2Proof.Machine.execOpaqueSwitchTimeout d s
  | .flowEnable w => Sys2Proof.Machine.execFlowEnable w s
  | .flowDisable w => Sys2Proof.Machine.execFlowDisable w s
  | .flowClearStats w => Sys2Proof.Machine.execFlowClearStats w s
  | .flowEntryWrite u k w => Sys2Proof.Machine.execFlowEntryWrite u k w s
  | .mediaPortCfgWrite n w => Sys2Proof.Machine.execMediaPortCfgWrite n w s
  | .mediaLportCfgWrite l w => Sys2Proof.Machine.execMediaLportCfgWrite l w s
  | .mediaLinkChange l up => Sys2Proof.Machine.execMediaLinkChange l up s
  | .lpiEnter => Sys2Proof.Machine.execLpiEnter s
  | .txRingDoorbell n w => Sys2Proof.Machine.execTxRingDoorbell n w s
  | .txDescriptorSend n w2 w3 fr => Sys2Proof.Machine.execTxDescriptorSend n w2 w3 fr s
  | .rxRingPost n w => Sys2Proof.Machine.execRxRingPost n w s
  | .ptpTxqPop q w => Sys2Proof.Machine.execPtpTxqPop q w s
  | .ptpAddendWrite w => Sys2Proof.Machine.execPtpAddendWrite w s
  | .ptpStepGo w => Sys2Proof.Machine.execPtpStepGo w s
  | .ptpRearm w => Sys2Proof.Machine.execPtpRearm w s
  | .helloRx h b => Sys2Proof.Machine.execHelloRx h b s
  | .recordRx h n ws => Sys2Proof.Machine.execRecordRx h n ws s
  | .valueRx h n pc kind at' v => Sys2Proof.Machine.execValueRx h n pc kind at' v s
  | .cackRx h n pc code => Sys2Proof.Machine.execCackRx h n pc code s
  | .cackTimeout n => Sys2Proof.Machine.execCackTimeout n s
  | .hostwRx h space off at' data => Sys2Proof.Machine.execHostwRx h space off at' data s
  | .digestTx r errs => Sys2Proof.Machine.execDigestTx r errs s
  | .digestRx h r frame es => Sys2Proof.Machine.execDigestRx h r frame es s
  | .timeRx h v => Sys2Proof.Machine.execTimeRx h v s
  | .cobaltTimeTx => Sys2Proof.Machine.execCobaltTimeTx s
  | .cobaltEchoTx => Sys2Proof.Machine.execCobaltEchoTx s
  | .echoRx h orig rx tx => Sys2Proof.Machine.execEchoRx h orig rx tx s
  | .cobaltStatusTx => Sys2Proof.Machine.execCobaltStatusTx s
  | .cobaltStatusRx h mode pair own resync low => Sys2Proof.Machine.execCobaltStatusRx h mode pair own resync low s
  | .cobaltRetxTimeout a => Sys2Proof.Machine.execCobaltRetxTimeout a s
  | .cobaltLinkLost unframed => Sys2Proof.Machine.execCobaltLinkLost unframed s
  | .giveupRx h reason => Sys2Proof.Machine.execGiveupRx h reason s
  | .silenceTakeover => Sys2Proof.Machine.execSilenceTakeover s
  | .take w => Sys2Proof.Machine.execTake w s
  | .pairEnWrite w => Sys2Proof.Machine.execPairEnWrite w s
  | .cobaltResync w => Sys2Proof.Machine.execCobaltResync w s
  | .stateTransferFreeze => Sys2Proof.Machine.execStateTransferFreeze s
  | .stateRx h o part => Sys2Proof.Machine.execStateRx h o part s
  | .pairInStep => Sys2Proof.Machine.execPairInStep s
  | .swapGo w => Sys2Proof.Machine.execSwapGo w s
  | .swapCancel w => Sys2Proof.Machine.execSwapCancel w s
  | .swapAutoTimer => Sys2Proof.Machine.execSwapAutoTimer s
  | .swapRx h op f => Sys2Proof.Machine.execSwapRx h op f s
  | .swapFetchStop => Sys2Proof.Machine.execSwapFetchStop s
  | .swapExecute => Sys2Proof.Machine.execSwapExecute s
  | .admitAskGo w => Sys2Proof.Machine.execAdmitAskGo w s
  | .admitAskCancel w => Sys2Proof.Machine.execAdmitAskCancel w s
  | .admitGiveGo w => Sys2Proof.Machine.execAdmitGiveGo w s
  | .admitQueueGrant => Sys2Proof.Machine.execAdmitQueueGrant s
  | .askTimeout n => Sys2Proof.Machine.execAskTimeout n s
  | .powerMeasure m => Sys2Proof.Machine.execPowerMeasure m s
  | .thermalRead ts => Sys2Proof.Machine.execThermalRead ts s
  | .thermCfgWrite w => Sys2Proof.Machine.execThermCfgWrite w s
  | .thermtrip => Sys2Proof.Machine.execThermtrip s
  | .avsLoopTick slack ack => Sys2Proof.Machine.execAvsLoopTick slack ack s
  | .avsEmergency slack => Sys2Proof.Machine.execAvsEmergency slack s
  | .avsTransactionFail => Sys2Proof.Machine.execAvsTransactionFail s
  | .faultCauseExpire src => Sys2Proof.Machine.execFaultCauseExpire src s
  | .holdLimitExpire src => Sys2Proof.Machine.execHoldLimitExpire src s
  | .faultClear hi w => Sys2Proof.Machine.execFaultClear hi w s
  | .wearEstimate m => Sys2Proof.Machine.execWearEstimate m s
  | .wearHourStep => Sys2Proof.Machine.execWearHourStep s
  | .sramCanaryTest m => Sys2Proof.Machine.execSramCanaryTest m s
  | .wearSave w => Sys2Proof.Machine.execWearSave w s
  | .wearRestore w => Sys2Proof.Machine.execWearRestore w s
  | .spareSubstStart w => Sys2Proof.Machine.execSpareSubstStart w s
  | .spareSubstAbort w => Sys2Proof.Machine.execSpareSubstAbort w s
  | .headSubstMove mism => Sys2Proof.Machine.execHeadSubstMove mism s
  | .spareTestStart w => Sys2Proof.Machine.execSpareTestStart w s
  | .spareTestDone pass => Sys2Proof.Machine.execSpareTestDone pass s
  | .scrubStart c w => Sys2Proof.Machine.execScrubStart c w s
  | .scrubStop c w => Sys2Proof.Machine.execScrubStop c w s
  | .scrubDone c full poison => Sys2Proof.Machine.execScrubDone c full poison s
  | .softRepairComplete spare => Sys2Proof.Machine.execSoftRepairComplete spare s
  | .repairPromote w => Sys2Proof.Machine.execRepairPromote w s
  | .rstNAssert => Sys2Proof.Machine.execRstNAssert s
  | .rstNRelease dbg enrol smb => Sys2Proof.Machine.execRstNRelease dbg enrol smb s
  | .initComplete otp repair => Sys2Proof.Machine.execInitComplete otp repair s
  | .readyAssert cells => Sys2Proof.Machine.execReadyAssert cells s
  | .enrolKeyGo w => Sys2Proof.Machine.execEnrolKeyGo w s
  | .enrolTimeout => Sys2Proof.Machine.execEnrolTimeout s
  | .enrolAck w => Sys2Proof.Machine.execEnrolAck w s
  | .calGo w => Sys2Proof.Machine.execCalGo w s
  | .calibrateDone => Sys2Proof.Machine.execCalibrateDone s
  | .modeRequest w => Sys2Proof.Machine.execModeRequest w s
  | .warmReset w b tld => Sys2Proof.Machine.execWarmReset w b tld s
  | .warmResetComplete => Sys2Proof.Machine.execWarmResetComplete s
  | .coldResetCmd w => Sys2Proof.Machine.execColdResetCmd w s
  | .blockResetCmd w => Sys2Proof.Machine.execBlockResetCmd w s
  | .hostIfReset b tld => Sys2Proof.Machine.execHostIfReset b tld s
  | .d3hotEntry b tld => Sys2Proof.Machine.execD3hotEntry b tld s
  | .railUndervoltage => Sys2Proof.Machine.execRailUndervoltage s
  | .dmaReadError t addr frame tld => Sys2Proof.Machine.execDmaReadError t addr frame tld s
  | .smbSetAddr off pec => Sys2Proof.Machine.execSmbSetAddr off pec s
  | .smbRead pec => Sys2Proof.Machine.execSmbRead pec s
  | .smbWrite w pec => Sys2Proof.Machine.execSmbWrite w pec s
  | .smbStatus pec => Sys2Proof.Machine.execSmbStatus pec s
  | .matrixLockBreak m t write left => Sys2Proof.Machine.execMatrixLockBreak m t write left s
  | .tldGo w => Sys2Proof.Machine.execTldGo w s
  | .tldAbort w tld => Sys2Proof.Machine.execTldAbort w tld s
  | .tldDone tld => Sys2Proof.Machine.execTldDone tld s
  | .summaryRequest w => Sys2Proof.Machine.execSummaryRequest w s
  | .summaryCapture => Sys2Proof.Machine.execSummaryCapture s
  | .summaryWritten => Sys2Proof.Machine.execSummaryWritten s
  | .keyUpdateGo w => Sys2Proof.Machine.execKeyUpdateGo w s
  | .keyUpdateComplete => Sys2Proof.Machine.execKeyUpdateComplete s
  | .keysMsgClear w => Sys2Proof.Machine.execKeysMsgClear w s
  | .keyMaskRefresh => Sys2Proof.Machine.execKeyMaskRefresh s
  | .trngFail => Sys2Proof.Machine.execTrngFail s
  | .cueMemoryWindowWrite u w => Sys2Proof.Machine.execCueMemoryWindowWrite u w s
  | .captureRead off => Sys2Proof.Machine.execCaptureRead off s
  | .layerLineFetch h l bad tmo => Sys2Proof.Machine.execLayerLineFetch h l bad tmo s
  | .headSubstLoad => Sys2Proof.Machine.execHeadSubstLoad s
  | .d0Restore => Sys2Proof.Machine.execD0Restore s
  | .discardedMessageRx lane m uncorr => Sys2Proof.Machine.execDiscardedMessageRx lane m uncorr s
  | .tapInstructionUpdate ir => Sys2Proof.Machine.execTapInstructionUpdate ir s

end Sys2Proof.Machine
end

