-- ==== Sys2Proof/Machine/Tick.lean ====
section
/-! DEFINITION. What time does by itself: one CORE clock of house time (R27, R28). -/
namespace Sys2Proof.Machine

/-- One CORE clock (0.8 ns): house time, PTP time at the addend in force once CORE has
locked (R388, R392), and every enabled raster move on. What
falls due is a command of the table; the tick alone takes no such action. -/
def State.tick (s : State) : State :=
  let s1 := { s with clk := s.clk + 1, house := s.house + 262144, ptp := if s.ptpRun then ptpTick s.addend s.ptp else s.ptp }
  forEach (List.range 8) (fun n s => s.rasterTick n) s1

end Sys2Proof.Machine
end

