-- ==== Sys2Proof/Safety.lean ====
section
/-! DEFINITION. The terms claims use: the canonical form of the engine memories, what a command leaves alone, and the conditions
under which a host access or an engine instruction takes its own effect. -/
namespace Sys2Proof.Machine

/-- The engine memories are in canonical form: addresses strictly rising, no word equal to what an unlisted one reads as. -/
def State.memWf (s : State) : Bool := twf s.pmem 0 && twf s.dmem 0 && twf s.smem 0

/-- The frame store's bytes are in canonical form: an unlisted byte is one that nothing has written, 256 in the table. -/
def State.storeWf (s : State) : Bool := twf s.sable.bytes 256

/-- Every word of program, data and shared cue memory stands. -/
abbrev SameMem (s t : State) : Prop := t.pmem = s.pmem ∧ t.dmem = s.dmem ∧ t.smem = s.smem

/-- Only the register fields with these keys may differ: every other field of every register, every memory and table, stands. -/
def OnlyRegs (keys : List Nat) (s t : State) : Prop :=
  (∀ k d, k ∉ keys → tget t.regs k d = tget s.regs k d) ∧ { t with regs := s.regs } = s

/-- A host write at BAR0 offset `off` is carried out (R399, R401, R451, R459, R467): READY high, BARs decoded, the device beyond INIT
or the register one of TOP, and no standby's refusal of a mirrored block. -/
abbrev State.HostOpen (s : State) (off : Nat) : Prop :=
  s.pins.ready = true ∧ s.hif.d3 = false ∧ (Mode.init < s.mode ∨ blockOf off = some .top) ∧
    (s.mode = Mode.standby → mirroredOff off = false)

/-- The same for a table in BAR2, of which `mir` says whether Table 14-3 mirrors it. -/
abbrev State.WinOpen (s : State) (mir : Bool) : Prop :=
  s.pins.ready = true ∧ s.hif.d3 = false ∧ Mode.init < s.mode ∧ (s.mode = Mode.standby → mir = false)

/-- A host write that is not carried out (R401, R451, R459): dropped while READY is low or the BARs are not decoded; up to INIT, of no
TOP register, WR_EARLY alone; else a standby's refusal of a mirrored block. -/
def State.turnedAway (s : State) (top : Bool) : State :=
  if s.pins.ready = false ∨ s.hif.d3 = true then s
  else if s.mode ≤ Mode.init ∧ top = false then s.wr F.TOP_INIT_STATUS_WR_EARLY 0 1
  else s.event F.COBALT_EVENT_STBY_REFUSED 0 Irq.cobalt

/-- `c` is a host write of `v` at `off`: where host accesses are carried out its effect is `t`, and a device that mirrors tells its standby
of it in the same clock (R399); elsewhere it is turned away. -/
def Puts (c : Instr) (off v : Nat) (s t : State) : Prop :=
  (s.HostOpen off → exec c s = .next (s.hostDone off v t)) ∧
    (¬ s.HostOpen off → exec c s = .next (s.turnedAway (blockOf off = some .top)))

/-- A write of the word `w`. -/
abbrev Writes (c : Instr) (off : Nat) (w : Word) (s t : State) : Prop := Puts c off w.toNat s t

/-- The same for a command that is a write with the bits `b` set. -/
abbrev Sets (c : Instr) (off : Nat) (w : Word) (b : Nat) (s t : State) : Prop := Puts c off (Nat.lor w.toNat b) s t

/-- The same for a word of a BAR2 table. -/
def WinWrites (c : Instr) (mir : Bool) (off : Nat) (w : Word) (s t : State) : Prop :=
  (s.WinOpen mir → exec c s = .next (s.winDone mir 2 off w.toNat t)) ∧
    (¬ s.WinOpen mir → exec c s = .next (s.turnedAway false))

/-- The state once a twin message's header is heard: its lane framed and the link UP, what it acknowledges released (R394, R395). -/
abbrev State.heard (s : State) (h : CobHdr) : State := (s.linkHeard h).linkAcked h

/-- The state after the header of a message that is delivered: its SEQ the last received in order. -/
def State.taken (s : State) (h : CobHdr) : State := (s.heard h).setTwin fun t => { t with rxSeq := (h.seq + 1) % 2 ^ 32 }

/-- A message is delivered: the device seeks or holds its twin, and the SEQ is the one expected (R395). -/
abbrev State.Delivers (s : State) (h : CobHdr) : Prop := s.seeks = true ∧ h.seq = (s.heard h).twin.rxSeq

/-- A message of header `h` comes early, ahead of the one expected. -/
def State.comesEarly (s : State) (h : CobHdr) : Bool := decide ((h.seq + 2 ^ 32 - (s.heard h).twin.rxSeq) % 2 ^ 32 < 2 ^ 31)

/-- The messages that came early and wait for the one with header `h`. -/
abbrev State.waiting (s : State) (h : CobHdr) : Nat := (s.heard h).twin.held.length

/-- `c` brings message `m`, which either side may send (R395). Delivered, it takes the state after its header to `t`, and those that came
early and are now next in SEQ follow it in the same clock; early, it is held; a repetition is heard alone; and a device that seeks no
twin takes none. -/
def Receives (c : Instr) (h : CobHdr) (m : Received) (s t : State) : Prop :=
  (s.Delivers h → exec c s = .next (t.drainHeld (s.waiting h))) ∧
    (s.seeks = true → h.seq ≠ (s.heard h).twin.rxSeq → s.comesEarly h = true → exec c s =
      .next ((s.heard h).setTwin fun t => { t with held := (h, m) :: t.held.filter fun x => decide (x.1.seq ≠ h.seq) })) ∧
    (s.seeks = true → h.seq ≠ (s.heard h).twin.rxSeq → s.comesEarly h = false → exec c s = .next (s.heard h)) ∧
    (s.seeks = false → exec c s = .next s)

/-- The same for a message of `typ` that only the side of one role may send: it is a breach where this device has that role `r`. -/
def ReceivesFrom (r typ : Nat) (c : Instr) (h : CobHdr) (m : Received) (s t : State) : Prop :=
  Receives c h m s (if (s.taken h).role = r then (s.taken h).cobaltBreach 0x03 1 typ h.seq else t)

/-- Engine `n` stands at an instruction `op` that no error, encoding or next address stops (R163, R174, R177, R182): it is RUNNING in
no wait, in a mode in which engines run, the opcode at PC is `op`, its word is legal, an extension word is there, and, for an
instruction that goes on, the next address may be entered. -/
abbrev State.Ready (s : State) (n op : Nat) : Prop :=
  s.takes n = true ∧ (s.ins n).op = op ∧ (s.ins n).legal op = true ∧ (s.ins n).extBad = false ∧
    (flowCode op = true ∨ (s.ins n).nextBad = false)

/-- An instruction met by no error of program memory, register file or control. -/
abbrev Clean (hw : Option EngErr) : Prop := hw.bind EngErr.stop = none

/-- `c` writes general register gd of engine `n` with `v` and goes on; nothing else changes. -/
def GivesReg (c : Instr) (s : State) (n v : Nat) : Prop :=
  ∃ t, exec c s = .next t ∧ t.g n (s.ins n).d = v ∧ t.pc n = (s.ins n).nxt ∧
    OnlyRegs [F.CUE_GREG_VALUE.key (n * 16 + (s.ins n).d), F.CUE_PC_PC.key n] s t

/-- `c` writes time register kd of engine `n` with the image of `r` and goes on; nothing else changes. -/
def GivesTime (c : Instr) (s : State) (n : Nat) (r : TReg) : Prop :=
  let q := n * 4 + (s.ins n).d
  ∃ t, exec c s = .next t ∧ t.pc n = (s.ins n).nxt ∧
    t.k n (s.ins n).d = TReg.ofWords (r.words.getD 0 0) (r.words.getD 1 0) (r.words.getD 2 0) (r.words.getD 3 0) ∧
    OnlyRegs [F.CUE_KREG_W0.key q, F.CUE_KREG_W1.key q, F.CUE_KREG_W2.key q, F.CUE_KREG_W3.key q, F.CUE_PC_PC.key n] s t

/-- `c` is refused with `code`: RS takes it, REFUSED_ANY is set and the engine goes on; nothing else changes (R162). -/
def Refuses (c : Instr) (s : State) (n code : Nat) : Prop :=
  ∃ t, exec c s = .next t ∧ t.rd F.CUE_STATUS_RS n = code ∧ t.rd F.CUE_STATUS_REFUSED_ANY n = 1 ∧ t.pc n = (s.ins n).nxt ∧
    OnlyRegs [F.CUE_STATUS_RS.key n, F.CUE_STATUS_REFUSED_ANY.key n, F.CUE_PC_PC.key n] s t

/-- The Ednel command, its engine and the error it meets. -/
def ednelOf (c : Instr) : Option (Fin 5 × Option EngErr) :=
  match c with
  | .br n e | .bz n e | .bnz n e | .call n e | .ret n e | .yield n e | .halt n e | .li n e | .liLong n e | .lui n e | .add n e
  | .sub n e | .and n e | .or n e | .xor n e | .shl n e | .shr n e | .cmp n e | .ld n e | .st n e | .ldTime n e | .stTime n e
  | .ldx n e | .stx n e | .tnow n e | .tadd n e | .wait n e | .waitev n e | .xstage n e | .xstageb n e | .xcommit n e | .xread n e
  | .xlock n e | .astage n e | .acommit n e | .lset n e | .hcommit n e | .bufalloc n e | .buffree n e | .recstart n e
  | .recstop n e | .play n e | .ask n e | .give n e | .emit n e | .fence n e | .tsync n e | .summary n e
  | .undefinedOpcode n e => some (n, e)
  | _ => none

end Sys2Proof.Machine
end

