-- ==== Sys2Proof/Certificates/Slice0/Obligations.lean ====
section
/-! DEFINITION. The statements for the provers: general ones, then one group per family of commands. A command's statement concludes
that it answers a next state, and which, from conditions on the state and its operands alone. -/
open Sys2Proof Sys2Proof.Machine

/-! ### The machine -/

/-- A step takes the command at the front of the queue: it is that command's effect on the state with the queue's rest. -/
def Obligations.StepTakesFront : Prop :=
  ∀ (c : Instr) (r : List Instr) (s : State), s.pending = c :: r → step s = exec c { s with pending := r }

/-- On an empty queue a step is one CORE clock (the model's choice, log 1): the clock advances by one, the house timescale by 0.8 ns, and no
register, memory, queue or table but time's own changes. -/
def Obligations.IdleStepIsOneClock : Prop :=
  ∀ s : State, s.pending = [] → ∃ t, step s = .next t ∧ t.clk = s.clk + 1 ∧ t.house = s.house + 262144 ∧
    { t with clk := s.clk, house := s.house, ptp := s.ptp, rasters := s.rasters } = s

/-- No command stops the machine: each answers a next state in every state. Where the spec leaves a point open it rests on the model's
choices of log 129. -/
def Obligations.EveryCommandAnswers : Prop :=
  ∀ (c : Instr) (s : State), ∃ t, exec c s = .next t

/-- The state after reset: every register field reads the reset value its register gives it, the engine memories are in canonical form,
nothing waits. Where the spec leaves a point open it rests on the model's choices of log 2, 3, 4, 5, 6, 83. -/
def Obligations.ResetState : Prop :=
  (∀ (f : Fld) (i : Nat), State.reset.rd f i = f.reset i % 2 ^ f.w) ∧ State.reset.memWf = true ∧ State.reset.pending = []

/-- Every step keeps the engine memories in canonical form: addresses strictly rising, no word listed that reads as 0 unlisted. -/
def Obligations.StepKeepsMemoryCanonical : Prop :=
  ∀ s t : State, s.memWf = true → step s = .next t → t.memWf = true

/-- A register field read after it is written gives what was written, cut to its width; a field at another bit address stands. -/
def Obligations.RegisterReadAfterWrite : Prop :=
  ∀ (s : State) (f g : Fld) (i j v : Nat), (s.wr f i v).rd f i = v % 2 ^ f.w ∧
    (g.key j ≠ f.key i → (s.wr f i v).rd g j = s.rd g j)

/-! ### Ednel (chapter 7) -/

/-- BR, BZ, BNZ, CALL, RET, YIELD and HALT where nothing stops them: branches go to PC + 4 OFF when taken, CALL pushes the next address, RET
pops it, the dispatcher's CALL ends in IDLE, HALT reports and consumes its record. A branch, CALL or RET to an address out of range or
wrongly entered stops the engine with PC_RANGE; a full or an empty return stack with STACK; CALL to an empty cue window is refused with
NO_CUE (R182, R183). Where the spec leaves a point open it rests on the model's choices of log 36, 38, 39, 42, 43, 55. -/
def Obligations.FlowInstructions : Prop :=
  (∀ (n : Fin 5) (hw : Option EngErr) (s : State), Clean hw →
    let i := s.ins n
    let inside := 0 ≤ i.target ∧ i.target < 0x20000 ∧ (winBase ≤ i.pc ∨ i.target < winBase)
    (s.Ready n 0x01 → inside → exec (.br n hw) s = .next (s.setPc n i.target.toNat)) ∧
    (s.Ready n 0x02 → s.testVal n i = 0 → inside → exec (.bz n hw) s = .next (s.setPc n i.target.toNat)) ∧
    (s.Ready n 0x02 → s.testVal n i ≠ 0 → i.nextBad = false → exec (.bz n hw) s = .next (s.setPc n i.nxt)) ∧
    (s.Ready n 0x03 → s.testVal n i ≠ 0 → inside → exec (.bnz n hw) s = .next (s.setPc n i.target.toNat)) ∧
    (s.Ready n 0x03 → s.testVal n i = 0 → i.nextBad = false → exec (.bnz n hw) s = .next (s.setPc n i.nxt)) ∧
    (s.Ready n 0x04 → s.callTarget n i % 4 = 0 → s.callTarget n i < winBase → (s.eng n).stack.length < 16 →
      exec (.call n hw) s = .next ((s.setEng n { s.eng n with stack := i.nxt :: (s.eng n).stack }).setPc n (s.callTarget n i))) ∧
    (s.Ready n 0x04 → s.callTarget n i = winBase → (s.eng n).win.isSome = true → (s.eng n).stack.length < 16 →
      exec (.call n hw) s = .next (s.callWindow n i.nxt)) ∧
    (∀ r rest, s.Ready n 0x05 → (s.eng n).stack = r :: rest → r < 0x20000 → (winBase ≤ i.pc ∨ r < winBase) →
      exec (.ret n hw) s = .next (((s.setEng n { s.eng n with stack := rest }).retConsume n).setPc n r)) ∧
    (∀ rest, s.Ready n 0x05 → (s.eng n).stack = dispatchRet :: rest →
      exec (.ret n hw) s = .next (((s.setEng n { s.eng n with stack := rest }).retConsume n).enterIdle n)) ∧
    (s.Ready n 0x06 → exec (.yield n hw) s =
      .next (((s.setEng n { s.eng n with runSince := s.clk }).setPc n i.nxt).swapAt n)) ∧
    (s.Ready n 0x07 → (s.eng n).win = none → exec (.halt n hw) s =
      .next ((s.wr F.CUE_STATUS_STATE n Es.halted).evRecord 0x02 n 0 0 0 0)) ∧
    (∀ w, s.Ready n 0x07 → (s.eng n).win = some w → w.depth = none → exec (.halt n hw) s =
      .next ((s.wr F.CUE_STATUS_STATE n Es.halted).evRecord 0x02 n w.seq 0 0 0)) ∧
    (∀ w d, s.Ready n 0x07 → (s.eng n).win = some w → w.depth = some d → exec (.halt n hw) s =
      .next (((s.wr F.CUE_STATUS_STATE n Es.halted).evRecord 0x02 n w.seq 0 0 0).consume n))) ∧
  (∀ (n : Fin 5) (hw : Option EngErr) (s : State), Clean hw →
    let i := s.ins n
    (s.Ready n 0x01 → (i.target < 0 ∨ 0x20000 ≤ i.target ∨ (i.pc < winBase ∧ (winBase : Int) ≤ i.target)) →
      exec (.br n hw) s = .next (s.faultStop n Fc.pcRange 0)) ∧
    (s.Ready n 0x02 → s.testVal n i = 0 → (i.target < 0 ∨ 0x20000 ≤ i.target ∨ (i.pc < winBase ∧ (winBase : Int) ≤ i.target)) →
      exec (.bz n hw) s = .next (s.faultStop n Fc.pcRange 0)) ∧
    (s.Ready n 0x02 → s.testVal n i ≠ 0 → i.nextBad = true → exec (.bz n hw) s = .next (s.faultStop n Fc.pcRange 0)) ∧
    (s.Ready n 0x03 → s.testVal n i ≠ 0 → (i.target < 0 ∨ 0x20000 ≤ i.target ∨ (i.pc < winBase ∧ (winBase : Int) ≤ i.target)) →
      exec (.bnz n hw) s = .next (s.faultStop n Fc.pcRange 0)) ∧
    (s.Ready n 0x03 → s.testVal n i = 0 → i.nextBad = true → exec (.bnz n hw) s = .next (s.faultStop n Fc.pcRange 0)) ∧
    (s.Ready n 0x04 → (s.callTarget n i % 4 ≠ 0 ∨ winBase < s.callTarget n i) →
      exec (.call n hw) s = .next (s.faultStop n Fc.pcRange 0)) ∧
    (s.Ready n 0x04 → s.callTarget n i % 4 = 0 → s.callTarget n i < winBase → 16 ≤ (s.eng n).stack.length →
      exec (.call n hw) s = .next (s.faultStop n Fc.stack 0)) ∧
    (s.Ready n 0x04 → s.callTarget n i = winBase → (s.eng n).win = none → i.nextBad = false → Refuses (.call n hw) s n Rc.noCue) ∧
    (s.Ready n 0x04 → s.callTarget n i = winBase → (s.eng n).win.isSome = true → 16 ≤ (s.eng n).stack.length →
      exec (.call n hw) s = .next (s.faultStop n Fc.stack 0)) ∧
    (s.Ready n 0x05 → (s.eng n).stack = [] → exec (.ret n hw) s = .next (s.faultStop n Fc.stack 0)) ∧
    (∀ r rest, s.Ready n 0x05 → (s.eng n).stack = r :: rest → r ≠ dispatchRet →
      (0x20000 ≤ r ∨ (winBase ≤ r ∧ i.pc < winBase)) → exec (.ret n hw) s = .next (s.faultStop n Fc.pcRange 0)))

/-- The arithmetic instructions write gd with the value the rules give, in 32 bits with wrap-around, and change nothing else. -/
def Obligations.ArithmeticResults : Prop :=
  ∀ (n : Fin 5) (hw : Option EngErr) (s : State), Clean hw →
    let i := s.ins n
    let a := s.g n i.a
    let b : Nat := if i.isImm then 0 else s.g n (bits i.w 0 4)
    (s.Ready n 0x10 → GivesReg (.li n hw) s n (wrapInt 32 i.simm)) ∧
    (s.Ready n 0x11 → GivesReg (.liLong n hw) s n (i.x % 2 ^ 32)) ∧
    (s.Ready n 0x12 → GivesReg (.lui n hw) s n (s.g n i.d % 65536 + 65536 * i.imm)) ∧
    (s.Ready n 0x13 → GivesReg (.add n hw) s n (wrapInt 32 (if i.isImm then a + sx 15 i.w else a + b))) ∧
    (s.Ready n 0x14 → GivesReg (.sub n hw) s n (wrapInt 32 (if i.isImm then a - sx 15 i.w else (a : Int) - b))) ∧
    (s.Ready n 0x15 → GivesReg (.and n hw) s n (Nat.land a (if i.isImm then bits i.w 0 15 else b))) ∧
    (s.Ready n 0x16 → GivesReg (.or n hw) s n (Nat.lor a (if i.isImm then bits i.w 0 15 else b))) ∧
    (s.Ready n 0x17 → GivesReg (.xor n hw) s n (Nat.xor a (if i.isImm then bits i.w 0 15 else b))) ∧
    (s.Ready n 0x18 → GivesReg (.shl n hw) s n (a * 2 ^ ((if i.isImm then i.w else b) % 32) % 2 ^ 32)) ∧
    (s.Ready n 0x19 → GivesReg (.shr n hw) s n (shr32 a ((if i.isImm then i.w else b) % 32) (bit i.w 14))) ∧
    (s.Ready n 0x1A → GivesReg (.cmp n hw) s n
      (b2n (compare (bits i.w 12 3) a (if i.isImm then wrapInt 32 (sx 12 i.w) else b))))

/-- LD reads and ST writes one word of local memory at ga + IMM; their time forms move a 16-byte image; a misaligned address stops with
ALIGN, one outside the local map, or an ST to a read-only word, with ADDR, and an uncorrectable error of the word read with its memory's
code (R147, R148, R190). LDX reads and STX writes one BAR0 word through the control matrix; KEYS, CUE and TOP_RESET_CTRL are refused
with PROTECTED, an offset that is no multiple of 4 stops with ALIGN, an unmapped one with MATRIX. On a standby LDX takes the value the
active read, and stands still while it has not come (R148, R168, R191). Where the spec leaves a point open it rests on the model's
choices of log 36, 40, 41, 42, 55. -/
def Obligations.MemoryInstructions : Prop :=
  (∀ (n : Fin 5) (hw : Option EngErr) (s : State), Clean hw →
    let i := s.ins n
    let a := s.localAddr n i
    let ro := isData a = true ∨ isShared a = true ∨ isOwn a = true
    let rw := isData a = true ∨ isShared a = true
    let w := fun k => s.localRead n (a + 4 * k)
    (s.Ready n 0x20 → a % 4 = 0 → ro → memErr hw a = none → GivesReg (.ld n hw) s n (s.localRead n a % 2 ^ 32)) ∧
    (s.Ready n 0x21 → a % 4 = 0 → rw → exec (.st n hw) s = .next ((s.localWrite n a (s.g n i.d)).setPc n i.nxt)) ∧
    (s.Ready n 0x22 → a % 16 = 0 → ro → memErr hw a = none →
      GivesTime (.ldTime n hw) s n (s.ofImage n (TReg.ofWords (w 0) (w 1) (w 2) (w 3)))) ∧
    (s.Ready n 0x23 → a % 16 = 0 → rw → exec (.stTime n hw) s =
      .next ((forEach (List.range 4) (fun k s' => s'.localWrite n (a + 4 * k) ((s.k n i.d).words.getD k 0)) s).setPc n i.nxt)) ∧
    (s.Ready n 0x20 → a % 4 ≠ 0 → exec (.ld n hw) s = .next (s.faultStop n Fc.align a)) ∧
    (s.Ready n 0x21 → a % 4 ≠ 0 → exec (.st n hw) s = .next (s.faultStop n Fc.align a)) ∧
    (s.Ready n 0x22 → a % 16 ≠ 0 → exec (.ldTime n hw) s = .next (s.faultStop n Fc.align a)) ∧
    (s.Ready n 0x23 → a % 16 ≠ 0 → exec (.stTime n hw) s = .next (s.faultStop n Fc.align a)) ∧
    (s.Ready n 0x20 → a % 4 = 0 → ¬ ro → exec (.ld n hw) s = .next (s.faultStop n Fc.addr a)) ∧
    (s.Ready n 0x21 → a % 4 = 0 → ¬ rw → exec (.st n hw) s = .next (s.faultStop n Fc.addr a)) ∧
    (s.Ready n 0x22 → a % 16 = 0 → ¬ ro → exec (.ldTime n hw) s = .next (s.faultStop n Fc.addr a)) ∧
    (s.Ready n 0x23 → a % 16 = 0 → ¬ rw → exec (.stTime n hw) s = .next (s.faultStop n Fc.addr a)) ∧
    (∀ code, s.Ready n 0x20 → a % 4 = 0 → ro → memErr hw a = some code → exec (.ld n hw) s = .next (s.faultStop n code a)) ∧
    (∀ code, s.Ready n 0x22 → a % 16 = 0 → ro → memErr hw a = some code → exec (.ldTime n hw) s = .next (s.faultStop n code a))) ∧
  (∀ (n : Fin 5) (hw : Option EngErr) (s : State), Clean hw →
    let i := s.ins n
    let o := s.localAddr n i
    let r := s.readReg (s.engMaster n) o true
    let open' := o % 4 = 0 ∧ protectedOff o = false ∧ bar0Mapped o = true
    (s.Ready n 0x24 → open' → s.fromMirror = false → exec (.ldx n hw) s =
      .next (((r.1.mirrorVal n Vk.ldx [r.2]).setG n i.d r.2).goRs n i Rc.ok)) ∧
    (∀ v vs, s.Ready n 0x24 → open' → s.fromMirror = true → (s.eng n).vals = v :: vs → v.getD 2 0 = s.pc n → v.getD 3 0 = Vk.ldx →
      exec (.ldx n hw) s = .next (((s.dropVal n).setG n i.d (v.getD 7 0)).goRs n i Rc.ok)) ∧
    (s.Ready n 0x24 → open' → s.fromMirror = true → (s.eng n).vals = [] → exec (.ldx n hw) s = .next s) ∧
    (s.Ready n 0x25 → open' → exec (.stx n hw) s = .next ((s.regWrite n o (s.g n i.d)).goRs n i Rc.ok)) ∧
    (s.Ready n 0x24 → o % 4 = 0 → protectedOff o = true → Refuses (.ldx n hw) s n Rc.protect) ∧
    (s.Ready n 0x25 → o % 4 = 0 → protectedOff o = true → Refuses (.stx n hw) s n Rc.protect) ∧
    (s.Ready n 0x24 → o % 4 ≠ 0 → exec (.ldx n hw) s = .next (s.faultStop n Fc.align o)) ∧
    (s.Ready n 0x25 → o % 4 ≠ 0 → exec (.stx n hw) s = .next (s.faultStop n Fc.align o)) ∧
    (s.Ready n 0x24 → o % 4 = 0 → protectedOff o = false → bar0Mapped o = false →
      exec (.ldx n hw) s = .next (s.faultStop n Fc.matrix o)) ∧
    (s.Ready n 0x25 → o % 4 = 0 → protectedOff o = false → bar0Mapped o = false →
      exec (.stx n hw) s = .next (s.faultStop n Fc.matrix o)))

/-- After ST every word of program, data and shared memory but the one stored stands, and the word stored is the register's, while no
substitution copies the engine's memories. -/
def Obligations.StoreFrame : Prop :=
  ∀ (n : Fin 5) (s t : State), s.Ready n 0x21 → s.subst.step = 0 → exec (.st n none) s = .next t →
    let i := s.ins n
    let a := s.localAddr n i
    (a % 4 = 0 ∧ (isData a = true ∨ isShared a = true)) →
    t.localRead n a = s.g n i.d ∧ t.pmem = s.pmem ∧
    (∀ m q, q < 16384 → (isData a = true → m = n.val → q ≠ a / 4) → m < 5 → t.dmemWord m q = s.dmemWord m q) ∧
    (∀ q, (isShared a = true → q ≠ (a - 0x100000) / 4) → t.smemWord q = s.smemWord q) ∧
    ∀ k d, k ≠ F.CUE_PC_PC.key n → tget t.regs k d = tget s.regs k d

/-- TNOW writes the raster's house position with VALID set, zeros while it is disabled, and tells the standby; on a standby it takes the
active's, and stands still while it has not come; TADD adds samples, then lines, then frames, carrying by the raster's format (R168,
R192, R193). WAIT suspends on its comparator, or ends at once with LATE; with ARM it arms alone, or with LATE sets CMPx and disarms;
WAITEV takes pending bits at once, else suspends; FENCE and TSYNC suspend; a bad mask or an unusable time register refuses. On a standby
each that would wait ends as the mirror says (R145, R159, R160, R166-R168, R195, R217, R218). Where the spec leaves a point open it
rests on the model's choices of log 36, 37, 45, 47, 54, 55. -/
def Obligations.PositionAndWaitInstructions : Prop :=
  (∀ (n : Fin 5) (hw : Option EngErr) (s : State), Clean hw →
    let i := s.ins n
    let r := bits i.w 0 3
    let t := s.k n i.a
    (s.Ready n 0x30 → s.mode ≠ Mode.standby → s.mirroring = false → s.enabled r = true →
      GivesTime (.tnow n hw) s n ⟨r, { s.pos r with frame := (s.pos r).frame % 2 ^ 64 }, true⟩) ∧
    (s.Ready n 0x30 → s.mode ≠ Mode.standby → s.mirroring = false → s.enabled r = false →
      GivesTime (.tnow n hw) s n ⟨r, ⟨0, 0, 0⟩, true⟩) ∧
    (s.Ready n 0x30 → s.fromMirror = false → exec (.tnow n hw) s = .next
      (let now : TReg := ⟨r, if s.enabled r then { s.pos r with frame := (s.pos r).frame % 2 ^ 64 } else ⟨0, 0, 0⟩, true⟩
       ((s.mirrorVal n Vk.tnow now.words).setK n i.d now).setPc n i.nxt)) ∧
    (∀ v vs, s.Ready n 0x30 → s.fromMirror = true → (s.eng n).vals = v :: vs → v.getD 2 0 = s.pc n → v.getD 3 0 = Vk.tnow →
      exec (.tnow n hw) s = .next (((s.dropVal n).setK n i.d
        (TReg.ofWords (v.getD 7 0) (v.getD 8 0) (v.getD 9 0) (v.getD 10 0))).setPc n i.nxt)) ∧
    (s.Ready n 0x30 → s.fromMirror = true → (s.eng n).vals = [] → exec (.tnow n hw) s = .next s) ∧
    (s.Ready n 0x31 → s.enabled t.raster = true → GivesTime (.tadd n hw) s n
      ⟨t.raster, addPos t.pos (sx 32 (s.g n i.b)) (sx 16 i.x) (sx 16 (i.x / 65536)) (s.rLines t.raster) (s.rSamples t.raster), true⟩) ∧
    (s.Ready n 0x31 → s.enabled t.raster = false → GivesTime (.tadd n hw) s n t)) ∧
  (∀ (n : Fin 5) (hw : Option EngErr) (s : State), Clean hw →
    let i := s.ins n
    let armed := (s.armCmp n i.d 1).setPc n i.nxt
    let arm := s.armCmp n i.d 2
    let dst := if bit i.w 0 then some i.d else none
    let ev := (s.armTmo n i.tmo).setPc n i.nxt
    let evGood := i.x ≠ 0 ∧ Nat.land i.x evReserved = 0 ∧ s.tmoBad n i.tmo = false
    let mask := bits i.w 8 5
    let t := bits i.w 13 2
    let tsync := (((s.armCmp n t 3).setPc n i.nxt).suspend n (.tsync (bits i.w 0 8) mask t))
    let tsGood := bit mask n = true ∧ bit mask s.spareNum = false
    (s.Ready n 0x32 → s.kOk n i.d = true → bit i.w 0 = false → s.fromMirror = false → armed.cmpReached n i.d = false →
      exec (.wait n hw) s = .next (armed.suspend n (.pos i.d))) ∧
    (s.Ready n 0x32 → s.kOk n i.d = true → bit i.w 0 = false → s.fromMirror = false → armed.cmpReached n i.d = true →
      exec (.wait n hw) s = .next (armed.wakeMirror n Rc.late (some i.d))) ∧
    (s.Ready n 0x32 → s.kOk n i.d = true → bit i.w 0 = false → s.fromMirror = true →
      exec (.wait n hw) s = .next ((armed.suspend n (.pos i.d)).mirrorEnd n)) ∧
    (s.Ready n 0x32 → s.kOk n i.d = true → bit i.w 0 = true → arm.cmpReached n i.d = false →
      exec (.wait n hw) s = .next (arm.goRs n i Rc.ok)) ∧
    (s.Ready n 0x32 → s.kOk n i.d = true → bit i.w 0 = true → arm.cmpReached n i.d = true →
      exec (.wait n hw) s = .next (((s.disarmCmp n i.d).engEvent n i.d).goRs n i Rc.late)) ∧
    (s.Ready n 0x32 → s.kOk n i.d = false → Refuses (.wait n hw) s n Rc.target) ∧
    (s.Ready n 0x33 → evGood → s.fromMirror = false → (ev.takeEvents n i.x).2 = 0 →
      exec (.waitev n hw) s = .next (ev.suspend n (.event i.x dst i.tmo))) ∧
    (s.Ready n 0x33 → evGood → s.fromMirror = false → (ev.takeEvents n i.x).2 ≠ 0 →
      exec (.waitev n hw) s = .next ((((ev.takeEvents n i.x).1.mirrorVal n Vk.waitev [(ev.takeEvents n i.x).2]).setDst n dst
        (ev.takeEvents n i.x).2).wake n Rc.ok i.tmo)) ∧
    (s.Ready n 0x33 → evGood → s.fromMirror = true →
      exec (.waitev n hw) s = .next ((ev.suspend n (.event i.x dst i.tmo)).mirrorEnd n)) ∧
    (s.Ready n 0x33 → (i.x = 0 ∨ Nat.land i.x evReserved ≠ 0) → s.tmoBad n i.tmo = false → Refuses (.waitev n hw) s n Rc.arg) ∧
    (s.Ready n 0x33 → s.tmoBad n i.tmo = true → Refuses (.waitev n hw) s n Rc.target) ∧
    (s.Ready n 0x81 → s.fromMirror = false → exec (.fence n hw) s = .next ((s.setPc n i.nxt).suspend n .fence)) ∧
    (s.Ready n 0x81 → s.fromMirror = true → exec (.fence n hw) s = .next (((s.setPc n i.nxt).suspend n .fence).mirrorEnd n)) ∧
    (s.Ready n 0x82 → tsGood → s.kOk n t = true → s.fromMirror = false → exec (.tsync n hw) s = .next tsync) ∧
    (s.Ready n 0x82 → tsGood → s.kOk n t = true → s.fromMirror = true → exec (.tsync n hw) s = .next (tsync.mirrorEnd n)) ∧
    (s.Ready n 0x82 → (bit mask n = false ∨ bit mask s.spareNum = true) → s.kOk n t = true → Refuses (.tsync n hw) s n Rc.arg) ∧
    (s.Ready n 0x82 → s.kOk n t = false → Refuses (.tsync n hw) s n Rc.target))

/-- XSTAGE, XSTAGEB, ASTAGE and LSET stage what passes every check, and XREAD and XLOCK read and lock; the result is RS OK. On a standby
XREAD takes the value the active read, and stands still while it has not come (R168, R196-R198, R201-R203, R205). A refused staging
instruction takes no effect: XSTAGE, XREAD, XLOCK, ASTAGE and LSET change RS, REFUSED_ANY and PC alone; XSTAGEB also tells the failing
record in gr, and stops with ALIGN, ADDR or its memory's error where its list does (R162, R196-R198, R201-R203, R205). Where the spec
leaves a point open it rests on the model's choices of log 36, 37, 40, 41. -/
def Obligations.StagingInstructions : Prop :=
  (∀ (n : Fin 5) (hw : Option EngErr) (s : State), Clean hw →
    let i := s.ins n
    let d := s.g n i.d
    let x := s.g n i.a
    let w := s.g n i.b
    let l := s.routeList n x w
    (s.Ready n 0x40 → s.routeCode n d x w = 0 → exec (.xstage n hw) s = .next ((s.stageOne n d x w).goRs n i Rc.ok)) ∧
    (s.Ready n 0x41 → 1 ≤ w → w ≤ 8192 → listFault hw x 8 (8 * w) = none → s.listCode n l = none → exec (.xstageb n hw) s =
      .next (((l.foldl (fun s r => s.stageOne n (recDest r) (recSrc r) r.2) s).setG n i.d w).goRs n i Rc.ok)) ∧
    (s.Ready n 0x43 → i.imm ≤ 3 → x ≤ 8191 → s.fromMirror = false → exec (.xread n hw) s =
      .next (((s.mirrorVal n Vk.xread [s.xreadWord x i.imm]).setG n i.d (s.xreadWord x i.imm)).goRs n i Rc.ok)) ∧
    (s.Ready n 0x43 → i.imm = 4 → x ≤ 6335 → s.fromMirror = false → exec (.xread n hw) s =
      .next (((s.mirrorVal n Vk.xread [s.xreadWord x 4]).setG n i.d (s.xreadWord x 4)).goRs n i Rc.ok)) ∧
    (∀ v vs, s.Ready n 0x43 → (i.imm ≤ 3 ∧ x ≤ 8191 ∨ i.imm = 4 ∧ x ≤ 6335) → s.fromMirror = true → (s.eng n).vals = v :: vs →
      v.getD 2 0 = s.pc n → v.getD 3 0 = Vk.xread →
      exec (.xread n hw) s = .next (((s.dropVal n).setG n i.d (v.getD 7 0)).goRs n i Rc.ok)) ∧
    (s.Ready n 0x43 → (i.imm ≤ 3 ∧ x ≤ 8191 ∨ i.imm = 4 ∧ x ≤ 6335) → s.fromMirror = true → (s.eng n).vals = [] →
      exec (.xread n hw) s = .next s) ∧
    (s.Ready n 0x44 → s.lockCode x (widthOf (bits i.w 0 2)) (bit i.w 2) = 0 → exec (.xlock n hw) s =
      .next ((s.lockGroup x (widthOf (bits i.w 0 2)) (bit i.w 2)).goRs n i Rc.ok)) ∧
    (s.Ready n 0x50 → s.aStageCode n d x w = 0 → exec (.astage n hw) s = .next ((s.aStage n d x w).goRs n i Rc.ok)) ∧
    (s.Ready n 0x52 → (s.lset n x i.imm d).2 = 0 → exec (.lset n hw) s = .next ((s.lset n x i.imm d).1.goRs n i Rc.ok))) ∧
  (∀ (n : Fin 5) (hw : Option EngErr) (s : State), Clean hw →
    let i := s.ins n
    let d := s.g n i.d
    let x := s.g n i.a
    let w := s.g n i.b
    (s.Ready n 0x40 → s.routeCode n d x w ≠ 0 → Refuses (.xstage n hw) s n (s.routeCode n d x w)) ∧
    (s.Ready n 0x41 → x % 8 = 0 → (w = 0 ∨ 8192 < w) → Refuses (.xstageb n hw) s n Rc.arg) ∧
    (∀ j c, s.Ready n 0x41 → 1 ≤ w → w ≤ 8192 → listFault hw x 8 (8 * w) = none →
      s.listCode n (s.routeList n x w) = some (j, c) → exec (.xstageb n hw) s = .next ((s.setG n i.d j).goRs n i c)) ∧
    (s.Ready n 0x41 → x % 8 ≠ 0 → exec (.xstageb n hw) s = .next (s.faultStop n Fc.align x)) ∧
    (∀ c, s.Ready n 0x41 → x % 8 = 0 → 1 ≤ w → w ≤ 8192 → listFault hw x 8 (8 * w) = some c →
      exec (.xstageb n hw) s = .next (s.faultStop n c x)) ∧
    (s.Ready n 0x43 → 4 < i.imm → Refuses (.xread n hw) s n Rc.arg) ∧
    (s.Ready n 0x43 → i.imm ≤ 3 → 8191 < x → Refuses (.xread n hw) s n Rc.arg) ∧
    (s.Ready n 0x43 → i.imm = 4 → 6335 < x → Refuses (.xread n hw) s n Rc.dstRange) ∧
    (s.Ready n 0x44 → s.lockCode x (widthOf (bits i.w 0 2)) (bit i.w 2) ≠ 0 →
      Refuses (.xlock n hw) s n (s.lockCode x (widthOf (bits i.w 0 2)) (bit i.w 2))) ∧
    (s.Ready n 0x50 → s.aStageCode n d x w ≠ 0 → Refuses (.astage n hw) s n (s.aStageCode n d x w)) ∧
    (s.Ready n 0x52 → (s.lset n x i.imm d).2 ≠ 0 → Refuses (.lset n hw) s n (s.lset n x i.imm d).2))

/-- XCOMMIT, ACOMMIT and HCOMMIT on a device that neither mirrors nor follows: accepted in their clock, with gd and kt rewritten, or refused
with their code, gd taking the detail where there is one; on a device that mirrors the engine stands at the instruction until the
acknowledgement; on a standby it is acknowledged, unless the active went on alone, and ends with the active's acceptance (R169, R199,
R200, R204, R207). Where the spec leaves a point open it rests on the model's choices of log 35, 44, 46, 47. -/
def Obligations.CommitsAccepted : Prop :=
  ∀ (n : Fin 5) (hw : Option EngErr) (s : State), Clean hw →
    let i := s.ins n
    let s0 := s.setEng n { s.eng n with wait := .none }
    let done := fun (a : State × Nat × TReg) => ((a.1.setG n i.d a.2.1).setK n i.a a.2.2).goRs n i Rc.ok
    let refused := fun (c : Nat × Option Nat) => (s0.commitRefuse n i c.1 c.2).goRs n i c.1
    let held := fun (c : Nat × Option Nat) => s.setEng n { s.eng n with wait := .commit s.clk c.1 c.2 }
    let follow := fun (c : Nat × Option Nat) =>
      (if s.twin.alone then held c else (held c).send Mt.cack [n, i.pc, c.1]).mirrorEnd n
    let one := fun (c : Instr) (try' : Nat × Option Nat) (do' : State × Nat × TReg) =>
      (s.fromMirror = false → s.mirroring = false → try'.1 = 0 → exec c s = .next (done do')) ∧
      (s.fromMirror = false → s.mirroring = false → try'.1 ≠ 0 → exec c s = .next (refused try')) ∧
      (s.mirroring = true → exec c s = .next (held try')) ∧
      (s.fromMirror = true → exec c s = .next (follow try'))
    (s.Ready n 0x42 → one (.xcommit n hw) (s.xcommitTry n i) (s0.xcommitDo n i)) ∧
    (s.Ready n 0x51 → one (.acommit n hw) (s.acommitTry n i) (s0.acommitDo n i)) ∧
    (s.Ready n 0x53 → one (.hcommit n hw) (s.hcommitTry n i) (s0.hcommitDo n i))

/-- BUFALLOC, BUFFREE, RECSTART, RECSTOP and PLAY take the effect of the frame store and write its code to RS; BUFALLOC writes the handle to
gd and tells the standby, which takes the active's handle, and stops with ALIGN, ADDR or its memory's error where its request does. On a
standby RECSTART, RECSTOP and PLAY act at the active engine's instant (R168, R209-R213, R220). BUFFREE of a buffer in no use: the
generation advances at once, wrapping at 16 bits, and the descriptor waits for its release (R211). ASK grants at once what fits, its
timeout disarmed, refuses what cannot be served or, with TRY, does not fit, and waits otherwise; a bad request word or timeout register
refuses it, and a request that cannot be read stops it; on a standby it waits for the active's outcome. GIVE returns a grant its engine
holds whose resource does not run (R160, R168, R214, R215, R420). Where the spec leaves a point open it rests on the model's choices of
log 36, 41, 44, 45, 100. -/
def Obligations.StoreAndGrantInstructions : Prop :=
  (∀ (n : Fin 5) (hw : Option EngErr) (s : State), Clean hw →
    let i := s.ins n
    let a := s.g n i.a
    let r := s.bufRequest n a none
    (s.Ready n 0x60 → listFault hw a 16 16 = none → s.fromMirror = false → r.2.1 = 0 → exec (.bufalloc n hw) s =
      .next (((r.1.mirrorVal n Vk.bufalloc [0, r.2.2]).setG n i.d r.2.2).goRs n i Rc.ok)) ∧
    (s.Ready n 0x60 → listFault hw a 16 16 = none → s.fromMirror = false → r.2.1 ≠ 0 → exec (.bufalloc n hw) s =
      .next ((r.1.mirrorVal n Vk.bufalloc [r.2.1, r.2.2]).goRs n i r.2.1)) ∧
    (∀ v vs, s.Ready n 0x60 → listFault hw a 16 16 = none → s.fromMirror = true → (s.eng n).vals = v :: vs → v.getD 2 0 = s.pc n →
      v.getD 3 0 = Vk.bufalloc → exec (.bufalloc n hw) s =
      .next ((s.dropVal n).mirrorAlloc n i a (v.getD 7 0) (v.getD 8 0) (v.getD 0 0))) ∧
    (s.Ready n 0x60 → listFault hw a 16 16 = none → s.fromMirror = true → (s.eng n).vals = [] →
      exec (.bufalloc n hw) s = .next s) ∧
    (∀ c, s.Ready n 0x60 → listFault hw a 16 16 = some c → exec (.bufalloc n hw) s = .next (s.faultStop n c a)) ∧
    (s.Ready n 0x61 → exec (.buffree n hw) s = .next ((s.bufFree n a).1.goRs n i (s.bufFree n a).2)) ∧
    (s.Ready n 0x62 → s.fromMirror = false →
      exec (.recstart n hw) s = .next ((s.recStart n a (s.g n i.b)).1.goRs n i (s.recStart n a (s.g n i.b)).2)) ∧
    (s.Ready n 0x63 → s.fromMirror = false → exec (.recstop n hw) s = .next ((s.recStop a).1.goRs n i (s.recStop a).2)) ∧
    (s.Ready n 0x64 → s.fromMirror = false →
      exec (.play n hw) s = .next ((s.play n (s.g n i.d) a (s.g n i.b)).1.goRs n i (s.play n (s.g n i.d) a (s.g n i.b)).2)) ∧
    (s.Ready n 0x62 → s.fromMirror = true → exec (.recstart n hw) s = .next (s.atBack (s.eng n).lag fun u =>
      (u.recStart n (u.g n i.a) (u.g n i.b)).1.goRs n i (u.recStart n (u.g n i.a) (u.g n i.b)).2)) ∧
    (s.Ready n 0x63 → s.fromMirror = true → exec (.recstop n hw) s = .next (s.atBack (s.eng n).lag fun u =>
      (u.recStop (u.g n i.a)).1.goRs n i (u.recStop (u.g n i.a)).2)) ∧
    (s.Ready n 0x64 → s.fromMirror = true → exec (.play n hw) s = .next (s.atBack (s.eng n).lag fun u =>
      (u.play n (u.g n i.d) (u.g n i.a) (u.g n i.b)).1.goRs n i (u.play n (u.g n i.d) (u.g n i.a) (u.g n i.b)).2))) ∧
  (∀ (n : Nat) (s : State) (h i : Nat), bits h 14 2 = 0 → s.handleDesc h = some i → s.bufInUse i = false →
    (s.bufFree n h).2 = Rc.ok ∧ ((s.bufFree n h).1.desc i).gen = ((s.desc i).gen + 1) % 65536 ∧ ((s.bufFree n h).1.desc i).state = 2 ∧
      (∀ j, j ≠ i → (s.bufFree n h).1.desc j = s.desc j) ∧ SameMem s (s.bufFree n h).1) ∧
  (∀ (n : Fin 5) (hw : Option EngErr) (s : State), Clean hw →
    let i := s.ins n
    let a := s.g n i.a
    let w0 := s.localRead n a
    let w1 := s.localRead n (a + 4)
    let v := s.askVerdict (askCls w0) (askInst w0) w1 (bit i.w 0)
    let g := s.grant n (askCls w0) (askInst w0) w1
    let read := listFault hw a 8 8 = none
    let form := s.askForm n i w0
    let fin' := fun (s : State) (code tok : Nat) => (((s.setPc n i.nxt).mirrorVal n Vk.ask [code, tok]).setG n i.d tok).setRs n code
    let queued := (s.armTmo n i.tmo).askQueue n w0 w1
    let wait := fun (s : State) => (s.setPc n i.nxt).suspend n (.ask i.d i.tmo)
    let tok := s.g n i.a % 65536
    (s.Ready n 0x70 → read → form = 0 → s.fromMirror = false → v = some Rc.ok →
      exec (.ask n hw) s = .next (fin' (g.1.endTmo n i.tmo) Rc.ok g.2)) ∧
    (∀ c, s.Ready n 0x70 → read → form = 0 → s.fromMirror = false → v = some c → c ≠ 0 →
      exec (.ask n hw) s = .next (fin' s c 0)) ∧
    (s.Ready n 0x70 → read → form = 0 → s.fromMirror = false → v = none → exec (.ask n hw) s = .next (wait queued)) ∧
    (s.Ready n 0x70 → read → form ≠ 0 → s.fromMirror = false → exec (.ask n hw) s = .next (fin' s form 0)) ∧
    (s.Ready n 0x70 → read → s.fromMirror = true →
      exec (.ask n hw) s = .next ((wait (if form = 0 then queued else s)).mirrorEnd n)) ∧
    (∀ c, s.Ready n 0x70 → listFault hw a 8 8 = some c → exec (.ask n hw) s = .next (s.faultStop n c a)) ∧
    (s.Ready n 0x71 → s.giveVerdict n tok false = Rc.ok → exec (.give n hw) s = .next ((s.returnEntry (tok % 4096)).goRs n i Rc.ok)) ∧
    (s.Ready n 0x71 → s.giveVerdict n tok false ≠ Rc.ok → Refuses (.give n hw) s n (s.giveVerdict n tok false)))

/-- EMIT sets its bit in every engine it names and writes the host's record; refused, it sets none; SUMMARY begins a summary unless an
earlier one is not yet written, on a standby at the active engine's instant (R216, R219, R220). Where the spec leaves a point open it
rests on the model's choices of log 36, 64. -/
def Obligations.EmitAndSummary : Prop :=
  ∀ (n : Fin 5) (hw : Option EngErr) (s : State), Clean hw →
    let i := s.ins n
    let m := bits i.w 0 6
    let d0 := s.g n i.a
    let d1 := s.g n i.b
    (s.Ready n 0x80 → m ≠ 0 → bit m 5 = false → exec (.emit n hw) s = .next ((s.engMask (m % 32) (16 + n)).goRs n i Rc.ok)) ∧
    (s.Ready n 0x80 → bit m 5 = true → s.evrOpen = true → s.evrFull = false → exec (.emit n hw) s =
      .next (((s.engMask (m % 32) (16 + n)).evRecord 0x01 n (s.winSeq n) 0 d0 d1).goRs n i Rc.ok)) ∧
    (s.Ready n 0x80 → bit m 5 = true → (s.evrOpen = false ∨ s.evrFull = true) → exec (.emit n hw) s =
      .next ((s.evRecord 0x01 n (s.winSeq n) 0 d0 d1).goRs n i Rc.ringFull)) ∧
    (s.Ready n 0x80 → m = 0 → Refuses (.emit n hw) s n Rc.arg) ∧
    (s.Ready n 0x83 → s.fromMirror = false → s.rd F.HOSTIF_SUM_STATUS_STATE 0 ≠ 1 → s.rd F.HOSTIF_SUM_STATUS_STATE 0 ≠ 2 →
      exec (.summary n hw) s = .next ((s.summaryReq n (bit i.w 0)).1.goRs n i Rc.ok)) ∧
    (s.Ready n 0x83 → s.fromMirror = false → (s.rd F.HOSTIF_SUM_STATUS_STATE 0 = 1 ∨ s.rd F.HOSTIF_SUM_STATUS_STATE 0 = 2) →
      Refuses (.summary n hw) s n Rc.busy) ∧
    (s.Ready n 0x83 → s.fromMirror = true → exec (.summary n hw) s = .next (s.atBack (s.eng n).lag fun u =>
      (u.summaryReq n (bit i.w 0)).1.goRs n i (if (u.summaryReq n (bit i.w 0)).2 then Rc.ok else Rc.busy)))

/-- A word whose opcode Table 7-2 does not list faults with ILLEGAL (R178): the command's own effect is that stop. An engine that takes any
instruction and meets an error of program memory, register file or control stops with that error's code (Table 6-7). A fault stop leaves
the engine FAULTED with its class and code and PC at the instruction, and touches no memory and no crosspoint entry (R163). Where the
spec leaves a point open it rests on the model's choices of log 42. -/
def Obligations.EngineStops : Prop :=
  ((∀ (n : Fin 5) (hw : Option EngErr) (s : State), Clean hw → s.takes n = true → definedOp (s.ins n).op = false →
    exec (.undefinedOpcode n hw) s = .next (s.faultStop n Fc.illegal 0)) ∧
  ∀ (c : Instr) (n : Fin 5) (e : EngErr) (code : Nat) (s : State), ednelOf c = some (n, some e) → Sys2Proof.Machine.EngErr.stop e = some code →
    s.takes n = true → exec c s = .next (s.faultStop n code 0)) ∧
  (∀ (n : Fin 5) (s : State) (code a : Nat), code < 16 → a < 2 ^ 32 →
    let t := s.faultStop n code a
    t.es n = Es.faulted ∧ t.rd F.CUE_STATUS_FAULT_CODE n = code ∧ t.rd F.CUE_STATUS_FAULT_CLASS n = 1 ∧
      t.rd F.CUE_FAULT_ADDR_ADDR n = a ∧ t.pc n = s.pc n ∧ SameMem s t ∧ t.xShadow = s.xShadow ∧ t.xCommits = s.xCommits)

/-! ### Host accesses (chapters 0, 18, 20) -/

/-- REGISTER_WRITE, RC_READ and CAPTURE_READ. Of a register that stands: the write follows the register's own rule, the read answers the
word and clears its RC fields; a capture read of a word that belongs to no multi-word register reads nothing. While READY is low a read
answers all ones, but DEV_MODE and RESET_STATUS read; at an offset that nothing occupies a write is unmapped and a read answers 0 (R6,
R459, R466, R499-R501). An access where nothing is mapped: UNMAPPED is raised with the offset and the BAR, a read answers 0; with READY
low a write meets nothing and a read answers all ones (R459, R466, R499). A host write of a mapped word that is not carried out: with
READY low it is dropped; in FUSE or INIT outside TOP it sets WR_EARLY alone; on a STANDBY device a mirrored register refuses it with
STBY_REFUSED (R401, R451, R459). Where the spec leaves a point open it rests on the model's choices of log 27. -/
def Obligations.HostAccesses : Prop :=
  (∀ (off : Nat) (w : Word) (s : State),
    let un := s.unmapped false off
    (bar0Mapped off = true → Writes (.registerWrite off w) off w s (s.regWrite 5 off w.toNat)) ∧
    (bar0Mapped off = true → s.pins.ready = true → s.hif.d3 = false → exec (.rcRead off) s =
      .next ((s.readReg 0 off true).1.answer (s.readReg 0 off true).2)) ∧
    (bar0Mapped off = true → s.pins.ready = true → s.hif.d3 = false → (captureOf off).isSome = true → exec (.captureRead off) s =
      .next ((s.readReg 0 off true).1.answer (s.readReg 0 off true).2)) ∧
    ((captureOf off).isSome = false → exec (.captureRead off) s = .next s) ∧
    (s.pins.ready = false → s.hif.d3 = false → exec (.rcRead off) s =
      .next (s.answer (if off = 0x10 ∨ off = 0x24 then s.wordNow off else 0xFFFFFFFF))) ∧
    (bar0Mapped off = false → s.pins.ready = true → s.hif.d3 = false → exec (.registerWrite off w) s = .next un) ∧
    (bar0Mapped off = false → s.pins.ready = true → s.hif.d3 = false → exec (.rcRead off) s = .next (un.answer 0))) ∧
  (∀ (bar2 : Bool) (off : Nat) (s : State), s.hif.d3 = false →
    let t := ((s.wr F.HOSTIF_UNMAPPED_OFFSET 0 off).wr F.HOSTIF_UNMAPPED_BAR2 0 (b2n bar2)).event F.HOSTIF_EVENT_UNMAPPED 0 Irq.hostif
    (s.pins.ready = true → exec (.unmappedAccess bar2 off true) s = .next t) ∧
    (s.pins.ready = true → exec (.unmappedAccess bar2 off false) s = .next { t with hif := { t.hif with lastRead := 0 } }) ∧
    (s.pins.ready = false → exec (.unmappedAccess bar2 off true) s = .next s) ∧
    (s.pins.ready = false → exec (.unmappedAccess bar2 off false) s = .next { s with hif := { s.hif with lastRead := 0xFFFFFFFF } })) ∧
  (∀ (off : Nat) (w : Word) (s : State), bar0Mapped off = true →
    (s.pins.ready = false → exec (.registerWrite off w) s = .next s) ∧
    (s.hif.d3 = true → exec (.registerWrite off w) s = .next s) ∧
    (s.pins.ready = true → s.hif.d3 = false → s.mode ≤ Mode.init → blockOf off ≠ some .top →
      exec (.registerWrite off w) s = .next (s.wr F.TOP_INIT_STATUS_WR_EARLY 0 1)) ∧
    (s.pins.ready = true → s.hif.d3 = false → s.mode = Mode.standby → mirroredOff off = true →
      exec (.registerWrite off w) s = .next ((s.wr F.COBALT_EVENT_STBY_REFUSED 0 1).raise Irq.cobalt)))

/-! ### Slate (chapter 2) -/

/-- SNAP captures PTP time and every raster's position (of a disabled one LINE 0; its frame and sample words 0 are the model's choice, log
132) and counts. The raster registers: SLATE_RASTER_CFG as written starts or stops the raster and sets its format; a seed is taken until
the raster has locked, then SEED_IGNORED; LEAD 0 and an ADV of a line or more are reserved and keep the field; a change of ADV is
refused while the raster is in use (LEAD of the same write is taken then: the model's choice, log 132). A frame's start brings the line
registers into force, once (R35, R41-R43, R46). Where the spec leaves a point open it rests on the model's choices of log 4, 10, 132. -/
def Obligations.RasterCommands : Prop :=
  ∀ (n : Fin 8) (hi : Bool) (w : Word) (s : State),
    let v := w.toNat
    let sf := if hi then F.SLATE_RASTER_SEED_SEED_HI else F.SLATE_RASTER_SEED_SEED_LO
    let so := 0x10210 + 0x40 * n.val + (if hi then 4 else 0)
    let to' := 0x10208 + 0x40 * n.val
    let lead := if bits v 0 4 = 0 then s else s.wr F.SLATE_RASTER_TIMING_LEAD n (bits v 0 4)
    let adv := bits v 16 13
    let keeps := s.rSamples n ≤ adv ∨ adv = s.rd F.SLATE_RASTER_TIMING_ADV n
    let starts := s.enabled n = true ∧ (s.pos n).frame ≠ (s.raster n).begun
    Writes .snap 0x10010 1 s s.snap ∧
    Writes (.rasterCfgWrite n w) (0x10200 + 0x40 * n.val) w s (s.rasterCfg n v) ∧
    (s.on F.SLATE_RASTER_STATUS_EVER_LOCKED n = false → Writes (.rasterSeedWrite n hi w) so w s (s.wr sf n v)) ∧
    (s.on F.SLATE_RASTER_STATUS_EVER_LOCKED n = true → Writes (.rasterSeedWrite n hi w) so w s
      (s.wr F.SLATE_RASTER_STATUS_SEED_IGNORED n 1)) ∧
    (keeps → Writes (.rasterTimingWrite n w) to' w s lead) ∧
    (¬ keeps → s.inUse n = false → Writes (.rasterTimingWrite n w) to' w s (lead.wr F.SLATE_RASTER_TIMING_ADV n adv)) ∧
    (¬ keeps → s.inUse n = true → Writes (.rasterTimingWrite n w) to' w s (lead.wr F.SLATE_RASTER_STATUS_CFG_REFUSED n 1)) ∧
    (starts → n.val ≠ 0 → exec (.rasterFrameStart n) s = .next (s.loadLines n)) ∧
    (starts → n.val = 0 → exec (.rasterFrameStart n) s = .next (s.loadLines 0).psubFrames) ∧
    (¬ starts → exec (.rasterFrameStart n) s = .next s)

/-- Comparators and the GPO schedule. A write that arms is refused with ARM_REFUSED or REFUSED where the position does not exist, fires or
applies at once where it is reached, with LATE where it lies before the present position, else waits; the write's other fields are taken
also when its arming is refused, and an armed comparator stays armed then (the model's choice, log 132). Target and entry words are
written while the comparator is not armed and the entry not valid; the fire and the apply wait until the position is reached, the apply
also for every lower entry that is due (R47, R48, R52, R53). A comparator that fires sets FIRED and counts; without PERIODIC it disarms,
with PERIODIC its target frame moves on by PERIOD, a SHORT one in 32 bits and a WIDE one in 64, and it stays armed (R37, R48). Where the
spec leaves a point open it rests on the model's choices of log 122, 132. -/
def Obligations.ComparatorCommands : Prop :=
  (∀ (k : Fin 32) (j : Fin 256) (w : Word) (x : Fin 4) (y : Fin 6) (s : State),
    let v := w.toNat
    let ko := 0x10400 + 0x20 * k.val
    let f := s.cmpFields k v
    let a := f.wr F.SLATE_CMP_CTRL_ARM k 1
    let r := a.rd F.SLATE_CMP_CTRL_RASTER k
    let tgt := fun (x : Nat) => Writes (.cmpTgtWrite k ⟨x % 4, by omega⟩ w) (0x10404 + 0x20 * k.val + 4 * (x % 4)) w s
    let free := s.on F.SLATE_CMP_CTRL_ARM k = false
    let q := s.rd F.SLATE_CMP_CTRL_RASTER k
    let fires := s.on F.SLATE_CMP_CTRL_ARM k = true ∧ s.enabled q = true ∧ s.reached q (s.cmpTarget k) = true
    let jo := 0x12000 + 0x20 * j.val
    let wrote := fun (y : Nat) => Writes (.gpoSchedWrite j ⟨y % 6, by omega⟩ w) (jo + 4 * (y % 6)) w s
    let open' := s.on F.SLATE_GPO_SCHED_VALID j = false
    let e := (s.wr F.SLATE_GPO_SCHED_RASTER j (bits v 1 3)).wr F.SLATE_GPO_SCHED_STYLE j (bits v 4 1)
    let er := e.rd F.SLATE_GPO_SCHED_RASTER j
    let exists' := e.armOk er (e.rd F.SLATE_GPO_SCHED_LINE j) (e.rd F.SLATE_GPO_SCHED_SAMPLE j)
    let set := e.setValid j true
    (f.cmpOk k = false → Writes (.cmpArm k w) ko w s (f.wr F.SLATE_CMP_STATUS_ARM_REFUSED k 1)) ∧
    (f.cmpOk k = true → a.reached r (a.cmpTarget k) = false → Writes (.cmpArm k w) ko w s a) ∧
    (f.cmpOk k = true → a.reached r (a.cmpTarget k) = true → Writes (.cmpArm k w) ko w s
      (a.cmpFire k ((a.cmpTarget k).lt (a.pos r)))) ∧
    Writes (.cmpDisarm k w) ko w s (f.wr F.SLATE_CMP_CTRL_ARM k 0) ∧
    (s.on F.SLATE_CMP_CTRL_ARM k = true → Writes (.cmpTgtWrite k x w) (0x10404 + 0x20 * k.val + 4 * x.val) w s
      (s.wr F.SLATE_CMP_STATUS_ARM_REFUSED k 1)) ∧
    (free → tgt 0 (s.wr F.SLATE_CMP_TGT_FRAME_LO k v)) ∧
    (free → tgt 1 (s.wr F.SLATE_CMP_TGT_FRAME_HI k v)) ∧
    (free → tgt 2 ((s.wr F.SLATE_CMP_TGT_LINE k v).wr F.SLATE_CMP_TGT_SAMPLE k (v / 65536))) ∧
    (free → tgt 3 (s.wr F.SLATE_CMP_TGT_PERIOD k v)) ∧
    (fires → exec (.comparatorFire k) s = .next (s.cmpFire k false)) ∧
    (¬ fires → exec (.comparatorFire k) s = .next s) ∧
    (s.on F.SLATE_GPO_SCHED_VALID j = true → ¬ (y = 0 ∧ bit v 0 = false) → Writes (.gpoSchedWrite j y w) (jo + 4 * y.val) w s
      (s.wr F.SLATE_GPO_SCHED_STATUS_REFUSED 0 1)) ∧
    (bit v 0 = false → wrote 0 (e.setValid j false)) ∧
    (open' → bit v 0 = true → exists' = false → wrote 0 (e.wr F.SLATE_GPO_SCHED_STATUS_REFUSED 0 1)) ∧
    (open' → bit v 0 = true → exists' = true → set.reached er (set.schedTarget j) = false → wrote 0 set) ∧
    (open' → bit v 0 = true → exists' = true → set.reached er (set.schedTarget j) = true →
      wrote 0 ((if (set.schedTarget j).lt (set.pos er) then set.wr F.SLATE_GPO_SCHED_STATUS_LATE 0 1 else set).schedApply j)) ∧
    (open' → wrote 1 (s.wr F.SLATE_GPO_SCHED_FRAME_LO j v)) ∧
    (open' → wrote 2 (s.wr F.SLATE_GPO_SCHED_FRAME_HI j v)) ∧
    (open' → wrote 3 ((s.wr F.SLATE_GPO_SCHED_LINE j v).wr F.SLATE_GPO_SCHED_SAMPLE j (v / 65536))) ∧
    (open' → wrote 4 (s.wr F.SLATE_GPO_SCHED_MASK j v)) ∧
    (open' → wrote 5 (s.wr F.SLATE_GPO_SCHED_VALUE j v)) ∧
    (s.schedDue j = true → (∀ m, m < j.val → s.schedDue m = false) → exec (.gpoSchedApply j) s = .next (s.schedApply j)) ∧
    ((s.schedDue j = false ∨ ∃ m, m < j.val ∧ s.schedDue m = true) → exec (.gpoSchedApply j) s = .next s)) ∧
  (∀ (k : Fin 32) (s : State), s.on F.SLATE_CMP_CTRL_ARM k = true → s.enabled (s.rd F.SLATE_CMP_CTRL_RASTER k) = true →
    s.reached (s.rd F.SLATE_CMP_CTRL_RASTER k) (s.cmpTarget k) = true →
    ∃ t, exec (.comparatorFire k) s = .next t ∧ t.rd F.SLATE_CMP_STATUS_FIRED k = 1 ∧
      t.rd F.SLATE_CMP_STATUS_FIRE_COUNT k = (s.rd F.SLATE_CMP_STATUS_FIRE_COUNT k + 1) % 2 ^ F.SLATE_CMP_STATUS_FIRE_COUNT.w ∧
      (s.on F.SLATE_CMP_CTRL_PERIODIC k = false → t.on F.SLATE_CMP_CTRL_ARM k = false) ∧
      (s.on F.SLATE_CMP_CTRL_PERIODIC k = true → t.on F.SLATE_CMP_CTRL_ARM k = true) ∧
      (s.on F.SLATE_CMP_CTRL_PERIODIC k = true → s.on F.SLATE_CMP_CTRL_STYLE k = false →
        t.rd64 F.SLATE_CMP_TGT_FRAME_LO F.SLATE_CMP_TGT_FRAME_HI k =
          (s.rd64 F.SLATE_CMP_TGT_FRAME_LO F.SLATE_CMP_TGT_FRAME_HI k + s.rd F.SLATE_CMP_TGT_PERIOD k) % 2 ^ 64) ∧
      (s.on F.SLATE_CMP_CTRL_PERIODIC k = true → s.on F.SLATE_CMP_CTRL_STYLE k = true →
        t.rd F.SLATE_CMP_TGT_FRAME_LO k = (s.rd F.SLATE_CMP_TGT_FRAME_LO k + s.rd F.SLATE_CMP_TGT_PERIOD k) % 2 ^ 32 ∧
        t.rd F.SLATE_CMP_TGT_FRAME_HI k = s.rd F.SLATE_CMP_TGT_FRAME_HI k) ∧
      (∀ m, m < 32 → m ≠ k.val → t.rd F.SLATE_CMP_STATUS_FIRED m = s.rd F.SLATE_CMP_STATUS_FIRED m) ∧ SameMem s t)

/-- General-purpose inputs: a level change is stamped and its filter starts, once the filters have sampled their inputs; an edge is accepted
after FILT microseconds, its level taken and, where EDGE enables it, a record queued, the engines of ENG_MASK told and with IRQ the
interrupt raised; GPI_POP with bit 0 removes the head (R49, R50). GPO_LEVEL, GPO_SET and GPO_CLR write, set and clear the outputs their
word names; schedule entries that the same clock has applied stand above them; every other output and register, and all else but what
this clock has done to the outputs, stands (R52, R53). Where the spec leaves a point open it rests on the model's choices of log 8, 132. -/
def Obligations.GpiAndGpoCommands : Prop :=
  (∀ (i : Fin 32) (level : Bool) (w : Word) (s : State),
    let g := s.gpi i
    let l := s.rd F.SLATE_GPI_LEVEL_LEVEL 0
    let a := (s.setGpi i { g with waiting := false }).wr F.SLATE_GPI_LEVEL_LEVEL 0 (withBit l i g.raw)
    let q := (a.gpiQueue i).engMask (s.rd F.SLATE_GPI_CFG_ENG_MASK i) 5
    let due := g.waiting = true ∧ g.since + s.rd F.SLATE_GPI_CFG_FILT i * 1250 ≤ s.clk
    (level ≠ g.raw → exec (.gpiLevelChange i level) s = .next (s.setGpi i { g with
      raw := level, since := s.clk, stamp := s.ptp, at8 := (List.range 8).map s.pos,
      waiting := s.gpiOn && decide (level ≠ bit l i) })) ∧
    (level = g.raw → exec (.gpiLevelChange i level) s = .next s) ∧
    (due → s.gpiEdgeOn i = false → exec (.gpiEdgeAccept i) s = .next a) ∧
    (due → s.gpiEdgeOn i = true → s.on F.SLATE_GPI_CFG_IRQ i = false → exec (.gpiEdgeAccept i) s = .next q) ∧
    (due → s.gpiEdgeOn i = true → s.on F.SLATE_GPI_CFG_IRQ i = true → exec (.gpiEdgeAccept i) s = .next (q.raise Irq.gpi)) ∧
    (¬ due → exec (.gpiEdgeAccept i) s = .next s) ∧
    (bit w.toNat 0 = true → Writes (.gpiPop w) 0x1098C w s (s.setGpiq s.gpiq.tail)) ∧
    (bit w.toNat 0 = false → Writes (.gpiPop w) 0x1098C w s s)) ∧
  (∀ (w : Word) (s : State),
    let c := s.gpoNow
    let t := fun (op : Nat → Nat) => s.gpoDrive { c with base := op c.base }
    let first := ∀ p, s.gpoClock = some p → p.at' ≠ s.clk
    let does := fun (i : Instr) (off : Nat) (op : Nat → Nat) => Writes i off w s (t op) ∧
      (t op).rd F.SLATE_GPO_LEVEL_LEVEL 0 = ({ c with base := op c.base } : GpoClock).level % 2 ^ 32 ∧
      (first → (t op).rd F.SLATE_GPO_LEVEL_LEVEL 0 = op (s.rd F.SLATE_GPO_LEVEL_LEVEL 0)) ∧
      (∀ k d, k ≠ F.SLATE_GPO_LEVEL_LEVEL.key 0 → tget (t op).regs k d = tget s.regs k d) ∧
      { t op with regs := s.regs, gpoClock := s.gpoClock } = s
    does (.gpoLevelWrite w) 0x10A00 (fun _ => w.toNat) ∧ does (.gpoSet w) 0x10A04 (fun b => Nat.lor b w.toNat) ∧
      does (.gpoClr w) 0x10A08 (fun b => Nat.land b (Nat.xor w.toNat (2 ^ 32 - 1))))

/-! ### Reference and clocks (chapter 3) -/

/-- Candidates. REFIN_TIMING_POINT: outside CALIBRATE's working stage and later modes nothing; the first edge shows the candidate; a check
interval off by more than 0.1 % is a glitch, 16 in a row off by more than 0.5 % a rate change too; any other records the phase error.
REFIN_STOP after two check intervals without an edge; CAND_SOURCE_LOST where the source no longer stands; CAND_QUALIFIED after QUAL
seconds; DRIFT_UPDATE of all eight; DRIFTING ends after QUAL seconds below 40 % of TOL, and at or above 100 % for QUAL seconds a
candidate that qualifies, is QUALIFIED or DRIFTS is disqualified. Where its time has not come, a command changes nothing (R57, R61-R64).
PTP_VALID: a write of 1 shows candidate 4, a write of 0 or two seconds without a write of 1 make it absent. LOCOSC is written in
CALIBRATE alone, else refused with CFG_REFUSED; so are TYPE, RATE and SRC of the selected candidate. Of another candidate word 0 is
taken: EN set makes it ABSENT, or QUALIFYING where its source shows timing points, EN cleared OFF; the other words are taken as written.
Each write of a candidate selects again (R59, R61, R65, R81). Where the spec leaves a point open it rests on the model's choices of log
9, 15, 67. -/
def Obligations.ReferenceCommands : Prop :=
  (∀ (c : Fin 8) (r : Fin 4) (offs : List Nat) (s : State),
    let x := s.cand r
    let p := s.checkInterval r
    let len := (s.clk - x.lastEdge) * 262144
    let e := s.setCand r { x with lastEdge := s.clk, seen := true, present := true }
    let rate := offBy len p 10 = true ∧ 15 ≤ x.rateRun
    let run := fun k => e.setCand r { e.cand r with rateRun := k }
    let delay := if s.rd F.REFSEL_CAND_TYPE r = 0 ∨ s.rd F.REFSEL_CAND_TYPE r = 2
      then sx 32 (s.rd F.REFSEL_CAND_DELAY r) * nsUnits else 0
    let stops := x.seen = true ∧ 2 * p.1 ≤ (s.clk - x.lastEdge) * 262144 * p.2
    let lost := (s.cand c).present = true ∧ s.srcStands c = false
    let q := s.wr F.REFSEL_CAND_STATE c Cs.qualified
    let qual := s.cst c = Cs.qualifying ∧ (s.cand c).since + s.rd F.REFSEL_CAND_QUAL c * sClk ≤ s.clk
    let passed := fun (o : Option Nat) => ∃ t, o = some t ∧ t + s.rd F.REFSEL_CAND_QUAL c * sClk ≤ s.clk
    let cleared := s.cst c = Cs.drifting ∧ passed (s.cand c).under
    let disq := Cs.qualifying ≤ s.cst c ∧ s.cst c ≤ Cs.drifting ∧ passed (s.cand c).excess
    (s.refWatches = false → exec (.refinTimingPoint r) s = .next s) ∧
    (s.refWatches = true → x.seen = false → exec (.refinTimingPoint r) s = .next (e.candPresent r)) ∧
    (s.refWatches = true → x.seen = true → rate → exec (.refinTimingPoint r) s = .next ((e.refinGlitch r).refinResync r)) ∧
    (s.refWatches = true → x.seen = true → ¬ rate → offBy len p 2 = true → exec (.refinTimingPoint r) s =
      .next ((run (if offBy len p 10 then x.rateRun + 1 else 0)).refinGlitch r)) ∧
    (s.refWatches = true → x.seen = true → ¬ rate → offBy len p 2 = false → exec (.refinTimingPoint r) s =
      .next (((run 0).setPhase r (s.pointPhase r ((s.house : Int) - delay))).candPresent r)) ∧
    (stops → exec (.refinStop r) s = .next
      ((((s.addSat F.REFSEL_CAND_STOP_CNT r 1).event F.REFSEL_EVENT_STOPPED 0 Irq.refsel).faultEvent Src.refsel true).candAbsent r)) ∧
    (¬ stops → exec (.refinStop r) s = .next s) ∧
    (lost → exec (.candSourceLost c) s = .next (s.candAbsent c)) ∧
    (¬ lost → exec (.candSourceLost c) s = .next s) ∧
    (qual → exec (.candQualified c) s = .next (q.wr F.REFSEL_CAND_QUAL_LEFT c 0).reselect) ∧
    (¬ qual → exec (.candQualified c) s = .next s) ∧
    exec (.driftUpdate offs) s = .next (forEach (List.range 8) (fun c s => s.driftOne offs c) s).reselect ∧
    (cleared → exec (.candDriftCleared c) s = .next q.reselect) ∧
    (¬ cleared → exec (.candDriftCleared c) s = .next s) ∧
    (disq → exec (.candDisqualified c) s = .next
      (((s.wr F.REFSEL_CAND_STATE c Cs.disqualified).event F.REFSEL_EVENT_DISQUAL 0 Irq.refsel).reselect)) ∧
    (¬ disq → exec (.candDisqualified c) s = .next s)) ∧
  (∀ (c : Fin 8) (k : Fin 4) (w : Word) (s : State),
    let v := w.toNat
    let off := 0x20100 + 0x20 * c.val + 4 * k.val
    let refused := s.event F.REFSEL_EVENT_CFG_REFUSED 0 Irq.refsel
    let expires := s.on F.REFSEL_PTP_VALID_PTP_VALID 0 = true ∧ s.ref.ptpWrite + 2 * sClk ≤ s.clk
    let src := k.val = 3 ∧ s.sel = some c.val ∧ s.rd F.REFSEL_CAND_SRC c ≠ bits v 0 13
    let basis := s.sel = some c.val ∧
      ((s.rd F.REFSEL_CAND_TYPE c ≠ bits v 5 3 ∧ F.REFSEL_CAND_TYPE.legal (bits v 5 3) = true) ∨
        (s.rd F.REFSEL_CAND_RATE c ≠ bits v 8 4 ∧ F.REFSEL_CAND_RATE.legal (bits v 8 4) = true))
    let was := s.on F.REFSEL_CAND_EN c
    let zero := fun t => k.val = 0 → ¬ basis → Writes (.refselCandWrite c k w) off w s (State.reselect t)
    let a := (s.writeWord off v).wr F.REFSEL_CAND_STATE c Cs.absent
    (bit v 0 = true → Writes (.ptpValidWrite w) 0x20064 w s
      ({ s.wr F.REFSEL_PTP_VALID_PTP_VALID 0 1 with ref := { s.ref with ptpWrite := s.clk } }.candPresent 4)) ∧
    (bit v 0 = false → Writes (.ptpValidWrite w) 0x20064 w s ((s.wr F.REFSEL_PTP_VALID_PTP_VALID 0 0).candAbsent 4)) ∧
    (expires → exec .ptpValidExpire s = .next ((s.wr F.REFSEL_PTP_VALID_PTP_VALID 0 0).candAbsent 4)) ∧
    (¬ expires → exec .ptpValidExpire s = .next s) ∧
    (s.mode = Mode.calibrate → Writes (.refselLocoscWrite w) 0x20060 w s (s.writeWord 0x20060 v)) ∧
    (s.mode ≠ Mode.calibrate → Writes (.refselLocoscWrite w) 0x20060 w s refused) ∧
    (k.val ≠ 0 → ¬ src → Writes (.refselCandWrite c k w) off w s (s.writeWord off v).reselect) ∧
    (src → Writes (.refselCandWrite c k w) off w s refused.reselect) ∧
    (k.val = 0 → basis → Writes (.refselCandWrite c k w) off w s refused.reselect) ∧
    (bit v 0 = was → zero (s.writeWord off v)) ∧
    (bit v 0 = true → was = false → ((s.cand c).present && a.srcStands c) = true → zero (a.qualify c)) ∧
    (bit v 0 = true → was = false → ((s.cand c).present && a.srcStands c) = false → zero a) ∧
    (bit v 0 = false → was = true → zero
      (((s.writeWord off v).wr F.REFSEL_CAND_STATE c Cs.off).wr F.REFSEL_CAND_QUAL_LEFT c 0)))

/-- The loop: the stage advances when the phase error has stayed below its THRESH for its DWELL, and the first arrival at the final stage
establishes the house and locks the rasters; PULL_NOW slews BUILDOUT away; a slew that has ended leaves BUILDOUT 0; each second the mean
control value is recorded, usable where the condition was LOCKED throughout; holdover past LIMIT is LOST; so is a failed LOCOSC, on
which an ACTIVE device gives up. Where its time has not come, a command changes nothing (R68, R70, R71, R73, R74, R76, R80, R409). A
failed local oscillator makes the condition LOST: COND reads 7, REFGOOD 0, the five-state view LOST, and the rasters that have locked
are no longer LOCKED (R69, R73, R74). Synthesisers and reference outputs: gates and eight in a row within 2 ppm declare lock; two in a
row off by more than 20 ppm or a fast gate off by more than 0.2 % are its loss, and the second loss retires; other gates are only
counted; of a retired synthesiser the first command, of an unlocked one the second changes nothing. SEED_LOAD restarts the dither
sequence; a REFOUT change is taken in the register and applied at the end of a whole period from CALIBRATE on (R82, R85-R89). Where the
spec leaves a point open it rests on the model's choices of log 14, 15, 16, 17, 18, 68. -/
def Obligations.LoopAndSynthesiserCommands : Prop :=
  (∀ (t : Nat) (w : Word) (s : State),
    let j := s.judgeStage
    let st := j.rd F.REFSEL_COND_STAGE 0
    let nx := j.nextStage st
    let a := ((j.wr F.REFSEL_COND_STAGE 0 nx).setRef fun r => { r with below := none }).judgeStage
    let due := j.sel ≠ none ∧ j.ref.below = some t ∧ st < 3 ∧ t + j.rd F.REFSEL_NARROW_DWELL st * sClk ≤ s.clk
    let first := nx = 3 ∧ j.on F.REFSEL_COND_ESTABLISHED 0 = false
    let b := s.writeWord 0x20000 (Nat.lor w.toNat 65536)
    let second := s.ref.sumAt + sClk ≤ s.clk
    let whole := match s.ref.lockedSince with | some t => decide (t ≤ s.ref.sumAt) | none => false
    let h := (s.setRef fun r => { r with hist := (⟨s.clk, whole, s.ctlMean⟩ :: r.hist).take 4096 }).ctlMove
      s.ref.slew s.ctlBase s.ref.ctlTo s.ref.ctlRate
    let lim := s.rd F.REFSEL_HO_LIM_LIMIT 0
    let limit := s.refCond = 6 ∧ lim ≠ 0 ∧ s.ref.hoAt + lim * 3600 * sClk < s.clk
    let lost := { s with ref := { s.ref with locoscFailed := true } }.refShow.faultEvent Src.synth false
    (due → ¬ first → exec .loopStageAdvance s = .next a.refShow) ∧
    (due → first → exec .loopStageAdvance s =
      .next (forEach (List.range 8) (fun n s => s.lockRaster n) ((a.wr F.REFSEL_COND_ESTABLISHED 0 1).refShow))) ∧
    ((∀ u, ¬ (j.sel ≠ none ∧ j.ref.below = some u ∧ st < 3 ∧ u + j.rd F.REFSEL_NARROW_DWELL st * sClk ≤ s.clk)) →
      exec .loopStageAdvance s = .next j) ∧
    (s.buildout ≠ 0 → Sets (.pullNow w) 0x20000 w 65536 s (b.slewTo (s.buildout * 5) b.ctlBase true).reselect) ∧
    (s.buildout = 0 → Sets (.pullNow w) 0x20000 w 65536 s b.reselect) ∧
    (s.ref.slew.isSome = true → s.slewOver = true → exec .slewComplete s =
      .next ((s.setBuildout 0).ctlMove none s.ctlBase s.ref.ctlTo s.ref.ctlRate).refShow) ∧
    ((s.ref.slew.isSome && s.slewOver) = false → exec .slewComplete s = .next s) ∧
    (second → exec (.historySample ()) s = .next (h.setRef fun r => { r with ctlSum := -h.slewSum, sumAt := s.clk }).histShow) ∧
    (¬ second → exec (.historySample ()) s = .next s) ∧
    (limit → exec .holdoverLimitExpire s = .next { s with ref := { s.ref with limitOut := true } }.refShow) ∧
    (¬ limit → exec .holdoverLimitExpire s = .next s) ∧
    (lost.mode ≠ Mode.active → exec .locoscFail s = .next lost) ∧
    (lost.mode = Mode.active → exec .locoscFail s = .next (lost.giveUpTo 0xFE Mode.standby))) ∧
  (∀ s : State, let t := { s with ref := { s.ref with locoscFailed := true } }.refShow
    t.rd F.REFSEL_COND_COND 0 = 7 ∧ t.rd F.REFSEL_COND_REFGOOD 0 = 0 ∧ t.rd F.REFSEL_COMPAT_STATE 0 = 4 ∧
      (∀ n, n < 8 → s.on F.SLATE_RASTER_STATUS_EVER_LOCKED n = true → t.on F.SLATE_RASTER_STATUS_LOCKED n = false) ∧ SameMem s t) ∧
  (∀ (y : Fin 16) (i : Fin 4) (k : Fin 3) (gates : List Nat) (fast w : Word) (s : State),
    let g := forEach gates (fun e s => s.synGate y (sx 32 e)) s
    let z := g.setSyn y { g.syn y with near := 0, far := 0 }
    let retired := s.on F.SYNTH_STATUS_RETIRED y = true
    let off' := 2 ≤ (g.syn y).far ∨ 200000 < (sx 32 fast.toNat).natAbs
    let a := (z.wr F.SYNTH_STATUS_LOCKED y 0).synMove y
    let n := z.rd F.SYNTH_STATUS_FAIL_CNT y
    let off := 0x30800 + 0x10 * i.val + 4 * k.val
    let b := s.writeWord (0x30000 + 0x20 * y.val) (Nat.lor w.toNat 2)
    let made : Refout :=
      { cfg := s.readWord (0x30800 + 0x10 * i.val), freq := s.rd F.REFOUT_CFG_FREQ i, phase := s.rd F.REFOUT_CFG_PHASE i }
    let due := (s.refout i).waiting = true ∧ Mode.calibrate ≤ s.mode ∧ s.refoutDue i = true
    (retired → exec (.synthLock (y, gates)) s = .next s) ∧
    (¬ retired → (s.on F.SYNTH_STATUS_LOCKED y = true ∨ (g.syn y).near < 8) → exec (.synthLock (y, gates)) s = .next g) ∧
    (¬ retired → s.on F.SYNTH_STATUS_LOCKED y = false → 8 ≤ (g.syn y).near → exec (.synthLock (y, gates)) s =
      .next (g.synLock y).clocksDone) ∧
    (s.on F.SYNTH_STATUS_LOCKED y = false → exec (.synthLockLoss (y, gates, fast)) s = .next s) ∧
    (s.on F.SYNTH_STATUS_LOCKED y = true → ¬ off' → exec (.synthLockLoss (y, gates, fast)) s = .next g) ∧
    (s.on F.SYNTH_STATUS_LOCKED y = true → off' → n = 0 → exec (.synthLockLoss (y, gates, fast)) s =
      .next (((a.wr F.SYNTH_STATUS_FAIL_CNT y 1).synShow).faultEvent Src.synth false)) ∧
    (s.on F.SYNTH_STATUS_LOCKED y = true → off' → 1 ≤ n → exec (.synthLockLoss (y, gates, fast)) s =
      .next ((((a.wr F.SYNTH_STATUS_FAIL_CNT y 2).wr F.SYNTH_STATUS_RETIRED y 1).synShow).faultEvent Src.synth false)) ∧
    Sets (.ditherSeedLoad y w) (0x30000 + 0x20 * y.val) w 2 s
      (b.setSyn y { (b.syn y) with dither := b.rd F.SYNTH_CTRL_DITHER_SEED y }) ∧
    Writes (.refoutCfgWrite i k w) off w s ((s.writeWord off w.toNat).refoutWait i) ∧
    (due → exec (.refoutChangeApply i) s = .next ((s.setRefout i made).wr F.REFOUT_CFG_RUNNING i (b2n (s.refoutRuns i)))) ∧
    (¬ due → exec (.refoutChangeApply i) s = .next s))

/-! ### Ports, strands and crosspoint (chapters 4, 5) -/

/-- Port configuration: RASTER, PID_REQ and CRC_POL are taken; a class the port may take clears it, one it may not sets CFG_REFUSED, a
reserved one keeps the field; the offset, the windows, the port's readers and its own destinations are judged again. A line of a strand
that its port's class has is judged, the embedded audio of strand 0 with it, and no other; a port two frames inside its window re-enters
on a switch line, and at no other time (R99, R100, R107, R113, R292, R534, R535). A destination in service: at a line where a loss
condition holds and SUBST does not, its whole group turns to its loss policy; the group returns on a switch line when the condition has
ended or its route was held; in line mode a strand whose wait lies outside half a line to three and a half steps K by one, with SLIP,
for every destination of its source on its raster, and counts it. At any other time a command changes nothing (R118, R134, R135, R139,
R535). Where the spec leaves a point open it rests on the model's choices of log 101, 106, 133, 134, 135, 136. -/
def Obligations.PortAndDestinationCommands : Prop :=
  (∀ (p : Fin 1152) (r : Fin 8) (d : Fin 4608) (j : StrandLine) (w : Word) (s : State),
    let v := w.toNat
    let off := 0x56000 + 0x20 * p.val
    let cls := bits v 0 4
    let a := ((s.wr F.ALIGN_PORT_CFG_RASTER p (bits v 4 3)).wr F.ALIGN_PORT_CFG_PID_REQ p (bits v 8 1)).wr
      F.ALIGN_PORT_CFG_CRC_POL p (bits v 9 1)
    let judged := fun (t : State) => forEach ((t.routes.filter fun e => decide (e.1 < 4608) && t.slotPort e.1 = p.val).map (·.1))
      (fun d s => s.showDest d) (((t.showOfs p).oowUpdate p).showReaders p)
    let q := s.slotPort d
    let k := d.val - 4 * q
    let has := s.portClass q ≠ 0 ∧ k < s.portWidth q
    let n := s.winNow p r
    let re := s.on F.ALIGN_PORT_STATUS_FMT_VALID p = true ∧ n.inside = false ∧ 2 ≤ n.run ∧ s.atSwitch r = true
    (7 < cls → Writes (.alignPortCfgWrite p w) off w s (judged a)) ∧
    (cls ≤ 7 → s.classRefused p cls = true → Writes (.alignPortCfgWrite p w) off w s
      (judged (a.wr F.ALIGN_PORT_STATUS_CFG_REFUSED p 1))) ∧
    (cls ≤ 7 → s.classRefused p cls = false → cls = s.portClass p → Writes (.alignPortCfgWrite p w) off w s (judged a)) ∧
    (cls ≤ 7 → s.classRefused p cls = false → cls ≠ s.portClass p → Writes (.alignPortCfgWrite p w) off w s
      (judged ((a.portClear p).wr F.ALIGN_PORT_CFG_CLASS p cls))) ∧
    (¬ has → exec (.strandLineJudge d j) s = .next s) ∧
    (has → k ≠ 0 → exec (.strandLineJudge d j) s = .next (s.judgeLine q k d j)) ∧
    (has → k = 0 → exec (.strandLineJudge d j) s = .next ((s.judgeLine q 0 d j).deembStrand q d j)) ∧
    (re → exec (.windowReenter p r) s = .next (((s.setWin p r { n with inside := true }).oowUpdate p).showReaders p)) ∧
    (¬ re → exec (.windowReenter p r) s = .next s)) ∧
  (∀ (d : Fin 6336) (s : State),
    let g := s.groupOf d
    let r := (s.dstRaster d).getD 0
    let x := groupSrc d (s.xa d)
    let k := sx 12 (s.rd F.XPT_DEST_STATUS_K d)
    let step := (((s.lineOffsets x r).map (s.slipOf r k)).find? fun i => decide (i ≠ 0)).getD 0
    let same := (s.routes.filter fun e => decide (e.1 < 6336) && groupSrc e.1 e.2 = x && s.dstRaster e.1 = some r
      && s.on F.XPT_DEST_STATUS_UNCLEAN e.1).map (·.1)
    let turns := (s.judge d).subst = true ∧ s.on F.XPT_DEST_STATUS_SUBST d = false ∧ s.held d = false ∧ s.lineStart d = true
    let ended := (s.on F.XPT_DEST_STATUS_SUBST d = true ∧ (s.judge d).subst = false) ∨ tget s.destHold d false = true
    let here := (∃ r, s.dstRaster d = some r ∧ s.atSwitch r = true) ∨ (s.dstRaster d = none ∧ isRec d = true)
    let slips := s.on F.XPT_DEST_STATUS_UNCLEAN d = true ∧ (s.xa d).routed = true ∧ s.lineStart d = true ∧ step ≠ 0
    (turns → exec (.lossPolicyApply d) s = .next (forEach g (fun m s =>
      if 6336 ≤ m then s
      else (((s.wr F.XPT_DEST_STATUS_SUBST m 1).wr F.XPT_DEST_STATUS_LIVE m 0).wr F.XPT_DEST_STATUS_UNCLEAN m 0).probeSubst m) s)) ∧
    (¬ turns → exec (.lossPolicyApply d) s = .next s) ∧
    (ended → here → exec (.lossPolicyReturn d) s = .next (forEach g (fun m s => s.settleDest m) s)) ∧
    (¬ (ended ∧ here) → exec (.lossPolicyReturn d) s = .next s) ∧
    (slips → exec (.lineModeSlip d) s = .next ((forEach same (fun m s =>
      (s.wr F.XPT_DEST_STATUS_K m (wrapInt 12 (k + step))).incSat F.XPT_DEST_STATUS_SLIP_CNT m) s).event F.XPT_EVENT_SLIP 0 Irq.xpt)) ∧
    (¬ slips → exec (.lineModeSlip d) s = .next s))

/-- Commits and locks from the host: GO accepts the host's commit or refuses it with its code and destination, DISCARD drops what the host
has staged, after a GO of the same word; a lock request locks or unlocks its group or raises LOCK_REFUSED. A commit's effect on a
raster, where its time has come: the captured entries become active, a commit of the host shows the raster in APPLIED, and the effect of
a raster that was disabled discards them; where none has come, nothing changes (R124, R126, R128-R133). Where the spec leaves a point
open it rests on the model's choices of log 13, 35, 91. -/
def Obligations.CrosspointCommands : Prop :=
  ∀ (r : Fin 8) (w : Word) (s : State),
    let v := w.toNat
    let c := fun x => (s.wr F.XPT_COMMIT_CTRL_RASTER 0 (bits x 4 3)).wr F.XPT_COMMIT_CTRL_STYLE 0 (bits x 7 1)
    let go := Nat.lor v 1
    let q := (c go).rd F.XPT_COMMIT_CTRL_RASTER 0
    let tgt := (c go).hostTarget
    let code := (c go).commitCode 7 q tgt.line
    let acc := (c go).acceptXpt 7 q tgt
    let after := fun (t : State) => if bit v 1 then t.unstageXpt 7 else t
    let dis := Nat.lor v 2
    let lk := Nat.lor v 0x80000000
    let l := ((s.wr F.XPT_LOCK_DEST 0 (bits lk 0 13)).wr F.XPT_LOCK_WIDTH 0 (bits lk 16 2)).wr F.XPT_LOCK_LOCK 0 (bits lk 18 1)
    let lcode := l.lockCode (bits lk 0 13) (widthOf (bits lk 16 2)) (bit lk 18)
    let shown := fun (k : XCommit) (t : State) => if k.master = 7 ∧ t.rd F.XPT_COMMIT_STATUS_COMMIT_ID 0 = k.cid then
      t.wr F.XPT_COMMIT_STATUS_APPLIED 0 (withBit (t.rd F.XPT_COMMIT_STATUS_APPLIED 0) r true) else t
    (code.1 = 0 → Sets (.xptCommitGo w) 0x40010 w 1 s
      (after (acc.1.hostCommitAccepted acc.2 ((c go).commitEffects q tgt ((c go).captured 7))))) ∧
    (code.1 ≠ 0 → Sets (.xptCommitGo w) 0x40010 w 1 s (after ((c go).hostCommitRefused code.1 code.2))) ∧
    (bit v 0 = false → Sets (.xptCommitDiscard w) 0x40010 w 2 s ((c dis).unstageXpt 7)) ∧
    (bit v 0 = true → Sets (.xptCommitDiscard w) 0x40010 w 2 s ((c dis).hostXptCommit.unstageXpt 7)) ∧
    (lcode = 0 → Sets (.xptLockRequest w) 0x40030 w 0x80000000 s
      (l.lockGroup (bits lk 0 13) (widthOf (bits lk 16 2)) (bit lk 18))) ∧
    (lcode ≠ 0 → Sets (.xptLockRequest w) 0x40030 w 0x80000000 s (l.event F.XPT_EVENT_LOCK_REFUSED 0 Irq.xpt)) ∧
    (∀ k f, s.nextEffect r = some (k, f) → s.effectLost f = false →
      exec (.commitTakeEffect r) s = .next ((shown k (s.applyOn k r)).finishXpt k.cid)) ∧
    (∀ k f, s.nextEffect r = some (k, f) → s.effectLost f = true → exec (.commitTakeEffect r) s = .next ((s.discardOn k r).finishXpt k.cid)) ∧
    (s.nextEffect r = none → exec (.commitTakeEffect r) s = .next s)

/-- The shadow table from the host: a word stages its destination's entry, or is refused with STAGE_REFUSED where that is locked, held by
another master or pending; the upper word of an entry is discarded. Staging changes that entry alone: the active table, every other
entry, the commits in flight and every register stand; the entry counts as staged where it differs from the active one (R122, R125,
R133). An accepted commit leaves the active table as it is: the captured entries are PENDING with the new COMMIT_ID and every other
shadow entry stands; the commit joins the queue (R128). Locking a destination group sets LOCKED of its members alone; no route and no
staged entry changes (R133). Where the spec leaves a point open it rests on the model's choices of log 13, 35, 149, 150. -/
def Obligations.CrosspointFrames : Prop :=
  (∀ (d : Fin 8192) (w : Word) (s : State),
    let so := 0x10000 + 8 * d.val
    let code := firstFail ((s.xlocked d, Rc.locked) :: s.heldFails d 1 7)
    let t := s.stageEnt 7 d (xOfLow w.toNat (s.xShown d))
    (code = 0 → WinWrites (.shadowXptWrite d false w) true so w s t) ∧
    (code ≠ 0 → WinWrites (.shadowXptWrite d false w) true so w s (s.event F.XPT_EVENT_STAGE_REFUSED 0 Irq.xpt)) ∧
    WinWrites (.shadowXptWrite d true w) true (so + 4) w s s ∧
    (t.xs d).ent = xOfLow w.toNat (s.xShown d) ∧ (t.xs d).stager = 7 ∧ ((t.xs d).staged = true ↔ (t.xs d).ent ≠ s.xa d) ∧
    (t.xs d).pending = false ∧ (∀ m, m ≠ d.val → t.xs m = s.xs m) ∧ { t with xShadow := s.xShadow } = s) ∧
  (∀ (m r : Nat) (t : Pos) (s : State),
    let a := s.acceptXpt m r t
    a.1.xActive = s.xActive ∧ a.2 = s.nextCid ∧ a.1.xCommits.length = s.xCommits.length + 1 ∧ a.1.xNext = s.xNext + 1 ∧
      (∀ d, d ∈ s.captured m → (a.1.xs d).pending = true ∧ (a.1.xs d).cid = a.2 ∧ (a.1.xs d).ent = (s.xs d).ent) ∧
      (∀ d, d ∉ s.captured m → a.1.xs d = s.xs d) ∧ a.1.regs = s.regs ∧ SameMem s a.1) ∧
  (∀ (d k : Nat) (b : Bool) (s : State), d % 2 ^ k = 0 → k < 4 →
    let t := s.lockGroup d (2 ^ k) b
    (∀ m, t.xlocked m = if d ≤ m ∧ m < d + 2 ^ k then b else s.xlocked m) ∧ t.xActive = s.xActive ∧ t.xShadow = s.xShadow ∧ SameMem s t)

/-- A probe publishes once its frame has ended: the CRC, the luma range and the number of the frame, BLACK and FREEZE by its thresholds,
with its interrupt where IRQ asks for it and one of the two rises; or NOSIG alone where the loss policy was in force during the frame. A
probe without a route, of a disabled raster, or whose frame has not ended publishes nothing (R139). A plane substitution: START with a
spare and its grant loads the spare, else PSUB_REFUSED; one frame later it compares; 64 frames later raster 0 moves on its switch line
and the others on theirs, each once; two frames after the last the old plane is retired and the grant returned; ABORT before the switch
abandons it, before a START of the same word. A line forwarded by a plane: its checksum error counts and is a fault event; while the
spare compares, a difference counts and the spare's error abandons the substitution, as an error after the switch does. A command whose
time has not come changes nothing (R122, R140). Where the spec leaves a point open it rests on the model's choices of log 102, 103, 150. -/
def Obligations.ProbeAndPlaneCommands : Prop :=
  (∀ (i : Fin 64) (s : State),
    let r := s.rd F.PROBE_CFG_RASTER i
    let d := 6272 + i.val
    let q := tget s.probeRun i {}
    let x := s.destStrand d
    let e := s.egress r
    let ended := q.frame < e.frame ∨ (q.frame = e.frame ∧ lastActive (signalStruct x.1 x.2.1) * strandStep x.1 < e.line)
    let due := (s.xa d).routed = true ∧ s.enabled r = true ∧ ended
    let nosig := q.subst = true ∨ s.on F.XPT_DEST_STATUS_SUBST d = true
    let crc := Nat.xor q.acc 0xFFFFFFFF
    let run := if q.crc = crc ∧ 0 < q.run then q.run + 1 else 1
    let black := s.rd F.PROBE_CFG_BLK_THR i ≠ 0 ∧ q.hi ≤ s.rd F.PROBE_CFG_BLK_THR i
    let freeze := s.rd F.PROBE_CFG_FRZ i ≠ 0 ∧ s.rd F.PROBE_CFG_FRZ i ≤ run
    let rise := (black ∧ s.on F.PROBE_RES_BLACK i = false) ∨ (freeze ∧ s.on F.PROBE_RES_FREEZE i = false)
    let a := (((s.wr F.PROBE_RES_CRC i crc).wr F.PROBE_RES_YMIN i q.lo).wr F.PROBE_RES_YMAX i q.hi).wr F.PROBE_RES_FRAME i q.frame
    let b := ((a.wr F.PROBE_RES_BLACK i (b2n (decide black))).wr F.PROBE_RES_FREEZE i (b2n (decide freeze))).wr F.PROBE_RES_NOSIG i 0
    let put := fun (t : State) (q : ProbeRun) => { t with probeRun := tput t.probeRun i { q with frame := e.frame + 1 } {} }
    let t := put b { q with crc := crc, run := run }
    (¬ due → exec (.probeFramePublish i () () ()) s = .next s) ∧
    (due → nosig → exec (.probeFramePublish i () () ()) s = .next (put (s.wr F.PROBE_RES_NOSIG i 1) { q with subst := false })) ∧
    (due → ¬ nosig → rise ∧ s.on F.PROBE_CFG_IRQ i = true → exec (.probeFramePublish i () () ()) s = .next (t.raise Irq.probe)) ∧
    (due → ¬ nosig → ¬ (rise ∧ s.on F.PROBE_CFG_IRQ i = true) → exec (.probeFramePublish i () () ()) s = .next t)) ∧
  (∀ (r : Fin 8) (d : Fin 8192) (bad spareBad differ : Bool) (sp : Nat) (w : Word) (s : State),
    let go := Nat.lor w.toNat 1
    let ab := Nat.lor w.toNat 2
    let c := fun v => (s.wr F.XPT_PSUB_CTRL_LOGICAL 0 (bits v 4 3)).wr F.XPT_PSUB_CTRL_GRANT 0 (bits v 16 16)
    let early := fun (t : State) => t.psubStep = 1 ∨ t.psubStep = 2
    let base := if bit w.toNat 1 ∧ early (c go) then (c go).psubAbandon 0 else c go
    let j := base.rd F.XPT_PSUB_CTRL_LOGICAL 0
    let grant := base.grantOk (base.rd F.XPT_PSUB_CTRL_GRANT 0) Gc.psub j
    let x := ((base.wr F.XPT_PSUB_JOURNAL_LOGICAL 0 j).wr F.XPT_PSUB_JOURNAL_OLD 0 (base.rd F.XPT_PLANE_MAP_PHYS j)).wr
      F.XPT_PSUB_JOURNAL_SPARE 0 sp
    let y := (((x.wr F.XPT_PSUB_JOURNAL_RASTERS_DONE 0 0).wr F.XPT_PSUB_JOURNAL_REASON 0 0).wr F.XPT_PSUB_JOURNAL_FRAMES_DONE 0 0).wr
      F.XPT_PSUB_JOURNAL_MISMATCH_CNT 0 0
    let abort := if early (c ab) then (c ab).psubAbandon 0 else c ab
    let f := (s.pos 0).frame
    let l := s.rd F.XPT_PSUB_JOURNAL_LOGICAL 0
    let z := (s.wr F.XPT_PLANE_STATUS_STATE (s.rd F.XPT_PSUB_JOURNAL_OLD 0) 4).wr F.XPT_PLANE_STATUS_STATE s.psubSpare 0
    let loaded := s.psubStep = 1 ∧ s.psubFrame < f
    let compared := s.psubStep = 2 ∧ s.psubFrame + 64 ≤ f ∧ s.atSwitch 0 = true
    let moves := s.psubStep = 3 ∧ s.atSwitch r = true ∧ bit (s.rd F.XPT_PSUB_JOURNAL_RASTERS_DONE 0) r = false
    let retires := s.psubStep = 4 ∧ s.psubFrame + 2 ≤ f
    let k := s.planeOf d
    let fwd := if d.val < 6336 then s.forwardLine d bad else s
    let one := if bad then (fwd.incSat F.XPT_PLANE_STATUS_ERR_CNT k).faultEvent (Src.xpt k) false else fwd
    let two := if differ then one.incSat F.XPT_PSUB_JOURNAL_MISMATCH_CNT 0 else one
    let mine := d.val % 8 = l
    let line := fun t => exec (.planeLineForward d bad spareBad differ) s = .next t
    (base.sparePlane = some sp → grant = true → Sets (.psubStart w) 0x40140 w 1 s ((y.wr F.XPT_PLANE_STATUS_STATE sp 2).psubTo 1)) ∧
    ((base.sparePlane = none ∨ grant = false) → Sets (.psubStart w) 0x40140 w 1 s (base.event F.XPT_EVENT_PSUB_REFUSED 0 Irq.xpt)) ∧
    (bit w.toNat 0 = false → Sets (.psubAbort w) 0x40140 w 2 s abort) ∧
    (bit w.toNat 0 = true → Sets (.psubAbort w) 0x40140 w 2 s abort.psubStart) ∧
    (loaded → exec .psubLoadDone s = .next ((s.wr F.XPT_PLANE_STATUS_STATE s.psubSpare 3).psubTo 2)) ∧
    (¬ loaded → exec .psubLoadDone s = .next s) ∧
    (compared → exec .psubCompareDone s = .next
      ((((s.wr F.XPT_PSUB_JOURNAL_FRAMES_DONE 0 64).psubTo 3).wr64 F.XPT_PSUB_JOURNAL_SW_FRAME_LO F.XPT_PSUB_JOURNAL_SW_FRAME_HI 0
        f).psubMove 0)) ∧
    (¬ compared → exec .psubCompareDone s = .next s) ∧
    (moves → exec (.psubRasterMove r) s = .next (s.psubMove r)) ∧
    (¬ moves → exec (.psubRasterMove r) s = .next s) ∧
    (retires → exec .psubSwitchedDone s = .next
      ((((z.wr F.XPT_PLANE_MAP_PHYS l s.psubSpare).wr F.WEAR_SPARES_PLANE 0 0).psubTo 5).returnGrant Gc.psub l)) ∧
    (¬ retires → exec .psubSwitchedDone s = .next s) ∧
    (mine → s.psubStep = 2 → spareBad = true → line
      (((two.incSat F.XPT_PLANE_STATUS_ERR_CNT s.psubSpare).faultEvent (Src.xpt s.psubSpare) false).psubAbandon 1)) ∧
    (mine → s.psubStep = 2 → spareBad = false → line two) ∧
    (mine → s.psubStep = 4 → bad = true → line (one.psubAbandon 1)) ∧
    (¬ (mine ∧ (s.psubStep = 2 ∨ (s.psubStep = 4 ∧ bad = true))) → line one))

/-! ### Cue engines (chapter 6) -/

/-- A write of CUE_CTRL takes MODE and STYLE while STOPPED, AUTH_REQ and RING_EN, then carries out its requests in bit order, each accepted
or refused with CTRL_REFUSED: START of an engine that is STOPPED, HALTED or FAULTED where engines run, of no spare number; STOP and
ENG_RESET of none that is SPARE or RETIRED; RESUME of one STOPPED or FAULTED; DISCARD_STAGED of one that is STOPPED, HALTED or FAULTED
(R143, R154, R156, R157). ENG_RESET leaves an engine STOPPED with g, k, RS, EVPEND, the return stack, the comparators and the cue window
cleared; its memories and every other engine stand (R156). The engine memory window: a word of data or shared memory is taken; program
memory takes it below the cue window while its engine is STOPPED, HALTED or FAULTED and refuses it with CTRL_REFUSED otherwise; a page
that the target does not have takes nothing (R147, R149). Where the spec leaves a point open it rests on the model's choices of log 12,
19, 105, 122. -/
def Obligations.EngineControl : Prop :=
  (∀ (n : Fin 5) (w : Word) (s : State),
    let off := 0x61000 + 0x100 * n.val
    let no := fun (t : State) => t.wr F.CUE_STATUS_CTRL_REFUSED n 1
    let gone := fun (t : State) => t.es n = Es.spare ∨ t.es n = Es.retired
    let start := fun (t : State) =>
      if t.engOff n = true ∧ t.enginesRun = true ∧ n.val ≠ t.spareNum then (t.engStart n).dispatch n else no t
    let stop := fun (t : State) => if gone t then no t else t.engStop n 0
    let resume := fun (t : State) =>
      let u := t.setEng n { t.eng n with wasIdle := false, runSince := t.clk }
      if ¬ ((t.es n = Es.stopped ∨ t.es n = Es.faulted) ∧ t.enginesRun = true ∧ n.val ≠ t.spareNum) then no t
      else
        match (t.eng n).wait with
        | .none => if (t.eng n).wasIdle = true ∧ t.es n = Es.stopped then u.enterIdle n else u.wr F.CUE_STATUS_STATE n Es.running
        | .commit _ _ _ => u.wr F.CUE_STATUS_STATE n Es.running
        | _ => u.wr F.CUE_STATUS_STATE n Es.waiting
    let reset := fun (t : State) => if gone t then no t else t.engReset n
    let discard := fun (t : State) => if t.engOff n = true then ((t.unstageXpt n).unclaimAll n).unstageAudio n else no t
    let req := fun (v i : Nat) (f : State → State) (t : State) => if bit v i then f t else t
    let all := fun (v : Nat) => req v 4 discard (req v 3 reset (req v 2 resume (req v 1 stop (req v 0 start (s.cueFields n v)))))
    Sets (.cueStart n w) off w 1 s (all (Nat.lor w.toNat 1)) ∧
    Sets (.cueStop n w) off w 2 s (all (Nat.lor w.toNat 2)) ∧
    Sets (.cueResume n w) off w 4 s (all (Nat.lor w.toNat 4)) ∧
    Sets (.engReset n w) off w 8 s (all (Nat.lor w.toNat 8)) ∧
    Sets (.discardStaged n w) off w 16 s (all (Nat.lor w.toNat 16))) ∧
  (∀ (n m j : Nat) (s : State), n < 5 → m < 5 → m ≠ n → j < 16 → s.es n ≠ Es.spare → s.es n ≠ Es.retired →
    let t := s.engReset n
    t.es n = Es.stopped ∧ t.g n j = 0 ∧ (j < 4 → t.k n j = ⟨0, ⟨0, 0, 0⟩, false⟩) ∧ t.rd F.CUE_STATUS_RS n = 0 ∧
      t.rd F.CUE_EVPEND_BITS n = 0 ∧ (t.eng n).stack = [] ∧ (t.eng n).cmps = [] ∧ (t.eng n).win = none ∧ SameMem s t ∧
      t.eng m = s.eng m ∧ t.g m j = s.g m j ∧ t.pc m = s.pc m ∧ t.es m = s.es m) ∧
  (∀ (i : Fin 16384) (w : Word) (b : Nat) (s : State),
    let n := s.rd F.CUE_WIN_SEL_ENGINE 0
    let off := 0x70000 + 4 * i.val
    let free := s.es n = Es.stopped ∨ s.es n = Es.halted ∨ s.es n = Es.faulted
    (s.cueWin = some (0, b) → free → (b + i.val) * 4 < winBase → Writes (.cueMemoryWindowWrite i w) off w s (s.pmemPut n (b + i) w.toNat)) ∧
    (s.cueWin = some (0, b) → (¬ free ∨ winBase ≤ (b + i.val) * 4) → Writes (.cueMemoryWindowWrite i w) off w s
      (s.wr F.CUE_STATUS_CTRL_REFUSED n 1)) ∧
    (s.cueWin = some (1, b) → Writes (.cueMemoryWindowWrite i w) off w s (s.dmemPut n (b + i) w.toNat)) ∧
    (s.cueWin = some (2, b) → Writes (.cueMemoryWindowWrite i w) off w s (s.smemPut (b + i) w.toNat)) ∧
    (s.cueWin = none → Writes (.cueMemoryWindowWrite i w) off w s s))

/-- Doorbells, records and the event ring. A tail past the ring's size, and any tail of the spare number, is refused with RING_ERR and its
event record. The fetcher reads where it may, and a read that it no longer may is dropped. A bad record, and one that authentication
refuses, is discarded with its event record while HEAD passes it; a good one is mirrored and enters the cue window, its counter kept
where it was authenticated. EVR_HEAD is written (R143, R150-R154, R164, R168). Where the spec leaves a point open it rests on the
model's choices of log 12. -/
def Obligations.RecordCommands : Prop :=
  ∀ (n : Fin 5) (ws : List Nat) (w : Word) (s : State),
    let off := 0x6102C + 0x100 * n.val
    let past := n.val = s.spareNum ∨ s.ringSlots n < (w.toNat + 2 ^ 32 - s.rd F.CUE_RING_HEAD_HEAD n) % 2 ^ 32
    let f := s.setEng n { s.eng n with fetching := false }
    let a := f.addWrap F.CUE_RING_HEAD_HEAD n 1
    let must := bit (ws.getD 0 0) 25 = true ∨ s.on F.CUE_CTRL_AUTH_REQ n = true
    let take := (s.eng n).fetching = true ∧ f.canFetch n = true
    let m := a.wr64 F.CUE_AUTH_CTR_LO F.CUE_AUTH_CTR_HI n (recCounter ws)
    let accept := fun (t : State) => exec (.cueRecordAccept n ws) s = .next ((t.mirror Mt.record (n.val :: pairWords ws)).loadWindow n ws)
    (¬ past → Writes (.ringDoorbell n w) off w s (s.wr F.CUE_RING_TAIL_TAIL n w.toNat)) ∧
    (past → Writes (.ringDoorbell n w) off w s ((s.wr F.CUE_RING_STAT_RING_ERR n 1).evRecord 0x08 n 0 0 w.toNat 0)) ∧
    (s.canFetch n = true → exec (.cueRecordFetch n) s = .next (s.setEng n { s.eng n with fetching := true })) ∧
    (s.canFetch n = false → exec (.cueRecordFetch n) s = .next s) ∧
    ((s.eng n).fetching = false → exec (.cueRecordAccept n ws) s = .next s) ∧
    ((s.eng n).fetching = true → f.canFetch n = false → exec (.cueRecordAccept n ws) s = .next f) ∧
    (take → recBad ws = true → exec (.cueRecordAccept n ws) s =
      .next ((a.wr F.CUE_RING_STAT_RECORD_ERR n 1).evRecord 0x05 n (recSeq ws) 0 0 0)) ∧
    (take → recBad ws = false → must → s.recAuth n ws = false → exec (.cueRecordAccept n ws) s =
      .next (((a.incSat F.CUE_AUTH_FAILS_COUNT n).wr F.CUE_RING_STAT_AUTH_FAIL n 1).evRecord 0x04 n (recSeq ws) 0 0 0)) ∧
    (take → recBad ws = false → must → s.recAuth n ws = true → accept m) ∧
    (take → recBad ws = false → ¬ must → accept a) ∧
    Writes (.evrHeadWrite w) 0x6001C w s (s.wr F.CUE_EVR_HEAD_HEAD 0 w.toNat)

/-- The ends of waits: the watchdog stops a RUNNING engine at its limit; a reached comparator ends a WAIT with RS OK, or, of one that keeps
no wait, disarms and sets CMPx where a WAIT with ARM armed it; a pending event ends WAITEV, its timeout ends it with TIMEOUT; a barrier
all of whose members arrived releases them, its timeout ends the wait; FENCE ends. Each end is mirrored; a standby that takes its waits
from its twin, and an engine in another wait or not yet there, does nothing (R155, R158-R161, R166-R168). Where the spec leaves a point
open it rests on the model's choices of log 47, 54. -/
def Obligations.WaitsEnd : Prop :=
  ∀ (n : Fin 5) (x : Fin 4) (s : State),
    let lim := s.rd F.CUE_WDOG_LIMIT n
    let barks := s.es n = Es.running ∧ lim ≠ 0 ∧ lim ≤ s.runClocks n
    let free := s.fromMirror = false
    let wt := (s.eng n).wait
    let here := fun (id k m : Nat) => ∃ t', s.barrier m = some (id, k, t')
    let fires := s.cmpReached n x = true ∧ keepsWait wt x = false
    let pos := fun t => wt = .pos t ∧ free ∧ s.cmpReached n t = true
    let event := fun mask dst tmo => wt = .event mask dst tmo ∧ free ∧ (s.takeEvents n mask).2 ≠ 0
    let late := fun mask dst t => wt = .event mask dst (some t) ∧ free ∧ s.cmpReached n t = true
    let all := fun id mask t => wt = .tsync id mask t ∧ free ∧ ∀ m, m ∈ bitList mask 5 → here id mask m
    let tlate := fun id mask t => wt = .tsync id mask t ∧ free ∧ s.cmpReached n t = true
    (barks → exec (.watchdogExpire n) s = .next (s.faultStop n Fc.watchdog 0)) ∧
    (¬ barks → exec (.watchdogExpire n) s = .next s) ∧
    (∀ t, pos t → exec (.waitMatch n) s = .next (s.wakeMirror n Rc.ok (some t))) ∧
    ((∀ t, ¬ pos t) → exec (.waitMatch n) s = .next s) ∧
    (fires → (s.cmp n x).purpose = 2 → exec (.cueComparatorFire n x) s = .next ((s.disarmCmp n x).engEvent n x)) ∧
    (fires → (s.cmp n x).purpose ≠ 2 → exec (.cueComparatorFire n x) s = .next (s.disarmCmp n x)) ∧
    (¬ fires → exec (.cueComparatorFire n x) s = .next s) ∧
    (∀ mask dst tmo, event mask dst tmo → exec (.waitevWake n) s = .next
      ((((s.takeEvents n mask).1.mirrorVal n Vk.waitev [(s.takeEvents n mask).2]).setDst n dst (s.takeEvents n mask).2).wake n Rc.ok tmo)) ∧
    ((∀ mask dst tmo, ¬ event mask dst tmo) → exec (.waitevWake n) s = .next s) ∧
    (∀ mask dst t, late mask dst t → exec (.waitevTimeout n) s =
      .next (((s.mirrorVal n Vk.waitEnd [Rc.timeout]).setDst n dst 0).wake n Rc.timeout (some t))) ∧
    ((∀ mask dst t, ¬ late mask dst t) → exec (.waitevTimeout n) s = .next s) ∧
    (∀ id mask t, all id mask t → exec (.tsyncRelease n) s =
      .next (forEach (bitList mask 5) (fun m s => s.wakeMirror m Rc.ok ((s.barrier m).map (·.2.2))) s)) ∧
    ((∀ id mask t, ¬ all id mask t) → exec (.tsyncRelease n) s = .next s) ∧
    (∀ id mask t, tlate id mask t → exec (.tsyncTimeout n) s = .next (s.wakeMirror n Rc.timeout (some t))) ∧
    ((∀ id mask t, ¬ tlate id mask t) → exec (.tsyncTimeout n) s = .next s) ∧
    (wt = .fence → free → exec (.fenceComplete n) s = .next ((s.mirrorVal n Vk.waitEnd [Rc.ok]).endWait n .none)) ∧
    (¬ (wt = .fence ∧ free) → exec (.fenceComplete n) s = .next s)

/-- Engine substitution. A write of CUE_SUBST_CTRL carries out ABORT, which ends a requested substitution before its move, then START, which
begins one or is refused with its code: a target that is the spare or no engine, one in progress, no spare. The copy ends in READY; the
move exchanges the two engines in CUE_PMAP once the target does not run; the self-test returns the released engine as the spare or
retires it; an automatic substitution restarts the number, or fails on a word that cannot be corrected. Out of its step a command
changes nothing (R172, R173). Where the spec leaves a point open it rests on the model's choices of log 123, 124. -/
def Obligations.EngineSubstitution : Prop :=
  ∀ (w : Word) (s : State),
    let go := Nat.lor w.toNat 1
    let ab := Nat.lor w.toNat 2
    let sel := fun (v : Nat) => s.wr F.CUE_SUBST_CTRL_TARGET 0 (bits v 4 3)
    let abort := fun (t : State) => if t.subst.step = 0 ∨ t.subst.auto = true then t
      else { t.wr F.CUE_SUBST_CTRL_STATE 0 5 with subst := { t.subst with step := 0 } }
    let start := fun (q : State) =>
      let t := q.rd F.CUE_SUBST_CTRL_TARGET 0
      let r := fun code => (q.wr F.CUE_SUBST_CTRL_AUTO 0 0).wr F.CUE_SUBST_CTRL_RESULT 0 code
      let refused := fun code => (r code).wr F.CUE_SUBST_CTRL_STATE 0 4
      if t = q.spareNum ∨ 4 < t then refused 3 else if q.subst.step ≠ 0 then refused 2 else if q.es q.spareNum ≠ Es.spare then refused 1
      else { (r 0).wr F.CUE_SUBST_CTRL_STATE 0 1 with subst := { q.subst with step := 1, target := t, auto := false } }
    let b := s.subst
    let c := (s.copyEng b.target s.spareNum).wr F.CUE_SUBST_CTRL_STATE 0 2
    let still := s.es b.target = Es.waiting ∨ s.es b.target = Es.idle ∨ s.es b.target = Es.stopped ∨ s.es b.target = Es.halted
    let d := { s with subst := { b with testing := none } }
    let bad := fun p => d.wr F.CUE_PMAP_RETIRED 0 (withBit (d.rd F.CUE_PMAP_RETIRED 0) p true)
    Sets (.engSubstStart w) 0x60008 w 1 s (start (if bit w.toNat 1 then abort (sel go) else sel go)) ∧
    Sets (.engSubstAbort w) 0x60008 w 2 s (if bit w.toNat 0 then start (abort (sel ab)) else abort (sel ab)) ∧
    (b.step = 1 → b.auto = false → exec .engSubstCopyDone s = .next { c with subst := { c.subst with step := 2 } }) ∧
    (¬ (b.step = 1 ∧ b.auto = false) → exec .engSubstCopyDone s = .next s) ∧
    (b.step = 2 → still → exec .engSubstSwap s =
      .next (((s.copyEng b.target s.spareNum).exchange b.target).substRecord b.target (s.winSeq b.target) 0 0)) ∧
    (¬ (b.step = 2 ∧ still) → exec .engSubstSwap s = .next s) ∧
    (∀ p, b.testing = some p → exec (.engSubstSelftestDone true) s = .next (d.wr F.CUE_STATUS_STATE d.spareNum Es.spare).spareShow) ∧
    (∀ p, b.testing = some p → exec (.engSubstSelftestDone false) s =
      .next ((bad p).wr F.CUE_STATUS_STATE d.spareNum Es.retired).spareShow) ∧
    (∀ pass, b.testing = none → exec (.engSubstSelftestDone pass) s = .next s) ∧
    (b.step = 1 → b.auto = true → exec (.engSubstAutoDone true) s = .next
      ({ (s.wr F.CUE_SUBST_CTRL_STATE 0 4).wr F.CUE_SUBST_CTRL_RESULT 0 4 with subst := { b with step := 0 } }.substRecord b.target
        b.seq 4 b.pc)) ∧
    (b.step = 1 → b.auto = true → exec (.engSubstAutoDone false) s = .next
      ((((s.copyEng b.target s.spareNum).exchange b.target).autoRestart b.target).substRecord b.target b.seq 0 b.pc)) ∧
    (∀ ecc, ¬ (b.step = 1 ∧ b.auto = true) → exec (.engSubstAutoDone ecc) s = .next s)

/-! ### Frame store (chapter 8) -/

/-- CXL ports: bring-up of a training port ends absent, refused with its reason, or in service with the capacity it found, at full or
reduced speed, and with enough memory ends MEM_SHORT in CALIBRATE; RETRAIN starts the steps again where the port is out of service after
CAL_DONE, else it is refused; correctable errors are counted by region, at the threshold mark it, and beyond the capacity are
violations; timeouts and abandoned mailbox commands are counted and logged; a lost link, or 16 timeouts within 1 ms, fail a port in
service, and its lost pages are replaced (R26, R221-R223, R226, R247, R248, R438). Where the spec leaves a point open it rests on the
model's choices of log 17, 100, 107, 113. -/
def Obligations.CxlPortCommands : Prop :=
  ∀ (c : Fin 4) (partner rep : Bool) (reason : Fin 7) (speed : Fin 3) (width : Fin 32) (units addr : Nat) (w : Word) (s : State),
    let half := linkHalf speed.val width.val
    let why := if reason.val ≠ 0 then reason.val else if half = 0 then 2 else 0
    let found := Nat.min units 1024
    let up := ((((s.wr F.CXLP_PORT_STATUS_STATE c (if half = 220 then 2 else 3)).wr F.CXLP_PORT_STATUS_REASON c 0).wr
      F.CXLP_PORT_STATUS_SPEED c speed).wr F.CXLP_PORT_STATUS_WIDTH c width).wr F.CXLP_PORT_STATUS_CAP_UNITS c found
    let pool := (up.setCxl c { up.cxl c with total := 128 * found, reserve := ceilDiv (3 * 128 * found) 100, timeouts := [] }).storeShow
    let enough := pool.mode = Mode.calibrate ∧ pool.memOk = true ∧ pool.on F.TOP_DEV_MODE_CAL_DONE 0 = true
    let training := s.rd F.CXLP_PORT_STATUS_STATE c = 1
    let up' := fun t => exec (.cxlPortBringupDone c partner reason speed width units) s = .next t
    let x := s.cxl c
    let late := s.setCxl c { x with timeouts := x.timeouts.filter (fun t => decide (s.clk < t + msClk)) ++ [s.clk] }
    let off := 0x1B0000 + 0x100 * c.val
    let re := s.writeField F.CXLP_PORT_CTRL_RETRAIN_REFUSED c (bits (Nat.lor w.toNat 1) 1 1)
    let g := addr / 2 ^ 28
    let seen := (tget x.ces g []).filter (fun t => decide (s.clk < t + s.rd F.SABLE_PLACE_CFG_CE_WIN 0 * 3600 * sClk)) ++ [s.clk]
    let counted := (s.setCxl c { x with ces := tput x.ces g seen [] }).incSat F.CXLP_CE_CNT_COUNT c
    let idle := (s.rd F.CXLP_PORT_STATUS_STATE c = 0 ∨ s.rd F.CXLP_PORT_STATUS_STATE c = 4 ∨ s.rd F.CXLP_PORT_STATUS_STATE c = 5) ∧
      s.on F.TOP_DEV_MODE_CAL_DONE 0 = true
    let fails := s.portUp c = true ∧ (rep = true → 16 ≤ x.timeouts.length)
    let fail := (s.wr F.CXLP_PORT_STATUS_STATE c 5).wr F.CXLP_PORT_STATUS_REASON c 7
    let gone := (fail.setCxl c { fail.cxl c with used := [], weight := 0 }).event F.SABLE_EVENT_PORT_FAIL 0 Irq.sable
    (¬ training → up' s) ∧
    (training → partner = false → up' ((s.wr F.CXLP_PORT_STATUS_STATE c 0).wr F.CXLP_PORT_STATUS_REASON c 0).storeShow) ∧
    (training → partner = true → why ≠ 0 → up' ((s.wr F.CXLP_PORT_STATUS_STATE c 4).wr F.CXLP_PORT_STATUS_REASON c why).storeShow) ∧
    (training → partner = true → why = 0 → enough → up' (pool.wr F.TOP_DEV_MODE_MEM_SHORT 0 0)) ∧
    (training → partner = true → why = 0 → ¬ enough → up' pool) ∧
    (idle → Sets (.cxlpRetrain c w) off w 1 s (re.cxlTrain c)) ∧
    (¬ idle → Sets (.cxlpRetrain c w) off w 1 s (re.wr F.CXLP_PORT_CTRL_RETRAIN_REFUSED c 1)) ∧
    (s.rd F.CXLP_PORT_STATUS_CAP_UNITS c ≤ g → exec (.cxlEventRecord c addr) s =
      .next (s.violation 4 c 0x03 1 (addr / 65536) (Src.cxl c))) ∧
    (g < s.rd F.CXLP_PORT_STATUS_CAP_UNITS c → seen.length < s.rd F.SABLE_PLACE_CFG_CE_THR 0 → exec (.cxlEventRecord c addr) s =
      .next counted) ∧
    (g < s.rd F.CXLP_PORT_STATUS_CAP_UNITS c → s.rd F.SABLE_PLACE_CFG_CE_THR 0 ≤ seen.length → exec (.cxlEventRecord c addr) s =
      .next (counted.markRegion c g)) ∧
    exec (.cxlMemTimeout c addr) s = .next (((late.incSat F.CXLP_TIMEOUT_CNT_COUNT c).event F.SABLE_EVENT_TIMEOUT 0 Irq.sable).violation
      4 c 0x01 3 (addr / 65536) (Src.cxl c)) ∧
    (fails → exec (.cxlPortFail c rep) s = .next (((gone.sable.descs.filter fun e => decide (e.2.state ≠ 0)).foldl
      (fun s e => s.replaceLost c e.1) gone).storeShow.faultEvent (Src.cxl c) true)) ∧
    (¬ fails → exec (.cxlPortFail c rep) s = .next s) ∧
    exec (.cxlMailboxTimeout c) s = .next (s.violation 4 c 0x04 2 0 (Src.cxl c))

/-- Buffers: the placement loop records its measures and weights; a page of a marked region moves, under the migration grant, to a healthy
free page of the port named or to a reserve page of its own port, and where there is none or no grant nothing moves; a descriptor freed
and out of use is released with its record, which a full queue drops with OVF, and no other is; the release queue's head is removed by
bit 0; GO of a lease sets it on a live handle and is refused on a stale one (R225-R227, R235, R236). A released descriptor is free with
its generation kept, and its pages' bytes are gone; every other descriptor stands (R235). Where the spec leaves a point open it rests on
the model's choices of log 17, 100, 104, 108. -/
def Obligations.BufferCommands : Prop :=
  (∀ (d : Fin 16384) (e : Nat) (c : Fin 4) (spare : Bool) (ws wr rd : List Nat) (w : Word) (s : State),
    let x := s.desc d
    let put := fun (p : Page) (s : State) (g : Nat) =>
      ((s.givePage p.port p.page).setDesc d { x with pages := x.pages.set e { p with port := c.val, page := g } }).storeShow
    let may := fun (p : Page) => x.pages[e]? = some p ∧ s.grantOk (s.rd F.SABLE_PLACE_GRANT_GRANT 0) Gc.migration 0 = true ∧
      p.placed = true ∧ (s.cxl p.port).bad p.page = true ∧ s.weight c ≠ 0
    let moves := fun t => exec (.migrationPageDone d e c spare) s = .next t
    let measured := forEach (List.range 4) (fun c s =>
      ((s.setCxl c { s.cxl c with weight := if s.portUp c then ws.getD c 0 else 0 }).wr F.CXLP_BW_MEAS_WR c (wr.getD c 0)).wr
        F.CXLP_BW_MEAS_RD c (rd.getD c 0)) s
    let back := x.pages.foldl (fun s p => if p.placed then s.givePage p.port p.page else s) s
    let clean := { back with sable := { back.sable with
      bytes := back.sable.bytes.filter (fun b => decide (b.1 / 2 ^ 44 ≠ d.val)), freeNo := back.sable.freeNo + 1 } }
    let rel := clean.setDesc d { gen := x.gen, freedNo := s.sable.freeNo }
    let v := Nat.lor w.toNat 0x80000000
    let l := s.wr F.SABLE_LEASE_CTRL_RASTER 0 (bits v 0 3)
    let h := s.handleDesc (s.rd F.SABLE_LEASE_CTRL_HANDLE 0)
    exec (.placementLoop ws wr rd) s = .next (((({ measured with sable := { measured.sable with looped := true } }.wr
      F.SABLE_BW_MEAS_WR 0 (wr.foldl (· + ·) 0)).wr F.SABLE_BW_MEAS_RD 0 (rd.foldl (· + ·) 0)).storeShow)) ∧
    ((∀ p, ¬ may p) → moves s) ∧
    (∀ p, may p → spare = true → c.val ≠ p.port → moves s) ∧
    (∀ p, may p → spare = true → s.takeSpare c = none → moves s) ∧
    (∀ p t, may p → spare = true → c.val = p.port → s.takeSpare c = some t → moves (put p t.1 t.2)) ∧
    (∀ p, may p → spare = false → (s.cxl c).pick s.draw.2 = none → moves s) ∧
    (∀ p g, may p → spare = false → (s.cxl c).pick s.draw.2 = some g → moves (put p (s.draw.1.takePage c g) g)) ∧
    (x.state ≠ 2 → exec (.descriptorRelease d) s = .next s) ∧
    (x.state = 2 → s.sable.relq.length < 256 → exec (.descriptorRelease d) s = .next
      ((((rel.setRelq (s.sable.relq ++ [x.relRecord d])).event F.SABLE_EVENT_RELEASED 0 Irq.sable).engEvent x.freer 11).storeShow)) ∧
    (x.state = 2 → 256 ≤ s.sable.relq.length → exec (.descriptorRelease d) s = .next
      ((((rel.wr F.SABLE_REL_QSTAT_OVF 0 1).event F.SABLE_EVENT_REL_OVF 0 Irq.sable).engEvent x.freer 11).storeShow)) ∧
    (bit w.toNat 0 = true → Writes (.sableRelPop w) 0x80044 w s (s.setRelq s.sable.relq.tail)) ∧
    (bit w.toNat 0 = false → Writes (.sableRelPop w) 0x80044 w s s) ∧
    (h = none → Sets (.leaseSet w) 0x8003C w 0x80000000 s (l.event F.SABLE_EVENT_LEASE_REFUSED 0 Irq.sable)) ∧
    (∀ i, h = some i → Sets (.leaseSet w) 0x8003C w 0x80000000 s (l.setDesc i { s.desc i with
      leaseAt := some s.clk, leaseWas := (s.desc i).leaseAtStart s.clk, leaseRaster := bits v 0 3,
      lease := s.rd64 F.SABLE_LEASE_CTRL_FRAME_LO F.SABLE_LEASE_CTRL_FRAME_HI 0 }))) ∧
  (∀ (d : Fin 16384) (s : State), (s.desc d).state = 2 →
    ∃ t, exec (.descriptorRelease d) s = .next t ∧ (t.desc d).state = 0 ∧ (t.desc d).gen = (s.desc d).gen ∧ (t.desc d).pages = [] ∧
      (∀ k, t.desc k.val = s.desc k.val ∨ k = d) ∧ (∀ b, b ∈ t.sable.bytes → b ∈ s.sable.bytes ∧ b.1 / 2 ^ 44 ≠ d.val) ∧ SameMem s t)

/-- The host's windows on the frame store: a read and a write of BAR4, a write also mirrored, and turned away where host accesses are; the
frames of a recorder: the source's next frame begins where it is live and fits the buffer, is skipped where it does not fit, and a
stopping recorder stops; the frames of a player: at a frame start it stops, begins, moves to its next set or chooses again; a player's
fetch of its next line, of a stale handle with STALE_READ and LOST, with its audio. A command whose time has not come changes nothing,
but that a spare may take the recorder first (R212, R213, R237-R247, R295, R399, R401, R443). A line of the oldest unfinished frame of a
recorder is stored on each of its strands, as active words and ancillary records, with the flag of a CRC error; after its last line the
frame is done; a line whose write meets an unplaced page gives the frame up; a recorder with no open frame, or whose handle or frame has
gone, stores nothing (R230, R231, R237-R240, R243, R248). Where the spec leaves a point open it rests on the model's choices of log 97,
109, 130, 137, 138, 141. -/
def Obligations.RecorderPlayerCommands : Prop :=
  (∀ (r p : Fin 128) (w : Fin 16) (o n : Nat) (bs : List Nat) (poison : Option (Fin 4)) (tmo : Bool) (s : State),
    let shut := s.pins.ready = false ∨ s.hif.d3 = true
    let wrote := s.hostWinWrite w o bs
    let a := s.spareTake 1 r
    let d := 5760 + 4 * r.val
    let src := groupSrc d (a.xa d)
    let takes := a.on F.SABLE_REC_RUNNING r = true ∧ (a.recorder r).stopping = false ∧ (a.judge d).live = true
    let buf := a.handleDesc (a.rd F.SABLE_REC_HANDLE r)
    let due := fun i => a.genDue r (a.desc i).struct (a.desc i).rate
    let fitsGen := fun i => isGen src = true ∧ (due i).isSome = true ∧ widthOf (a.xa d).width = widthOf (a.desc i).width
    let idle := fun i => isGen src = true ∧ due i = none
    let began := fun i => a.recFrame r i src
    let rec' := fun t => exec (.recorderFrameStart r) s = .next t
    let x := s.player p
    let eg := s.egress x.set.raster
    let runs := s.on F.SABLE_PLAY_RUNNING p = true
    let new := s.enabled x.set.raster = true ∧ eg.frame ≠ x.begun
    let moved := fun (q : PlaySet) (f : Nat) => s.enabled q.raster = true ∧ (s.egress q.raster).frame ≠ f
    let play := fun t => exec (.playerFrameStart p) s = .next t
    let line := runs ∧ s.on F.SABLE_PLAY_LOST p = false ∧ x.beginAt = none ∧ s.enabled x.set.raster = true ∧ eg.frame = x.begun ∧
      x.line ≤ eg.line + 1 ∧ x.line ≤ totalLines x.set.st
    let got := fun i => let t := s.playLine p i; if (t.player p).shown.isSome then t.noteRead i x.set.raster else t
    let out := fun i => ((got i).playEmit p i false).setPlayer p { ((got i).playEmit p i false).player p with line := x.line + 1 }
    let bad := fun i (c : Fin 4) => (if tmo then got i else (got i).poisoned c).incSat F.SABLE_PLAY_POISON p
    let out' := fun i c => ((bad i c).playEmit p i true).setPlayer p { ((bad i c).playEmit p i true).player p with line := x.line + 1 }
    (shut → ∀ data, exec (.hostWindowAccess w o data n (poison, tmo)) s = .next s) ∧
    (¬ shut → exec (.hostWindowAccess w o none n (poison, tmo)) s = .next (s.hostWinRead w o n poison tmo)) ∧
    (¬ shut → s.mode ≤ Mode.init → exec (.hostWindowAccess w o (some bs) n (poison, tmo)) s =
      .next (s.wr F.TOP_INIT_STATUS_WR_EARLY 0 1)) ∧
    (¬ shut → s.mode = Mode.standby → exec (.hostWindowAccess w o (some bs) n (poison, tmo)) s =
      .next (s.event F.COBALT_EVENT_STBY_REFUSED 0 Irq.cobalt)) ∧
    (¬ shut → Mode.init < s.mode → s.mode ≠ Mode.standby → s.mirroring = true →
      exec (.hostWindowAccess w o (some bs) n (poison, tmo)) s = .next (wrote.sendHostw s.posWords 4 (w.val * 2 ^ 36 + o) bs)) ∧
    (¬ shut → Mode.init < s.mode → s.mode ≠ Mode.standby → s.mirroring = false →
      exec (.hostWindowAccess w o (some bs) n (poison, tmo)) s = .next wrote) ∧
    (a.on F.SABLE_REC_RUNNING r = false → rec' a) ∧
    (a.on F.SABLE_REC_RUNNING r = true → (a.recorder r).stopping = true → rec'
      ((a.setRecorder r { a.recorder r with stopping := false }).wr F.SABLE_REC_RUNNING r 0).storeShow) ∧
    (a.on F.SABLE_REC_RUNNING r = true → (a.recorder r).stopping = false → (a.judge d).live = false → rec' a) ∧
    (takes → buf = none → rec' a) ∧
    (∀ i, takes → buf = some i → idle i → rec' a) ∧
    (∀ i, takes → buf = some i → fitsGen i → rec' ((began i).setRecorder r { (began i).recorder r with genAt := (due i).getD (0, 0) })) ∧
    (∀ i, takes → buf = some i → ¬ idle i → ¬ fitsGen i → a.recFits d (a.xa d) (a.desc i) = true → rec' (began i)) ∧
    (∀ i, takes → buf = some i → ¬ idle i → ¬ fitsGen i → a.recFits d (a.xa d) (a.desc i) = false → rec' (a.incSat F.SABLE_REC_FMT_SKIP r)) ∧
    (¬ runs → play s) ∧
    (runs → x.stopping = true → new → play (s.playStop p)) ∧
    (∀ b, runs → ¬ (x.stopping = true ∧ new) → x.beginAt = some b → s.enabled x.set.raster = true → (eg.frame, eg.line) ≠ b →
      play (s.playChoose p eg.line)) ∧
    (∀ b, runs → ¬ (x.stopping = true ∧ new) → x.beginAt = some b → ¬ (s.enabled x.set.raster = true ∧ (eg.frame, eg.line) ≠ b) → play s) ∧
    (∀ q f, runs → ¬ (x.stopping = true ∧ new) → x.beginAt = none → x.next = some (q, f) → moved q f →
      play ((s.playAdopt p q).playChoose p 1)) ∧
    (runs → x.stopping = false → x.beginAt = none → (∀ q f, x.next = some (q, f) → ¬ moved q f) → new → play (s.playChoose p 1)) ∧
    (runs → x.beginAt = none → (∀ q f, x.next = some (q, f) → ¬ moved q f) → ¬ new → play s) ∧
    (¬ line → exec (.playerLineFetch p poison tmo) s = .next s) ∧
    (line → s.readDesc x.set.handle = none → exec (.playerLineFetch p poison tmo) s = .next (s.staleRead.playFlags p true false)) ∧
    (∀ i, line → s.readDesc x.set.handle = some i → exec (.playerLineFetch p none tmo) s = .next ((out i).deembPlay p)) ∧
    (∀ i c, line → s.readDesc x.set.handle = some i → exec (.playerLineFetch p (some c) tmo) s = .next ((out' i c).deembPlay p))) ∧
  (∀ (r : Fin 128) (ws : List (List Nat)) (s : State),
    let d := 5760 + 4 * r.val
    let src := groupSrc d (s.xa d)
    let v := s.recorder r
    let h := s.handleDesc (s.rd F.SABLE_REC_HANDLE r)
    let done := fun t => exec (.recorderLineComplete r ws () ()) s = .next t
    (v.open' = [] → done s) ∧
    (v.open' ≠ [] → h = none → done (s.setRecorder r { v with open' := [] })) ∧
    (∀ q i, v.open'.head? = some q → h = some i → (s.desc i).stored.find? (fun f => f.seq = q) = none →
      done (s.setRecorder r { v with open' := v.open'.erase q })) ∧
    (∀ q i f, v.open'.head? = some q → h = some i → (s.desc i).stored.find? (fun f => f.seq = q) = some f →
      let x := s.desc i
      let cls := classOf x.struct x.rate
      let lay := layOf cls
      let got := (List.range (widthOf x.width)).map fun k => s.recWords src k f.next x (ws.getD k [])
      let act := fun (k : Nat) => pack10 (activeValues lay (chanActive (signalStruct cls x.struct)) (got.getD k ([], false)).1)
      let anc := fun (k : Nat) => lineRecords lay (chanActive (signalStruct cls x.struct)) f.next (got.getD k ([], false)).1
      let span := (List.range (widthOf x.width)).flatMap fun k =>
        (match activeIndex x.struct f.next with
          | some j => pageSpan (x.strandAt q k + 64 + j * lineBytes x.struct x.rate) (lineBytes x.struct x.rate)
          | none => []) ++
        pageSpan (x.strandAt q k + 64 + activeBytes x.struct x.rate + f.ancUsed.getD k 0) (((anc k).map (·.length)).foldl (· + ·) 0)
      let hole := ∃ e, e ∈ span ∧ (x.pages.getD e { port := 0, page := 0, placed := false }).placed = false
      let a := forEach (List.range (widthOf x.width)) (fun k s => s.recStrandLine r i q f.next k (act k) (anc k)) s
      let b := a.setDesc i { a.desc i with stored := (a.desc i).stored.map fun g =>
        if g.seq = q then { g with at' := tput g.at' f.next s.clk 0, next := f.next + 1, crcSeen := g.crcSeen || got.any (·.2) } else g }
      (hole → done (s.recDrop r q)) ∧
      (¬ hole → f.next = strandLines x.struct → done (b.recDone r i q)) ∧
      (¬ hole → f.next ≠ strandLines x.struct → done b)))

/-! ### Composition heads (chapter 9) -/

/-- Head sets and their commits. A staged word claims the head, an undefined word of it is discarded, and one of a head whose commit is
pending or that another master claims is refused. A write of HCOMMIT_CTRL carries out GO, accepted with its effect fixed or refused with
its code, then DISCARD, which ends the host's claim. At its latch an accepted set becomes active, or is discarded where its raster was
disabled, changed since, or the device is in SAFE; a head that a block reset marked starts its layers again at a latch line; else
nothing changes. Bit 0 removes the log's head (R207, R255, R257, R270, R281, R283, R284). Heads while they run. A head that is enabled,
or was, begins the frame it composes on the egress timeline advanced by its lines ahead, and its output turns with line 1 in house time.
A layer fetches its next source line while its buffer has room and, of a chase layer, while that line is complete; a line of an
unwritten page, a poisoned or a late one counts NOT_WRITTEN; a stale handle switches the layer off. A picture line is composed from
every layer once it is due. Else a command changes nothing (R234, R243, R247, R253, R270, R271, R277, R278). Where the spec leaves a
point open it rests on the model's choices of log 110, 111, 112, 130, 131, 142, 143, 144. -/
def Obligations.HeadCommands : Prop :=
  (∀ (h : Fin 96) (b : Fin 9) (i : Fin 64) (w : Word) (s : State),
    let x := s.head h
    let off := 0x400000 + 0x1000 * h.val + 0x100 * b.val + 4 * i.val
    let taken := x.accepted = true ∨ (x.claim ≠ none ∧ x.claim ≠ some 7)
    let q := fun (k : Nat) => s.writeWord 0xA0020 (Nat.lor w.toNat k)
    let hd := fun (t : State) => t.rd F.OCHRE_HCOMMIT_CTRL_HEAD 0
    let go := fun (t : State) =>
      let n := hd t
      let r := (t.stagedSet n).raster
      let short := t.on F.OCHRE_HCOMMIT_CTRL_STYLE 0
      let f := t.widen r short (if short then t.rd F.OCHRE_HCOMMIT_TGT_FRAME_LO 0
        else t.rd64 F.OCHRE_HCOMMIT_TGT_FRAME_LO F.OCHRE_HCOMMIT_TGT_FRAME_HI 0)
      let val := t.on F.OCHRE_HCOMMIT_CTRL_VALIDATE 0
      let c := t.headCode 7 n r f true val
      if c.1 = 0 then t.headAccept 7 n r f val
      else (t.headRefused 7 n c.1 c.2 val).event F.OCHRE_EVENT_HCOMMIT_REFUSED 0 Irq.ochre
    let r := if x.accepted then x.raster else (s.activeSet h).raster
    let e := s.egress r
    let phys := s.rd F.OCHRE_HEAD_STATUS_PHYS h
    let fresh := s.enabled r = true ∧ (e.frame, e.line) = s.latchOf r e.frame ∧ tget s.headReinit phys false = true
    let a := if fresh then forEach (List.range 8) (fun l s => s.setLayer h l {}) { s with headReinit := tput s.headReinit phys false false }
      else s
    let lost := x.accepted = true ∧ (s.enabled r = false ∨ (s.raster r).offs ≠ x.offs)
    let due := x.accepted = true ∧ (x.latch.1 < e.frame ∨ (x.latch.1 = e.frame ∧ x.latch.2 ≤ e.line))
    (taken → WinWrites (.headStagedWrite h b i w) true off w s (s.event F.OCHRE_EVENT_STAGE_REFUSED 0 Irq.ochre)) ∧
    (¬ taken → definedWord b i = true → WinWrites (.headStagedWrite h b i w) true off w s (s.stageWord 7 h b i w.toNat)) ∧
    (¬ taken → definedWord b i = false → WinWrites (.headStagedWrite h b i w) true off w s s) ∧
    Sets (.headCommitGo w) 0xA0020 w 1 s (if bit w.toNat 1 then (go (q 1)).unclaim (hd (q 1)) 7 else go (q 1)) ∧
    Sets (.headCommitDiscard w) 0xA0020 w 2 s ((if bit w.toNat 0 then go (q 2) else q 2).unclaim (hd (q 2)) 7) ∧
    ((lost ∨ (due ∧ s.mode = Mode.safe)) → exec (.headLatch h) s = .next (a.headDiscard h)) ∧
    (¬ lost → due → s.mode ≠ Mode.safe → exec (.headLatch h) s = .next (a.headLatch h)) ∧
    (¬ lost → ¬ due → exec (.headLatch h) s = .next a) ∧
    (bit w.toNat 0 = true → Writes (.ochreLogPop w) 0xA0044 w s (s.setOchreLog s.ochreLog.tail)) ∧
    (bit w.toNat 0 = false → Writes (.ochreLogPop w) 0xA0044 w s s)) ∧
  (∀ (h : Fin 96) (l : Fin 8) (c : Fin 4) (bad : Option (Fin 4)) (tmo : Bool) (s : State),
    let x := s.activeSet h
    let v := s.head h
    let e := addSamples (s.egress x.raster) (s.headAhead h * s.rSamples x.raster) (s.rLines x.raster) (s.rSamples x.raster)
    let begins := s.enabled x.raster = true ∧ (x.en = true ∨ v.live = true) ∧ e.frame ≠ v.begun
    let a := if begins then s.headStart h else s
    let shows := s.enabled x.raster = true ∧ (a.on F.OCHRE_HEAD_STATUS_RUNNING h = true ∨ (a.head h).live = true) ∧
      (s.egress x.raster).frame ≠ (a.head h).shown
    let y := s.layer h l
    let inter := decide (s.rStruct x.raster = 4)
    let hgt := (s.headPicture x).2
    let room := fun hd q => y.last = some (hd, q) ∧ y.on = true ∧ x.kind l = 0 ∧
      y.fetched < x.room inter hgt l y.used (rowAt inter hgt v.line)
    let row := rowAt inter (x.span inter hgt l).2 y.fetched + (x.span inter hgt l).1 + bits (x (1 + l.val) 4) 0 12
    let frame := fun i q => if (s.desc i).kind = 1 then 0 else q
    let o := fun i => match activeIndex (s.desc i).struct (storeLine (s.desc i).struct row) with
      | some j => 64 + j * lineBytes (s.desc i).struct (s.desc i).rate
      | none => 64
    let dry := fun i q => (strandsOf (s.desc i) row).any fun k =>
      (pageSpan ((s.desc i).strandAt (frame i q) k + o i) (lineBytes (s.desc i).struct (s.desc i).rate)).any fun e =>
        let p := (s.desc i).pages.getD e { port := 0, page := 0 }; !p.placed || !p.written
    let got := fun i q b => if b then (s, {}) else s.fetchRow i (frame i q) (o i) row (bits (x (1 + l.val) 0) 5 1)
    let put := fun (g : State × SrcRow) i => (g.1.noteRead i x.raster).setLayer h l { y with
      fetched := y.fetched + 1, rows := tput y.rows row g.2 {},
      urgent := decide (y.fetched + 1 - y.used < s.rd F.OCHRE_FETCH_CFG_WM 0) }
    let unwritten := fun (t : State) => t.incSat F.OCHRE_LAYER_STATUS_NOT_WRITTEN (8 * h.val + l.val)
    let ready := fun i q => State.rowStored (s.desc i) (bit (x (1 + l.val) 0) 4) q row
    let line := rowAt inter hgt v.line
    let due := v.live = true ∧ s.enabled x.raster = true ∧ v.line < hgt ∧
      s.toPicture x.raster v.begun line ≤ (s.headAhead h * s.rSamples x.raster : Nat)
    (shows → exec (.headFrameStart h) s = .next (a.headShow h)) ∧
    (¬ shows → exec (.headFrameStart h) s = .next a) ∧
    ((∀ hd q, ¬ room hd q) → exec (.layerLineFetch h l bad tmo) s = .next s) ∧
    (∀ hd q, room hd q → s.readDesc hd = none → exec (.layerLineFetch h l bad tmo) s =
      .next ((s.staleRead.headCond h l 0x02 0).layerOff h l true)) ∧
    (∀ hd q i, room hd q → s.readDesc hd = some i → ready i q = false → exec (.layerLineFetch h l bad tmo) s = .next s) ∧
    (∀ hd q i, room hd q → s.readDesc hd = some i → ready i q = true → exec (.layerLineFetch h l none tmo) s =
      .next (if dry i q then unwritten (put (got i q true) i) else put (got i q false) i)) ∧
    (∀ hd q i, room hd q → s.readDesc hd = some i → ready i q = true → exec (.layerLineFetch h l (some c) tmo) s =
      .next (unwritten (if tmo then put (got i q true) i else (put (got i q true) i).poisoned c))) ∧
    (due → exec (.headLineCompose h) s = .next ((forEach (List.range 8) (fun k s => s.layerCompose h line k)
      (s.setHead h { v with line := v.line + 1 })).composeRow h line)) ∧
    (¬ due → exec (.headLineCompose h) s = .next s))

/-- The library. A write of LUT_SEL carries out OPEN, which empties a writable slot that no set names and opens it, then CLOSE, which makes
the open slot VALID with its CRC-32 after its last word; each is refused with REFUSED and LUT_REFUSED otherwise. A word written to an
open slot is stored and the address advances; past the last word, or with no slot open, it is refused (R264, R285-R287). Where the spec
leaves a point open it rests on the model's choices of log 111. -/
def Obligations.LibraryCommands : Prop :=
  ∀ (w : Word) (s : State),
    let v := fun b => Nat.lor w.toNat b
    let q := fun b => s.writeWord 0xA0080 (v b)
    let k := fun b => (q b).rd F.OCHRE_LUT_SEL_KIND 0
    let n := fun b => (q b).rd F.OCHRE_LUT_SEL_SLOT 0
    let key := fun b => k b * 64 + n b
    let opened := fun b (t : State) => if lutWritable (k b) (n b) = true ∧ t.slotNamed (k b) (n b) = false then
      { t with lutOpen := some (key b), lutValid := tput t.lutValid (key b) false false, lutCrc := tput t.lutCrc (key b) 0 0 }.wr
        F.OCHRE_LUT_ADDR_ADDR 0 0
      else t.lutRefuse
    let words := fun b (t : State) => (List.range (lutWords (k b))).map fun i => tget t.lut (k b * 2 ^ 24 + n b * 2 ^ 18 + i) 0
    let closed := fun b (t : State) => if t.lutOpen = some (key b) ∧ t.rd F.OCHRE_LUT_ADDR_ADDR 0 = lutWords (k b) then
      { t with lutOpen := none, lutValid := tput t.lutValid (key b) true false,
               lutCrc := tput t.lutCrc (key b) (crcWords (words b t)) 0 }
      else t.lutRefuse
    let op := 0x10000
    let cl := 0x20000
    let a := s.rd F.OCHRE_LUT_ADDR_ADDR 0
    Sets (.lutOpen w) 0xA0080 w op s (if bit w.toNat 17 then closed op (opened op (q op)) else opened op (q op)).lutShow ∧
    Sets (.lutClose w) 0xA0080 w cl s (closed cl (if bit w.toNat 16 then opened cl (q cl) else q cl)).lutShow ∧
    (∀ o, s.lutOpen = some o → a < lutWords (o / 64) → Writes (.lutDataWrite w) 0xA0088 w s
      ({ s with lut := tput s.lut (o / 64 * 2 ^ 24 + o % 64 * 2 ^ 18 + a) w.toNat 0 }.wr F.OCHRE_LUT_ADDR_ADDR 0 (a + 1))) ∧
    (∀ o, s.lutOpen = some o → lutWords (o / 64) ≤ a → Writes (.lutDataWrite w) 0xA0088 w s s.lutRefuse) ∧
    (s.lutOpen = none → Writes (.lutDataWrite w) 0xA0088 w s s.lutRefuse)

/-! ### Audio and keys (chapters 10, 19) -/

/-- The audio crosspoint. A word of a shadow entry is staged, or refused on an entry another master staged or a commit holds; the upper
words are discarded. A write of AUDIO_COMMIT_CTRL carries out GO, then DISCARD of what GO did not capture. The first commit whose
boundary has come, or that is lost, takes effect, or is discarded, as in SAFE. A boundary is computed once: every source followed takes
its sample, every channel with an entry gives one, the TDM ports theirs. A ZEROX change ends after ZX_TIMEOUT, a FADE after FADE_LEN;
else nothing changes (R204, R292-R304, R307). A host GO of the audio crosspoint is accepted, its number and position shown, or refused
with its code and COMMIT_REFUSED, no commit joining those in flight (R300). Where the spec leaves a point open it rests on the model's
choices of log 35, 116, 117, 118, 119, 145. -/
def Obligations.AudioCommands : Prop :=
  (∀ (d : Fin 65536) (x : Fin 4) (t44 : Bool) (smp : List (Nat × Nat)) (bad : List (Nat × Fin 4 × Bool)) (w : Word) (s : State),
    let a := s.ash d
    let held := a.pending = true ∨ (a.staged = true ∧ a.stager ≠ 7)
    let o := s.aShown d
    let off := 0x200000 + 16 * d.val + 4 * x.val
    let v := w.toNat
    let q := fun (b : Nat) => ((s.wr F.AUDIO_COMMIT_CTRL_WITH 0 (bits (Nat.lor v b) 2 1)).wr F.AUDIO_COMMIT_CTRL_RASTER 0
      (bits (Nat.lor v b) 4 3)).wr F.AUDIO_COMMIT_CTRL_STYLE 0 (bits (Nat.lor v b) 7 1)
    let next := s.aud.commits.find? fun c => s.aLost c || decide (s.aEffect c 48000 ≤ s.boundaryNow 48000)
    let applied := fun c => ((forEach (s.aHeld c) (fun d s => s.aApply c d) s).addWrap F.AUDIO_ACTIVE_GEN_GEN 0 1).aFinish c true
    let k := s.boundaryNow (aRate t44)
    let done := if t44 then s.aud.bnd44 else s.aud.bnd
    let gap := if done = 0 then 0 else if done ≤ k then Nat.min (k - done) 100 else 100
    let fed := (forEach (s.sources t44 smp) (fun c s => s.feed k gap smp c) s).moveSlips t44 (s.sources t44 smp)
    let out := forEach (List.range 16) (fun i s => s.tdmOut t44 i)
      (forEach (fed.dests t44) (fun d s => s.channelAt k (aLat t44) bad d) fed)
    let gone := fun (mode len : Nat) => ∃ y r, tget s.aud.chg d [] = y :: r ∧ y.mode = mode ∧
      y.start + (if mode = 2 then y.len else len) < s.lastBnd d
    let ended := { s with aud := { s.aud with chg := tput s.aud.chg d [] [] } }
    (x.val = 0 → ¬ held → WinWrites (.shadowAudioWrite d x w) true off w s
      (s.aStageEnt 7 d { o with src := v % 65536, routed := bit v 16 })) ∧
    (x.val = 1 → ¬ held → WinWrites (.shadowAudioWrite d x w) true off w s (s.aStageEnt 7 d { o with attr := attrWrite v o.attr })) ∧
    (x.val ≤ 1 → held → WinWrites (.shadowAudioWrite d x w) true off w s (s.event F.AUDIO_EVENT_STAGE_REFUSED 0 Irq.audio)) ∧
    (1 < x.val → WinWrites (.shadowAudioWrite d x w) true off w s s) ∧
    Sets (.audioCommitGo w) 0xC0010 w 1 s (if bit v 1 then (q 1).hostAudioCommit.unstageAudio 7 else (q 1).hostAudioCommit) ∧
    Sets (.audioCommitDiscard w) 0xC0010 w 2 s ((if bit v 0 then (q 2).hostAudioCommit else q 2).unstageAudio 7) ∧
    (∀ c, next = some c → s.aLost c = false → s.mode ≠ Mode.safe → exec .audioCommitEffect s = .next (applied c)) ∧
    (∀ c, next = some c → (s.aLost c = true ∨ s.mode = Mode.safe) → exec .audioCommitEffect s = .next (s.aDiscard c)) ∧
    (next = none → exec .audioCommitEffect s = .next s) ∧
    (done = k + 1 → exec (.audioBoundary t44 (smp, bad)) s = .next s) ∧
    (done ≠ k + 1 → t44 = true → exec (.audioBoundary t44 (smp, bad)) s = .next { out with aud := { out.aud with bnd44 := k + 1 } }) ∧
    (done ≠ k + 1 → t44 = false → exec (.audioBoundary t44 (smp, bad)) s =
      .next { out with aud := { out.aud with gap := [], bnd := k + 1 } }) ∧
    (gone 1 (s.rd F.AUDIO_CFG_ZX_TIMEOUT 0) → exec (.zeroxTimeout d) s = .next ended) ∧
    (¬ gone 1 (s.rd F.AUDIO_CFG_ZX_TIMEOUT 0) → exec (.zeroxTimeout d) s = .next s) ∧
    (gone 2 0 → exec (.fadeComplete d) s = .next ended) ∧
    (¬ gone 2 0 → exec (.fadeComplete d) s = .next s)) ∧
  (∀ s : State,
    let t := s.hostAudioCommit
    let r := s.rd F.AUDIO_COMMIT_CTRL_RASTER 0
    let join := s.on F.AUDIO_COMMIT_CTRL_WITH 0
    let p := s.commitTarget r (s.on F.AUDIO_COMMIT_CTRL_STYLE 0) (s.rd64 F.AUDIO_COMMIT_TGT_FRAME_LO F.AUDIO_COMMIT_TGT_FRAME_HI 0)
      (s.rd F.AUDIO_COMMIT_TGT_LINE 0) (s.rd F.AUDIO_COMMIT_TGT_SAMPLE 0)
    let code := s.aCommitCode 7 r p join
    let a := s.acceptAud 7 r p join
    (code = 0 → t.rd F.AUDIO_COMMIT_STATUS_STATE 0 = 1 ∧ t.rd F.AUDIO_COMMIT_STATUS_COMMIT_ID 0 = a.2.1 ∧
      t.rd F.AUDIO_COMMIT_STATUS_RESULT 0 = 0 ∧ t.aud = a.1.aud) ∧
    (code ≠ 0 → t.rd F.AUDIO_COMMIT_STATUS_STATE 0 = 3 ∧ t.rd F.AUDIO_COMMIT_STATUS_COMMIT_ID 0 = 0 ∧
      t.on F.AUDIO_EVENT_COMMIT_REFUSED 0 = true ∧ t.aud = s.aud))

/-- Delay blocks: a HANDLE is taken while the block is disabled, EN with a live audio buffer and its grant, EN 0 while no channel uses it;
else DBLK_REFUSED. A delay request is carried out by its own master's instance and refused of another's. Audio port settings are taken,
but refused where a routed channel would lose its group, its rate or its de-embedder; the second port of a 24G pair has none, and groups
5-8 are not enabled on SD. At a frame start the groups seen and the supplier of channels 16-31 are shown, a change of supplier beginning
a gap (R291, R294, R304-R306). Where the spec leaves a point open it rests on the model's choices of log 119, 120. -/
def Obligations.AudioRegisters : Prop :=
  ∀ (b : Fin 1024) (m : Fin 6) (p : Fin 1152) (w : Word) (s : State),
    let v := w.toNat
    let bo := 0xC1000 + 8 * b.val
    let refused := s.event F.AUDIO_EVENT_DBLK_REFUSED 0 Irq.audio
    let go := Nat.lor v 0x80000000
    let req := ((s.wr F.AUDIO_DLY_CTRL_BLOCK 5 (bits go 0 10)).wr F.AUDIO_DLY_CTRL_LANE 5 (bits go 10 4)).wr F.AUDIO_DLY_CTRL_EN 5 (bits go 16 1)
    let used := s.on F.AUDIO_DBLK_EN b = true ∧ s.blockUsed b = true
    let en0 := s.rd F.AUDIO_PORT_GRP_EN p
    let en := if s.portClass p = 1 ∧ 16 ≤ bits v 8 8 then en0 else bits v 8 8
    let held := (∃ g, g < 8 ∧ s.groupRouted p g = true ∧
      (bit (s.rd F.AUDIO_PORT_GRP96 p) g ≠ bit (bits v 16 8) g ∨ (bit en0 g = true ∧ bit en g = false))) ∨
      (bit v 0 = false ∧ s.on F.AUDIO_PORT_DEEMB_EN p = true ∧ s.deembRouted p = true)
    let off := 0xC4000 + 16 * p.val
    let y := s.deemb p
    let sub1 := decide (s.portClass p = 3) || (decide (s.portClass p = 2) && y.wave)
    let seen := (((s.wr F.AUDIO_PORT_PRESENT p y.seen).wr F.AUDIO_PORT_RATE96 p y.r96).wr F.AUDIO_PORT_ASYNC p y.async).setDeemb p
      (y.choose sub1)
    (s.on F.AUDIO_DBLK_EN b = false → Writes (.delayBlockWrite b false w) bo w s (s.wr F.AUDIO_DBLK_HANDLE b v)) ∧
    (s.on F.AUDIO_DBLK_EN b = true → Writes (.delayBlockWrite b false w) bo w s refused) ∧
    (bit v 0 = true → s.dblkOk b (bits v 16 16) = true → Writes (.delayBlockWrite b true w) (bo + 4) w s
      ((s.wr F.AUDIO_DBLK_EN b 1).wr F.AUDIO_DBLK_GRANT b (bits v 16 16)).loadShow) ∧
    (bit v 0 = true → s.dblkOk b (bits v 16 16) = false → Writes (.delayBlockWrite b true w) (bo + 4) w s refused) ∧
    (bit v 0 = false → ¬ used → Writes (.delayBlockWrite b true w) (bo + 4) w s
      ((s.wr F.AUDIO_DBLK_EN b 0).wr F.AUDIO_DBLK_GRANT b (bits v 16 16)).loadShow) ∧
    (bit v 0 = false → used → Writes (.delayBlockWrite b true w) (bo + 4) w s refused) ∧
    (m.val = 5 → Sets (.delaySet m w) (0xC0108 + 16 * m.val) w 0x80000000 s (req.delayGo 5 go)) ∧
    (m.val ≠ 5 → Sets (.delaySet m w) (0xC0108 + 16 * m.val) w 0x80000000 s (s.event F.AUDIO_EVENT_DLY_REFUSED 0 Irq.audio)) ∧
    (s.second24 p = true → Writes (.audioPortCfgWrite p w) off w s s) ∧
    (s.second24 p = false → ¬ held →
      Writes (.audioPortCfgWrite p w) off w s ((((s.wr F.AUDIO_PORT_DEEMB_EN p (bits v 0 1)).wr F.AUDIO_PORT_EMB_MODE p (bits v 1 1)).wr
        F.AUDIO_PORT_GRP_EN p en).wr F.AUDIO_PORT_GRP96 p (bits v 16 8))) ∧
    (s.second24 p = false → held → Writes (.audioPortCfgWrite p w) off w s (s.event F.AUDIO_EVENT_CFG_REFUSED 0 Irq.audio)) ∧
    (y.start = false → exec (.deembSourceChoice p () () () ()) s = .next s) ∧
    (y.start = true → y.sub1 = sub1 → exec (.deembSourceChoice p () () () ()) s = .next seen) ∧
    (y.start = true → y.sub1 ≠ sub1 → exec (.deembSourceChoice p () () () ()) s =
      .next { seen with aud := { seen.aud with gap := tput seen.aud.gap p true false } })

/-- TDM ports. A disabled port takes its format and EN starts it; a format too fast, or a change of format while it is enabled, is refused
with CFG_REFUSED; EN 0 stops it; RASTER is taken but with a refusal of a disabled port. An FSYNC edge of an enabled slave shows
RATE_ERR; a running port takes the frame; the sixteenth good frame of another sets it running. Two periods without FSYNC stop a running
slave; a master starts at the first boundary after EN; else nothing changes (R311-R314). The key unit. A write of KEYS_UPD_CTRL carries
out GO, which takes the message unless one is being processed, then CLEAR, which empties the window. The message being processed is
applied whole or refused with its code and entry. Every slot in use takes a fresh mask each millisecond while the entropy source passes
its tests; its failure raises TRNG_FAIL, once; else nothing changes (R488-R491). Where the spec leaves a point open it rests on the
model's choices of log 18, 114, 115, 121. -/
def Obligations.TdmAndKeyCommands : Prop :=
  (∀ (i : Fin 16) (len : Nat) (smp : List Nat) (w : Word) (s : State),
    let v := w.toNat
    let off := 0xD0000 + 0x20 * i.val
    let a := s.tdmFields i v
    let en := s.on F.TDM_CFG_EN i = true
    let slots := a.rd F.TDM_CFG_SLOTS i + 1
    let fast := 49152000 < tdmHz (a.rd F.TDM_CFG_RATE i) * slots * a.rd F.TDM_CFG_WIDTH i ∨ (a.rd F.TDM_CFG_RATE i % 2 = 1 ∧ 16 < slots)
    let changes := tdmFormat (a.readWord off) ≠ tdmFormat (s.readWord off)
    let refused := s.wr F.TDM_STATUS_CFG_REFUSED i 1
    let ras := fun (t : State) => t.wr F.TDM_CFG_RASTER i (bits v 24 3)
    let t := tget s.tdms i {}
    let slave := en ∧ s.on F.TDM_CFG_MASTER i = false
    let st := s.rd F.TDM_STATUS_STATE i
    let good := decide (len = (s.rd F.TDM_CFG_SLOTS i + 1) * s.rd F.TDM_CFG_WIDTH i)
    let per := t.lastEdge.map fun e => s.clk - e
    let hz := tdmHz (s.rd F.TDM_CFG_RATE i)
    let b := { s with tdms := tput s.tdms i { t with lastEdge := some s.clk } {} }
    let c := match per with
      | some p => b.wr F.TDM_STATUS_RATE_ERR i (wrapInt 16 ((((p * hz : Nat) : Int) - 1250000000) * 100000 / 1250000000))
      | none => b
    let e := if st = 4 then c.tdmFlow i good smp else c
    let g := if per.isNone then 0 else if good then (tget e.tdms i {}).good + 1 else 0
    let f := { e with tdms := tput e.tdms i { tget e.tdms i {} with good := g } {} }
    let late := ∃ e, t.lastEdge = some e ∧ st = 2 ∧ s.on F.TDM_CFG_MASTER i = false ∧ 2 * 1250000000 ≤ (s.clk - e) * hz
    let stop := (((s.wr F.TDM_STATUS_STATE i 3).incSat F.TDM_CNT1_STOP i).tdmZerox i true).tdmFault i F.TDM_STATUS_STOP_EV 1 6 0
    let begins := en ∧ s.on F.TDM_CFG_MASTER i = true ∧ st = 1 ∧ t.since < s.boundaryNow (aRate (decide (2 ≤ s.rd F.TDM_CFG_RATE i)))
    (¬ en → ¬ fast → Writes (.tdmCfgWrite i w) off w s (if bit v 0 then (ras a).tdmOn i else (ras a).tdmOff i)) ∧
    (¬ en → fast → Writes (.tdmCfgWrite i w) off w s (if bit v 0 then refused else refused.tdmOff i)) ∧
    (en → ¬ changes → Writes (.tdmCfgWrite i w) off w s (if bit v 0 then (ras s).tdmOn i else (ras s).tdmOff i)) ∧
    (en → changes → Writes (.tdmCfgWrite i w) off w s (if bit v 0 then refused else refused.tdmOff i)) ∧
    (¬ slave → exec (.tdmFrame i len smp) s = .next s) ∧
    (slave → st = 2 → exec (.tdmFrame i len smp) s = .next (c.tdmRunning i len good per smp)) ∧
    (slave → st ≠ 2 → g < 16 → exec (.tdmFrame i len smp) s = .next f) ∧
    (slave → st ≠ 2 → 16 ≤ g → exec (.tdmFrame i len smp) s = .next (f.tdmRun i)) ∧
    (late → exec (.tdmStop i) s = .next
      { stop with tdms := tput stop.tdms i { t with good := 0, off := 0, lastEdge := none, outq := [], cur := [], odd := false, dout := [] } {} }) ∧
    (¬ late → exec (.tdmStop i) s = .next s) ∧
    (begins → exec (.tdmMasterStart i) s = .next (s.wr F.TDM_STATUS_STATE i 2)) ∧
    (¬ begins → exec (.tdmMasterStart i) s = .next s)) ∧
  (∀ (w : Word) (s : State),
    let st := s.rd F.KEYS_UPD_CTRL_STATE 0
    let a := ((s.wr F.KEYS_UPD_CTRL_STATE 0 1).wr F.KEYS_UPD_CTRL_RESULT 0 0).wr F.KEYS_UPD_CTRL_BAD_ENTRY 0 0
    let go := if st = 1 then s else { a with keys := { a.keys with msg := s.keysMsg } }
    let v := s.keyVerdict s.keys.msg
    let empty := fun (s : State) => { s with keys := { s.keys with msg := [] } }
    let fresh := forEach ((List.range 64).filter fun k => s.on F.KEYS_SLOT_ATTR_VALID k) (fun k s => s.newMask k) s
    let ok' := s.on F.KEYS_STATUS_TRNG_OK 0 = true
    let due := ok' ∧ s.keys.refreshAt + msClk ≤ s.clk
    Sets (.keyUpdateGo w) 0x190010 w 1 s (if bit w.toNat 1 then go.keysMsgClear else go) ∧
    Sets (.keysMsgClear w) 0x190010 w 2 s (if bit w.toNat 0 then go.keysMsgClear else s.keysMsgClear) ∧
    (st = 1 → v.1 = 0 → exec .keyUpdateComplete s = .next (empty (s.keyApply s.keys.msg))) ∧
    (st = 1 → v.1 ≠ 0 → exec .keyUpdateComplete s = .next (empty (s.keyRefuse v.1 v.2))) ∧
    (st ≠ 1 → exec .keyUpdateComplete s = .next s) ∧
    (due → exec .keyMaskRefresh s = .next { fresh with keys := { fresh.keys with refreshAt := s.clk } }) ∧
    (¬ due → exec .keyMaskRefresh s = .next s) ∧
    (ok' → exec .trngFail s =
      .next (((s.wr F.KEYS_STATUS_TRNG_OK 0 0).event F.KEYS_EVENT_TRNG_FAIL 0 Irq.hostif).faultEvent Src.keys false)) ∧
    (¬ ok' → exec .trngFail s = .next s))

/-! ### The fabric (chapter 11) -/

/-- Lane states. A write of CTRL takes GRANT. In OFF or L-DEEP it takes FORERUNNER and CLASS, and a wake in RUN, STANDBY or SAFE without a
valid grant is refused with CFG_REFUSED; in another state a change of FORERUNNER or CLASS is refused; STATE_REQ is taken and the lane
follows it, but the reserved 3 is not. A signal starts an IDLE lane's training where ACTIVE is asked for; else it is shown, or left
where no lane is live. A training lane with frame lock becomes ACTIVE, a hot-plugged one with its event; any other stands. A lost signal
returns a lane in operation to IDLE, one that left in order counted no loss (the model's reading, log 152); else it is shown. FAIL_MS
without frame lock fails a lane under AUTO_REMAP in service; else nothing changes (R330-R334, R339). What a lane sends, and its tests.
An ACTIVE lane, one that frames, or one in a FRAMED test passes a turn: its strand's next 16 words, or a SKIP; in a test a cell of the
pattern; the spare that mirrors an old lane takes that lane's turns. In each frame's time a training lane sends TRAIN blocks, 128 of
them at first (the model's choice, log 152), a lane in a test its pattern, another the frame in progress, its next beginning with its
marker and control block; a lane in no such state sends nothing. STOP ends a test, then START asks for one (R316-R321, R326, R332, R341,
R342). Where the spec leaves a point open it rests on the model's choices of log 125, 146, 150, 152. -/
def Obligations.LaneStatesAndSends : Prop :=
  (∀ (n : Fin 152) (w : Word) (s : State),
    let v := w.toNat
    let off := 0xE1000 + 0x80 * n.val
    let st := s.laneSt n
    let req := bits v 0 2
    let down := st = Ln.off ∨ st = Ln.deep
    let g := s.wr F.FAB_LANE_CTRL_GRANT n (bits v 16 16)
    let changes := bits v 2 1 ≠ s.rd F.FAB_LANE_CTRL_FORERUNNER n ∨ (bits v 3 2 ≠ 3 ∧ bits v 3 2 ≠ s.rd F.FAB_LANE_CTRL_CLASS n)
    let a := (g.wr F.FAB_LANE_CTRL_FORERUNNER n (bits v 2 1)).writeField F.FAB_LANE_CTRL_CLASS n (bits v 3 2)
    let lacks := req = 2 ∧ s.inService = true ∧ a.laneGrant n (bits v 16 16) = false
    let follow := fun (t : State) => if req = 3 then t else (t.wr F.FAB_LANE_CTRL_STATE_REQ n req).laneFollow n req
    let det := s.wr F.FAB_LANE_STATUS_SIG_DET n 1
    let asked := s.lanesLive = true ∧ s.rd F.FAB_LANE_CTRL_STATE_REQ n = 2
    let act := s.wr F.FAB_LANE_STATUS_STATE n Ln.active
    let ready := s.framed n = true ∧ (st = Ln.training ∨ st = Ln.hunt ∨ st = Ln.blockLock)
    let works := Ln.idle ≤ st ∧ st ≤ Ln.active
    let left := s.framed n = true ∧ s.on F.FAB_LANE_STATUS_PARTNER_READY n = false
    let idle := fun (t : State) => (t.wr F.FAB_LANE_STATUS_SIG_DET n 0).wr F.FAB_LANE_STATUS_STATE n Ln.idle
    let late := s.on F.FAB_GLOBAL_CTRL_AUTO_REMAP 0 = true ∧ s.framed n = false ∧ s.inService = true ∧
      ∃ t, (s.lane n).lostAt = some t ∧ t + s.rd F.FAB_GLOBAL_CTRL_FAIL_MS 0 * msClk ≤ s.clk
    (down → ¬ lacks → Writes (.laneCtrlWrite n w) off w s (follow a)) ∧
    (down → lacks → Writes (.laneCtrlWrite n w) off w s (a.laneRefused n)) ∧
    (¬ down → ¬ changes → Writes (.laneCtrlWrite n w) off w s (follow g)) ∧
    (¬ down → changes → Writes (.laneCtrlWrite n w) off w s (follow (g.laneRefused n))) ∧
    (asked → st = Ln.idle → exec (.signalDetect n) s = .next (det.toTraining n true)) ∧
    (asked → st ≠ Ln.idle → exec (.signalDetect n) s = .next det) ∧
    (¬ asked → exec (.signalDetect n) s = .next s) ∧
    (ready → (s.lane n).hot = false → exec (.laneActive n) s = .next act) ∧
    (ready → (s.lane n).hot = true → exec (.laneActive n) s = .next
      (((act.setLane n { act.lane n with hot := false }).wr F.FAB_LANE_STATUS_HOTPLUG_EV n 1).event F.FAB_EVENT_HOTPLUG 0 Irq.fab)) ∧
    (¬ ready → exec (.laneActive n) s = .next s) ∧
    (works → ¬ left → exec (.laneSignalLoss n) s = .next (idle (s.unframe n))) ∧
    (works → left → exec (.laneSignalLoss n) s =
      .next (idle ((s.unframe n).setLane n { (s.unframe n).lane n with lostAt := none }))) ∧
    (¬ works → exec (.laneSignalLoss n) s = .next (s.wr F.FAB_LANE_STATUS_SIG_DET n 0)) ∧
    (late → exec (.laneLockTimeout n) s = .next (s.laneFail n)) ∧
    (¬ late → exec (.laneLockTimeout n) s = .next s)) ∧
  (∀ (n : Fin 152) (pre post : Fin 4) (w : Word) (s : State),
    let x := s.lane n
    let st := s.laneSt n
    let own := s.sendsTurns n = true ∧ (s.mirrors = false ∨ n.val ≠ s.rmNew)
    let off := 0xE1020 + 0x80 * n.val
    let q := fun (b : Nat) => let v := Nat.lor w.toNat b
      ((((s.wr F.FAB_LANE_TEST_PATTERN n (bits v 2 2)).wr F.FAB_LANE_TEST_LOOP n (bits v 4 1)).wr F.FAB_LANE_TEST_INJ_SYM n
        (bits v 5 5)).writeField F.FAB_LANE_TEST_INJ_BER n (bits v 10 4)).wr F.FAB_LANE_TEST_GRANT n (bits v 16 16)
    let stopped := if bit w.toNat 1 then (q 1).testStop n else q 1
    let sends := Ln.training ≤ st ∧ st ≤ Ln.test
    let pattern := st = Ln.test ∧ s.rd F.FAB_LANE_TEST_PATTERN n ≠ 3
    let early := st = Ln.training ∧ x.train < 128
    (own → exec (.turnTx n ()) s = .next (s.turnTx n)) ∧
    (¬ own → exec (.turnTx n ()) s = .next s) ∧
    (¬ sends → exec (.statusBlockTx n pre post) s = .next s) ∧
    (sends → pattern → exec (.statusBlockTx n pre post) s = .next (s.patternTx n)) ∧
    (sends → early → exec (.statusBlockTx n pre post) s = .next (s.trainTx n)) ∧
    (sends → ¬ pattern → ¬ early → x.txHead = [] → exec (.statusBlockTx n pre post) s = .next (s.frameBegin n pre post)) ∧
    (sends → ¬ pattern → ¬ early → x.txHead ≠ [] →
      exec (.statusBlockTx n pre post) s = .next ((s.frameEnd n).frameBegin n pre post)) ∧
    Sets (.laneTestStart n w) off w 1 s (stopped.testStart n (bits (Nat.lor w.toNat 1) 16 16)) ∧
    Sets (.laneTestStop n w) off w 2 s
      (if bit w.toNat 0 then ((q 2).testStop n).testStart n (bits (Nat.lor w.toNat 2) 16 16) else (q 2).testStop n))

/-- What a lane receives. A frame's PAM4 levels go to the checker of a lane in a test; a lane in no such state takes none; one without frame
lock keeps its blocks, block lock found on 64 headers; a framed one decodes each 85 blocks. A marker is sought in the blocks of an
unframed lane: a second, 85 blocks after the first, gives frame lock. On a framed one the third missing loses it, a marker of a bad
frame leaves a gap, a good one the turns of a gap lost. Data blocks join a cell, five complete it; its words wait for their strand, or
are lost where its buffer is full; a SKIP passes its turn, or is a violation. The 64th STATUS slot without STATUS is a violation. A TAG
is seen; of another strand, or a format its port does not have, it is a violation. What does not stand next changes nothing (R316-R326,
R329). A STATUS block that stands next is taken: turns it skips are lost, a violation where no SKIP went astray, and its turn is the
lane's; another ownership, hold or card type is a violation; the partner's lane, card, FFE requests, lock, readiness, degradation and
test request are taken. Where none stands next nothing changes (R325-R327, Table 11-6). Where the spec leaves a point open it rests on
the model's choices of log 127, 146, 147, 152. -/
def Obligations.LaneReceives : Prop :=
  (∀ (n : Fin 152) (lev : List (Fin 4)) (out k : Nat) (ws : List Nat) (e : RxBlk) (s : State),
    let x := s.lane n
    let st := s.laneSt n
    let framed := s.framed n = true
    let bs := lev.flatMap fun l => levelBits l.val
    let got := x.rxBits ++ bs
    let h := huntGrid got.length x.grid got
    let whole := if 64 ≤ h.2 then h.1.length / 66 else 0
    let raw := x.raw ++ pieces 66 whole h.1
    let s1 := s.setLane n { x with rxBits := h.1.drop (66 * whole), grid := h.2, raw := raw }
    let up := Ln.training ≤ st ∧ st ≤ Ln.active
    let grid := up ∧ 64 ≤ x.grid
    let at' := x.raw.findIdx fun b => (blkOf b).any isMarker
    let p := s.popRx n 1
    let y := p.lane n
    let e85 := x.marks = 1 ∧ x.since + at' = 84
    let pay := lowFirst ((x.raw.getD at' []).drop 2)
    let found := s.front n = some e ∧ e.place = 0 ∧ isMarker e.blk = true
    let missing := s.front n = some e ∧ e.place = 0 ∧ isMarker e.blk = false
    let run := x.rxq.takeWhile fun e => !e.blk.ctl && decide (e.place ≠ 0)
    let new := (run.drop x.drop).take (5 - x.part.length)
    let used := (run.take x.drop).length
    let part := x.part ++ new.map (·.blk.pay)
    let s2 := s.setLane n { x with rxq := x.rxq.drop (used + new.length), drop := x.drop - used, part := part }
    let d := x.turn % s.laneN n
    let have' := (tget x.buf d []).drop out
    let s3 := (s.compare n x.turn ws).setLane n { x with turn := (x.turn + 1) % 65536 }
    let long := framed ∧ x.absent = false ∧ 64 ≤ x.noStat
    let seen := fun (t : State) (c : Nat) => t.setLane n { t.lane n with cls := tins (t.lane n).cls (bits c 0 5) (bits c 18 4) }
    let wrong := fun (t : State) (c : Nat) => t.laneViol n 0x06 1 (c / 2 ^ 32 % 2 ^ 24 + 3 * 2 ^ 24)
    (st = Ln.test → exec (.tetosFrameRx n lev () () ()) s =
      .next (s.testRx n (if s.on F.FAB_LANE_TEST_LOOP n then x.txFrame.flatMap levelBits else bs))) ∧
    (st ≠ Ln.test → ¬ up → exec (.tetosFrameRx n lev () () ()) s = .next s) ∧
    (up → ¬ framed → exec (.tetosFrameRx n lev () () ()) s =
      .next (if x.grid < 64 ∧ 64 ≤ h.2 then s1.wr F.FAB_LANE_STATUS_STATE n Ln.blockLock else s1)) ∧
    (up → framed → raw.length < 85 → exec (.tetosFrameRx n lev () () ()) s = .next s1) ∧
    (up → framed → 85 ≤ raw.length → exec (.tetosFrameRx n lev () () ()) s =
      .next ((s1.setLane n { s1.lane n with raw := raw.drop 85 }).frameRx n (raw.take 85))) ∧
    (¬ grid → exec (.markerRx n () () ()) s = .next s) ∧
    (grid → ¬ framed → x.raw.length ≤ at' → exec (.markerRx n () () ()) s =
      .next (s.setLane n { x with raw := [], since := x.since + x.raw.length })) ∧
    (grid → ¬ framed → at' < x.raw.length → ¬ e85 → exec (.markerRx n () () ()) s =
      .next ((s.setLane n { x with marks := 1, since := 0, raw := x.raw.drop (at' + 1) }).wr F.FAB_LANE_STATUS_STATE n Ln.blockLock)) ∧
    (grid → ¬ framed → at' < x.raw.length → e85 → exec (.markerRx n () () ()) s = .next (((s.resume n).setLane n
      { (s.resume n).lane n with
        marks := 2, miss := 0, turn := pay / 65536 % 65536, fseq := pay % 65536, gap := false, skipLost := false
        lostAt := none, card := false, raw := x.raw.drop at' }).wr F.FAB_LANE_STATUS_FRAME_LOCK n 1)) ∧
    (grid → framed → missing → 2 ≤ y.miss → exec (.markerRx n () () ()) s =
      .next ((p.unframe n).wr F.FAB_LANE_STATUS_STATE n Ln.blockLock)) ∧
    (grid → framed → missing → y.miss < 2 → exec (.markerRx n () () ()) s = .next (p.setLane n { y with
      miss := y.miss + 1, gap := y.gap || !e.good, part := if e.good then y.part else [] })) ∧
    (grid → framed → found → e.good = false → exec (.markerRx n () () ()) s =
      .next (p.setLane n { y with miss := 0, gap := true, part := [] })) ∧
    (grid → framed → found → e.good = true → exec (.markerRx n () () ()) s =
      .next (p.markerRx n true true (e.blk.pay / 65536 % 65536) (e.blk.pay % 65536))) ∧
    (grid → framed → (∀ e, s.front n = some e → e.place ≠ 0) → exec (.markerRx n () () ()) s = .next s) ∧
    ((¬ framed ∨ run = []) → exec (.cellRx n out ()) s = .next s) ∧
    (framed → run ≠ [] → part.length < 5 → exec (.cellRx n out ()) s = .next s2) ∧
    (framed → run ≠ [] → 5 ≤ part.length → exec (.cellRx n out ()) s =
      .next ((s2.setLane n { s2.lane n with part := [] }).cellRx n (cellWords part) out)) ∧
    (x.skipLost = true → s.cellRx n ws out = s.loseTurns n 1) ∧
    (x.skipLost = false → s.laneOf n = none → s.cellRx n ws out = s3) ∧
    (x.skipLost = false → s.laneOf n ≠ none → have'.length + 16 ≤ 64 →
      s.cellRx n ws out = s3.setLane n { s3.lane n with buf := tput x.buf d (have' ++ ws) [] }) ∧
    (x.skipLost = false → s.laneOf n ≠ none → 64 < have'.length + 16 → s.cellRx n ws out =
      ((s3.setLane n { s3.lane n with buf := tput x.buf d have' [] }).incSat F.FAB_LANE_FEC_CELL_LOST n).laneViol n 0x07 1 0) ∧
    (s.frontCtl n 1 = some k → exec (.skipRx n () ()) s =
      .next ((p.setLane n { y with drop := 0 }).skipRx n (k % 32) (decide (x.part ≠ [])))) ∧
    (s.frontCtl n 1 = none → exec (.skipRx n () ()) s = .next s) ∧
    (long → exec (.statusAbsent n) s =
      .next (((s.setLane n { x with absent := true }).wr F.FAB_LANE_STATUS_PARTNER_READY n 0).laneViol n 0x0A 6 0)) ∧
    (¬ long → exec (.statusAbsent n) s = .next s) ∧
    (∀ l, s.frontCtl n 3 = some k → p.laneOf n = some l → bits k 5 13 ≠ 32 * l + bits k 0 5 → exec (.tagRx n ()) s = .next (wrong p k)) ∧
    (∀ l, s.frontCtl n 3 = some k → p.laneOf n = some l → bits k 5 13 = 32 * l + bits k 0 5 →
      exec (.tagRx n ()) s = .next (if bits k 18 4 ≠ 0 ∧ bits k 18 4 ≠ p.portClass (p.slotPort (bits k 5 13))
        then wrong (seen p k) k else seen p k)) ∧
    (s.frontCtl n 3 = some k → p.laneOf n = none → exec (.tagRx n ()) s = .next p) ∧
    (s.frontCtl n 3 = none → exec (.tagRx n ()) s = .next s)) ∧
  (∀ (n : Fin 152) (c : Nat) (s : State),
    let p := s.popRx n 1
    let x := p.lane n
    let det := c / 2 ^ 32 % 2 ^ 24 + 2 * 2 ^ 24
    let lost := p.loseTurns n ((bits c 0 16 + 65536 - x.turn) % 65536)
    let a := if x.skipLost then lost else if bits c 0 16 ≠ x.turn then lost.laneViol n 0x04 4 det else p
    let b := a.setLane n { a.lane n with skipLost := false, absent := false, testEcho := bit c 43, turn := bits c 0 16 }
    let r := if bit c 16 ∨ bit c 17 ∨ bit c 19 then b.laneViol n 0x05 2 det else b
    let f := ((r.wr F.FAB_LANE_PARTNER_PARTNER_LANE n (bits c 20 8)).cardSeen n (bits c 28 8) det).ffeApply n (bits c 36 2) (bits c 38 2)
    (s.frontCtl n 2 = some c → exec (.statusBlockRx n ()) s =
      .next ((((f.wr F.FAB_LANE_PARTNER_RX_LOCK n (bits c 40 1)).wr F.FAB_LANE_STATUS_PARTNER_READY n (bits c 41 1)).wr
        F.FAB_LANE_PARTNER_DEGRADED n (bits c 42 1)).wr F.FAB_LANE_PARTNER_TEST_REQ n (bits c 43 1))) ∧
    (s.frontCtl n 2 = none → exec (.statusBlockRx n ()) s = .next s))

/-- Lane remaps. A write of CTRL carries out ABORT of a remap not yet COMMITTED, then START. A framed spare of the same partner card moves
it on; another card, 60 ms in WAKE, a millisecond in OFFER (REASON a free value, log 20), or differing words fail it; 4,096 equal turns
commit a turn, at which the logical lane moves to the spare, without HITLESS at once. REMAP answers: ACK takes it on, NAK and ABORT end
it, DONE completes it, REQ is nothing; one out of its state is a violation. What is not due changes nothing (R336-R340). Where the spec
leaves a point open it rests on the model's choices of log 20, 126. -/
def Obligations.RemapCommands : Prop :=
  ∀ (n : Fin 152) (c : Nat) (w : Word) (s : State),
    let v := fun (b : Nat) => Nat.lor w.toNat b
    let q := fun (b : Nat) => (((s.wr F.FAB_REMAP_CTRL_HITLESS 0 (bits (v b) 2 1)).wr F.FAB_REMAP_CTRL_RETIRE 0 (bits (v b) 3 1)).writeField
      F.FAB_REMAP_CTRL_LOGICAL 0 (bits (v b) 8 8)).wr F.FAB_REMAP_CTRL_ROLE 0 (bits (v b) 16 3)
    let abort := fun (t : State) => if 1 ≤ t.rmSt ∧ t.rmSt ≤ 3 then (t.rmEnd 7 0).rmNext else t
    let same := s.rd F.FAB_LANE_PARTNER_CARD_ID s.rmNew = s.rd F.FAB_LANE_PARTNER_CARD_ID s.rmOld
    let woken := s.rmSt = 1 ∧ s.framed s.rmNew = true
    let wakeLate := s.rmSt = 1 ∧ s.remap.since + 60 * msClk ≤ s.clk
    let offerLate := s.rmSt = 2 ∧ s.remap.since + msClk ≤ s.clk
    let compared := s.rmSt = 3 ∧ (4096 ≤ s.remap.compared ∨ s.remap.differ = true)
    let t := ((s.lane s.rmOld).turn + 16384) % 65536
    let switches := s.rmSt = 4 ∧ s.remap.switched = false ∧
      (s.remap.hitless = false ∨ turnReached (s.lane s.rmOld).turn s.remap.turn = true)
    let free := s.draw
    let p := s.popRx n 1
    let det := c / 2 ^ 32 % 2 ^ 24 + 4 * 2 ^ 24
    let op := bits c 0 4
    let came := s.frontCtl n 4 = some c
    let mine := n.val = p.rmNew ∧ p.rmRuns = true
    let three := p.rmTo 3
    let ack := mine ∧ p.rmSt = 2 ∧ op = 2
    let nak := mine ∧ p.rmSt = 2 ∧ op = 3
    let done := mine ∧ p.rmSt = 4 ∧ p.remap.switched = true ∧ op = 5
    let aborts := mine ∧ p.rmSt < 4 ∧ op = 6
    Sets (.remapStart w) 0xE0200 w 1 s (if bit w.toNat 1 then (abort (q 1)).rmStart else (q 1).rmStart) ∧
    Sets (.remapAbort w) 0xE0200 w 2 s (if bit w.toNat 0 then (abort (q 2)).rmStart else abort (q 2)) ∧
    (woken → same → exec .remapWakeDone s = .next (s.rmTo 2)) ∧
    (woken → ¬ same → exec .remapWakeDone s = .next (s.rmEnd 6 2).rmNext) ∧
    (¬ woken → exec .remapWakeDone s = .next s) ∧
    (wakeLate → exec .remapWakeTimeout s = .next (s.rmEnd 6 3).rmNext) ∧
    (¬ wakeLate → exec .remapWakeTimeout s = .next s) ∧
    (offerLate → exec .remapOfferTimeout s = .next (free.1.rmEnd 6 (3 + free.2 % 2)).rmNext) ∧
    (¬ offerLate → exec .remapOfferTimeout s = .next s) ∧
    (compared → s.remap.differ = false → exec (.remapCompareDone ()) s =
      .next { s.rmTo 4 with remap := { s.remap with since := s.clk, turn := t } }) ∧
    (compared → s.remap.differ = true → exec (.remapCompareDone ()) s = .next (s.rmEnd 6 5).rmNext) ∧
    (¬ compared → exec (.remapCompareDone ()) s = .next s) ∧
    (switches → exec .remapSwitchTurn s = .next s.rmSwitch) ∧
    (¬ switches → exec .remapSwitchTurn s = .next s) ∧
    (s.frontCtl n 4 = none → exec (.remapRx n ()) s = .next s) ∧
    (came → ack → s.remap.hitless = true → exec (.remapRx n ()) s =
      .next { three with remap := { three.remap with seenOld := [], seenNew := [], compared := 0, differ := false } }) ∧
    (came → ack → s.remap.hitless = false → exec (.remapRx n ()) s = .next (p.rmTo 4)) ∧
    (came → nak → exec (.remapRx n ()) s = .next (p.rmEnd 6 4).rmNext) ∧
    (came → done → exec (.remapRx n ()) s = .next p.rmDone) ∧
    (came → aborts → exec (.remapRx n ()) s = .next (p.rmEnd 7 0).rmNext) ∧
    (came → op = 1 → exec (.remapRx n ()) s = .next p) ∧
    (came → op ≠ 1 → ¬ ack → ¬ nak → ¬ done → ¬ aborts → exec (.remapRx n ()) s = .next (p.laneViol n 0x08 5 det))

/-! ### Media ports and PTP (chapters 12, 13) -/

/-- FLOW_ENABLE, FLOW_DISABLE, FLOW_CLEAR_STATS and FLOW_ENTRY_WRITE: an operation whose check fails reports the code in RESULT with
FLOW_REFUSED and changes nothing else; else VALID is set or cleared, or words 16-20 go to zero. A word below 16 of an entry that is not
VALID takes what its fields admit, VALID itself excepted; of a VALID entry it is refused with FLOW_WR_REFUSED; status words stand (R350,
R352, R353). Where the spec leaves a point open it rests on the model's choices of log 86, 89. -/
def Obligations.FlowEntryCommands : Prop :=
  ∀ (i : Fin 65536) (k : Fin 32) (w : Word) (s : State),
    let cw := flowCtrlWord w.toNat
    let j := w.toNat % 65536
    let a := fun op => s.writeWord 0x100010 (cw op)
    let rep := fun op code => ((a op).wr F.MEDIA_FLOW_STATUS_INDEX 0 j).wr F.MEDIA_FLOW_STATUS_RESULT 0 code
    let refused := fun op code => ((rep op code).wr F.MEDIA_EVENT_FLOW_REFUSED 0 1).raise Irq.media
    let off := 0x100010
    let eo := 0x800000 + 0x80 * i.val + 4 * k.val
    (∀ op, (a op).rd F.MEDIA_FLOW_CTRL_INDEX 0 = j) ∧
    ((a 1).enableCode j = 0 → Puts (.flowEnable w) off (cw 1) s ((rep 1 0).flowEnable j)) ∧
    ((a 1).enableCode j ≠ 0 → Puts (.flowEnable w) off (cw 1) s (refused 1 ((a 1).enableCode j))) ∧
    ((a 2).disableCode j = 0 → Puts (.flowDisable w) off (cw 2) s ((rep 2 0).flowDisable j)) ∧
    ((a 2).disableCode j ≠ 0 → Puts (.flowDisable w) off (cw 2) s (refused 2 ((a 2).disableCode j))) ∧
    Puts (.flowClearStats w) off (cw 3) s ((rep 3 0).flowClear j) ∧
    (16 ≤ k.val → WinWrites (.flowEntryWrite i k w) false eo w s s) ∧
    (k.val < 16 → s.fValid i = true → WinWrites (.flowEntryWrite i k w) false eo w s
      ((s.wr F.MEDIA_EVENT_FLOW_WR_REFUSED 0 1).raise Irq.media)) ∧
    (k.val < 16 → s.fValid i = false → WinWrites (.flowEntryWrite i k w) false eo w s (s.setFw i k (s.flowTakes i k w.toNat)))

/-- A write that changes SPLIT or PHY of a port with an enabled logical port, or that clears EN of a logical port named by a VALID entry of
a TYPE other than HOST or DROP, sets CFG_REFUSED and leaves the fields; any other write is taken; the loss of link on a port so named is
a fault event of its MEDIA source (R346). A link gained or lost shows in both STATUS registers; no change is nothing. -/
def Obligations.PortConfiguration : Prop :=
  ∀ (n : Fin 8) (l : Fin 32) (k : Fin 33) (u : Bool) (w : Word) (s : State),
    let v := w.toNat
    let on := ((List.range 4).map (· + 4 * n.val)).filter fun l => s.lportOn l
    let change := (bits v 0 2 ≤ 2 ∧ bits v 0 2 ≠ s.rd F.MEDIA_PORT_CFG_SPLIT n) ∨
      (bits v 2 3 ≤ 3 ∧ bits v 2 3 ≠ s.rd F.MEDIA_PORT_CFG_PHY n)
    let po := 0x100100 + 0x20 * n.val
    let lo := 0x100400 + 0x10 * l.val
    let named := fun p : Nat => ∃ i, s.fValid i = true ∧ s.fType i ≠ 0 ∧ s.fType i ≠ 6 ∧ s.fPort i = p
    let pulls := s.on F.MEDIA_LPORT_CFG_EN l = true ∧ bit v 0 = false ∧ named l
    let kept := forEach on (fun m s => s.wr F.MEDIA_LPORT_STATUS_CFG_REFUSED m 1)
      (s.writeFields [(F.MEDIA_PORT_CFG_AN_EN, n, 5), (F.MEDIA_PORT_CFG_LT_EN, n, 6)] v)
    let moves := s.lportLink k = !u ∧ s.lportExists k = true
    let shown := ((s.lwr k F.MEDIA_LPORT_STATUS_LINK F.MGT_STATUS_LINK (b2n u)).lwr k F.MEDIA_LPORT_STATUS_LINK_EV
      F.MGT_STATUS_LINK_EV 1).event F.MEDIA_EVENT_LINK 0 Irq.media
    let both := shown.wr F.MEDIA_PORT_STATUS_LINK (k.val / 4) (withBit (shown.rd F.MEDIA_PORT_STATUS_LINK (k.val / 4)) (k.val % 4) u)
    (¬ change ∨ on = [] → Writes (.mediaPortCfgWrite n w) po w s (s.writeWord po v)) ∧
    (change → on ≠ [] → Writes (.mediaPortCfgWrite n w) po w s kept) ∧
    (change → on ≠ [] → kept.rd F.MEDIA_PORT_CFG_SPLIT n = s.rd F.MEDIA_PORT_CFG_SPLIT n ∧
      kept.rd F.MEDIA_PORT_CFG_PHY n = s.rd F.MEDIA_PORT_CFG_PHY n ∧ ∀ m ∈ on, kept.rd F.MEDIA_LPORT_STATUS_CFG_REFUSED m = 1) ∧
    (pulls → Writes (.mediaLportCfgWrite l w) lo w s (s.wr F.MEDIA_LPORT_STATUS_CFG_REFUSED l 1)) ∧
    (¬ pulls → Writes (.mediaLportCfgWrite l w) lo w s (s.writeWord lo v)) ∧
    (moves → k.val < 32 → u = false → named k → exec (.mediaLinkChange k u) s = .next (both.faultEvent (Src.media (k.val / 4)) true)) ∧
    (moves → k.val < 32 → (u = true ∨ ¬ named k) → exec (.mediaLinkChange k u) s = .next both) ∧
    (moves → k.val = 32 → exec (.mediaLinkChange k u) s = .next shown) ∧
    (¬ moves → exec (.mediaLinkChange k u) s = .next s)

/-- A frame received at an enabled logical port is handled by the first step of R348 that applies: counted, then FCS_ERR, LEN_ERR, PAUSE
(R374), CTRL_DROP, NOMATCH_MAC, CSUM_ERR, its flow entry, or the host; at another port nothing. A pause time ends when it has passed;
else it runs on (R348, R374). Where the spec leaves a point open it rests on the model's choices of log 21, 24, 85. -/
def Obligations.FrameReceived : Prop :=
  ∀ (f : RxFrame) (l : Fin 33) (s : State),
    let p := f.port
    let s0 := s.rxCount p f.len
    let max := s.lrd p F.MEDIA_LPORT_CFG_MAXLEN F.MGT_CFG_MAXLEN + (if f.tags = 0 then 0 else 4)
    let gets := fun t => exec (.mediaFrameRx f) s = .next t
    let on := s.lportOn p = true
    let sized := on ∧ f.fcsOk = true ∧ 64 ≤ f.len ∧ f.len ≤ max
    let own := f.control = false ∧ (bit f.dst 0 = true ∨ s.macHit p f.dst = true)
    let ended := s.lrd l F.MEDIA_LPORT_STATUS_PAUSED F.MGT_STATUS_PAUSED ≠ 0 ∧ tget s.pauseUntil l 0 ≤ s.clk
    (¬ on → gets s) ∧
    (on → f.fcsOk = false → gets (s0.lcnt p F.MEDIA_LPORT_CNT_FCS_ERR F.MGT_CNT_FCS_ERR)) ∧
    (on → f.fcsOk = true → (f.len < 64 ∨ max < f.len) → gets (s0.lcnt p F.MEDIA_LPORT_CNT_LEN_ERR F.MGT_CNT_LEN_ERR)) ∧
    (∀ q, sized → f.control = true → f.pause = some q → gets (s0.rxPause p q)) ∧
    (sized → f.control = true → f.pause = none → gets (s0.lcnt p F.MEDIA_LPORT_CNT_CTRL_DROP F.MGT_CNT_CTRL_DROP)) ∧
    (sized → f.control = false → bit f.dst 0 = false → s.macHit p f.dst = false →
      gets (s0.lcnt p F.MEDIA_LPORT_CNT_NOMATCH_MAC F.MGT_CNT_NOMATCH_MAC)) ∧
    (sized → own → (2 ≤ f.tags ∨ f.udp = none) → gets (s0.rxRest f)) ∧
    (∀ d, sized → own → f.tags < 2 → f.udp = some d → d.csumOk = false →
      gets (s0.lcnt p F.MEDIA_LPORT_CNT_CSUM_ERR F.MGT_CNT_CSUM_ERR)) ∧
    (∀ d i, sized → own → f.tags < 2 → f.udp = some d → d.csumOk = true → s.flowMatch p d = some i → gets (s0.rxFlow i f d)) ∧
    (∀ d, sized → own → f.tags < 2 → f.udp = some d → d.csumOk = true → s.flowMatch p d = none → gets (s0.rxRest f)) ∧
    (ended → exec (.pauseExpire l) s =
      .next { s.lwr l F.MEDIA_LPORT_STATUS_PAUSED F.MGT_STATUS_PAUSED 0 with pauseUntil := tput s.pauseUntil l 0 0 }) ∧
    (¬ ended → exec (.pauseExpire l) s = .next s)

/-- Receive strands: a line is judged at its egress instant, line 1 starting the frame; a flow silent for a frame period is lost (R358,
R359). Sends: a VIDEO packet leaves at its instant in order, an audio packet after its samples, the packets of an ANC field together up
to the operand's count (the model's choice, log 148), none while the group carries fill (R360, R362, R366, R368). Opaque strands: a
packet is forwarded 2 us after arrival, or dropped where the strand is not routed; the source switches when both markers have come, or
after two frame periods with UNDERRUN (R369, R370). What is not due changes nothing. Where the spec leaves a point open it rests on the
model's choices of log 23, 25, 26, 87, 88, 135, 148. -/
def Obligations.FlowTraffic : Prop :=
  ∀ (i : Fin 65536) (d : Fin 6336) (f k n : Nat) (s : State),
    let r := s.fRaster i
    let e := s.egress r
    let l := if s.fStruct i = 6 then (e.line + 1) / 2 else e.line
    let rx := s.fValid i = true ∧ s.fDir i = 0
    let tx := s.fValid i = true ∧ s.fDir i = 1
    let lineNow := rx ∧ s.fType i = 1 ∧ s.enabled r = true ∧ e.sample = 0 ∧ ipRasterLine (s.fStruct i) l = e.line ∧
      (s.fb i).judged ≠ (e.frame, l)
    let p := rateClocks (s.fRate i)
    let silent := rx ∧ (s.fType i = 1 ∨ s.fType i = 5) ∧ (s.fb i).lastRx * p.2 + p.1 ≤ s.clk * p.2
    let npk := s.npackets i
    let seq := (f * npk + k) % 2 ^ 32
    let inOrder := ∀ x, (s.fst i).next = some x → (seq + 2 ^ 32 - x) % 2 ^ 32 < 2 ^ 31
    let videoDue := tx ∧ s.fType i = 1 ∧ s.enabled r = true ∧ f ≤ (s.pos r).frame ∧ k < npk ∧ inOrder ∧
      s.txDue i npk k ≤ s.sinceFrame r f * npk ∧ s.sendFill i = false
    let per := if s.fPtime i then 6 else 48
    let q := s.aud.bnd / per
    let b := (q - 1) * per
    let audioDue := tx ∧ s.fAudio i = true ∧ 0 < q ∧ (s.fst i).next ≠ some q
    let anc := tx ∧ s.fType i = 4 ∧ s.sendFill i = false
    let x := s.fst i
    let ar := ((s.flowOfSlot (s.fSlot i) 1).map s.fRaster).getD 0
    let wait := tget s.ancOut (s.fSlot i) []
    let mine := fun (p : Nat × Nat) => (wait.takeWhile fun a => decide ((a.frame, a.field) = p)).take n
    let rest := fun (p : Nat × Nat) => wait.drop (mine p).length
    let mark := fun (p : Nat × Nat) => !((rest p).any fun a => decide ((a.frame, a.field) = p)) && s.fieldOver ar p
    let idx := fun (p : Nat × Nat) => if (x.part.1, x.part.2.1) = p then x.part.2.2 else 0
    let aseq := x.next.getD (s.draw.2 % 2 ^ 32)
    let data := fun (p : Nat × Nat) => (mine p).flatMap ancBits
    let body := fun (p : Nat × Nat) =>
      beBytes 2 (aseq / 65536) ++ beBytes 2 (data p).length ++ [(mine p).length % 256, p.2 * 64, 0, 0] ++ data p
    let left := fun (p : Nat × Nat) =>
      { s.draw.1.setFst i { x with next := some ((aseq + 1) % 2 ^ 32), marked := mark p, part := (p.1, p.2, idx p + 1) } with
        ancOut := tput s.ancOut (s.fSlot i) (rest p) [] }
    let o := tget s.opaques d.val {}
    let es := s.opaqueSenders d
    let po := rateClocks (s.fRate (es.headD 0))
    let both := o.nxt.isSome = true ∧ o.oldMark = true ∧ o.newMark = true
    let late := o.nxt.isSome = true ∧ (o.oldMark && o.newMark) = false ∧ o.switchAt * po.2 + 2 * po.1 ≤ s.clk * po.2
    let take := fun (rest : List (Nat × List Nat)) => { s with opaques := tput s.opaques d.val { o with fifo := rest } {} }
    (lineNow → l ≠ 1 → exec (.ipLineEgress i) s = .next (s.bindLine i e.frame l)) ∧
    (lineNow → l = 1 → exec (.ipLineEgress i) s = .next ((s.bindFrame i e.frame).bindLine i e.frame 1)) ∧
    (¬ lineNow → exec (.ipLineEgress i) s = .next s) ∧
    (silent → exec (.ipFlowTimeout i) s =
      .next ((s.setFb i { s.fb i with lost := true }).showSlots (s.fSlot i) (s.fWidth i))) ∧
    (¬ silent → exec (.ipFlowTimeout i) s = .next s) ∧
    (videoDue → exec (.videoPacketTx i f k () ()) s = .next ((s.draw.1.setFst i { x with next := some ((seq + 1) % 2 ^ 32) }).sendPacket i
      (f * 65536 + (if interlaced (s.fStruct i) then k % (npk / 2) else k)) (s.videoPacket i f npk k))) ∧
    (¬ videoDue → exec (.videoPacketTx i f k () ()) s = .next s) ∧
    (audioDue → exec (.audioPacketTx i) s = .next ((s.setFst i { x with next := some q }).sendPacket i b
      (s.rtpBytes i false ((q - 1) % 65536) ((if s.f96 i then 2 * b else b) % 2 ^ 32) (s.audioPayload i b per)))) ∧
    (¬ audioDue → exec (.audioPacketTx i) s = .next s) ∧
    (∀ p, anc → s.ancNow i = some p → (mine p ≠ [] ∨ mark p = true) → exec (.ancPacketTx i n) s =
      .next ((left p).sendPacket i (p.1 * 65536 + idx p)
        (s.rtpBytes i (mark p) (aseq % 65536) (s.frameTs ar p.1 (p.2 = 3)) (body p)))) ∧
    ((¬ anc ∨ ∀ p, s.ancNow i = some p → mine p = [] ∧ mark p = false) → exec (.ancPacketTx i n) s = .next s) ∧
    (∀ a rest, o.fifo = a :: rest → a.1 + 2 * usClk ≤ s.clk → s.opaqueOpen d = true → exec (.opaqueForward d) s =
      .next (forEach es (fun i s => s.sendPacket i 0 (s.reheaded i a.2)) (take rest))) ∧
    (∀ a rest, o.fifo = a :: rest → a.1 + 2 * usClk ≤ s.clk → s.opaqueOpen d = false → exec (.opaqueForward d) s = .next (take rest)) ∧
    ((∀ a, o.fifo.head? = some a → s.clk < a.1 + 2 * usClk) → exec (.opaqueForward d) s = .next s) ∧
    (both → exec (.opaqueSourceSwitch d) s = .next (s.opaqueSwitch d)) ∧
    (¬ both → exec (.opaqueSourceSwitch d) s = .next s) ∧
    (late → exec (.opaqueSwitchTimeout d) s = .next (forEach es (fun i s => s.fUnderrun i) (s.opaqueSwitch d))) ∧
    (¬ late → exec (.opaqueSwitchTimeout d) s = .next s)

/-- Host rings: a TAIL beyond the ring is a RING_ERR and is not taken. A transmit descriptor is sent, padded to 60 bytes, or reported with
its RESULT and not sent; it waits while its port is paused or it would displace an essence packet; its transmit timestamp joins the
queue where asked for. MGT idles after LPI_IDLE us without a frame to send, but not at 2.5 Gb/s; else nothing changes (R374-R377, R378,
R384, R533). Where the spec leaves a point open it rests on the model's choices of log 90, 92. -/
def Obligations.RingCommands : Prop :=
  ∀ (m : Fin 9) (w2 w3 : Nat) (fr : Option (List Nat)) (w : Word) (s : State),
    let v := w.toNat
    let tooFar := fun (r : RingRegs) => s.pktSlots r < (v + 2 ^ 32 - s.rd r.head r.idx) % 2 ^ 32
    let err := (s.wr F.MEDIA_EVENT_RING_ERR 0 1).raise Irq.media
    let r := txRing m
    let t := if m.val < 8 then 4 * m.val + bits w2 14 2 else 32
    let len := bits w2 0 14
    let res := s.txResult t len fr.isNone
    let free := s.hostMaySend t len = true
    let done := fun c => s.ringPut r (2 * m.val + 1) [1 + 2 * c, 0, 0, 0]
    let bytes := (List.range len).map fun k => (fr.getD []).getD k 0 % 256
    let sent := (done 0).wireOut t (bytes ++ List.replicate (60 - len) 0)
    let woken := if m.val = 8 then { sent.wr F.MGT_STATUS_LPI 0 0 with lpiSince := s.clk } else sent
    let stamp := s.stamp t false
    let gen := s.rd F.PTP_STATUS_STEP_GEN 0 % 4
    let from' := 65536 * (if m.val < 8 then t % 4 else 0) + 2 ^ 18 * b2n (s.on F.PTP_PORT_CFG_CORR_EN t)
    let idles := s.on F.MGT_CFG_EN 0 = true ∧ s.on F.MGT_CFG_EEE_EN 0 = true ∧ s.rd F.MGT_CFG_SPEED 0 ≠ 1 ∧
      s.ringReady (txRing 8) = false ∧ s.lpiSince + s.rd F.MGT_CFG_LPI_IDLE 0 * usClk ≤ s.clk
    (tooFar (txRing m) → Writes (.txRingDoorbell m w) (ringTailOff m 1) w s err) ∧
    (¬ tooFar (txRing m) → Writes (.txRingDoorbell m w) (ringTailOff m 1) w s (s.wr (txRing m).tail (txRing m).idx v)) ∧
    (tooFar (rxRing m) → Writes (.rxRingPost m w) (ringTailOff m 0) w s err) ∧
    (¬ tooFar (rxRing m) → Writes (.rxRingPost m w) (ringTailOff m 0) w s (s.wr (rxRing m).tail (rxRing m).idx v)) ∧
    (s.ringReady r = true → res ≠ 0 → exec (.txDescriptorSend m w2 w3 fr) s = .next (done res)) ∧
    (s.ringReady r = true → res = 0 → free → bit w2 16 = false → exec (.txDescriptorSend m w2 w3 fr) s = .next woken) ∧
    (s.ringReady r = true → res = 0 → free → bit w2 16 = true → exec (.txDescriptorSend m w2 w3 fr) s =
      .next (woken.txqPush m [stamp.words.getD 0 0, stamp.words.getD 1 0, stamp.words.getD 2 0 + 2 ^ 30 * gen, bits w3 0 16 + from'])) ∧
    ((s.ringReady r = false ∨ (res = 0 ∧ ¬ free)) → exec (.txDescriptorSend m w2 w3 fr) s = .next s) ∧
    (idles → exec .lpiEnter s = .next (s.wr F.MGT_STATUS_LPI 0 1)) ∧
    (¬ idles → exec .lpiEnter s = .next s)

/-- The PTP clock's registers: an addend within 500 ppm is the new rate, one beyond it RATE_REFUSED; one armed step, else STEP_REFUSED, with
REARM after it where both bits are set; REARM unless a raster is locked to PTP; POP takes the head of a transmit timestamp queue
(R387-R391). Where the spec leaves a point open it rests on the model's choices of log 4. -/
def Obligations.PtpCommands : Prop :=
  ∀ (q : Fin 9) (w : Word) (s : State),
    let a := s.rd F.PTP_ADDEND_ADD_LO 0 + 2 ^ 32 * w.toNat
    let moved := ({ s with ptp := s.ptp.step s.stepOffset }.wr F.PTP_STATUS_ARMED 0 0).addWrap F.PTP_STATUS_STEP_GEN 0 1
    let stepped := if s.on F.PTP_STATUS_ARMED 0 = true ∧ s.ptpLocked = false then
        (if s.sel = some 4 then (moved.wr F.REFSEL_PTP_VALID_PTP_VALID 0 0).candAbsent 4 else moved)
      else s.wr F.PTP_STATUS_STEP_REFUSED 0 1
    let rearmed := fun t : State => if t.ptpLocked then t.wr F.PTP_STATUS_REARM_REFUSED 0 1 else t.wr F.PTP_STATUS_ARMED 0 1
    ((sx 64 a).natAbs ≤ 9223372036854775 → Writes (.ptpAddendWrite w) 0x13000C w s
      { s.wr F.PTP_ADDEND_ADD_HI 0 w.toNat with addend := a }) ∧
    (9223372036854775 < (sx 64 a).natAbs → Writes (.ptpAddendWrite w) 0x13000C w s (s.wr F.PTP_STATUS_RATE_REFUSED 0 1)) ∧
    (bit w.toNat 1 = false → Sets (.ptpStepGo w) 0x130000 w 1 s stepped) ∧
    (bit w.toNat 1 = true → Sets (.ptpStepGo w) 0x130000 w 1 s (rearmed stepped)) ∧
    (bit w.toNat 0 = false → Sets (.ptpRearm w) 0x130000 w 2 s (rearmed s)) ∧
    (bit w.toNat 0 = true → Sets (.ptpRearm w) 0x130000 w 2 s (rearmed stepped)) ∧
    (bit w.toNat 0 = true → Writes (.ptpTxqPop q w) (0x130408 + 0x40 * q.val) w s (s.setTxq q (tget s.txq q []).tail)) ∧
    (bit w.toNat 0 = false → Writes (.ptpTxqPop q w) (0x130408 + 0x40 * q.val) w s s)

/-! ### Twin operation (chapter 14) -/

/-- Reception: a device that seeks no twin takes no message; one whose SEQ is not the next is heard, and held if early; one that only the
side of this device's role sends is a breach logged and ignored. A message with a bad frame is counted in UNCORR, one of a wrong LEN is
a breach, one of a reserved TYPE is a breach and acknowledged, one whose CRC fails is dropped (R394, R395, R398, R414). The link and
ownership: LOST after 30 us of silence or with no lane framed; a message unacknowledged for 24 us goes again, three times, then the link
is LOST; a standby takes ownership at GIVEUP, and with TAKE_ON_SILENCE after SILENT_MS of a lost link, an ACTIVE device leaves its role
at GIVEUP; else nothing changes (R395, R409-R411). Where the spec leaves a point open it rests on the model's choices of log 28, 50, 51,
128. -/
def Obligations.TwinLink : Prop :=
  (∀ (h : CobHdr) (v som pc code : Nat) (b ws : List Nat) (n : Fin 5) (lane : Fin 4) (u : Bool) (s : State),
    let g := wordsHdr lane ws
    let sound := u = false ∧ badLen som ws = false
    let unknown := goodCrc ws = true ∧ reservedType (wordsType ws) = true
    let c := Instr.discardedMessageRx lane (som, ws) u
    (s.seeks = false → exec (.helloRx h b) s = .next s ∧ exec (.timeRx h v) s = .next s ∧ exec (.recordRx h n ws) s = .next s) ∧
    (s.seeks = true → h.seq ≠ (s.heard h).twin.rxSeq → s.comesEarly h = false →
      exec (.helloRx h b) s = .next (s.heard h) ∧ exec (.timeRx h v) s = .next (s.heard h)) ∧
    (s.seeks = true → h.seq ≠ (s.heard h).twin.rxSeq → s.comesEarly h = true → ∃ t,
      exec (.helloRx h b) s = .next t ∧ t.twin.held.head? = some (h, .hello b) ∧ { t with twin := (s.heard h).twin } = s.heard h) ∧
    (s.Delivers h → (s.taken h).role = 1 → s.waiting h = 0 →
      exec (.timeRx h v) s = .next ((s.taken h).cobaltBreach 0x03 1 Mt.time h.seq) ∧
      exec (.recordRx h n ws) s = .next ((s.taken h).cobaltBreach 0x03 1 Mt.record h.seq)) ∧
    (s.Delivers h → (s.taken h).role = 2 → s.waiting h = 0 →
      exec (.cackRx h n pc code) s = .next ((s.taken h).cobaltBreach 0x03 1 Mt.cack h.seq)) ∧
    (s.seeks = false → exec c s = .next s) ∧
    (s.seeks = true → u = true → exec c s = .next (s.incSat F.COBALT_LANE_UNCORR lane)) ∧
    (s.seeks = true → u = false → badLen som ws = true → exec c s = .next (s.cobaltBreach 0x01 1 (wordsType ws) g.seq)) ∧
    (sound → unknown → Receives c g (.other (wordsType ws)) s ((s.taken g).cobaltBreach 0x02 1 (wordsType ws) g.seq)) ∧
    (sound → ¬ unknown → exec c s = .next s)) ∧
  (∀ (h : CobHdr) (reason : Fin 256) (unframed : Bool) (s : State),
    let x := s.taken h
    let oldest := s.twin.unacked.find? fun m => decide (m.sent + 24 * usClk ≤ s.clk)
    let silent := s.mode = Mode.standby ∧ s.on F.COBALT_CTRL_TAKE_ON_SILENCE 0 = true ∧ s.pair = Ps.lost ∧
      s.twin.lostAt + s.rd F.COBALT_CFG_SILENT_MS 0 * msClk ≤ s.clk
    let gone := s.on F.COBALT_STATUS_LINK_UP 0 = true ∧ (unframed = true ∨ s.twin.lastRx + 30 * usClk ≤ s.clk)
    (gone → exec (.cobaltLinkLost unframed) s = .next s.linkLost) ∧
    (¬ gone → exec (.cobaltLinkLost unframed) s = .next s) ∧
    (∀ m, oldest = some m → 3 ≤ m.tries → exec (.cobaltRetxTimeout ()) s = .next s.linkLost) ∧
    (∀ m, oldest = some m → m.tries < 3 → exec (.cobaltRetxTimeout ()) s =
      .next ((s.transmit { m with tries := m.tries + 1 }).incSat F.COBALT_LANE_RETX s.shortLane.1)) ∧
    (oldest = none → exec (.cobaltRetxTimeout ()) s = .next s) ∧
    (x.mode = Mode.standby → Receives (.giveupRx h reason) h .giveup s x.takeOwn.reselect) ∧
    (x.mode = Mode.active → Receives (.giveupRx h reason) h .giveup s (x.leaveActive Mode.standby).reselect) ∧
    (x.mode ≠ Mode.standby → x.mode ≠ Mode.active → Receives (.giveupRx h reason) h .giveup s x) ∧
    (silent → exec .silenceTakeover s = .next s.takeOwn.reselect) ∧
    (¬ silent → exec .silenceTakeover s = .next s))

/-- Pairing: a HELLO that passes pairs the devices and one that does not names its FAIL_REASON; where none is sought it is nothing. A write
of COBALT_CTRL takes its settings, PAIR_EN begins or ends the search, then TAKE on a standby, then RESYNC, which starts a transfer or
asks for one. STATUS goes every 10 us and is taken; an ECHO is asked for every second of a pair, is answered, and gives half the loop
delay and SKEW; an ACTIVE device sends its time and a standby measures it as a candidate; else nothing changes (R392, R396, R397, R404,
R410, R460). The REASON of a GIVEUP is a free value (log 76). Where the spec leaves a point open it rests on the model's choices of log
29, 76, 93, 95. -/
def Obligations.PairingCommands : Prop :=
  ∀ (h : CobHdr) (b : List Nat) (mode pair : Fin 8) (own resync low : Bool) (orig rx tx v : Nat) (w : Word) (s : State),
    let x := s.taken h
    let met := x.setTwin fun t => { t with peerMode := b.getD 3 0 }
    let ctl := fun (w : Nat) => ((s.writeWord 0x140000 w).pairEn (s.on F.COBALT_CTRL_PAIR_EN 0)).reselect
    let take := fun (t : State) => if t.mode = Mode.standby then (t.draw.1.send Mt.giveup [t.draw.2 % 256]).takeOwn else t
    let again := fun (t : State) =>
      if t.on F.COBALT_STATUS_LINK_UP 0 = false then t
      else if t.mode = Mode.active ∧ Ps.transfer ≤ t.pair ∧ t.pair ≤ Ps.inStep then t.startTransfer
      else if t.mode = Mode.standby then t.setTwin fun t => { t with resyncAsked := true } else t
    let done := fun (v : Nat) (five six : Bool) =>
      let a := if five then take (ctl v) else ctl v
      if six then again a else a
    let src := fun lo n => ((List.range n).map fun i => s.rd F.FLT_STATUS_SRC (lo + i) * 2 ^ i).foldl (· + ·) 0
    let status := [s.mode, s.role, s.rd F.TOP_DEV_MODE_OWN 0, s.pair, s.refCond, src 0 32, src 32 17,
      b2n s.twin.resyncAsked + 2 * b2n (!s.pins.ready)]
    let echoDue := (∀ t, s.twin.lastEcho = some t → t + sClk ≤ s.clk) ∧ Ps.transfer ≤ s.pair ∧ s.pair ≤ Ps.inStep
    let loop : Int := (x.house : Int) - orig - ((tx : Int) - rx)
    (x.pair = Ps.hello → x.pairFails b = 0 → Receives (.helloRx h b) h (.hello b) s (met.paired b)) ∧
    (x.pair = Ps.hello → x.pairFails b ≠ 0 → Receives (.helloRx h b) h (.hello b) s
      (((met.setPair Ps.failed).wr F.COBALT_STATUS_FAIL_REASON 0 (x.pairFails b)).event F.COBALT_EVENT_PAIR_FAIL 0 Irq.cobalt)) ∧
    (x.pair ≠ Ps.hello → Receives (.helloRx h b) h (.hello b) s x) ∧
    Writes (.pairEnWrite w) 0x140000 w s (done w.toNat (bit w.toNat 5) (bit w.toNat 6)) ∧
    Sets (.take w) 0x140000 w 32 s (done (Nat.lor w.toNat 32) true (bit w.toNat 6)) ∧
    Sets (.cobaltResync w) 0x140000 w 64 s (done (Nat.lor w.toNat 64) (bit w.toNat 5) true) ∧
    (s.twin.lastStatus + 10 * usClk ≤ s.clk → exec .cobaltStatusTx s =
      .next ((s.send Mt.status status).setTwin fun t => { t with lastStatus := s.clk })) ∧
    (s.clk < s.twin.lastStatus + 10 * usClk → exec .cobaltStatusTx s = .next s) ∧
    Receives (.cobaltStatusRx h mode pair own resync low) h (.status mode pair own resync low) s
      (x.peerStatus mode pair own resync low) ∧
    (echoDue → exec .cobaltEchoTx s = .next ((s.send Mt.echo (houseValue s.houseAtSom ++ houseValue 0 ++ houseValue 0)).setTwin fun t =>
      { t with lastEcho := some s.clk })) ∧
    (¬ echoDue → exec .cobaltEchoTx s = .next s) ∧
    (rx = 0 ∧ tx = 0 → Receives (.echoRx h orig rx tx) h (.echo orig rx tx) s
      (x.send Mt.echo (houseValue orig ++ houseValue x.house ++ houseValue x.houseAtSom))) ∧
    (¬ (rx = 0 ∧ tx = 0) → Receives (.echoRx h orig rx tx) h (.echo orig rx tx) s (x.wr F.COBALT_DELAY_ONE_WAY 0
      (Nat.min (loop * 10 / (2 * nsUnits : Nat) + sx 16 (x.rd F.COBALT_DELAY_SKEW 0)).toNat 65535))) ∧
    (s.mode = Mode.active → exec .cobaltTimeTx s = .next (s.send Mt.time (houseValue s.houseAtSom))) ∧
    (s.mode ≠ Mode.active → exec .cobaltTimeTx s = .next s) ∧
    ReceivesFrom 1 Mt.time (.timeRx h v) h (.time v) s (x.twinTime v h.seq)

/-- The state transfer and its digests: the copy is taken at the first quiet instant and sent object by object (their layout is the model's
choice, log 30); a standby joins the parts of each and installs it whole, and with the last the pair converges, both sides marking what
is not yet rewritten. The digests of an ended frame are sent once and both sides' are compared; 64 clean frames bring IN_STEP; what is
not due changes nothing (R403-R406). Where the spec leaves a point open it rests on the model's choices of log 30, 93, 96. -/
def Obligations.TransferAndDigests : Prop :=
  ∀ (h : CobHdr) (o off frame : Nat) (ws : List Nat) (n : Fin 8) (errs : List (Fin 8192)) (es : List (Nat × Nat)) (s : State),
    let x := s.taken h
    let all := (if off = 0 then [] else x.twin.part.take off) ++ ws
    let whole := all.headD 0 = all.length
    let joined := (x.setTwin fun t => { t with part := all, alone := true }).setPair Ps.transfer
    let y := joined.install o (rowsFrom all.length all.tail)
    let f := (s.pos n).frame
    let freezes := s.mode = Mode.active ∧ s.pair = Ps.transfer ∧ s.twin.transferring = false ∧ s.twin.peerMode = Mode.standby ∧
      s.twin.peerReset = false ∧ s.on F.COBALT_STATUS_LINK_UP 0 = true ∧ s.enginesQuiet = true
    let ended := s.enabled n = true ∧ 0 < f ∧ (tget s.twin.digests (2 * n.val) []).head? ≠ some (f - 1)
    let clean := s.pair = Ps.converging ∧ 64 ≤ s.twin.cleanFrames ∧ s.twin.alone = false
    let c := Instr.stateRx h o (off, ws)
    let m := Received.state o off ws
    (freezes → exec .stateTransferFreeze s =
        .next ((forEach ((List.range stateObjects).map (· + 1)) (fun o s' => s'.sendObject o (flatRows (s.object o))) s).markCopied.setTwin
          fun t => { t with transferring := true, alone := false })) ∧
    (¬ freezes → exec .stateTransferFreeze s = .next s) ∧
    (x.role ≠ 2 → ReceivesFrom 1 Mt.state c h m s x) ∧
    (x.role = 2 → ¬ whole → ReceivesFrom 1 Mt.state c h m s joined) ∧
    (x.role = 2 → whole → o ≠ stateObjects → ReceivesFrom 1 Mt.state c h m s
      (y.setTwin fun t => { t with part := [], got := o :: (if o = 1 then [] else x.twin.got) })) ∧
    (x.role = 2 → whole → o = stateObjects → ReceivesFrom 1 Mt.state c h m s (((y.markCopied.setTwin fun t =>
      { t with part := [], got := [], alone := false, resyncAsked := false, cleanFrames := 0 }).setPair Ps.converging).admShow)) ∧
    (ended → exec (.digestTx n errs) s =
      .next ((s.sendDigest n.val (f - 1) (s.digEntries n errs)).digStore (2 * n.val) (f - 1) (s.digEntries n errs) true)) ∧
    (¬ ended → exec (.digestTx n errs) s = .next s) ∧
    Receives (.digestRx h n frame es) h (.digest n frame es) s (x.digStore (2 * n.val + 1) frame es (decide (es.length < 1019))) ∧
    (clean → exec .pairInStep s = .next ((s.setPair Ps.inStep).event F.COBALT_EVENT_PAIRED 0 Irq.cobalt).swapTimer) ∧
    (¬ clean → exec .pairInStep s = .next s)

/-- Swaps. A write carries out CANCEL, which withdraws one, then GO, which proposes one at the target frame or refuses it with its REASON;
SWAP_AUTO proposes one each period. A PROPOSE is agreed or refused; an AGREE of the proposed frame agrees, of another is a breach; a
REFUSE ends it, a DEFER moves it, any of no swap under way is nothing. From a frame before it the ACTIVE device fetches no records; at
its switch line the devices change roles, or defer while a cue window holds a record, 16 times at most; else nothing changes (R412,
R413). A swap taken: ownership, role and mode change hands, STATE reads done, SWAP_DONE is raised (R413). Where the spec leaves a point
open it rests on the model's choices of log 94. -/
def Obligations.SwapCommands : Prop :=
  (∀ (h : CobHdr) (f : Nat) (w : Word) (s : State),
    let x := s.taken h
    let t := s.twin
    let propose := fun (u : State) => u.swapPropose (u.rd64 F.COBALT_SWAP_TGT_FRAME_LO F.COBALT_SWAP_TGT_FRAME_HI 0)
    let first := (s.pos 0).frame + 1
    let fits := x.pair = Ps.inStep ∧ x.mode = Mode.standby ∧ x.twin.swapActive = false ∧ (x.pos 0).frame + 1 ≤ f
    let held := s.engs.any (fun e => e.2.win.isSome) = true
    let due := t.swapAgreed = true ∧ s.reachedSwitch t.swapFrame = true
    let auto := s.on F.COBALT_CTRL_SWAP_AUTO 0 = true ∧ s.mode = Mode.active ∧ t.swapBase + s.swapPeriod ≤ s.clk
    let stops := t.swapAgreed = true ∧ s.mode = Mode.active ∧ t.swapFrame ≤ first
    let deferred := fun s1 : State => (s1.wr F.COBALT_SWAP_CTRL_STATE 0 2).setTwin fun t =>
      { t with swapFrame := t.swapFrame + 1, swapDefer := t.swapDefer + 1 }
    let gets := fun (op : Fin 5) (u : State) => Receives (.swapRx h op f) h (.swap op f) s u
    Sets (.swapGo w) 0x140010 w 1 s (propose (if bit w.toNat 1 then s.swapCancel else s)) ∧
    Sets (.swapCancel w) 0x140010 w 2 s (if bit w.toNat 0 then propose s.swapCancel else s.swapCancel) ∧
    (s.pair ≠ Ps.inStep → s.swapPropose f = s.swapRefuse 1) ∧
    (s.pair = Ps.inStep → s.mode ≠ Mode.active → s.swapPropose f = s.swapRefuse 2) ∧
    (s.pair = Ps.inStep → s.mode = Mode.active → t.swapActive = true → s.swapPropose f = s.swapRefuse 3) ∧
    (s.pair = Ps.inStep → s.mode = Mode.active → t.swapActive = false → f < first → s.swapPropose f = s.swapRefuse 4) ∧
    (s.pair = Ps.inStep → s.mode = Mode.active → t.swapActive = false → first ≤ f → s.swapPropose f =
      (((s.wr F.COBALT_SWAP_CTRL_STATE 0 0).wr F.COBALT_SWAP_CTRL_REASON 0 0).send Mt.swap [1, f]).setTwin fun t =>
        { t with swapActive := true, swapAgreed := false, swapFrame := f, swapDefer := 0 }) ∧
    (auto → exec .swapAutoTimer s = .next (s.swapPropose first).swapTimer) ∧
    (¬ auto → exec .swapAutoTimer s = .next s) ∧
    gets 0 x ∧
    (fits → gets 1 (((x.send Mt.swap [2, f]).wr F.COBALT_SWAP_CTRL_STATE 0 1).setTwin fun t =>
      { t with swapActive := true, swapAgreed := true, swapFrame := f, swapDefer := 0 })) ∧
    (¬ fits → gets 1 (x.send Mt.swap [3, f])) ∧
    (x.twin.swapActive = false ∨ x.twin.swapAgreed = true → gets 2 x) ∧
    (x.twin.swapActive = true → x.twin.swapAgreed = false → f = x.twin.swapFrame →
      gets 2 ((x.wr F.COBALT_SWAP_CTRL_STATE 0 1).setTwin fun t => { t with swapAgreed := true })) ∧
    (x.twin.swapActive = true → x.twin.swapAgreed = false → f ≠ x.twin.swapFrame →
      gets 2 ((x.cobaltBreach 0x05 5 Mt.swap h.seq).swapDrop.swapRefuse 5)) ∧
    (x.twin.swapActive = false → gets 3 x) ∧
    (x.twin.swapActive = true → x.mode = Mode.active → gets 3 (x.swapDrop.swapRefuse 5)) ∧
    (x.twin.swapActive = true → x.mode ≠ Mode.active →
      gets 3 ((x.swapDrop.wr F.COBALT_SWAP_CTRL_STATE 0 0).wr F.COBALT_SWAP_CTRL_REASON 0 0)) ∧
    (x.twin.swapAgreed = true → gets 4 ((x.wr F.COBALT_SWAP_CTRL_STATE 0 2).setTwin fun t => { t with swapFrame := f })) ∧
    (x.twin.swapAgreed = false → gets 4 x) ∧
    (stops → exec .swapFetchStop s = .next (s.setTwin fun t => { t with fetchStop := true })) ∧
    (¬ stops → exec .swapFetchStop s = .next s) ∧
    (due → ¬ held → exec .swapExecute s = .next s.swapTake) ∧
    (due → held → 16 ≤ t.swapDefer → exec .swapExecute s = .next (s.swapDrop.swapRefuse 3)) ∧
    (due → held → t.swapDefer < 16 → s.mode = Mode.active → exec .swapExecute s =
      .next (deferred (s.send Mt.swap [4, t.swapFrame + 1]))) ∧
    (due → held → t.swapDefer < 16 → s.mode ≠ Mode.active → exec .swapExecute s = .next (deferred s)) ∧
    (¬ due → exec .swapExecute s = .next s)) ∧
  (∀ s : State, s.twin.swapAgreed = true → s.reachedSwitch s.twin.swapFrame = true → s.engs.any (fun e => e.2.win.isSome) = false →
    ∃ t, exec .swapExecute s = .next t ∧ t.rd F.COBALT_SWAP_CTRL_STATE 0 = 3 ∧ t.rd F.COBALT_EVENT_SWAP_DONE 0 = 1 ∧
      t.twin.swapActive = false ∧ t.mode = (if s.mode = Mode.active then Mode.standby else Mode.active) ∧
      t.role = (if s.mode = Mode.active then 2 else 1))

/-- Mirroring on a standby that follows: a record enters its engine's window, a value waits for its instruction, a host write is applied at
the active's position, a host grant is entered; one that finds no counterpart takes the pair out of step; elsewhere they are nothing. A
commit that waits is accepted at its CACK, another CACK is out of step, but nothing on a device that runs alone; after ACK_TIMEOUT it is
accepted alone, with a fault event of the partner where the device mirrors; else nothing changes (R168-R170, R399, R402, R403). Where
the spec leaves a point open it rests on the model's choices of log 45, 46, 47, 48, 49, 50, 51, 52, 53. -/
def Obligations.MirrorCommands : Prop :=
  ∀ (h : CobHdr) (n : Fin 5) (m : Fin 8) (ws v data : List Nat) (pc kind code space off : Nat) (p : Pos) (s : State),
    let x := s.taken h
    let item := [h.seq, m.val, pc, kind, p.frame % 2 ^ 32, p.frame / 2 ^ 32 % 2 ^ 32, p.line % 65536 + 65536 * (p.sample % 65536)] ++ v
    let free := (x.eng n).win = none ∧ (x.es n = Es.idle ∨ x.es n = Es.running ∨ x.es n = Es.waiting)
    let idle := 4 < m.val ∨ ((x.eng m).wait = .none ∧ x.es m ≠ Es.running)
    let wait := fun (since own : Nat) (d : Option Nat) => s.commitWait n = some (since, own, d)
    let late := fun (since : Nat) => s.fromMirror = false ∧ since + s.rd F.COBALT_CFG_ACK_TIMEOUT 0 * usClk ≤ s.clk
    let alone := fun (own : Nat) (d : Option Nat) => s.commitEnd n own d own
    let record := ReceivesFrom 1 Mt.record (.recordRx h n ws) h (.record n ws) s
    let value := ReceivesFrom 1 Mt.value (.valueRx h m pc kind p v) h (.value m pc kind p v) s
    let hostw := ReceivesFrom 1 Mt.hostw (.hostwRx h space off p data) h (.hostw space off p data) s
    let cack := ReceivesFrom 2 Mt.cack (.cackRx h n pc code) h (.cack n pc) s
    (x.follows = false → record x ∧ value x ∧ hostw x) ∧
    (x.follows = true → free → bit (ws.getD 0 0) 25 = false → record (x.loadWindow n ws)) ∧
    (x.follows = true → free → bit (ws.getD 0 0) 25 = true →
      record ((x.wr64 F.CUE_AUTH_CTR_LO F.CUE_AUTH_CTR_HI n (recCounter ws)).loadWindow n ws)) ∧
    (x.follows = true → ¬ free → record (x.outOfStep Mt.record h.seq)) ∧
    (x.follows = true → m = 7 → value (x.mirrorHost v h.seq)) ∧
    (x.follows = true → m ≠ 7 → ¬ idle → value ((x.setEng m { x.eng m with vals := (x.eng m).vals ++ [item] }).mirrorEnd m)) ∧
    (x.follows = true → m ≠ 7 → idle → value (x.outOfStep Mt.value h.seq)) ∧
    (x.follows = true → hostw (x.atPos p fun s => s.hostwApply space off h.seq data)) ∧
    (∀ since own d, x.commitWait n = some (since, own, d) → pc = x.pc n → cack (x.commitAccept n own d)) ∧
    (∀ since own d, x.commitWait n = some (since, own, d) → pc ≠ x.pc n → cack (x.outOfStep Mt.cack h.seq)) ∧
    (x.commitWait n = none → x.twin.alone = true → cack x) ∧
    (x.commitWait n = none → x.twin.alone = false → cack (x.outOfStep Mt.cack h.seq)) ∧
    (∀ since own d, wait since own d → late since → s.mirroring = false → exec (.cackTimeout n) s = .next (alone own d)) ∧
    (∀ since own d, wait since own d → late since → s.mirroring = true → exec (.cackTimeout n) s =
      .next (({ alone own d with twin := { (alone own d).twin with alone := true } }.clearInStep.event F.COBALT_EVENT_ACK_TIMEOUT 0
        Irq.cobalt).faultEvent Src.cobalt true)) ∧
    (∀ since own d, wait since own d → ¬ late since → exec (.cackTimeout n) s = .next s) ∧
    (s.commitWait n = none → exec (.cackTimeout n) s = .next s)

/-! ### Admission, power, faults, wear (chapters 15, 16) -/

/-- Host requests. A write of ADMIT_ASK carries out CANCEL, which withdraws a waiting request, then GO, which grants, queues or refuses the
request, and does nothing while one waits; a standby refuses those of mirrored classes. The queue's first request is refused where its
unit was granted meanwhile and granted when it fits; an engine's times out; else they wait. GIVE returns a grant, or reports why not,
and a standby refuses one of a mirrored class (R418-R421, R423). Where the spec leaves a point open it rests on the model's choices of
log 104. -/
def Obligations.AdmissionCommands : Prop :=
  ∀ (n : Fin 5) (w : Word) (s : State),
    let v := Nat.lor w.toNat 1
    let v2 := Nat.lor w.toNat 2
    let local' := s.mode = Mode.standby → localClass (s.rd F.ADMIT_ASK_CLASS 0) = true
    let cancel := fun (t : State) => if t.rd F.ADMIT_ASK_STATE 0 = 1 then
      { t with adm := { t.adm with queue := t.adm.queue.filter fun q => decide (q.master ≠ 7) } }.admShow.hostAskEnd 0 0 4 else t
    let b := cancel (s.wr F.ADMIT_ASK_WAIT 0 (bits v2 2 1))
    let a0 := s.wr F.ADMIT_ASK_WAIT 0 (bits v 2 1)
    let a := if bit w.toNat 1 then cancel a0 else a0
    let x := a.rd F.ADMIT_ASK_CLASS 0
    let inst := a.rd F.ADMIT_ASK_INSTANCE 0
    let param := a.rd F.ADMIT_ASK_PARAM 0
    let go := local' ∧ a.rd F.ADMIT_ASK_STATE 0 ≠ 1
    let verdict := a.askVerdict x inst param (bit v 2)
    let g := a.grant 7 x inst param
    let stby := s.event F.COBALT_EVENT_STBY_REFUSED 0 Irq.cobalt
    let first := fun (r : AskReq) => s.adm.queue.head? = some r ∧ s.decides r = true
    let taken := fun (r : AskReq) => (s.heldEntry r.cls r.inst).isSome = true
    let fits := fun (r : AskReq) => ∃ c, costOf r.cls r.param = some c ∧ s.fits r.cls c = true
    let q := fun (r : AskReq) => (s.unqueue r).grant r.master r.cls r.inst r.param
    let timed := fun (dst t : Nat) => (s.eng n).wait = .ask dst (some t) ∧ s.fromMirror = false ∧
      s.reached (s.cmp n t).raster (s.cmp n t).pos = true
    let left := { s with adm := { s.adm with queue := s.adm.queue.filter fun q => decide (q.master ≠ n.val) } }.admShow
    let gw := Nat.lor w.toNat 0x80000000
    let mir := decide (gw % 4096 < 2048)
    let tok := gw % 65536
    let given := (s.wr F.ADMIT_GIVE_TOKEN 0 tok).wr F.ADMIT_GIVE_RECLAIM 0 (bits gw 16 1)
    let code := given.giveVerdict 7 tok (bit gw 16)
    let shown := given.wr F.ADMIT_GIVE_RESULT 0 code
    let gives := fun (t : State) => Sets (.admitGiveGo w) 0x150030 w 0x80000000 s (s.winDone mir 0 0x150030 gw t)
    let mine := mir = true → s.mode ≠ Mode.standby
    (go → verdict = none → Sets (.admitAskGo w) 0x150028 w 1 s
      (({ a with adm := { a.adm with queue := a.adm.queue ++ [AskReq.mk 7 x inst param] } }.admShow).hostAskEnd 0 0 1)) ∧
    (go → verdict = some Rc.ok → Sets (.admitAskGo w) 0x150028 w 1 s
      ((g.1.hostAskEnd Rc.ok g.2 2).mirrorHostAsk x inst param Rc.ok g.2)) ∧
    (∀ k, go → verdict = some k → k ≠ Rc.ok → Sets (.admitAskGo w) 0x150028 w 1 s (a.hostAskEnd k 0 3)) ∧
    (local' → a.rd F.ADMIT_ASK_STATE 0 = 1 → Sets (.admitAskGo w) 0x150028 w 1 s a) ∧
    (¬ local' → Sets (.admitAskGo w) 0x150028 w 1 s stby ∧ Sets (.admitAskCancel w) 0x150028 w 2 s stby) ∧
    (local' → bit w.toNat 0 = false → Sets (.admitAskCancel w) 0x150028 w 2 s b) ∧
    (local' → bit w.toNat 0 = true → Sets (.admitAskCancel w) 0x150028 w 2 s (b.hostAsk v2)) ∧
    (∀ r, first r → taken r → exec .admitQueueGrant s = .next ((s.unqueue r).askEnd r Rc.grantHeld 0)) ∧
    (∀ r, first r → ¬ taken r → fits r → exec .admitQueueGrant s = .next ((q r).1.askEnd r Rc.ok (q r).2)) ∧
    ((∀ r, first r → ¬ taken r ∧ ¬ fits r) → exec .admitQueueGrant s = .next s) ∧
    (∀ dst t, timed dst t → exec (.askTimeout n) s =
      .next ((((left.event F.ADMIT_STATUS_TIMEOUT 0 Irq.admission).mirrorVal n Vk.ask [Rc.timeout, 0]).setG n dst 0).wake n Rc.timeout
        (some t))) ∧
    ((∀ dst t, ¬ timed dst t) → exec (.askTimeout n) s = .next s) ∧
    (mine → code = Rc.ok → gives (shown.returnEntry (tok % 4096))) ∧
    (mine → code ≠ Rc.ok → bit gw 16 = false → gives shown) ∧
    (mine → code ≠ Rc.ok → bit gw 16 = true → gives ((shown.wr F.ADMIT_STATUS_RECLAIM_REFUSED 0 1).raise Irq.admission)) ∧
    (¬ mine → Sets (.admitGiveGo w) 0x150030 w 0x80000000 s stby)

/-- Power, heat and the voltage loop: M is shown every 100 ms; a reading, each ms, sets TJ, the PEAK and its flags, WARN and ALARM at their
thresholds and clear HYST below them; WARN and ALARM are taken together up to 112; 115 degrees trip; every 10 ms slack below SLACK_LO
raises the target 5 mV, every us below SLACK_EMER 25 mV at once; a failed transaction freezes the loop at the last voltage acknowledged;
before its period a measurement is nothing (R416, R424, R425, R427). Where the spec leaves a point open it rests on the model's choices
of log 11, 80. -/
def Obligations.PowerAndHeat : Prop :=
  ∀ (m slack : Nat) (ack : Bool) (ts : List Nat) (w : Word) (s : State),
    let tj := ts.foldl Nat.max 0
    let v := w.toNat
    let h := s.rd F.ADMIT_THERM_CFG_HYST 0
    let warn := s.rd F.ADMIT_THERM_CFG_WARN 0
    let alarm := s.rd F.ADMIT_THERM_CFG_ALARM 0
    let hyst := fun t : State => t.writeField F.ADMIT_THERM_CFG_HYST 0 (bits v 16 4)
    let power := s.periodDue s.adm.lastPower (100 * msClk) = true
    let temp := s.periodDue s.adm.lastTemp msClk = true
    let loop := s.periodDue s.adm.lastLoop (10 * msClk) = true
    let emer := s.periodDue s.adm.lastEmer usClk = true
    let u := { s with adm := { s.adm with lastTemp := some s.clk } }.readSensors ts
    let t := { s with adm := { s.adm with lastLoop := some s.clk } }.wr F.ADMIT_AVS_STATUS_S_MIN 0 (Nat.min slack 255)
    let e := { s with adm := { s.adm with lastEmer := some s.clk } }
    let frozen := { s with adm := { s.adm with frozen := true } }.wr F.ADMIT_AVS_STATUS_TARGET 0 s.adm.acked
    let low := s.avsHeld = false ∧ slack < s.rd F.ADMIT_AVS_CFG_SLACK_EMER 0
    (power → exec (.powerMeasure m) s =
      .next ({ s with adm := { s.adm with lastPower := some s.clk } }.wr F.ADMIT_USE_PWR_M 0 m).admShow) ∧
    (¬ power → exec (.powerMeasure m) s = .next s) ∧
    (temp → exec (.thermalRead ts) s = .next u) ∧
    (¬ temp → exec (.thermalRead ts) s = .next s) ∧
    (tj < 256 → u.rd F.ADMIT_TEMP_TJ 0 = tj ∧ u.rd F.ADMIT_TEMP_PEAK 0 = Nat.max (s.rd F.ADMIT_TEMP_PEAK 0) tj % 256) ∧
    (warn ≤ tj → u.rd F.ADMIT_STATUS_THERM_HOLD 0 = 1) ∧
    (tj < warn → tj + h ≤ warn → u.rd F.ADMIT_STATUS_THERM_HOLD 0 = 0) ∧
    (tj < warn → warn < tj + h → u.on F.ADMIT_STATUS_THERM_HOLD 0 = s.on F.ADMIT_STATUS_THERM_HOLD 0) ∧
    (alarm ≤ tj → u.rd F.ADMIT_STATUS_TEMP_ALARM 0 = 1) ∧
    (tj < alarm → tj + h ≤ alarm → u.rd F.ADMIT_STATUS_TEMP_ALARM 0 = 0) ∧
    (tj < alarm → alarm < tj + h → u.on F.ADMIT_STATUS_TEMP_ALARM 0 = s.on F.ADMIT_STATUS_TEMP_ALARM 0) ∧
    (bits v 0 8 ≤ bits v 8 8 → bits v 8 8 ≤ 112 → Writes (.thermCfgWrite w) 0x150040 w s
      (hyst ((s.wr F.ADMIT_THERM_CFG_WARN 0 (bits v 0 8)).wr F.ADMIT_THERM_CFG_ALARM 0 (bits v 8 8)))) ∧
    ((bits v 8 8 < bits v 0 8 ∨ 112 < bits v 8 8) → Writes (.thermCfgWrite w) 0x150040 w s (hyst s)) ∧
    exec .thermtrip s = .next ({ s with pins := { s.pins with thermtripN := false }, adm := { s.adm with trip := true } }.giveUp
      Src.thermal) ∧
    (loop → s.adm.frozen = true → exec (.avsLoopTick slack ack) s = .next t) ∧
    (loop → s.adm.frozen = false → exec (.avsLoopTick slack ack) s = .next ((t.avsDecide slack).avsBus ack)) ∧
    (¬ loop → exec (.avsLoopTick slack ack) s = .next s) ∧
    (emer → low → exec (.avsEmergency slack) s = .next (e.setTarget (s.rd F.ADMIT_AVS_STATUS_TARGET 0 + 25))) ∧
    (emer → ¬ low → exec (.avsEmergency slack) s = .next e) ∧
    (¬ emer → exec (.avsEmergency slack) s = .next s) ∧
    exec .avsTransactionFail s =
      .next (((frozen.wr F.ADMIT_AVS_STATUS_BUS_OK 0 0).event F.ADMIT_STATUS_AVS_FAULT 0 Irq.admission).faultEvent Src.thermal false)

/-- FLT_STATUS is cleared bit by bit: a bit whose cause is active, or whose event came in this clock, fails with CLR_FAIL; any other goes
with its SEVERE bit, window and HOLD. CAUSE follows the condition; a HOLD ends after HOLD_LIM ms (R428, R431, R435). A fault event whose
source is masked or has ACTION none: its STATUS bit and COUNT, and, with N 1 or less, its SEVERE bit (R429-R433). Where the spec leaves
a point open it rests on the model's choices of log 9, 84. -/
def Obligations.FaultCommands : Prop :=
  (∀ (src : Fin 49) (hi : Fin 2) (w : Word) (s : State),
    let i := src.val
    let cleared := { s with flt := { s.flt with win := tput s.flt.win i [] [], holds := tdel s.flt.holds i } }
    let held := s.flt.holds.any (fun e => e.1 = i && decide (e.2 + s.rd F.FLT_CFG_HOLD_LIM 0 * msClk ≤ s.clk)) = true
    let now := (tget s.flt.win i []).any (fun e => e.at' = s.clk) = true
    Writes (.faultClear hi w) (0x160000 + 4 * hi.val) w s
      (forEach ((bitList w.toNat 32).filter fun b => decide (32 * hi.val + b < 49)) (fun b s => s.faultClear (32 * hi + b)) s) ∧
    (s.on F.FLT_STATUS_SRC i = false → s.faultClear i = s) ∧
    (s.on F.FLT_STATUS_SRC i = true → (s.causeNow i = true ∨ now) → s.faultClear i =
      (s.wr F.FLT_CLR_STATUS_CLR_FAIL 0 1).wr F.FLT_CLR_STATUS_FAIL_SRC 0 i) ∧
    (s.on F.FLT_STATUS_SRC i = true → s.causeNow i = false → ¬ now → s.faultClear i = (((cleared.wr F.FLT_STATUS_SRC i 0).wr
      F.FLT_SEVERE_SRC i 0).wr F.FLT_SRC_STAT_IN_WIN i 0).wr F.FLT_SRC_STAT_PARTNER_ONLY i 0) ∧
    exec (.faultCauseExpire src) s = .next (s.wr F.FLT_CAUSE_SRC i (b2n (s.causeNow i))) ∧
    (held → exec (.holdLimitExpire src) s = .next { s with flt := { s.flt with holds := tdel s.flt.holds i } }) ∧
    (¬ held → exec (.holdLimitExpire src) s = .next s)) ∧
  (∀ (src : Fin 49) (partner : Bool) (s : State), (s.rd F.FLT_SRC_CFG_ACTION src = 0 ∨ s.on F.FLT_MASK_SRC src = true) →
    let t := s.faultEvent src partner
    t.rd F.FLT_STATUS_SRC src = 1 ∧ t.rd F.FLT_SRC_STAT_COUNT src = (s.rd F.FLT_SRC_STAT_COUNT src + 1) % 2 ^ F.FLT_SRC_STAT_COUNT.w ∧
    (s.rd F.FLT_SRC_CFG_N src ≤ 1 → t.rd F.FLT_SEVERE_SRC src = 1))

/-- Wear: the daily estimate, the OTP step every 128 hours up to 2,048, the hourly canary test; SAVE fills WEAR_HIST, then RESTORE applies
it once, in the first hour, where its CRC and hour step hold, else RESTORE_REFUSED (R440, R441). Scrubs: STOP ends one and returns its
grant, then START needs the port up and a grant; one is done once its rate has let it read the port, or the port is down. Repairs:
counted, NO_SPARE with the OTP source, PROMOTE while entries are left (R445, R446). What is not due changes nothing. Spare substitution
and tests: a write takes the fields, then ABORT, taken until the move, then START. START fails while one runs, on a retired spare, a
target that is none, or without its grant; else it begins the test of a spare, or a substitution, which moves an idle recorder or player
at once. A head's spare loads at a latch line and moves two shadow frames later; a test ends, a head's after its 16 frames, with PASS,
or with the unit retired; what is not due changes nothing (R443, R444). Where the spec leaves a point open it rests on the model's
choices of log 70, 71, 72, 73, 82. -/
def Obligations.WearAndSpareCommands : Prop :=
  (∀ (c : Fin 4) (m : List (Nat × Nat)) (p : List Nat) (full : Bool) (w : Word) (s : State),
    let add := fun (t : Tab (List Nat)) (x : Nat × Nat) => tins t x.1 (x.2 :: tget t x.1 [])
    let put := fun (t : Tab Nat) (x : Nat × Nat) => tins t x.1 x.2
    let day := { s with wear := { s.wear with days := s.hours / 24, hist := (m ++ s.wear.vmin).foldl add s.wear.hist } }
    let a := if bit w.toNat 3 then s.wr F.WEAR_HIST_CTRL_RESTORE_REFUSED 0 0 else s
    let ws := (List.range 1023).map fun i => s.rd F.WEAR_HIST_WORD i
    let step := s.rd F.WEAR_HIST_CTRL_OTP_STEPS 0
    let good := s.wear.tried = false ∧ s.sessionHours < 1 ∧ crcWords ws = s.rd F.WEAR_HIST_WORD 1023 ∧
      (ws.getD 1 0 = step ∨ ws.getD 1 0 + 1 = step)
    let hrs := ws.getD 0 0
    let so := 0x170040 + 8 * c.val
    let ended := fun t : State => (t.wr F.WEAR_SCRUB_RUNNING c 0).returnGrant Gc.scrub c
    let grant := fun (v : Nat) => s.wr F.WEAR_SCRUB_GRANT c (bits v 16 16)
    let stop := fun (t : State) => if t.on F.WEAR_SCRUB_RUNNING c then ended t else t
    let starts := fun (v : Nat) (t : State) => t.on F.WEAR_SCRUB_RUNNING c = false ∧ t.portUp c = true ∧
      t.grantOk (bits v 16 16) Gc.scrub c = true
    let begun := fun (t : State) => ({ t with wear := { t.wear with
      scrubs := tins t.wear.scrubs c (t.clk, (t.cxl c).used.length * 2 ^ 21) } }.wr F.WEAR_SCRUB_RUNNING c 1).wr F.WEAR_SCRUB_PROGRESS c 0
    let v1 := Nat.lor w.toNat 1
    let v2 := Nat.lor w.toNat 2
    let g1 := if bit w.toNat 1 then stop (grant v1) else grant v1
    let g2 := stop (grant v2)
    let found := (forEach p (fun g s => s.markRegion c.val g) s).addSat F.WEAR_SCRUB_POISON_FOUND c p.length
    let due := s.on F.WEAR_SCRUB_RUNNING c = true ∧ ((full = true ∧ s.scrubBound c = 100) ∨ s.portUp c = false)
    (s.wear.days < s.hours / 24 → exec (.wearEstimate m) s = .next (forEach (List.range 15) State.domEstimate day.hoursShow)) ∧
    (s.hours / 24 ≤ s.wear.days → exec (.wearEstimate m) s = .next s) ∧
    (s.wear.steps < s.hours / 128 → exec .wearHourStep s =
      .next ({ s with wear := { s.wear with steps := s.wear.steps + 1 } }.hoursShow.wr F.WEAR_HIST_CTRL_OTP_STEPS 0
        (Nat.min (s.rd F.WEAR_HIST_CTRL_OTP_STEPS 0 + 1) 2048))) ∧
    (s.hours / 128 ≤ s.wear.steps → exec .wearHourStep s = .next s) ∧
    (s.wear.canary < s.hours → exec (.sramCanaryTest m) s = .next
      { s with wear := { s.wear with canary := s.hours, vmin := m.foldl put s.wear.vmin } }.hoursShow) ∧
    (s.hours ≤ s.wear.canary → exec (.sramCanaryTest m) s = .next s) ∧
    Sets (.wearSave w) 0x170008 w 1 s (if bit w.toNat 1 then a.wearSave.wearRestore else a.wearSave) ∧
    Sets (.wearRestore w) 0x170008 w 2 s (if bit w.toNat 0 then a.wearSave.wearRestore else a.wearRestore) ∧
    (good → s.wearRestore = ({ s with wear := { s.wear with
      tried := true, base := hrs, steps := hrs / 128, days := hrs / 24, canary := hrs, hist := Config.wearLoad (ws.drop 2) } }.hoursShow).wr
      F.WEAR_HIST_CTRL_RESTORED 0 1) ∧
    (¬ good → s.wearRestore = { s with wear := { s.wear with tried := true } }.wr F.WEAR_HIST_CTRL_RESTORE_REFUSED 0 1) ∧
    (starts v1 g1 → Sets (.scrubStart c w) so w 1 s (begun g1)) ∧
    (¬ starts v1 g1 → Sets (.scrubStart c w) so w 1 s g1) ∧
    (bit w.toNat 0 = true → starts v2 g2 → Sets (.scrubStop c w) so w 2 s (begun g2)) ∧
    ((bit w.toNat 0 = false ∨ ¬ starts v2 g2) → Sets (.scrubStop c w) so w 2 s g2) ∧
    (due → exec (.scrubDone c full p) s = .next (ended (if full then found.wr F.WEAR_SCRUB_PROGRESS c 100 else found))) ∧
    (¬ due → exec (.scrubDone c full p) s = .next s) ∧
    exec (.softRepairComplete true) s = .next (s.incSat F.WEAR_REPAIR_SOFT 0) ∧
    exec (.softRepairComplete false) s = .next ((s.wr F.WEAR_REPAIR_NO_SPARE 0 1).faultEvent Src.otp false) ∧
    Sets (.repairPromote w) 0x170018 w 65536 s (if bit w.toNat 17 then (s.wr F.WEAR_REPAIR_NO_SPARE 0 0).promote else s.promote)) ∧
  (∀ (mism : Fin 3) (pass : Bool) (w : Word) (s : State),
    let put := fun (v : Nat) => s.writeWord 0x170020 v
    let abort := fun (t : State) =>
      if t.wear.step = 1 ∨ t.wear.step = 2 then { t.substState 5 with wear := { t.wear with step := 0 } } else t
    let start := fun (v : Nat) => if bit v 1 then (abort (put v)).spareStart else (put v).spareStart
    let v := Nat.lor (withBit w.toNat 4 false) 1
    let v2 := Nat.lor w.toNat 2
    let kind := s.rd F.WEAR_SUBST_CTRL_KIND 0
    let n := s.rd F.WEAR_SUBST_CTRL_TARGET 0
    let k := s.rd F.WEAR_SUBST_CTRL_SPARE 0
    let only := s.on F.WEAR_SUBST_CTRL_TEST 0
    let fails := s.wear.step ≠ 0 ∨ s.unitRetired kind (s.spareUnit kind k) = true ∨ (kind = 0 ∧ (4 ≤ k ∨ (only = false ∧ 96 ≤ n))) ∨
      s.grantOk (s.rd F.WEAR_SUBST_CTRL_GRANT 0) Gc.spareTest (spareInst kind k) = false
    let idle := (kind = 1 ∧ s.on F.SABLE_REC_RUNNING n = false) ∨ (kind = 2 ∧ s.on F.SABLE_PLAY_RUNNING n = false)
    let armed := ({ s with wear := { s.wear with step := 1, kind := kind, target := n, spare := k, only := false } }.substState 1).wr
      F.WEAR_SUBST_STATUS_MISMATCH 0 0
    let x := s.wear
    let frame := (s.egress (s.activeSet x.target).raster).frame
    let loads := x.step = 1 ∧ x.kind = 0 ∧ s.atLatch x.target = true
    let moves := x.step = 2 ∧ s.atLatch x.target = true ∧ x.since + 2 ≤ frame
    let f := ((s.addSat F.WEAR_SUBST_STATUS_MISMATCH 0 mism).spareMove).freeScaler
    let due := x.step = 6 ∧ (x.kind ≠ 0 ∨ x.since + 16 ≤ (s.pos 0).frame)
    Sets (.spareTestStart w) 0x170020 w 17 s (start (Nat.lor w.toNat 17)) ∧
    Puts (.spareSubstStart w) 0x170020 v s (start v) ∧
    Sets (.spareSubstAbort w) 0x170020 w 2 s (if bit w.toNat 0 then (abort (put v2)).spareStart else abort (put v2)) ∧
    (fails → s.spareStart = s.substState 4) ∧
    (¬ fails → only = true → s.spareStart = s.spareTestBegin kind k (s.spareUnit kind k)) ∧
    (¬ fails → only = false → idle → s.spareStart = armed.spareMove) ∧
    (¬ fails → only = false → ¬ idle → s.spareStart = armed) ∧
    (loads → exec .headSubstLoad s = .next { s.substState 2 with wear := { x with step := 2, since := frame } }) ∧
    (¬ loads → exec .headSubstLoad s = .next s) ∧
    (moves → exec (.headSubstMove mism) s = .next ({ f.1 with wear := { f.1.wear with scaler := f.2 } }.wr
        F.WEAR_SUBST_STATUS_SCALER_UNTESTED 0 (b2n f.2.isNone)).ochreShow) ∧
    (¬ moves → exec (.headSubstMove mism) s = .next s) ∧
    (due → exec (.spareTestDone pass) s = .next ((({ s with wear := { x with
      step := 0, scaler := none, retired := if pass then x.retired else (x.kind * 256 + x.unit) :: x.retired } }.substState
        (if pass || !x.only then 3 else 4)).wr F.WEAR_SUBST_STATUS_PASS 0 (b2n pass)).sparesShow.returnGrant Gc.spareTest
        (spareInst x.kind x.spare)).ochreShow) ∧
    (¬ due → exec (.spareTestDone pass) s = .next s))

/-! ### Start-up, modes, host interface (chapters 17, 18) -/

/-- Start-up: RST_N's release latches the straps and begins INIT; READY follows its first steps, with the unit root regenerated from the
cells, or an enrolment's wait (the model's reading, log 33); INIT ends in CALIBRATE, or fails in OTP or repair. A write of TOP_MODE_REQ
carries out CAL_GO, then GO: a mode request that Table 17-1 makes is carried out, any other leaves its code and REQ_REFUSED.
CALIBRATE_DONE ends the training of a CAL_GO. What is not due changes nothing (R49, R449-R455, R483, R485). Enrolment. A write of
TOP_ENROL_CTRL carries out KEY_GO, which, while REQ stands, checks the owner key and fuses it, or sets KEY_BAD, and is nothing else;
then ACK, which zeroes the output. REQ ends after 1.5 s; else nothing changes (R485). Where the spec leaves a point open it rests on the
model's choices of log 32, 33, 75, 81. -/
def Obligations.StartUpCommands : Prop :=
  (∀ (dbg enrol : Bool) (smb : Fin 4) (cells : List Nat) (otp repair : Bool) (w : Word) (s : State),
    let strapped := ((({ s with pins := { s.pins with
      rstN := true, dbgEn := dbg, enrol := enrol, smbAddr := smb.val, rstAt := s.clk } }.wr
      F.TOP_DEV_MODE_DBG_STRAP 0 (b2n dbg)).wr F.TOP_DEV_MODE_ENROL_STRAP 0 (b2n enrol)).wr F.TOP_BOOT_SMB_ADDR 0 smb.val)
    let init := s.pins.rstN = true ∧ s.mode = Mode.init ∧ s.on F.TOP_INIT_STATUS_FAIL 0 = false
    let fresh := init ∧ s.pins.ready = false
    let up := (({ s.loadOtp with pins := { s.pins with ready := true } }.synLock 12).synLock 13)
    let read := { up with keys := { up.keys with cells := cells } }
    let goes := fun (t : State) => if s.enrols then
        { (t.wr F.TOP_INIT_STATUS_STEP 0 6).wr F.TOP_ENROL_CTRL_REQ 0 1 with keys := { t.keys with enrolAt := s.clk } }
      else t.wr F.TOP_INIT_STATUS_STEP 0 5
    let enrolled := up.on F.KEYS_STATUS_ENROLLED 0 = true
    let tested := init ∧ s.pins.ready = true ∧ otp = true
    let nonces := ((s.draw.1.draw.1.wr F.KEYS_NONCE_LO 0 s.draw.2).wr F.KEYS_NONCE_HI 0 s.draw.1.draw.2).wr F.KEYS_STATUS_TRNG_OK 0 1
    let cal := ((nonces.wr F.TOP_INIT_STATUS_STEP 0 0).wr F.TOP_INIT_STATUS_SELFTEST_PCT 0 100).setMode Mode.calibrate
    let left := { cal with wear := { cal.wear with left := some s.clk } }
    let c := (s.writeWord 0x14 (Nat.lor w.toNat 16)).calGo
    let r0 := s.writeWord 0x14 (Nat.lor w.toNat 8)
    let r := if bit w.toNat 4 then r0.calGo else r0
    let t := r.rd F.TOP_MODE_REQ_TARGET 0
    let code := r.modeCode t
    let judged := (r.wr F.TOP_MODE_REQ_RESULT 0 code).wr F.TOP_MODE_REQ_STATE 0 (if code = 0 then 1 else 2)
    let st := s.rd F.TOP_DEV_MODE_CAL_STAGE 0
    let zeroed := (s.wr F.TOP_DEV_MODE_CAL_STAGE 0 1).enrolZero
    let trains := s.mode = Mode.calibrate ∧ (st = 1 ∨ st = 2)
    (s.pins.rstN = false → exec (.rstNRelease dbg enrol smb) s =
      .next ((strapped.gpiSettle.wr F.TOP_DEV_MODE_MODE 0 Mode.init).wr F.TOP_INIT_STATUS_STEP 0 1)) ∧
    (s.pins.rstN = true → exec (.rstNRelease dbg enrol smb) s = .next s) ∧
    (fresh → s.pins.dbgEn = true → exec (.readyAssert cells) s =
      .next (goes { (up.wr F.KEYS_STATUS_TEST_ROOT 0 1).wr F.KEYS_STATUS_ROOT_OK 0 1 with keys := { up.keys with root := testRoot } })) ∧
    (fresh → s.pins.dbgEn = false → ¬ enrolled → exec (.readyAssert cells) s = .next (goes read)) ∧
    (∀ root, fresh → s.pins.dbgEn = false → enrolled → up.regenerate cells = some root → exec (.readyAssert cells) s =
      .next (goes { up.wr F.KEYS_STATUS_ROOT_OK 0 1 with keys := { up.keys with cells := cells, root := root } })) ∧
    (fresh → s.pins.dbgEn = false → enrolled → up.regenerate cells = none → exec (.readyAssert cells) s =
      .next (goes { up.wr F.TOP_INIT_STATUS_ROOT_FAIL 0 1 with keys := { up.keys with cells := cells } })) ∧
    (¬ fresh → exec (.readyAssert cells) s = .next s) ∧
    (fresh → otp = false → exec (.initComplete otp repair) s =
      .next ((s.wr F.TOP_INIT_STATUS_FAIL 0 1).wr F.TOP_INIT_STATUS_STEP 0 2)) ∧
    (tested → repair = false → exec (.initComplete otp repair) s =
      .next ((s.wr F.TOP_INIT_STATUS_FAIL 0 2).wr F.TOP_INIT_STATUS_STEP 0 5)) ∧
    (tested → repair = true → s.on F.TOP_ENROL_CTRL_REQ 0 = true → exec (.initComplete otp repair) s = .next s) ∧
    (tested → repair = true → s.on F.TOP_ENROL_CTRL_REQ 0 = false → exec (.initComplete otp repair) s =
      .next (if s.on F.TOP_INIT_STATUS_ROOT_FAIL 0 then left.faultEvent Src.keys false else left)) ∧
    ((¬ init ∨ s.pins.ready = !otp) → ¬ (fresh ∧ otp = false) → exec (.initComplete otp repair) s = .next s) ∧
    Sets (.calGo w) 0x14 w 16 s (if bit w.toNat 3 then c.modeReq else c) ∧
    ((s.mode ≠ Mode.calibrate ∨ st ≠ 0) → s.calGo = s.wr F.TOP_MODE_REQ_REQ_REFUSED 0 1) ∧
    (s.mode = Mode.calibrate → st = 0 → s.calGo = (zeroed.setTarget (zeroed.rd F.ADMIT_AVS_STATUS_V_FUSE 0 +
      zeroed.rd F.ADMIT_AVS_CFG_MARGIN 0)).clocksDone) ∧
    (trains → ∃ u, exec .calibrateDone s = .next u ∧ u.rd F.TOP_DEV_MODE_CAL_STAGE 0 = 3 ∧ u.rd F.TOP_DEV_MODE_CAL_DONE 0 = 1) ∧
    (¬ trains → exec .calibrateDone s = .next s) ∧
    (code = 0 → Sets (.modeRequest w) 0x14 w 8 s (judged.modeGo t).reselect) ∧
    (code ≠ 0 → Sets (.modeRequest w) 0x14 w 8 s (judged.wr F.TOP_MODE_REQ_REQ_REFUSED 0 1))) ∧
  (∀ (w : Word) (s : State),
    let q := s.wr F.TOP_ENROL_CTRL_REQ 0 0
    let zero := fun (s : State) =>
      (forEach (List.range 44) (fun i s => s.wr F.TOP_ENROL_OUT_WORD i 0) s).wr F.TOP_ENROL_CTRL_OUT_VALID 0 0
    let asked := s.on F.TOP_ENROL_CTRL_REQ 0 = true
    let late := asked ∧ s.keys.enrolAt + 1500 * msClk ≤ s.clk
    Sets (.enrolKeyGo w) 0x200 w 2 s (if bit w.toNat 3 then zero s.enrolGo else s.enrolGo) ∧
    (¬ asked → s.enrolGo = s) ∧
    (asked → Config.p384Valid s.ownerKey = false → s.enrolGo = q.wr F.TOP_ENROL_CTRL_KEY_BAD 0 1) ∧
    (asked → Config.p384Valid s.ownerKey = true → s.enrolGo.rd F.TOP_INIT_STATUS_ENROLLED 0 = 1 ∧
      s.enrolGo.keys.ownerHash = Config.sha384 s.ownerKey ∧ s.enrolGo.keys.root = rootOf s.keys.cells ∧
      s.enrolGo.keys.helper = s.keys.cells ∧ s.enrolGo.keys.check = rootCheck (rootOf s.keys.cells)) ∧
    (late → exec .enrolTimeout s = .next q) ∧
    (¬ late → exec .enrolTimeout s = .next s) ∧
    Sets (.enrolAck w) 0x200 w 8 s (if bit w.toNat 1 then zero s.enrolGo else zero s))

/-- A request for a transition that Table 17-1 does not list is refused with code 1; from CALIBRATE without CAL_DONE with code 2; no request
makes a device in DEBUG, RESET or INIT change mode (R454, R455). -/
def Obligations.ModeRequestCodes : Prop :=
  ∀ (t : Nat) (s : State),
    ((s.mode = Mode.debug ∨ s.mode ≤ Mode.init) → s.modeCode t = 1) ∧
    (s.mode = Mode.calibrate → (t = Mode.standalone ∨ t = Mode.active ∨ t = Mode.standby ∨ t = Mode.debug) →
      s.on F.TOP_DEV_MODE_CAL_DONE 0 = false → s.modeCode t = 2) ∧
    (s.mode = Mode.standalone → t ≠ Mode.safe → s.modeCode t = 1) ∧
    (s.mode = Mode.standby → t ≠ Mode.safe → s.modeCode t = 1) ∧
    ((s.mode = Mode.standalone ∨ s.mode = Mode.active ∨ s.mode = Mode.standby) → s.modeCode Mode.safe = 0) ∧
    (s.mode = Mode.active → s.modeCode Mode.standby = 0)

/-- Resets: RST_N low and an undervoltage hold the device in the state a cold reset leaves. A write of TOP_RESET_CTRL: COLD, which overrides
the others, begins INIT again at once (the model's reading, log 31); else BLOCK resets its source or is refused, then WARM drops READY
in service, and is refused elsewhere; a host-interface reset, with D3hot after it, leaves the device in service (R456-R462, R467, R517).
A warm reset leaves the engine memories, the clock, and, ending no burst, the mode as they were, and drops READY; a cold reset leaves
the engine memories empty and MODE RESET (R457-R460, Table 17-3). Where the spec leaves a point open it rests on the model's choices of
log 31, 74, 76, 77, 78. -/
def Obligations.ResetCommands : Prop :=
  (∀ (b : Burst) (ws : List Nat) (w : Word) (s : State),
    let held := fun t : State => { t with pins := { t.pins with rstN := false } }
    let src := fun (v : Nat) (s : State) => s.writeField F.TOP_RESET_CTRL_BLOCK_SRC 0 (bits v 8 6)
    let block := fun (t : State) => if resettable (t.rd F.TOP_RESET_CTRL_BLOCK_SRC 0) then t.blockReset (t.rd F.TOP_RESET_CTRL_BLOCK_SRC 0)
      else t.wr F.TOP_RESET_STATUS_BLOCK_REFUSED 0 1
    let warm := fun (t : State) (b : Burst) => if Mode.standalone ≤ t.mode then t.warmReset b
      else t.wr F.TOP_RESET_STATUS_WARM_REFUSED 0 1
    let m0 := src (Nat.lor w.toNat 1) (s.tldMove ws)
    let m := if bit w.toNat 2 then block m0 else m0
    let k := src (Nat.lor w.toNat 4) s
    let c := src (Nat.lor w.toNat 2) s
    let h := (s.tldMove ws).hostReset b
    let cold := bit w.toNat 1 = true
    let low := s.pins.ready = false ∧ Mode.standalone ≤ s.mode
    let up := { s with pins := { s.pins with ready := true } }
    let pairs := s.mode = Mode.active ∧ Ps.transfer ≤ s.pair ∧ s.pair ≤ Ps.inStep
    exec .rstNAssert s = .next (held (s.coldReset 0)) ∧ exec .railUndervoltage s = .next (held (s.coldReset 0)) ∧
    (cold → Sets (.warmReset w b ws) 0x20 w 1 s (m0.coldCtrl 1)) ∧
    (¬ cold → Sets (.warmReset w b ws) 0x20 w 1 s (warm m b)) ∧
    (low → pairs → exec .warmResetComplete s = .next up.startTransfer) ∧
    (low → ¬ pairs → exec .warmResetComplete s = .next up) ∧
    (¬ low → exec .warmResetComplete s = .next s) ∧
    Sets (.coldResetCmd w) 0x20 w 2 s (c.coldCtrl 1) ∧
    (cold → Sets (.blockResetCmd w) 0x20 w 4 s (k.coldCtrl 1)) ∧
    (¬ cold → Sets (.blockResetCmd w) 0x20 w 4 s (if bit w.toNat 0 then warm (block k) none else block k)) ∧
    exec (.hostIfReset b ws) s = .next h ∧ exec (.d3hotEntry b ws) s = .next { h with hif := { h.hif with d3 := true } } ∧
    exec .d0Restore s = .next { s with hif := { s.hif with d3 := false } }) ∧
  (∀ (b : Burst) (s : State),
    let t := s.warmReset b
    let c := s.coldReset 0
    t.pins.ready = false ∧ t.clk = s.clk ∧ SameMem s t ∧ (b = none → t.mode = s.mode) ∧
    c.pmem = [] ∧ c.dmem = [] ∧ c.smem = [] ∧ c.mode = Mode.reset ∧ c.pending = s.pending)

/-- DMA errors, the SMBus target, lock breaks and the TAP: a failed read of an enabled ring disables it, of the running loader fails its
transfer, of a frame leaves it to its descriptor, with DMA_ERR; no other structure is read. The target answers from 1 ms after RST_N
rose, with a good PEC; READ goes on to the next offset also when refused (the model's choice, log 34); a lock broken is logged; an
unknown TAP opcode, and a debug one without DBG_EN, select BYPASS (R470, R471, R475, R476, R527). The table loader and the summary. A
write of HOSTIF_TLD carries out ABORT, which ends a transfer with the words moved so far, and GO, which starts one unless one runs; it
is DONE when LEN has moved. A request while a summary is under way is refused; at the consistency point, once the commits due there have
taken effect, it is captured, or discarded with EN clear; when its record is written SEQ names it; what is not due changes nothing
(R219, R477-R480). Where the spec leaves a point open it rests on the model's choices of log 34, 57, 58, 59, 60, 61, 62, 63, 64, 65, 66,
69. -/
def Obligations.HostInterfaceCommands : Prop :=
  (∀ (t addr off : Nat) (frame pec wr : Bool) (ws : List Nat) (m : Fin 9) (g : Fin 4) (left : Fin 32) (ir : Fin 10) (w : Word) (s : State),
    let r := rxRing (t - 16)
    let x := txRing (t - 32)
    let cue := t < 5 ∧ s.on F.CUE_CTRL_RING_EN t = true
    let rx := 16 ≤ t ∧ t ≤ 24 ∧ s.on r.en r.idx = true
    let tx := 32 ≤ t ∧ t ≤ 40 ∧ s.on x.en x.idx = true
    let tld := t = 49 ∧ s.rd F.HOSTIF_TLD_STATE 0 = 1
    let o := s.hif.smbOff
    let answers := s.pins.rstN = true ∧ s.pins.rstAt + msClk ≤ s.clk ∧ pec = true
    let ans := fun (u : State) v refused => { u with hif := { u.hif with smbRead := v, smbRefused := refused } }
    let a := s.readReg 0 o false
    let b := ans a.1 a.2 false
    let quiet := ans s s.hif.smbRead false
    let unknown := ir.val = 9 ∨ (ir.val = 8 ∧ s.pins.dbgEn = false)
    (cue → exec (.dmaReadError t addr frame ws) s =
      .next (((s.wr F.CUE_CTRL_RING_EN t 0).setEng t { s.eng t with fetching := false }).dmaErr t addr)) ∧
    (rx → exec (.dmaReadError t addr frame ws) s = .next ((s.wr r.en r.idx 0).dmaErr t addr)) ∧
    (tx → exec (.dmaReadError t addr frame ws) s = .next ((if frame then s else s.wr x.en x.idx 0).dmaErr t addr)) ∧
    (tld → exec (.dmaReadError t addr frame ws) s = .next (((s.tldMove ws).tldEnd 3).dmaErr t addr)) ∧
    (¬ cue → ¬ rx → ¬ tx → ¬ tld → exec (.dmaReadError t addr frame ws) s = .next s) ∧
    (answers → exec (.smbSetAddr off pec) s = .next { s with hif := { s.hif with smbOff := off % 2 ^ 32 } }) ∧
    (¬ answers → exec (.smbSetAddr off pec) s = .next s ∧ exec (.smbRead pec) s = .next s ∧
      exec (.smbWrite w pec) s = .next s ∧ exec (.smbStatus pec) s = .next s) ∧
    (answers → s.smbReadable o = true → exec (.smbRead pec) s = .next { b with hif := { b.hif with smbOff := (o + 4) % 2 ^ 32 } }) ∧
    (answers → s.smbReadable o = false → exec (.smbRead pec) s =
      .next { ans s 0 true with hif := { (ans s 0 true).hif with smbOff := (o + 4) % 2 ^ 32 } }) ∧
    (answers → s.pins.ready = true → o = 0x20 → exec (.smbWrite w pec) s = .next (quiet.boardWrite 0x20 (w.toNat % 4)
      (State.resetCtrl 2 none (w.toNat % 4 + 256 * s.rd F.TOP_RESET_CTRL_BLOCK_SRC 0)))) ∧
    (answers → s.pins.ready = true → o = 0x150000 → exec (.smbWrite w pec) s =
      .next (quiet.boardWrite 0x150000 w.toNat fun s => (s.writeWord 0x150000 w.toNat).admShow)) ∧
    (answers → (s.pins.ready = false ∨ (o ≠ 0x20 ∧ o ≠ 0x150000)) → exec (.smbWrite w pec) s = .next (ans s s.hif.smbRead true)) ∧
    (answers → exec (.smbStatus pec) s = .next (ans s (b2n s.pins.ready + 2 * b2n s.hif.smbRefused) s.hif.smbRefused)) ∧
    exec (.matrixLockBreak m g wr left) s = .next ((s.mlog m g left wr true).event F.HOSTIF_EVENT_LOCK_BROKEN 0 Irq.hostif) ∧
    (¬ unknown → exec (.tapInstructionUpdate ir) s = .next { s with pins := { s.pins with tapIr := ir.val } }) ∧
    (unknown → exec (.tapInstructionUpdate ir) s = .next { s with pins := { s.pins with tapIr := 0 } })) ∧
  (∀ (ws : List Nat) (full : Bool) (w : Word) (s : State),
    let v := Nat.lor w.toNat 1
    let st := s.rd F.HOSTIF_TLD_STATE 0
    let dir := fun (v : Nat) (t : State) => t.wr F.HOSTIF_TLD_DIR 0 (bits v 2 1)
    let start := fun (t : State) => (t.wr F.HOSTIF_TLD_STATE 0 1).wr F.HOSTIF_TLD_REFUSED_CNT 0 0
    let abort := fun (ws : List Nat) => (s.tldMove ws).tldEnd 4
    let moved := st = 1 ∧ ws.length = s.rd F.HOSTIF_TLD_LEN 0 / 16 * 4
    let x := s.wr F.HOSTIF_RESYNC_FULL 0 (bits v 1 1)
    let r := x.summaryReq 7 (bit v 1)
    let su := s.rd F.HOSTIF_SUM_STATUS_STATE 0
    let due := su = 1 ∧ s.sumDue = true ∧ s.commitDue = false
    (st ≠ 1 → Sets (.tldGo w) 0x180050 w 1 s (start (dir v s))) ∧
    (st = 1 → Sets (.tldGo w) 0x180050 w 1 s (dir v (if bit w.toNat 1 then abort [] else s))) ∧
    (st = 1 → Sets (.tldAbort w ws) 0x180050 w 2 s (dir (Nat.lor w.toNat 2) (abort ws))) ∧
    (st ≠ 1 → Sets (.tldAbort w ws) 0x180050 w 2 s
      (if bit w.toNat 0 then start (dir (Nat.lor w.toNat 2) s) else dir (Nat.lor w.toNat 2) s)) ∧
    (moved → exec (.tldDone ws) s = .next ((s.tldMove ws).tldEnd 2)) ∧
    (¬ moved → exec (.tldDone ws) s = .next s) ∧
    (r.2 = true → Sets (.summaryRequest w) 0x180004 w 1 s r.1) ∧
    (r.2 = false → Sets (.summaryRequest w) 0x180004 w 1 s (r.1.event F.HOSTIF_EVENT_SUM_REFUSED 0 Irq.hostif)) ∧
    (s.summaryReq 7 full).2 = (decide (su ≠ 1) && decide (su ≠ 2)) ∧
    (due → s.on F.HOSTIF_SUM_CFG_EN 0 = true → exec .summaryCapture s =
      .next { s.wr F.HOSTIF_SUM_STATUS_STATE 0 2 with hif := { s.hif with sumImage := s.sumRefresh.sumRecord } }) ∧
    (due → s.on F.HOSTIF_SUM_CFG_EN 0 = false → exec .summaryCapture s = .next (s.wr F.HOSTIF_SUM_STATUS_STATE 0 4)) ∧
    (¬ due → exec .summaryCapture s = .next s) ∧
    (su = 2 → exec .summaryWritten s = .next (((s.wr F.HOSTIF_SUM_STATUS_STATE 0 3).wr F.HOSTIF_SUM_SEQ_SEQ 0 s.hif.sumSeq).event
      F.HOSTIF_EVENT_SUM_DONE 0 Irq.summary)) ∧
    (su ≠ 2 → exec .summaryWritten s = .next s))
end

