-- ==== Sys2Proof/Laws/Host.lean ====
section
/-! SUPPORT. What a host write can do, once: carried out, dropped, early, or refused on a standby. -/
namespace Sys2Proof.Laws
open Sys2Proof.Machine

/-- A host write that is carried out. -/
theorem hostWrite_open {s : State} {off : Nat} (h : s.HostOpen off) (w : Nat) (f : State → State) :
    s.hostWrite off w f = s.hostDone off w (f s) := by
  obtain ⟨h1, h2, h3, h4⟩ := h
  have h5 : (decide (s.mode ≤ Mode.init) && decide (blockOf off ≠ some .top)) = false := by
    rcases h3 with h | h
    · have : ¬ s.mode ≤ Mode.init := by omega
      simp [this]
    · simp [h]
  have h6 : (decide (s.mode = Mode.standby) && mirroredOff off) = false := by
    by_cases hm : s.mode = Mode.standby <;> simp [hm, h4]
  simp only [State.hostWrite, State.boardWrite, h1, h2, h5, h6]
  simp

/-- A write in a BAR2 window that is carried out. -/
theorem hostWriteWin_open {s : State} {mir : Bool} (h : s.WinOpen mir) (bar off w : Nat) (f : State → State) :
    s.hostWriteWin mir bar off w f = s.winDone mir bar off w (f s) := by
  obtain ⟨h1, h2, h3, h4⟩ := h
  have h5 : ¬ s.mode ≤ Mode.init := by omega
  have h6 : (decide (s.mode = Mode.standby) && mir) = false := by
    by_cases hm : s.mode = Mode.standby <;> simp [hm, h4]
  simp [State.hostWriteWin, h1, h2, h5, h6]

/-- The same for a command that is a write with certain bits set. -/
theorem hostWriteSet_open {s : State} {off : Nat} (h : s.HostOpen off) (w b : Nat) (f : Nat → State → State) :
    s.hostWriteSet off w b f = s.hostDone off (Nat.lor w b) (f (Nat.lor w b) s) := hostWrite_open h _ _

/-- A host write that is not carried out. -/
theorem hostWrite_shut {s : State} {off : Nat} (h : ¬ s.HostOpen off) (w : Nat) (f : State → State) :
    s.hostWrite off w f = s.turnedAway (blockOf off = some .top) := by
  unfold State.hostWrite State.boardWrite State.turnedAway
  by_cases h1 : s.hif.d3 = true <;> by_cases h2 : s.pins.ready = true <;> simp [h1, h2]
  by_cases h3 : s.mode ≤ Mode.init ∧ blockOf off ≠ some .top
  · simp [h3]
  · rw [if_neg h3, if_neg h3, if_pos]
    by_contra hc
    refine h ⟨h2, by simpa using h1, ?_, fun hm => ?_⟩
    · by_contra hd
      rw [not_or] at hd
      exact h3 ⟨by omega, hd.2⟩
    · by_contra hn
      exact hc ⟨hm, by simpa using hn⟩

/-- A BAR2 write that is not carried out. -/
theorem hostWriteWin_shut {s : State} {mir : Bool} (h : ¬ s.WinOpen mir) (bar off w : Nat) (f : State → State) :
    s.hostWriteWin mir bar off w f = s.turnedAway false := by
  unfold State.hostWriteWin State.turnedAway
  by_cases h1 : s.hif.d3 = true <;> by_cases h2 : s.pins.ready = true <;> simp [h1, h2]
  by_cases h3 : s.mode ≤ Mode.init
  · simp [h3]
  · rw [if_neg h3, if_neg h3, if_pos]
    by_contra hc
    refine h ⟨h2, by simpa using h1, by omega, fun hm => ?_⟩
    by_contra hn
    exact hc ⟨hm, by simpa using hn⟩

/-- A command that is a host write of `v` at `off` does its effect, or is turned away. -/
theorem puts_of {c : Instr} {off v : Nat} {s : State} (f : State → State) (h : exec c s = ok (s.hostWrite off v f)) :
    Puts c off v s (f s) :=
  ⟨fun ho => by rw [h, hostWrite_open ho]; rfl, fun hn => by rw [h, hostWrite_shut hn]; rfl⟩

/-- The same for a word of a BAR2 table. -/
theorem winWrites_of {c : Instr} {mir : Bool} {off : Nat} {w : Word} {s : State} (f : State → State)
    (h : exec c s = ok (s.hostWriteWin mir 2 off w.toNat f)) : WinWrites c mir off w s (f s) :=
  ⟨fun ho => by rw [h, hostWriteWin_open ho]; rfl, fun hn => by rw [h, hostWriteWin_shut hn]; rfl⟩

/-- A bit of a disjunction. -/
theorem bit_lor (x y i : Nat) : bit (Nat.lor x y) i = (bit x i || bit y i) := by
  have h : ∀ z, bit z i = z.testBit i := fun z => by simp [bit, Nat.testBit_eq_decide_div_mod_eq]
  rw [h, h, h]
  exact Nat.testBit_or x y i

/-- Everything a host write can do. -/
theorem hostWrite_cases (s : State) (off w : Nat) (f : State → State) :
    s.hostWrite off w f = s ∨ s.hostWrite off w f = s.wr F.TOP_INIT_STATUS_WR_EARLY 0 1 ∨
    s.hostWrite off w f = s.event F.COBALT_EVENT_STBY_REFUSED 0 Irq.cobalt ∨ s.hostWrite off w f = s.hostDone off w (f s) := by
  unfold State.hostWrite State.boardWrite
  split <;> [skip; split <;> [skip; split <;> [skip; split]]] <;> simp

/-- Everything a write in a BAR2 window can do. -/
theorem hostWriteWin_cases (s : State) (mir : Bool) (bar off w : Nat) (f : State → State) :
    s.hostWriteWin mir bar off w f = s ∨ s.hostWriteWin mir bar off w f = s.wr F.TOP_INIT_STATUS_WR_EARLY 0 1 ∨
    s.hostWriteWin mir bar off w f = s.event F.COBALT_EVENT_STBY_REFUSED 0 Irq.cobalt ∨
    s.hostWriteWin mir bar off w f = s.winDone mir bar off w (f s) := by
  unfold State.hostWriteWin
  split <;> [skip; split <;> [skip; split]] <;> simp

/-- A message delivered from a sender allowed to send it does what it does, to the state after its header. -/
theorem deliver_taken {s : State} {h : CobHdr} (typ sender : Nat) (f : State → State)
    (hr : sender = 0 ∨ (s.taken h).role ≠ sender) : ((s.linkHeard h).linkAcked h).deliver h typ sender f = f (s.taken h) := by
  have h3 : ¬ (sender ≠ 0 ∧ (s.taken h).role = sender) := by rintro ⟨a, b⟩; rcases hr with c | c <;> contradiction
  exact if_neg h3

/-- The message expected: it acts, and those that waited for it follow. -/
theorem arrive_next {s : State} {h : CobHdr} (d : s.Delivers h) (m : Received) :
    s.arrive h m = (((s.linkHeard h).linkAcked h).act h m).drainHeld (s.waiting h) := by
  obtain ⟨h1, h2⟩ := d
  unfold State.arrive
  rw [if_neg (by simp [h1])]
  exact if_pos h2

/-- With nothing held nothing follows. -/
theorem drainHeld_none {s : State} (h : s.twin.held = []) (n : Nat) : s.drainHeld n = s := by
  cases n <;> simp [State.drainHeld, h]

/-- Everything the arrival of a message can do. -/
theorem arrive_cases (s : State) (h : CobHdr) (m : Received) :
    s.arrive h m = s ∨ s.arrive h m = (((s.linkHeard h).linkAcked h).act h m).drainHeld (s.waiting h) ∨
    s.arrive h m = ((s.linkHeard h).linkAcked h).setTwin (fun t =>
      { t with held := (h, m) :: t.held.filter fun x => decide (x.1.seq ≠ h.seq) }) ∨ s.arrive h m = (s.linkHeard h).linkAcked h := by
  by_cases h1 : s.seeks = true
  · by_cases h2 : h.seq = ((s.linkHeard h).linkAcked h).twin.rxSeq
    · exact .inr (.inl (arrive_next ⟨h1, h2⟩ m))
    · refine .inr (.inr ?_)
      unfold State.arrive
      rw [if_neg (by simp [h1])]
      simp only [h2, if_false]
      split
      · exact .inl rfl
      · exact .inr rfl
  · exact .inl (if_pos (by simpa using h1))

/-- A message whose command is its arrival: what its action does, delivered, is its effect. -/
theorem receives_of {c : Instr} {h : CobHdr} {m : Received} {s t : State} (hc : exec c s = ok (s.arrive h m))
    (ht : (s.heard h).act h m = t) : Receives c h m s t := by
  subst ht
  refine ⟨fun hd => ?_, fun hs hq he => ?_, fun hs hq he => ?_, fun hs => ?_⟩ <;> rw [hc] <;> unfold State.arrive
  · simp [hd.1, ← hd.2, ok]
  · simp only [State.comesEarly, decide_eq_true_eq] at he
    simp only [hs, Bool.not_true, Bool.false_eq_true, if_false, if_neg hq, if_pos he, ok]
  · simp only [State.comesEarly, decide_eq_false_iff_not] at he
    simp only [hs, Bool.not_true, Bool.false_eq_true, if_false, if_neg hq, if_neg he, ok]
  · simp [hs, ok]

end Sys2Proof.Laws
end

