-- ==== Sys2Proof/Laws/Tab.lean ====
section
/-! SUPPORT. Reading a sparse table after writing it, its canonical form under a write, and the same for register fields. -/
namespace Sys2Proof

variable {α : Type}

theorem tget_tins_same (t : Tab α) (k : Nat) (v d : α) : tget (tins t k v) k d = v := by
  induction t with
  | nil => simp [tins, tget]
  | cons e r ih =>
    obtain ⟨j, u⟩ := e
    unfold tins
    split
    · simp [tget]
    · split
      · simp [tget]
      · simp_all [tget]

theorem tget_tins_ne (t : Tab α) (k q : Nat) (v d : α) (h : q ≠ k) : tget (tins t k v) q d = tget t q d := by
  induction t with
  | nil => simp [tins, tget, h.symm]
  | cons e r ih =>
    obtain ⟨j, u⟩ := e
    unfold tins
    split
    · subst_vars; simp [tget, h.symm]
    · split
      · simp [tget, h.symm]
      · simp only [tget, ih]

theorem tget_tdel_same (t : Tab α) (k : Nat) (d : α) : tget (tdel t k) k d = d := by
  induction t with
  | nil => rfl
  | cons e r ih =>
    obtain ⟨j, u⟩ := e
    unfold tdel at *
    by_cases h : j = k <;> simp_all [tget]

theorem tget_tdel_ne (t : Tab α) (k q : Nat) (d : α) (h : q ≠ k) : tget (tdel t k) q d = tget t q d := by
  induction t with
  | nil => rfl
  | cons e r ih =>
    obtain ⟨j, u⟩ := e
    unfold tdel at *
    by_cases hj : j = k
    · subst hj; simp_all [tget, h.symm]
    · simp_all [tget]

theorem tget_tput_same [DecidableEq α] (t : Tab α) (k : Nat) (v d : α) : tget (tput t k v d) k d = v := by
  unfold tput
  split
  · subst_vars; exact tget_tdel_same t k _
  · exact tget_tins_same t k v d

theorem tget_tput_ne [DecidableEq α] (t : Tab α) (k q : Nat) (v d e : α) (h : q ≠ k) :
    tget (tput t k v d) q e = tget t q e := by
  unfold tput
  split
  · exact tget_tdel_ne t k q e h
  · exact tget_tins_ne t k q v e h

/-! ### The canonical form -/

theorem tsorted_filter (t : Tab α) (p : Nat × α → Bool) (h : tsorted t = true) : tsorted (t.filter p) = true := by
  induction t with
  | nil => rfl
  | cons e r ih =>
    obtain ⟨j, u⟩ := e
    simp only [tsorted, Bool.and_eq_true, List.all_eq_true, decide_eq_true_eq] at h
    simp only [List.filter_cons]
    split
    · simp only [tsorted, Bool.and_eq_true, List.all_eq_true, decide_eq_true_eq]
      exact ⟨fun e he => h.1 e (List.mem_filter.mp he).1, ih h.2⟩
    · exact ih h.2

theorem mem_tins (t : Tab α) (k : Nat) (v : α) (e : Nat × α) (h : e ∈ tins t k v) : e = (k, v) ∨ e ∈ t := by
  induction t with
  | nil => simp_all [tins]
  | cons x r ih =>
    obtain ⟨j, u⟩ := x
    unfold tins at h
    split at h
    · simp_all; tauto
    · split at h
      · simp_all
      · simp_all; tauto

theorem tsorted_tins (t : Tab α) (k : Nat) (v : α) (h : tsorted t = true) : tsorted (tins t k v) = true := by
  induction t with
  | nil => rfl
  | cons e r ih =>
    obtain ⟨j, u⟩ := e
    simp only [tsorted, Bool.and_eq_true, List.all_eq_true, decide_eq_true_eq] at h
    unfold tins
    split
    · subst_vars
      simp only [tsorted, Bool.and_eq_true, List.all_eq_true, decide_eq_true_eq]
      exact h
    · split
      · rename_i hk
        simp only [tsorted, Bool.and_eq_true, List.all_eq_true, decide_eq_true_eq, List.mem_cons]
        refine ⟨?_, h⟩
        rintro e (rfl | he)
        · exact hk
        · exact lt_trans hk (h.1 e he)
      · rename_i h1 h2
        simp only [tsorted, Bool.and_eq_true, List.all_eq_true, decide_eq_true_eq]
        refine ⟨fun e he => ?_, ih h.2⟩
        rcases mem_tins r k v e he with rfl | he
        · simp; omega
        · exact h.1 e he

/-- A write keeps the canonical form. -/
theorem twf_tput [DecidableEq α] (t : Tab α) (k : Nat) (v d : α) (h : twf t d = true) : twf (tput t k v d) d = true := by
  simp only [twf, Bool.and_eq_true, List.all_eq_true, decide_eq_true_eq] at *
  unfold tput
  split
  · exact ⟨tsorted_filter t _ h.1, fun e he => h.2 e (List.mem_filter.mp he).1⟩
  · rename_i hv
    refine ⟨tsorted_tins t k v h.1, fun e he => ?_⟩
    rcases mem_tins t k v e he with rfl | he
    · exact hv
    · exact h.2 e he

/-- A selection of entries keeps the canonical form. -/
theorem twf_filter [DecidableEq α] (t : Tab α) (p : Nat × α → Bool) (d : α) (h : twf t d = true) : twf (t.filter p) d = true := by
  simp only [twf, Bool.and_eq_true, List.all_eq_true, decide_eq_true_eq] at *
  exact ⟨tsorted_filter t _ h.1, fun e he => h.2 e (List.mem_filter.mp he).1⟩

end Sys2Proof

namespace Sys2Proof.Machine

/-! ### Register fields -/

/-- A field read after it is written gives what was written, cut to its width. -/
theorem rd_wr_same (s : State) (f : Fld) (i v : Nat) : (s.wr f i v).rd f i = v % 2 ^ f.w := by
  simp [State.rd, State.wr, tget_tput_same]

/-- A write leaves every field at another bit address alone. -/
theorem rd_wr_ne (s : State) (f g : Fld) (i j v : Nat) (h : g.key j ≠ f.key i) : (s.wr f i v).rd g j = s.rd g j := by
  simp [State.rd, State.wr, tget_tput_ne _ _ _ _ _ _ h]

end Sys2Proof.Machine
end

