-- ==== Sys2Proof/Laws/Mem.lean ====
section
/-! SUPPORT. The engine memories: every operation that writes them keeps their canonical form, and what a word reads as after a write. -/
namespace Sys2Proof

variable {α : Type}

/-- Listing a value that is not the default keeps the canonical form. -/
theorem twf_tins [DecidableEq α] (t : Tab α) (k : Nat) (v d : α) (hv : v ≠ d) (h : twf t d = true) : twf (tins t k v) d = true := by
  have hp := twf_tput t k v d h
  rwa [tput, if_neg hv] at hp

/-- A loop of writes keeps the canonical form. -/
theorem twf_foldl_tput [DecidableEq α] {β : Type} (r : List β) (k : β → Nat) (v : β → α) (d : α) (t : Tab α) (h : twf t d = true) :
    twf (r.foldl (fun t e => tput t (k e) (v e) d) t) d = true := by
  induction r generalizing t with
  | nil => exact h
  | cons e r ih => exact ih _ (twf_tput t _ _ d h)

/-- A loop that lists values other than the default keeps the canonical form. -/
theorem twf_foldl_tins [DecidableEq α] (r : Tab α) (k : Nat → Nat) (d : α) (t : Tab α) (hr : ∀ e ∈ r, e.2 ≠ d) (h : twf t d = true) :
    twf (r.foldl (fun t e => tins t (k e.1) e.2) t) d = true := by
  induction r generalizing t with
  | nil => exact h
  | cons e r ih =>
    exact ih _ (fun x hx => hr x (List.mem_cons_of_mem e hx)) (twf_tins t _ _ d (hr e (List.mem_cons.mpr (Or.inl rfl))) h)

end Sys2Proof

namespace Sys2Proof.Laws
open Sys2Proof.Machine

theorem ofRows_wf (r : List (Nat × List Nat)) : twf (ofRows r) 0 = true := twf_foldl_tput r _ _ 0 [] rfl

theorem copyMem_wf (t : Tab Nat) (size a b : Nat) (h : twf t 0 = true) : twf (copyMem t size a b) 0 = true := by
  refine twf_foldl_tins _ (fun k => b * size + k % size) 0 _ (fun e he => ?_) (twf_filter t _ 0 h)
  simp only [twf, Bool.and_eq_true, List.all_eq_true, decide_eq_true_eq] at h
  exact h.2 e (List.mem_filter.mp he).1

/-- Memories that stand keep their form. -/
theorem SameMem.memWf {s t : State} (h : SameMem s t) (hs : s.memWf = true) : t.memWf = true := by
  obtain ⟨h1, h2, h3⟩ := h
  simpa [State.memWf, h1, h2, h3] using hs

theorem pmemPut_wf (s : State) (n a v : Nat) (h : s.memWf = true) : (s.pmemPut n a v).memWf = true := by
  simp only [State.memWf, Bool.and_eq_true] at *
  unfold State.pmemPut
  dsimp only
  split <;> exact ⟨⟨by simp only [twf_tput, h], h.1.2⟩, h.2⟩

theorem dmemPut_wf (s : State) (n a v : Nat) (h : s.memWf = true) : (s.dmemPut n a v).memWf = true := by
  simp only [State.memWf, Bool.and_eq_true] at *
  unfold State.dmemPut
  dsimp only
  split <;> exact ⟨⟨h.1.1, by simp only [twf_tput, h]⟩, h.2⟩

theorem smemPut_wf (s : State) (a v : Nat) (h : s.memWf = true) : (s.smemPut a v).memWf = true := by
  simp only [State.memWf, Bool.and_eq_true] at *
  exact ⟨h.1, by simp only [State.smemPut, twf_tput, h]⟩

theorem copyEng_wf (s : State) (a b : Nat) (h : s.memWf = true) : (s.copyEng a b).memWf = true := by
  simp only [State.memWf, Bool.and_eq_true] at *
  exact ⟨⟨copyMem_wf _ _ _ _ h.1.1, copyMem_wf _ _ _ _ h.1.2⟩, h.2⟩

/-- A word of shared cue memory reads as written, and no other changes. -/
theorem smemWord_smemPut (s : State) (a b v : Nat) :
    (s.smemPut a v).smemWord b = if b = a then v % 2 ^ 32 else s.smemWord b := by
  unfold State.smemWord State.smemPut
  split
  · subst_vars; exact tget_tput_same _ _ _ _
  · exact tget_tput_ne _ _ _ _ _ _ ‹_›

/-- Frame store bytes: a write keeps the canonical form. -/
theorem writeBytes_wf (s : State) (i o : Nat) (bs : List Nat) (h : s.storeWf = true) : (s.writeBytes i o bs).storeWf = true :=
  twf_foldl_tput _ _ _ 256 _ h

/-- Removing the bytes of a released buffer or a lost page keeps it. -/
theorem store_filter_wf (s : State) (p : Nat × Nat → Bool) (h : s.storeWf = true) : twf (s.sable.bytes.filter p) 256 = true :=
  twf_filter _ p 256 h

end Sys2Proof.Laws
end

