-- ==== Sys2Proof/Laws/State.lean ====
section
/-! SUPPORT. What the named updates of State leave alone, one lemma per field, so that no later proof unfolds a record update; and the same
for raising an interrupt and setting engine events. -/
namespace Sys2Proof.Laws
open Sys2Proof.Machine

/-- A projection that each step of a loop leaves alone stands after the loop. -/
theorem forEach_keeps {β : Type} (p : State → β) (l : List Nat) (f : Nat → State → State) (h : ∀ i s, p (f i s) = p s)
    (s : State) : p (forEach l f s) = p s := by
  induction l generalizing s with
  | nil => rfl
  | cons a r ih => rw [show forEach (a :: r) f s = forEach r f (f a s) from rfl, ih, h]

/-! ### wr -/

@[simp] theorem wr_clk (s : State) (f : Fld) (i v : Nat) : (s.wr f i v).clk = s.clk := rfl
@[simp] theorem wr_house (s : State) (f : Fld) (i v : Nat) : (s.wr f i v).house = s.house := rfl
@[simp] theorem wr_ptp (s : State) (f : Fld) (i v : Nat) : (s.wr f i v).ptp = s.ptp := rfl
@[simp] theorem wr_rasters (s : State) (f : Fld) (i v : Nat) : (s.wr f i v).rasters = s.rasters := rfl
@[simp] theorem wr_gpis (s : State) (f : Fld) (i v : Nat) : (s.wr f i v).gpis = s.gpis := rfl
@[simp] theorem wr_gpiq (s : State) (f : Fld) (i v : Nat) : (s.wr f i v).gpiq = s.gpiq := rfl
@[simp] theorem wr_gpiSeq (s : State) (f : Fld) (i v : Nat) : (s.wr f i v).gpiSeq = s.gpiSeq := rfl
@[simp] theorem wr_gpiOn (s : State) (f : Fld) (i v : Nat) : (s.wr f i v).gpiOn = s.gpiOn := rfl
@[simp] theorem wr_gpoClock (s : State) (f : Fld) (i v : Nat) : (s.wr f i v).gpoClock = s.gpoClock := rfl
@[simp] theorem wr_xActive (s : State) (f : Fld) (i v : Nat) : (s.wr f i v).xActive = s.xActive := rfl
@[simp] theorem wr_xLock (s : State) (f : Fld) (i v : Nat) : (s.wr f i v).xLock = s.xLock := rfl
@[simp] theorem wr_xShadow (s : State) (f : Fld) (i v : Nat) : (s.wr f i v).xShadow = s.xShadow := rfl
@[simp] theorem wr_xCommits (s : State) (f : Fld) (i v : Nat) : (s.wr f i v).xCommits = s.xCommits := rfl
@[simp] theorem wr_xNext (s : State) (f : Fld) (i v : Nat) : (s.wr f i v).xNext = s.xNext := rfl
@[simp] theorem wr_xLast (s : State) (f : Fld) (i v : Nat) : (s.wr f i v).xLast = s.xLast := rfl
@[simp] theorem wr_windows (s : State) (f : Fld) (i v : Nat) : (s.wr f i v).windows = s.windows := rfl
@[simp] theorem wr_strands (s : State) (f : Fld) (i v : Nat) : (s.wr f i v).strands = s.strands := rfl
@[simp] theorem wr_ports (s : State) (f : Fld) (i v : Nat) : (s.wr f i v).ports = s.ports := rfl
@[simp] theorem wr_psubFrame (s : State) (f : Fld) (i v : Nat) : (s.wr f i v).psubFrame = s.psubFrame := rfl
@[simp] theorem wr_aligner (s : State) (f : Fld) (i v : Nat) : (s.wr f i v).aligner = s.aligner := rfl
@[simp] theorem wr_egressQ (s : State) (f : Fld) (i v : Nat) : (s.wr f i v).egressQ = s.egressQ := rfl
@[simp] theorem wr_sendLines (s : State) (f : Fld) (i v : Nat) : (s.wr f i v).sendLines = s.sendLines := rfl
@[simp] theorem wr_ancOut (s : State) (f : Fld) (i v : Nat) : (s.wr f i v).ancOut = s.ancOut := rfl
@[simp] theorem wr_sent (s : State) (f : Fld) (i v : Nat) : (s.wr f i v).sent = s.sent := rfl
@[simp] theorem wr_destHold (s : State) (f : Fld) (i v : Nat) : (s.wr f i v).destHold = s.destHold := rfl
@[simp] theorem wr_destGen (s : State) (f : Fld) (i v : Nat) : (s.wr f i v).destGen = s.destGen := rfl
@[simp] theorem wr_destLine (s : State) (f : Fld) (i v : Nat) : (s.wr f i v).destLine = s.destLine := rfl
@[simp] theorem wr_digs (s : State) (f : Fld) (i v : Nat) : (s.wr f i v).digs = s.digs := rfl
@[simp] theorem wr_probeRun (s : State) (f : Fld) (i v : Nat) : (s.wr f i v).probeRun = s.probeRun := rfl
@[simp] theorem wr_engs (s : State) (f : Fld) (i v : Nat) : (s.wr f i v).engs = s.engs := rfl
@[simp] theorem wr_pmem (s : State) (f : Fld) (i v : Nat) : (s.wr f i v).pmem = s.pmem := rfl
@[simp] theorem wr_dmem (s : State) (f : Fld) (i v : Nat) : (s.wr f i v).dmem = s.dmem := rfl
@[simp] theorem wr_smem (s : State) (f : Fld) (i v : Nat) : (s.wr f i v).smem = s.smem := rfl
@[simp] theorem wr_peFaults (s : State) (f : Fld) (i v : Nat) : (s.wr f i v).peFaults = s.peFaults := rfl
@[simp] theorem wr_subst (s : State) (f : Fld) (i v : Nat) : (s.wr f i v).subst = s.subst := rfl
@[simp] theorem wr_twin (s : State) (f : Fld) (i v : Nat) : (s.wr f i v).twin = s.twin := rfl
@[simp] theorem wr_flt (s : State) (f : Fld) (i v : Nat) : (s.wr f i v).flt = s.flt := rfl
@[simp] theorem wr_pins (s : State) (f : Fld) (i v : Nat) : (s.wr f i v).pins = s.pins := rfl
@[simp] theorem wr_sable (s : State) (f : Fld) (i v : Nat) : (s.wr f i v).sable = s.sable := rfl
@[simp] theorem wr_adm (s : State) (f : Fld) (i v : Nat) : (s.wr f i v).adm = s.adm := rfl
@[simp] theorem wr_hif (s : State) (f : Fld) (i v : Nat) : (s.wr f i v).hif = s.hif := rfl
@[simp] theorem wr_freeCtr (s : State) (f : Fld) (i v : Nat) : (s.wr f i v).freeCtr = s.freeCtr := rfl
@[simp] theorem wr_pending (s : State) (f : Fld) (i v : Nat) : (s.wr f i v).pending = s.pending := rfl
@[simp] theorem wr_hostFifo (s : State) (f : Fld) (i v : Nat) : (s.wr f i v).hostFifo = s.hostFifo := rfl
@[simp] theorem wr_txq (s : State) (f : Fld) (i v : Nat) : (s.wr f i v).txq = s.txq := rfl
@[simp] theorem wr_headReinit (s : State) (f : Fld) (i v : Nat) : (s.wr f i v).headReinit = s.headReinit := rfl
@[simp] theorem wr_addend (s : State) (f : Fld) (i v : Nat) : (s.wr f i v).addend = s.addend := rfl
@[simp] theorem wr_ptpRun (s : State) (f : Fld) (i v : Nat) : (s.wr f i v).ptpRun = s.ptpRun := rfl
@[simp] theorem wr_ref (s : State) (f : Fld) (i v : Nat) : (s.wr f i v).ref = s.ref := rfl
@[simp] theorem wr_synths (s : State) (f : Fld) (i v : Nat) : (s.wr f i v).synths = s.synths := rfl
@[simp] theorem wr_refouts (s : State) (f : Fld) (i v : Nat) : (s.wr f i v).refouts = s.refouts := rfl
@[simp] theorem wr_flows (s : State) (f : Fld) (i v : Nat) : (s.wr f i v).flows = s.flows := rfl
@[simp] theorem wr_flowSt (s : State) (f : Fld) (i v : Nat) : (s.wr f i v).flowSt = s.flowSt := rfl
@[simp] theorem wr_flowBind (s : State) (f : Fld) (i v : Nat) : (s.wr f i v).flowBind = s.flowBind := rfl
@[simp] theorem wr_opaques (s : State) (f : Fld) (i v : Nat) : (s.wr f i v).opaques = s.opaques := rfl
@[simp] theorem wr_pauseUntil (s : State) (f : Fld) (i v : Nat) : (s.wr f i v).pauseUntil = s.pauseUntil := rfl
@[simp] theorem wr_lpiSince (s : State) (f : Fld) (i v : Nat) : (s.wr f i v).lpiSince = s.lpiSince := rfl
@[simp] theorem wr_rings (s : State) (f : Fld) (i v : Nat) : (s.wr f i v).rings = s.rings := rfl
@[simp] theorem wr_headAct (s : State) (f : Fld) (i v : Nat) : (s.wr f i v).headAct = s.headAct := rfl
@[simp] theorem wr_headStg (s : State) (f : Fld) (i v : Nat) : (s.wr f i v).headStg = s.headStg := rfl
@[simp] theorem wr_heads (s : State) (f : Fld) (i v : Nat) : (s.wr f i v).heads = s.heads := rfl
@[simp] theorem wr_layers (s : State) (f : Fld) (i v : Nat) : (s.wr f i v).layers = s.layers := rfl
@[simp] theorem wr_ochreLog (s : State) (f : Fld) (i v : Nat) : (s.wr f i v).ochreLog = s.ochreLog := rfl
@[simp] theorem wr_ochreSeq (s : State) (f : Fld) (i v : Nat) : (s.wr f i v).ochreSeq = s.ochreSeq := rfl
@[simp] theorem wr_lut (s : State) (f : Fld) (i v : Nat) : (s.wr f i v).lut = s.lut := rfl
@[simp] theorem wr_lutValid (s : State) (f : Fld) (i v : Nat) : (s.wr f i v).lutValid = s.lutValid := rfl
@[simp] theorem wr_lutCrc (s : State) (f : Fld) (i v : Nat) : (s.wr f i v).lutCrc = s.lutCrc := rfl
@[simp] theorem wr_lutOpen (s : State) (f : Fld) (i v : Nat) : (s.wr f i v).lutOpen = s.lutOpen := rfl
@[simp] theorem wr_aud (s : State) (f : Fld) (i v : Nat) : (s.wr f i v).aud = s.aud := rfl
@[simp] theorem wr_tdms (s : State) (f : Fld) (i v : Nat) : (s.wr f i v).tdms = s.tdms := rfl
@[simp] theorem wr_keys (s : State) (f : Fld) (i v : Nat) : (s.wr f i v).keys = s.keys := rfl
@[simp] theorem wr_lanes (s : State) (f : Fld) (i v : Nat) : (s.wr f i v).lanes = s.lanes := rfl
@[simp] theorem wr_remap (s : State) (f : Fld) (i v : Nat) : (s.wr f i v).remap = s.remap := rfl
@[simp] theorem wr_wear (s : State) (f : Fld) (i v : Nat) : (s.wr f i v).wear = s.wear := rfl

/-! ### setEng -/

@[simp] theorem setEng_regs (s : State) (n : Nat) (e : Eng) : (s.setEng n e).regs = s.regs := rfl
@[simp] theorem setEng_clk (s : State) (n : Nat) (e : Eng) : (s.setEng n e).clk = s.clk := rfl
@[simp] theorem setEng_house (s : State) (n : Nat) (e : Eng) : (s.setEng n e).house = s.house := rfl
@[simp] theorem setEng_ptp (s : State) (n : Nat) (e : Eng) : (s.setEng n e).ptp = s.ptp := rfl
@[simp] theorem setEng_rasters (s : State) (n : Nat) (e : Eng) : (s.setEng n e).rasters = s.rasters := rfl
@[simp] theorem setEng_gpis (s : State) (n : Nat) (e : Eng) : (s.setEng n e).gpis = s.gpis := rfl
@[simp] theorem setEng_gpiq (s : State) (n : Nat) (e : Eng) : (s.setEng n e).gpiq = s.gpiq := rfl
@[simp] theorem setEng_gpiSeq (s : State) (n : Nat) (e : Eng) : (s.setEng n e).gpiSeq = s.gpiSeq := rfl
@[simp] theorem setEng_gpiOn (s : State) (n : Nat) (e : Eng) : (s.setEng n e).gpiOn = s.gpiOn := rfl
@[simp] theorem setEng_gpoClock (s : State) (n : Nat) (e : Eng) : (s.setEng n e).gpoClock = s.gpoClock := rfl
@[simp] theorem setEng_xActive (s : State) (n : Nat) (e : Eng) : (s.setEng n e).xActive = s.xActive := rfl
@[simp] theorem setEng_xLock (s : State) (n : Nat) (e : Eng) : (s.setEng n e).xLock = s.xLock := rfl
@[simp] theorem setEng_xShadow (s : State) (n : Nat) (e : Eng) : (s.setEng n e).xShadow = s.xShadow := rfl
@[simp] theorem setEng_xCommits (s : State) (n : Nat) (e : Eng) : (s.setEng n e).xCommits = s.xCommits := rfl
@[simp] theorem setEng_xNext (s : State) (n : Nat) (e : Eng) : (s.setEng n e).xNext = s.xNext := rfl
@[simp] theorem setEng_xLast (s : State) (n : Nat) (e : Eng) : (s.setEng n e).xLast = s.xLast := rfl
@[simp] theorem setEng_windows (s : State) (n : Nat) (e : Eng) : (s.setEng n e).windows = s.windows := rfl
@[simp] theorem setEng_strands (s : State) (n : Nat) (e : Eng) : (s.setEng n e).strands = s.strands := rfl
@[simp] theorem setEng_ports (s : State) (n : Nat) (e : Eng) : (s.setEng n e).ports = s.ports := rfl
@[simp] theorem setEng_psubFrame (s : State) (n : Nat) (e : Eng) : (s.setEng n e).psubFrame = s.psubFrame := rfl
@[simp] theorem setEng_aligner (s : State) (n : Nat) (e : Eng) : (s.setEng n e).aligner = s.aligner := rfl
@[simp] theorem setEng_egressQ (s : State) (n : Nat) (e : Eng) : (s.setEng n e).egressQ = s.egressQ := rfl
@[simp] theorem setEng_sendLines (s : State) (n : Nat) (e : Eng) : (s.setEng n e).sendLines = s.sendLines := rfl
@[simp] theorem setEng_ancOut (s : State) (n : Nat) (e : Eng) : (s.setEng n e).ancOut = s.ancOut := rfl
@[simp] theorem setEng_sent (s : State) (n : Nat) (e : Eng) : (s.setEng n e).sent = s.sent := rfl
@[simp] theorem setEng_destHold (s : State) (n : Nat) (e : Eng) : (s.setEng n e).destHold = s.destHold := rfl
@[simp] theorem setEng_destGen (s : State) (n : Nat) (e : Eng) : (s.setEng n e).destGen = s.destGen := rfl
@[simp] theorem setEng_destLine (s : State) (n : Nat) (e : Eng) : (s.setEng n e).destLine = s.destLine := rfl
@[simp] theorem setEng_digs (s : State) (n : Nat) (e : Eng) : (s.setEng n e).digs = s.digs := rfl
@[simp] theorem setEng_probeRun (s : State) (n : Nat) (e : Eng) : (s.setEng n e).probeRun = s.probeRun := rfl
@[simp] theorem setEng_pmem (s : State) (n : Nat) (e : Eng) : (s.setEng n e).pmem = s.pmem := rfl
@[simp] theorem setEng_dmem (s : State) (n : Nat) (e : Eng) : (s.setEng n e).dmem = s.dmem := rfl
@[simp] theorem setEng_smem (s : State) (n : Nat) (e : Eng) : (s.setEng n e).smem = s.smem := rfl
@[simp] theorem setEng_peFaults (s : State) (n : Nat) (e : Eng) : (s.setEng n e).peFaults = s.peFaults := rfl
@[simp] theorem setEng_subst (s : State) (n : Nat) (e : Eng) : (s.setEng n e).subst = s.subst := rfl
@[simp] theorem setEng_twin (s : State) (n : Nat) (e : Eng) : (s.setEng n e).twin = s.twin := rfl
@[simp] theorem setEng_flt (s : State) (n : Nat) (e : Eng) : (s.setEng n e).flt = s.flt := rfl
@[simp] theorem setEng_pins (s : State) (n : Nat) (e : Eng) : (s.setEng n e).pins = s.pins := rfl
@[simp] theorem setEng_sable (s : State) (n : Nat) (e : Eng) : (s.setEng n e).sable = s.sable := rfl
@[simp] theorem setEng_adm (s : State) (n : Nat) (e : Eng) : (s.setEng n e).adm = s.adm := rfl
@[simp] theorem setEng_hif (s : State) (n : Nat) (e : Eng) : (s.setEng n e).hif = s.hif := rfl
@[simp] theorem setEng_freeCtr (s : State) (n : Nat) (e : Eng) : (s.setEng n e).freeCtr = s.freeCtr := rfl
@[simp] theorem setEng_pending (s : State) (n : Nat) (e : Eng) : (s.setEng n e).pending = s.pending := rfl
@[simp] theorem setEng_hostFifo (s : State) (n : Nat) (e : Eng) : (s.setEng n e).hostFifo = s.hostFifo := rfl
@[simp] theorem setEng_txq (s : State) (n : Nat) (e : Eng) : (s.setEng n e).txq = s.txq := rfl
@[simp] theorem setEng_headReinit (s : State) (n : Nat) (e : Eng) : (s.setEng n e).headReinit = s.headReinit := rfl
@[simp] theorem setEng_addend (s : State) (n : Nat) (e : Eng) : (s.setEng n e).addend = s.addend := rfl
@[simp] theorem setEng_ptpRun (s : State) (n : Nat) (e : Eng) : (s.setEng n e).ptpRun = s.ptpRun := rfl
@[simp] theorem setEng_ref (s : State) (n : Nat) (e : Eng) : (s.setEng n e).ref = s.ref := rfl
@[simp] theorem setEng_synths (s : State) (n : Nat) (e : Eng) : (s.setEng n e).synths = s.synths := rfl
@[simp] theorem setEng_refouts (s : State) (n : Nat) (e : Eng) : (s.setEng n e).refouts = s.refouts := rfl
@[simp] theorem setEng_flows (s : State) (n : Nat) (e : Eng) : (s.setEng n e).flows = s.flows := rfl
@[simp] theorem setEng_flowSt (s : State) (n : Nat) (e : Eng) : (s.setEng n e).flowSt = s.flowSt := rfl
@[simp] theorem setEng_flowBind (s : State) (n : Nat) (e : Eng) : (s.setEng n e).flowBind = s.flowBind := rfl
@[simp] theorem setEng_opaques (s : State) (n : Nat) (e : Eng) : (s.setEng n e).opaques = s.opaques := rfl
@[simp] theorem setEng_pauseUntil (s : State) (n : Nat) (e : Eng) : (s.setEng n e).pauseUntil = s.pauseUntil := rfl
@[simp] theorem setEng_lpiSince (s : State) (n : Nat) (e : Eng) : (s.setEng n e).lpiSince = s.lpiSince := rfl
@[simp] theorem setEng_rings (s : State) (n : Nat) (e : Eng) : (s.setEng n e).rings = s.rings := rfl
@[simp] theorem setEng_headAct (s : State) (n : Nat) (e : Eng) : (s.setEng n e).headAct = s.headAct := rfl
@[simp] theorem setEng_headStg (s : State) (n : Nat) (e : Eng) : (s.setEng n e).headStg = s.headStg := rfl
@[simp] theorem setEng_heads (s : State) (n : Nat) (e : Eng) : (s.setEng n e).heads = s.heads := rfl
@[simp] theorem setEng_layers (s : State) (n : Nat) (e : Eng) : (s.setEng n e).layers = s.layers := rfl
@[simp] theorem setEng_ochreLog (s : State) (n : Nat) (e : Eng) : (s.setEng n e).ochreLog = s.ochreLog := rfl
@[simp] theorem setEng_ochreSeq (s : State) (n : Nat) (e : Eng) : (s.setEng n e).ochreSeq = s.ochreSeq := rfl
@[simp] theorem setEng_lut (s : State) (n : Nat) (e : Eng) : (s.setEng n e).lut = s.lut := rfl
@[simp] theorem setEng_lutValid (s : State) (n : Nat) (e : Eng) : (s.setEng n e).lutValid = s.lutValid := rfl
@[simp] theorem setEng_lutCrc (s : State) (n : Nat) (e : Eng) : (s.setEng n e).lutCrc = s.lutCrc := rfl
@[simp] theorem setEng_lutOpen (s : State) (n : Nat) (e : Eng) : (s.setEng n e).lutOpen = s.lutOpen := rfl
@[simp] theorem setEng_aud (s : State) (n : Nat) (e : Eng) : (s.setEng n e).aud = s.aud := rfl
@[simp] theorem setEng_tdms (s : State) (n : Nat) (e : Eng) : (s.setEng n e).tdms = s.tdms := rfl
@[simp] theorem setEng_keys (s : State) (n : Nat) (e : Eng) : (s.setEng n e).keys = s.keys := rfl
@[simp] theorem setEng_lanes (s : State) (n : Nat) (e : Eng) : (s.setEng n e).lanes = s.lanes := rfl
@[simp] theorem setEng_remap (s : State) (n : Nat) (e : Eng) : (s.setEng n e).remap = s.remap := rfl
@[simp] theorem setEng_wear (s : State) (n : Nat) (e : Eng) : (s.setEng n e).wear = s.wear := rfl

/-! ### setRaster -/

@[simp] theorem setRaster_regs (s : State) (n : Nat) (r : Raster) : (s.setRaster n r).regs = s.regs := rfl
@[simp] theorem setRaster_clk (s : State) (n : Nat) (r : Raster) : (s.setRaster n r).clk = s.clk := rfl
@[simp] theorem setRaster_house (s : State) (n : Nat) (r : Raster) : (s.setRaster n r).house = s.house := rfl
@[simp] theorem setRaster_ptp (s : State) (n : Nat) (r : Raster) : (s.setRaster n r).ptp = s.ptp := rfl
@[simp] theorem setRaster_gpis (s : State) (n : Nat) (r : Raster) : (s.setRaster n r).gpis = s.gpis := rfl
@[simp] theorem setRaster_gpiq (s : State) (n : Nat) (r : Raster) : (s.setRaster n r).gpiq = s.gpiq := rfl
@[simp] theorem setRaster_gpiSeq (s : State) (n : Nat) (r : Raster) : (s.setRaster n r).gpiSeq = s.gpiSeq := rfl
@[simp] theorem setRaster_gpiOn (s : State) (n : Nat) (r : Raster) : (s.setRaster n r).gpiOn = s.gpiOn := rfl
@[simp] theorem setRaster_gpoClock (s : State) (n : Nat) (r : Raster) : (s.setRaster n r).gpoClock = s.gpoClock := rfl
@[simp] theorem setRaster_xActive (s : State) (n : Nat) (r : Raster) : (s.setRaster n r).xActive = s.xActive := rfl
@[simp] theorem setRaster_xLock (s : State) (n : Nat) (r : Raster) : (s.setRaster n r).xLock = s.xLock := rfl
@[simp] theorem setRaster_xShadow (s : State) (n : Nat) (r : Raster) : (s.setRaster n r).xShadow = s.xShadow := rfl
@[simp] theorem setRaster_xCommits (s : State) (n : Nat) (r : Raster) : (s.setRaster n r).xCommits = s.xCommits := rfl
@[simp] theorem setRaster_xNext (s : State) (n : Nat) (r : Raster) : (s.setRaster n r).xNext = s.xNext := rfl
@[simp] theorem setRaster_xLast (s : State) (n : Nat) (r : Raster) : (s.setRaster n r).xLast = s.xLast := rfl
@[simp] theorem setRaster_windows (s : State) (n : Nat) (r : Raster) : (s.setRaster n r).windows = s.windows := rfl
@[simp] theorem setRaster_strands (s : State) (n : Nat) (r : Raster) : (s.setRaster n r).strands = s.strands := rfl
@[simp] theorem setRaster_ports (s : State) (n : Nat) (r : Raster) : (s.setRaster n r).ports = s.ports := rfl
@[simp] theorem setRaster_psubFrame (s : State) (n : Nat) (r : Raster) : (s.setRaster n r).psubFrame = s.psubFrame := rfl
@[simp] theorem setRaster_aligner (s : State) (n : Nat) (r : Raster) : (s.setRaster n r).aligner = s.aligner := rfl
@[simp] theorem setRaster_egressQ (s : State) (n : Nat) (r : Raster) : (s.setRaster n r).egressQ = s.egressQ := rfl
@[simp] theorem setRaster_sendLines (s : State) (n : Nat) (r : Raster) : (s.setRaster n r).sendLines = s.sendLines := rfl
@[simp] theorem setRaster_ancOut (s : State) (n : Nat) (r : Raster) : (s.setRaster n r).ancOut = s.ancOut := rfl
@[simp] theorem setRaster_sent (s : State) (n : Nat) (r : Raster) : (s.setRaster n r).sent = s.sent := rfl
@[simp] theorem setRaster_destHold (s : State) (n : Nat) (r : Raster) : (s.setRaster n r).destHold = s.destHold := rfl
@[simp] theorem setRaster_destGen (s : State) (n : Nat) (r : Raster) : (s.setRaster n r).destGen = s.destGen := rfl
@[simp] theorem setRaster_destLine (s : State) (n : Nat) (r : Raster) : (s.setRaster n r).destLine = s.destLine := rfl
@[simp] theorem setRaster_digs (s : State) (n : Nat) (r : Raster) : (s.setRaster n r).digs = s.digs := rfl
@[simp] theorem setRaster_probeRun (s : State) (n : Nat) (r : Raster) : (s.setRaster n r).probeRun = s.probeRun := rfl
@[simp] theorem setRaster_engs (s : State) (n : Nat) (r : Raster) : (s.setRaster n r).engs = s.engs := rfl
@[simp] theorem setRaster_pmem (s : State) (n : Nat) (r : Raster) : (s.setRaster n r).pmem = s.pmem := rfl
@[simp] theorem setRaster_dmem (s : State) (n : Nat) (r : Raster) : (s.setRaster n r).dmem = s.dmem := rfl
@[simp] theorem setRaster_smem (s : State) (n : Nat) (r : Raster) : (s.setRaster n r).smem = s.smem := rfl
@[simp] theorem setRaster_peFaults (s : State) (n : Nat) (r : Raster) : (s.setRaster n r).peFaults = s.peFaults := rfl
@[simp] theorem setRaster_subst (s : State) (n : Nat) (r : Raster) : (s.setRaster n r).subst = s.subst := rfl
@[simp] theorem setRaster_twin (s : State) (n : Nat) (r : Raster) : (s.setRaster n r).twin = s.twin := rfl
@[simp] theorem setRaster_flt (s : State) (n : Nat) (r : Raster) : (s.setRaster n r).flt = s.flt := rfl
@[simp] theorem setRaster_pins (s : State) (n : Nat) (r : Raster) : (s.setRaster n r).pins = s.pins := rfl
@[simp] theorem setRaster_sable (s : State) (n : Nat) (r : Raster) : (s.setRaster n r).sable = s.sable := rfl
@[simp] theorem setRaster_adm (s : State) (n : Nat) (r : Raster) : (s.setRaster n r).adm = s.adm := rfl
@[simp] theorem setRaster_hif (s : State) (n : Nat) (r : Raster) : (s.setRaster n r).hif = s.hif := rfl
@[simp] theorem setRaster_freeCtr (s : State) (n : Nat) (r : Raster) : (s.setRaster n r).freeCtr = s.freeCtr := rfl
@[simp] theorem setRaster_pending (s : State) (n : Nat) (r : Raster) : (s.setRaster n r).pending = s.pending := rfl
@[simp] theorem setRaster_hostFifo (s : State) (n : Nat) (r : Raster) : (s.setRaster n r).hostFifo = s.hostFifo := rfl
@[simp] theorem setRaster_txq (s : State) (n : Nat) (r : Raster) : (s.setRaster n r).txq = s.txq := rfl
@[simp] theorem setRaster_headReinit (s : State) (n : Nat) (r : Raster) : (s.setRaster n r).headReinit = s.headReinit := rfl
@[simp] theorem setRaster_addend (s : State) (n : Nat) (r : Raster) : (s.setRaster n r).addend = s.addend := rfl
@[simp] theorem setRaster_ptpRun (s : State) (n : Nat) (r : Raster) : (s.setRaster n r).ptpRun = s.ptpRun := rfl
@[simp] theorem setRaster_ref (s : State) (n : Nat) (r : Raster) : (s.setRaster n r).ref = s.ref := rfl
@[simp] theorem setRaster_synths (s : State) (n : Nat) (r : Raster) : (s.setRaster n r).synths = s.synths := rfl
@[simp] theorem setRaster_refouts (s : State) (n : Nat) (r : Raster) : (s.setRaster n r).refouts = s.refouts := rfl
@[simp] theorem setRaster_flows (s : State) (n : Nat) (r : Raster) : (s.setRaster n r).flows = s.flows := rfl
@[simp] theorem setRaster_flowSt (s : State) (n : Nat) (r : Raster) : (s.setRaster n r).flowSt = s.flowSt := rfl
@[simp] theorem setRaster_flowBind (s : State) (n : Nat) (r : Raster) : (s.setRaster n r).flowBind = s.flowBind := rfl
@[simp] theorem setRaster_opaques (s : State) (n : Nat) (r : Raster) : (s.setRaster n r).opaques = s.opaques := rfl
@[simp] theorem setRaster_pauseUntil (s : State) (n : Nat) (r : Raster) : (s.setRaster n r).pauseUntil = s.pauseUntil := rfl
@[simp] theorem setRaster_lpiSince (s : State) (n : Nat) (r : Raster) : (s.setRaster n r).lpiSince = s.lpiSince := rfl
@[simp] theorem setRaster_rings (s : State) (n : Nat) (r : Raster) : (s.setRaster n r).rings = s.rings := rfl
@[simp] theorem setRaster_headAct (s : State) (n : Nat) (r : Raster) : (s.setRaster n r).headAct = s.headAct := rfl
@[simp] theorem setRaster_headStg (s : State) (n : Nat) (r : Raster) : (s.setRaster n r).headStg = s.headStg := rfl
@[simp] theorem setRaster_heads (s : State) (n : Nat) (r : Raster) : (s.setRaster n r).heads = s.heads := rfl
@[simp] theorem setRaster_layers (s : State) (n : Nat) (r : Raster) : (s.setRaster n r).layers = s.layers := rfl
@[simp] theorem setRaster_ochreLog (s : State) (n : Nat) (r : Raster) : (s.setRaster n r).ochreLog = s.ochreLog := rfl
@[simp] theorem setRaster_ochreSeq (s : State) (n : Nat) (r : Raster) : (s.setRaster n r).ochreSeq = s.ochreSeq := rfl
@[simp] theorem setRaster_lut (s : State) (n : Nat) (r : Raster) : (s.setRaster n r).lut = s.lut := rfl
@[simp] theorem setRaster_lutValid (s : State) (n : Nat) (r : Raster) : (s.setRaster n r).lutValid = s.lutValid := rfl
@[simp] theorem setRaster_lutCrc (s : State) (n : Nat) (r : Raster) : (s.setRaster n r).lutCrc = s.lutCrc := rfl
@[simp] theorem setRaster_lutOpen (s : State) (n : Nat) (r : Raster) : (s.setRaster n r).lutOpen = s.lutOpen := rfl
@[simp] theorem setRaster_aud (s : State) (n : Nat) (r : Raster) : (s.setRaster n r).aud = s.aud := rfl
@[simp] theorem setRaster_tdms (s : State) (n : Nat) (r : Raster) : (s.setRaster n r).tdms = s.tdms := rfl
@[simp] theorem setRaster_keys (s : State) (n : Nat) (r : Raster) : (s.setRaster n r).keys = s.keys := rfl
@[simp] theorem setRaster_lanes (s : State) (n : Nat) (r : Raster) : (s.setRaster n r).lanes = s.lanes := rfl
@[simp] theorem setRaster_remap (s : State) (n : Nat) (r : Raster) : (s.setRaster n r).remap = s.remap := rfl
@[simp] theorem setRaster_wear (s : State) (n : Nat) (r : Raster) : (s.setRaster n r).wear = s.wear := rfl

/-! ### setXa -/

@[simp] theorem setXa_regs (s : State) (d : Nat) (e : XEnt) : (s.setXa d e).regs = s.regs := rfl
@[simp] theorem setXa_clk (s : State) (d : Nat) (e : XEnt) : (s.setXa d e).clk = s.clk := rfl
@[simp] theorem setXa_house (s : State) (d : Nat) (e : XEnt) : (s.setXa d e).house = s.house := rfl
@[simp] theorem setXa_ptp (s : State) (d : Nat) (e : XEnt) : (s.setXa d e).ptp = s.ptp := rfl
@[simp] theorem setXa_rasters (s : State) (d : Nat) (e : XEnt) : (s.setXa d e).rasters = s.rasters := rfl
@[simp] theorem setXa_gpis (s : State) (d : Nat) (e : XEnt) : (s.setXa d e).gpis = s.gpis := rfl
@[simp] theorem setXa_gpiq (s : State) (d : Nat) (e : XEnt) : (s.setXa d e).gpiq = s.gpiq := rfl
@[simp] theorem setXa_gpiSeq (s : State) (d : Nat) (e : XEnt) : (s.setXa d e).gpiSeq = s.gpiSeq := rfl
@[simp] theorem setXa_gpiOn (s : State) (d : Nat) (e : XEnt) : (s.setXa d e).gpiOn = s.gpiOn := rfl
@[simp] theorem setXa_gpoClock (s : State) (d : Nat) (e : XEnt) : (s.setXa d e).gpoClock = s.gpoClock := rfl
@[simp] theorem setXa_xLock (s : State) (d : Nat) (e : XEnt) : (s.setXa d e).xLock = s.xLock := rfl
@[simp] theorem setXa_xShadow (s : State) (d : Nat) (e : XEnt) : (s.setXa d e).xShadow = s.xShadow := rfl
@[simp] theorem setXa_xCommits (s : State) (d : Nat) (e : XEnt) : (s.setXa d e).xCommits = s.xCommits := rfl
@[simp] theorem setXa_xNext (s : State) (d : Nat) (e : XEnt) : (s.setXa d e).xNext = s.xNext := rfl
@[simp] theorem setXa_xLast (s : State) (d : Nat) (e : XEnt) : (s.setXa d e).xLast = s.xLast := rfl
@[simp] theorem setXa_windows (s : State) (d : Nat) (e : XEnt) : (s.setXa d e).windows = s.windows := rfl
@[simp] theorem setXa_strands (s : State) (d : Nat) (e : XEnt) : (s.setXa d e).strands = s.strands := rfl
@[simp] theorem setXa_ports (s : State) (d : Nat) (e : XEnt) : (s.setXa d e).ports = s.ports := rfl
@[simp] theorem setXa_psubFrame (s : State) (d : Nat) (e : XEnt) : (s.setXa d e).psubFrame = s.psubFrame := rfl
@[simp] theorem setXa_aligner (s : State) (d : Nat) (e : XEnt) : (s.setXa d e).aligner = s.aligner := rfl
@[simp] theorem setXa_egressQ (s : State) (d : Nat) (e : XEnt) : (s.setXa d e).egressQ = s.egressQ := rfl
@[simp] theorem setXa_sendLines (s : State) (d : Nat) (e : XEnt) : (s.setXa d e).sendLines = s.sendLines := rfl
@[simp] theorem setXa_ancOut (s : State) (d : Nat) (e : XEnt) : (s.setXa d e).ancOut = s.ancOut := rfl
@[simp] theorem setXa_sent (s : State) (d : Nat) (e : XEnt) : (s.setXa d e).sent = s.sent := rfl
@[simp] theorem setXa_destHold (s : State) (d : Nat) (e : XEnt) : (s.setXa d e).destHold = s.destHold := rfl
@[simp] theorem setXa_destGen (s : State) (d : Nat) (e : XEnt) : (s.setXa d e).destGen = s.destGen := rfl
@[simp] theorem setXa_destLine (s : State) (d : Nat) (e : XEnt) : (s.setXa d e).destLine = s.destLine := rfl
@[simp] theorem setXa_digs (s : State) (d : Nat) (e : XEnt) : (s.setXa d e).digs = s.digs := rfl
@[simp] theorem setXa_probeRun (s : State) (d : Nat) (e : XEnt) : (s.setXa d e).probeRun = s.probeRun := rfl
@[simp] theorem setXa_engs (s : State) (d : Nat) (e : XEnt) : (s.setXa d e).engs = s.engs := rfl
@[simp] theorem setXa_pmem (s : State) (d : Nat) (e : XEnt) : (s.setXa d e).pmem = s.pmem := rfl
@[simp] theorem setXa_dmem (s : State) (d : Nat) (e : XEnt) : (s.setXa d e).dmem = s.dmem := rfl
@[simp] theorem setXa_smem (s : State) (d : Nat) (e : XEnt) : (s.setXa d e).smem = s.smem := rfl
@[simp] theorem setXa_peFaults (s : State) (d : Nat) (e : XEnt) : (s.setXa d e).peFaults = s.peFaults := rfl
@[simp] theorem setXa_subst (s : State) (d : Nat) (e : XEnt) : (s.setXa d e).subst = s.subst := rfl
@[simp] theorem setXa_twin (s : State) (d : Nat) (e : XEnt) : (s.setXa d e).twin = s.twin := rfl
@[simp] theorem setXa_flt (s : State) (d : Nat) (e : XEnt) : (s.setXa d e).flt = s.flt := rfl
@[simp] theorem setXa_pins (s : State) (d : Nat) (e : XEnt) : (s.setXa d e).pins = s.pins := rfl
@[simp] theorem setXa_sable (s : State) (d : Nat) (e : XEnt) : (s.setXa d e).sable = s.sable := rfl
@[simp] theorem setXa_adm (s : State) (d : Nat) (e : XEnt) : (s.setXa d e).adm = s.adm := rfl
@[simp] theorem setXa_hif (s : State) (d : Nat) (e : XEnt) : (s.setXa d e).hif = s.hif := rfl
@[simp] theorem setXa_freeCtr (s : State) (d : Nat) (e : XEnt) : (s.setXa d e).freeCtr = s.freeCtr := rfl
@[simp] theorem setXa_pending (s : State) (d : Nat) (e : XEnt) : (s.setXa d e).pending = s.pending := rfl
@[simp] theorem setXa_hostFifo (s : State) (d : Nat) (e : XEnt) : (s.setXa d e).hostFifo = s.hostFifo := rfl
@[simp] theorem setXa_txq (s : State) (d : Nat) (e : XEnt) : (s.setXa d e).txq = s.txq := rfl
@[simp] theorem setXa_headReinit (s : State) (d : Nat) (e : XEnt) : (s.setXa d e).headReinit = s.headReinit := rfl
@[simp] theorem setXa_addend (s : State) (d : Nat) (e : XEnt) : (s.setXa d e).addend = s.addend := rfl
@[simp] theorem setXa_ptpRun (s : State) (d : Nat) (e : XEnt) : (s.setXa d e).ptpRun = s.ptpRun := rfl
@[simp] theorem setXa_ref (s : State) (d : Nat) (e : XEnt) : (s.setXa d e).ref = s.ref := rfl
@[simp] theorem setXa_synths (s : State) (d : Nat) (e : XEnt) : (s.setXa d e).synths = s.synths := rfl
@[simp] theorem setXa_refouts (s : State) (d : Nat) (e : XEnt) : (s.setXa d e).refouts = s.refouts := rfl
@[simp] theorem setXa_flows (s : State) (d : Nat) (e : XEnt) : (s.setXa d e).flows = s.flows := rfl
@[simp] theorem setXa_flowSt (s : State) (d : Nat) (e : XEnt) : (s.setXa d e).flowSt = s.flowSt := rfl
@[simp] theorem setXa_flowBind (s : State) (d : Nat) (e : XEnt) : (s.setXa d e).flowBind = s.flowBind := rfl
@[simp] theorem setXa_opaques (s : State) (d : Nat) (e : XEnt) : (s.setXa d e).opaques = s.opaques := rfl
@[simp] theorem setXa_pauseUntil (s : State) (d : Nat) (e : XEnt) : (s.setXa d e).pauseUntil = s.pauseUntil := rfl
@[simp] theorem setXa_lpiSince (s : State) (d : Nat) (e : XEnt) : (s.setXa d e).lpiSince = s.lpiSince := rfl
@[simp] theorem setXa_rings (s : State) (d : Nat) (e : XEnt) : (s.setXa d e).rings = s.rings := rfl
@[simp] theorem setXa_headAct (s : State) (d : Nat) (e : XEnt) : (s.setXa d e).headAct = s.headAct := rfl
@[simp] theorem setXa_headStg (s : State) (d : Nat) (e : XEnt) : (s.setXa d e).headStg = s.headStg := rfl
@[simp] theorem setXa_heads (s : State) (d : Nat) (e : XEnt) : (s.setXa d e).heads = s.heads := rfl
@[simp] theorem setXa_layers (s : State) (d : Nat) (e : XEnt) : (s.setXa d e).layers = s.layers := rfl
@[simp] theorem setXa_ochreLog (s : State) (d : Nat) (e : XEnt) : (s.setXa d e).ochreLog = s.ochreLog := rfl
@[simp] theorem setXa_ochreSeq (s : State) (d : Nat) (e : XEnt) : (s.setXa d e).ochreSeq = s.ochreSeq := rfl
@[simp] theorem setXa_lut (s : State) (d : Nat) (e : XEnt) : (s.setXa d e).lut = s.lut := rfl
@[simp] theorem setXa_lutValid (s : State) (d : Nat) (e : XEnt) : (s.setXa d e).lutValid = s.lutValid := rfl
@[simp] theorem setXa_lutCrc (s : State) (d : Nat) (e : XEnt) : (s.setXa d e).lutCrc = s.lutCrc := rfl
@[simp] theorem setXa_lutOpen (s : State) (d : Nat) (e : XEnt) : (s.setXa d e).lutOpen = s.lutOpen := rfl
@[simp] theorem setXa_aud (s : State) (d : Nat) (e : XEnt) : (s.setXa d e).aud = s.aud := rfl
@[simp] theorem setXa_tdms (s : State) (d : Nat) (e : XEnt) : (s.setXa d e).tdms = s.tdms := rfl
@[simp] theorem setXa_keys (s : State) (d : Nat) (e : XEnt) : (s.setXa d e).keys = s.keys := rfl
@[simp] theorem setXa_lanes (s : State) (d : Nat) (e : XEnt) : (s.setXa d e).lanes = s.lanes := rfl
@[simp] theorem setXa_remap (s : State) (d : Nat) (e : XEnt) : (s.setXa d e).remap = s.remap := rfl
@[simp] theorem setXa_wear (s : State) (d : Nat) (e : XEnt) : (s.setXa d e).wear = s.wear := rfl

/-! ### setXs -/

@[simp] theorem setXs_regs (s : State) (d : Nat) (e : XShadow) : (s.setXs d e).regs = s.regs := rfl
@[simp] theorem setXs_clk (s : State) (d : Nat) (e : XShadow) : (s.setXs d e).clk = s.clk := rfl
@[simp] theorem setXs_house (s : State) (d : Nat) (e : XShadow) : (s.setXs d e).house = s.house := rfl
@[simp] theorem setXs_ptp (s : State) (d : Nat) (e : XShadow) : (s.setXs d e).ptp = s.ptp := rfl
@[simp] theorem setXs_rasters (s : State) (d : Nat) (e : XShadow) : (s.setXs d e).rasters = s.rasters := rfl
@[simp] theorem setXs_gpis (s : State) (d : Nat) (e : XShadow) : (s.setXs d e).gpis = s.gpis := rfl
@[simp] theorem setXs_gpiq (s : State) (d : Nat) (e : XShadow) : (s.setXs d e).gpiq = s.gpiq := rfl
@[simp] theorem setXs_gpiSeq (s : State) (d : Nat) (e : XShadow) : (s.setXs d e).gpiSeq = s.gpiSeq := rfl
@[simp] theorem setXs_gpiOn (s : State) (d : Nat) (e : XShadow) : (s.setXs d e).gpiOn = s.gpiOn := rfl
@[simp] theorem setXs_gpoClock (s : State) (d : Nat) (e : XShadow) : (s.setXs d e).gpoClock = s.gpoClock := rfl
@[simp] theorem setXs_xActive (s : State) (d : Nat) (e : XShadow) : (s.setXs d e).xActive = s.xActive := rfl
@[simp] theorem setXs_xLock (s : State) (d : Nat) (e : XShadow) : (s.setXs d e).xLock = s.xLock := rfl
@[simp] theorem setXs_xCommits (s : State) (d : Nat) (e : XShadow) : (s.setXs d e).xCommits = s.xCommits := rfl
@[simp] theorem setXs_xNext (s : State) (d : Nat) (e : XShadow) : (s.setXs d e).xNext = s.xNext := rfl
@[simp] theorem setXs_xLast (s : State) (d : Nat) (e : XShadow) : (s.setXs d e).xLast = s.xLast := rfl
@[simp] theorem setXs_windows (s : State) (d : Nat) (e : XShadow) : (s.setXs d e).windows = s.windows := rfl
@[simp] theorem setXs_strands (s : State) (d : Nat) (e : XShadow) : (s.setXs d e).strands = s.strands := rfl
@[simp] theorem setXs_ports (s : State) (d : Nat) (e : XShadow) : (s.setXs d e).ports = s.ports := rfl
@[simp] theorem setXs_psubFrame (s : State) (d : Nat) (e : XShadow) : (s.setXs d e).psubFrame = s.psubFrame := rfl
@[simp] theorem setXs_aligner (s : State) (d : Nat) (e : XShadow) : (s.setXs d e).aligner = s.aligner := rfl
@[simp] theorem setXs_egressQ (s : State) (d : Nat) (e : XShadow) : (s.setXs d e).egressQ = s.egressQ := rfl
@[simp] theorem setXs_sendLines (s : State) (d : Nat) (e : XShadow) : (s.setXs d e).sendLines = s.sendLines := rfl
@[simp] theorem setXs_ancOut (s : State) (d : Nat) (e : XShadow) : (s.setXs d e).ancOut = s.ancOut := rfl
@[simp] theorem setXs_sent (s : State) (d : Nat) (e : XShadow) : (s.setXs d e).sent = s.sent := rfl
@[simp] theorem setXs_destHold (s : State) (d : Nat) (e : XShadow) : (s.setXs d e).destHold = s.destHold := rfl
@[simp] theorem setXs_destGen (s : State) (d : Nat) (e : XShadow) : (s.setXs d e).destGen = s.destGen := rfl
@[simp] theorem setXs_destLine (s : State) (d : Nat) (e : XShadow) : (s.setXs d e).destLine = s.destLine := rfl
@[simp] theorem setXs_digs (s : State) (d : Nat) (e : XShadow) : (s.setXs d e).digs = s.digs := rfl
@[simp] theorem setXs_probeRun (s : State) (d : Nat) (e : XShadow) : (s.setXs d e).probeRun = s.probeRun := rfl
@[simp] theorem setXs_engs (s : State) (d : Nat) (e : XShadow) : (s.setXs d e).engs = s.engs := rfl
@[simp] theorem setXs_pmem (s : State) (d : Nat) (e : XShadow) : (s.setXs d e).pmem = s.pmem := rfl
@[simp] theorem setXs_dmem (s : State) (d : Nat) (e : XShadow) : (s.setXs d e).dmem = s.dmem := rfl
@[simp] theorem setXs_smem (s : State) (d : Nat) (e : XShadow) : (s.setXs d e).smem = s.smem := rfl
@[simp] theorem setXs_peFaults (s : State) (d : Nat) (e : XShadow) : (s.setXs d e).peFaults = s.peFaults := rfl
@[simp] theorem setXs_subst (s : State) (d : Nat) (e : XShadow) : (s.setXs d e).subst = s.subst := rfl
@[simp] theorem setXs_twin (s : State) (d : Nat) (e : XShadow) : (s.setXs d e).twin = s.twin := rfl
@[simp] theorem setXs_flt (s : State) (d : Nat) (e : XShadow) : (s.setXs d e).flt = s.flt := rfl
@[simp] theorem setXs_pins (s : State) (d : Nat) (e : XShadow) : (s.setXs d e).pins = s.pins := rfl
@[simp] theorem setXs_sable (s : State) (d : Nat) (e : XShadow) : (s.setXs d e).sable = s.sable := rfl
@[simp] theorem setXs_adm (s : State) (d : Nat) (e : XShadow) : (s.setXs d e).adm = s.adm := rfl
@[simp] theorem setXs_hif (s : State) (d : Nat) (e : XShadow) : (s.setXs d e).hif = s.hif := rfl
@[simp] theorem setXs_freeCtr (s : State) (d : Nat) (e : XShadow) : (s.setXs d e).freeCtr = s.freeCtr := rfl
@[simp] theorem setXs_pending (s : State) (d : Nat) (e : XShadow) : (s.setXs d e).pending = s.pending := rfl
@[simp] theorem setXs_hostFifo (s : State) (d : Nat) (e : XShadow) : (s.setXs d e).hostFifo = s.hostFifo := rfl
@[simp] theorem setXs_txq (s : State) (d : Nat) (e : XShadow) : (s.setXs d e).txq = s.txq := rfl
@[simp] theorem setXs_headReinit (s : State) (d : Nat) (e : XShadow) : (s.setXs d e).headReinit = s.headReinit := rfl
@[simp] theorem setXs_addend (s : State) (d : Nat) (e : XShadow) : (s.setXs d e).addend = s.addend := rfl
@[simp] theorem setXs_ptpRun (s : State) (d : Nat) (e : XShadow) : (s.setXs d e).ptpRun = s.ptpRun := rfl
@[simp] theorem setXs_ref (s : State) (d : Nat) (e : XShadow) : (s.setXs d e).ref = s.ref := rfl
@[simp] theorem setXs_synths (s : State) (d : Nat) (e : XShadow) : (s.setXs d e).synths = s.synths := rfl
@[simp] theorem setXs_refouts (s : State) (d : Nat) (e : XShadow) : (s.setXs d e).refouts = s.refouts := rfl
@[simp] theorem setXs_flows (s : State) (d : Nat) (e : XShadow) : (s.setXs d e).flows = s.flows := rfl
@[simp] theorem setXs_flowSt (s : State) (d : Nat) (e : XShadow) : (s.setXs d e).flowSt = s.flowSt := rfl
@[simp] theorem setXs_flowBind (s : State) (d : Nat) (e : XShadow) : (s.setXs d e).flowBind = s.flowBind := rfl
@[simp] theorem setXs_opaques (s : State) (d : Nat) (e : XShadow) : (s.setXs d e).opaques = s.opaques := rfl
@[simp] theorem setXs_pauseUntil (s : State) (d : Nat) (e : XShadow) : (s.setXs d e).pauseUntil = s.pauseUntil := rfl
@[simp] theorem setXs_lpiSince (s : State) (d : Nat) (e : XShadow) : (s.setXs d e).lpiSince = s.lpiSince := rfl
@[simp] theorem setXs_rings (s : State) (d : Nat) (e : XShadow) : (s.setXs d e).rings = s.rings := rfl
@[simp] theorem setXs_headAct (s : State) (d : Nat) (e : XShadow) : (s.setXs d e).headAct = s.headAct := rfl
@[simp] theorem setXs_headStg (s : State) (d : Nat) (e : XShadow) : (s.setXs d e).headStg = s.headStg := rfl
@[simp] theorem setXs_heads (s : State) (d : Nat) (e : XShadow) : (s.setXs d e).heads = s.heads := rfl
@[simp] theorem setXs_layers (s : State) (d : Nat) (e : XShadow) : (s.setXs d e).layers = s.layers := rfl
@[simp] theorem setXs_ochreLog (s : State) (d : Nat) (e : XShadow) : (s.setXs d e).ochreLog = s.ochreLog := rfl
@[simp] theorem setXs_ochreSeq (s : State) (d : Nat) (e : XShadow) : (s.setXs d e).ochreSeq = s.ochreSeq := rfl
@[simp] theorem setXs_lut (s : State) (d : Nat) (e : XShadow) : (s.setXs d e).lut = s.lut := rfl
@[simp] theorem setXs_lutValid (s : State) (d : Nat) (e : XShadow) : (s.setXs d e).lutValid = s.lutValid := rfl
@[simp] theorem setXs_lutCrc (s : State) (d : Nat) (e : XShadow) : (s.setXs d e).lutCrc = s.lutCrc := rfl
@[simp] theorem setXs_lutOpen (s : State) (d : Nat) (e : XShadow) : (s.setXs d e).lutOpen = s.lutOpen := rfl
@[simp] theorem setXs_aud (s : State) (d : Nat) (e : XShadow) : (s.setXs d e).aud = s.aud := rfl
@[simp] theorem setXs_tdms (s : State) (d : Nat) (e : XShadow) : (s.setXs d e).tdms = s.tdms := rfl
@[simp] theorem setXs_keys (s : State) (d : Nat) (e : XShadow) : (s.setXs d e).keys = s.keys := rfl
@[simp] theorem setXs_lanes (s : State) (d : Nat) (e : XShadow) : (s.setXs d e).lanes = s.lanes := rfl
@[simp] theorem setXs_remap (s : State) (d : Nat) (e : XShadow) : (s.setXs d e).remap = s.remap := rfl
@[simp] theorem setXs_wear (s : State) (d : Nat) (e : XShadow) : (s.setXs d e).wear = s.wear := rfl

/-! ### Interrupts and engine events -/

@[simp] theorem raise_clk (s : State) (x : Nat) : (s.raise x).clk = s.clk := by unfold State.raise; dsimp only; split <;> rfl
@[simp] theorem raise_house (s : State) (x : Nat) : (s.raise x).house = s.house := by unfold State.raise; dsimp only; split <;> rfl
@[simp] theorem raise_ptp (s : State) (x : Nat) : (s.raise x).ptp = s.ptp := by unfold State.raise; dsimp only; split <;> rfl
@[simp] theorem raise_rasters (s : State) (x : Nat) : (s.raise x).rasters = s.rasters := by unfold State.raise; dsimp only; split <;> rfl
@[simp] theorem raise_gpis (s : State) (x : Nat) : (s.raise x).gpis = s.gpis := by unfold State.raise; dsimp only; split <;> rfl
@[simp] theorem raise_gpiq (s : State) (x : Nat) : (s.raise x).gpiq = s.gpiq := by unfold State.raise; dsimp only; split <;> rfl
@[simp] theorem raise_gpiSeq (s : State) (x : Nat) : (s.raise x).gpiSeq = s.gpiSeq := by unfold State.raise; dsimp only; split <;> rfl
@[simp] theorem raise_gpiOn (s : State) (x : Nat) : (s.raise x).gpiOn = s.gpiOn := by unfold State.raise; dsimp only; split <;> rfl
@[simp] theorem raise_gpoClock (s : State) (x : Nat) : (s.raise x).gpoClock = s.gpoClock := by unfold State.raise; dsimp only; split <;> rfl
@[simp] theorem raise_xActive (s : State) (x : Nat) : (s.raise x).xActive = s.xActive := by unfold State.raise; dsimp only; split <;> rfl
@[simp] theorem raise_xLock (s : State) (x : Nat) : (s.raise x).xLock = s.xLock := by unfold State.raise; dsimp only; split <;> rfl
@[simp] theorem raise_xShadow (s : State) (x : Nat) : (s.raise x).xShadow = s.xShadow := by unfold State.raise; dsimp only; split <;> rfl
@[simp] theorem raise_xCommits (s : State) (x : Nat) : (s.raise x).xCommits = s.xCommits := by unfold State.raise; dsimp only; split <;> rfl
@[simp] theorem raise_xNext (s : State) (x : Nat) : (s.raise x).xNext = s.xNext := by unfold State.raise; dsimp only; split <;> rfl
@[simp] theorem raise_xLast (s : State) (x : Nat) : (s.raise x).xLast = s.xLast := by unfold State.raise; dsimp only; split <;> rfl
@[simp] theorem raise_windows (s : State) (x : Nat) : (s.raise x).windows = s.windows := by unfold State.raise; dsimp only; split <;> rfl
@[simp] theorem raise_strands (s : State) (x : Nat) : (s.raise x).strands = s.strands := by unfold State.raise; dsimp only; split <;> rfl
@[simp] theorem raise_ports (s : State) (x : Nat) : (s.raise x).ports = s.ports := by unfold State.raise; dsimp only; split <;> rfl
@[simp] theorem raise_psubFrame (s : State) (x : Nat) : (s.raise x).psubFrame = s.psubFrame := by unfold State.raise; dsimp only; split <;> rfl
@[simp] theorem raise_aligner (s : State) (x : Nat) : (s.raise x).aligner = s.aligner := by unfold State.raise; dsimp only; split <;> rfl
@[simp] theorem raise_egressQ (s : State) (x : Nat) : (s.raise x).egressQ = s.egressQ := by unfold State.raise; dsimp only; split <;> rfl
@[simp] theorem raise_sendLines (s : State) (x : Nat) : (s.raise x).sendLines = s.sendLines := by unfold State.raise; dsimp only; split <;> rfl
@[simp] theorem raise_ancOut (s : State) (x : Nat) : (s.raise x).ancOut = s.ancOut := by unfold State.raise; dsimp only; split <;> rfl
@[simp] theorem raise_sent (s : State) (x : Nat) : (s.raise x).sent = s.sent := by unfold State.raise; dsimp only; split <;> rfl
@[simp] theorem raise_destHold (s : State) (x : Nat) : (s.raise x).destHold = s.destHold := by unfold State.raise; dsimp only; split <;> rfl
@[simp] theorem raise_destGen (s : State) (x : Nat) : (s.raise x).destGen = s.destGen := by unfold State.raise; dsimp only; split <;> rfl
@[simp] theorem raise_destLine (s : State) (x : Nat) : (s.raise x).destLine = s.destLine := by unfold State.raise; dsimp only; split <;> rfl
@[simp] theorem raise_digs (s : State) (x : Nat) : (s.raise x).digs = s.digs := by unfold State.raise; dsimp only; split <;> rfl
@[simp] theorem raise_probeRun (s : State) (x : Nat) : (s.raise x).probeRun = s.probeRun := by unfold State.raise; dsimp only; split <;> rfl
@[simp] theorem raise_engs (s : State) (x : Nat) : (s.raise x).engs = s.engs := by unfold State.raise; dsimp only; split <;> rfl
@[simp] theorem raise_pmem (s : State) (x : Nat) : (s.raise x).pmem = s.pmem := by unfold State.raise; dsimp only; split <;> rfl
@[simp] theorem raise_dmem (s : State) (x : Nat) : (s.raise x).dmem = s.dmem := by unfold State.raise; dsimp only; split <;> rfl
@[simp] theorem raise_smem (s : State) (x : Nat) : (s.raise x).smem = s.smem := by unfold State.raise; dsimp only; split <;> rfl
@[simp] theorem raise_peFaults (s : State) (x : Nat) : (s.raise x).peFaults = s.peFaults := by unfold State.raise; dsimp only; split <;> rfl
@[simp] theorem raise_subst (s : State) (x : Nat) : (s.raise x).subst = s.subst := by unfold State.raise; dsimp only; split <;> rfl
@[simp] theorem raise_twin (s : State) (x : Nat) : (s.raise x).twin = s.twin := by unfold State.raise; dsimp only; split <;> rfl
@[simp] theorem raise_flt (s : State) (x : Nat) : (s.raise x).flt = s.flt := by unfold State.raise; dsimp only; split <;> rfl
@[simp] theorem raise_pins (s : State) (x : Nat) : (s.raise x).pins = s.pins := by unfold State.raise; dsimp only; split <;> rfl
@[simp] theorem raise_sable (s : State) (x : Nat) : (s.raise x).sable = s.sable := by unfold State.raise; dsimp only; split <;> rfl
@[simp] theorem raise_adm (s : State) (x : Nat) : (s.raise x).adm = s.adm := by unfold State.raise; dsimp only; split <;> rfl
@[simp] theorem raise_freeCtr (s : State) (x : Nat) : (s.raise x).freeCtr = s.freeCtr := by unfold State.raise; dsimp only; split <;> rfl
@[simp] theorem raise_pending (s : State) (x : Nat) : (s.raise x).pending = s.pending := by unfold State.raise; dsimp only; split <;> rfl
@[simp] theorem raise_hostFifo (s : State) (x : Nat) : (s.raise x).hostFifo = s.hostFifo := by unfold State.raise; dsimp only; split <;> rfl
@[simp] theorem raise_txq (s : State) (x : Nat) : (s.raise x).txq = s.txq := by unfold State.raise; dsimp only; split <;> rfl
@[simp] theorem raise_headReinit (s : State) (x : Nat) : (s.raise x).headReinit = s.headReinit := by unfold State.raise; dsimp only; split <;> rfl
@[simp] theorem raise_addend (s : State) (x : Nat) : (s.raise x).addend = s.addend := by unfold State.raise; dsimp only; split <;> rfl
@[simp] theorem raise_ptpRun (s : State) (x : Nat) : (s.raise x).ptpRun = s.ptpRun := by unfold State.raise; dsimp only; split <;> rfl
@[simp] theorem raise_ref (s : State) (x : Nat) : (s.raise x).ref = s.ref := by unfold State.raise; dsimp only; split <;> rfl
@[simp] theorem raise_synths (s : State) (x : Nat) : (s.raise x).synths = s.synths := by unfold State.raise; dsimp only; split <;> rfl
@[simp] theorem raise_refouts (s : State) (x : Nat) : (s.raise x).refouts = s.refouts := by unfold State.raise; dsimp only; split <;> rfl
@[simp] theorem raise_flows (s : State) (x : Nat) : (s.raise x).flows = s.flows := by unfold State.raise; dsimp only; split <;> rfl
@[simp] theorem raise_flowSt (s : State) (x : Nat) : (s.raise x).flowSt = s.flowSt := by unfold State.raise; dsimp only; split <;> rfl
@[simp] theorem raise_flowBind (s : State) (x : Nat) : (s.raise x).flowBind = s.flowBind := by unfold State.raise; dsimp only; split <;> rfl
@[simp] theorem raise_opaques (s : State) (x : Nat) : (s.raise x).opaques = s.opaques := by unfold State.raise; dsimp only; split <;> rfl
@[simp] theorem raise_pauseUntil (s : State) (x : Nat) : (s.raise x).pauseUntil = s.pauseUntil := by unfold State.raise; dsimp only; split <;> rfl
@[simp] theorem raise_lpiSince (s : State) (x : Nat) : (s.raise x).lpiSince = s.lpiSince := by unfold State.raise; dsimp only; split <;> rfl
@[simp] theorem raise_rings (s : State) (x : Nat) : (s.raise x).rings = s.rings := by unfold State.raise; dsimp only; split <;> rfl
@[simp] theorem raise_headAct (s : State) (x : Nat) : (s.raise x).headAct = s.headAct := by unfold State.raise; dsimp only; split <;> rfl
@[simp] theorem raise_headStg (s : State) (x : Nat) : (s.raise x).headStg = s.headStg := by unfold State.raise; dsimp only; split <;> rfl
@[simp] theorem raise_heads (s : State) (x : Nat) : (s.raise x).heads = s.heads := by unfold State.raise; dsimp only; split <;> rfl
@[simp] theorem raise_layers (s : State) (x : Nat) : (s.raise x).layers = s.layers := by unfold State.raise; dsimp only; split <;> rfl
@[simp] theorem raise_ochreLog (s : State) (x : Nat) : (s.raise x).ochreLog = s.ochreLog := by unfold State.raise; dsimp only; split <;> rfl
@[simp] theorem raise_ochreSeq (s : State) (x : Nat) : (s.raise x).ochreSeq = s.ochreSeq := by unfold State.raise; dsimp only; split <;> rfl
@[simp] theorem raise_lut (s : State) (x : Nat) : (s.raise x).lut = s.lut := by unfold State.raise; dsimp only; split <;> rfl
@[simp] theorem raise_lutValid (s : State) (x : Nat) : (s.raise x).lutValid = s.lutValid := by unfold State.raise; dsimp only; split <;> rfl
@[simp] theorem raise_lutCrc (s : State) (x : Nat) : (s.raise x).lutCrc = s.lutCrc := by unfold State.raise; dsimp only; split <;> rfl
@[simp] theorem raise_lutOpen (s : State) (x : Nat) : (s.raise x).lutOpen = s.lutOpen := by unfold State.raise; dsimp only; split <;> rfl
@[simp] theorem raise_aud (s : State) (x : Nat) : (s.raise x).aud = s.aud := by unfold State.raise; dsimp only; split <;> rfl
@[simp] theorem raise_tdms (s : State) (x : Nat) : (s.raise x).tdms = s.tdms := by unfold State.raise; dsimp only; split <;> rfl
@[simp] theorem raise_keys (s : State) (x : Nat) : (s.raise x).keys = s.keys := by unfold State.raise; dsimp only; split <;> rfl
@[simp] theorem raise_lanes (s : State) (x : Nat) : (s.raise x).lanes = s.lanes := by unfold State.raise; dsimp only; split <;> rfl
@[simp] theorem raise_remap (s : State) (x : Nat) : (s.raise x).remap = s.remap := by unfold State.raise; dsimp only; split <;> rfl
@[simp] theorem raise_wear (s : State) (x : Nat) : (s.raise x).wear = s.wear := by unfold State.raise; dsimp only; split <;> rfl
@[simp] theorem engEvent_clk (s : State) (k b : Nat) : (s.engEvent k b).clk = s.clk := by unfold State.engEvent; split <;> rfl
@[simp] theorem engEvent_house (s : State) (k b : Nat) : (s.engEvent k b).house = s.house := by unfold State.engEvent; split <;> rfl
@[simp] theorem engEvent_ptp (s : State) (k b : Nat) : (s.engEvent k b).ptp = s.ptp := by unfold State.engEvent; split <;> rfl
@[simp] theorem engEvent_rasters (s : State) (k b : Nat) : (s.engEvent k b).rasters = s.rasters := by unfold State.engEvent; split <;> rfl
@[simp] theorem engEvent_gpis (s : State) (k b : Nat) : (s.engEvent k b).gpis = s.gpis := by unfold State.engEvent; split <;> rfl
@[simp] theorem engEvent_gpiq (s : State) (k b : Nat) : (s.engEvent k b).gpiq = s.gpiq := by unfold State.engEvent; split <;> rfl
@[simp] theorem engEvent_gpiSeq (s : State) (k b : Nat) : (s.engEvent k b).gpiSeq = s.gpiSeq := by unfold State.engEvent; split <;> rfl
@[simp] theorem engEvent_gpiOn (s : State) (k b : Nat) : (s.engEvent k b).gpiOn = s.gpiOn := by unfold State.engEvent; split <;> rfl
@[simp] theorem engEvent_gpoClock (s : State) (k b : Nat) : (s.engEvent k b).gpoClock = s.gpoClock := by unfold State.engEvent; split <;> rfl
@[simp] theorem engEvent_xActive (s : State) (k b : Nat) : (s.engEvent k b).xActive = s.xActive := by unfold State.engEvent; split <;> rfl
@[simp] theorem engEvent_xLock (s : State) (k b : Nat) : (s.engEvent k b).xLock = s.xLock := by unfold State.engEvent; split <;> rfl
@[simp] theorem engEvent_xShadow (s : State) (k b : Nat) : (s.engEvent k b).xShadow = s.xShadow := by unfold State.engEvent; split <;> rfl
@[simp] theorem engEvent_xCommits (s : State) (k b : Nat) : (s.engEvent k b).xCommits = s.xCommits := by unfold State.engEvent; split <;> rfl
@[simp] theorem engEvent_xNext (s : State) (k b : Nat) : (s.engEvent k b).xNext = s.xNext := by unfold State.engEvent; split <;> rfl
@[simp] theorem engEvent_xLast (s : State) (k b : Nat) : (s.engEvent k b).xLast = s.xLast := by unfold State.engEvent; split <;> rfl
@[simp] theorem engEvent_windows (s : State) (k b : Nat) : (s.engEvent k b).windows = s.windows := by unfold State.engEvent; split <;> rfl
@[simp] theorem engEvent_strands (s : State) (k b : Nat) : (s.engEvent k b).strands = s.strands := by unfold State.engEvent; split <;> rfl
@[simp] theorem engEvent_ports (s : State) (k b : Nat) : (s.engEvent k b).ports = s.ports := by unfold State.engEvent; split <;> rfl
@[simp] theorem engEvent_psubFrame (s : State) (k b : Nat) : (s.engEvent k b).psubFrame = s.psubFrame := by unfold State.engEvent; split <;> rfl
@[simp] theorem engEvent_aligner (s : State) (k b : Nat) : (s.engEvent k b).aligner = s.aligner := by unfold State.engEvent; split <;> rfl
@[simp] theorem engEvent_egressQ (s : State) (k b : Nat) : (s.engEvent k b).egressQ = s.egressQ := by unfold State.engEvent; split <;> rfl
@[simp] theorem engEvent_sendLines (s : State) (k b : Nat) : (s.engEvent k b).sendLines = s.sendLines := by unfold State.engEvent; split <;> rfl
@[simp] theorem engEvent_ancOut (s : State) (k b : Nat) : (s.engEvent k b).ancOut = s.ancOut := by unfold State.engEvent; split <;> rfl
@[simp] theorem engEvent_sent (s : State) (k b : Nat) : (s.engEvent k b).sent = s.sent := by unfold State.engEvent; split <;> rfl
@[simp] theorem engEvent_destHold (s : State) (k b : Nat) : (s.engEvent k b).destHold = s.destHold := by unfold State.engEvent; split <;> rfl
@[simp] theorem engEvent_destGen (s : State) (k b : Nat) : (s.engEvent k b).destGen = s.destGen := by unfold State.engEvent; split <;> rfl
@[simp] theorem engEvent_destLine (s : State) (k b : Nat) : (s.engEvent k b).destLine = s.destLine := by unfold State.engEvent; split <;> rfl
@[simp] theorem engEvent_digs (s : State) (k b : Nat) : (s.engEvent k b).digs = s.digs := by unfold State.engEvent; split <;> rfl
@[simp] theorem engEvent_probeRun (s : State) (k b : Nat) : (s.engEvent k b).probeRun = s.probeRun := by unfold State.engEvent; split <;> rfl
@[simp] theorem engEvent_engs (s : State) (k b : Nat) : (s.engEvent k b).engs = s.engs := by unfold State.engEvent; split <;> rfl
@[simp] theorem engEvent_pmem (s : State) (k b : Nat) : (s.engEvent k b).pmem = s.pmem := by unfold State.engEvent; split <;> rfl
@[simp] theorem engEvent_dmem (s : State) (k b : Nat) : (s.engEvent k b).dmem = s.dmem := by unfold State.engEvent; split <;> rfl
@[simp] theorem engEvent_smem (s : State) (k b : Nat) : (s.engEvent k b).smem = s.smem := by unfold State.engEvent; split <;> rfl
@[simp] theorem engEvent_peFaults (s : State) (k b : Nat) : (s.engEvent k b).peFaults = s.peFaults := by unfold State.engEvent; split <;> rfl
@[simp] theorem engEvent_subst (s : State) (k b : Nat) : (s.engEvent k b).subst = s.subst := by unfold State.engEvent; split <;> rfl
@[simp] theorem engEvent_twin (s : State) (k b : Nat) : (s.engEvent k b).twin = s.twin := by unfold State.engEvent; split <;> rfl
@[simp] theorem engEvent_flt (s : State) (k b : Nat) : (s.engEvent k b).flt = s.flt := by unfold State.engEvent; split <;> rfl
@[simp] theorem engEvent_pins (s : State) (k b : Nat) : (s.engEvent k b).pins = s.pins := by unfold State.engEvent; split <;> rfl
@[simp] theorem engEvent_sable (s : State) (k b : Nat) : (s.engEvent k b).sable = s.sable := by unfold State.engEvent; split <;> rfl
@[simp] theorem engEvent_adm (s : State) (k b : Nat) : (s.engEvent k b).adm = s.adm := by unfold State.engEvent; split <;> rfl
@[simp] theorem engEvent_hif (s : State) (k b : Nat) : (s.engEvent k b).hif = s.hif := by unfold State.engEvent; split <;> rfl
@[simp] theorem engEvent_freeCtr (s : State) (k b : Nat) : (s.engEvent k b).freeCtr = s.freeCtr := by unfold State.engEvent; split <;> rfl
@[simp] theorem engEvent_pending (s : State) (k b : Nat) : (s.engEvent k b).pending = s.pending := by unfold State.engEvent; split <;> rfl
@[simp] theorem engEvent_hostFifo (s : State) (k b : Nat) : (s.engEvent k b).hostFifo = s.hostFifo := by unfold State.engEvent; split <;> rfl
@[simp] theorem engEvent_txq (s : State) (k b : Nat) : (s.engEvent k b).txq = s.txq := by unfold State.engEvent; split <;> rfl
@[simp] theorem engEvent_headReinit (s : State) (k b : Nat) : (s.engEvent k b).headReinit = s.headReinit := by unfold State.engEvent; split <;> rfl
@[simp] theorem engEvent_addend (s : State) (k b : Nat) : (s.engEvent k b).addend = s.addend := by unfold State.engEvent; split <;> rfl
@[simp] theorem engEvent_ptpRun (s : State) (k b : Nat) : (s.engEvent k b).ptpRun = s.ptpRun := by unfold State.engEvent; split <;> rfl
@[simp] theorem engEvent_ref (s : State) (k b : Nat) : (s.engEvent k b).ref = s.ref := by unfold State.engEvent; split <;> rfl
@[simp] theorem engEvent_synths (s : State) (k b : Nat) : (s.engEvent k b).synths = s.synths := by unfold State.engEvent; split <;> rfl
@[simp] theorem engEvent_refouts (s : State) (k b : Nat) : (s.engEvent k b).refouts = s.refouts := by unfold State.engEvent; split <;> rfl
@[simp] theorem engEvent_flows (s : State) (k b : Nat) : (s.engEvent k b).flows = s.flows := by unfold State.engEvent; split <;> rfl
@[simp] theorem engEvent_flowSt (s : State) (k b : Nat) : (s.engEvent k b).flowSt = s.flowSt := by unfold State.engEvent; split <;> rfl
@[simp] theorem engEvent_flowBind (s : State) (k b : Nat) : (s.engEvent k b).flowBind = s.flowBind := by unfold State.engEvent; split <;> rfl
@[simp] theorem engEvent_opaques (s : State) (k b : Nat) : (s.engEvent k b).opaques = s.opaques := by unfold State.engEvent; split <;> rfl
@[simp] theorem engEvent_pauseUntil (s : State) (k b : Nat) : (s.engEvent k b).pauseUntil = s.pauseUntil := by unfold State.engEvent; split <;> rfl
@[simp] theorem engEvent_lpiSince (s : State) (k b : Nat) : (s.engEvent k b).lpiSince = s.lpiSince := by unfold State.engEvent; split <;> rfl
@[simp] theorem engEvent_rings (s : State) (k b : Nat) : (s.engEvent k b).rings = s.rings := by unfold State.engEvent; split <;> rfl
@[simp] theorem engEvent_headAct (s : State) (k b : Nat) : (s.engEvent k b).headAct = s.headAct := by unfold State.engEvent; split <;> rfl
@[simp] theorem engEvent_headStg (s : State) (k b : Nat) : (s.engEvent k b).headStg = s.headStg := by unfold State.engEvent; split <;> rfl
@[simp] theorem engEvent_heads (s : State) (k b : Nat) : (s.engEvent k b).heads = s.heads := by unfold State.engEvent; split <;> rfl
@[simp] theorem engEvent_layers (s : State) (k b : Nat) : (s.engEvent k b).layers = s.layers := by unfold State.engEvent; split <;> rfl
@[simp] theorem engEvent_ochreLog (s : State) (k b : Nat) : (s.engEvent k b).ochreLog = s.ochreLog := by unfold State.engEvent; split <;> rfl
@[simp] theorem engEvent_ochreSeq (s : State) (k b : Nat) : (s.engEvent k b).ochreSeq = s.ochreSeq := by unfold State.engEvent; split <;> rfl
@[simp] theorem engEvent_lut (s : State) (k b : Nat) : (s.engEvent k b).lut = s.lut := by unfold State.engEvent; split <;> rfl
@[simp] theorem engEvent_lutValid (s : State) (k b : Nat) : (s.engEvent k b).lutValid = s.lutValid := by unfold State.engEvent; split <;> rfl
@[simp] theorem engEvent_lutCrc (s : State) (k b : Nat) : (s.engEvent k b).lutCrc = s.lutCrc := by unfold State.engEvent; split <;> rfl
@[simp] theorem engEvent_lutOpen (s : State) (k b : Nat) : (s.engEvent k b).lutOpen = s.lutOpen := by unfold State.engEvent; split <;> rfl
@[simp] theorem engEvent_aud (s : State) (k b : Nat) : (s.engEvent k b).aud = s.aud := by unfold State.engEvent; split <;> rfl
@[simp] theorem engEvent_tdms (s : State) (k b : Nat) : (s.engEvent k b).tdms = s.tdms := by unfold State.engEvent; split <;> rfl
@[simp] theorem engEvent_keys (s : State) (k b : Nat) : (s.engEvent k b).keys = s.keys := by unfold State.engEvent; split <;> rfl
@[simp] theorem engEvent_lanes (s : State) (k b : Nat) : (s.engEvent k b).lanes = s.lanes := by unfold State.engEvent; split <;> rfl
@[simp] theorem engEvent_remap (s : State) (k b : Nat) : (s.engEvent k b).remap = s.remap := by unfold State.engEvent; split <;> rfl
@[simp] theorem engEvent_wear (s : State) (k b : Nat) : (s.engEvent k b).wear = s.wear := by unfold State.engEvent; split <;> rfl
@[simp] theorem engMask_clk (s : State) (m b : Nat) : (s.engMask m b).clk = s.clk :=
  forEach_keeps State.clk _ _ (fun i s => engEvent_clk s i b) s
@[simp] theorem engMask_house (s : State) (m b : Nat) : (s.engMask m b).house = s.house :=
  forEach_keeps State.house _ _ (fun i s => engEvent_house s i b) s
@[simp] theorem engMask_ptp (s : State) (m b : Nat) : (s.engMask m b).ptp = s.ptp :=
  forEach_keeps State.ptp _ _ (fun i s => engEvent_ptp s i b) s
@[simp] theorem engMask_rasters (s : State) (m b : Nat) : (s.engMask m b).rasters = s.rasters :=
  forEach_keeps State.rasters _ _ (fun i s => engEvent_rasters s i b) s
@[simp] theorem engMask_gpis (s : State) (m b : Nat) : (s.engMask m b).gpis = s.gpis :=
  forEach_keeps State.gpis _ _ (fun i s => engEvent_gpis s i b) s
@[simp] theorem engMask_gpiq (s : State) (m b : Nat) : (s.engMask m b).gpiq = s.gpiq :=
  forEach_keeps State.gpiq _ _ (fun i s => engEvent_gpiq s i b) s
@[simp] theorem engMask_gpiSeq (s : State) (m b : Nat) : (s.engMask m b).gpiSeq = s.gpiSeq :=
  forEach_keeps State.gpiSeq _ _ (fun i s => engEvent_gpiSeq s i b) s
@[simp] theorem engMask_gpiOn (s : State) (m b : Nat) : (s.engMask m b).gpiOn = s.gpiOn :=
  forEach_keeps State.gpiOn _ _ (fun i s => engEvent_gpiOn s i b) s
@[simp] theorem engMask_gpoClock (s : State) (m b : Nat) : (s.engMask m b).gpoClock = s.gpoClock :=
  forEach_keeps State.gpoClock _ _ (fun i s => engEvent_gpoClock s i b) s
@[simp] theorem engMask_xActive (s : State) (m b : Nat) : (s.engMask m b).xActive = s.xActive :=
  forEach_keeps State.xActive _ _ (fun i s => engEvent_xActive s i b) s
@[simp] theorem engMask_xLock (s : State) (m b : Nat) : (s.engMask m b).xLock = s.xLock :=
  forEach_keeps State.xLock _ _ (fun i s => engEvent_xLock s i b) s
@[simp] theorem engMask_xShadow (s : State) (m b : Nat) : (s.engMask m b).xShadow = s.xShadow :=
  forEach_keeps State.xShadow _ _ (fun i s => engEvent_xShadow s i b) s
@[simp] theorem engMask_xCommits (s : State) (m b : Nat) : (s.engMask m b).xCommits = s.xCommits :=
  forEach_keeps State.xCommits _ _ (fun i s => engEvent_xCommits s i b) s
@[simp] theorem engMask_xNext (s : State) (m b : Nat) : (s.engMask m b).xNext = s.xNext :=
  forEach_keeps State.xNext _ _ (fun i s => engEvent_xNext s i b) s
@[simp] theorem engMask_xLast (s : State) (m b : Nat) : (s.engMask m b).xLast = s.xLast :=
  forEach_keeps State.xLast _ _ (fun i s => engEvent_xLast s i b) s
@[simp] theorem engMask_windows (s : State) (m b : Nat) : (s.engMask m b).windows = s.windows :=
  forEach_keeps State.windows _ _ (fun i s => engEvent_windows s i b) s
@[simp] theorem engMask_strands (s : State) (m b : Nat) : (s.engMask m b).strands = s.strands :=
  forEach_keeps State.strands _ _ (fun i s => engEvent_strands s i b) s
@[simp] theorem engMask_ports (s : State) (m b : Nat) : (s.engMask m b).ports = s.ports :=
  forEach_keeps State.ports _ _ (fun i s => engEvent_ports s i b) s
@[simp] theorem engMask_psubFrame (s : State) (m b : Nat) : (s.engMask m b).psubFrame = s.psubFrame :=
  forEach_keeps State.psubFrame _ _ (fun i s => engEvent_psubFrame s i b) s
@[simp] theorem engMask_aligner (s : State) (m b : Nat) : (s.engMask m b).aligner = s.aligner :=
  forEach_keeps State.aligner _ _ (fun i s => engEvent_aligner s i b) s
@[simp] theorem engMask_egressQ (s : State) (m b : Nat) : (s.engMask m b).egressQ = s.egressQ :=
  forEach_keeps State.egressQ _ _ (fun i s => engEvent_egressQ s i b) s
@[simp] theorem engMask_sendLines (s : State) (m b : Nat) : (s.engMask m b).sendLines = s.sendLines :=
  forEach_keeps State.sendLines _ _ (fun i s => engEvent_sendLines s i b) s
@[simp] theorem engMask_ancOut (s : State) (m b : Nat) : (s.engMask m b).ancOut = s.ancOut :=
  forEach_keeps State.ancOut _ _ (fun i s => engEvent_ancOut s i b) s
@[simp] theorem engMask_sent (s : State) (m b : Nat) : (s.engMask m b).sent = s.sent :=
  forEach_keeps State.sent _ _ (fun i s => engEvent_sent s i b) s
@[simp] theorem engMask_destHold (s : State) (m b : Nat) : (s.engMask m b).destHold = s.destHold :=
  forEach_keeps State.destHold _ _ (fun i s => engEvent_destHold s i b) s
@[simp] theorem engMask_destGen (s : State) (m b : Nat) : (s.engMask m b).destGen = s.destGen :=
  forEach_keeps State.destGen _ _ (fun i s => engEvent_destGen s i b) s
@[simp] theorem engMask_destLine (s : State) (m b : Nat) : (s.engMask m b).destLine = s.destLine :=
  forEach_keeps State.destLine _ _ (fun i s => engEvent_destLine s i b) s
@[simp] theorem engMask_digs (s : State) (m b : Nat) : (s.engMask m b).digs = s.digs :=
  forEach_keeps State.digs _ _ (fun i s => engEvent_digs s i b) s
@[simp] theorem engMask_probeRun (s : State) (m b : Nat) : (s.engMask m b).probeRun = s.probeRun :=
  forEach_keeps State.probeRun _ _ (fun i s => engEvent_probeRun s i b) s
@[simp] theorem engMask_engs (s : State) (m b : Nat) : (s.engMask m b).engs = s.engs :=
  forEach_keeps State.engs _ _ (fun i s => engEvent_engs s i b) s
@[simp] theorem engMask_pmem (s : State) (m b : Nat) : (s.engMask m b).pmem = s.pmem :=
  forEach_keeps State.pmem _ _ (fun i s => engEvent_pmem s i b) s
@[simp] theorem engMask_dmem (s : State) (m b : Nat) : (s.engMask m b).dmem = s.dmem :=
  forEach_keeps State.dmem _ _ (fun i s => engEvent_dmem s i b) s
@[simp] theorem engMask_smem (s : State) (m b : Nat) : (s.engMask m b).smem = s.smem :=
  forEach_keeps State.smem _ _ (fun i s => engEvent_smem s i b) s
@[simp] theorem engMask_peFaults (s : State) (m b : Nat) : (s.engMask m b).peFaults = s.peFaults :=
  forEach_keeps State.peFaults _ _ (fun i s => engEvent_peFaults s i b) s
@[simp] theorem engMask_subst (s : State) (m b : Nat) : (s.engMask m b).subst = s.subst :=
  forEach_keeps State.subst _ _ (fun i s => engEvent_subst s i b) s
@[simp] theorem engMask_twin (s : State) (m b : Nat) : (s.engMask m b).twin = s.twin :=
  forEach_keeps State.twin _ _ (fun i s => engEvent_twin s i b) s
@[simp] theorem engMask_flt (s : State) (m b : Nat) : (s.engMask m b).flt = s.flt :=
  forEach_keeps State.flt _ _ (fun i s => engEvent_flt s i b) s
@[simp] theorem engMask_pins (s : State) (m b : Nat) : (s.engMask m b).pins = s.pins :=
  forEach_keeps State.pins _ _ (fun i s => engEvent_pins s i b) s
@[simp] theorem engMask_sable (s : State) (m b : Nat) : (s.engMask m b).sable = s.sable :=
  forEach_keeps State.sable _ _ (fun i s => engEvent_sable s i b) s
@[simp] theorem engMask_adm (s : State) (m b : Nat) : (s.engMask m b).adm = s.adm :=
  forEach_keeps State.adm _ _ (fun i s => engEvent_adm s i b) s
@[simp] theorem engMask_hif (s : State) (m b : Nat) : (s.engMask m b).hif = s.hif :=
  forEach_keeps State.hif _ _ (fun i s => engEvent_hif s i b) s
@[simp] theorem engMask_freeCtr (s : State) (m b : Nat) : (s.engMask m b).freeCtr = s.freeCtr :=
  forEach_keeps State.freeCtr _ _ (fun i s => engEvent_freeCtr s i b) s
@[simp] theorem engMask_pending (s : State) (m b : Nat) : (s.engMask m b).pending = s.pending :=
  forEach_keeps State.pending _ _ (fun i s => engEvent_pending s i b) s
@[simp] theorem engMask_hostFifo (s : State) (m b : Nat) : (s.engMask m b).hostFifo = s.hostFifo :=
  forEach_keeps State.hostFifo _ _ (fun i s => engEvent_hostFifo s i b) s
@[simp] theorem engMask_txq (s : State) (m b : Nat) : (s.engMask m b).txq = s.txq :=
  forEach_keeps State.txq _ _ (fun i s => engEvent_txq s i b) s
@[simp] theorem engMask_headReinit (s : State) (m b : Nat) : (s.engMask m b).headReinit = s.headReinit :=
  forEach_keeps State.headReinit _ _ (fun i s => engEvent_headReinit s i b) s
@[simp] theorem engMask_addend (s : State) (m b : Nat) : (s.engMask m b).addend = s.addend :=
  forEach_keeps State.addend _ _ (fun i s => engEvent_addend s i b) s
@[simp] theorem engMask_ptpRun (s : State) (m b : Nat) : (s.engMask m b).ptpRun = s.ptpRun :=
  forEach_keeps State.ptpRun _ _ (fun i s => engEvent_ptpRun s i b) s
@[simp] theorem engMask_ref (s : State) (m b : Nat) : (s.engMask m b).ref = s.ref :=
  forEach_keeps State.ref _ _ (fun i s => engEvent_ref s i b) s
@[simp] theorem engMask_synths (s : State) (m b : Nat) : (s.engMask m b).synths = s.synths :=
  forEach_keeps State.synths _ _ (fun i s => engEvent_synths s i b) s
@[simp] theorem engMask_refouts (s : State) (m b : Nat) : (s.engMask m b).refouts = s.refouts :=
  forEach_keeps State.refouts _ _ (fun i s => engEvent_refouts s i b) s
@[simp] theorem engMask_flows (s : State) (m b : Nat) : (s.engMask m b).flows = s.flows :=
  forEach_keeps State.flows _ _ (fun i s => engEvent_flows s i b) s
@[simp] theorem engMask_flowSt (s : State) (m b : Nat) : (s.engMask m b).flowSt = s.flowSt :=
  forEach_keeps State.flowSt _ _ (fun i s => engEvent_flowSt s i b) s
@[simp] theorem engMask_flowBind (s : State) (m b : Nat) : (s.engMask m b).flowBind = s.flowBind :=
  forEach_keeps State.flowBind _ _ (fun i s => engEvent_flowBind s i b) s
@[simp] theorem engMask_opaques (s : State) (m b : Nat) : (s.engMask m b).opaques = s.opaques :=
  forEach_keeps State.opaques _ _ (fun i s => engEvent_opaques s i b) s
@[simp] theorem engMask_pauseUntil (s : State) (m b : Nat) : (s.engMask m b).pauseUntil = s.pauseUntil :=
  forEach_keeps State.pauseUntil _ _ (fun i s => engEvent_pauseUntil s i b) s
@[simp] theorem engMask_lpiSince (s : State) (m b : Nat) : (s.engMask m b).lpiSince = s.lpiSince :=
  forEach_keeps State.lpiSince _ _ (fun i s => engEvent_lpiSince s i b) s
@[simp] theorem engMask_rings (s : State) (m b : Nat) : (s.engMask m b).rings = s.rings :=
  forEach_keeps State.rings _ _ (fun i s => engEvent_rings s i b) s
@[simp] theorem engMask_headAct (s : State) (m b : Nat) : (s.engMask m b).headAct = s.headAct :=
  forEach_keeps State.headAct _ _ (fun i s => engEvent_headAct s i b) s
@[simp] theorem engMask_headStg (s : State) (m b : Nat) : (s.engMask m b).headStg = s.headStg :=
  forEach_keeps State.headStg _ _ (fun i s => engEvent_headStg s i b) s
@[simp] theorem engMask_heads (s : State) (m b : Nat) : (s.engMask m b).heads = s.heads :=
  forEach_keeps State.heads _ _ (fun i s => engEvent_heads s i b) s
@[simp] theorem engMask_layers (s : State) (m b : Nat) : (s.engMask m b).layers = s.layers :=
  forEach_keeps State.layers _ _ (fun i s => engEvent_layers s i b) s
@[simp] theorem engMask_ochreLog (s : State) (m b : Nat) : (s.engMask m b).ochreLog = s.ochreLog :=
  forEach_keeps State.ochreLog _ _ (fun i s => engEvent_ochreLog s i b) s
@[simp] theorem engMask_ochreSeq (s : State) (m b : Nat) : (s.engMask m b).ochreSeq = s.ochreSeq :=
  forEach_keeps State.ochreSeq _ _ (fun i s => engEvent_ochreSeq s i b) s
@[simp] theorem engMask_lut (s : State) (m b : Nat) : (s.engMask m b).lut = s.lut :=
  forEach_keeps State.lut _ _ (fun i s => engEvent_lut s i b) s
@[simp] theorem engMask_lutValid (s : State) (m b : Nat) : (s.engMask m b).lutValid = s.lutValid :=
  forEach_keeps State.lutValid _ _ (fun i s => engEvent_lutValid s i b) s
@[simp] theorem engMask_lutCrc (s : State) (m b : Nat) : (s.engMask m b).lutCrc = s.lutCrc :=
  forEach_keeps State.lutCrc _ _ (fun i s => engEvent_lutCrc s i b) s
@[simp] theorem engMask_lutOpen (s : State) (m b : Nat) : (s.engMask m b).lutOpen = s.lutOpen :=
  forEach_keeps State.lutOpen _ _ (fun i s => engEvent_lutOpen s i b) s
@[simp] theorem engMask_aud (s : State) (m b : Nat) : (s.engMask m b).aud = s.aud :=
  forEach_keeps State.aud _ _ (fun i s => engEvent_aud s i b) s
@[simp] theorem engMask_tdms (s : State) (m b : Nat) : (s.engMask m b).tdms = s.tdms :=
  forEach_keeps State.tdms _ _ (fun i s => engEvent_tdms s i b) s
@[simp] theorem engMask_keys (s : State) (m b : Nat) : (s.engMask m b).keys = s.keys :=
  forEach_keeps State.keys _ _ (fun i s => engEvent_keys s i b) s
@[simp] theorem engMask_lanes (s : State) (m b : Nat) : (s.engMask m b).lanes = s.lanes :=
  forEach_keeps State.lanes _ _ (fun i s => engEvent_lanes s i b) s
@[simp] theorem engMask_remap (s : State) (m b : Nat) : (s.engMask m b).remap = s.remap :=
  forEach_keeps State.remap _ _ (fun i s => engEvent_remap s i b) s
@[simp] theorem engMask_wear (s : State) (m b : Nat) : (s.engMask m b).wear = s.wear :=
  forEach_keeps State.wear _ _ (fun i s => engEvent_wear s i b) s

/-! ### Register fields -/

/-- Raising an interrupt changes no register field but a pending bit of its vector. -/
theorem raise_rd (s : State) (x : Nat) (g : Fld) (j : Nat) (h : ∀ v, g.key j ≠ F.MSIX_PBA_PENDING.key v) :
    (s.raise x).rd g j = s.rd g j := by
  unfold State.raise
  dsimp only
  split
  · simp only [State.rd, State.wr, tget_tput_ne _ _ _ _ _ _ (h _)]
  · rfl

/-- Setting an engine's event changes no other register field. -/
theorem engEvent_rd (s : State) (n b : Nat) (g : Fld) (j : Nat) (h : ∀ v, v < 5 → g.key j ≠ F.CUE_EVPEND_BITS.key v) :
    (s.engEvent n b).rd g j = s.rd g j := by
  unfold State.engEvent
  split
  · rfl
  · simp only [State.rd, State.wr, tget_tput_ne _ _ _ _ _ _ (h n (by omega))]

theorem engMask_rd (s : State) (m b : Nat) (g : Fld) (j : Nat) (h : ∀ v, v < 5 → g.key j ≠ F.CUE_EVPEND_BITS.key v) :
    (s.engMask m b).rd g j = s.rd g j :=
  forEach_keeps (fun s => s.rd g j) _ _ (fun i s => engEvent_rd s i b g j h) s

end Sys2Proof.Laws
end

