-- ==== Sys2Proof/Machine/Pads.lean ====
section
/-! DEFINITION. The package's balls (R508-R511), the states of the output balls (R520) and IDCODE (R527). -/
namespace Sys2Proof.Machine

/-! ### Balls (R508-R511) -/

/-- The letters of rows, and the name of row `a` (1-68). -/
def rowLetters : List String :=
  ["A", "B", "C", "D", "E", "F", "G", "H", "J", "K", "L", "M", "N", "P", "T", "U", "V", "W", "Y"]
def rowName (a : Nat) : String :=
  if a ≤ 19 then rowLetters.getD (a - 1) "" else rowLetters.getD ((a - 20) / 19) "" ++ rowLetters.getD ((a - 20) % 19) ""

/-- A ball: its row index and column, each from 1; its name; its centre from the package centre seen from the lid side, in half
millimetres. -/
structure Ball where
  row : Nat
  col : Nat
deriving DecidableEq, Repr
def Ball.name (b : Ball) : String := rowName b.row ++ toString b.col
def Ball.centre (b : Ball) : Int × Int := (2 * (b.col : Int) - 69, 69 - 2 * (b.row : Int))

/-- A serdes lane of the package. -/
inductive Serdes where
  | fl (n : Fin 152)
  | tl (i : Fin 4)
  | mp (n : Fin 8) (k : Fin 4)
  | mgt
  | cx (c : Fin 4) (k : Fin 16)
  | pe (k : Fin 8)
deriving DecidableEq, Repr

/-- The top-left ball of cell `q` of the region that begins in row `first` (R509). -/
def cellAt (first q : Nat) : Ball := ⟨first + 2 * (q / 13), 9 + 4 * (q % 13)⟩

/-- The top-left ball of a lane's cell (R509). -/
def Serdes.cell (l : Serdes) : Ball :=
  match l with
  | .fl n =>
    if n.val < 68 then ⟨2 * (n.val / 2) + 1, if n.val % 2 = 0 then 1 else 5⟩
    else if n.val < 136 then ⟨2 * ((n.val - 68) / 2) + 1, if n.val % 2 = 0 then 65 else 61⟩
    else cellAt 1 (n.val - 136)
  | .mp n k => cellAt 1 (16 + 4 * n.val + k.val)
  | .tl i => cellAt 1 (48 + i.val)
  | .mgt => cellAt 1 52
  | .pe k => cellAt 1 (53 + k.val)
  | .cx c k => cellAt 59 (16 * c.val + k.val)

/-- The lane's four balls: TXP, TXN, RXP, RXN. The other four of its cell are VSS. -/
def Serdes.balls (l : Serdes) : List Ball :=
  let o := l.cell
  [o, ⟨o.row, o.col + 1⟩, ⟨o.row + 1, o.col + 2⟩, ⟨o.row + 1, o.col + 3⟩]

/-- The ball of signal `i` of Table 21-2 (R510). -/
def ioBall (i : Nat) : Ball := let p := i + i / 7
  ⟨11 + p / 52, 9 + p % 52⟩

/-- A supply. -/
inductive Rail where | vss | fuse | io18 | pll | vddhSer | ser | sram | core
deriving DecidableEq, Repr

/-- What a ball of the power field carries (R511). -/
def Ball.rail (b : Ball) : Rail :=
  let a := b.row
  if (a + b.col) % 2 = 0 then .vss
  else if a = 15 then (if b.col = 10 ∨ b.col = 12 then .fuse else .io18)
  else if a = 16 then .pll
  else if a = 17 ∨ a = 18 ∨ 57 ≤ a then .vddhSer
  else if a ≤ 24 ∨ 50 < a then .ser
  else if a ≤ 26 ∨ 48 < a then .sram
  else .core

/-! ### Output balls (R520, Table 21-8) -/

/-- What an output does. -/
inductive Pad where | low | high | highZ | running
deriving DecidableEq, Repr

def Pad.ofBool (b : Bool) : Pad := if b then .high else .low

/-- The status balls: GPO[i], OWN, READY, REFSTAT[i], REFGOOD, FAULT_N, SEVERE_N, and THERMTRIP_N, whose release leaves it to its pull-up. -/
def State.gpoPad (s : State) (i : Nat) : Pad := .ofBool (Mode.init < s.mode && bit (s.rd F.SLATE_GPO_LEVEL_LEVEL 0) i)
def State.ownPad (s : State) : Pad := .ofBool s.ownPin
def State.readyPad (s : State) : Pad := .ofBool s.pins.ready
def State.refstatPad (s : State) (i : Nat) : Pad := .ofBool (s.refstatPins.toNat.testBit i)
def State.refgoodPad (s : State) : Pad := .ofBool s.refgoodPin
def State.faultPad (s : State) : Pad := .ofBool s.faultPinN
def State.severePad (s : State) : Pad := .ofBool s.severePinN
def State.thermtripPad (s : State) : Pad := if s.pins.thermtripN then .highZ else .low

/-- The clock tree has come up: step CLOCKS of CALIBRATE has begun. -/
def State.clocksUp (s : State) : Bool := decide (Mode.calibrate < s.mode ∨ (s.mode = Mode.calibrate ∧ s.rd F.TOP_DEV_MODE_CAL_STAGE 0 ≠ 0))

/-- REFOUT[i] and CX_REFCLK. -/
def State.refoutPad (s : State) (i : Nat) : Pad := .ofBool (s.clocksUp && s.refoutLevel i)
def State.cxRefPad (s : State) : Pad := if s.clocksUp then .running else .low

/-- BCLK and FSYNC of a TDM port: driven only while EN and MASTER are set. DOUT: driven while EN is set, low in STOPPED. -/
def State.tdmClockPad (s : State) (i : Nat) : Pad :=
  if Mode.init < s.mode && s.on F.TDM_CFG_EN i && s.on F.TDM_CFG_MASTER i then .running else .highZ
def State.tdmDoutPad (s : State) (i : Nat) : Pad :=
  if Mode.init < s.mode && s.on F.TDM_CFG_EN i then (if s.rd F.TDM_STATUS_STATE i = 3 then .low else .running) else .highZ

/-! ### IDCODE (R527) -/

/-- IDCODE: MAJOR, the part code, the manufacturer code 0x536, and a 1. -/
def State.idcode (s : State) : Nat := s.readWord 0 / 4096 % 16 * 2 ^ 28 + 0x1152 * 2 ^ 12 + 0x536 * 2 + 1

end Sys2Proof.Machine
end

