-- ==== Sys2Proof/WellFormed.lean ====
section
/-! DEFINITION. Which command terms a sender can form: numbers that travel in a field of a fixed width fit it, offsets lie
in their window, lists have the length their message or register gives them. Numbers of units are Fin already. -/
namespace Sys2Proof

/-- A list of `n` numbers below `b`. -/
def wordsOk (n b : Nat) (l : List Nat) : Bool := decide (l.length = n) && l.all (fun x => decide (x < b))

/-- At most `n` numbers, each below `b`. -/
def wordsUpTo (n b : Nat) (l : List Nat) : Bool := decide (l.length ≤ n) && l.all (fun x => decide (x < b))

/-- Bytes of a frame. -/
def bytesOk (l : List Nat) : Bool := l.all fun b => decide (b < 256)

/-- The header's numbers fit their fields (Table 14-1). -/
def CobHdr.wf (h : CobHdr) : Bool := decide (h.seq < 2 ^ 32 ∧ h.ack < 2 ^ 32)

/-- The command is one a sender can form. -/
def Instr.wf (i : Instr) : Bool :=
  match i with
  | .registerWrite off _ => decide (off < 16777216 ∧ off % 4 = 0)
  | .rcRead off => decide (off < 16777216 ∧ off % 4 = 0)
  | .unmappedAccess _ off _ => decide (off < 2 ^ 28)
  | .snap => true
  | .rasterCfgWrite _ _ => true
  | .rasterSeedWrite _ _ _ => true
  | .rasterTimingWrite _ _ => true
  | .rasterFrameStart _ => true
  | .cmpArm _ _ => true
  | .cmpDisarm _ _ => true
  | .cmpTgtWrite _ _ _ => true
  | .comparatorFire _ => true
  | .gpiLevelChange _ _ => true
  | .gpiEdgeAccept _ => true
  | .gpiPop _ => true
  | .gpoLevelWrite _ => true
  | .gpoSet _ => true
  | .gpoClr _ => true
  | .gpoSchedWrite _ _ _ => true
  | .gpoSchedApply _ => true
  | .refinTimingPoint _ => true
  | .refinStop _ => true
  | .candSourceLost _ => true
  | .candQualified _ => true
  | .driftUpdate offs => wordsOk 8 4294967296 offs
  | .candDriftCleared _ => true
  | .candDisqualified _ => true
  | .ptpValidWrite _ => true
  | .ptpValidExpire => true
  | .loopStageAdvance => true
  | .pullNow _ => true
  | .slewComplete => true
  | .historySample _ => true
  | .holdoverLimitExpire => true
  | .locoscFail => true
  | .refselCandWrite _ _ _ => true
  | .refselLocoscWrite _ => true
  | .synthLock g => g.2.all (fun x => decide (x < 4294967296))
  | .synthLockLoss g => g.2.1.all (fun x => decide (x < 4294967296))
  | .ditherSeedLoad _ _ => true
  | .refoutCfgWrite _ _ _ => true
  | .refoutChangeApply _ => true
  | .alignPortCfgWrite _ _ => true
  | .strandLineJudge _ j => wordsUpTo 10560 (2 ^ 20) j.words && decide (0 < j.clks ∧ j.clks < 2 ^ 20)
  | .windowReenter _ _ => true
  | .lineModeSlip _ => true
  | .lossPolicyApply _ => true
  | .lossPolicyReturn _ => true
  | .planeLineForward _ _ _ _ => true
  | .shadowXptWrite _ _ _ => true
  | .xptCommitGo _ => true
  | .xptCommitDiscard _ => true
  | .commitTakeEffect _ => true
  | .xptLockRequest _ => true
  | .probeFramePublish _ _ _ _ => true
  | .psubStart _ => true
  | .psubAbort _ => true
  | .psubLoadDone => true
  | .psubCompareDone => true
  | .psubRasterMove _ => true
  | .psubSwitchedDone => true
  | .cueStart _ _ => true
  | .cueStop _ _ => true
  | .cueResume _ _ => true
  | .engReset _ _ => true
  | .discardStaged _ _ => true
  | .ringDoorbell _ _ => true
  | .cueRecordFetch _ => true
  | .cueRecordAccept _ ws => wordsOk 512 (2 ^ 32) ws
  | .watchdogExpire _ => true
  | .waitMatch _ => true
  | .cueComparatorFire _ _ => true
  | .waitevWake _ => true
  | .waitevTimeout _ => true
  | .evrHeadWrite _ => true
  | .engSubstStart _ => true
  | .engSubstAbort _ => true
  | .engSubstCopyDone => true
  | .engSubstSwap => true
  | .engSubstSelftestDone _ => true
  | .engSubstAutoDone _ => true
  | .tsyncRelease _ => true
  | .tsyncTimeout _ => true
  | .fenceComplete _ => true
  | .br _ _ => true
  | .bz _ _ => true
  | .bnz _ _ => true
  | .call _ _ => true
  | .ret _ _ => true
  | .yield _ _ => true
  | .halt _ _ => true
  | .li _ _ => true
  | .liLong _ _ => true
  | .lui _ _ => true
  | .add _ _ => true
  | .sub _ _ => true
  | .and _ _ => true
  | .or _ _ => true
  | .xor _ _ => true
  | .shl _ _ => true
  | .shr _ _ => true
  | .cmp _ _ => true
  | .ld _ _ => true
  | .st _ _ => true
  | .ldTime _ _ => true
  | .stTime _ _ => true
  | .ldx _ _ => true
  | .stx _ _ => true
  | .tnow _ _ => true
  | .tadd _ _ => true
  | .wait _ _ => true
  | .waitev _ _ => true
  | .xstage _ _ => true
  | .xstageb _ _ => true
  | .xcommit _ _ => true
  | .xread _ _ => true
  | .xlock _ _ => true
  | .astage _ _ => true
  | .acommit _ _ => true
  | .lset _ _ => true
  | .hcommit _ _ => true
  | .bufalloc _ _ => true
  | .buffree _ _ => true
  | .recstart _ _ => true
  | .recstop _ _ => true
  | .play _ _ => true
  | .ask _ _ => true
  | .give _ _ => true
  | .emit _ _ => true
  | .fence _ _ => true
  | .tsync _ _ => true
  | .summary _ _ => true
  | .undefinedOpcode _ _ => true
  | .cxlPortBringupDone _ _ _ _ _ _ => true
  | .cxlpRetrain _ _ => true
  | .placementLoop ws wr rd => wordsOk 4 (2 ^ 32) ws && wordsOk 4 111 wr && wordsOk 4 111 rd
  | .cxlEventRecord _ addr => decide (addr < 2 ^ 64)
  | .migrationPageDone _ _ _ _ => true
  | .recorderFrameStart _ => true
  | .recorderLineComplete _ ws _ _ => decide (ws.length ≤ 4) && ws.all (wordsUpTo 10560 (2 ^ 20))
  | .playerFrameStart _ => true
  | .playerLineFetch _ _ _ => true
  | .descriptorRelease _ => true
  | .leaseSet _ => true
  | .hostWindowAccess _ o data n _ => decide (o < 2 ^ 36 ∧ n ≤ 4096) && (match data with | some bs => wordsUpTo 4096 256 bs | none => true)
  | .sableRelPop _ => true
  | .cxlMemTimeout _ addr => decide (addr < 2 ^ 64)
  | .cxlPortFail _ _ => true
  | .cxlMailboxTimeout _ => true
  | .headStagedWrite _ _ _ _ => true
  | .headCommitGo _ => true
  | .headCommitDiscard _ => true
  | .headLatch _ => true
  | .headFrameStart _ => true
  | .headLineCompose _ => true
  | .lutOpen _ => true
  | .lutDataWrite _ => true
  | .lutClose _ => true
  | .ochreLogPop _ => true
  | .audioBoundary _ x => x.1.all (fun e => decide (61440 ≤ e.1 ∧ e.1 < 61952 ∧ e.2 < 2 ^ 24)) && x.2.all (fun e => decide (e.1 < 65536))
  | .shadowAudioWrite _ _ _ => true
  | .audioCommitGo _ => true
  | .audioCommitDiscard _ => true
  | .audioCommitEffect => true
  | .zeroxTimeout _ => true
  | .fadeComplete _ => true
  | .delayBlockWrite _ _ _ => true
  | .delaySet _ _ => true
  | .audioPortCfgWrite _ _ => true
  | .deembSourceChoice _ _ _ _ _ => true
  | .tdmCfgWrite _ _ => true
  | .tdmFrame _ _ smp => wordsUpTo 32 (2 ^ 32) smp
  | .tdmStop _ => true
  | .tdmMasterStart _ => true
  | .tetosFrameRx _ lev _ _ _ => decide (lev.length = 2805)
  | .markerRx _ _ _ _ => true
  | .cellRx _ out _ => decide (out ≤ 64)
  | .skipRx _ _ _ => true
  | .statusBlockRx _ _ => true
  | .tagRx _ _ => true
  | .remapRx _ _ => true
  | .turnTx _ _ => true
  | .statusBlockTx _ _ _ => true
  | .laneCtrlWrite _ _ => true
  | .signalDetect _ => true
  | .laneActive _ => true
  | .laneSignalLoss _ => true
  | .laneLockTimeout _ => true
  | .remapStart _ => true
  | .remapAbort _ => true
  | .remapWakeDone => true
  | .remapWakeTimeout => true
  | .remapOfferTimeout => true
  | .remapCompareDone _ => true
  | .remapSwitchTurn => true
  | .laneTestStart _ _ => true
  | .laneTestStop _ _ => true
  | .statusAbsent _ => true
  | .mediaFrameRx f => decide (f.port ≤ 32 ∧ f.len < 65536 ∧ f.dst < 2 ^ 48) && (match f.udp with | some u => bytesOk u.payload | none => true)
  | .pauseExpire _ => true
  | .ipLineEgress _ => true
  | .ipFlowTimeout _ => true
  | .videoPacketTx _ _ _ _ _ => true
  | .audioPacketTx _ => true
  | .ancPacketTx _ n => decide (n < 65536)
  | .opaqueForward _ => true
  | .opaqueSourceSwitch _ => true
  | .opaqueSwitchTimeout _ => true
  | .flowEnable _ => true
  | .flowDisable _ => true
  | .flowClearStats _ => true
  | .flowEntryWrite _ _ _ => true
  | .mediaPortCfgWrite _ _ => true
  | .mediaLportCfgWrite _ _ => true
  | .mediaLinkChange _ _ => true
  | .lpiEnter => true
  | .txRingDoorbell _ _ => true
  | .txDescriptorSend _ w2 w3 fr => decide (w2 < 2 ^ 32 ∧ w3 < 2 ^ 32) && (match fr with | some bs => bytesOk bs | none => true)
  | .rxRingPost _ _ => true
  | .ptpTxqPop _ _ => true
  | .ptpAddendWrite _ => true
  | .ptpStepGo _ => true
  | .ptpRearm _ => true
  | .helloRx h b => h.wf && wordsOk 51 256 b
  | .recordRx h _ ws => h.wf && wordsOk 512 (2 ^ 32) ws
  | .valueRx h _ pc kind at' v => h.wf && decide (pc < 2 ^ 17 ∧ kind < 256 ∧ at'.frame < 2 ^ 64) && wordsUpTo 4 (2 ^ 32) v
  | .cackRx h _ pc code => h.wf && decide (pc < 2 ^ 17 ∧ code < 256)
  | .cackTimeout _ => true
  | .hostwRx h space off at' data => h.wf && decide (space < 256 ∧ off < 2 ^ 64 ∧ at'.frame < 2 ^ 64) && wordsUpTo 8128 256 data
  | .digestTx _ _ => true
  | .digestRx h _ frame es => h.wf && decide (frame < 2 ^ 64) && es.all fun e => decide (e.1 < 65536 ∧ e.2 < 2 ^ 32)
  | .timeRx h v => h.wf && decide (v < 2 ^ 96)
  | .cobaltTimeTx => true
  | .cobaltEchoTx => true
  | .echoRx h orig rx tx => h.wf && decide (orig < 2 ^ 96 ∧ rx < 2 ^ 96 ∧ tx < 2 ^ 96)
  | .cobaltStatusTx => true
  | .cobaltStatusRx h _ _ _ _ _ => h.wf
  | .cobaltRetxTimeout _ => true
  | .cobaltLinkLost _ => true
  | .giveupRx h _ => h.wf
  | .silenceTakeover => true
  | .take _ => true
  | .pairEnWrite _ => true
  | .cobaltResync _ => true
  | .stateTransferFreeze => true
  | .stateRx h o part => h.wf && decide (o < 256) && part.2.all fun w => decide (w < 2 ^ 64)
  | .pairInStep => true
  | .swapGo _ => true
  | .swapCancel _ => true
  | .swapAutoTimer => true
  | .swapRx h _ f => h.wf && decide (f < 2 ^ 64)
  | .swapFetchStop => true
  | .swapExecute => true
  | .admitAskGo _ => true
  | .admitAskCancel _ => true
  | .admitGiveGo _ => true
  | .admitQueueGrant => true
  | .askTimeout _ => true
  | .powerMeasure m => decide (m < 2048)
  | .thermalRead ts => wordsOk 24 256 ts
  | .thermCfgWrite _ => true
  | .thermtrip => true
  | .avsLoopTick _ _ => true
  | .avsEmergency _ => true
  | .avsTransactionFail => true
  | .faultCauseExpire _ => true
  | .holdLimitExpire _ => true
  | .faultClear _ _ => true
  | .wearEstimate m => m.all fun x => decide (x.1 < 960 ∧ x.2 < 65536)
  | .wearHourStep => true
  | .sramCanaryTest m => m.all fun x => decide (704 ≤ x.1 ∧ x.1 < 832 ∧ x.2 < 65536)
  | .wearSave _ => true
  | .wearRestore _ => true
  | .spareSubstStart _ => true
  | .spareSubstAbort _ => true
  | .headSubstMove _ => true
  | .spareTestStart _ => true
  | .spareTestDone _ => true
  | .scrubStart _ _ => true
  | .scrubStop _ _ => true
  | .scrubDone _ _ poison => poison.all fun g => decide (g < 2048)
  | .softRepairComplete _ => true
  | .repairPromote _ => true
  | .rstNAssert => true
  | .rstNRelease _ _ _ => true
  | .initComplete _ _ => true
  | .readyAssert cells => wordsOk 16 (2 ^ 1023) cells
  | .enrolKeyGo _ => true
  | .enrolTimeout => true
  | .enrolAck _ => true
  | .calGo _ => true
  | .calibrateDone => true
  | .modeRequest _ => true
  | .warmReset _ _ tld => wordsUpTo 262144 (2 ^ 32) tld
  | .warmResetComplete => true
  | .coldResetCmd _ => true
  | .blockResetCmd _ => true
  | .hostIfReset _ tld => wordsUpTo 262144 (2 ^ 32) tld
  | .d3hotEntry _ tld => wordsUpTo 262144 (2 ^ 32) tld
  | .railUndervoltage => true
  | .dmaReadError t addr _ tld => decide (t < 64 ∧ addr < 2 ^ 64) && wordsUpTo 262144 (2 ^ 32) tld
  | .smbSetAddr off _ => decide (off < 2 ^ 32)
  | .smbRead _ => true
  | .smbWrite _ _ => true
  | .smbStatus _ => true
  | .matrixLockBreak _ _ _ _ => true
  | .tldGo _ => true
  | .tldAbort _ tld => wordsUpTo 262144 (2 ^ 32) tld
  | .tldDone tld => wordsUpTo 262144 (2 ^ 32) tld
  | .summaryRequest _ => true
  | .summaryCapture => true
  | .summaryWritten => true
  | .keyUpdateGo _ => true
  | .keyUpdateComplete => true
  | .keysMsgClear _ => true
  | .keyMaskRefresh => true
  | .trngFail => true
  | .cueMemoryWindowWrite _ _ => true
  | .captureRead off => decide (off < 16777216 ∧ off % 4 = 0)
  | .layerLineFetch _ _ _ _ => true
  | .headSubstLoad => true
  | .d0Restore => true
  | .discardedMessageRx _ m _ => m.2.all fun w => decide (w < 2 ^ 64)
  | .tapInstructionUpdate _ => true

end Sys2Proof
end

