-- ==== Sys2Proof/Tests/Slice0.lean ====
section
/-! SUPPORT. Witnesses: for every statement with hypotheses, a state and operands that meet them; what single commands do; and
ill-formed commands that the check refuses. -/
set_option maxRecDepth 8000
namespace Sys2Proof.Tests
open Sys2Proof.Machine

/-- `c` runs in `s`. -/
abbrev Runs (c : Instr) (s : State) : Prop := ∃ t, exec c s = .next t

/-- A device with READY high in mode `m`, its other state as reset leaves it. -/
def up (m : Nat) : State :=
  { State.reset with pins := { State.reset.pins with ready := true, rstN := true } }.wr F.TOP_DEV_MODE_MODE 0 m

/-- The same device with READY low, so that no host access is carried out. -/
def shut (s : State) : State := { s with pins := { s.pins with ready := false } }

/-- Register fields of a state: field, copy, value. -/
def put (l : List (Fld × Nat × Nat)) (s : State) : State := l.foldl (fun s e => s.wr e.1 e.2.1 e.2.2) s

/-- A STANDALONE device with register fields set. -/
def st (l : List (Fld × Nat × Nat)) : State := put l (up Mode.standalone)

/-- Raster `n` enabled, at a position. -/
def ras (n : Nat) (p : Pos) (s : State) : State := (s.wr F.SLATE_RASTER_CFG_EN n 1).setRaster n { pos := p }

/-- Candidate `c` selected. -/
def selS (c : Nat) : State := st [(F.REFSEL_COND_SEL_VALID, 0, 1), (F.REFSEL_COND_SELECTED, 0, c)]

/-- Program words `ws` of engine `n` from address 0. -/
def prog (n : Nat) (ws : List Nat) (s : State) : State :=
  { s with pmem := (List.range ws.length).map fun i => (n * 32768 + i, ws.getD i 0) }

/-- Engine 4 of a STANDALONE device RUNNING at PC 0 with these words; `l` as in `put`, general registers by `g`. -/
def run (ws : List Nat) (l : List (Fld × Nat × Nat)) : State := prog 4 ws (st ((F.CUE_STATUS_STATE, 4, Es.running) :: l))

/-- General register `j` of engine 4. -/
def g (j v : Nat) : Fld × Nat × Nat := (F.CUE_GREG_VALUE, 64 + j, v)

/-- Raster 0 enabled at frame 1, time register 3 of engine 4 naming line `l` of frame `f`. -/
def timed (f l : Nat) (s : State) : State := (ras 0 ⟨1, 1, 0⟩ s).setK 4 3 ⟨0, ⟨f, l, 0⟩, true⟩

/-- Port 0 a 3G port with its first embedded group on. -/
def audOn (s : State) : State := put [(F.ALIGN_PORT_CFG_CLASS, 0, 2), (F.AUDIO_PORT_GRP_EN, 0, 1)] s

/-- Engine 4 of an ACTIVE device that mirrors, RUNNING at these words. -/
def run' (ws : List Nat) : State :=
  prog 4 ws (put [(F.CUE_STATUS_STATE, 4, Es.running), (F.COBALT_STATUS_PAIR_STATE, 0, 3)] (up Mode.active))

/-- Engine 4 of a STANDBY device, RUNNING at these words, the active's values `v` come for it. -/
def runS (ws : List Nat) (v : List (List Nat)) : State :=
  (prog 4 ws (put [(F.CUE_STATUS_STATE, 4, Es.running)] (up Mode.standby))).setEng 4 { vals := v }

/-- A mirrored value of engine 4 for PC 0, of a kind, with its data. -/
def val (k : Nat) (d : List Nat) : List Nat := [4, 0, 0, k, 0, 0, 0] ++ d

/-- A request waits before a port lane's, which lies at data word 0 of engine 4. -/
def askFull (s : State) : State :=
  { s with dmem := [(65536, 0x9701), (65537, 1)], adm := { s.adm with queue := [⟨2, 1, 0, 0⟩] } }

/-- Engine 4 holds the grant of ledger entry 1. -/
def holds (s : State) : State :=
  put [(F.ADMIT_LEDGER_CLASS, 1, 3), (F.ADMIT_LEDGER_HOLDER, 1, 4), (F.ADMIT_LEDGER_VALID, 1, 1)] s

/-- CXL port 0 up with one page; data words of engine 4 from address 0 name an audio buffer of one block. -/
def onePage (s : State) : State :=
  { (s.wr F.CXLP_PORT_STATUS_STATE 0 2).setCxl 0 { total := 1 } with dmem := [(65536, 0x10002)] }

/-- Raster 0 on its switch line of frame `f`. -/
def sw (f : Nat) (s : State) : State := ras 0 ⟨f, 7, 0⟩ s

/-- The ledger holds a grant of class `c` for instance `i` under token 1. -/
def granted (c i : Nat) (s : State) : State :=
  put [(F.ADMIT_LEDGER_CLASS, 1, c), (F.ADMIT_LEDGER_INSTANCE, 1, i), (F.ADMIT_LEDGER_VALID, 1, 1)] s

/-- Engine 4 of a STANDALONE device in state `e`. -/
def es4 (e : Nat) : State := st [(F.CUE_STATUS_STATE, 4, e)]

/-- Engine 3 IDLE with a record waiting in its ring, being fetched if `b`. -/
def ring3 (b : Bool) : State :=
  (st [(F.CUE_STATUS_STATE, 3, Es.idle), (F.CUE_CTRL_RING_EN, 3, 1), (F.CUE_CTRL_AUTH_REQ, 3, 0), (F.CUE_RING_TAIL_TAIL, 3, 1),
    (F.CUE_RING_SIZE_LOG2, 3, 4)]).setEng 3 { fetching := b }

/-- Engine 4 WAITING for `w`, comparator 3 reached for purpose `p`. -/
def waits (w : Wait) (p : Nat) (l : List (Fld × Nat × Nat)) : State :=
  (ras 0 ⟨1, 1, 0⟩ (st ((F.CUE_STATUS_STATE, 4, Es.waiting) :: l))).setEng 4 { wait := w, cmps := [(3, ⟨p, 0, ⟨1, 1, 0⟩⟩)] }

/-- The one page of a port is picked whatever the device's choice. -/
theorem pick1 (d : Nat) : (CxlPort.mk [] 1 0 [] [] 0 []).pick d = some 0 := by
  simp [CxlPort.pick, CxlPort.ordinary, Nat.mod_one, CxlPort.bad]

theorem pick0 (d : Nat) : (CxlPort.mk [] 0 0 [] [] 0 []).pick d = none := by
  simp [CxlPort.pick, CxlPort.ordinary]

/-- CXL port 3 in a state. -/
def cxl3 (x : Nat) (l : List (Fld × Nat × Nat)) : State := st ((F.CXLP_PORT_STATUS_STATE, 3, x) :: l)

/-- Descriptor 16383 has its page 0 in a marked region of port 3, and ports 2 and 3 are up under the migration grant. -/
def migr : State :=
  (((granted Gc.migration 0 (st [(F.CXLP_PORT_STATUS_STATE, 3, 3), (F.CXLP_PORT_STATUS_STATE, 2, 2),
    (F.SABLE_PLACE_GRANT_GRANT, 0, 1)])).setCxl 3 { total := 256, reserve := 1, marked := [0] }).setCxl 2 { total := 1 }).setDesc
    16383 { state := 1, pages := [{ port := 3, page := 0 }] }

/-- Recorder 127 RUNNING into descriptor 16383, or in `x`; its destination routed from an empty port. -/
def rec127 (x : Recorder) (d : Desc) : State :=
  (((st [(F.SABLE_REC_RUNNING, 127, 1), (F.SABLE_REC_HANDLE, 127, 16383)]).setRecorder 127 x).setDesc 16383 d).setXa 6268
    { routed := true }

/-- Player 127 RUNNING on raster 0. -/
def play127 (x : Player) : State := (ras 0 ⟨1, 1, 0⟩ (st [(F.SABLE_PLAY_RUNNING, 127, 1)])).setPlayer 127 x

/-- A buffer with one page placed and a frame whose line `n` comes next. -/
def oneFrame (pg : List Page) (n : Nat) : Desc := { state := 1, struct := 3, rate := 5, capacity := 1, pages := pg, stored := [{ seq := 5, next := n }] }

/-- Head 95 of a STANDALONE device with raster 0 on its switch line. -/
def head95 (x : Head) (l : List (Fld × Nat × Nat)) : State := (sw 1 (st l)).setHead 95 x

/-- A key message with one ERASE, its tags all zero. -/
def msg1 : List Nat := [1, 0, 1, 0] ++ List.replicate 124 0 ++ [0x80, 1] ++ List.replicate 654 0

/-- The key unit processing `msg1`, whose owner key is the one enrolled. -/
def keyed : State :=
  { st [(F.KEYS_UPD_CTRL_STATE, 0, 1), (F.KEYS_STATUS_ENROLLED, 0, 1)] with
    keys := { msg := msg1, ownerHash := Config.sha384 (sub msg1 0x10 97) } }

/-- An audio commit for line 1 of frame 2 of raster 0. -/
def acommit1 (gone : Bool) : ACommit := ⟨9, 7, 0, 0, ⟨2, 1, 0⟩, [], none, gone⟩

/-- Channel 65535 in a change whose first boundary is 1, long past. -/
def changing (mode : Nat) : State :=
  { st [] with aud := { bnd := 10 ^ 9, bnd44 := 10 ^ 9, chg := [(65535, [⟨{}, {}, 1, mode, 64, false, 0, 0⟩])] } }

/-- TDM port 15 with these registers. -/
def tdm15 (l : List (Fld × Nat × Nat)) (t : Tdm) : State := { st l with tdms := [(15, t)] }

/-- Lane 151 in a state, framed if `f`. -/
def lane151 (x f : Nat) (l : List (Fld × Nat × Nat)) : State :=
  st ((F.FAB_LANE_STATUS_STATE, 151, x) :: (F.FAB_LANE_STATUS_FRAME_LOCK, 151, f) :: (F.FAB_LANE_STATUS_LOGICAL, 151, 143) :: l)

/-- A control block of type `t` with content `c`, after its frame's marker. -/
def cb (t c : Nat) : RxBlk := ⟨⟨true, ctlPay t c⟩, 1, true⟩

/-- A marker's block, as its 66 bits. -/
def mark : List Nat := 1 :: 0 :: (List.range 64).map fun i => 0xF0E1D2C300000000 / 2 ^ i % 2

/-- Lane 151 ACTIVE on its block grid, framed, with these blocks received. -/
def fr (q : List RxBlk) (x : Lane) : State := (lane151 Ln.active 1 []).setLane 151 { x with rxq := q, grid := 64 }

/-- A remap in state `x` to lane 151, which is framed. -/
def remap (x : Nat) (l : List (Fld × Nat × Nat)) (r : Remap) : State :=
  { st ((F.FAB_REMAP_STATUS_STATE, 0, x) :: (F.FAB_REMAP_STATUS_NEW, 0, 151) :: (F.FAB_LANE_STATUS_FRAME_LOCK, 151, 1) ::
      (F.FAB_SPARE_CFG_PHYS, 7, 151) :: l) with remap := r, clk := 60 * msClk }

/-- Flow entry 65535 with words 0 and 10. -/
def flow (w0 w10 : Nat) (s : State) : State := (s.setFw 65535 0 w0).setFw 65535 10 w10

/-- MGT enabled. -/
def mgt (l : List (Fld × Nat × Nat)) : State := st ((F.MGT_CFG_EN, 0, 1) :: l)

/-- A frame of 64 bytes at MGT to the broadcast address; with a datagram or not. -/
def rxf (fcs : Bool) (len dst : Nat) (ctl : Bool) (p : Option Nat) (u : Option Datagram) : RxFrame :=
  ⟨32, fcs, len, dst, 0, 0, 0, ctl, p, u, 0, 0⟩

/-- A datagram for 10.0.0.1, whose checksums hold if `ok`. -/
def dg (ok : Bool) : Datagram := ⟨false, ok, [1, 0, 0, 0], [2, 0, 0, 0], 5004, []⟩

/-- Probe destination 6335 forwards an opaque strand. -/
def opq (o : Opaque) : State := { st [] with opaques := [(6335, o)], clk := 10 ^ 12 }

/-- MGT's transmit ring has a descriptor and the link is up. -/
def txr (l : List (Fld × Nat × Nat)) : State :=
  mgt ((F.MGT_RING_TXR_LOG2, 0, 4) :: (F.MGT_RING_TXR_EN, 0, 1) :: (F.MGT_RING_TXR_TAIL, 0, 1) :: (F.MGT_STATUS_LINK, 0, 1) :: l)

/-- Flow entry 65535 receives datagrams for 10.0.0.1 at MGT for the host. -/
def matched (s : State) : State := ((flow 0x2001 0 s).setFw 65535 1 5004).setFw 65535 2 1

/-- A twin message's header with the last SEQ before wrapping. -/
def hd : CobHdr := ⟨3, 0xFFFFFFFF, 0⟩

/-- A device in mode `m` with its twin link up: its ROLE, PAIR_STATE and other fields; it expects `hd`. -/
def tw (m role pair : Nat) (l : List (Fld × Nat × Nat)) (t : Twin) : State :=
  { put ((F.COBALT_CTRL_PAIR_EN, 0, 1) :: (F.COBALT_STATUS_LINK_UP, 0, 1) :: (F.COBALT_STATUS_ROLE, 0, role) ::
      (F.COBALT_STATUS_PAIR_STATE, 0, pair) :: l) (up m) with twin := { t with rxSeq := 0xFFFFFFFF }, clk := 10 ^ 20 }

/-- A standby in step, engine 4 in state `e`. -/
def sby (e : Nat) (x : Eng) : State := (tw Mode.standby 2 4 [(F.CUE_STATUS_STATE, 4, e)] {}).setEng 4 x

/-- An unacknowledged message sent `k` times again. -/
def late (k : Nat) : Msg := { typ := 1, body := [], tries := k }

/-- A HELLO of a twin with another serial number. -/
def hello1 : List Nat := (((tw Mode.standalone 0 1 [] {}).taken hd).hello.set 1 77).set 3 Mode.calibrate

/-- A message of the reserved TYPE 0, its CRC right, next in SEQ. -/
def unk : List Nat := [0xFFFFFFFF00030000, 0, crcWords [0x30000, 0xFFFFFFFF, 0, 0]]

/-- A swap agreed for frame 1, whose switch line raster 0 has reached, on an ACTIVE device or its standby. -/
def due (m : Nat) (x : Eng) (t : Twin) : State :=
  (sw 1 (tw m 1 4 [] { t with swapAgreed := true, swapActive := true, swapFrame := 1 })).setEng 4 x

/-- A device in INIT with RST_N high and READY as given. -/
def ini (ready : Bool) (l : List (Fld × Nat × Nat)) : State :=
  { put l (up Mode.init) with pins := { State.reset.pins with ready := ready, rstN := true } }

/-- A standby whose host has queued nothing, its ADMIT_ASK_CLASS and STATE set. -/
def ask (m cls x : Nat) : State :=
  put [(F.ADMIT_ASK_CLASS, 0, cls), (F.ADMIT_ASK_PARAM, 0, 1), (F.ADMIT_ASK_STATE, 0, x), (F.ADMIT_CEILING_CEIL, 0, 511)] (up m)

/-- An SMBus access awaited at offset `o`, with READY as given. -/
def smb (r : Bool) (o : Nat) : State := { st [] with pins := { (st []).pins with ready := r }, hif := { (st []).hif with smbOff := o }, clk := 10 ^ 9 }

theorem bufAlloc_ok (s : State) (n w0 w1 w2 w3 : Nat) (i gen : Nat) (t : State) (ps : List Page) (hu : bufUnits w0 w1 ≠ 0)
    (ha : s.allocDesc s.draw.2 none = some (i, gen))
    (hp : s.draw.1.draw.1.placeAll (s.pattern (bits w1 0 4) s.draw.2 s.draw.1.draw.2) (ceilDiv (bufUnits w0 w1) 32) s.draw.1.draw.2 =
      some (t, ps)) : (s.bufAlloc n w0 w1 w2 w3 none).2.1 = 0 := by
  unfold State.bufAlloc
  simp only [hu, if_false, ha, hp]

theorem onePage_ok : let s := onePage (run [0x60FE0000] []); (s.bufRequest 4 0 none).2.1 = 0 := by
  have place : ∀ (s : State) (d : Nat), s.portUp 0 = true → s.cxl 0 = CxlPort.mk [] 1 0 [] [] 0 [] →
      s.placeAll (List.replicate 16 0) 1 d = some (s.takePage 0 0, [{ port := 0, page := 0 }]) := by
    intro s d h1 h2
    have f : (CxlPort.mk [] 1 0 [] [] 0 []).free = 1 := by decide
    simp [State.placeAll, h1, h2, pick1, f, List.range_succ]
  exact bufAlloc_ok (onePage (run [0x60FE0000] [])) 4 0x10002 0 0 0 _ _ _ _ (by decide) rfl (place _ _ (by decide) (by decide))

theorem witness_FlowInstructions_1 (h : Obligations.FlowInstructions) :
    Runs (.br 4 none) (run [0x01000000] []) ∧ Runs (.bz 4 none) (run [0x02000001] []) ∧ Runs (.bz 4 none) (run [0x02F00001] [g 15 1]) ∧
    Runs (.bnz 4 none) (run [0x03F00001] [g 15 1]) ∧ Runs (.bnz 4 none) (run [0x03000001] []) ∧
    Runs (.call 4 none) (run [0x04007DFF] []) ∧
    Runs (.call 4 none) ((run [0x04007E00] []).setEng 4 { win := some ⟨[0x05000000], 0, 7, false, none⟩ }) ∧
    Runs (.ret 4 none) ((run [0x05000000] []).setEng 4 { stack := [0x1F7FC] }) ∧
    Runs (.ret 4 none) ((run [0x05000000] []).setEng 4 { stack := [0x40000] }) ∧ Runs (.yield 4 none) (run [0x06000000] []) ∧
    Runs (.halt 4 none) (run [0x07000000] []) ∧
    Runs (.halt 4 none) ((run [0x07000000] []).setEng 4 { win := some ⟨[0x05000000], 0, 7, true, none⟩ }) ∧
    Runs (.halt 4 none) ((run [0x07000000] []).setEng 4 { win := some ⟨[0x05000000], 0, 7, true, some 1⟩ }) :=
    ⟨⟨_, (h.1 4 none (run [0x01000000] []) (by decide)).1 (by decide) (by decide)⟩,
     ⟨_, (h.1 4 none (run [0x02000001] []) (by decide)).2.1 (by decide) (by decide) (by decide)⟩,
     ⟨_, (h.1 4 none (run [0x02F00001] [g 15 1]) (by decide)).2.2.1 (by decide) (by decide) (by decide)⟩,
     ⟨_, (h.1 4 none (run [0x03F00001] [g 15 1]) (by decide)).2.2.2.1 (by decide) (by decide) (by decide)⟩,
     ⟨_, (h.1 4 none (run [0x03000001] []) (by decide)).2.2.2.2.1 (by decide) (by decide) (by decide)⟩,
     ⟨_, (h.1 4 none (run [0x04007DFF] []) (by decide)).2.2.2.2.2.1 (by decide) (by decide) (by decide) (by decide)⟩,
     ⟨_, (h.1 4 none ((run [0x04007E00] []).setEng 4 { win := some ⟨[0x05000000], 0, 7, false, none⟩ }) (by decide)).2.2.2.2.2.2.1 (by decide) (by decide) (by decide) (by decide)⟩,
     ⟨_, (h.1 4 none ((run [0x05000000] []).setEng 4 { stack := [0x1F7FC] }) (by decide)).2.2.2.2.2.2.2.1 0x1F7FC [] (by decide) (by decide) (by decide) (by decide)⟩,
     ⟨_, (h.1 4 none ((run [0x05000000] []).setEng 4 { stack := [0x40000] }) (by decide)).2.2.2.2.2.2.2.2.1 [] (by decide) (by decide)⟩,
     ⟨_, (h.1 4 none (run [0x06000000] []) (by decide)).2.2.2.2.2.2.2.2.2.1 (by decide)⟩,
     ⟨_, (h.1 4 none (run [0x07000000] []) (by decide)).2.2.2.2.2.2.2.2.2.2.1 (by decide) (by decide)⟩,
     ⟨_, (h.1 4 none ((run [0x07000000] []).setEng 4 { win := some ⟨[0x05000000], 0, 7, true, none⟩ }) (by decide)).2.2.2.2.2.2.2.2.2.2.2.1 ⟨[0x05000000],0,7,true,none⟩ (by decide) (by decide) (by decide)⟩,
     ⟨_, (h.1 4 none ((run [0x07000000] []).setEng 4 { win := some ⟨[0x05000000], 0, 7, true, some 1⟩ }) (by decide)).2.2.2.2.2.2.2.2.2.2.2.2 ⟨[0x05000000],0,7,true,(some 1)⟩ 1 (by decide) (by decide) (by decide)⟩⟩

theorem witness_FlowInstructions_2 (h : Obligations.FlowInstructions) :
    Runs (.br 4 none) (run [0x0100FFFF] []) ∧ Runs (.bz 4 none) (run [0x0200FFFF] []) ∧
    Runs (.bz 4 none) (((run [] []).setPc 4 0x1F7FC).pmemPut 4 0x7DFF 0x02F00001 |>.setG 4 15 1) ∧
    Runs (.bnz 4 none) (run [0x03F0FFFF] [g 15 1]) ∧ Runs (.bnz 4 none) (((run [] []).setPc 4 0x1F7FC).pmemPut 4 0x7DFF 0x03F00001) ∧
    Runs (.call 4 none) (run [0x04008000] [g 0 1]) ∧
    Runs (.call 4 none) ((run [0x04007DFF] []).setEng 4 { stack := List.replicate 16 4 }) ∧ Runs (.call 4 none) (run [0x04007E00] []) ∧
    Runs (.call 4 none) ((run [0x04007E00] []).setEng 4 { win := some ⟨[0x05000000], 0, 7, false, none⟩, stack := List.replicate 16 4 }) ∧
    Runs (.ret 4 none) (run [0x05000000] []) ∧ Runs (.ret 4 none) ((run [0x05000000] []).setEng 4 { stack := [0x1F800] }) :=
    ⟨⟨_, (h.2 4 none (run [0x0100FFFF] []) (by decide)).1 (by decide) (by decide)⟩,
     ⟨_, (h.2 4 none (run [0x0200FFFF] []) (by decide)).2.1 (by decide) (by decide) (by decide)⟩,
     ⟨_, (h.2 4 none (((run [] []).setPc 4 0x1F7FC).pmemPut 4 0x7DFF 0x02F00001 |>.setG 4 15 1) (by decide)).2.2.1 (by decide) (by decide) (by decide)⟩,
     ⟨_, (h.2 4 none (run [0x03F0FFFF] [g 15 1]) (by decide)).2.2.2.1 (by decide) (by decide) (by decide)⟩,
     ⟨_, (h.2 4 none (((run [] []).setPc 4 0x1F7FC).pmemPut 4 0x7DFF 0x03F00001) (by decide)).2.2.2.2.1 (by decide) (by decide) (by decide)⟩,
     ⟨_, (h.2 4 none (run [0x04008000] [g 0 1]) (by decide)).2.2.2.2.2.1 (by decide) (by decide)⟩,
     ⟨_, (h.2 4 none ((run [0x04007DFF] []).setEng 4 { stack := List.replicate 16 4 }) (by decide)).2.2.2.2.2.2.1 (by decide) (by decide) (by decide) (by decide)⟩,
     Exists.imp (fun _ e => e.1) ((h.2 4 none (run [0x04007E00] []) (by decide)).2.2.2.2.2.2.2.1 (by decide) (by decide) (by decide) (by decide)),
     ⟨_, (h.2 4 none ((run [0x04007E00] []).setEng 4 { win := some ⟨[0x05000000], 0, 7, false, none⟩, stack := List.replicate 16 4 }) (by decide)).2.2.2.2.2.2.2.2.1 (by decide) (by decide) (by decide) (by decide)⟩,
     ⟨_, (h.2 4 none (run [0x05000000] []) (by decide)).2.2.2.2.2.2.2.2.2.1 (by decide) (by decide)⟩,
     ⟨_, (h.2 4 none ((run [0x05000000] []).setEng 4 { stack := [0x1F800] }) (by decide)).2.2.2.2.2.2.2.2.2.2 0x1F800 [] (by decide) (by decide) (by decide) (Or.inr (by decide))⟩⟩

theorem witness_ArithmeticResults (h : Obligations.ArithmeticResults) :
    Runs (.li 4 none) (run [0x10F0FFFF] []) ∧ Runs (.liLong 4 none) (run [0x11F00000, 0xFFFFFFFF] []) ∧
    Runs (.lui 4 none) (run [0x12F0FFFF] []) ∧ Runs (.add 4 none) (run [0x13FFFFFF] []) ∧ Runs (.sub 4 none) (run [0x14FF0000] []) ∧
    Runs (.and 4 none) (run [0x15FFFFFF] []) ∧ Runs (.or 4 none) (run [0x16FFFFFF] []) ∧ Runs (.xor 4 none) (run [0x17FF000F] []) ∧
    Runs (.shl 4 none) (run [0x18FF801F] []) ∧ Runs (.shr 4 none) (run [0x19FFC01F] []) ∧ Runs (.cmp 4 none) (run [0x1AFFDFFF] []) :=
    ⟨Exists.imp (fun _ e => e.1) ((h 4 none (run [0x10F0FFFF] []) (by decide)).1 (by decide)),
     Exists.imp (fun _ e => e.1) ((h 4 none (run [0x11F00000, 0xFFFFFFFF] []) (by decide)).2.1 (by decide)),
     Exists.imp (fun _ e => e.1) ((h 4 none (run [0x12F0FFFF] []) (by decide)).2.2.1 (by decide)),
     Exists.imp (fun _ e => e.1) ((h 4 none (run [0x13FFFFFF] []) (by decide)).2.2.2.1 (by decide)),
     Exists.imp (fun _ e => e.1) ((h 4 none (run [0x14FF0000] []) (by decide)).2.2.2.2.1 (by decide)),
     Exists.imp (fun _ e => e.1) ((h 4 none (run [0x15FFFFFF] []) (by decide)).2.2.2.2.2.1 (by decide)),
     Exists.imp (fun _ e => e.1) ((h 4 none (run [0x16FFFFFF] []) (by decide)).2.2.2.2.2.2.1 (by decide)),
     Exists.imp (fun _ e => e.1) ((h 4 none (run [0x17FF000F] []) (by decide)).2.2.2.2.2.2.2.1 (by decide)),
     Exists.imp (fun _ e => e.1) ((h 4 none (run [0x18FF801F] []) (by decide)).2.2.2.2.2.2.2.2.1 (by decide)),
     Exists.imp (fun _ e => e.1) ((h 4 none (run [0x19FFC01F] []) (by decide)).2.2.2.2.2.2.2.2.2.1 (by decide)),
     Exists.imp (fun _ e => e.1) ((h 4 none (run [0x1AFFDFFF] []) (by decide)).2.2.2.2.2.2.2.2.2.2 (by decide))⟩

theorem witness_MemoryInstructions_1 (h : Obligations.MemoryInstructions) :
    Runs (.ld 4 none) (run [0x20F0FFFC] [g 0 0x10000]) ∧ Runs (.st 4 none) (run [0x21F0FFFC] [g 0 0x200000]) ∧
    Runs (.ldTime 4 none) (run [0x22300000] [g 0 0x200000]) ∧ Runs (.stTime 4 none) (run [0x2330FFF0] [g 0 0x10000]) ∧
    Runs (.ld 4 none) (run [0x20F00001] []) ∧ Runs (.st 4 none) (run [0x21F00002] []) ∧ Runs (.ldTime 4 none) (run [0x22300004] []) ∧
    Runs (.stTime 4 none) (run [0x23300004] []) ∧ Runs (.ld 4 none) (run [0x20F00000] [g 0 0x10000]) ∧
    Runs (.st 4 none) (run [0x21F00000] [g 0 0x200000]) ∧ Runs (.ldTime 4 none) (run [0x22300000] [g 0 0x10000]) ∧
    Runs (.stTime 4 none) (run [0x23300000] [g 0 0xFFFF0]) ∧ Runs (.ld 4 (some .dmem)) (run [0x20F00000] []) ∧
    Runs (.ldTime 4 (some .smem)) (run [0x22300000] [g 0 0x100000]) :=
    ⟨Exists.imp (fun _ e => e.1) ((h.1 4 none (run [0x20F0FFFC] [g 0 0x10000]) (by decide)).1 (by decide) (by decide) (by decide) (by decide)),
     ⟨_, (h.1 4 none (run [0x21F0FFFC] [g 0 0x200000]) (by decide)).2.1 (by decide) (by decide) (by decide)⟩,
     Exists.imp (fun _ e => e.1) ((h.1 4 none (run [0x22300000] [g 0 0x200000]) (by decide)).2.2.1 (by decide) (by decide) (by decide) (by decide)),
     ⟨_, (h.1 4 none (run [0x2330FFF0] [g 0 0x10000]) (by decide)).2.2.2.1 (by decide) (by decide) (by decide)⟩,
     ⟨_, (h.1 4 none (run [0x20F00001] []) (by decide)).2.2.2.2.1 (by decide) (by decide)⟩,
     ⟨_, (h.1 4 none (run [0x21F00002] []) (by decide)).2.2.2.2.2.1 (by decide) (by decide)⟩,
     ⟨_, (h.1 4 none (run [0x22300004] []) (by decide)).2.2.2.2.2.2.1 (by decide) (by decide)⟩,
     ⟨_, (h.1 4 none (run [0x23300004] []) (by decide)).2.2.2.2.2.2.2.1 (by decide) (by decide)⟩,
     ⟨_, (h.1 4 none (run [0x20F00000] [g 0 0x10000]) (by decide)).2.2.2.2.2.2.2.2.1 (by decide) (by decide) (by decide)⟩,
     ⟨_, (h.1 4 none (run [0x21F00000] [g 0 0x200000]) (by decide)).2.2.2.2.2.2.2.2.2.1 (by decide) (by decide) (by decide)⟩,
     ⟨_, (h.1 4 none (run [0x22300000] [g 0 0x10000]) (by decide)).2.2.2.2.2.2.2.2.2.2.1 (by decide) (by decide) (by decide)⟩,
     ⟨_, (h.1 4 none (run [0x23300000] [g 0 0xFFFF0]) (by decide)).2.2.2.2.2.2.2.2.2.2.2.1 (by decide) (by decide) (by decide)⟩,
     ⟨_, (h.1 4 (some .dmem) (run [0x20F00000] []) (by decide)).2.2.2.2.2.2.2.2.2.2.2.2.1 Fc.dmemEcc (by decide) (by decide) (by decide) rfl⟩,
     ⟨_, (h.1 4 (some .smem) (run [0x22300000] [g 0 0x100000]) (by decide)).2.2.2.2.2.2.2.2.2.2.2.2.2 Fc.smemEcc (by decide) (by decide) (by decide) rfl⟩⟩

theorem witness_StoreFrame (h : Obligations.StoreFrame) :
    ∃ t, exec (.st 4 none) (run [0x21F0FFFC] [g 0 0x10000, g 15 9]) = .next t ∧ t.localRead 4 0xFFFC = 9 :=
  ⟨_, rfl, (h 4 (run [0x21F0FFFC] [g 0 0x10000, g 15 9]) _ (by decide) (by decide) rfl (by decide)).1⟩

theorem witness_MemoryInstructions_2 (h : Obligations.MemoryInstructions) :
    Runs (.ldx 4 none) (run [0x24F00000] [g 0 0x10010]) ∧ Runs (.ldx 4 none) (runS [0x24F00000] [val Vk.ldx [7]]) ∧
    Runs (.ldx 4 none) (runS [0x24F00000] []) ∧ Runs (.stx 4 none) (run [0x25F00000] [g 0 0x10010]) ∧
    Runs (.ldx 4 none) (run [0x24F00000] [g 0 0x19FFFC]) ∧ Runs (.stx 4 none) (run [0x25F00000] [g 0 0x20]) ∧
    Runs (.ldx 4 none) (run [0x24F00001] []) ∧ Runs (.stx 4 none) (run [0x25F00003] []) ∧
    Runs (.ldx 4 none) (run [0x24F00000] [g 0 0xFFFFFC]) ∧ Runs (.stx 4 none) (run [0x25F00000] [g 0 0xFFFFFC]) :=
    ⟨⟨_, (h.2 4 none (run [0x24F00000] [g 0 0x10010]) (by decide)).1 (by decide) (by decide) (by decide)⟩,
     ⟨_, (h.2 4 none (runS [0x24F00000] [val Vk.ldx [7]]) (by decide)).2.1 (val Vk.ldx [7]) [] (by decide) (by decide) (by decide) rfl (by decide) (by decide)⟩,
     ⟨_, (h.2 4 none (runS [0x24F00000] []) (by decide)).2.2.1 (by decide) (by decide) (by decide) (by decide)⟩,
     ⟨_, (h.2 4 none (run [0x25F00000] [g 0 0x10010]) (by decide)).2.2.2.1 (by decide) (by decide)⟩,
     Exists.imp (fun _ e => e.1) ((h.2 4 none (run [0x24F00000] [g 0 0x19FFFC]) (by decide)).2.2.2.2.1 (by decide) (by decide) (by decide)),
     Exists.imp (fun _ e => e.1) ((h.2 4 none (run [0x25F00000] [g 0 0x20]) (by decide)).2.2.2.2.2.1 (by decide) (by decide) (by decide)),
     ⟨_, (h.2 4 none (run [0x24F00001] []) (by decide)).2.2.2.2.2.2.1 (by decide) (by decide)⟩,
     ⟨_, (h.2 4 none (run [0x25F00003] []) (by decide)).2.2.2.2.2.2.2.1 (by decide) (by decide)⟩,
     ⟨_, (h.2 4 none (run [0x24F00000] [g 0 0xFFFFFC]) (by decide)).2.2.2.2.2.2.2.2.1 (by decide) (by decide) (by decide) (by decide)⟩,
     ⟨_, (h.2 4 none (run [0x25F00000] [g 0 0xFFFFFC]) (by decide)).2.2.2.2.2.2.2.2.2 (by decide) (by decide) (by decide) (by decide)⟩⟩

theorem witness_PositionAndWaitInstructions_1 (h : Obligations.PositionAndWaitInstructions) :
    Runs (.tnow 4 none) (ras 0 ⟨1, 1, 0⟩ (run [0x30300000] [])) ∧ Runs (.tnow 4 none) (run [0x30300007] []) ∧
    Runs (.tnow 4 none) (run' [0x30300007]) ∧ Runs (.tnow 4 none) (runS [0x30300000] [val Vk.tnow [1, 0, 0, 0]]) ∧
    Runs (.tnow 4 none) (runS [0x30300000] []) ∧ Runs (.tadd 4 none) (timed 9 1 (run [0x3133F000, 0xFFFFFFFF] [])) ∧
    Runs (.tadd 4 none) (run [0x3133F000, 0xFFFFFFFF] []) :=
    ⟨Exists.imp (fun _ e => e.1) ((h.1 4 none (ras 0 ⟨1, 1, 0⟩ (run [0x30300000] [])) (by decide)).1 (by decide) (by decide) (by decide) (by decide)),
     Exists.imp (fun _ e => e.1) ((h.1 4 none (run [0x30300007] []) (by decide)).2.1 (by decide) (by decide) (by decide) (by decide)),
     ⟨_, (h.1 4 none (run' [0x30300007]) (by decide)).2.2.1 (by decide) (by decide)⟩,
     ⟨_, (h.1 4 none (runS [0x30300000] [val Vk.tnow [1, 0, 0, 0]]) (by decide)).2.2.2.1 (val Vk.tnow [1, 0, 0, 0]) [] (by decide) (by decide) rfl (by decide) (by decide)⟩,
     ⟨_, (h.1 4 none (runS [0x30300000] []) (by decide)).2.2.2.2.1 (by decide) (by decide) (by decide)⟩,
     Exists.imp (fun _ e => e.1) ((h.1 4 none (timed 9 1 (run [0x3133F000, 0xFFFFFFFF] [])) (by decide)).2.2.2.2.2.1 (by decide) (by decide)),
     Exists.imp (fun _ e => e.1) ((h.1 4 none (run [0x3133F000, 0xFFFFFFFF] []) (by decide)).2.2.2.2.2.2 (by decide) (by decide))⟩

theorem witness_PositionAndWaitInstructions_2 (h : Obligations.PositionAndWaitInstructions) :
    Runs (.wait 4 none) (timed 9 1 (run [0x32300000] [])) ∧ Runs (.wait 4 none) (timed 1 1 (run [0x32300000] [])) ∧
    Runs (.wait 4 none) (timed 9 1 (runS [0x32300000] [])) ∧ Runs (.wait 4 none) (timed 9 1 (run [0x32300001] [])) ∧
    Runs (.wait 4 none) (timed 1 1 (run [0x32300001] [])) ∧ Runs (.wait 4 none) (run [0x32300000] []) ∧
    Runs (.waitev 4 none) (run [0x33000000, 1] []) ∧ Runs (.waitev 4 none) (run [0x33F00001, 1] [(F.CUE_EVPEND_BITS, 4, 1)]) ∧
    Runs (.waitev 4 none) (runS [0x33000000, 1] []) ∧ Runs (.waitev 4 none) (run [0x33000000] []) ∧
    Runs (.waitev 4 none) (run [0x33000032, 1] []) ∧ Runs (.fence 4 none) (run [0x81000000] []) ∧
    Runs (.fence 4 none) (runS [0x81000000] []) ∧
    Runs (.tsync 4 none) (timed 9 1 (run [0x82007EFF] [(F.CUE_GLOBAL_CFG_SPARE_NUM, 0, 0)])) ∧
    Runs (.tsync 4 none) (timed 9 1 (put [(F.CUE_GLOBAL_CFG_SPARE_NUM, 0, 0)] (runS [0x82007EFF] []))) ∧
    Runs (.tsync 4 none) (timed 9 1 (run [0x820060FF] [])) ∧
    Runs (.tsync 4 none) (run [0x82007EFF] [(F.CUE_GLOBAL_CFG_SPARE_NUM, 0, 0)]) :=
    ⟨⟨_, (h.2 4 none (timed 9 1 (run [0x32300000] [])) (by decide)).1 (by decide) (by decide) (by decide) (by decide) (by decide)⟩,
     ⟨_, (h.2 4 none (timed 1 1 (run [0x32300000] [])) (by decide)).2.1 (by decide) (by decide) (by decide) (by decide) (by decide)⟩,
     ⟨_, (h.2 4 none (timed 9 1 (runS [0x32300000] [])) (by decide)).2.2.1 (by decide) (by decide) (by decide) (by decide)⟩,
     ⟨_, (h.2 4 none (timed 9 1 (run [0x32300001] [])) (by decide)).2.2.2.1 (by decide) (by decide) (by decide) (by decide)⟩,
     ⟨_, (h.2 4 none (timed 1 1 (run [0x32300001] [])) (by decide)).2.2.2.2.1 (by decide) (by decide) (by decide) (by decide)⟩,
     Exists.imp (fun _ e => e.1) ((h.2 4 none (run [0x32300000] []) (by decide)).2.2.2.2.2.1 (by decide) (by decide)),
     ⟨_, (h.2 4 none (run [0x33000000, 1] []) (by decide)).2.2.2.2.2.2.1 (by decide) ⟨by decide, by decide, by decide⟩ (by decide) (by decide)⟩,
     ⟨_, (h.2 4 none (run [0x33F00001, 1] [(F.CUE_EVPEND_BITS, 4, 1)]) (by decide)).2.2.2.2.2.2.2.1 (by decide) ⟨by decide, by decide, by decide⟩ (by decide) (by decide)⟩,
     ⟨_, (h.2 4 none (runS [0x33000000, 1] []) (by decide)).2.2.2.2.2.2.2.2.1 (by decide) ⟨by decide, by decide, by decide⟩ (by decide)⟩,
     Exists.imp (fun _ e => e.1) ((h.2 4 none (run [0x33000000] []) (by decide)).2.2.2.2.2.2.2.2.2.1 (by decide) (by decide) (by decide)),
     Exists.imp (fun _ e => e.1) ((h.2 4 none (run [0x33000032, 1] []) (by decide)).2.2.2.2.2.2.2.2.2.2.1 (by decide) (by decide)),
     ⟨_, (h.2 4 none (run [0x81000000] []) (by decide)).2.2.2.2.2.2.2.2.2.2.2.1 (by decide) (by decide)⟩,
     ⟨_, (h.2 4 none (runS [0x81000000] []) (by decide)).2.2.2.2.2.2.2.2.2.2.2.2.1 (by decide) (by decide)⟩,
     ⟨_, (h.2 4 none (timed 9 1 (run [0x82007EFF] [(F.CUE_GLOBAL_CFG_SPARE_NUM, 0, 0)])) (by decide)).2.2.2.2.2.2.2.2.2.2.2.2.2.1 (by decide) (by decide) (by decide) (by decide)⟩,
     ⟨_, (h.2 4 none (timed 9 1 (put [(F.CUE_GLOBAL_CFG_SPARE_NUM, 0, 0)] (runS [0x82007EFF] []))) (by decide)).2.2.2.2.2.2.2.2.2.2.2.2.2.2.1 (by decide) (by decide) (by decide) (by decide)⟩,
     Exists.imp (fun _ e => e.1) ((h.2 4 none (timed 9 1 (run [0x820060FF] [])) (by decide)).2.2.2.2.2.2.2.2.2.2.2.2.2.2.2.1 (by decide) (by decide) (by decide)),
     Exists.imp (fun _ e => e.1) ((h.2 4 none (run [0x82007EFF] [(F.CUE_GLOBAL_CFG_SPARE_NUM, 0, 0)]) (by decide)).2.2.2.2.2.2.2.2.2.2.2.2.2.2.2.2 (by decide) (by decide))⟩

theorem witness_StagingInstructions_1 (h : Obligations.StagingInstructions) :
    Runs (.xstage 4 none) (run [0x40FED000] [g 15 6335, g 14 6719]) ∧
    Runs (.xstageb 4 none) ({ run [0x41FED000] [g 14 0xFFF8, g 13 1] with dmem := [(81918, 6335 + 6719 * 65536)] }) ∧
    Runs (.xread 4 none) (run [0x43FE0003] [g 14 8191]) ∧ Runs (.xread 4 none) (run [0x43FE0004] [g 14 6335]) ∧
    Runs (.xread 4 none) (runS [0x43FE0000] [val Vk.xread [7]]) ∧ Runs (.xread 4 none) (runS [0x43FE0000] []) ∧
    Runs (.xlock 4 none) (run [0x440E0004] [g 14 6335]) ∧ Runs (.astage 4 none) (audOn (run [0x50FED000] [g 13 32768])) ∧
    Runs (.lset 4 none) (run [0x52FE0000] [g 14 0x85F]) :=
    ⟨⟨_, (h.1 4 none (run [0x40FED000] [g 15 6335, g 14 6719]) (by decide)).1 (by decide) (by decide)⟩,
     ⟨_, (h.1 4 none ({ run [0x41FED000] [g 14 0xFFF8, g 13 1] with dmem := [(81918, 6335 + 6719 * 65536)] }) (by decide)).2.1 (by decide) (by decide) (by decide) (by decide) (by decide)⟩,
     ⟨_, (h.1 4 none (run [0x43FE0003] [g 14 8191]) (by decide)).2.2.1 (by decide) (by decide) (by decide) (by decide)⟩,
     ⟨_, (h.1 4 none (run [0x43FE0004] [g 14 6335]) (by decide)).2.2.2.1 (by decide) (by decide) (by decide) (by decide)⟩,
     ⟨_, (h.1 4 none (runS [0x43FE0000] [val Vk.xread [7]]) (by decide)).2.2.2.2.1 (val Vk.xread [7]) [] (by decide) (by decide) (by decide) rfl (by decide) (by decide)⟩,
     ⟨_, (h.1 4 none (runS [0x43FE0000] []) (by decide)).2.2.2.2.2.1 (by decide) (by decide) (by decide) (by decide)⟩,
     ⟨_, (h.1 4 none (run [0x440E0004] [g 14 6335]) (by decide)).2.2.2.2.2.2.1 (by decide) (by decide)⟩,
     ⟨_, (h.1 4 none (audOn (run [0x50FED000] [g 13 32768])) (by decide)).2.2.2.2.2.2.2.1 (by decide) (by decide)⟩,
     ⟨_, (h.1 4 none (run [0x52FE0000] [g 14 0x85F]) (by decide)).2.2.2.2.2.2.2.2 (by decide) (by decide)⟩⟩

theorem witness_StagingInstructions_2 (h : Obligations.StagingInstructions) :
    Runs (.xstage 4 none) (run [0x40FED000] [g 15 6336]) ∧ Runs (.xstageb 4 none) (run [0x41FED000] []) ∧
    Runs (.xstageb 4 none) ({ run [0x41FED000] [g 14 0xFFF8, g 13 1] with dmem := [(81918, 6336)] }) ∧
    Runs (.xstageb 4 none) (run [0x41FED000] [g 14 4, g 13 1]) ∧ Runs (.xstageb 4 none) (run [0x41FED000] [g 14 0xFFF8, g 13 2]) ∧
    Runs (.xread 4 none) (run [0x43FE0005] []) ∧ Runs (.xread 4 none) (run [0x43FE0003] [g 14 8192]) ∧
    Runs (.xread 4 none) (run [0x43FE0004] [g 14 6336]) ∧ Runs (.xlock 4 none) (run [0x440E0004] [g 14 6336]) ∧
    Runs (.astage 4 none) (run [0x50FED000] [g 15 0xFFFF]) ∧ Runs (.lset 4 none) (run [0x52FE0000] [g 14 0xFFFFFFFF]) :=
    ⟨Exists.imp (fun _ e => e.1) ((h.2 4 none (run [0x40FED000] [g 15 6336]) (by decide)).1 (by decide) (by decide)),
     Exists.imp (fun _ e => e.1) ((h.2 4 none (run [0x41FED000] []) (by decide)).2.1 (by decide) (by decide) (by decide)),
     ⟨_, (h.2 4 none ({ run [0x41FED000] [g 14 0xFFF8, g 13 1] with dmem := [(81918, 6336)] }) (by decide)).2.2.1 0 Rc.dstRange (by decide) (by decide) (by decide) (by decide) (by decide)⟩,
     ⟨_, (h.2 4 none (run [0x41FED000] [g 14 4, g 13 1]) (by decide)).2.2.2.1 (by decide) (by decide)⟩,
     ⟨_, (h.2 4 none (run [0x41FED000] [g 14 0xFFF8, g 13 2]) (by decide)).2.2.2.2.1 Fc.addr (by decide) (by decide) (by decide) (by decide) (by decide)⟩,
     Exists.imp (fun _ e => e.1) ((h.2 4 none (run [0x43FE0005] []) (by decide)).2.2.2.2.2.1 (by decide) (by decide)),
     Exists.imp (fun _ e => e.1) ((h.2 4 none (run [0x43FE0003] [g 14 8192]) (by decide)).2.2.2.2.2.2.1 (by decide) (by decide) (by decide)),
     Exists.imp (fun _ e => e.1) ((h.2 4 none (run [0x43FE0004] [g 14 6336]) (by decide)).2.2.2.2.2.2.2.1 (by decide) (by decide) (by decide)),
     Exists.imp (fun _ e => e.1) ((h.2 4 none (run [0x440E0004] [g 14 6336]) (by decide)).2.2.2.2.2.2.2.2.1 (by decide) (by decide)),
     Exists.imp (fun _ e => e.1) ((h.2 4 none (run [0x50FED000] [g 15 0xFFFF]) (by decide)).2.2.2.2.2.2.2.2.2.1 (by decide) (by decide)),
     Exists.imp (fun _ e => e.1) ((h.2 4 none (run [0x52FE0000] [g 14 0xFFFFFFFF]) (by decide)).2.2.2.2.2.2.2.2.2.2 (by decide) (by decide))⟩

theorem witness_CommitsAccepted (h : Obligations.CommitsAccepted) :
    Runs (.xcommit 4 none) ((timed 9 1 (run [0x42F30000] [])).stageOne 4 6335 6719 0) ∧ Runs (.xcommit 4 none) (run [0x42F30000] []) ∧
    Runs (.xcommit 4 none) (run' [0x42F30000]) ∧ Runs (.xcommit 4 none) (runS [0x42F30000] []) ∧
    Runs (.acommit 4 none) ((timed 9 1 (audOn (run [0x51F30000] []))).aStage 4 0 0 32769) ∧
    Runs (.acommit 4 none) (run [0x51F30000] []) ∧ Runs (.acommit 4 none) (run' [0x51F30001]) ∧
    Runs (.acommit 4 none) (runS [0x51F30001] []) ∧
    Runs (.hcommit 4 none) (((put [(F.SLATE_RASTER_CFG_STRUCT, 0, 3), (F.SLATE_RASTER_CFG_RATE, 0, 5)] (timed 9 1 (run [0x53F3E000] []))).lset 4 0x800 1 0x20080040).1.lset 4 0x800 3 1).1 ∧
    Runs (.hcommit 4 none) (run [0x53F3E000] []) ∧ Runs (.hcommit 4 none) (run' [0x53F3E000]) ∧
    Runs (.hcommit 4 none) (runS [0x53F3E000] []) :=
    ⟨⟨_, ((h 4 none ((timed 9 1 (run [0x42F30000] [])).stageOne 4 6335 6719 0) (by decide)).1 (by decide)).1 (by decide) (by decide) (by decide)⟩,
     ⟨_, ((h 4 none (run [0x42F30000] []) (by decide)).1 (by decide)).2.1 (by decide) (by decide) (by decide)⟩,
     ⟨_, ((h 4 none (run' [0x42F30000]) (by decide)).1 (by decide)).2.2.1 (by decide)⟩,
     ⟨_, ((h 4 none (runS [0x42F30000] []) (by decide)).1 (by decide)).2.2.2 (by decide)⟩,
     ⟨_, ((h 4 none ((timed 9 1 (audOn (run [0x51F30000] []))).aStage 4 0 0 32769) (by decide)).2.1 (by decide)).1 (by decide) (by decide) (by decide)⟩,
     ⟨_, ((h 4 none (run [0x51F30000] []) (by decide)).2.1 (by decide)).2.1 (by decide) (by decide) (by decide)⟩,
     ⟨_, ((h 4 none (run' [0x51F30001]) (by decide)).2.1 (by decide)).2.2.1 (by decide)⟩,
     ⟨_, ((h 4 none (runS [0x51F30001] []) (by decide)).2.1 (by decide)).2.2.2 (by decide)⟩,
     ⟨_, ((h 4 none (((put [(F.SLATE_RASTER_CFG_STRUCT, 0, 3), (F.SLATE_RASTER_CFG_RATE, 0, 5)] (timed 9 1 (run [0x53F3E000] []))).lset 4 0x800 1 0x20080040).1.lset 4 0x800 3 1).1 (by decide)).2.2 (by decide)).1 (by decide) (by decide) (by decide)⟩,
     ⟨_, ((h 4 none (run [0x53F3E000] []) (by decide)).2.2 (by decide)).2.1 (by decide) (by decide) (by decide)⟩,
     ⟨_, ((h 4 none (run' [0x53F3E000]) (by decide)).2.2 (by decide)).2.2.1 (by decide)⟩,
     ⟨_, ((h 4 none (runS [0x53F3E000] []) (by decide)).2.2 (by decide)).2.2.2 (by decide)⟩⟩

theorem witness_StoreAndGrantInstructions_1 (h : Obligations.StoreAndGrantInstructions) :
    Runs (.bufalloc 4 none) (onePage (run [0x60FE0000] [])) ∧ Runs (.bufalloc 4 none) (run [0x60FE0000] []) ∧
    Runs (.bufalloc 4 none) (runS [0x60FE0000] [val Vk.bufalloc [0, 7]]) ∧ Runs (.bufalloc 4 none) (runS [0x60FE0000] []) ∧
    Runs (.bufalloc 4 none) (run [0x60FE0000] [g 14 8]) ∧ Runs (.buffree 4 none) (run [0x610E0000] []) ∧
    Runs (.recstart 4 none) (run [0x620ED000] []) ∧ Runs (.recstop 4 none) (run [0x630E0000] []) ∧
    Runs (.play 4 none) (run [0x64FED000] []) ∧ Runs (.recstart 4 none) (runS [0x620ED000] []) ∧
    Runs (.recstop 4 none) (runS [0x630E0000] []) ∧ Runs (.play 4 none) (runS [0x64FED000] []) :=
    ⟨⟨_, (h.1 4 none (onePage (run [0x60FE0000] [])) (by decide)).1 (by decide) (by decide) (by decide) onePage_ok⟩,
     ⟨_, (h.1 4 none (run [0x60FE0000] []) (by decide)).2.1 (by decide) (by decide) (by decide) (by decide)⟩,
     ⟨_, (h.1 4 none (runS [0x60FE0000] [val Vk.bufalloc [0, 7]]) (by decide)).2.2.1 (val Vk.bufalloc [0, 7]) [] (by decide) (by decide) (by decide) rfl (by decide) (by decide)⟩,
     ⟨_, (h.1 4 none (runS [0x60FE0000] []) (by decide)).2.2.2.1 (by decide) (by decide) (by decide) (by decide)⟩,
     ⟨_, (h.1 4 none (run [0x60FE0000] [g 14 8]) (by decide)).2.2.2.2.1 Fc.align (by decide) (by decide)⟩,
     ⟨_, (h.1 4 none (run [0x610E0000] []) (by decide)).2.2.2.2.2.1 (by decide)⟩,
     ⟨_, (h.1 4 none (run [0x620ED000] []) (by decide)).2.2.2.2.2.2.1 (by decide) (by decide)⟩,
     ⟨_, (h.1 4 none (run [0x630E0000] []) (by decide)).2.2.2.2.2.2.2.1 (by decide) (by decide)⟩,
     ⟨_, (h.1 4 none (run [0x64FED000] []) (by decide)).2.2.2.2.2.2.2.2.1 (by decide) (by decide)⟩,
     ⟨_, (h.1 4 none (runS [0x620ED000] []) (by decide)).2.2.2.2.2.2.2.2.2.1 (by decide) (by decide)⟩,
     ⟨_, (h.1 4 none (runS [0x630E0000] []) (by decide)).2.2.2.2.2.2.2.2.2.2.1 (by decide) (by decide)⟩,
     ⟨_, (h.1 4 none (runS [0x64FED000] []) (by decide)).2.2.2.2.2.2.2.2.2.2.2 (by decide) (by decide)⟩⟩

theorem witness_StoreAndGrantInstructions_2 (h : Obligations.StoreAndGrantInstructions) :
    (((st []).setDesc 16383 { state := 1, gen := 65535 }).bufFree 0 0xFFFF3FFF).2 = Rc.ok :=
    (h.2.1 0 ((st []).setDesc 16383 { state := 1, gen := 65535 }) 0xFFFF3FFF 16383 (by decide) (by decide) (by decide)).1

theorem witness_StoreAndGrantInstructions_3 (h : Obligations.StoreAndGrantInstructions) :
    Runs (.ask 4 none) ({ run [0x70FE0000] [(F.ADMIT_CEILING_CEIL, 0, 511)] with dmem := [(65536, 0x9701), (65537, 1)] }) ∧
    Runs (.ask 4 none) (run [0x70FE0000] []) ∧ Runs (.ask 4 none) (askFull (run [0x70FE0001] [(F.ADMIT_CEILING_CEIL, 0, 511)])) ∧
    Runs (.ask 4 none) (run [0x70FE0002] []) ∧ Runs (.ask 4 none) (runS [0x70FE0000] []) ∧
    Runs (.ask 4 none) (run [0x70FE0000] [g 14 4]) ∧ Runs (.give 4 none) (holds (run [0x710E0000] [g 14 1])) ∧
    Runs (.give 4 none) (run [0x710E0000] [g 14 1]) :=
    ⟨⟨_, (h.2.2 4 none ({ run [0x70FE0000] [(F.ADMIT_CEILING_CEIL, 0, 511)] with dmem := [(65536, 0x9701), (65537, 1)] }) (by decide)).1 (by decide) (by decide) (by decide) (by decide) (by decide)⟩,
     ⟨_, (h.2.2 4 none (run [0x70FE0000] []) (by decide)).2.1 Rc.arg (by decide) (by decide) (by decide) (by decide) (by decide) (by decide)⟩,
     ⟨_, (h.2.2 4 none (askFull (run [0x70FE0001] [(F.ADMIT_CEILING_CEIL, 0, 511)])) (by decide)).2.2.1 (by decide) (by decide) (by decide) (by decide) (by decide)⟩,
     ⟨_, (h.2.2 4 none (run [0x70FE0002] []) (by decide)).2.2.2.1 (by decide) (by decide) (by decide) (by decide)⟩,
     ⟨_, (h.2.2 4 none (runS [0x70FE0000] []) (by decide)).2.2.2.2.1 (by decide) (by decide) (by decide)⟩,
     ⟨_, (h.2.2 4 none (run [0x70FE0000] [g 14 4]) (by decide)).2.2.2.2.2.1 Fc.align (by decide) (by decide)⟩,
     ⟨_, (h.2.2 4 none (holds (run [0x710E0000] [g 14 1])) (by decide)).2.2.2.2.2.2.1 (by decide) (by decide)⟩,
     Exists.imp (fun _ e => e.1) ((h.2.2 4 none (run [0x710E0000] [g 14 1]) (by decide)).2.2.2.2.2.2.2 (by decide) (by decide))⟩

theorem witness_EmitAndSummary (h : Obligations.EmitAndSummary) :
    Runs (.emit 4 none) (run [0x800ED01F] []) ∧
    Runs (.emit 4 none) (run [0x800ED03F] [(F.CUE_EVR_STATUS_EN, 0, 1), (F.CUE_EVR_SIZE_LOG2, 0, 12)]) ∧
    Runs (.emit 4 none) (run [0x800ED020] []) ∧ Runs (.emit 4 none) (run [0x800ED000] []) ∧
    Runs (.summary 4 none) (run [0x83000001] []) ∧ Runs (.summary 4 none) (run [0x83000000] [(F.HOSTIF_SUM_STATUS_STATE, 0, 1)]) ∧
    Runs (.summary 4 none) (runS [0x83000001] []) :=
    ⟨⟨_, (h 4 none (run [0x800ED01F] []) (by decide)).1 (by decide) (by decide) (by decide)⟩,
     ⟨_, (h 4 none (run [0x800ED03F] [(F.CUE_EVR_STATUS_EN, 0, 1), (F.CUE_EVR_SIZE_LOG2, 0, 12)]) (by decide)).2.1 (by decide) (by decide) (by decide) (by decide)⟩,
     ⟨_, (h 4 none (run [0x800ED020] []) (by decide)).2.2.1 (by decide) (by decide) (by decide)⟩,
     Exists.imp (fun _ e => e.1) ((h 4 none (run [0x800ED000] []) (by decide)).2.2.2.1 (by decide) (by decide)),
     ⟨_, (h 4 none (run [0x83000001] []) (by decide)).2.2.2.2.1 (by decide) (by decide) (by decide) (by decide)⟩,
     Exists.imp (fun _ e => e.1) ((h 4 none (run [0x83000000] [(F.HOSTIF_SUM_STATUS_STATE, 0, 1)]) (by decide)).2.2.2.2.2.1 (by decide) (by decide) (by decide)),
     ⟨_, (h 4 none (runS [0x83000001] []) (by decide)).2.2.2.2.2.2 (by decide) (by decide)⟩⟩

theorem witness_EngineStops (h : Obligations.EngineStops) :
    Runs (.undefinedOpcode 4 none) (run [0xFF000000] []) ∧ Runs (.fence 4 (some .check)) (run [0x81000000] []) ∧
      ((run [] []).faultStop 4 15 0xFFFFFFFF).es 4 = Es.faulted :=
  ⟨⟨_, h.1.1 4 none _ (by decide) (by decide) (by decide)⟩, ⟨_, h.1.2 _ 4 .check Fc.check _ (by decide) (by decide) (by decide)⟩,
    (h.2 4 _ 15 0xFFFFFFFF (by decide) (by decide)).1⟩

theorem witness_StepTakesFront (h : Obligations.StepTakesFront) :
    step { st [] with pending := [.snap] } = exec .snap (st []) := h _ _ _ rfl

theorem witness_IdleStepIsOneClock (h : Obligations.IdleStepIsOneClock) : ∃ t, step (st []) = .next t :=
  Exists.imp (fun _ e => e.1) (h (st []) (by decide))

theorem witness_StepKeepsMemoryCanonical (h : Obligations.StepKeepsMemoryCanonical) :
    ∃ t, step { run [0x01000000] [] with pending := [.br 4 none] } = .next t ∧ t.memWf = true :=
  ⟨_, rfl, h { run [0x01000000] [] with pending := [.br 4 none] } _ (by decide) rfl⟩

theorem witness_RegisterReadAfterWrite (h : Obligations.RegisterReadAfterWrite) :
    ((st []).wr F.CUE_GREG_VALUE 79 9).rd F.CUE_GREG_VALUE 78 = (st []).rd F.CUE_GREG_VALUE 78 :=
  (h (st []) F.CUE_GREG_VALUE F.CUE_GREG_VALUE 79 78 9).2 (by decide)

theorem witness_HostAccesses_1 (h : Obligations.HostAccesses) :
    Runs (.registerWrite 0x10010 1) (st []) ∧ Runs (.registerWrite 0x10010 1) (shut (st [])) ∧ Runs (.rcRead 0x10010) (st []) ∧
    Runs (.captureRead 0x20054) (st []) ∧ Runs (.captureRead 0x10010) (st []) ∧ Runs (.rcRead 0x24) State.reset ∧
    Runs (.registerWrite 0xFFFFC 1) (st []) ∧ Runs (.rcRead 0xFFFFC) (st []) :=
    ⟨⟨_, ((h.1 0x10010 1 (st [])).1 (by decide)).1 (by decide)⟩, ⟨_, ((h.1 0x10010 1 (shut (st []))).1 (by decide)).2 (by decide)⟩,
     ⟨_, (h.1 0x10010 1 (st [])).2.1 (by decide) (by decide) (by decide)⟩,
     ⟨_, (h.1 0x20054 1 (st [])).2.2.1 (by decide) (by decide) (by decide) (by decide)⟩,
     ⟨_, (h.1 0x10010 1 (st [])).2.2.2.1 (by decide)⟩, ⟨_, (h.1 0x24 1 State.reset).2.2.2.2.1 (by decide) (by decide)⟩,
     ⟨_, (h.1 0xFFFFC 1 (st [])).2.2.2.2.2.1 (by decide) (by decide) (by decide)⟩,
     ⟨_, (h.1 0xFFFFC 1 (st [])).2.2.2.2.2.2 (by decide) (by decide) (by decide)⟩⟩

theorem witness_HostAccesses_2 (h : Obligations.HostAccesses) :
    Runs (.unmappedAccess true 0xFFFFFC true) (st []) ∧ Runs (.unmappedAccess false 0xC false) (st []) ∧
    Runs (.unmappedAccess true 0xFFFFFC true) State.reset ∧ Runs (.unmappedAccess false 0xC false) State.reset :=
    ⟨⟨_, (h.2.1 true 0xFFFFFC (st []) (by decide)).1 (by decide)⟩, ⟨_, (h.2.1 false 0xC (st []) (by decide)).2.1 (by decide)⟩,
     ⟨_, (h.2.1 true 0xFFFFFC State.reset (by decide)).2.2.1 (by decide)⟩,
     ⟨_, (h.2.1 false 0xC State.reset (by decide)).2.2.2 (by decide)⟩⟩

theorem witness_HostAccesses_3 (h : Obligations.HostAccesses) :
    Runs (.registerWrite 0x10010 1) State.reset ∧ Runs (.registerWrite 0x10010 1) { st [] with hif := { (st []).hif with d3 := true } } ∧
    Runs (.registerWrite 0x10010 1) (up Mode.init) ∧ Runs (.registerWrite 0x10200 1) (up Mode.standby) :=
    ⟨⟨_, (h.2.2 0x10010 1 State.reset (by decide)).1 (by decide)⟩,
     ⟨_, (h.2.2 0x10010 1 { st [] with hif := { (st []).hif with d3 := true } } (by decide)).2.1 (by decide)⟩,
     ⟨_, (h.2.2 0x10010 1 (up Mode.init) (by decide)).2.2.1 (by decide) (by decide) (by decide) (by decide)⟩,
     ⟨_, (h.2.2 0x10200 1 (up Mode.standby) (by decide)).2.2.2 (by decide) (by decide) (by decide) (by decide)⟩⟩

theorem witness_RasterCommands (h : Obligations.RasterCommands) :
    Runs .snap (st []) ∧ Runs .snap (shut (st [])) ∧ Runs (.rasterCfgWrite 7 5) (st []) ∧ Runs (.rasterCfgWrite 7 5) (shut (st [])) ∧
    Runs (.rasterSeedWrite 7 true 5) (st []) ∧ Runs (.rasterSeedWrite 7 true 5) (shut (st [])) ∧
    Runs (.rasterSeedWrite 0 false 5) (st [(F.SLATE_RASTER_STATUS_EVER_LOCKED, 0, 1)]) ∧ Runs (.rasterTimingWrite 7 0xF) (st []) ∧
    Runs (.rasterTimingWrite 7 0xF) (shut (st [])) ∧ Runs (.rasterTimingWrite 7 0x7000F) (st []) ∧
    Runs (.rasterTimingWrite 0 0x70000) (st [(F.SLATE_CMP_CTRL_ARM, 31, 1)]) ∧ Runs (.rasterFrameStart 7) (ras 7 ⟨1, 1, 0⟩ (st [])) ∧
    Runs (.rasterFrameStart 0) (ras 0 ⟨1, 1, 0⟩ (st [])) ∧ Runs (.rasterFrameStart 0) (st []) :=
    ⟨⟨_, ((h 7 true 5 (st [])).1).1 (by decide)⟩, ⟨_, ((h 7 true 5 (shut (st []))).1).2 (by decide)⟩,
     ⟨_, ((h 7 true 5 (st [])).2.1).1 (by decide)⟩, ⟨_, ((h 7 true 5 (shut (st []))).2.1).2 (by decide)⟩,
     ⟨_, ((h 7 true 5 (st [])).2.2.1 (by decide)).1 (by decide)⟩, ⟨_, ((h 7 true 5 (shut (st []))).2.2.1 (by decide)).2 (by decide)⟩,
     ⟨_, ((h 0 false 5 (st [(F.SLATE_RASTER_STATUS_EVER_LOCKED, 0, 1)])).2.2.2.1 (by decide)).1 (by decide)⟩,
     ⟨_, ((h 7 true 0xF (st [])).2.2.2.2.1 (by decide)).1 (by decide)⟩,
     ⟨_, ((h 7 true 0xF (shut (st []))).2.2.2.2.1 (by decide)).2 (by decide)⟩,
     ⟨_, ((h 7 true 0x7000F (st [])).2.2.2.2.2.1 (by decide) (by decide)).1 (by decide)⟩,
     ⟨_, ((h 0 true 0x70000 (st [(F.SLATE_CMP_CTRL_ARM, 31, 1)])).2.2.2.2.2.2.1 (by decide) (by decide)).1 (by decide)⟩,
     ⟨_, (h 7 true 5 (ras 7 ⟨1, 1, 0⟩ (st []))).2.2.2.2.2.2.2.1 (by decide) (by decide)⟩,
     ⟨_, (h 0 true 5 (ras 0 ⟨1, 1, 0⟩ (st []))).2.2.2.2.2.2.2.2.1 (by decide) (by decide)⟩,
     ⟨_, (h 0 true 5 (st [])).2.2.2.2.2.2.2.2.2 (by decide)⟩⟩

theorem witness_ComparatorCommands_1 (h : Obligations.ComparatorCommands) :
    Runs (.cmpArm 31 1) (st []) ∧ Runs (.cmpArm 31 1) (shut (st [])) ∧
    Runs (.cmpArm 0 1) (put [(F.SLATE_CMP_TGT_FRAME_LO, 0, 9), (F.SLATE_CMP_TGT_LINE, 0, 1)] (ras 0 ⟨1, 1, 0⟩ (st []))) ∧
    Runs (.cmpArm 0 1) (put [(F.SLATE_CMP_TGT_FRAME_LO, 0, 1), (F.SLATE_CMP_TGT_LINE, 0, 1)] (ras 0 ⟨1, 1, 0⟩ (st []))) ∧
    Runs (.cmpDisarm 31 0) (st []) ∧ Runs (.cmpDisarm 31 0) (shut (st [])) ∧
    Runs (.cmpTgtWrite 31 3 7) (st [(F.SLATE_CMP_CTRL_ARM, 31, 1)]) ∧
    Runs (.cmpTgtWrite 31 3 7) (shut (st [(F.SLATE_CMP_CTRL_ARM, 31, 1)])) ∧ Runs (.cmpTgtWrite 0 0 7) (st []) ∧
    Runs (.cmpTgtWrite 31 1 7) (st []) ∧ Runs (.cmpTgtWrite 0 2 7) (st []) ∧ Runs (.cmpTgtWrite 0 3 7) (st []) ∧
    Runs (.comparatorFire 0) (put [(F.SLATE_CMP_CTRL_ARM, 0, 1), (F.SLATE_CMP_TGT_LINE, 0, 1)] (ras 0 ⟨1, 1, 0⟩ (st []))) ∧
    Runs (.comparatorFire 31) (st []) ∧ Runs (.gpoSchedWrite 255 5 7) (st [(F.SLATE_GPO_SCHED_VALID, 255, 1)]) ∧
    Runs (.gpoSchedWrite 255 5 7) (shut (st [(F.SLATE_GPO_SCHED_VALID, 255, 1)])) ∧ Runs (.gpoSchedWrite 255 0 0) (st []) ∧
    Runs (.gpoSchedWrite 255 0 1) (st []) ∧
    Runs (.gpoSchedWrite 0 0 1) (put [(F.SLATE_GPO_SCHED_FRAME_LO, 0, 9), (F.SLATE_GPO_SCHED_LINE, 0, 1)] (ras 0 ⟨1, 1, 0⟩ (st []))) ∧
    Runs (.gpoSchedWrite 0 0 1) (put [(F.SLATE_GPO_SCHED_LINE, 0, 1)] (ras 0 ⟨1, 1, 0⟩ (st []))) ∧
    Runs (.gpoSchedWrite 255 1 1) (st []) ∧ Runs (.gpoSchedWrite 255 2 1) (st []) ∧ Runs (.gpoSchedWrite 255 3 1) (st []) ∧
    Runs (.gpoSchedWrite 255 4 1) (st []) ∧ Runs (.gpoSchedWrite 0 5 1) (st []) ∧
    Runs (.gpoSchedApply 1) (put [(F.SLATE_GPO_SCHED_VALID, 1, 1), (F.SLATE_GPO_SCHED_LINE, 1, 1)] (ras 0 ⟨1, 1, 0⟩ (st []))) ∧
    Runs (.gpoSchedApply 1) (st []) :=
    ⟨⟨_, ((h.1 31 255 1 0 0 (st [])).1 (by decide)).1 (by decide)⟩, ⟨_, ((h.1 31 255 1 0 0 (shut (st []))).1 (by decide)).2 (by decide)⟩,
     ⟨_, ((h.1 0 0 1 0 0 (put [(F.SLATE_CMP_TGT_FRAME_LO, 0, 9), (F.SLATE_CMP_TGT_LINE, 0, 1)] (ras 0 ⟨1, 1, 0⟩ (st [])))).2.1 (by decide) (by decide)).1 (by decide)⟩,
     ⟨_, ((h.1 0 0 1 0 0 (put [(F.SLATE_CMP_TGT_FRAME_LO, 0, 1), (F.SLATE_CMP_TGT_LINE, 0, 1)] (ras 0 ⟨1, 1, 0⟩ (st [])))).2.2.1 (by decide) (by decide)).1 (by decide)⟩,
     ⟨_, ((h.1 31 0 0 0 0 (st [])).2.2.2.1).1 (by decide)⟩, ⟨_, ((h.1 31 0 0 0 0 (shut (st []))).2.2.2.1).2 (by decide)⟩,
     ⟨_, ((h.1 31 0 7 3 0 (st [(F.SLATE_CMP_CTRL_ARM, 31, 1)])).2.2.2.2.1 (by decide)).1 (by decide)⟩,
     ⟨_, ((h.1 31 0 7 3 0 (shut (st [(F.SLATE_CMP_CTRL_ARM, 31, 1)]))).2.2.2.2.1 (by decide)).2 (by decide)⟩,
     ⟨_, ((h.1 0 0 7 0 0 (st [])).2.2.2.2.2.1 (by decide)).1 (by decide)⟩,
     ⟨_, ((h.1 31 0 7 0 0 (st [])).2.2.2.2.2.2.1 (by decide)).1 (by decide)⟩,
     ⟨_, ((h.1 0 0 7 0 0 (st [])).2.2.2.2.2.2.2.1 (by decide)).1 (by decide)⟩,
     ⟨_, ((h.1 0 0 7 0 0 (st [])).2.2.2.2.2.2.2.2.1 (by decide)).1 (by decide)⟩,
     ⟨_, (h.1 0 0 1 0 0 (put [(F.SLATE_CMP_CTRL_ARM, 0, 1), (F.SLATE_CMP_TGT_LINE, 0, 1)] (ras 0 ⟨1, 1, 0⟩ (st [])))).2.2.2.2.2.2.2.2.2.1 (by decide)⟩,
     ⟨_, (h.1 31 0 1 0 0 (st [])).2.2.2.2.2.2.2.2.2.2.1 (by decide)⟩,
     ⟨_, ((h.1 0 255 7 0 5 (st [(F.SLATE_GPO_SCHED_VALID, 255, 1)])).2.2.2.2.2.2.2.2.2.2.2.1 (by decide) (by decide)).1 (by decide)⟩,
     ⟨_, ((h.1 0 255 7 0 5 (shut (st [(F.SLATE_GPO_SCHED_VALID, 255, 1)]))).2.2.2.2.2.2.2.2.2.2.2.1 (by decide) (by decide)).2 (by decide)⟩,
     ⟨_, ((h.1 0 255 0 0 0 (st [])).2.2.2.2.2.2.2.2.2.2.2.2.1 (by decide)).1 (by decide)⟩,
     ⟨_, ((h.1 0 255 1 0 0 (st [])).2.2.2.2.2.2.2.2.2.2.2.2.2.1 (by decide) (by decide) (by decide)).1 (by decide)⟩,
     ⟨_, ((h.1 0 0 1 0 0 (put [(F.SLATE_GPO_SCHED_FRAME_LO, 0, 9), (F.SLATE_GPO_SCHED_LINE, 0, 1)] (ras 0 ⟨1, 1, 0⟩ (st [])))).2.2.2.2.2.2.2.2.2.2.2.2.2.2.1 (by decide) (by decide) (by decide) (by decide)).1 (by decide)⟩,
     ⟨_, ((h.1 0 0 1 0 0 (put [(F.SLATE_GPO_SCHED_LINE, 0, 1)] (ras 0 ⟨1, 1, 0⟩ (st [])))).2.2.2.2.2.2.2.2.2.2.2.2.2.2.2.1 (by decide) (by decide) (by decide) (by decide)).1 (by decide)⟩,
     ⟨_, ((h.1 0 255 1 0 0 (st [])).2.2.2.2.2.2.2.2.2.2.2.2.2.2.2.2.1 (by decide)).1 (by decide)⟩,
     ⟨_, ((h.1 0 255 1 0 0 (st [])).2.2.2.2.2.2.2.2.2.2.2.2.2.2.2.2.2.1 (by decide)).1 (by decide)⟩,
     ⟨_, ((h.1 0 255 1 0 0 (st [])).2.2.2.2.2.2.2.2.2.2.2.2.2.2.2.2.2.2.1 (by decide)).1 (by decide)⟩,
     ⟨_, ((h.1 0 255 1 0 0 (st [])).2.2.2.2.2.2.2.2.2.2.2.2.2.2.2.2.2.2.2.1 (by decide)).1 (by decide)⟩,
     ⟨_, ((h.1 0 0 1 0 0 (st [])).2.2.2.2.2.2.2.2.2.2.2.2.2.2.2.2.2.2.2.2.1 (by decide)).1 (by decide)⟩,
     ⟨_, (h.1 0 1 1 0 0 (put [(F.SLATE_GPO_SCHED_VALID, 1, 1), (F.SLATE_GPO_SCHED_LINE, 1, 1)] (ras 0 ⟨1, 1, 0⟩ (st [])))).2.2.2.2.2.2.2.2.2.2.2.2.2.2.2.2.2.2.2.2.2.1 (by decide) (by decide)⟩,
     ⟨_, (h.1 0 1 1 0 0 (st [])).2.2.2.2.2.2.2.2.2.2.2.2.2.2.2.2.2.2.2.2.2.2 (Or.inl (by decide))⟩⟩

theorem witness_ComparatorCommands_2 (h : Obligations.ComparatorCommands) :
    Runs (.comparatorFire 0) (put [(F.SLATE_CMP_CTRL_ARM, 0, 1), (F.SLATE_CMP_TGT_LINE, 0, 1)] (ras 0 ⟨1, 1, 0⟩ (st []))) ∧
    Runs (.comparatorFire 0) ((put [(F.SLATE_CMP_CTRL_ARM, 0, 1), (F.SLATE_CMP_TGT_LINE, 0, 1)] (ras 0 ⟨1, 1, 0⟩ (st []))).wr F.SLATE_CMP_CTRL_PERIODIC 0 1) :=
    ⟨Exists.imp (fun _ e => e.1) (h.2 0 (put [(F.SLATE_CMP_CTRL_ARM, 0, 1), (F.SLATE_CMP_TGT_LINE, 0, 1)] (ras 0 ⟨1, 1, 0⟩ (st []))) (by decide) (by decide) (by decide)),
     Exists.imp (fun _ e => e.1) (h.2 0 ((put [(F.SLATE_CMP_CTRL_ARM, 0, 1), (F.SLATE_CMP_TGT_LINE, 0, 1)] (ras 0 ⟨1, 1, 0⟩ (st []))).wr F.SLATE_CMP_CTRL_PERIODIC 0 1) (by decide) (by decide) (by decide))⟩

theorem witness_GpiAndGpoCommands_1 (h : Obligations.GpiAndGpoCommands) :
    Runs (.gpiLevelChange 31 true) (st []) ∧ Runs (.gpiLevelChange 31 false) (st []) ∧
    Runs (.gpiEdgeAccept 31) ((st []).setGpi 31 { waiting := true, raw := true }) ∧
    Runs (.gpiEdgeAccept 0) ((st [(F.SLATE_GPI_CFG_EDGE, 0, 1)]).setGpi 0 { waiting := true, raw := true }) ∧
    Runs (.gpiEdgeAccept 0) ((st [(F.SLATE_GPI_CFG_EDGE, 0, 1), (F.SLATE_GPI_CFG_IRQ, 0, 1)]).setGpi 0 { waiting := true, raw := true }) ∧
    Runs (.gpiEdgeAccept 0) (st []) ∧ Runs (.gpiPop 1) (st []) ∧ Runs (.gpiPop 1) (shut (st [])) ∧ Runs (.gpiPop 0) (st []) :=
    ⟨⟨_, (h.1 31 true 0 (st [])).1 (by decide)⟩, ⟨_, (h.1 31 false 0 (st [])).2.1 (by decide)⟩,
     ⟨_, (h.1 31 true 0 ((st []).setGpi 31 { waiting := true, raw := true })).2.2.1 (by decide) (by decide)⟩,
     ⟨_, (h.1 0 true 0 ((st [(F.SLATE_GPI_CFG_EDGE, 0, 1)]).setGpi 0 { waiting := true, raw := true })).2.2.2.1 (by decide) (by decide) (by decide)⟩,
     ⟨_, (h.1 0 true 0 ((st [(F.SLATE_GPI_CFG_EDGE, 0, 1), (F.SLATE_GPI_CFG_IRQ, 0, 1)]).setGpi 0 { waiting := true, raw := true })).2.2.2.2.1 (by decide) (by decide) (by decide)⟩,
     ⟨_, (h.1 0 true 0 (st [])).2.2.2.2.2.1 (by decide)⟩, ⟨_, ((h.1 0 true 1 (st [])).2.2.2.2.2.2.1 (by decide)).1 (by decide)⟩,
     ⟨_, ((h.1 0 true 1 (shut (st []))).2.2.2.2.2.2.1 (by decide)).2 (by decide)⟩,
     ⟨_, ((h.1 0 true 0 (st [])).2.2.2.2.2.2.2 (by decide)).1 (by decide)⟩⟩

theorem witness_GpiAndGpoCommands_2 (h : Obligations.GpiAndGpoCommands) :
    Runs (.gpoLevelWrite 0xFFFFFFFF) (st []) ∧ Runs (.gpoSet 1) (st []) ∧ Runs (.gpoClr 1) (shut (st [])) :=
    ⟨⟨_, (h.2 0xFFFFFFFF (st [])).1.1.1 (by decide)⟩, ⟨_, (h.2 1 (st [])).2.1.1.1 (by decide)⟩,
     ⟨_, (h.2 1 (shut (st []))).2.2.1.2 (by decide)⟩⟩

theorem witness_ReferenceCommands_1 (h : Obligations.ReferenceCommands) :
    Runs (.refinTimingPoint 3) State.reset ∧ Runs (.refinTimingPoint 3) (st []) ∧
    Runs (.refinTimingPoint 0) ({ (st []).setCand 0 { seen := true, rateRun := 15 } with clk := 10 ^ 18 }) ∧
    Runs (.refinTimingPoint 3) ({ (st []).setCand 3 { seen := true } with clk := 10 ^ 18 }) ∧
    Runs (.refinTimingPoint 3) ({ ((st [(F.REFSEL_CAND_TYPE, 3, 2)]).setCand 3 { seen := true }) with clk := sClk }) ∧
    Runs (.refinStop 3) ({ (st []).setCand 3 { seen := true } with clk := 10 ^ 18 }) ∧ Runs (.refinStop 3) (st []) ∧
    Runs (.candSourceLost 7) ((st []).setCand 7 { present := true }) ∧ Runs (.candSourceLost 0) ((st []).setCand 0 { present := true }) ∧
    Runs (.candQualified 7) (put [(F.REFSEL_CAND_STATE, 7, Cs.qualifying), (F.REFSEL_CAND_QUAL, 7, 0)] (st [])) ∧
    Runs (.candQualified 0) (st []) ∧ Runs (.driftUpdate [0, 0, 0, 0, 0, 0, 0, 0xFFFFFFFF]) (st []) ∧
    Runs (.candDriftCleared 7) ((put [(F.REFSEL_CAND_STATE, 7, Cs.drifting), (F.REFSEL_CAND_QUAL, 7, 0)] (selS 7)).setCand 7 { under := some 0 }) ∧
    Runs (.candDriftCleared 0) (st []) ∧
    Runs (.candDisqualified 7) ((put [(F.REFSEL_CAND_STATE, 7, Cs.qualifying), (F.REFSEL_CAND_QUAL, 7, 0)] (st [])).setCand 7 { excess := some 0 }) ∧
    Runs (.candDisqualified 0) (st []) :=
    ⟨⟨_, (h.1 0 3 [] State.reset).1 (by decide)⟩, ⟨_, (h.1 0 3 [] (st [])).2.1 (by decide) (by decide)⟩,
     ⟨_, (h.1 0 0 [] ({ (st []).setCand 0 { seen := true, rateRun := 15 } with clk := 10 ^ 18 })).2.2.1 (by decide) (by decide) (by decide)⟩,
     ⟨_, (h.1 0 3 [] ({ (st []).setCand 3 { seen := true } with clk := 10 ^ 18 })).2.2.2.1 (by decide) (by decide) (by decide) (by decide)⟩,
     ⟨_, (h.1 0 3 [] ({ ((st [(F.REFSEL_CAND_TYPE, 3, 2)]).setCand 3 { seen := true }) with clk := sClk })).2.2.2.2.1 (by decide) (by decide) (by decide) (by decide)⟩,
     ⟨_, (h.1 0 3 [] ({ (st []).setCand 3 { seen := true } with clk := 10 ^ 18 })).2.2.2.2.2.1 (by decide)⟩,
     ⟨_, (h.1 0 3 [] (st [])).2.2.2.2.2.2.1 (by decide)⟩,
     ⟨_, (h.1 7 3 [] ((st []).setCand 7 { present := true })).2.2.2.2.2.2.2.1 (by decide)⟩,
     ⟨_, (h.1 0 3 [] ((st []).setCand 0 { present := true })).2.2.2.2.2.2.2.2.1 (by decide)⟩,
     ⟨_, (h.1 7 3 [] (put [(F.REFSEL_CAND_STATE, 7, Cs.qualifying), (F.REFSEL_CAND_QUAL, 7, 0)] (st []))).2.2.2.2.2.2.2.2.2.1 (by decide)⟩,
     ⟨_, (h.1 0 3 [] (st [])).2.2.2.2.2.2.2.2.2.2.1 (by decide)⟩,
     ⟨_, (h.1 7 3 [0, 0, 0, 0, 0, 0, 0, 0xFFFFFFFF] (st [])).2.2.2.2.2.2.2.2.2.2.2.1⟩,
     ⟨_, (h.1 7 3 [] ((put [(F.REFSEL_CAND_STATE, 7, Cs.drifting), (F.REFSEL_CAND_QUAL, 7, 0)] (selS 7)).setCand 7 { under := some 0 })).2.2.2.2.2.2.2.2.2.2.2.2.1 ⟨by decide, 0, rfl, by decide⟩⟩,
     ⟨_, (h.1 0 3 [] (st [])).2.2.2.2.2.2.2.2.2.2.2.2.2.1 (fun e => absurd e.1 (by decide))⟩,
     ⟨_, (h.1 7 3 [] ((put [(F.REFSEL_CAND_STATE, 7, Cs.qualifying), (F.REFSEL_CAND_QUAL, 7, 0)] (st [])).setCand 7 { excess := some 0 })).2.2.2.2.2.2.2.2.2.2.2.2.2.2.1 ⟨by decide, by decide, 0, rfl, by decide⟩⟩,
     ⟨_, (h.1 0 3 [] (st [])).2.2.2.2.2.2.2.2.2.2.2.2.2.2.2 (fun e => absurd e.1 (by decide))⟩⟩

theorem witness_ReferenceCommands_2 (h : Obligations.ReferenceCommands) :
    Runs (.ptpValidWrite 1) (st []) ∧ Runs (.ptpValidWrite 1) (shut (st [])) ∧ Runs (.ptpValidWrite 0) (st []) ∧
    Runs .ptpValidExpire ({ st [(F.REFSEL_PTP_VALID_PTP_VALID, 0, 1)] with clk := 2 * sClk }) ∧ Runs .ptpValidExpire (st []) ∧
    Runs (.refselLocoscWrite 0) (up Mode.calibrate) ∧ Runs (.refselLocoscWrite 0) (shut (up Mode.calibrate)) ∧
    Runs (.refselLocoscWrite 0) (st []) ∧ Runs (.refselCandWrite 7 3 1) (st []) ∧ Runs (.refselCandWrite 7 3 1) (shut (st [])) ∧
    Runs (.refselCandWrite 7 3 1) (selS 7) ∧ Runs (.refselCandWrite 7 0 0x20) (selS 7) ∧ Runs (.refselCandWrite 7 0 0) (st []) ∧
    Runs (.refselCandWrite 0 0 1) ((st []).setCand 0 { present := true }) ∧ Runs (.refselCandWrite 7 0 1) (st []) ∧
    Runs (.refselCandWrite 7 0 0) (st [(F.REFSEL_CAND_EN, 7, 1)]) :=
    ⟨⟨_, ((h.2 7 3 1 (st [])).1 (by decide)).1 (by decide)⟩, ⟨_, ((h.2 7 3 1 (shut (st []))).1 (by decide)).2 (by decide)⟩,
     ⟨_, ((h.2 7 3 0 (st [])).2.1 (by decide)).1 (by decide)⟩,
     ⟨_, (h.2 7 3 0 ({ st [(F.REFSEL_PTP_VALID_PTP_VALID, 0, 1)] with clk := 2 * sClk })).2.2.1 (by decide)⟩,
     ⟨_, (h.2 7 3 0 (st [])).2.2.2.1 (by decide)⟩, ⟨_, ((h.2 7 3 0 (up Mode.calibrate)).2.2.2.2.1 (by decide)).1 (by decide)⟩,
     ⟨_, ((h.2 7 3 0 (shut (up Mode.calibrate))).2.2.2.2.1 (by decide)).2 (by decide)⟩,
     ⟨_, ((h.2 7 3 0 (st [])).2.2.2.2.2.1 (by decide)).1 (by decide)⟩,
     ⟨_, ((h.2 7 3 1 (st [])).2.2.2.2.2.2.1 (by decide) (by decide)).1 (by decide)⟩,
     ⟨_, ((h.2 7 3 1 (shut (st []))).2.2.2.2.2.2.1 (by decide) (by decide)).2 (by decide)⟩,
     ⟨_, ((h.2 7 3 1 (selS 7)).2.2.2.2.2.2.2.1 (by decide)).1 (by decide)⟩,
     ⟨_, ((h.2 7 0 0x20 (selS 7)).2.2.2.2.2.2.2.2.1 (by decide) (by decide)).1 (by decide)⟩,
     ⟨_, ((h.2 7 0 0 (st [])).2.2.2.2.2.2.2.2.2.1 (by decide) (by decide) (by decide)).1 (by decide)⟩,
     ⟨_, ((h.2 0 0 1 ((st []).setCand 0 { present := true })).2.2.2.2.2.2.2.2.2.2.1 (by decide) (by decide) (by decide) (by decide) (by decide)).1 (by decide)⟩,
     ⟨_, ((h.2 7 0 1 (st [])).2.2.2.2.2.2.2.2.2.2.2.1 (by decide) (by decide) (by decide) (by decide) (by decide)).1 (by decide)⟩,
     ⟨_, ((h.2 7 0 0 (st [(F.REFSEL_CAND_EN, 7, 1)])).2.2.2.2.2.2.2.2.2.2.2.2 (by decide) (by decide) (by decide) (by decide)).1 (by decide)⟩⟩

theorem witness_LoopAndSynthesiserCommands_1 (h : Obligations.LoopAndSynthesiserCommands) :
    Runs .loopStageAdvance ({ selS 1 with ref := { below := some 0 }, clk := 10 ^ 18 }) ∧
    Runs .loopStageAdvance ({ put [(F.REFSEL_COND_STAGE, 0, 2)] (selS 1) with ref := { below := some 0 }, clk := 10 ^ 18 }) ∧
    Runs .loopStageAdvance (st []) ∧ Runs (.pullNow 0) ((st []).setBuildout 5) ∧ Runs (.pullNow 0) (shut ((st []).setBuildout 5)) ∧
    Runs (.pullNow 0) (st []) ∧ Runs .slewComplete ({ st [] with ref := { slew := some { max := 1 } }, clk := 1 }) ∧
    Runs .slewComplete (st []) ∧ Runs (.historySample ()) ({ st [] with clk := sClk }) ∧ Runs (.historySample ()) (st []) ∧
    Runs .holdoverLimitExpire ({ st [(F.REFSEL_HO_LIM_LIMIT, 0, 1)] with ref := { hoVal := some 0 }, clk := 3600 * sClk + 1 }) ∧
    Runs .holdoverLimitExpire (st []) ∧ Runs .locoscFail (st []) ∧ Runs .locoscFail (up Mode.active) :=
    ⟨⟨_, (h.1 0 0 ({ selS 1 with ref := { below := some 0 }, clk := 10 ^ 18 })).1 (by decide) (by decide)⟩,
     ⟨_, (h.1 0 0 ({ put [(F.REFSEL_COND_STAGE, 0, 2)] (selS 1) with ref := { below := some 0 }, clk := 10 ^ 18 })).2.1 (by decide) (by decide)⟩,
     ⟨_, (h.1 0 0 (st [])).2.2.1 (fun _ e => absurd e.1 (by decide))⟩,
     ⟨_, ((h.1 0 0 ((st []).setBuildout 5)).2.2.2.1 (by decide)).1 (by decide)⟩,
     ⟨_, ((h.1 0 0 (shut ((st []).setBuildout 5))).2.2.2.1 (by decide)).2 (by decide)⟩,
     ⟨_, ((h.1 0 0 (st [])).2.2.2.2.1 (by decide)).1 (by decide)⟩,
     ⟨_, (h.1 0 0 ({ st [] with ref := { slew := some { max := 1 } }, clk := 1 })).2.2.2.2.2.1 (by decide) (by decide)⟩,
     ⟨_, (h.1 0 0 (st [])).2.2.2.2.2.2.1 (by decide)⟩, ⟨_, (h.1 0 0 ({ st [] with clk := sClk })).2.2.2.2.2.2.2.1 (by decide)⟩,
     ⟨_, (h.1 0 0 (st [])).2.2.2.2.2.2.2.2.1 (by decide)⟩,
     ⟨_, (h.1 0 0 ({ st [(F.REFSEL_HO_LIM_LIMIT, 0, 1)] with ref := { hoVal := some 0 }, clk := 3600 * sClk + 1 })).2.2.2.2.2.2.2.2.2.1 (by decide)⟩,
     ⟨_, (h.1 0 0 (st [])).2.2.2.2.2.2.2.2.2.2.1 (by decide)⟩, ⟨_, (h.1 0 0 (st [])).2.2.2.2.2.2.2.2.2.2.2.1 (by decide)⟩,
     ⟨_, (h.1 0 0 (up Mode.active)).2.2.2.2.2.2.2.2.2.2.2.2 (by decide)⟩⟩

theorem witness_LoopAndSynthesiserCommands_3 (h : Obligations.LoopAndSynthesiserCommands) :
    Runs (.synthLock (15, [])) (st [(F.SYNTH_STATUS_RETIRED, 15, 1)]) ∧ Runs (.synthLock (15, [0, 0, 0, 0, 0, 0, 0])) (st []) ∧
    Runs (.synthLock (15, [0, 0, 0, 0, 0, 0, 0, 200])) (st []) ∧ Runs (.synthLockLoss (0, [], 0)) (st []) ∧
    Runs (.synthLockLoss (15, [2001], 0)) (st [(F.SYNTH_STATUS_LOCKED, 15, 1)]) ∧
    Runs (.synthLockLoss (15, [2001, 2001], 0)) (st [(F.SYNTH_STATUS_LOCKED, 15, 1)]) ∧
    Runs (.synthLockLoss (0, [], 200001)) (st [(F.SYNTH_STATUS_LOCKED, 0, 1), (F.SYNTH_STATUS_FAIL_CNT, 0, 1)]) ∧
    Runs (.ditherSeedLoad 15 4) (st []) ∧ Runs (.ditherSeedLoad 15 4) (shut (st [])) ∧ Runs (.refoutCfgWrite 3 2 1) (st []) ∧
    Runs (.refoutCfgWrite 3 2 1) (shut (st [])) ∧
    Runs (.refoutChangeApply 3) ((st [(F.REFOUT_CFG_TYPE, 3, 0)]).setRefout 3 { waiting := true }) ∧
    Runs (.refoutChangeApply 3) (st []) :=
    ⟨⟨_, (h.2.2 15 0 0 [] 0 0 (st [(F.SYNTH_STATUS_RETIRED, 15, 1)])).1 (by decide)⟩,
     ⟨_, (h.2.2 15 0 0 [0, 0, 0, 0, 0, 0, 0] 0 0 (st [])).2.1 (by decide) (by decide)⟩,
     ⟨_, (h.2.2 15 0 0 [0, 0, 0, 0, 0, 0, 0, 200] 0 0 (st [])).2.2.1 (by decide) (by decide) (by decide)⟩,
     ⟨_, (h.2.2 0 0 0 [] 0 0 (st [])).2.2.2.1 (by decide)⟩,
     ⟨_, (h.2.2 15 0 0 [2001] 0 0 (st [(F.SYNTH_STATUS_LOCKED, 15, 1)])).2.2.2.2.1 (by decide) (by decide)⟩,
     ⟨_, (h.2.2 15 0 0 [2001, 2001] 0 0 (st [(F.SYNTH_STATUS_LOCKED, 15, 1)])).2.2.2.2.2.1 (by decide) (by decide) (by decide)⟩,
     ⟨_, (h.2.2 0 0 0 [] 200001 0 (st [(F.SYNTH_STATUS_LOCKED, 0, 1), (F.SYNTH_STATUS_FAIL_CNT, 0, 1)])).2.2.2.2.2.2.1 (by decide) (by decide) (by decide)⟩,
     ⟨_, ((h.2.2 15 0 0 [] 0 4 (st [])).2.2.2.2.2.2.2.1).1 (by decide)⟩,
     ⟨_, ((h.2.2 15 0 0 [] 0 4 (shut (st []))).2.2.2.2.2.2.2.1).2 (by decide)⟩,
     ⟨_, ((h.2.2 0 3 2 [] 0 1 (st [])).2.2.2.2.2.2.2.2.1).1 (by decide)⟩,
     ⟨_, ((h.2.2 0 3 2 [] 0 1 (shut (st []))).2.2.2.2.2.2.2.2.1).2 (by decide)⟩,
     ⟨_, (h.2.2 0 3 0 [] 0 0 ((st [(F.REFOUT_CFG_TYPE, 3, 0)]).setRefout 3 { waiting := true })).2.2.2.2.2.2.2.2.2.1 (by decide)⟩,
     ⟨_, (h.2.2 0 3 0 [] 0 0 (st [])).2.2.2.2.2.2.2.2.2.2 (by decide)⟩⟩

theorem witness_PortAndDestinationCommands_1 (h : Obligations.PortAndDestinationCommands) :
    Runs (.alignPortCfgWrite 1151 8) (st []) ∧ Runs (.alignPortCfgWrite 1151 8) (shut (st [])) ∧
    Runs (.alignPortCfgWrite 1151 7) (st []) ∧ Runs (.alignPortCfgWrite 1151 0) (st []) ∧ Runs (.alignPortCfgWrite 1151 1) (st []) ∧
    Runs (.strandLineJudge 4607 ⟨[], 0⟩) (st []) ∧ Runs (.strandLineJudge 1 ⟨[4], 1⟩) (st [(F.ALIGN_PORT_CFG_CLASS, 0, 5)]) ∧
    Runs (.strandLineJudge 0 ⟨[4], 1⟩) (st [(F.ALIGN_PORT_CFG_CLASS, 0, 5)]) ∧
    Runs (.windowReenter 1151 0) ((sw 1 (st [(F.ALIGN_PORT_STATUS_FMT_VALID, 1151, 1)])).setWin 1151 0 { run := 2 }) ∧
    Runs (.windowReenter 1151 7) (st []) :=
    ⟨⟨_, ((h.1 1151 7 0 ⟨[], 0⟩ 8 (st [])).1 (by decide)).1 (by decide)⟩,
     ⟨_, ((h.1 1151 7 0 ⟨[], 0⟩ 8 (shut (st []))).1 (by decide)).2 (by decide)⟩,
     ⟨_, ((h.1 1151 7 0 ⟨[], 0⟩ 7 (st [])).2.1 (by decide) (by decide)).1 (by decide)⟩,
     ⟨_, ((h.1 1151 7 0 ⟨[], 0⟩ 0 (st [])).2.2.1 (by decide) (by decide) (by decide)).1 (by decide)⟩,
     ⟨_, ((h.1 1151 7 0 ⟨[], 0⟩ 1 (st [])).2.2.2.1 (by decide) (by decide) (by decide)).1 (by decide)⟩,
     ⟨_, (h.1 0 7 4607 ⟨[], 0⟩ 1 (st [])).2.2.2.2.1 (by decide)⟩,
     ⟨_, (h.1 0 7 1 ⟨[4], 1⟩ 1 (st [(F.ALIGN_PORT_CFG_CLASS, 0, 5)])).2.2.2.2.2.1 (by decide) (by decide)⟩,
     ⟨_, (h.1 0 7 0 ⟨[4], 1⟩ 1 (st [(F.ALIGN_PORT_CFG_CLASS, 0, 5)])).2.2.2.2.2.2.1 (by decide) (by decide)⟩,
     ⟨_, (h.1 1151 0 0 ⟨[], 0⟩ 8 ((sw 1 (st [(F.ALIGN_PORT_STATUS_FMT_VALID, 1151, 1)])).setWin 1151 0 { run := 2 })).2.2.2.2.2.2.2.1 (by decide)⟩,
     ⟨_, (h.1 1151 7 0 ⟨[], 0⟩ 8 (st [])).2.2.2.2.2.2.2.2 (by decide)⟩⟩

theorem witness_PortAndDestinationCommands_2 (h : Obligations.PortAndDestinationCommands) :
    Runs (.lossPolicyApply 6271) ((st []).setXa 6271 { src := 4608, routed := true }) ∧ Runs (.lossPolicyApply 6335) (st []) ∧
    Runs (.lossPolicyReturn 6335) (sw 1 (st [(F.XPT_DEST_STATUS_SUBST, 6335, 1)])) ∧ Runs (.lossPolicyReturn 0) (st []) ∧
    Runs (.lineModeSlip 6335) ((((sw 1 (st [(F.XPT_DEST_STATUS_UNCLEAN, 6335, 1)])).setXa 6335 { routed := true }).setWin 0 0 { lines := [(0, 3961)] }).setRaster 0 { pos := ⟨1, 1, 0⟩ }) ∧
    Runs (.lineModeSlip 6335) (st []) :=
    ⟨⟨_, (h.2 6271 ((st []).setXa 6271 { src := 4608, routed := true })).1 ⟨by decide, by decide, by decide, by decide⟩⟩,
     ⟨_, (h.2 6335 (st [])).2.1 (fun e => absurd e.1 (by decide))⟩,
     ⟨_, (h.2 6335 (sw 1 (st [(F.XPT_DEST_STATUS_SUBST, 6335, 1)]))).2.2.1 (Or.inl ⟨by decide, by decide⟩) (Or.inl ⟨0, by decide, by decide⟩)⟩,
     ⟨_, (h.2 0 (st [])).2.2.2.1 (fun e => e.1.elim (fun q => absurd q.1 (by decide)) (fun q => absurd q (by decide)))⟩,
     ⟨_, (h.2 6335 ((((sw 1 (st [(F.XPT_DEST_STATUS_UNCLEAN, 6335, 1)])).setXa 6335 { routed := true }).setWin 0 0 { lines := [(0, 3961)] }).setRaster 0 { pos := ⟨1, 1, 0⟩ })).2.2.2.2.1 (by decide)⟩,
     ⟨_, (h.2 6335 (st [])).2.2.2.2.2 (by decide)⟩⟩

theorem witness_CrosspointCommands (h : Obligations.CrosspointCommands) :
    Runs (.xptCommitGo 0) ((ras 0 ⟨1, 1, 0⟩ (st [(F.XPT_COMMIT_TGT_LINE, 0, 1)])).stageOne 7 6335 6719 0) ∧
    Runs (.xptCommitGo 0) (shut ((ras 0 ⟨1, 1, 0⟩ (st [(F.XPT_COMMIT_TGT_LINE, 0, 1)])).stageOne 7 6335 6719 0)) ∧
    Runs (.xptCommitGo 0xFFFFFFFD) (st []) ∧ Runs (.xptCommitDiscard 0xFFFFFFFE) (st []) ∧
    Runs (.xptCommitDiscard 0xFFFFFFFE) (shut (st [])) ∧ Runs (.xptCommitDiscard 0xFFFFFFFD) (st []) ∧
    Runs (.xptLockRequest 0x418BF) (st []) ∧ Runs (.xptLockRequest 0x418BF) (shut (st [])) ∧ Runs (.xptLockRequest 0x418C0) (st []) ∧
    Runs (.commitTakeEffect 0) ({ ras 0 ⟨1, 7, 0⟩ (st []) with xCommits := [⟨9, 7, 0, [6335], [⟨0, 1, 7, 0, 0⟩]⟩] }) ∧
    Runs (.commitTakeEffect 7) ({ st [] with xCommits := [⟨9, 4, 0, [6335], [⟨7, 1, 1, 0, 0⟩]⟩] }) ∧
    Runs (.commitTakeEffect 7) (st []) :=
    ⟨⟨_, ((h 0 0 ((ras 0 ⟨1, 1, 0⟩ (st [(F.XPT_COMMIT_TGT_LINE, 0, 1)])).stageOne 7 6335 6719 0)).1 (by decide)).1 (by decide)⟩,
     ⟨_, ((h 0 0 (shut ((ras 0 ⟨1, 1, 0⟩ (st [(F.XPT_COMMIT_TGT_LINE, 0, 1)])).stageOne 7 6335 6719 0))).1 (by decide)).2 (by decide)⟩,
     ⟨_, ((h 0 0xFFFFFFFD (st [])).2.1 (by decide)).1 (by decide)⟩, ⟨_, ((h 0 0xFFFFFFFE (st [])).2.2.1 (by decide)).1 (by decide)⟩,
     ⟨_, ((h 0 0xFFFFFFFE (shut (st []))).2.2.1 (by decide)).2 (by decide)⟩,
     ⟨_, ((h 0 0xFFFFFFFD (st [])).2.2.2.1 (by decide)).1 (by decide)⟩, ⟨_, ((h 0 0x418BF (st [])).2.2.2.2.1 (by decide)).1 (by decide)⟩,
     ⟨_, ((h 0 0x418BF (shut (st []))).2.2.2.2.1 (by decide)).2 (by decide)⟩,
     ⟨_, ((h 0 0x418C0 (st [])).2.2.2.2.2.1 (by decide)).1 (by decide)⟩,
     ⟨_, (h 0 0 ({ ras 0 ⟨1, 7, 0⟩ (st []) with xCommits := [⟨9, 7, 0, [6335], [⟨0, 1, 7, 0, 0⟩]⟩] })).2.2.2.2.2.2.1 ⟨9, 7, 0, [6335], [⟨0, 1, 7, 0, 0⟩]⟩ ⟨0, 1, 7, 0, 0⟩ (by decide) (by decide)⟩,
     ⟨_, (h 7 0 ({ st [] with xCommits := [⟨9, 4, 0, [6335], [⟨7, 1, 1, 0, 0⟩]⟩] })).2.2.2.2.2.2.2.1 ⟨9, 4, 0, [6335], [⟨7, 1, 1, 0, 0⟩]⟩ ⟨7, 1, 1, 0, 0⟩ (by decide) (by decide)⟩,
     ⟨_, (h 7 0 (st [])).2.2.2.2.2.2.2.2 (by decide)⟩⟩

theorem witness_CrosspointFrames_1 (h : Obligations.CrosspointFrames) :
    Runs (.shadowXptWrite 8191 false 0xFFFFFFFF) (st []) ∧ Runs (.shadowXptWrite 8191 false 0xFFFFFFFF) (shut (st [])) ∧
    Runs (.shadowXptWrite 0 false 0) ((st []).setXlock 0 true) ∧ Runs (.shadowXptWrite 8191 true 0) (st []) :=
    ⟨⟨_, ((h.1 8191 0xFFFFFFFF (st [])).1 (by decide)).1 (by decide)⟩,
     ⟨_, ((h.1 8191 0xFFFFFFFF (shut (st []))).1 (by decide)).2 (by decide)⟩,
     ⟨_, ((h.1 0 0 ((st []).setXlock 0 true)).2.1 (by decide)).1 (by decide)⟩, ⟨_, ((h.1 8191 0 (st [])).2.2.1).1 (by decide)⟩⟩

theorem witness_CrosspointFrames_3 (h : Obligations.CrosspointFrames) :
    ((st []).lockGroup 6328 8 true).xShadow = (st []).xShadow :=
    (h.2.2 6328 3 true (st []) (by decide) (by decide)).2.2.1

theorem witness_ProbeAndPlaneCommands_1 (h : Obligations.ProbeAndPlaneCommands) :
    Runs (.probeFramePublish 63 () () ()) (st []) ∧
    Runs (.probeFramePublish 63 () () ()) (put [(F.XPT_DEST_STATUS_SUBST, 6335, 1)] ((ras 0 ⟨2, 1, 0⟩ (st [])).setXa 6335 { routed := true })) ∧
    Runs (.probeFramePublish 63 () () ()) (put [(F.PROBE_CFG_FRZ, 63, 1), (F.PROBE_CFG_IRQ, 63, 1)] ((ras 0 ⟨2, 1, 0⟩ (st [])).setXa 6335 { routed := true })) ∧
    Runs (.probeFramePublish 63 () () ()) ((ras 0 ⟨2, 1, 0⟩ (st [])).setXa 6335 { routed := true }) :=
    ⟨⟨_, (h.1 63 (st [])).1 (by decide)⟩,
     ⟨_, (h.1 63 (put [(F.XPT_DEST_STATUS_SUBST, 6335, 1)] ((ras 0 ⟨2, 1, 0⟩ (st [])).setXa 6335 { routed := true }))).2.1 (by decide) (by decide)⟩,
     ⟨_, (h.1 63 (put [(F.PROBE_CFG_FRZ, 63, 1), (F.PROBE_CFG_IRQ, 63, 1)] ((ras 0 ⟨2, 1, 0⟩ (st [])).setXa 6335 { routed := true }))).2.2.1 (by decide) (by decide) (by decide)⟩,
     ⟨_, (h.1 63 ((ras 0 ⟨2, 1, 0⟩ (st [])).setXa 6335 { routed := true })).2.2.2 (by decide) (by decide) (by decide)⟩⟩

theorem witness_ProbeAndPlaneCommands_2 (h : Obligations.ProbeAndPlaneCommands) :
    Runs (.psubStart 0x10000) (granted Gc.psub 0 (st [])) ∧ Runs (.psubStart 0x10000) (shut (granted Gc.psub 0 (st []))) ∧
    Runs (.psubStart 0xFFFFFFFD) (st []) ∧ Runs (.psubAbort 0) (st [(F.XPT_PSUB_JOURNAL_STEP, 0, 1)]) ∧
    Runs (.psubAbort 0) (shut (st [(F.XPT_PSUB_JOURNAL_STEP, 0, 1)])) ∧ Runs (.psubAbort 0xFFFFFFFD) (st []) ∧
    Runs .psubLoadDone (sw 1 (st [(F.XPT_PSUB_JOURNAL_STEP, 0, 1)])) ∧ Runs .psubLoadDone (st []) ∧
    Runs .psubCompareDone (sw 64 (st [(F.XPT_PSUB_JOURNAL_STEP, 0, 2)])) ∧
    Runs .psubCompareDone (sw 63 (st [(F.XPT_PSUB_JOURNAL_STEP, 0, 2)])) ∧
    Runs (.psubRasterMove 0) (sw 1 (st [(F.XPT_PSUB_JOURNAL_STEP, 0, 3)])) ∧ Runs (.psubRasterMove 7) (st []) ∧
    Runs .psubSwitchedDone (sw 2 (st [(F.XPT_PSUB_JOURNAL_STEP, 0, 4)])) ∧
    Runs .psubSwitchedDone (sw 1 (st [(F.XPT_PSUB_JOURNAL_STEP, 0, 4)])) ∧
    Runs (.planeLineForward 8184 false true false) (st [(F.XPT_PSUB_JOURNAL_STEP, 0, 2)]) ∧
    Runs (.planeLineForward 8184 false false true) (st [(F.XPT_PSUB_JOURNAL_STEP, 0, 2)]) ∧
    Runs (.planeLineForward 0 true false false) (st [(F.XPT_PSUB_JOURNAL_STEP, 0, 4)]) ∧
    Runs (.planeLineForward 8191 true false false) (st []) :=
    ⟨⟨_, ((h.2 0 0 false false false 8 0x10000 (granted Gc.psub 0 (st []))).1 (by decide) (by decide)).1 (by decide)⟩,
     ⟨_, ((h.2 0 0 false false false 8 0x10000 (shut (granted Gc.psub 0 (st [])))).1 (by decide) (by decide)).2 (by decide)⟩,
     ⟨_, ((h.2 0 0 false false false 8 0xFFFFFFFD (st [])).2.1 (by decide)).1 (by decide)⟩,
     ⟨_, ((h.2 0 0 false false false 8 0 (st [(F.XPT_PSUB_JOURNAL_STEP, 0, 1)])).2.2.1 (by decide)).1 (by decide)⟩,
     ⟨_, ((h.2 0 0 false false false 8 0 (shut (st [(F.XPT_PSUB_JOURNAL_STEP, 0, 1)]))).2.2.1 (by decide)).2 (by decide)⟩,
     ⟨_, ((h.2 0 0 false false false 8 0xFFFFFFFD (st [])).2.2.2.1 (by decide)).1 (by decide)⟩,
     ⟨_, (h.2 0 0 false false false 8 0 (sw 1 (st [(F.XPT_PSUB_JOURNAL_STEP, 0, 1)]))).2.2.2.2.1 (by decide)⟩,
     ⟨_, (h.2 0 0 false false false 8 0 (st [])).2.2.2.2.2.1 (by decide)⟩,
     ⟨_, (h.2 0 0 false false false 8 0 (sw 64 (st [(F.XPT_PSUB_JOURNAL_STEP, 0, 2)]))).2.2.2.2.2.2.1 (by decide)⟩,
     ⟨_, (h.2 0 0 false false false 8 0 (sw 63 (st [(F.XPT_PSUB_JOURNAL_STEP, 0, 2)]))).2.2.2.2.2.2.2.1 (by decide)⟩,
     ⟨_, (h.2 0 0 false false false 8 0 (sw 1 (st [(F.XPT_PSUB_JOURNAL_STEP, 0, 3)]))).2.2.2.2.2.2.2.2.1 (by decide)⟩,
     ⟨_, (h.2 7 0 false false false 8 0 (st [])).2.2.2.2.2.2.2.2.2.1 (by decide)⟩,
     ⟨_, (h.2 0 0 false false false 8 0 (sw 2 (st [(F.XPT_PSUB_JOURNAL_STEP, 0, 4)]))).2.2.2.2.2.2.2.2.2.2.1 (by decide)⟩,
     ⟨_, (h.2 0 0 false false false 8 0 (sw 1 (st [(F.XPT_PSUB_JOURNAL_STEP, 0, 4)]))).2.2.2.2.2.2.2.2.2.2.2.1 (by decide)⟩,
     ⟨_, (h.2 0 8184 false true false 8 0 (st [(F.XPT_PSUB_JOURNAL_STEP, 0, 2)])).2.2.2.2.2.2.2.2.2.2.2.2.1 (by decide) (by decide) (by decide)⟩,
     ⟨_, (h.2 0 8184 false false true 8 0 (st [(F.XPT_PSUB_JOURNAL_STEP, 0, 2)])).2.2.2.2.2.2.2.2.2.2.2.2.2.1 (by decide) (by decide) (by decide)⟩,
     ⟨_, (h.2 0 0 true false false 8 0 (st [(F.XPT_PSUB_JOURNAL_STEP, 0, 4)])).2.2.2.2.2.2.2.2.2.2.2.2.2.2.1 (by decide) (by decide) (by decide)⟩,
     ⟨_, (h.2 0 8191 true false false 8 0 (st [])).2.2.2.2.2.2.2.2.2.2.2.2.2.2.2 (by decide)⟩⟩

theorem witness_EngineControl_1 (h : Obligations.EngineControl) :
    Runs (.cueStart 4 0) (es4 Es.stopped) ∧ Runs (.cueStart 4 0) (shut (es4 Es.stopped)) ∧ Runs (.cueStop 4 0) (es4 Es.running) ∧
    Runs (.cueStop 4 0) (shut (es4 Es.running)) ∧ Runs (.cueResume 4 0) (es4 Es.stopped) ∧
    Runs (.cueResume 4 0) (shut (es4 Es.stopped)) ∧ Runs (.engReset 4 0) (es4 Es.faulted) ∧
    Runs (.engReset 4 0) (shut (es4 Es.faulted)) ∧ Runs (.discardStaged 4 0xFFFFFFFF) (es4 Es.halted) ∧
    Runs (.discardStaged 4 0xFFFFFFFF) (shut (es4 Es.halted)) :=
    ⟨⟨_, ((h.1 4 0 (es4 Es.stopped)).1).1 (by decide)⟩, ⟨_, ((h.1 4 0 (shut (es4 Es.stopped))).1).2 (by decide)⟩,
     ⟨_, ((h.1 4 0 (es4 Es.running)).2.1).1 (by decide)⟩, ⟨_, ((h.1 4 0 (shut (es4 Es.running))).2.1).2 (by decide)⟩,
     ⟨_, ((h.1 4 0 (es4 Es.stopped)).2.2.1).1 (by decide)⟩, ⟨_, ((h.1 4 0 (shut (es4 Es.stopped))).2.2.1).2 (by decide)⟩,
     ⟨_, ((h.1 4 0 (es4 Es.faulted)).2.2.2.1).1 (by decide)⟩, ⟨_, ((h.1 4 0 (shut (es4 Es.faulted))).2.2.2.1).2 (by decide)⟩,
     ⟨_, ((h.1 4 0xFFFFFFFF (es4 Es.halted)).2.2.2.2).1 (by decide)⟩,
     ⟨_, ((h.1 4 0xFFFFFFFF (shut (es4 Es.halted))).2.2.2.2).2 (by decide)⟩⟩

theorem witness_EngineControl_2 (h : Obligations.EngineControl) :
    ((es4 Es.running).engReset 4).es 4 = Es.stopped :=
    ((h.2.1 4 0 15 (es4 Es.running) (by decide) (by decide) (by decide) (by decide) (by decide) (by decide)).1)

theorem witness_EngineControl_3 (h : Obligations.EngineControl) :
    Runs (.cueMemoryWindowWrite 15871 1) (st [(F.CUE_WIN_SEL_PAGE, 0, 1), (F.CUE_STATUS_STATE, 0, Es.stopped)]) ∧
    Runs (.cueMemoryWindowWrite 15871 1) (shut (st [(F.CUE_WIN_SEL_PAGE, 0, 1), (F.CUE_STATUS_STATE, 0, Es.stopped)])) ∧
    Runs (.cueMemoryWindowWrite 15872 1) (st [(F.CUE_WIN_SEL_PAGE, 0, 1), (F.CUE_STATUS_STATE, 0, Es.stopped)]) ∧
    Runs (.cueMemoryWindowWrite 16383 1) (st [(F.CUE_WIN_SEL_TARGET, 0, 1)]) ∧
    Runs (.cueMemoryWindowWrite 16383 1) (st [(F.CUE_WIN_SEL_TARGET, 0, 2), (F.CUE_WIN_SEL_PAGE, 0, 15)]) ∧
    Runs (.cueMemoryWindowWrite 0 1) (st [(F.CUE_WIN_SEL_TARGET, 0, 1), (F.CUE_WIN_SEL_PAGE, 0, 1)]) :=
    ⟨⟨_, ((h.2.2 15871 1 16384 (st [(F.CUE_WIN_SEL_PAGE, 0, 1), (F.CUE_STATUS_STATE, 0, Es.stopped)])).1 (by decide) (by decide) (by decide)).1 (by decide)⟩,
     ⟨_, ((h.2.2 15871 1 16384 (shut (st [(F.CUE_WIN_SEL_PAGE, 0, 1), (F.CUE_STATUS_STATE, 0, Es.stopped)]))).1 (by decide) (by decide) (by decide)).2 (by decide)⟩,
     ⟨_, ((h.2.2 15872 1 16384 (st [(F.CUE_WIN_SEL_PAGE, 0, 1), (F.CUE_STATUS_STATE, 0, Es.stopped)])).2.1 (by decide) (by decide)).1 (by decide)⟩,
     ⟨_, ((h.2.2 16383 1 0 (st [(F.CUE_WIN_SEL_TARGET, 0, 1)])).2.2.1 (by decide)).1 (by decide)⟩,
     ⟨_, ((h.2.2 16383 1 245760 (st [(F.CUE_WIN_SEL_TARGET, 0, 2), (F.CUE_WIN_SEL_PAGE, 0, 15)])).2.2.2.1 (by decide)).1 (by decide)⟩,
     ⟨_, ((h.2.2 0 1 0 (st [(F.CUE_WIN_SEL_TARGET, 0, 1), (F.CUE_WIN_SEL_PAGE, 0, 1)])).2.2.2.2 (by decide)).1 (by decide)⟩⟩

theorem witness_RecordCommands (h : Obligations.RecordCommands) :
    Runs (.ringDoorbell 3 16) (st [(F.CUE_RING_SIZE_LOG2, 3, 4)]) ∧
    Runs (.ringDoorbell 3 16) (shut (st [(F.CUE_RING_SIZE_LOG2, 3, 4)])) ∧
    Runs (.ringDoorbell 3 17) (st [(F.CUE_RING_SIZE_LOG2, 3, 4)]) ∧ Runs (.cueRecordFetch 3) (ring3 false) ∧
    Runs (.cueRecordFetch 4) (st []) ∧ Runs (.cueRecordAccept 3 []) (ring3 false) ∧
    Runs (.cueRecordAccept 3 []) ((st []).setEng 3 { fetching := true }) ∧ Runs (.cueRecordAccept 3 [0x1F10000]) (ring3 true) ∧
    Runs (.cueRecordAccept 3 [0x2010000]) ((ring3 true).wr F.CUE_CTRL_AUTH_REQ 3 1) ∧
    Runs (.cueRecordAccept 3 [0x1F00000]) (ring3 true) ∧ Runs (.evrHeadWrite 1) (st []) ∧ Runs (.evrHeadWrite 1) (shut (st [])) :=
    ⟨⟨_, ((h 3 [] 16 (st [(F.CUE_RING_SIZE_LOG2, 3, 4)])).1 (by decide)).1 (by decide)⟩,
     ⟨_, ((h 3 [] 16 (shut (st [(F.CUE_RING_SIZE_LOG2, 3, 4)]))).1 (by decide)).2 (by decide)⟩,
     ⟨_, ((h 3 [] 17 (st [(F.CUE_RING_SIZE_LOG2, 3, 4)])).2.1 (by decide)).1 (by decide)⟩,
     ⟨_, (h 3 [] 0 (ring3 false)).2.2.1 (by decide)⟩, ⟨_, (h 4 [] 0 (st [])).2.2.2.1 (by decide)⟩,
     ⟨_, (h 3 [] 0 (ring3 false)).2.2.2.2.1 (by decide)⟩,
     ⟨_, (h 3 [] 0 ((st []).setEng 3 { fetching := true })).2.2.2.2.2.1 (by decide) (by decide)⟩,
     ⟨_, (h 3 [0x1F10000] 0 (ring3 true)).2.2.2.2.2.2.1 ⟨by decide, by decide⟩ (by decide)⟩,
     ⟨_, (h 3 [0x2010000] 0 ((ring3 true).wr F.CUE_CTRL_AUTH_REQ 3 1)).2.2.2.2.2.2.2.1 ⟨by decide, by decide⟩ (by decide) (Or.inl (by decide)) (by decide)⟩,
     ⟨_, (h 3 [0x1F00000] 0 (ring3 true)).2.2.2.2.2.2.2.2.2.1 ⟨by decide, by decide⟩ (by decide) (by decide)⟩,
     ⟨_, ((h 3 [] 1 (st [])).2.2.2.2.2.2.2.2.2.2).1 (by decide)⟩, ⟨_, ((h 3 [] 1 (shut (st []))).2.2.2.2.2.2.2.2.2.2).2 (by decide)⟩⟩

/-- A record that authentication takes: that its tag is right is the one condition left to the opaque HMAC. -/
theorem witness_RecordCommands_9 (h : Obligations.RecordCommands) (a : (ring3 true).recAuth 3 [0x2010000] = true) :
    Runs (.cueRecordAccept 3 [0x2010000]) (ring3 true) :=
  ⟨_, (h 3 [0x2010000] 0 (ring3 true)).2.2.2.2.2.2.2.2.1 ⟨by decide, by decide⟩ (by decide) (Or.inl (by decide)) a⟩

theorem witness_WaitsEnd (h : Obligations.WaitsEnd) :
    Runs (.watchdogExpire 4) ({ st [(F.CUE_STATUS_STATE, 4, Es.running), (F.CUE_WDOG_LIMIT, 4, 1)] with clk := 2 }) ∧
    Runs (.watchdogExpire 4) (st []) ∧ Runs (.waitMatch 4) (waits (.pos 3) 1 []) ∧ Runs (.waitMatch 4) (st []) ∧
    Runs (.cueComparatorFire 4 3) (waits .none 2 []) ∧ Runs (.cueComparatorFire 4 3) (waits .none 3 []) ∧
    Runs (.cueComparatorFire 4 3) (st []) ∧ Runs (.waitevWake 4) (waits (.event 1 none none) 0 [(F.CUE_EVPEND_BITS, 4, 1)]) ∧
    Runs (.waitevWake 4) (st []) ∧ Runs (.waitevTimeout 4) (waits (.event 1 (some 15) (some 3)) 3 []) ∧ Runs (.waitevTimeout 4) (st []) ∧
    Runs (.tsyncRelease 4) (waits (.tsync 255 16 3) 3 []) ∧ Runs (.tsyncRelease 4) (st []) ∧
    Runs (.tsyncTimeout 4) (waits (.tsync 255 31 3) 3 []) ∧ Runs (.tsyncTimeout 4) (st []) ∧
    Runs (.fenceComplete 4) (waits .fence 0 []) ∧ Runs (.fenceComplete 4) (st []) :=
    ⟨⟨_, (h 4 0 ({ st [(F.CUE_STATUS_STATE, 4, Es.running), (F.CUE_WDOG_LIMIT, 4, 1)] with clk := 2 })).1 (by decide)⟩,
     ⟨_, (h 4 0 (st [])).2.1 (by decide)⟩, ⟨_, (h 4 3 (waits (.pos 3) 1 [])).2.2.1 3 ⟨rfl, by decide, by decide⟩⟩,
     ⟨_, (h 4 0 (st [])).2.2.2.1 (fun _ e => nomatch e.1)⟩, ⟨_, (h 4 3 (waits .none 2 [])).2.2.2.2.1 (by decide) (by decide)⟩,
     ⟨_, (h 4 3 (waits .none 3 [])).2.2.2.2.2.1 (by decide) (by decide)⟩, ⟨_, (h 4 3 (st [])).2.2.2.2.2.2.1 (by decide)⟩,
     ⟨_, (h 4 3 (waits (.event 1 none none) 0 [(F.CUE_EVPEND_BITS, 4, 1)])).2.2.2.2.2.2.2.1 1 none none ⟨rfl, by decide, by decide⟩⟩,
     ⟨_, (h 4 3 (st [])).2.2.2.2.2.2.2.2.1 (fun _ _ _ e => nomatch e.1)⟩,
     ⟨_, (h 4 3 (waits (.event 1 (some 15) (some 3)) 3 [])).2.2.2.2.2.2.2.2.2.1 1 (some 15) 3 ⟨rfl, by decide, by decide⟩⟩,
     ⟨_, (h 4 3 (st [])).2.2.2.2.2.2.2.2.2.2.1 (fun _ _ _ e => nomatch e.1)⟩,
     ⟨_, (h 4 3 (waits (.tsync 255 16 3) 3 [])).2.2.2.2.2.2.2.2.2.2.2.1 255 16 3 ⟨rfl, by decide, List.forall_mem_singleton.2 ⟨3, rfl⟩⟩⟩,
     ⟨_, (h 4 3 (st [])).2.2.2.2.2.2.2.2.2.2.2.2.1 (fun _ _ _ e => nomatch e.1)⟩,
     ⟨_, (h 4 3 (waits (.tsync 255 31 3) 3 [])).2.2.2.2.2.2.2.2.2.2.2.2.2.1 255 31 3 ⟨rfl, by decide, by decide⟩⟩,
     ⟨_, (h 4 3 (st [])).2.2.2.2.2.2.2.2.2.2.2.2.2.2.1 (fun _ _ _ e => nomatch e.1)⟩,
     ⟨_, (h 4 3 (waits .fence 0 [])).2.2.2.2.2.2.2.2.2.2.2.2.2.2.2.1 rfl (by decide)⟩,
     ⟨_, (h 4 3 (st [])).2.2.2.2.2.2.2.2.2.2.2.2.2.2.2.2 (by decide)⟩⟩

theorem witness_EngineSubstitution (h : Obligations.EngineSubstitution) :
    Runs (.engSubstStart 0) (es4 Es.spare) ∧ Runs (.engSubstStart 0) (shut (es4 Es.spare)) ∧
    Runs (.engSubstAbort 0) ({ st [] with subst := { step := 1 } }) ∧
    Runs (.engSubstAbort 0) (shut ({ st [] with subst := { step := 1 } })) ∧
    Runs .engSubstCopyDone ({ st [] with subst := { step := 1 } }) ∧ Runs .engSubstCopyDone (st []) ∧
    Runs .engSubstSwap ({ st [(F.CUE_STATUS_STATE, 0, Es.halted)] with subst := { step := 2 } }) ∧ Runs .engSubstSwap (st []) ∧
    Runs (.engSubstSelftestDone true) ({ st [] with subst := { testing := some 4 } }) ∧
    Runs (.engSubstSelftestDone false) ({ st [] with subst := { testing := some 4 } }) ∧ Runs (.engSubstSelftestDone true) (st []) ∧
    Runs (.engSubstAutoDone true) ({ st [] with subst := { step := 1, auto := true } }) ∧
    Runs (.engSubstAutoDone false) ({ st [] with subst := { step := 1, auto := true } }) ∧ Runs (.engSubstAutoDone true) (st []) :=
    ⟨⟨_, ((h 0 (es4 Es.spare)).1).1 (by decide)⟩, ⟨_, ((h 0 (shut (es4 Es.spare))).1).2 (by decide)⟩,
     ⟨_, ((h 0 ({ st [] with subst := { step := 1 } })).2.1).1 (by decide)⟩,
     ⟨_, ((h 0 (shut ({ st [] with subst := { step := 1 } }))).2.1).2 (by decide)⟩,
     ⟨_, (h 0 ({ st [] with subst := { step := 1 } })).2.2.1 (by decide) (by decide)⟩, ⟨_, (h 0 (st [])).2.2.2.1 (by decide)⟩,
     ⟨_, (h 0 ({ st [(F.CUE_STATUS_STATE, 0, Es.halted)] with subst := { step := 2 } })).2.2.2.2.1 (by decide) (by decide)⟩,
     ⟨_, (h 0 (st [])).2.2.2.2.2.1 (by decide)⟩, ⟨_, (h 0 ({ st [] with subst := { testing := some 4 } })).2.2.2.2.2.2.1 4 rfl⟩,
     ⟨_, (h 0 ({ st [] with subst := { testing := some 4 } })).2.2.2.2.2.2.2.1 4 rfl⟩, ⟨_, (h 0 (st [])).2.2.2.2.2.2.2.2.1 true rfl⟩,
     ⟨_, (h 0 ({ st [] with subst := { step := 1, auto := true } })).2.2.2.2.2.2.2.2.2.1 (by decide) (by decide)⟩,
     ⟨_, (h 0 ({ st [] with subst := { step := 1, auto := true } })).2.2.2.2.2.2.2.2.2.2.1 (by decide) (by decide)⟩,
     ⟨_, (h 0 (st [])).2.2.2.2.2.2.2.2.2.2.2 true (by decide)⟩⟩

theorem witness_CxlPortCommands (h : Obligations.CxlPortCommands) :
    Runs (.cxlPortBringupDone 3 true 6 0 0 0) (cxl3 2 []) ∧ Runs (.cxlPortBringupDone 3 false 0 0 0 0) (cxl3 1 []) ∧
    Runs (.cxlPortBringupDone 3 true 6 0 0 0) (cxl3 1 []) ∧
    Runs (.cxlPortBringupDone 3 true 0 1 16 1024) (put [(F.CXLP_PORT_STATUS_STATE, 3, 1), (F.CXLP_PORT_STATUS_STATE, 0, 2), (F.CXLP_PORT_STATUS_CAP_UNITS, 0, 128), (F.TOP_DEV_MODE_CAL_DONE, 0, 1)] (up Mode.calibrate)) ∧
    Runs (.cxlPortBringupDone 3 true 0 1 16 1024) (cxl3 1 []) ∧ Runs (.cxlpRetrain 3 0) (cxl3 5 [(F.TOP_DEV_MODE_CAL_DONE, 0, 1)]) ∧
    Runs (.cxlpRetrain 3 0) (shut (cxl3 5 [(F.TOP_DEV_MODE_CAL_DONE, 0, 1)])) ∧ Runs (.cxlpRetrain 3 0) (cxl3 2 []) ∧
    Runs (.cxlEventRecord 3 0x10000000) (cxl3 2 [(F.CXLP_PORT_STATUS_CAP_UNITS, 3, 1)]) ∧
    Runs (.cxlEventRecord 3 0xFFFFFFF) (cxl3 2 [(F.CXLP_PORT_STATUS_CAP_UNITS, 3, 1), (F.SABLE_PLACE_CFG_CE_THR, 0, 2)]) ∧
    Runs (.cxlEventRecord 3 0) (cxl3 2 [(F.CXLP_PORT_STATUS_CAP_UNITS, 3, 1), (F.SABLE_PLACE_CFG_CE_THR, 0, 1)]) ∧
    Runs (.cxlMemTimeout 3 0) (st []) ∧ Runs (.cxlPortFail 3 false) (cxl3 3 []) ∧
    Runs (.cxlPortFail 3 true) ((cxl3 3 []).setCxl 3 { timeouts := List.replicate 16 0 }) ∧ Runs (.cxlPortFail 3 true) (cxl3 3 []) ∧
    Runs (.cxlMailboxTimeout 3) (st []) :=
    ⟨⟨_, (h 3 true true 6 0 0 0 0 0 (cxl3 2 [])).1 (by decide)⟩,
     ⟨_, (h 3 false true 0 0 0 0 0 0 (cxl3 1 [])).2.1 (by decide) (by decide)⟩,
     ⟨_, (h 3 true true 6 0 0 0 0 0 (cxl3 1 [])).2.2.1 (by decide) (by decide) (by decide)⟩,
     ⟨_, (h 3 true true 0 1 16 1024 0 0 (put [(F.CXLP_PORT_STATUS_STATE, 3, 1), (F.CXLP_PORT_STATUS_STATE, 0, 2), (F.CXLP_PORT_STATUS_CAP_UNITS, 0, 128), (F.TOP_DEV_MODE_CAL_DONE, 0, 1)] (up Mode.calibrate))).2.2.2.1 (by decide) (by decide) (by decide) (by decide)⟩,
     ⟨_, (h 3 true true 0 1 16 1024 0 0 (cxl3 1 [])).2.2.2.2.1 (by decide) (by decide) (by decide) (by decide)⟩,
     ⟨_, ((h 3 true true 0 0 0 0 0 0 (cxl3 5 [(F.TOP_DEV_MODE_CAL_DONE, 0, 1)])).2.2.2.2.2.1 (by decide)).1 (by decide)⟩,
     ⟨_, ((h 3 true true 0 0 0 0 0 0 (shut (cxl3 5 [(F.TOP_DEV_MODE_CAL_DONE, 0, 1)]))).2.2.2.2.2.1 (by decide)).2 (by decide)⟩,
     ⟨_, ((h 3 true true 0 0 0 0 0 0 (cxl3 2 [])).2.2.2.2.2.2.1 (by decide)).1 (by decide)⟩,
     ⟨_, (h 3 true true 0 0 0 0 0x10000000 0 (cxl3 2 [(F.CXLP_PORT_STATUS_CAP_UNITS, 3, 1)])).2.2.2.2.2.2.2.1 (by decide)⟩,
     ⟨_, (h 3 true true 0 0 0 0 0xFFFFFFF 0 (cxl3 2 [(F.CXLP_PORT_STATUS_CAP_UNITS, 3, 1), (F.SABLE_PLACE_CFG_CE_THR, 0, 2)])).2.2.2.2.2.2.2.2.1 (by decide) (by decide)⟩,
     ⟨_, (h 3 true true 0 0 0 0 0 0 (cxl3 2 [(F.CXLP_PORT_STATUS_CAP_UNITS, 3, 1), (F.SABLE_PLACE_CFG_CE_THR, 0, 1)])).2.2.2.2.2.2.2.2.2.1 (by decide) (by decide)⟩,
     ⟨_, (h 3 true true 0 0 0 0 0 0 (st [])).2.2.2.2.2.2.2.2.2.2.1⟩,
     ⟨_, (h 3 true false 0 0 0 0 0 0 (cxl3 3 [])).2.2.2.2.2.2.2.2.2.2.2.1 (by decide)⟩,
     ⟨_, (h 3 true true 0 0 0 0 0 0 ((cxl3 3 []).setCxl 3 { timeouts := List.replicate 16 0 })).2.2.2.2.2.2.2.2.2.2.2.1 (by decide)⟩,
     ⟨_, (h 3 true true 0 0 0 0 0 0 (cxl3 3 [])).2.2.2.2.2.2.2.2.2.2.2.2.1 (by decide)⟩,
     ⟨_, (h 3 true true 0 0 0 0 0 0 (st [])).2.2.2.2.2.2.2.2.2.2.2.2.2⟩⟩

theorem witness_BufferCommands_1 (h : Obligations.BufferCommands) :
    Runs (.placementLoop [1, 2, 3, 4] [] []) (st []) ∧ Runs (.migrationPageDone 0 0 0 true) (st []) ∧
    Runs (.migrationPageDone 16383 0 2 true) migr ∧
    Runs (.migrationPageDone 16383 0 3 true) (migr.setCxl 3 { total := 256, marked := [0] }) ∧
    Runs (.migrationPageDone 16383 0 3 true) migr ∧ Runs (.migrationPageDone 16383 0 2 false) (migr.setCxl 2 {}) ∧
    Runs (.migrationPageDone 16383 0 2 false) migr ∧ Runs (.descriptorRelease 16383) (st []) ∧
    Runs (.descriptorRelease 16383) ((st []).setDesc 16383 { state := 2 }) ∧
    Runs (.descriptorRelease 0) (((st []).setDesc 0 { state := 2 }).setRelq (List.replicate 256 [])) ∧ Runs (.sableRelPop 1) (st []) ∧
    Runs (.sableRelPop 1) (shut (st [])) ∧ Runs (.sableRelPop 0) (st []) ∧ Runs (.leaseSet 0) (st []) ∧
    Runs (.leaseSet 0) (shut (st [])) ∧ Runs (.leaseSet 7) ((st [(F.SABLE_LEASE_CTRL_HANDLE, 0, 16383)]).setDesc 16383 { state := 1 }) :=
    ⟨⟨_, (h.1 0 0 0 true [1, 2, 3, 4] [] [] 0 (st [])).1⟩, ⟨_, (h.1 0 0 0 true [] [] [] 0 (st [])).2.1 (fun _ e => nomatch e.1)⟩,
     ⟨_, (h.1 16383 0 2 true [] [] [] 0 migr).2.2.1 ({ port := 3, page := 0 } : Page) ⟨rfl, by decide, rfl, by decide, by decide⟩ (by decide) (by decide)⟩,
     ⟨_, (h.1 16383 0 3 true [] [] [] 0 (migr.setCxl 3 { total := 256, marked := [0] })).2.2.2.1 ({ port := 3, page := 0 } : Page) ⟨rfl, by decide, rfl, by decide, by decide⟩ (by decide) (by decide)⟩,
     ⟨_, (h.1 16383 0 3 true [] [] [] 0 migr).2.2.2.2.1 ({ port := 3, page := 0 } : Page) _ ⟨rfl, by decide, rfl, by decide, by decide⟩ (by decide) (by decide) rfl⟩,
     ⟨_, (h.1 16383 0 2 false [] [] [] 0 (migr.setCxl 2 {})).2.2.2.2.2.1 ({ port := 3, page := 0 } : Page) ⟨rfl, by decide, rfl, by decide, by decide⟩ (by decide) (pick0 _)⟩,
     ⟨_, (h.1 16383 0 2 false [] [] [] 0 migr).2.2.2.2.2.2.1 ({ port := 3, page := 0 } : Page) 0 ⟨rfl, by decide, rfl, by decide, by decide⟩ (by decide) (pick1 _)⟩,
     ⟨_, (h.1 16383 0 0 true [] [] [] 0 (st [])).2.2.2.2.2.2.2.1 (by decide)⟩,
     ⟨_, (h.1 16383 0 0 true [] [] [] 0 ((st []).setDesc 16383 { state := 2 })).2.2.2.2.2.2.2.2.1 (by decide) (by decide)⟩,
     ⟨_, (h.1 0 0 0 true [] [] [] 0 (((st []).setDesc 0 { state := 2 }).setRelq (List.replicate 256 []))).2.2.2.2.2.2.2.2.2.1 (by decide) (by decide)⟩,
     ⟨_, ((h.1 0 0 0 true [] [] [] 1 (st [])).2.2.2.2.2.2.2.2.2.2.1 (by decide)).1 (by decide)⟩,
     ⟨_, ((h.1 0 0 0 true [] [] [] 1 (shut (st []))).2.2.2.2.2.2.2.2.2.2.1 (by decide)).2 (by decide)⟩,
     ⟨_, ((h.1 0 0 0 true [] [] [] 0 (st [])).2.2.2.2.2.2.2.2.2.2.2.1 (by decide)).1 (by decide)⟩,
     ⟨_, ((h.1 0 0 0 true [] [] [] 0 (st [])).2.2.2.2.2.2.2.2.2.2.2.2.1 (by decide)).1 (by decide)⟩,
     ⟨_, ((h.1 0 0 0 true [] [] [] 0 (shut (st []))).2.2.2.2.2.2.2.2.2.2.2.2.1 (by decide)).2 (by decide)⟩,
     ⟨_, ((h.1 0 0 0 true [] [] [] 7 ((st [(F.SABLE_LEASE_CTRL_HANDLE, 0, 16383)]).setDesc 16383 { state := 1 })).2.2.2.2.2.2.2.2.2.2.2.2.2 16383 (by decide)).1 (by decide)⟩⟩

theorem witness_BufferCommands_2 (h : Obligations.BufferCommands) :
    Runs (.descriptorRelease 16383) ((st []).setDesc 16383 { state := 2 }) :=
    Exists.imp (fun _ e => e.1) (h.2 16383 ((st []).setDesc 16383 { state := 2 }) (by decide))

theorem witness_RecorderPlayerCommands_1 (h : Obligations.RecorderPlayerCommands) :
    Runs (.hostWindowAccess 15 0 none 0 (none, false)) State.reset ∧
    Runs (.hostWindowAccess 15 0xFFFFFFFFF none 8 (none, false)) (st []) ∧
    Runs (.hostWindowAccess 15 0 (some [1]) 0 (none, false)) (up Mode.init) ∧
    Runs (.hostWindowAccess 15 0 (some [1]) 0 (none, false)) (up Mode.standby) ∧
    Runs (.hostWindowAccess 15 0 (some [1]) 0 (none, false)) (put [(F.COBALT_STATUS_PAIR_STATE, 0, 3)] (up Mode.active)) ∧
    Runs (.hostWindowAccess 15 0 (some [1]) 0 (none, false)) (st []) ∧ Runs (.recorderFrameStart 0) (st []) ∧
    Runs (.recorderFrameStart 127) (rec127 { stopping := true } {}) ∧
    Runs (.recorderFrameStart 127) ((rec127 {} {}).setXa 6268 { src := 4608, routed := true }) ∧
    Runs (.recorderFrameStart 127) (rec127 {} {}) ∧
    Runs (.recorderFrameStart 127) ((rec127 {} { state := 1 }).setXa 6268 { src := 6656, routed := true }) ∧
    Runs (.recorderFrameStart 127) ((put [(F.SLATE_RASTER_CFG_STRUCT, 0, 3), (F.SLATE_RASTER_CFG_RATE, 0, 5)] (ras 0 ⟨1, 1, 0⟩ (rec127 {} { struct := 3, rate := 5, state := 1 }))).setXa 6268 { src := 6656, routed := true }) ∧
    Runs (.recorderFrameStart 127) (rec127 {} { state := 1 }) ∧ Runs (.recorderFrameStart 127) (rec127 {} { state := 1, struct := 4 }) ∧
    Runs (.playerFrameStart 0) (st []) ∧ Runs (.playerFrameStart 127) (play127 { stopping := true }) ∧
    Runs (.playerFrameStart 127) (play127 { beginAt := some (0, 5) }) ∧
    Runs (.playerFrameStart 127) (play127 { beginAt := some (1, 1) }) ∧
    Runs (.playerFrameStart 127) (play127 { next := some (⟨16383, 0, false, 0, 4, 0⟩, 0) }) ∧ Runs (.playerFrameStart 127) (play127 {}) ∧
    Runs (.playerFrameStart 127) (play127 { begun := 1 }) ∧ Runs (.playerLineFetch 0 none false) (st []) ∧
    Runs (.playerLineFetch 127 none false) (play127 { begun := 1, set := ⟨16383, 0, false, 0, 4, 0⟩ }) ∧
    Runs (.playerLineFetch 127 none false) ((play127 { begun := 1, line := 2, set := ⟨16383, 0, false, 0, 4, 0⟩ }).setDesc 16383 { state := 1 }) ∧
    Runs (.playerLineFetch 127 (some 3) false) ((play127 { begun := 1, line := 2, set := ⟨16383, 0, false, 0, 4, 0⟩ }).setDesc 16383 { state := 1 }) :=
    ⟨⟨_, (h.1 0 0 15 0 0 [] none false State.reset).1 (by decide) none⟩,
     ⟨_, (h.1 0 0 15 0xFFFFFFFFF 8 [] none false (st [])).2.1 (by decide)⟩,
     ⟨_, (h.1 0 0 15 0 0 [1] none false (up Mode.init)).2.2.1 (by decide) (by decide)⟩,
     ⟨_, (h.1 0 0 15 0 0 [1] none false (up Mode.standby)).2.2.2.1 (by decide) (by decide)⟩,
     ⟨_, (h.1 0 0 15 0 0 [1] none false (put [(F.COBALT_STATUS_PAIR_STATE, 0, 3)] (up Mode.active))).2.2.2.2.1 (by decide) (by decide) (by decide) (by decide)⟩,
     ⟨_, (h.1 0 0 15 0 0 [1] none false (st [])).2.2.2.2.2.1 (by decide) (by decide) (by decide) (by decide)⟩,
     ⟨_, (h.1 0 0 15 0 0 [] none false (st [])).2.2.2.2.2.2.1 (by decide)⟩,
     ⟨_, (h.1 127 0 15 0 0 [] none false (rec127 { stopping := true } {})).2.2.2.2.2.2.2.1 (by decide) (by decide)⟩,
     ⟨_, (h.1 127 0 15 0 0 [] none false ((rec127 {} {}).setXa 6268 { src := 4608, routed := true })).2.2.2.2.2.2.2.2.1 (by decide) (by decide) (by decide)⟩,
     ⟨_, (h.1 127 0 15 0 0 [] none false (rec127 {} {})).2.2.2.2.2.2.2.2.2.1 (by decide) (by decide)⟩,
     ⟨_, (h.1 127 0 15 0 0 [] none false ((rec127 {} { state := 1 }).setXa 6268 { src := 6656, routed := true })).2.2.2.2.2.2.2.2.2.2.1 16383 (by decide) (by decide) ⟨by decide, by decide⟩⟩,
     ⟨_, (h.1 127 0 15 0 0 [] none false ((put [(F.SLATE_RASTER_CFG_STRUCT, 0, 3), (F.SLATE_RASTER_CFG_RATE, 0, 5)] (ras 0 ⟨1, 1, 0⟩ (rec127 {} { struct := 3, rate := 5, state := 1 }))).setXa 6268 { src := 6656, routed := true })).2.2.2.2.2.2.2.2.2.2.2.1 16383 (by decide) (by decide) (by decide)⟩,
     ⟨_, (h.1 127 0 15 0 0 [] none false (rec127 {} { state := 1 })).2.2.2.2.2.2.2.2.2.2.2.2.1 16383 (by decide) (by decide) (fun e => absurd e.1 (by decide)) (fun e => absurd e.1 (by decide)) (by decide)⟩,
     ⟨_, (h.1 127 0 15 0 0 [] none false (rec127 {} { state := 1, struct := 4 })).2.2.2.2.2.2.2.2.2.2.2.2.2.1 16383 (by decide) (by decide) (fun e => absurd e.1 (by decide)) (fun e => absurd e.1 (by decide)) (by decide)⟩,
     ⟨_, (h.1 0 0 15 0 0 [] none false (st [])).2.2.2.2.2.2.2.2.2.2.2.2.2.2.1 (by decide)⟩,
     ⟨_, (h.1 0 127 15 0 0 [] none false (play127 { stopping := true })).2.2.2.2.2.2.2.2.2.2.2.2.2.2.2.1 (by decide) (by decide) (by decide)⟩,
     ⟨_, (h.1 0 127 15 0 0 [] none false (play127 { beginAt := some (0, 5) })).2.2.2.2.2.2.2.2.2.2.2.2.2.2.2.2.1 (0, 5) (by decide) (by decide) (by decide) (by decide) (by decide)⟩,
     ⟨_, (h.1 0 127 15 0 0 [] none false (play127 { beginAt := some (1, 1) })).2.2.2.2.2.2.2.2.2.2.2.2.2.2.2.2.2.1 (1, 1) (by decide) (by decide) (by decide) (by decide)⟩,
     ⟨_, (h.1 0 127 15 0 0 [] none false (play127 { next := some (⟨16383, 0, false, 0, 4, 0⟩, 0) })).2.2.2.2.2.2.2.2.2.2.2.2.2.2.2.2.2.2.1 ⟨16383, 0, false, 0, 4, 0⟩ 0 (by decide) (by decide) (by decide) (by decide) ⟨by decide, by decide⟩⟩,
     ⟨_, (h.1 0 127 15 0 0 [] none false (play127 {})).2.2.2.2.2.2.2.2.2.2.2.2.2.2.2.2.2.2.2.1 (by decide) (by decide) (by decide) (fun _ _ e => nomatch e) ⟨by decide, by decide⟩⟩,
     ⟨_, (h.1 0 127 15 0 0 [] none false (play127 { begun := 1 })).2.2.2.2.2.2.2.2.2.2.2.2.2.2.2.2.2.2.2.2.1 (by decide) (by decide) (fun _ _ e => nomatch e) (by decide)⟩,
     ⟨_, (h.1 0 0 15 0 0 [] none false (st [])).2.2.2.2.2.2.2.2.2.2.2.2.2.2.2.2.2.2.2.2.2.1 (by decide)⟩,
     ⟨_, (h.1 0 127 15 0 0 [] none false (play127 { begun := 1, set := ⟨16383, 0, false, 0, 4, 0⟩ })).2.2.2.2.2.2.2.2.2.2.2.2.2.2.2.2.2.2.2.2.2.2.1 (by decide) (by decide)⟩,
     ⟨_, (h.1 0 127 15 0 0 [] none false ((play127 { begun := 1, line := 2, set := ⟨16383, 0, false, 0, 4, 0⟩ }).setDesc 16383 { state := 1 })).2.2.2.2.2.2.2.2.2.2.2.2.2.2.2.2.2.2.2.2.2.2.2.1 16383 (by decide) (by decide)⟩,
     ⟨_, (h.1 0 127 15 0 0 [] none false ((play127 { begun := 1, line := 2, set := ⟨16383, 0, false, 0, 4, 0⟩ }).setDesc 16383 { state := 1 })).2.2.2.2.2.2.2.2.2.2.2.2.2.2.2.2.2.2.2.2.2.2.2.2 16383 3 (by decide) (by decide)⟩⟩

theorem witness_RecorderPlayerCommands_2 (h : Obligations.RecorderPlayerCommands) :
    Runs (.recorderLineComplete 127 [] () ()) (st []) ∧ Runs (.recorderLineComplete 127 [] () ()) (rec127 { open' := [5] } {}) ∧
    Runs (.recorderLineComplete 127 [] () ()) (rec127 { open' := [6] } (oneFrame [] 1)) ∧
    Runs (.recorderLineComplete 127 [] () ()) (rec127 { open' := [5] } (oneFrame [] 26)) ∧
    Runs (.recorderLineComplete 127 [] () ()) (rec127 { open' := [5] } (oneFrame (List.replicate 16 { port := 3, page := 0 }) 750)) ∧
    Runs (.recorderLineComplete 127 [] () ()) (rec127 { open' := [5] } (oneFrame (List.replicate 16 { port := 3, page := 0 }) 749)) :=
    ⟨⟨_, (h.2 127 [] (st [])).1 (by decide)⟩, ⟨_, (h.2 127 [] (rec127 { open' := [5] } {})).2.1 (by decide) (by decide)⟩,
     ⟨_, (h.2 127 [] (rec127 { open' := [6] } (oneFrame [] 1))).2.2.1 6 16383 (by decide) (by decide) (by decide)⟩,
     ⟨_, ((h.2 127 [] (rec127 { open' := [5] } (oneFrame [] 26))).2.2.2 5 16383 { seq := 5, next := 26 } (by decide) (by decide) (by decide)).1 ⟨0, by decide, by decide⟩⟩,
     ⟨_, ((h.2 127 [] (rec127 { open' := [5] } (oneFrame (List.replicate 16 { port := 3, page := 0 }) 750))).2.2.2 5 16383 { seq := 5, next := 750 } (by decide) (by decide) (by decide)).2.1 (by decide) (by decide)⟩,
     ⟨_, ((h.2 127 [] (rec127 { open' := [5] } (oneFrame (List.replicate 16 { port := 3, page := 0 }) 749))).2.2.2 5 16383 { seq := 5, next := 749 } (by decide) (by decide) (by decide)).2.2 (by decide) (by decide)⟩⟩

theorem witness_HeadCommands_1 (h : Obligations.HeadCommands) :
    Runs (.headStagedWrite 95 8 11 0) (head95 { accepted := true } []) ∧
    Runs (.headStagedWrite 95 8 11 0) (shut (head95 { accepted := true } [])) ∧ Runs (.headStagedWrite 95 8 11 0xFFFFFFFF) (st []) ∧
    Runs (.headStagedWrite 95 8 12 1) (st []) ∧ Runs (.headCommitGo 0) ((sw 1 (st [])).stageWord 7 0 0 0 0) ∧
    Runs (.headCommitGo 0) (shut ((sw 1 (st [])).stageWord 7 0 0 0 0)) ∧ Runs (.headCommitDiscard 0xFFFFFFFE) (st []) ∧
    Runs (.headCommitDiscard 0xFFFFFFFE) (shut (st [])) ∧ Runs (.headLatch 95) ((st []).setHead 95 { accepted := true }) ∧
    Runs (.headLatch 95) (head95 { accepted := true, latch := (1, 7) } []) ∧ Runs (.headLatch 95) (st []) ∧
    Runs (.ochreLogPop 1) (st []) ∧ Runs (.ochreLogPop 1) (shut (st [])) ∧ Runs (.ochreLogPop 0) (st []) :=
    ⟨⟨_, ((h.1 95 8 11 0 (head95 { accepted := true } [])).1 (by decide)).1 (by decide)⟩,
     ⟨_, ((h.1 95 8 11 0 (shut (head95 { accepted := true } []))).1 (by decide)).2 (by decide)⟩,
     ⟨_, ((h.1 95 8 11 0xFFFFFFFF (st [])).2.1 (by decide) (by decide)).1 (by decide)⟩,
     ⟨_, ((h.1 95 8 12 1 (st [])).2.2.1 (by decide) (by decide)).1 (by decide)⟩,
     ⟨_, ((h.1 95 8 11 0 ((sw 1 (st [])).stageWord 7 0 0 0 0)).2.2.2.1).1 (by decide)⟩,
     ⟨_, ((h.1 95 8 11 0 (shut ((sw 1 (st [])).stageWord 7 0 0 0 0))).2.2.2.1).2 (by decide)⟩,
     ⟨_, ((h.1 95 8 11 0xFFFFFFFE (st [])).2.2.2.2.1).1 (by decide)⟩,
     ⟨_, ((h.1 95 8 11 0xFFFFFFFE (shut (st []))).2.2.2.2.1).2 (by decide)⟩,
     ⟨_, (h.1 95 8 11 0 ((st []).setHead 95 { accepted := true })).2.2.2.2.2.1 (Or.inl (by decide))⟩,
     ⟨_, (h.1 95 8 11 0 (head95 { accepted := true, latch := (1, 7) } [])).2.2.2.2.2.2.1 (by decide) (by decide) (by decide)⟩,
     ⟨_, (h.1 95 8 11 0 (st [])).2.2.2.2.2.2.2.1 (by decide) (by decide)⟩,
     ⟨_, ((h.1 95 8 11 1 (st [])).2.2.2.2.2.2.2.2.1 (by decide)).1 (by decide)⟩,
     ⟨_, ((h.1 95 8 11 1 (shut (st []))).2.2.2.2.2.2.2.2.1 (by decide)).2 (by decide)⟩,
     ⟨_, ((h.1 95 8 11 0 (st [])).2.2.2.2.2.2.2.2.2 (by decide)).1 (by decide)⟩⟩

theorem witness_HeadCommands_2 (h : Obligations.HeadCommands) :
    Runs (.headFrameStart 95) (head95 {} [(F.OCHRE_HEAD_STATUS_RUNNING, 95, 1)]) ∧ Runs (.headFrameStart 95) (st []) ∧
    Runs (.layerLineFetch 95 7 none false) (st []) ∧
    Runs (.layerLineFetch 95 7 none false) ({ put [(F.SLATE_RASTER_CFG_STRUCT, 0, 3)] ((st []).setLayer 95 7 { last := some (16383, 0), on := true }) with headAct := [(hkey 95 8 4, 65536), (hkey 95 8 6, 65536)] }) ∧
    Runs (.layerLineFetch 95 7 none false) ({ put [(F.SLATE_RASTER_CFG_STRUCT, 0, 3)] (((st []).setLayer 95 7 { last := some (16383, 0), on := true }).setDesc 16383 { state := 1, struct := 3, stored := [{ seq := 0 }] }) with headAct := [(hkey 95 8 0, 16), (hkey 95 8 4, 65536), (hkey 95 8 6, 65536)] }) ∧
    Runs (.layerLineFetch 95 7 none false) ({ put [(F.SLATE_RASTER_CFG_STRUCT, 0, 3)] (((st []).setLayer 95 7 { last := some (16383, 0), on := true }).setDesc 16383 { state := 1, struct := 3 }) with headAct := [(hkey 95 8 4, 65536), (hkey 95 8 6, 65536)] }) ∧
    Runs (.layerLineFetch 95 7 (some 3) false) ({ put [(F.SLATE_RASTER_CFG_STRUCT, 0, 3)] (((st []).setLayer 95 7 { last := some (16383, 0), on := true }).setDesc 16383 { state := 1, struct := 3 }) with headAct := [(hkey 95 8 4, 65536), (hkey 95 8 6, 65536)] }) ∧
    Runs (.headLineCompose 95) ((put [(F.SLATE_RASTER_CFG_STRUCT, 0, 3)] (ras 0 ⟨1, 100, 0⟩ (st []))).setHead 95 { live := true, begun := 1 }) ∧
    Runs (.headLineCompose 95) (st []) :=
    ⟨⟨_, (h.2 95 7 0 none false (head95 {} [(F.OCHRE_HEAD_STATUS_RUNNING, 95, 1)])).1 (by decide)⟩,
     ⟨_, (h.2 95 7 0 none false (st [])).2.1 (by decide)⟩, ⟨_, (h.2 95 7 0 none false (st [])).2.2.1 (fun _ _ e => nomatch e.1)⟩,
     ⟨_, (h.2 95 7 0 none false ({ put [(F.SLATE_RASTER_CFG_STRUCT, 0, 3)] ((st []).setLayer 95 7 { last := some (16383, 0), on := true }) with headAct := [(hkey 95 8 4, 65536), (hkey 95 8 6, 65536)] })).2.2.2.1 16383 0 ⟨by decide, by decide, by decide, by decide⟩ (by decide)⟩,
     ⟨_, (h.2 95 7 0 none false ({ put [(F.SLATE_RASTER_CFG_STRUCT, 0, 3)] (((st []).setLayer 95 7 { last := some (16383, 0), on := true }).setDesc 16383 { state := 1, struct := 3, stored := [{ seq := 0 }] }) with headAct := [(hkey 95 8 0, 16), (hkey 95 8 4, 65536), (hkey 95 8 6, 65536)] })).2.2.2.2.1 16383 0 16383 ⟨by decide, by decide, by decide, by decide⟩ (by decide) (by decide)⟩,
     ⟨_, (h.2 95 7 0 none false ({ put [(F.SLATE_RASTER_CFG_STRUCT, 0, 3)] (((st []).setLayer 95 7 { last := some (16383, 0), on := true }).setDesc 16383 { state := 1, struct := 3 }) with headAct := [(hkey 95 8 4, 65536), (hkey 95 8 6, 65536)] })).2.2.2.2.2.1 16383 0 16383 ⟨by decide, by decide, by decide, by decide⟩ (by decide) (by decide)⟩,
     ⟨_, (h.2 95 7 3 none false ({ put [(F.SLATE_RASTER_CFG_STRUCT, 0, 3)] (((st []).setLayer 95 7 { last := some (16383, 0), on := true }).setDesc 16383 { state := 1, struct := 3 }) with headAct := [(hkey 95 8 4, 65536), (hkey 95 8 6, 65536)] })).2.2.2.2.2.2.1 16383 0 16383 ⟨by decide, by decide, by decide, by decide⟩ (by decide) (by decide)⟩,
     ⟨_, (h.2 95 7 0 none false ((put [(F.SLATE_RASTER_CFG_STRUCT, 0, 3)] (ras 0 ⟨1, 100, 0⟩ (st []))).setHead 95 { live := true, begun := 1 })).2.2.2.2.2.2.2.1 (by decide)⟩,
     ⟨_, (h.2 95 7 0 none false (st [])).2.2.2.2.2.2.2.2 (by decide)⟩⟩

theorem witness_LibraryCommands (h : Obligations.LibraryCommands) :
    Runs (.lutOpen 63) (st []) ∧ Runs (.lutOpen 63) (shut (st [])) ∧
    Runs (.lutClose 63) ({ st [(F.OCHRE_LUT_ADDR_ADDR, 0, 3075)] with lutOpen := some 63 }) ∧
    Runs (.lutClose 63) (shut ({ st [(F.OCHRE_LUT_ADDR_ADDR, 0, 3075)] with lutOpen := some 63 })) ∧
    Runs (.lutDataWrite 1) ({ st [(F.OCHRE_LUT_ADDR_ADDR, 0, 3074)] with lutOpen := some 1 }) ∧
    Runs (.lutDataWrite 1) (shut ({ st [(F.OCHRE_LUT_ADDR_ADDR, 0, 3074)] with lutOpen := some 1 })) ∧
    Runs (.lutDataWrite 1) ({ st [(F.OCHRE_LUT_ADDR_ADDR, 0, 3075)] with lutOpen := some 1 }) ∧ Runs (.lutDataWrite 1) (st []) :=
    ⟨⟨_, ((h 63 (st [])).1).1 (by decide)⟩, ⟨_, ((h 63 (shut (st []))).1).2 (by decide)⟩,
     ⟨_, ((h 63 ({ st [(F.OCHRE_LUT_ADDR_ADDR, 0, 3075)] with lutOpen := some 63 })).2.1).1 (by decide)⟩,
     ⟨_, ((h 63 (shut ({ st [(F.OCHRE_LUT_ADDR_ADDR, 0, 3075)] with lutOpen := some 63 }))).2.1).2 (by decide)⟩,
     ⟨_, ((h 1 ({ st [(F.OCHRE_LUT_ADDR_ADDR, 0, 3074)] with lutOpen := some 1 })).2.2.1 1 rfl (by decide)).1 (by decide)⟩,
     ⟨_, ((h 1 (shut ({ st [(F.OCHRE_LUT_ADDR_ADDR, 0, 3074)] with lutOpen := some 1 }))).2.2.1 1 rfl (by decide)).2 (by decide)⟩,
     ⟨_, ((h 1 ({ st [(F.OCHRE_LUT_ADDR_ADDR, 0, 3075)] with lutOpen := some 1 })).2.2.2.1 1 rfl (by decide)).1 (by decide)⟩,
     ⟨_, ((h 1 (st [])).2.2.2.2 (by decide)).1 (by decide)⟩⟩

theorem witness_AudioCommands_1 (h : Obligations.AudioCommands) :
    Runs (.shadowAudioWrite 65535 0 0xFFFFFFFF) (st []) ∧ Runs (.shadowAudioWrite 65535 0 0xFFFFFFFF) (shut (st [])) ∧
    Runs (.shadowAudioWrite 65535 1 1) (st []) ∧ Runs (.shadowAudioWrite 0 1 1) ((st []).setAsh 0 { pending := true }) ∧
    Runs (.shadowAudioWrite 0 3 1) (st []) ∧ Runs (.audioCommitGo 0xFFFFFFFF) (st []) ∧ Runs (.audioCommitGo 0xFFFFFFFF) (shut (st [])) ∧
    Runs (.audioCommitDiscard 0xFFFFFFFE) (st []) ∧ Runs (.audioCommitDiscard 0xFFFFFFFE) (shut (st [])) ∧
    Runs .audioCommitEffect ({ ras 0 ⟨3, 1, 0⟩ (st []) with aud := { commits := [acommit1 false] }, house := 10 ^ 18 }) ∧
    Runs .audioCommitEffect ({ st [] with aud := { commits := [acommit1 true] } }) ∧ Runs .audioCommitEffect (st []) ∧
    Runs (.audioBoundary true ([], [])) ({ st [] with aud := { bnd := 1, bnd44 := 1 } }) ∧ Runs (.audioBoundary true ([], [])) (st []) ∧
    Runs (.audioBoundary false ([], [])) (st []) ∧ Runs (.zeroxTimeout 65535) (changing 1) ∧ Runs (.zeroxTimeout 65535) (st []) ∧
    Runs (.fadeComplete 65535) (changing 2) ∧ Runs (.fadeComplete 65535) (st []) :=
    ⟨⟨_, ((h.1 65535 0 true [] [] 0xFFFFFFFF (st [])).1 (by decide) (by decide)).1 (by decide)⟩,
     ⟨_, ((h.1 65535 0 true [] [] 0xFFFFFFFF (shut (st []))).1 (by decide) (by decide)).2 (by decide)⟩,
     ⟨_, ((h.1 65535 1 true [] [] 1 (st [])).2.1 (by decide) (by decide)).1 (by decide)⟩,
     ⟨_, ((h.1 0 1 true [] [] 1 ((st []).setAsh 0 { pending := true })).2.2.1 (by decide) (Or.inl rfl)).1 (by decide)⟩,
     ⟨_, ((h.1 0 3 true [] [] 1 (st [])).2.2.2.1 (by decide)).1 (by decide)⟩,
     ⟨_, ((h.1 0 0 true [] [] 0xFFFFFFFF (st [])).2.2.2.2.1).1 (by decide)⟩,
     ⟨_, ((h.1 0 0 true [] [] 0xFFFFFFFF (shut (st []))).2.2.2.2.1).2 (by decide)⟩,
     ⟨_, ((h.1 0 0 true [] [] 0xFFFFFFFE (st [])).2.2.2.2.2.1).1 (by decide)⟩,
     ⟨_, ((h.1 0 0 true [] [] 0xFFFFFFFE (shut (st []))).2.2.2.2.2.1).2 (by decide)⟩,
     ⟨_, (h.1 0 0 true [] [] 0 ({ ras 0 ⟨3, 1, 0⟩ (st []) with aud := { commits := [acommit1 false] }, house := 10 ^ 18 })).2.2.2.2.2.2.1 (acommit1 false) (by decide) (by decide) (by decide)⟩,
     ⟨_, (h.1 0 0 true [] [] 0 ({ st [] with aud := { commits := [acommit1 true] } })).2.2.2.2.2.2.2.1 (acommit1 true) (by decide) (by decide)⟩,
     ⟨_, (h.1 0 0 true [] [] 0 (st [])).2.2.2.2.2.2.2.2.1 (by decide)⟩,
     ⟨_, (h.1 0 0 true [] [] 0 ({ st [] with aud := { bnd := 1, bnd44 := 1 } })).2.2.2.2.2.2.2.2.2.1 (by decide)⟩,
     ⟨_, (h.1 0 0 true [] [] 0 (st [])).2.2.2.2.2.2.2.2.2.2.1 (by decide) (by decide)⟩,
     ⟨_, (h.1 0 0 false [] [] 0 (st [])).2.2.2.2.2.2.2.2.2.2.2.1 (by decide) (by decide)⟩,
     ⟨_, (h.1 65535 0 true [] [] 0 (changing 1)).2.2.2.2.2.2.2.2.2.2.2.2.1 ⟨_, [], rfl, rfl, by decide⟩⟩,
     ⟨_, (h.1 65535 0 true [] [] 0 (st [])).2.2.2.2.2.2.2.2.2.2.2.2.2.1 (fun ⟨_, _, e, _⟩ => nomatch e)⟩,
     ⟨_, (h.1 65535 0 true [] [] 0 (changing 2)).2.2.2.2.2.2.2.2.2.2.2.2.2.2.1 ⟨_, [], rfl, rfl, by decide⟩⟩,
     ⟨_, (h.1 65535 0 true [] [] 0 (st [])).2.2.2.2.2.2.2.2.2.2.2.2.2.2.2 (fun ⟨_, _, e, _⟩ => nomatch e)⟩⟩

theorem witness_AudioCommands_2 (h : Obligations.AudioCommands) :
    ({ ras 0 ⟨1, 1, 0⟩ (put [(F.AUDIO_COMMIT_TGT_FRAME_LO, 0, 9), (F.AUDIO_COMMIT_TGT_LINE, 0, 1)] (audOn (st []))) with aud := { sh := [(0, { staged := true, stager := 7 })] } }).hostAudioCommit.rd F.AUDIO_COMMIT_STATUS_STATE 0 = 1 ∧
    (st []).hostAudioCommit.rd F.AUDIO_COMMIT_STATUS_STATE 0 = 3 :=
    ⟨((h.2 ({ ras 0 ⟨1, 1, 0⟩ (put [(F.AUDIO_COMMIT_TGT_FRAME_LO, 0, 9), (F.AUDIO_COMMIT_TGT_LINE, 0, 1)] (audOn (st []))) with aud := { sh := [(0, { staged := true, stager := 7 })] } })).1 (by decide)).1,
     ((h.2 (st [])).2 (by decide)).1⟩

theorem witness_AudioRegisters (h : Obligations.AudioRegisters) :
    Runs (.delayBlockWrite 1023 false 1) (st []) ∧ Runs (.delayBlockWrite 1023 false 1) (shut (st [])) ∧
    Runs (.delayBlockWrite 1023 false 1) (st [(F.AUDIO_DBLK_EN, 1023, 1)]) ∧
    Runs (.delayBlockWrite 1023 true 0x10001) ((granted Gc.audioDelay 1023 (st [(F.AUDIO_DBLK_HANDLE, 1023, 16383)])).setDesc 16383 { state := 1, kind := 2 }) ∧
    Runs (.delayBlockWrite 1023 true 1) (st []) ∧ Runs (.delayBlockWrite 1023 true 0) (st []) ∧
    Runs (.delayBlockWrite 1023 true 0) ({ st [(F.AUDIO_DBLK_EN, 1023, 1)] with aud := { act := [(0, { dlyEn := true, block := 1023 })] } }) ∧
    Runs (.delaySet 5 0) (st []) ∧ Runs (.delaySet 5 0) (shut (st [])) ∧ Runs (.delaySet 4 0) (st []) ∧
    Runs (.audioPortCfgWrite 1 0) (st [(F.ALIGN_PORT_CFG_CLASS, 0, 7)]) ∧
    Runs (.audioPortCfgWrite 1 0) (shut (st [(F.ALIGN_PORT_CFG_CLASS, 0, 7)])) ∧ Runs (.audioPortCfgWrite 1151 1) (st []) ∧
    Runs (.audioPortCfgWrite 1151 0x10000) ((st []).setAa 36832 { ent := { routed := true } }) ∧
    Runs (.deembSourceChoice 1151 () () () ()) (st []) ∧
    Runs (.deembSourceChoice 1151 () () () ()) ({ st [] with aud := { deemb := [(1151, { start := true })] } }) ∧
    Runs (.deembSourceChoice 1151 () () () ()) ({ st [(F.ALIGN_PORT_CFG_CLASS, 1151, 3)] with aud := { deemb := [(1151, { start := true })] } }) :=
    ⟨⟨_, ((h 1023 0 0 1 (st [])).1 (by decide)).1 (by decide)⟩, ⟨_, ((h 1023 0 0 1 (shut (st []))).1 (by decide)).2 (by decide)⟩,
     ⟨_, ((h 1023 0 0 1 (st [(F.AUDIO_DBLK_EN, 1023, 1)])).2.1 (by decide)).1 (by decide)⟩,
     ⟨_, ((h 1023 0 0 0x10001 ((granted Gc.audioDelay 1023 (st [(F.AUDIO_DBLK_HANDLE, 1023, 16383)])).setDesc 16383 { state := 1, kind := 2 })).2.2.1 (by decide) (by decide)).1 (by decide)⟩,
     ⟨_, ((h 1023 0 0 1 (st [])).2.2.2.1 (by decide) (by decide)).1 (by decide)⟩,
     ⟨_, ((h 1023 0 0 0 (st [])).2.2.2.2.1 (by decide) (by decide)).1 (by decide)⟩,
     ⟨_, ((h 1023 0 0 0 ({ st [(F.AUDIO_DBLK_EN, 1023, 1)] with aud := { act := [(0, { dlyEn := true, block := 1023 })] } })).2.2.2.2.2.1 (by decide) (by decide)).1 (by decide)⟩,
     ⟨_, ((h 0 5 0 0 (st [])).2.2.2.2.2.2.1 (by decide)).1 (by decide)⟩,
     ⟨_, ((h 0 5 0 0 (shut (st []))).2.2.2.2.2.2.1 (by decide)).2 (by decide)⟩,
     ⟨_, ((h 0 4 0 0 (st [])).2.2.2.2.2.2.2.1 (by decide)).1 (by decide)⟩,
     ⟨_, ((h 0 0 1 0 (st [(F.ALIGN_PORT_CFG_CLASS, 0, 7)])).2.2.2.2.2.2.2.2.1 (by decide)).1 (by decide)⟩,
     ⟨_, ((h 0 0 1 0 (shut (st [(F.ALIGN_PORT_CFG_CLASS, 0, 7)]))).2.2.2.2.2.2.2.2.1 (by decide)).2 (by decide)⟩,
     ⟨_, ((h 0 0 1151 1 (st [])).2.2.2.2.2.2.2.2.2.1 (by decide) (fun e => e.elim (fun ⟨_, _, q, _⟩ => Bool.false_ne_true q) (fun q => absurd q.1 (by decide)))).1 (by decide)⟩,
     ⟨_, ((h 0 0 1151 0x10000 ((st []).setAa 36832 { ent := { routed := true } })).2.2.2.2.2.2.2.2.2.2.1 (by decide) (Or.inl ⟨0, by decide, by decide, by decide⟩)).1 (by decide)⟩,
     ⟨_, (h 0 0 1151 0 (st [])).2.2.2.2.2.2.2.2.2.2.2.1 (by decide)⟩,
     ⟨_, (h 0 0 1151 0 ({ st [] with aud := { deemb := [(1151, { start := true })] } })).2.2.2.2.2.2.2.2.2.2.2.2.1 (by decide) (by decide)⟩,
     ⟨_, (h 0 0 1151 0 ({ st [(F.ALIGN_PORT_CFG_CLASS, 1151, 3)] with aud := { deemb := [(1151, { start := true })] } })).2.2.2.2.2.2.2.2.2.2.2.2.2 (by decide) (by decide)⟩⟩

theorem witness_TdmAndKeyCommands_1 (h : Obligations.TdmAndKeyCommands) :
    Runs (.tdmCfgWrite 15 1) (st []) ∧ Runs (.tdmCfgWrite 15 1) (shut (st [])) ∧ Runs (.tdmCfgWrite 15 0x1F5) (st []) ∧
    Runs (.tdmCfgWrite 15 16497) (st [(F.TDM_CFG_EN, 15, 1)]) ∧ Runs (.tdmCfgWrite 15 3) (st [(F.TDM_CFG_EN, 15, 1)]) ∧
    Runs (.tdmFrame 15 0 []) (st []) ∧ Runs (.tdmFrame 15 0 []) (st [(F.TDM_CFG_EN, 15, 1), (F.TDM_STATUS_STATE, 15, 2)]) ∧
    Runs (.tdmFrame 15 0 []) (st [(F.TDM_CFG_EN, 15, 1)]) ∧
    Runs (.tdmFrame 15 (((tdm15 [(F.TDM_CFG_EN, 15, 1)] { good := 15, lastEdge := some 0 }).rd F.TDM_CFG_SLOTS 15 + 1) * (tdm15 [(F.TDM_CFG_EN, 15, 1)] { good := 15, lastEdge := some 0 }).rd F.TDM_CFG_WIDTH 15) []) (tdm15 [(F.TDM_CFG_EN, 15, 1)] { good := 15, lastEdge := some 0 }) ∧
    Runs (.tdmStop 15) ({ tdm15 [(F.TDM_CFG_EN, 15, 1), (F.TDM_STATUS_STATE, 15, 2)] { lastEdge := some 0 } with clk := 52084 }) ∧
    Runs (.tdmStop 15) (st []) ∧
    Runs (.tdmMasterStart 15) ({ st [(F.TDM_CFG_EN, 15, 1), (F.TDM_CFG_MASTER, 15, 1), (F.TDM_STATUS_STATE, 15, 1)] with house := 10 ^ 18 }) ∧
    Runs (.tdmMasterStart 15) (st []) :=
    ⟨⟨_, ((h.1 15 0 [] 1 (st [])).1 (by decide) (by decide)).1 (by decide)⟩,
     ⟨_, ((h.1 15 0 [] 1 (shut (st []))).1 (by decide) (by decide)).2 (by decide)⟩,
     ⟨_, ((h.1 15 0 [] 0x1F5 (st [])).2.1 (by decide) (by decide)).1 (by decide)⟩,
     ⟨_, ((h.1 15 0 [] 16497 (st [(F.TDM_CFG_EN, 15, 1)])).2.2.1 (by decide) (by decide)).1 (by decide)⟩,
     ⟨_, ((h.1 15 0 [] 3 (st [(F.TDM_CFG_EN, 15, 1)])).2.2.2.1 (by decide) (by decide)).1 (by decide)⟩,
     ⟨_, (h.1 15 0 [] 1 (st [])).2.2.2.2.1 (by decide)⟩,
     ⟨_, (h.1 15 0 [] 1 (st [(F.TDM_CFG_EN, 15, 1), (F.TDM_STATUS_STATE, 15, 2)])).2.2.2.2.2.1 (by decide) (by decide)⟩,
     ⟨_, (h.1 15 0 [] 1 (st [(F.TDM_CFG_EN, 15, 1)])).2.2.2.2.2.2.1 (by decide) (by decide) (by decide)⟩,
     ⟨_, (h.1 15 (((tdm15 [(F.TDM_CFG_EN, 15, 1)] { good := 15, lastEdge := some 0 }).rd F.TDM_CFG_SLOTS 15 + 1) * (tdm15 [(F.TDM_CFG_EN, 15, 1)] { good := 15, lastEdge := some 0 }).rd F.TDM_CFG_WIDTH 15) [] 1 (tdm15 [(F.TDM_CFG_EN, 15, 1)] { good := 15, lastEdge := some 0 })).2.2.2.2.2.2.2.1 (by decide) (by decide) (by decide)⟩,
     ⟨_, (h.1 15 0 [] 1 ({ tdm15 [(F.TDM_CFG_EN, 15, 1), (F.TDM_STATUS_STATE, 15, 2)] { lastEdge := some 0 } with clk := 52084 })).2.2.2.2.2.2.2.2.1 ⟨0, by decide, by decide, by decide, by decide⟩⟩,
     ⟨_, (h.1 15 0 [] 1 (st [])).2.2.2.2.2.2.2.2.2.1 (fun ⟨_, e, _⟩ => nomatch e)⟩,
     ⟨_, (h.1 15 0 [] 1 ({ st [(F.TDM_CFG_EN, 15, 1), (F.TDM_CFG_MASTER, 15, 1), (F.TDM_STATUS_STATE, 15, 1)] with house := 10 ^ 18 })).2.2.2.2.2.2.2.2.2.2.1 (by decide)⟩,
     ⟨_, (h.1 15 0 [] 1 (st [])).2.2.2.2.2.2.2.2.2.2.2 (by decide)⟩⟩

theorem witness_TdmAndKeyCommands_2 (h : Obligations.TdmAndKeyCommands) :
    Runs (.keyUpdateGo 0) (st []) ∧ Runs (.keyUpdateGo 0) (shut (st [])) ∧ Runs (.keysMsgClear 0xFFFFFFFF) (st []) ∧
    Runs (.keysMsgClear 0xFFFFFFFF) (shut (st [])) ∧ Runs .keyUpdateComplete (st [(F.KEYS_UPD_CTRL_STATE, 0, 1)]) ∧
    Runs .keyUpdateComplete (st []) ∧ Runs .keyMaskRefresh ({ st [(F.KEYS_STATUS_TRNG_OK, 0, 1)] with clk := msClk }) ∧
    Runs .keyMaskRefresh (st []) ∧ Runs .trngFail (st [(F.KEYS_STATUS_TRNG_OK, 0, 1)]) ∧
    Runs .trngFail (st [(F.KEYS_STATUS_TRNG_OK, 0, 0)]) :=
    ⟨⟨_, ((h.2 0 (st [])).1).1 (by decide)⟩, ⟨_, ((h.2 0 (shut (st []))).1).2 (by decide)⟩,
     ⟨_, ((h.2 0xFFFFFFFF (st [])).2.1).1 (by decide)⟩, ⟨_, ((h.2 0xFFFFFFFF (shut (st []))).2.1).2 (by decide)⟩,
     ⟨_, (h.2 0 (st [(F.KEYS_UPD_CTRL_STATE, 0, 1)])).2.2.2.1 (by decide) (by decide)⟩, ⟨_, (h.2 0 (st [])).2.2.2.2.1 (by decide)⟩,
     ⟨_, (h.2 0 ({ st [(F.KEYS_STATUS_TRNG_OK, 0, 1)] with clk := msClk })).2.2.2.2.2.1 (by decide)⟩,
     ⟨_, (h.2 0 (st [])).2.2.2.2.2.2.1 (by decide)⟩, ⟨_, (h.2 0 (st [(F.KEYS_STATUS_TRNG_OK, 0, 1)])).2.2.2.2.2.2.2.1 (by decide)⟩,
     ⟨_, (h.2 0 (st [(F.KEYS_STATUS_TRNG_OK, 0, 0)])).2.2.2.2.2.2.2.2 (by decide)⟩⟩

/-- A key message that is applied: that its signature and its binding hold are the conditions left to the opaque functions. -/
theorem witness_TdmAndKeyCommands_key (h : Obligations.TdmAndKeyCommands)
    (p : Config.p384Verify (sub msg1 0x10 97) (msg1.take 0x2B0) (sub msg1 0x2B0 96) = true)
    (q : Config.hmacSha384 (bindingKey []) (msg1.take 0x280) = sub msg1 0x280 48) : Runs .keyUpdateComplete keyed :=
  have v : (keyed.keyVerdict msg1).1 = 0 := by
    have f : formatBad msg1 = false := by decide
    have t : keyed.testRootOn = false := by decide
    have e : keyed.on F.KEYS_STATUS_ENROLLED 0 = true := by decide
    have o : keyed.keys.ownerHash = Config.sha384 (sub msg1 0x10 97) := rfl
    have r : keyed.on F.TOP_INIT_STATUS_ROOT_FAIL 0 = false := by decide
    have k : keyed.keys.root = [] := rfl
    have c : ¬ msgCounter msg1 < keyed.otpCtr := by decide
    have b : firstBad (msgList msg1) (fun _ e => (decide (e.op = 1) || decide (e.op = 2)) && keyed.on F.KEYS_SLOT_ATTR_LOCKED e.slot) = none := by
      decide
    have b' : firstBad (msgList msg1) (fun i e => keyed.attrBad (msgList msg1) i e) = none := by decide
    have b'' : firstBad (msgList msg1) (fun _ e => decide (e.op = 1) && (keyed.entryKey e).isNone) = none := by decide
    simp [State.keyVerdict, f, t, e, o, p, r, k, q, c, b, b', b'']
  ⟨_, (h.2 0 keyed).2.2.1 (by decide) v⟩

theorem witness_LaneStatesAndSends_1 (h : Obligations.LaneStatesAndSends) :
    Runs (.laneCtrlWrite 151 0) (lane151 Ln.off 0 []) ∧ Runs (.laneCtrlWrite 151 0) (shut (lane151 Ln.off 0 [])) ∧
    Runs (.laneCtrlWrite 151 2) (lane151 Ln.deep 0 []) ∧ Runs (.laneCtrlWrite 151 0x1B) (lane151 Ln.idle 0 []) ∧
    Runs (.laneCtrlWrite 151 4) (lane151 Ln.idle 0 []) ∧
    Runs (.signalDetect 151) (lane151 Ln.idle 0 [(F.FAB_LANE_CTRL_STATE_REQ, 151, 2)]) ∧
    Runs (.signalDetect 151) (lane151 Ln.active 0 [(F.FAB_LANE_CTRL_STATE_REQ, 151, 2)]) ∧
    Runs (.signalDetect 151) (lane151 Ln.idle 0 []) ∧ Runs (.laneActive 151) (lane151 Ln.training 1 []) ∧
    Runs (.laneActive 151) ((lane151 Ln.hunt 1 []).setLane 151 { hot := true }) ∧ Runs (.laneActive 151) (lane151 Ln.active 0 []) ∧
    Runs (.laneSignalLoss 151) (lane151 Ln.active 0 []) ∧ Runs (.laneSignalLoss 151) (lane151 Ln.active 1 []) ∧
    Runs (.laneSignalLoss 151) (lane151 Ln.test 0 []) ∧
    Runs (.laneLockTimeout 151) ({ (lane151 Ln.hunt 0 [(F.FAB_GLOBAL_CTRL_AUTO_REMAP, 0, 1)]).setLane 151 { lostAt := some 0 } with clk := 10 ^ 12 }) ∧
    Runs (.laneLockTimeout 151) (lane151 Ln.active 1 []) :=
    ⟨⟨_, ((h.1 151 0 (lane151 Ln.off 0 [])).1 (by decide) (by decide)).1 (by decide)⟩,
     ⟨_, ((h.1 151 0 (shut (lane151 Ln.off 0 []))).1 (by decide) (by decide)).2 (by decide)⟩,
     ⟨_, ((h.1 151 2 (lane151 Ln.deep 0 [])).2.1 (by decide) (by decide)).1 (by decide)⟩,
     ⟨_, ((h.1 151 0x1B (lane151 Ln.idle 0 [])).2.2.1 (by decide) (by decide)).1 (by decide)⟩,
     ⟨_, ((h.1 151 4 (lane151 Ln.idle 0 [])).2.2.2.1 (by decide) (by decide)).1 (by decide)⟩,
     ⟨_, (h.1 151 0 (lane151 Ln.idle 0 [(F.FAB_LANE_CTRL_STATE_REQ, 151, 2)])).2.2.2.2.1 (by decide) (by decide)⟩,
     ⟨_, (h.1 151 0 (lane151 Ln.active 0 [(F.FAB_LANE_CTRL_STATE_REQ, 151, 2)])).2.2.2.2.2.1 (by decide) (by decide)⟩,
     ⟨_, (h.1 151 0 (lane151 Ln.idle 0 [])).2.2.2.2.2.2.1 (by decide)⟩,
     ⟨_, (h.1 151 0 (lane151 Ln.training 1 [])).2.2.2.2.2.2.2.1 (by decide) (by decide)⟩,
     ⟨_, (h.1 151 0 ((lane151 Ln.hunt 1 []).setLane 151 { hot := true })).2.2.2.2.2.2.2.2.1 (by decide) (by decide)⟩,
     ⟨_, (h.1 151 0 (lane151 Ln.active 0 [])).2.2.2.2.2.2.2.2.2.1 (by decide)⟩,
     ⟨_, (h.1 151 0 (lane151 Ln.active 0 [])).2.2.2.2.2.2.2.2.2.2.1 (by decide) (by decide)⟩,
     ⟨_, (h.1 151 0 (lane151 Ln.active 1 [])).2.2.2.2.2.2.2.2.2.2.2.1 (by decide) (by decide)⟩,
     ⟨_, (h.1 151 0 (lane151 Ln.test 0 [])).2.2.2.2.2.2.2.2.2.2.2.2.1 (by decide)⟩,
     ⟨_, (h.1 151 0 ({ (lane151 Ln.hunt 0 [(F.FAB_GLOBAL_CTRL_AUTO_REMAP, 0, 1)]).setLane 151 { lostAt := some 0 } with clk := 10 ^ 12 })).2.2.2.2.2.2.2.2.2.2.2.2.2.1 ⟨by decide, by decide, by decide, 0, by decide, by decide⟩⟩,
     ⟨_, (h.1 151 0 (lane151 Ln.active 1 [])).2.2.2.2.2.2.2.2.2.2.2.2.2.2 (fun e => absurd e.2.1 (by decide))⟩⟩

theorem witness_LaneReceives_1 (h : Obligations.LaneReceives) :
    Runs (.tetosFrameRx 151 [3] () () ()) (lane151 Ln.test 0 []) ∧ Runs (.tetosFrameRx 151 [3] () () ()) (lane151 Ln.idle 0 []) ∧
    Runs (.tetosFrameRx 151 [3] () () ()) (lane151 Ln.training 0 []) ∧ Runs (.tetosFrameRx 151 [3] () () ()) (lane151 Ln.active 1 []) ∧
    Runs (.tetosFrameRx 151 [] () () ()) ((lane151 Ln.active 1 []).setLane 151 { grid := 64, raw := List.replicate 85 [] }) ∧
    Runs (.markerRx 151 () () ()) (lane151 Ln.active 1 []) ∧
    Runs (.markerRx 151 () () ()) ((lane151 Ln.blockLock 0 []).setLane 151 { grid := 64 }) ∧
    Runs (.markerRx 151 () () ()) ((lane151 Ln.blockLock 0 []).setLane 151 { grid := 64, raw := [mark] }) ∧
    Runs (.markerRx 151 () () ()) ((lane151 Ln.blockLock 0 []).setLane 151 { grid := 64, raw := [mark], marks := 1, since := 84 }) ∧
    Runs (.markerRx 151 () () ()) (fr [(⟨⟨false, 0⟩, 0, true⟩ : RxBlk)] { miss := 2 }) ∧
    Runs (.markerRx 151 () () ()) (fr [(⟨⟨false, 0⟩, 0, true⟩ : RxBlk)] { miss := 1 }) ∧
    Runs (.markerRx 151 () () ()) (fr [(⟨⟨true, 0xF0E1D2C300000000⟩, 0, false⟩ : RxBlk)] {}) ∧
    Runs (.markerRx 151 () () ()) (fr [(⟨⟨true, 0xF0E1D2C300000000⟩, 0, true⟩ : RxBlk)] {}) ∧ Runs (.markerRx 151 () () ()) (fr [] {}) ∧
    Runs (.cellRx 151 0 ()) (fr [] {}) ∧ Runs (.cellRx 151 0 ()) (fr [⟨{}, 1, true⟩] {}) ∧
    Runs (.cellRx 151 0 ()) (fr [⟨{}, 84, true⟩] { part := [0, 0, 0, 0] }) ∧ (∃ t, (fr [] { skipLost := true }).cellRx 151 [1] 0 = t) ∧
    (∃ t, ((lane151 Ln.active 1 [(F.FAB_LANE_STATUS_LOGICAL, 151, 255)]).setLane 151 { rxq := [cb 3 0] }).cellRx 151 [1] 0 = t) ∧
    (∃ t, (fr [] { buf := [(0, List.replicate 48 1)] }).cellRx 151 [1] 0 = t) ∧
    (∃ t, (fr [] { buf := [(0, List.replicate 49 1)] }).cellRx 151 [1] 0 = t) ∧ Runs (.skipRx 151 () ()) (fr [cb 1 31] {}) ∧
    Runs (.skipRx 151 () ()) (fr [] {}) ∧ Runs (.statusAbsent 151) (fr [] { noStat := 64 }) ∧ Runs (.statusAbsent 151) (fr [] {}) ∧
    Runs (.tagRx 151 ()) (fr [cb 3 0] {}) ∧ Runs (.tagRx 151 ()) (fr [cb 3 146432] {}) ∧
    Runs (.tagRx 151 ()) ((lane151 Ln.active 1 [(F.FAB_LANE_STATUS_LOGICAL, 151, 255)]).setLane 151 { rxq := [cb 3 0] }) ∧
    Runs (.tagRx 151 ()) (fr [] {}) :=
    ⟨⟨_, (h.1 151 [3] 0 0 [] (⟨⟨false, 0⟩, 0, true⟩ : RxBlk) (lane151 Ln.test 0 [])).1 (by decide)⟩,
     ⟨_, (h.1 151 [3] 0 0 [] (⟨⟨false, 0⟩, 0, true⟩ : RxBlk) (lane151 Ln.idle 0 [])).2.1 (by decide) (by decide)⟩,
     ⟨_, (h.1 151 [3] 0 0 [] (⟨⟨false, 0⟩, 0, true⟩ : RxBlk) (lane151 Ln.training 0 [])).2.2.1 (by decide) (by decide)⟩,
     ⟨_, (h.1 151 [3] 0 0 [] (⟨⟨false, 0⟩, 0, true⟩ : RxBlk) (lane151 Ln.active 1 [])).2.2.2.1 (by decide) (by decide) (by decide)⟩,
     ⟨_, (h.1 151 [] 0 0 [] (⟨⟨false, 0⟩, 0, true⟩ : RxBlk) ((lane151 Ln.active 1 []).setLane 151 { grid := 64, raw := List.replicate 85 [] })).2.2.2.2.1 (by decide) (by decide) (by decide)⟩,
     ⟨_, (h.1 151 [] 0 0 [] (⟨⟨false, 0⟩, 0, true⟩ : RxBlk) (lane151 Ln.active 1 [])).2.2.2.2.2.1 (by decide)⟩,
     ⟨_, (h.1 151 [] 0 0 [] (⟨⟨false, 0⟩, 0, true⟩ : RxBlk) ((lane151 Ln.blockLock 0 []).setLane 151 { grid := 64 })).2.2.2.2.2.2.1 (by decide) (by decide) (by decide)⟩,
     ⟨_, (h.1 151 [] 0 0 [] (⟨⟨false, 0⟩, 0, true⟩ : RxBlk) ((lane151 Ln.blockLock 0 []).setLane 151 { grid := 64, raw := [mark] })).2.2.2.2.2.2.2.1 (by decide) (by decide) (by decide) (by decide)⟩,
     ⟨_, (h.1 151 [] 0 0 [] (⟨⟨false, 0⟩, 0, true⟩ : RxBlk) ((lane151 Ln.blockLock 0 []).setLane 151 { grid := 64, raw := [mark], marks := 1, since := 84 })).2.2.2.2.2.2.2.2.1 (by decide) (by decide) (by decide) (by decide)⟩,
     ⟨_, (h.1 151 [] 0 0 [] (⟨⟨false, 0⟩, 0, true⟩ : RxBlk) (fr [(⟨⟨false, 0⟩, 0, true⟩ : RxBlk)] { miss := 2 })).2.2.2.2.2.2.2.2.2.1 (by decide) (by decide) (by decide) (by decide)⟩,
     ⟨_, (h.1 151 [] 0 0 [] (⟨⟨false, 0⟩, 0, true⟩ : RxBlk) (fr [(⟨⟨false, 0⟩, 0, true⟩ : RxBlk)] { miss := 1 })).2.2.2.2.2.2.2.2.2.2.1 (by decide) (by decide) (by decide) (by decide)⟩,
     ⟨_, (h.1 151 [] 0 0 [] (⟨⟨true, 0xF0E1D2C300000000⟩, 0, false⟩ : RxBlk) (fr [(⟨⟨true, 0xF0E1D2C300000000⟩, 0, false⟩ : RxBlk)] {})).2.2.2.2.2.2.2.2.2.2.2.1 (by decide) (by decide) (by decide) (by decide)⟩,
     ⟨_, (h.1 151 [] 0 0 [] (⟨⟨true, 0xF0E1D2C300000000⟩, 0, true⟩ : RxBlk) (fr [(⟨⟨true, 0xF0E1D2C300000000⟩, 0, true⟩ : RxBlk)] {})).2.2.2.2.2.2.2.2.2.2.2.2.1 (by decide) (by decide) (by decide) (by decide)⟩,
     ⟨_, (h.1 151 [] 0 0 [] (⟨⟨true, 0xF0E1D2C300000000⟩, 0, true⟩ : RxBlk) (fr [] {})).2.2.2.2.2.2.2.2.2.2.2.2.2.1 (by decide) (by decide) (fun _ e => nomatch e)⟩,
     ⟨_, (h.1 151 [] 0 0 [] (⟨⟨true, 0xF0E1D2C300000000⟩, 0, true⟩ : RxBlk) (fr [] {})).2.2.2.2.2.2.2.2.2.2.2.2.2.2.1 (by decide)⟩,
     ⟨_, (h.1 151 [] 0 0 [] (⟨⟨true, 0xF0E1D2C300000000⟩, 0, true⟩ : RxBlk) (fr [⟨{}, 1, true⟩] {})).2.2.2.2.2.2.2.2.2.2.2.2.2.2.2.1 (by decide) (by decide) (by decide)⟩,
     ⟨_, (h.1 151 [] 0 0 [] (⟨⟨true, 0xF0E1D2C300000000⟩, 0, true⟩ : RxBlk) (fr [⟨{}, 84, true⟩] { part := [0, 0, 0, 0] })).2.2.2.2.2.2.2.2.2.2.2.2.2.2.2.2.1 (by decide) (by decide) (by decide)⟩,
     ⟨_, (h.1 151 [] 0 0 [1] (⟨⟨true, 0xF0E1D2C300000000⟩, 0, true⟩ : RxBlk) (fr [] { skipLost := true })).2.2.2.2.2.2.2.2.2.2.2.2.2.2.2.2.2.1 (by decide)⟩,
     ⟨_, (h.1 151 [] 0 0 [1] (⟨⟨true, 0xF0E1D2C300000000⟩, 0, true⟩ : RxBlk) ((lane151 Ln.active 1 [(F.FAB_LANE_STATUS_LOGICAL, 151, 255)]).setLane 151 { rxq := [cb 3 0] })).2.2.2.2.2.2.2.2.2.2.2.2.2.2.2.2.2.2.1 (by decide) (by decide)⟩,
     ⟨_, (h.1 151 [] 0 0 [1] (⟨⟨true, 0xF0E1D2C300000000⟩, 0, true⟩ : RxBlk) (fr [] { buf := [(0, List.replicate 48 1)] })).2.2.2.2.2.2.2.2.2.2.2.2.2.2.2.2.2.2.2.1 (by decide) (by decide) (by decide)⟩,
     ⟨_, (h.1 151 [] 0 0 [1] (⟨⟨true, 0xF0E1D2C300000000⟩, 0, true⟩ : RxBlk) (fr [] { buf := [(0, List.replicate 49 1)] })).2.2.2.2.2.2.2.2.2.2.2.2.2.2.2.2.2.2.2.2.1 (by decide) (by decide) (by decide)⟩,
     ⟨_, (h.1 151 [] 0 31 [] (⟨⟨true, 0xF0E1D2C300000000⟩, 0, true⟩ : RxBlk) (fr [cb 1 31] {})).2.2.2.2.2.2.2.2.2.2.2.2.2.2.2.2.2.2.2.2.2.1 (by decide)⟩,
     ⟨_, (h.1 151 [] 0 31 [] (⟨⟨true, 0xF0E1D2C300000000⟩, 0, true⟩ : RxBlk) (fr [] {})).2.2.2.2.2.2.2.2.2.2.2.2.2.2.2.2.2.2.2.2.2.2.1 (by decide)⟩,
     ⟨_, (h.1 151 [] 0 31 [] (⟨⟨true, 0xF0E1D2C300000000⟩, 0, true⟩ : RxBlk) (fr [] { noStat := 64 })).2.2.2.2.2.2.2.2.2.2.2.2.2.2.2.2.2.2.2.2.2.2.2.1 (by decide)⟩,
     ⟨_, (h.1 151 [] 0 31 [] (⟨⟨true, 0xF0E1D2C300000000⟩, 0, true⟩ : RxBlk) (fr [] {})).2.2.2.2.2.2.2.2.2.2.2.2.2.2.2.2.2.2.2.2.2.2.2.2.1 (by decide)⟩,
     ⟨_, (h.1 151 [] 0 0 [] (⟨⟨true, 0xF0E1D2C300000000⟩, 0, true⟩ : RxBlk) (fr [cb 3 0] {})).2.2.2.2.2.2.2.2.2.2.2.2.2.2.2.2.2.2.2.2.2.2.2.2.2.1 143 (by decide) (by decide) (by decide)⟩,
     ⟨_, (h.1 151 [] 0 146432 [] (⟨⟨true, 0xF0E1D2C300000000⟩, 0, true⟩ : RxBlk) (fr [cb 3 146432] {})).2.2.2.2.2.2.2.2.2.2.2.2.2.2.2.2.2.2.2.2.2.2.2.2.2.2.1 143 (by decide) (by decide) (by decide)⟩,
     ⟨_, (h.1 151 [] 0 0 [] (⟨⟨true, 0xF0E1D2C300000000⟩, 0, true⟩ : RxBlk) ((lane151 Ln.active 1 [(F.FAB_LANE_STATUS_LOGICAL, 151, 255)]).setLane 151 { rxq := [cb 3 0] })).2.2.2.2.2.2.2.2.2.2.2.2.2.2.2.2.2.2.2.2.2.2.2.2.2.2.2.1 (by decide) (by decide)⟩,
     ⟨_, (h.1 151 [] 0 0 [] (⟨⟨true, 0xF0E1D2C300000000⟩, 0, true⟩ : RxBlk) (fr [] {})).2.2.2.2.2.2.2.2.2.2.2.2.2.2.2.2.2.2.2.2.2.2.2.2.2.2.2.2 (by decide)⟩⟩

theorem witness_LaneReceives_2 (h : Obligations.LaneReceives) :
    Runs (.statusBlockRx 151 ()) (fr [cb 2 0] {}) ∧ Runs (.statusBlockRx 151 ()) (fr [] {}) :=
    ⟨⟨_, (h.2 151 0 (fr [cb 2 0] {})).1 (by decide)⟩, ⟨_, (h.2 151 0 (fr [] {})).2 (by decide)⟩⟩

theorem witness_LaneStatesAndSends_2 (h : Obligations.LaneStatesAndSends) :
    Runs (.turnTx 151 ()) (lane151 Ln.active 1 []) ∧ Runs (.turnTx 151 ()) (lane151 Ln.training 1 []) ∧
    Runs (.statusBlockTx 151 0 0) (lane151 Ln.idle 1 []) ∧ Runs (.statusBlockTx 151 0 0) (lane151 Ln.test 1 []) ∧
    Runs (.statusBlockTx 151 0 0) (lane151 Ln.training 1 []) ∧ Runs (.statusBlockTx 151 0 0) (lane151 Ln.active 1 []) ∧
    Runs (.statusBlockTx 151 0 0) (fr [] { txHead := [{}] }) ∧ Runs (.laneTestStart 151 0xFFFFFFFD) (st []) ∧
    Runs (.laneTestStart 151 0xFFFFFFFD) (shut (st [])) ∧ Runs (.laneTestStop 151 0) (st []) ∧
    Runs (.laneTestStop 151 0) (shut (st [])) :=
    ⟨⟨_, (h.2 151 0 0 0 (lane151 Ln.active 1 [])).1 (by decide)⟩, ⟨_, (h.2 151 0 0 0 (lane151 Ln.training 1 [])).2.1 (by decide)⟩,
     ⟨_, (h.2 151 0 0 0 (lane151 Ln.idle 1 [])).2.2.1 (by decide)⟩,
     ⟨_, (h.2 151 0 0 0 (lane151 Ln.test 1 [])).2.2.2.1 (by decide) (by decide)⟩,
     ⟨_, (h.2 151 0 0 0 (lane151 Ln.training 1 [])).2.2.2.2.1 (by decide) (by decide)⟩,
     ⟨_, (h.2 151 0 0 0 (lane151 Ln.active 1 [])).2.2.2.2.2.1 (by decide) (by decide) (by decide) (by decide)⟩,
     ⟨_, (h.2 151 0 0 0 (fr [] { txHead := [{}] })).2.2.2.2.2.2.1 (by decide) (by decide) (by decide) (by decide)⟩,
     ⟨_, ((h.2 151 0 0 0xFFFFFFFD (st [])).2.2.2.2.2.2.2.1).1 (by decide)⟩,
     ⟨_, ((h.2 151 0 0 0xFFFFFFFD (shut (st []))).2.2.2.2.2.2.2.1).2 (by decide)⟩,
     ⟨_, ((h.2 151 0 0 0 (st [])).2.2.2.2.2.2.2.2).1 (by decide)⟩, ⟨_, ((h.2 151 0 0 0 (shut (st []))).2.2.2.2.2.2.2.2).2 (by decide)⟩⟩

theorem witness_RemapCommands (h : Obligations.RemapCommands) :
    Runs (.remapStart 0) (st []) ∧ Runs (.remapStart 0) (shut (st [])) ∧ Runs (.remapAbort 0) (remap 3 [] {}) ∧
    Runs (.remapAbort 0) (shut (remap 3 [] {})) ∧ Runs .remapWakeDone (remap 1 [] {}) ∧
    Runs .remapWakeDone (remap 1 [(F.FAB_LANE_PARTNER_CARD_ID, 151, 9)] {}) ∧ Runs .remapWakeDone (st []) ∧
    Runs .remapWakeTimeout (remap 1 [] {}) ∧ Runs .remapWakeTimeout (st []) ∧
    Runs .remapOfferTimeout (remap 2 [] { since := 59 * msClk }) ∧ Runs .remapOfferTimeout (st []) ∧
    Runs (.remapCompareDone ()) (remap 3 [] { compared := 4096 }) ∧ Runs (.remapCompareDone ()) (remap 3 [] { differ := true }) ∧
    Runs (.remapCompareDone ()) (st []) ∧ Runs .remapSwitchTurn (remap 4 [] {}) ∧ Runs .remapSwitchTurn (st []) ∧
    Runs (.remapRx 151 ()) (st []) ∧ Runs (.remapRx 151 ()) ((remap 2 [] { hitless := true }).setLane 151 { rxq := [cb 4 2] }) ∧
    Runs (.remapRx 151 ()) ((remap 2 [] {}).setLane 151 { rxq := [cb 4 2] }) ∧
    Runs (.remapRx 151 ()) ((remap 2 [] {}).setLane 151 { rxq := [cb 4 3] }) ∧
    Runs (.remapRx 151 ()) ((remap 4 [] { switched := true }).setLane 151 { rxq := [cb 4 5] }) ∧
    Runs (.remapRx 151 ()) ((remap 3 [] {}).setLane 151 { rxq := [cb 4 6] }) ∧
    Runs (.remapRx 151 ()) ((remap 3 [] {}).setLane 151 { rxq := [cb 4 1] }) ∧
    Runs (.remapRx 151 ()) ((remap 3 [] {}).setLane 151 { rxq := [cb 4 4] }) :=
    ⟨⟨_, ((h 0 0 0 (st [])).1).1 (by decide)⟩, ⟨_, ((h 0 0 0 (shut (st []))).1).2 (by decide)⟩,
     ⟨_, ((h 0 0 0 (remap 3 [] {})).2.1).1 (by decide)⟩, ⟨_, ((h 0 0 0 (shut (remap 3 [] {}))).2.1).2 (by decide)⟩,
     ⟨_, (h 0 0 0 (remap 1 [] {})).2.2.1 (by decide) (by decide)⟩,
     ⟨_, (h 0 0 0 (remap 1 [(F.FAB_LANE_PARTNER_CARD_ID, 151, 9)] {})).2.2.2.1 (by decide) (by decide)⟩,
     ⟨_, (h 0 0 0 (st [])).2.2.2.2.1 (by decide)⟩, ⟨_, (h 0 0 0 (remap 1 [] {})).2.2.2.2.2.1 (by decide)⟩,
     ⟨_, (h 0 0 0 (st [])).2.2.2.2.2.2.1 (by decide)⟩, ⟨_, (h 0 0 0 (remap 2 [] { since := 59 * msClk })).2.2.2.2.2.2.2.1 (by decide)⟩,
     ⟨_, (h 0 0 0 (st [])).2.2.2.2.2.2.2.2.1 (by decide)⟩,
     ⟨_, (h 0 0 0 (remap 3 [] { compared := 4096 })).2.2.2.2.2.2.2.2.2.1 (by decide) (by decide)⟩,
     ⟨_, (h 0 0 0 (remap 3 [] { differ := true })).2.2.2.2.2.2.2.2.2.2.1 (by decide) (by decide)⟩,
     ⟨_, (h 0 0 0 (st [])).2.2.2.2.2.2.2.2.2.2.2.1 (by decide)⟩, ⟨_, (h 0 0 0 (remap 4 [] {})).2.2.2.2.2.2.2.2.2.2.2.2.1 (by decide)⟩,
     ⟨_, (h 0 0 0 (st [])).2.2.2.2.2.2.2.2.2.2.2.2.2.1 (by decide)⟩, ⟨_, (h 151 0 0 (st [])).2.2.2.2.2.2.2.2.2.2.2.2.2.2.1 (by decide)⟩,
     ⟨_, (h 151 2 0 ((remap 2 [] { hitless := true }).setLane 151 { rxq := [cb 4 2] })).2.2.2.2.2.2.2.2.2.2.2.2.2.2.2.1 (by decide) (by decide) (by decide)⟩,
     ⟨_, (h 151 2 0 ((remap 2 [] {}).setLane 151 { rxq := [cb 4 2] })).2.2.2.2.2.2.2.2.2.2.2.2.2.2.2.2.1 (by decide) (by decide) (by decide)⟩,
     ⟨_, (h 151 3 0 ((remap 2 [] {}).setLane 151 { rxq := [cb 4 3] })).2.2.2.2.2.2.2.2.2.2.2.2.2.2.2.2.2.1 (by decide) (by decide)⟩,
     ⟨_, (h 151 5 0 ((remap 4 [] { switched := true }).setLane 151 { rxq := [cb 4 5] })).2.2.2.2.2.2.2.2.2.2.2.2.2.2.2.2.2.2.1 (by decide) (by decide)⟩,
     ⟨_, (h 151 6 0 ((remap 3 [] {}).setLane 151 { rxq := [cb 4 6] })).2.2.2.2.2.2.2.2.2.2.2.2.2.2.2.2.2.2.2.1 (by decide) (by decide)⟩,
     ⟨_, (h 151 1 0 ((remap 3 [] {}).setLane 151 { rxq := [cb 4 1] })).2.2.2.2.2.2.2.2.2.2.2.2.2.2.2.2.2.2.2.2.1 (by decide) (by decide)⟩,
     ⟨_, (h 151 4 0 ((remap 3 [] {}).setLane 151 { rxq := [cb 4 4] })).2.2.2.2.2.2.2.2.2.2.2.2.2.2.2.2.2.2.2.2.2 (by decide) (by decide) (by decide) (by decide) (by decide) (by decide)⟩⟩

theorem witness_FlowEntryCommands (h : Obligations.FlowEntryCommands) :
    Runs (.flowEnable 65535) (flow 0x2000 0 (mgt [])) ∧ Runs (.flowEnable 65535) (shut (flow 0x2000 0 (mgt []))) ∧
    Runs (.flowEnable 65535) (st []) ∧ Runs (.flowDisable 65535) (flow 1 0 (st [])) ∧
    Runs (.flowDisable 65535) (shut (flow 1 0 (st []))) ∧ Runs (.flowDisable 65535) (st []) ∧ Runs (.flowClearStats 65535) (st []) ∧
    Runs (.flowClearStats 65535) (shut (st [])) ∧ Runs (.flowEntryWrite 65535 31 1) (st []) ∧
    Runs (.flowEntryWrite 65535 31 1) (shut (st [])) ∧ Runs (.flowEntryWrite 65535 15 1) (flow 1 0 (st [])) ∧
    Runs (.flowEntryWrite 65535 15 0xFFFFFFFF) (st []) :=
    ⟨⟨_, ((h 0 0 65535 (flow 0x2000 0 (mgt []))).2.1 (by decide)).1 (by decide)⟩,
     ⟨_, ((h 0 0 65535 (shut (flow 0x2000 0 (mgt [])))).2.1 (by decide)).2 (by decide)⟩,
     ⟨_, ((h 0 0 65535 (st [])).2.2.1 (by decide)).1 (by decide)⟩,
     ⟨_, ((h 0 0 65535 (flow 1 0 (st []))).2.2.2.1 (by decide)).1 (by decide)⟩,
     ⟨_, ((h 0 0 65535 (shut (flow 1 0 (st [])))).2.2.2.1 (by decide)).2 (by decide)⟩,
     ⟨_, ((h 0 0 65535 (st [])).2.2.2.2.1 (by decide)).1 (by decide)⟩, ⟨_, ((h 0 0 65535 (st [])).2.2.2.2.2.1).1 (by decide)⟩,
     ⟨_, ((h 0 0 65535 (shut (st []))).2.2.2.2.2.1).2 (by decide)⟩,
     ⟨_, ((h 65535 31 1 (st [])).2.2.2.2.2.2.1 (by decide)).1 (by decide)⟩,
     ⟨_, ((h 65535 31 1 (shut (st []))).2.2.2.2.2.2.1 (by decide)).2 (by decide)⟩,
     ⟨_, ((h 65535 15 1 (flow 1 0 (st []))).2.2.2.2.2.2.2.1 (by decide) (by decide)).1 (by decide)⟩,
     ⟨_, ((h 65535 15 0xFFFFFFFF (st [])).2.2.2.2.2.2.2.2 (by decide) (by decide)).1 (by decide)⟩⟩

theorem witness_FrameReceived (h : Obligations.FrameReceived) :
    Runs (.mediaFrameRx (rxf true 64 1 false none none)) (st []) ∧ Runs (.mediaFrameRx (rxf false 64 1 false none none)) (mgt []) ∧
    Runs (.mediaFrameRx (rxf true 63 1 false none none)) (mgt []) ∧
    Runs (.mediaFrameRx (rxf true 64 1 true (some 65535) none)) (mgt []) ∧ Runs (.mediaFrameRx (rxf true 64 1 true none none)) (mgt []) ∧
    Runs (.mediaFrameRx (rxf true 64 2 false none none)) (mgt []) ∧ Runs (.mediaFrameRx (rxf true 64 1 false none none)) (mgt []) ∧
    Runs (.mediaFrameRx (rxf true 64 1 false none (some (dg false)))) (mgt []) ∧
    Runs (.mediaFrameRx (rxf true 64 1 false none (some (dg true)))) (matched (mgt [])) ∧
    Runs (.mediaFrameRx (rxf true 64 1 false none (some (dg true)))) (mgt []) ∧
    Runs (.pauseExpire 32) (mgt [(F.MGT_STATUS_PAUSED, 0, 1)]) ∧ Runs (.pauseExpire 31) (mgt []) :=
    ⟨⟨_, (h (rxf true 64 1 false none none) 32 (st [])).1 (by decide)⟩,
     ⟨_, (h (rxf false 64 1 false none none) 32 (mgt [])).2.1 (by decide) (by decide)⟩,
     ⟨_, (h (rxf true 63 1 false none none) 32 (mgt [])).2.2.1 (by decide) (by decide) (by decide)⟩,
     ⟨_, (h (rxf true 64 1 true (some 65535) none) 32 (mgt [])).2.2.2.1 65535 ⟨by decide, by decide, by decide, by decide⟩ (by decide) (by decide)⟩,
     ⟨_, (h (rxf true 64 1 true none none) 32 (mgt [])).2.2.2.2.1 (by decide) (by decide) (by decide)⟩,
     ⟨_, (h (rxf true 64 2 false none none) 32 (mgt [])).2.2.2.2.2.1 (by decide) (by decide) (by decide) (by decide)⟩,
     ⟨_, (h (rxf true 64 1 false none none) 32 (mgt [])).2.2.2.2.2.2.1 (by decide) (by decide) (by decide)⟩,
     ⟨_, (h (rxf true 64 1 false none (some (dg false))) 32 (mgt [])).2.2.2.2.2.2.2.1 (dg false) ⟨by decide, by decide, by decide, by decide⟩ ⟨by decide, by decide⟩ (by decide) rfl (by decide)⟩,
     ⟨_, (h (rxf true 64 1 false none (some (dg true))) 32 (matched (mgt []))).2.2.2.2.2.2.2.2.1 (dg true) 65535 ⟨by decide, by decide, by decide, by decide⟩ ⟨by decide, by decide⟩ (by decide) rfl (by decide) (by decide)⟩,
     ⟨_, (h (rxf true 64 1 false none (some (dg true))) 32 (mgt [])).2.2.2.2.2.2.2.2.2.1 (dg true) ⟨by decide, by decide, by decide, by decide⟩ ⟨by decide, by decide⟩ (by decide) rfl (by decide) (by decide)⟩,
     ⟨_, (h (rxf true 64 1 false none none) 32 (mgt [(F.MGT_STATUS_PAUSED, 0, 1)])).2.2.2.2.2.2.2.2.2.2.1 (by decide)⟩,
     ⟨_, (h (rxf true 64 1 false none none) 31 (mgt [])).2.2.2.2.2.2.2.2.2.2.2 (by decide)⟩⟩

theorem witness_FlowTraffic (h : Obligations.FlowTraffic) :
    Runs (.ipLineEgress 65535) (flow 0x11 163840 (sw 1 (st []))) ∧
    Runs (.ipLineEgress 65535) (flow 0x11 163840 (ras 0 ⟨1, 1, 0⟩ (st []))) ∧ Runs (.ipLineEgress 65535) (st []) ∧
    Runs (.ipFlowTimeout 65535) ({ flow 0x51 163840 (st []) with clk := 10 ^ 12 }) ∧ Runs (.ipFlowTimeout 65535) (st []) ∧
    Runs (.videoPacketTx 65535 1 0 () ()) ((flow 0x13 169599 (ras 0 ⟨3, 1, 0⟩ (st []))).setXa 5759 { routed := true, src := 6272 }) ∧
    Runs (.videoPacketTx 65535 1 0 () ()) (st []) ∧ Runs (.audioPacketTx 65535) ({ flow 0x23 0 (st []) with aud := { bnd := 48 } }) ∧
    Runs (.audioPacketTx 65535) (st []) ∧
    Runs (.ancPacketTx 65535 9) { ((((flow 0x43 169599 (ras 0 ⟨3, 1, 0⟩ (st []))).setFw 65534 0 0x13).setFw 65534 10 169599).setXa 5759 { routed := true, src := 6272 }) with ancOut := [(5759, [⟨0, 1, 1, 0, 0, []⟩])] } ∧
    Runs (.ancPacketTx 65535 9) (st []) ∧
    Runs (.opaqueForward 6335) ((opq { fifo := [(0, [])] }).setXa 6335 { routed := true, src := 4608 }) ∧
    Runs (.opaqueForward 6335) (opq { fifo := [(0, [])] }) ∧ Runs (.opaqueForward 0) (st []) ∧
    Runs (.opaqueSourceSwitch 6335) (opq { nxt := some 4608, oldMark := true, newMark := true }) ∧
    Runs (.opaqueSourceSwitch 6335) (st []) ∧ Runs (.opaqueSwitchTimeout 6335) (opq { nxt := some 4608, oldMark := true }) ∧
    Runs (.opaqueSwitchTimeout 6335) (st []) :=
    ⟨⟨_, (h 65535 0 0 0 0 (flow 0x11 163840 (sw 1 (st [])))).1 (by decide) (by decide)⟩,
     ⟨_, (h 65535 0 0 0 0 (flow 0x11 163840 (ras 0 ⟨1, 1, 0⟩ (st [])))).2.1 (by decide) (by decide)⟩,
     ⟨_, (h 65535 0 0 0 0 (st [])).2.2.1 (by decide)⟩,
     ⟨_, (h 65535 0 0 0 0 ({ flow 0x51 163840 (st []) with clk := 10 ^ 12 })).2.2.2.1 (by decide)⟩,
     ⟨_, (h 65535 0 0 0 0 (st [])).2.2.2.2.1 (by decide)⟩,
     ⟨_, (h 65535 0 1 0 0 ((flow 0x13 169599 (ras 0 ⟨3, 1, 0⟩ (st []))).setXa 5759 { routed := true, src := 6272 })).2.2.2.2.2.1 ⟨by decide, by decide, by decide, by decide, by decide +kernel, by rintro x ⟨⟩, by decide +kernel, by decide +kernel⟩⟩,
     ⟨_, (h 65535 0 1 0 0 (st [])).2.2.2.2.2.2.1 (fun e => absurd e.1 (by decide))⟩,
     ⟨_, (h 65535 0 1 0 0 ({ flow 0x23 0 (st []) with aud := { bnd := 48 } })).2.2.2.2.2.2.2.1 (by decide)⟩,
     ⟨_, (h 65535 0 1 0 0 (st [])).2.2.2.2.2.2.2.2.1 (by decide)⟩,
     ⟨_, (h 65535 0 1 0 9 { ((((flow 0x43 169599 (ras 0 ⟨3, 1, 0⟩ (st []))).setFw 65534 0 0x13).setFw 65534 10 169599).setXa 5759 { routed := true, src := 6272 }) with ancOut := [(5759, [⟨0, 1, 1, 0, 0, []⟩])] }).2.2.2.2.2.2.2.2.2.1 (0, 1) (by decide) (by decide) (Or.inl (by decide))⟩,
     ⟨_, (h 65535 0 1 0 9 (st [])).2.2.2.2.2.2.2.2.2.2.1 (Or.inl (by decide))⟩,
     ⟨_, (h 65535 6335 1 0 9 ((opq { fifo := [(0, [])] }).setXa 6335 { routed := true, src := 4608 })).2.2.2.2.2.2.2.2.2.2.2.1 (0, []) [] (by decide) (by decide) (by decide)⟩,
     ⟨_, (h 65535 6335 1 0 9 (opq { fifo := [(0, [])] })).2.2.2.2.2.2.2.2.2.2.2.2.1 (0, []) [] (by decide) (by decide) (by decide)⟩,
     ⟨_, (h 65535 0 1 0 9 (st [])).2.2.2.2.2.2.2.2.2.2.2.2.2.1 (fun _ e => nomatch e)⟩,
     ⟨_, (h 65535 6335 1 0 9 (opq { nxt := some 4608, oldMark := true, newMark := true })).2.2.2.2.2.2.2.2.2.2.2.2.2.2.1 (by decide)⟩,
     ⟨_, (h 65535 6335 1 0 9 (st [])).2.2.2.2.2.2.2.2.2.2.2.2.2.2.2.1 (by decide)⟩,
     ⟨_, (h 65535 6335 1 0 9 (opq { nxt := some 4608, oldMark := true })).2.2.2.2.2.2.2.2.2.2.2.2.2.2.2.2.1 (by decide)⟩,
     ⟨_, (h 65535 6335 1 0 9 (st [])).2.2.2.2.2.2.2.2.2.2.2.2.2.2.2.2.2 (by decide)⟩⟩

theorem witness_PortConfiguration (h : Obligations.PortConfiguration) :
    Runs (.mediaPortCfgWrite 7 1) (st []) ∧ Runs (.mediaPortCfgWrite 7 1) (shut (st [])) ∧
    Runs (.mediaPortCfgWrite 7 1) (st [(F.MEDIA_LPORT_CFG_EN, 28, 1)]) ∧
    Runs (.mediaLportCfgWrite 28 0) (flow 0x1C11 0 (st [(F.MEDIA_LPORT_CFG_EN, 28, 1)])) ∧
    Runs (.mediaLportCfgWrite 28 0) (shut (flow 0x1C11 0 (st [(F.MEDIA_LPORT_CFG_EN, 28, 1)]))) ∧
    Runs (.mediaLportCfgWrite 31 1) (st []) ∧
    Runs (.mediaLinkChange 28 false) (flow 0x1C11 0 (st [(F.MEDIA_LPORT_STATUS_LINK, 28, 1)])) ∧
    Runs (.mediaLinkChange 28 true) (st []) ∧ Runs (.mediaLinkChange 32 true) (st []) ∧ Runs (.mediaLinkChange 28 false) (st []) :=
    ⟨⟨_, ((h 7 0 0 false 1 (st [])).1 (by decide)).1 (by decide)⟩, ⟨_, ((h 7 0 0 false 1 (shut (st []))).1 (by decide)).2 (by decide)⟩,
     ⟨_, ((h 7 0 0 false 1 (st [(F.MEDIA_LPORT_CFG_EN, 28, 1)])).2.1 (by decide) (by decide)).1 (by decide)⟩,
     ⟨_, ((h 0 28 0 false 0 (flow 0x1C11 0 (st [(F.MEDIA_LPORT_CFG_EN, 28, 1)]))).2.2.2.1 ⟨by decide, by decide, 65535, by decide, by decide, by decide, by decide⟩).1 (by decide)⟩,
     ⟨_, ((h 0 28 0 false 0 (shut (flow 0x1C11 0 (st [(F.MEDIA_LPORT_CFG_EN, 28, 1)])))).2.2.2.1 ⟨by decide, by decide, 65535, by decide, by decide, by decide, by decide⟩).2 (by decide)⟩,
     ⟨_, ((h 0 31 0 false 1 (st [])).2.2.2.2.1 (fun e => absurd e.2.1 (by decide))).1 (by decide)⟩,
     ⟨_, (h 0 0 28 false 1 (flow 0x1C11 0 (st [(F.MEDIA_LPORT_STATUS_LINK, 28, 1)]))).2.2.2.2.2.1 (by decide) (by decide) (by decide) ⟨65535, by decide, by decide, by decide, by decide⟩⟩,
     ⟨_, (h 0 0 28 true 1 (st [])).2.2.2.2.2.2.1 (by decide) (by decide) (Or.inl rfl)⟩,
     ⟨_, (h 0 0 32 true 1 (st [])).2.2.2.2.2.2.2.1 (by decide) (by decide)⟩, ⟨_, (h 0 0 28 false 1 (st [])).2.2.2.2.2.2.2.2 (by decide)⟩⟩

theorem witness_RingCommands (h : Obligations.RingCommands) :
    Runs (.txRingDoorbell 8 17) (st [(F.MGT_RING_TXR_LOG2, 0, 4)]) ∧
    Runs (.txRingDoorbell 8 17) (shut (st [(F.MGT_RING_TXR_LOG2, 0, 4)])) ∧
    Runs (.txRingDoorbell 8 16) (st [(F.MGT_RING_TXR_LOG2, 0, 4)]) ∧ Runs (.rxRingPost 8 17) (st [(F.MGT_RING_RXR_LOG2, 0, 4)]) ∧
    Runs (.rxRingPost 8 17) (shut (st [(F.MGT_RING_RXR_LOG2, 0, 4)])) ∧ Runs (.rxRingPost 0 0) (st []) ∧
    Runs (.txDescriptorSend 8 13 0 none) (txr []) ∧ Runs (.txDescriptorSend 8 14 0 (some [])) (txr []) ∧
    Runs (.txDescriptorSend 8 65550 0 (some [])) (txr []) ∧
    Runs (.txDescriptorSend 8 14 0 (some [])) (txr [(F.MGT_STATUS_PAUSED, 0, 1)]) ∧
    Runs .lpiEnter ({ mgt [(F.MGT_CFG_EEE_EN, 0, 1), (F.MGT_CFG_SPEED, 0, 0)] with clk := 10 ^ 12 }) ∧ Runs .lpiEnter (st []) :=
    ⟨⟨_, ((h 8 0 0 none 17 (st [(F.MGT_RING_TXR_LOG2, 0, 4)])).1 (by decide)).1 (by decide)⟩,
     ⟨_, ((h 8 0 0 none 17 (shut (st [(F.MGT_RING_TXR_LOG2, 0, 4)]))).1 (by decide)).2 (by decide)⟩,
     ⟨_, ((h 8 0 0 none 16 (st [(F.MGT_RING_TXR_LOG2, 0, 4)])).2.1 (by decide)).1 (by decide)⟩,
     ⟨_, ((h 8 0 0 none 17 (st [(F.MGT_RING_RXR_LOG2, 0, 4)])).2.2.1 (by decide)).1 (by decide)⟩,
     ⟨_, ((h 8 0 0 none 17 (shut (st [(F.MGT_RING_RXR_LOG2, 0, 4)]))).2.2.1 (by decide)).2 (by decide)⟩,
     ⟨_, ((h 0 0 0 none 0 (st [])).2.2.2.1 (by decide)).1 (by decide)⟩,
     ⟨_, (h 8 13 0 none 0 (txr [])).2.2.2.2.1 (by decide) (by decide)⟩,
     ⟨_, (h 8 14 0 (some []) 0 (txr [])).2.2.2.2.2.1 (by decide) (by decide) (by decide) (by decide)⟩,
     ⟨_, (h 8 65550 0 (some []) 0 (txr [])).2.2.2.2.2.2.1 (by decide) (by decide) (by decide) (by decide)⟩,
     ⟨_, (h 8 14 0 (some []) 0 (txr [(F.MGT_STATUS_PAUSED, 0, 1)])).2.2.2.2.2.2.2.1 (by decide)⟩,
     ⟨_, (h 0 0 0 none 0 ({ mgt [(F.MGT_CFG_EEE_EN, 0, 1), (F.MGT_CFG_SPEED, 0, 0)] with clk := 10 ^ 12 })).2.2.2.2.2.2.2.2.1 (by decide)⟩,
     ⟨_, (h 0 0 0 none 0 (st [])).2.2.2.2.2.2.2.2.2 (by decide)⟩⟩

theorem witness_PtpCommands (h : Obligations.PtpCommands) :
    Runs (.ptpAddendWrite 0x20C49B) (st []) ∧ Runs (.ptpAddendWrite 0x20C49B) (shut (st [])) ∧ Runs (.ptpAddendWrite 0x20C49C) (st []) ∧
    Runs (.ptpStepGo 0) (put [(F.PTP_STATUS_ARMED, 0, 1)] (selS 4)) ∧
    Runs (.ptpStepGo 0) (shut (put [(F.PTP_STATUS_ARMED, 0, 1)] (selS 4))) ∧
    Runs (.ptpStepGo 0xFFFFFFFE) (st [(F.PTP_STATUS_ARMED, 0, 1)]) ∧
    Runs (.ptpRearm 0) (st [(F.SLATE_RASTER_CFG_BASIS, 7, 1), (F.SLATE_RASTER_STATUS_EVER_LOCKED, 7, 1)]) ∧
    Runs (.ptpRearm 0) (shut (st [(F.SLATE_RASTER_CFG_BASIS, 7, 1), (F.SLATE_RASTER_STATUS_EVER_LOCKED, 7, 1)])) ∧
    Runs (.ptpRearm 1) (st []) ∧ Runs (.ptpTxqPop 8 1) (st []) ∧ Runs (.ptpTxqPop 8 1) (shut (st [])) ∧ Runs (.ptpTxqPop 8 0) (st []) :=
    ⟨⟨_, ((h 8 0x20C49B (st [])).1 (by decide)).1 (by decide)⟩, ⟨_, ((h 8 0x20C49B (shut (st []))).1 (by decide)).2 (by decide)⟩,
     ⟨_, ((h 8 0x20C49C (st [])).2.1 (by decide)).1 (by decide)⟩,
     ⟨_, ((h 8 0 (put [(F.PTP_STATUS_ARMED, 0, 1)] (selS 4))).2.2.1 (by decide)).1 (by decide)⟩,
     ⟨_, ((h 8 0 (shut (put [(F.PTP_STATUS_ARMED, 0, 1)] (selS 4)))).2.2.1 (by decide)).2 (by decide)⟩,
     ⟨_, ((h 8 0xFFFFFFFE (st [(F.PTP_STATUS_ARMED, 0, 1)])).2.2.2.1 (by decide)).1 (by decide)⟩,
     ⟨_, ((h 8 0 (st [(F.SLATE_RASTER_CFG_BASIS, 7, 1), (F.SLATE_RASTER_STATUS_EVER_LOCKED, 7, 1)])).2.2.2.2.1 (by decide)).1 (by decide)⟩,
     ⟨_, ((h 8 0 (shut (st [(F.SLATE_RASTER_CFG_BASIS, 7, 1), (F.SLATE_RASTER_STATUS_EVER_LOCKED, 7, 1)]))).2.2.2.2.1 (by decide)).2 (by decide)⟩,
     ⟨_, ((h 8 1 (st [])).2.2.2.2.2.1 (by decide)).1 (by decide)⟩, ⟨_, ((h 8 1 (st [])).2.2.2.2.2.2.1 (by decide)).1 (by decide)⟩,
     ⟨_, ((h 8 1 (shut (st []))).2.2.2.2.2.2.1 (by decide)).2 (by decide)⟩,
     ⟨_, ((h 8 0 (st [])).2.2.2.2.2.2.2 (by decide)).1 (by decide)⟩⟩

theorem witness_TwinLink_1 (h : Obligations.TwinLink) :
    Runs (.timeRx hd 0) (st []) ∧ Runs (.timeRx ⟨3, 0xFFFFFFFE, 0⟩ 0) (tw Mode.standby 2 4 [] {}) ∧
    Runs (.helloRx ⟨3, 0, 0⟩ []) (tw Mode.standby 2 4 [] {}) ∧ Runs (.timeRx hd 0) (tw Mode.active 1 4 [] {}) ∧
    Runs (.cackRx hd 4 0 0) (tw Mode.standby 2 4 [] {}) ∧ Runs (.discardedMessageRx 0 (0, []) false) (st []) ∧
    Runs (.discardedMessageRx 3 (0, []) true) (tw Mode.standby 2 4 [] {}) ∧
    Runs (.discardedMessageRx 0 (2, []) false) (tw Mode.standby 2 4 [] {}) ∧
    Runs (.discardedMessageRx 0 (3, unk) false) (tw Mode.standby 2 4 [] {}) ∧
    Runs (.discardedMessageRx 0 (3, [0x30001, 0, 0]) false) (tw Mode.standby 2 4 [] {}) :=
    ⟨⟨_, ((h.1 hd 0 0 0 0 [] [] 4 0 false (st [])).1 (by decide)).2.1⟩,
     ⟨_, ((h.1 ⟨3, 0xFFFFFFFE, 0⟩ 0 0 0 0 [] [] 4 0 false (tw Mode.standby 2 4 [] {})).2.1 (by decide) (by decide) (by decide)).2⟩,
     Exists.imp (fun _ e => e.1) ((h.1 ⟨3, 0, 0⟩ 0 0 0 0 [] [] 4 0 false (tw Mode.standby 2 4 [] {})).2.2.1 (by decide) (by decide) (by decide)),
     ⟨_, ((h.1 hd 0 0 0 0 [] [] 4 0 false (tw Mode.active 1 4 [] {})).2.2.2.1 (by decide) (by decide) (by decide)).1⟩,
     ⟨_, (h.1 hd 0 0 0 0 [] [] 4 0 false (tw Mode.standby 2 4 [] {})).2.2.2.2.1 (by decide) (by decide) (by decide)⟩,
     ⟨_, (h.1 hd 0 0 0 0 [] [] 4 0 false (st [])).2.2.2.2.2.1 (by decide)⟩,
     ⟨_, (h.1 hd 0 0 0 0 [] [] 4 3 true (tw Mode.standby 2 4 [] {})).2.2.2.2.2.2.1 (by decide) (by decide)⟩,
     ⟨_, (h.1 hd 0 2 0 0 [] [] 4 0 false (tw Mode.standby 2 4 [] {})).2.2.2.2.2.2.2.1 (by decide) (by decide) (by decide)⟩,
     ⟨_, ((h.1 hd 0 3 0 0 [] unk 4 0 false (tw Mode.standby 2 4 [] {})).2.2.2.2.2.2.2.2.1 (by decide) (by decide)).1 (by decide)⟩,
     ⟨_, (h.1 hd 0 3 0 0 [] [0x30001, 0, 0] 4 0 false (tw Mode.standby 2 4 [] {})).2.2.2.2.2.2.2.2.2 (by decide) (by decide)⟩⟩

theorem witness_PairingCommands (h : Obligations.PairingCommands) :
    Runs (.helloRx hd hello1) (tw Mode.standalone 0 1 [] {}) ∧ Runs (.helloRx hd []) (tw Mode.standalone 0 1 [] {}) ∧
    Runs (.helloRx hd []) (tw Mode.standby 2 4 [] {}) ∧ Runs (.pairEnWrite 0xFFFFFF9F) (st []) ∧
    Runs (.pairEnWrite 0xFFFFFF9F) (shut (st [])) ∧ Runs (.take 1) (tw Mode.standby 2 4 [] {}) ∧
    Runs (.take 1) (shut (tw Mode.standby 2 4 [] {})) ∧ Runs (.cobaltResync 1) (tw Mode.active 1 4 [] {}) ∧
    Runs (.cobaltResync 1) (shut (tw Mode.active 1 4 [] {})) ∧ Runs .cobaltStatusTx (tw Mode.standby 2 4 [] {}) ∧
    Runs .cobaltStatusTx (st []) ∧ Runs (.cobaltStatusRx hd 7 7 true true true) (tw Mode.standby 2 4 [] {}) ∧
    Runs .cobaltEchoTx (tw Mode.active 1 4 [] {}) ∧ Runs .cobaltEchoTx (st []) ∧ Runs (.echoRx hd 5 0 0) (tw Mode.standby 2 4 [] {}) ∧
    Runs (.echoRx ⟨0, 0, 0⟩ 5 0 0) (tw Mode.standby 2 4 [] {}) ∧
    Runs (.echoRx ⟨0, 5, 0⟩ 5 0 0) ((tw Mode.standby 2 4 [] {}).setTwin fun t => { t with rxSeq := 6 }) ∧
    Runs (.echoRx hd 5 0 0) (st []) ∧ Runs (.echoRx hd 5 1 0) (tw Mode.standby 2 4 [] {}) ∧
    Runs .cobaltTimeTx (tw Mode.active 1 4 [] {}) ∧ Runs .cobaltTimeTx (tw Mode.standby 2 4 [] {}) ∧
    Runs (.timeRx hd 5) (tw Mode.standby 2 4 [] {}) ∧ Runs (.timeRx ⟨0, 0, 0⟩ 5) (tw Mode.standby 2 4 [] {}) ∧
    Runs (.timeRx ⟨0, 5, 0⟩ 5) ((tw Mode.standby 2 4 [] {}).setTwin fun t => { t with rxSeq := 6 }) ∧ Runs (.timeRx hd 5) (st []) :=
    ⟨⟨_, ((h hd hello1 0 0 false false false 0 0 0 0 0 (tw Mode.standalone 0 1 [] {})).1 (by decide) (by decide)).1 (by decide)⟩,
     ⟨_, ((h hd [] 0 0 false false false 0 0 0 0 0 (tw Mode.standalone 0 1 [] {})).2.1 (by decide) (by decide)).1 (by decide)⟩,
     ⟨_, ((h hd [] 0 0 false false false 0 0 0 0 0 (tw Mode.standby 2 4 [] {})).2.2.1 (by decide)).1 (by decide)⟩,
     ⟨_, ((h hd [] 0 0 false false false 0 0 0 0 0xFFFFFF9F (st [])).2.2.2.1).1 (by decide)⟩,
     ⟨_, ((h hd [] 0 0 false false false 0 0 0 0 0xFFFFFF9F (shut (st []))).2.2.2.1).2 (by decide)⟩,
     ⟨_, ((h hd [] 0 0 false false false 0 0 0 0 1 (tw Mode.standby 2 4 [] {})).2.2.2.2.1).1 (by decide)⟩,
     ⟨_, ((h hd [] 0 0 false false false 0 0 0 0 1 (shut (tw Mode.standby 2 4 [] {}))).2.2.2.2.1).2 (by decide)⟩,
     ⟨_, ((h hd [] 0 0 false false false 0 0 0 0 1 (tw Mode.active 1 4 [] {})).2.2.2.2.2.1).1 (by decide)⟩,
     ⟨_, ((h hd [] 0 0 false false false 0 0 0 0 1 (shut (tw Mode.active 1 4 [] {}))).2.2.2.2.2.1).2 (by decide)⟩,
     ⟨_, (h hd [] 0 0 false false false 0 0 0 0 1 (tw Mode.standby 2 4 [] {})).2.2.2.2.2.2.1 (by decide)⟩,
     ⟨_, (h hd [] 0 0 false false false 0 0 0 0 1 (st [])).2.2.2.2.2.2.2.1 (by decide)⟩,
     ⟨_, ((h hd [] 7 7 true true true 0 0 0 0 1 (tw Mode.standby 2 4 [] {})).2.2.2.2.2.2.2.2.1).1 (by decide)⟩,
     ⟨_, (h hd [] 0 0 false false false 0 0 0 0 1 (tw Mode.active 1 4 [] {})).2.2.2.2.2.2.2.2.2.1 ⟨(fun _ e => nomatch e), by decide⟩⟩,
     ⟨_, (h hd [] 0 0 false false false 0 0 0 0 1 (st [])).2.2.2.2.2.2.2.2.2.2.1 (fun e => absurd e.2.1 (by decide))⟩,
     ⟨_, ((h hd [] 0 0 false false false 5 0 0 0 1 (tw Mode.standby 2 4 [] {})).2.2.2.2.2.2.2.2.2.2.2.1 (by decide)).1 (by decide)⟩,
     ⟨_, ((h ⟨0, 0, 0⟩ [] 0 0 false false false 5 0 0 0 1 (tw Mode.standby 2 4 [] {})).2.2.2.2.2.2.2.2.2.2.2.1 (by decide)).2.1 (by decide) (by decide) (by decide)⟩,
     ⟨_, ((h ⟨0, 5, 0⟩ [] 0 0 false false false 5 0 0 0 1 ((tw Mode.standby 2 4 [] {}).setTwin fun t => { t with rxSeq := 6 })).2.2.2.2.2.2.2.2.2.2.2.1 (by decide)).2.2.1 (by decide) (by decide) (by decide)⟩,
     ⟨_, ((h hd [] 0 0 false false false 5 0 0 0 1 (st [])).2.2.2.2.2.2.2.2.2.2.2.1 (by decide)).2.2.2 (by decide)⟩,
     ⟨_, ((h hd [] 0 0 false false false 5 1 0 0 1 (tw Mode.standby 2 4 [] {})).2.2.2.2.2.2.2.2.2.2.2.2.1 (by decide)).1 (by decide)⟩,
     ⟨_, (h hd [] 0 0 false false false 5 1 0 0 1 (tw Mode.active 1 4 [] {})).2.2.2.2.2.2.2.2.2.2.2.2.2.1 (by decide)⟩,
     ⟨_, (h hd [] 0 0 false false false 5 1 0 0 1 (tw Mode.standby 2 4 [] {})).2.2.2.2.2.2.2.2.2.2.2.2.2.2.1 (by decide)⟩,
     ⟨_, ((h hd [] 0 0 false false false 5 1 0 5 1 (tw Mode.standby 2 4 [] {})).2.2.2.2.2.2.2.2.2.2.2.2.2.2.2).1 (by decide)⟩,
     ⟨_, ((h ⟨0, 0, 0⟩ [] 0 0 false false false 5 1 0 5 1 (tw Mode.standby 2 4 [] {})).2.2.2.2.2.2.2.2.2.2.2.2.2.2.2).2.1 (by decide) (by decide) (by decide)⟩,
     ⟨_, ((h ⟨0, 5, 0⟩ [] 0 0 false false false 5 1 0 5 1 ((tw Mode.standby 2 4 [] {}).setTwin fun t => { t with rxSeq := 6 })).2.2.2.2.2.2.2.2.2.2.2.2.2.2.2).2.2.1 (by decide) (by decide) (by decide)⟩,
     ⟨_, ((h hd [] 0 0 false false false 5 1 0 5 1 (st [])).2.2.2.2.2.2.2.2.2.2.2.2.2.2.2).2.2.2 (by decide)⟩⟩

theorem witness_TwinLink_2 (h : Obligations.TwinLink) :
    Runs (.cobaltLinkLost true) (tw Mode.standby 2 4 [] {}) ∧ Runs (.cobaltLinkLost true) (st []) ∧
    Runs (.cobaltRetxTimeout ()) (tw Mode.standby 2 4 [] { unacked := [late 3] }) ∧
    Runs (.cobaltRetxTimeout ()) (tw Mode.standby 2 4 [] { unacked := [late 2] }) ∧
    Runs (.cobaltRetxTimeout ()) (tw Mode.standby 2 4 [] {}) ∧ Runs (.giveupRx hd 255) (tw Mode.standby 2 4 [] {}) ∧
    Runs (.giveupRx hd 255) (tw Mode.active 1 4 [] {}) ∧ Runs (.giveupRx hd 255) (tw Mode.standalone 0 1 [] {}) ∧
    Runs .silenceTakeover (tw Mode.standby 2 5 [(F.COBALT_CTRL_TAKE_ON_SILENCE, 0, 1)] {}) ∧ Runs .silenceTakeover (st []) :=
    ⟨⟨_, (h.2 hd 0 true (tw Mode.standby 2 4 [] {})).1 (by decide)⟩, ⟨_, (h.2 hd 0 true (st [])).2.1 (by decide)⟩,
     ⟨_, (h.2 hd 0 true (tw Mode.standby 2 4 [] { unacked := [late 3] })).2.2.1 (late 3) (by decide) (by decide)⟩,
     ⟨_, (h.2 hd 0 true (tw Mode.standby 2 4 [] { unacked := [late 2] })).2.2.2.1 (late 2) (by decide) (by decide)⟩,
     ⟨_, (h.2 hd 0 true (tw Mode.standby 2 4 [] {})).2.2.2.2.1 (by decide)⟩,
     ⟨_, ((h.2 hd 255 true (tw Mode.standby 2 4 [] {})).2.2.2.2.2.1 (by decide)).1 (by decide)⟩,
     ⟨_, ((h.2 hd 255 true (tw Mode.active 1 4 [] {})).2.2.2.2.2.2.1 (by decide)).1 (by decide)⟩,
     ⟨_, ((h.2 hd 255 true (tw Mode.standalone 0 1 [] {})).2.2.2.2.2.2.2.1 (by decide) (by decide)).1 (by decide)⟩,
     ⟨_, (h.2 hd 255 true (tw Mode.standby 2 5 [(F.COBALT_CTRL_TAKE_ON_SILENCE, 0, 1)] {})).2.2.2.2.2.2.2.2.1 (by decide)⟩,
     ⟨_, (h.2 hd 255 true (st [])).2.2.2.2.2.2.2.2.2 (by decide)⟩⟩

theorem witness_TransferAndDigests (h : Obligations.TransferAndDigests) :
    Runs .stateTransferFreeze (tw Mode.active 1 2 [] { peerMode := Mode.standby }) ∧
    Runs .stateTransferFreeze (st [(F.CUE_STATUS_STATE, 0, Es.running)]) ∧ Runs (.stateRx hd 0 (0, [])) (tw Mode.active 1 2 [] {}) ∧
    Runs (.stateRx hd 1 (0, [5])) (tw Mode.standby 2 2 [] {}) ∧ Runs (.stateRx hd 1 (0, [1])) (tw Mode.standby 2 2 [] {}) ∧
    Runs (.stateRx hd 15 (0, [1])) (tw Mode.standby 2 2 [] {}) ∧ Runs (.digestTx 0 [8191]) (sw 1 (st [])) ∧
    Runs (.digestTx 7 []) (st []) ∧ Runs (.digestRx hd 7 5 [(1, 2)]) (tw Mode.standby 2 2 [] {}) ∧
    Runs .pairInStep (tw Mode.standby 2 3 [] { cleanFrames := 64 }) ∧ Runs .pairInStep (tw Mode.standby 2 3 [] { cleanFrames := 63 }) :=
    ⟨⟨_, (h hd 0 0 0 [] 0 [] [] (tw Mode.active 1 2 [] { peerMode := Mode.standby })).1 (by decide)⟩,
     ⟨_, (h hd 0 0 0 [] 0 [] [] (st [(F.CUE_STATUS_STATE, 0, Es.running)])).2.1 (by decide)⟩,
     ⟨_, ((h hd 0 0 0 [] 0 [] [] (tw Mode.active 1 2 [] {})).2.2.1 (by decide)).1 (by decide)⟩,
     ⟨_, ((h hd 1 0 0 [5] 0 [] [] (tw Mode.standby 2 2 [] {})).2.2.2.1 (by decide) (by decide)).1 (by decide)⟩,
     ⟨_, ((h hd 1 0 0 [1] 0 [] [] (tw Mode.standby 2 2 [] {})).2.2.2.2.1 (by decide) (by decide) (by decide)).1 (by decide)⟩,
     ⟨_, ((h hd 15 0 0 [1] 0 [] [] (tw Mode.standby 2 2 [] {})).2.2.2.2.2.1 (by decide) (by decide) (by decide)).1 (by decide)⟩,
     ⟨_, (h hd 0 0 0 [] 0 [8191] [] (sw 1 (st []))).2.2.2.2.2.2.1 (by decide)⟩,
     ⟨_, (h hd 0 0 0 [] 7 [] [] (st [])).2.2.2.2.2.2.2.1 (by decide)⟩,
     ⟨_, ((h hd 0 0 5 [] 7 [] [(1, 2)] (tw Mode.standby 2 2 [] {})).2.2.2.2.2.2.2.2.1).1 (by decide)⟩,
     ⟨_, (h hd 0 0 5 [] 7 [] [] (tw Mode.standby 2 3 [] { cleanFrames := 64 })).2.2.2.2.2.2.2.2.2.1 (by decide)⟩,
     ⟨_, (h hd 0 0 5 [] 7 [] [] (tw Mode.standby 2 3 [] { cleanFrames := 63 })).2.2.2.2.2.2.2.2.2.2 (by decide)⟩⟩

theorem witness_SwapCommands_1 (h : Obligations.SwapCommands) :
    Runs (.swapGo 0) (st []) ∧ Runs (.swapGo 0) (shut (st [])) ∧ Runs (.swapCancel 0xFFFFFFFE) (st []) ∧
    Runs (.swapCancel 0xFFFFFFFE) (shut (st [])) ∧ (∃ t, (st []).swapPropose 5 = t) ∧
    (∃ t, (ras 0 ⟨4, 1, 0⟩ (tw Mode.standby 2 4 [] {})).swapPropose 5 = t) ∧
    (∃ t, (tw Mode.active 1 4 [] { swapActive := true, swapFrame := 5 }).swapPropose 5 = t) ∧
    (∃ t, (ras 0 ⟨4, 1, 0⟩ (tw Mode.active 1 4 [] {})).swapPropose 4 = t) ∧
    (∃ t, (ras 0 ⟨4, 1, 0⟩ (tw Mode.active 1 4 [] {})).swapPropose 5 = t) ∧
    Runs .swapAutoTimer (tw Mode.active 1 4 [(F.COBALT_CTRL_SWAP_AUTO, 0, 1)] {}) ∧ Runs .swapAutoTimer (st []) ∧
    Runs (.swapRx hd 0 5) (ras 0 ⟨4, 1, 0⟩ (tw Mode.standby 2 4 [] {})) ∧
    Runs (.swapRx hd 1 5) (ras 0 ⟨4, 1, 0⟩ (tw Mode.standby 2 4 [] {})) ∧
    Runs (.swapRx hd 1 4) (ras 0 ⟨4, 1, 0⟩ (tw Mode.standby 2 4 [] {})) ∧
    Runs (.swapRx hd 2 4) (ras 0 ⟨4, 1, 0⟩ (tw Mode.standby 2 4 [] {})) ∧
    Runs (.swapRx hd 2 5) (tw Mode.active 1 4 [] { swapActive := true, swapFrame := 5 }) ∧
    Runs (.swapRx hd 2 6) (tw Mode.active 1 4 [] { swapActive := true, swapFrame := 5 }) ∧
    Runs (.swapRx hd 3 5) (ras 0 ⟨4, 1, 0⟩ (tw Mode.standby 2 4 [] {})) ∧
    Runs (.swapRx hd 3 5) (tw Mode.active 1 4 [] { swapActive := true, swapFrame := 5 }) ∧
    Runs (.swapRx hd 3 5) (tw Mode.standby 2 4 [] { swapActive := true }) ∧
    Runs (.swapRx hd 4 6) (tw Mode.standby 2 4 [] { swapAgreed := true, swapFrame := 5 }) ∧
    Runs (.swapRx hd 4 6) (ras 0 ⟨4, 1, 0⟩ (tw Mode.standby 2 4 [] {})) ∧
    Runs .swapFetchStop (ras 0 ⟨4, 1, 0⟩ (tw Mode.active 1 4 [] { swapAgreed := true, swapFrame := 5 })) ∧ Runs .swapFetchStop (st []) ∧
    Runs .swapExecute (due Mode.active {} {}) ∧
    Runs .swapExecute (due Mode.active { win := some ⟨[], 0, 1, false, none⟩ } { swapDefer := 16 }) ∧
    Runs .swapExecute (due Mode.active { win := some ⟨[], 0, 1, false, none⟩ } { swapDefer := 15 }) ∧
    Runs .swapExecute (due Mode.standby { win := some ⟨[], 0, 1, false, none⟩ } {}) ∧ Runs .swapExecute (st []) :=
    ⟨⟨_, ((h.1 hd 0 0 (st [])).1).1 (by decide)⟩, ⟨_, ((h.1 hd 0 0 (shut (st []))).1).2 (by decide)⟩,
     ⟨_, ((h.1 hd 0 0xFFFFFFFE (st [])).2.1).1 (by decide)⟩, ⟨_, ((h.1 hd 0 0xFFFFFFFE (shut (st []))).2.1).2 (by decide)⟩,
     ⟨_, (h.1 hd 5 0 (st [])).2.2.1 (by decide)⟩,
     ⟨_, (h.1 hd 5 0 (ras 0 ⟨4, 1, 0⟩ (tw Mode.standby 2 4 [] {}))).2.2.2.1 (by decide) (by decide)⟩,
     ⟨_, (h.1 hd 5 0 (tw Mode.active 1 4 [] { swapActive := true, swapFrame := 5 })).2.2.2.2.1 (by decide) (by decide) (by decide)⟩,
     ⟨_, (h.1 hd 4 0 (ras 0 ⟨4, 1, 0⟩ (tw Mode.active 1 4 [] {}))).2.2.2.2.2.1 (by decide) (by decide) (by decide) (by decide)⟩,
     ⟨_, (h.1 hd 5 0 (ras 0 ⟨4, 1, 0⟩ (tw Mode.active 1 4 [] {}))).2.2.2.2.2.2.1 (by decide) (by decide) (by decide) (by decide)⟩,
     ⟨_, (h.1 hd 5 0 (tw Mode.active 1 4 [(F.COBALT_CTRL_SWAP_AUTO, 0, 1)] {})).2.2.2.2.2.2.2.1 (by decide)⟩,
     ⟨_, (h.1 hd 5 0 (st [])).2.2.2.2.2.2.2.2.1 (by decide)⟩,
     ⟨_, ((h.1 hd 5 0 (ras 0 ⟨4, 1, 0⟩ (tw Mode.standby 2 4 [] {}))).2.2.2.2.2.2.2.2.2.1).1 (by decide)⟩,
     ⟨_, ((h.1 hd 5 0 (ras 0 ⟨4, 1, 0⟩ (tw Mode.standby 2 4 [] {}))).2.2.2.2.2.2.2.2.2.2.1 (by decide)).1 (by decide)⟩,
     ⟨_, ((h.1 hd 4 0 (ras 0 ⟨4, 1, 0⟩ (tw Mode.standby 2 4 [] {}))).2.2.2.2.2.2.2.2.2.2.2.1 (by decide)).1 (by decide)⟩,
     ⟨_, ((h.1 hd 4 0 (ras 0 ⟨4, 1, 0⟩ (tw Mode.standby 2 4 [] {}))).2.2.2.2.2.2.2.2.2.2.2.2.1 (by decide)).1 (by decide)⟩,
     ⟨_, ((h.1 hd 5 0 (tw Mode.active 1 4 [] { swapActive := true, swapFrame := 5 })).2.2.2.2.2.2.2.2.2.2.2.2.2.1 (by decide) (by decide) (by decide)).1 (by decide)⟩,
     ⟨_, ((h.1 hd 6 0 (tw Mode.active 1 4 [] { swapActive := true, swapFrame := 5 })).2.2.2.2.2.2.2.2.2.2.2.2.2.2.1 (by decide) (by decide) (by decide)).1 (by decide)⟩,
     ⟨_, ((h.1 hd 5 0 (ras 0 ⟨4, 1, 0⟩ (tw Mode.standby 2 4 [] {}))).2.2.2.2.2.2.2.2.2.2.2.2.2.2.2.1 (by decide)).1 (by decide)⟩,
     ⟨_, ((h.1 hd 5 0 (tw Mode.active 1 4 [] { swapActive := true, swapFrame := 5 })).2.2.2.2.2.2.2.2.2.2.2.2.2.2.2.2.1 (by decide) (by decide)).1 (by decide)⟩,
     ⟨_, ((h.1 hd 5 0 (tw Mode.standby 2 4 [] { swapActive := true })).2.2.2.2.2.2.2.2.2.2.2.2.2.2.2.2.2.1 (by decide) (by decide)).1 (by decide)⟩,
     ⟨_, ((h.1 hd 6 0 (tw Mode.standby 2 4 [] { swapAgreed := true, swapFrame := 5 })).2.2.2.2.2.2.2.2.2.2.2.2.2.2.2.2.2.2.1 (by decide)).1 (by decide)⟩,
     ⟨_, ((h.1 hd 6 0 (ras 0 ⟨4, 1, 0⟩ (tw Mode.standby 2 4 [] {}))).2.2.2.2.2.2.2.2.2.2.2.2.2.2.2.2.2.2.2.1 (by decide)).1 (by decide)⟩,
     ⟨_, (h.1 hd 5 0 (ras 0 ⟨4, 1, 0⟩ (tw Mode.active 1 4 [] { swapAgreed := true, swapFrame := 5 }))).2.2.2.2.2.2.2.2.2.2.2.2.2.2.2.2.2.2.2.2.1 (by decide)⟩,
     ⟨_, (h.1 hd 5 0 (st [])).2.2.2.2.2.2.2.2.2.2.2.2.2.2.2.2.2.2.2.2.2.1 (by decide)⟩,
     ⟨_, (h.1 hd 5 0 (due Mode.active {} {})).2.2.2.2.2.2.2.2.2.2.2.2.2.2.2.2.2.2.2.2.2.2.1 (by decide) (by decide)⟩,
     ⟨_, (h.1 hd 5 0 (due Mode.active { win := some ⟨[], 0, 1, false, none⟩ } { swapDefer := 16 })).2.2.2.2.2.2.2.2.2.2.2.2.2.2.2.2.2.2.2.2.2.2.2.1 (by decide) (by decide) (by decide)⟩,
     ⟨_, (h.1 hd 5 0 (due Mode.active { win := some ⟨[], 0, 1, false, none⟩ } { swapDefer := 15 })).2.2.2.2.2.2.2.2.2.2.2.2.2.2.2.2.2.2.2.2.2.2.2.2.1 (by decide) (by decide) (by decide) (by decide)⟩,
     ⟨_, (h.1 hd 5 0 (due Mode.standby { win := some ⟨[], 0, 1, false, none⟩ } {})).2.2.2.2.2.2.2.2.2.2.2.2.2.2.2.2.2.2.2.2.2.2.2.2.2.1 (by decide) (by decide) (by decide) (by decide)⟩,
     ⟨_, (h.1 hd 5 0 (st [])).2.2.2.2.2.2.2.2.2.2.2.2.2.2.2.2.2.2.2.2.2.2.2.2.2.2 (by decide)⟩⟩

theorem witness_SwapCommands_2 (h : Obligations.SwapCommands) :
    Runs .swapExecute (due Mode.active {} {}) :=
    Exists.imp (fun _ e => e.1) (h.2 (due Mode.active {} {}) (by decide) (by decide) (by decide))

theorem witness_MirrorCommands (h : Obligations.MirrorCommands) :
    Runs (.recordRx hd 4 []) (tw Mode.standby 2 2 [] {}) ∧ Runs (.recordRx hd 4 []) (sby Es.idle {}) ∧
    Runs (.recordRx hd 4 [0x2000000]) (sby Es.waiting {}) ∧
    Runs (.recordRx hd 4 []) (sby Es.idle { win := some ⟨[], 0, 1, false, none⟩ }) ∧
    Runs (.valueRx hd 7 0 1 ⟨0, 0, 0⟩ [2]) (sby Es.idle {}) ∧ Runs (.valueRx hd 4 0 1 ⟨0, 0, 0⟩ [2]) (sby Es.running {}) ∧
    Runs (.valueRx hd 4 0 1 ⟨0, 0, 0⟩ [2]) (sby Es.halted {}) ∧ Runs (.hostwRx hd 0 0 ⟨0, 0, 0⟩ []) (sby Es.idle {}) ∧
    Runs (.cackRx hd 4 0x1FFFC 0) ((tw Mode.active 1 4 [(F.CUE_PC_PC, 4, 0x1FFFC)] {}).setEng 4 { wait := .commit 0 5 none }) ∧
    Runs (.cackRx hd 4 0x1FFF8 0) ((tw Mode.active 1 4 [(F.CUE_PC_PC, 4, 0x1FFFC)] {}).setEng 4 { wait := .commit 0 5 none }) ∧
    Runs (.cackRx hd 4 0 0) (tw Mode.active 1 4 [] { alone := true }) ∧ Runs (.cackRx hd 4 0 0) (tw Mode.active 1 4 [] {}) ∧
    Runs (.cackTimeout 4) { (st []).setEng 4 { wait := .commit 0 5 none } with clk := 10 ^ 9 } ∧
    Runs (.cackTimeout 4) ((tw Mode.active 1 4 [] {}).setEng 4 { wait := .commit 0 5 (some 7) }) ∧
    Runs (.cackTimeout 4) ((st []).setEng 4 { wait := .commit 0 5 none }) ∧ Runs (.cackTimeout 4) (st []) :=
    ⟨⟨_, ((h hd 4 0 [] [] [] 0 0 0 0 0 ⟨0, 0, 0⟩ (tw Mode.standby 2 2 [] {})).1 (by decide)).1.1 (by decide)⟩,
     ⟨_, ((h hd 4 0 [] [] [] 0 0 0 0 0 ⟨0, 0, 0⟩ (sby Es.idle {})).2.1 (by decide) (by decide) (by decide)).1 (by decide)⟩,
     ⟨_, ((h hd 4 0 [0x2000000] [] [] 0 0 0 0 0 ⟨0, 0, 0⟩ (sby Es.waiting {})).2.2.1 (by decide) (by decide) (by decide)).1 (by decide)⟩,
     ⟨_, ((h hd 4 0 [] [] [] 0 0 0 0 0 ⟨0, 0, 0⟩ (sby Es.idle { win := some ⟨[], 0, 1, false, none⟩ })).2.2.2.1 (by decide) (by decide)).1 (by decide)⟩,
     ⟨_, ((h hd 4 7 [] [2] [] 0 1 0 0 0 ⟨0, 0, 0⟩ (sby Es.idle {})).2.2.2.2.1 (by decide) (by decide)).1 (by decide)⟩,
     ⟨_, ((h hd 4 4 [] [2] [] 0 1 0 0 0 ⟨0, 0, 0⟩ (sby Es.running {})).2.2.2.2.2.1 (by decide) (by decide) (by decide)).1 (by decide)⟩,
     ⟨_, ((h hd 4 4 [] [2] [] 0 1 0 0 0 ⟨0, 0, 0⟩ (sby Es.halted {})).2.2.2.2.2.2.1 (by decide) (by decide) (by decide)).1 (by decide)⟩,
     ⟨_, ((h hd 4 4 [] [2] [] 0 1 0 0 0 ⟨0, 0, 0⟩ (sby Es.idle {})).2.2.2.2.2.2.2.1 (by decide)).1 (by decide)⟩,
     ⟨_, ((h hd 4 0 [] [] [] 0x1FFFC 0 0 0 0 ⟨0, 0, 0⟩ ((tw Mode.active 1 4 [(F.CUE_PC_PC, 4, 0x1FFFC)] {}).setEng 4 { wait := .commit 0 5 none })).2.2.2.2.2.2.2.2.1 0 5 none rfl (by decide)).1 (by decide)⟩,
     ⟨_, ((h hd 4 0 [] [] [] 0x1FFF8 0 0 0 0 ⟨0, 0, 0⟩ ((tw Mode.active 1 4 [(F.CUE_PC_PC, 4, 0x1FFFC)] {}).setEng 4 { wait := .commit 0 5 none })).2.2.2.2.2.2.2.2.2.1 0 5 none rfl (by decide)).1 (by decide)⟩,
     ⟨_, ((h hd 4 0 [] [] [] 0 0 0 0 0 ⟨0, 0, 0⟩ (tw Mode.active 1 4 [] { alone := true })).2.2.2.2.2.2.2.2.2.2.1 (by decide) (by decide)).1 (by decide)⟩,
     ⟨_, ((h hd 4 0 [] [] [] 0 0 0 0 0 ⟨0, 0, 0⟩ (tw Mode.active 1 4 [] {})).2.2.2.2.2.2.2.2.2.2.2.1 (by decide) (by decide)).1 (by decide)⟩,
     ⟨_, (h hd 4 0 [] [] [] 0 0 0 0 0 ⟨0, 0, 0⟩ { (st []).setEng 4 { wait := .commit 0 5 none } with clk := 10 ^ 9 }).2.2.2.2.2.2.2.2.2.2.2.2.1 0 5 none rfl (by decide) (by decide)⟩,
     ⟨_, (h hd 4 0 [] [] [] 0 0 0 0 0 ⟨0, 0, 0⟩ ((tw Mode.active 1 4 [] {}).setEng 4 { wait := .commit 0 5 (some 7) })).2.2.2.2.2.2.2.2.2.2.2.2.2.1 0 5 (some 7) rfl (by decide) (by decide)⟩,
     ⟨_, (h hd 4 0 [] [] [] 0 0 0 0 0 ⟨0, 0, 0⟩ ((st []).setEng 4 { wait := .commit 0 5 none })).2.2.2.2.2.2.2.2.2.2.2.2.2.2.1 0 5 none rfl (by decide)⟩,
     ⟨_, (h hd 4 0 [] [] [] 0 0 0 0 0 ⟨0, 0, 0⟩ (st [])).2.2.2.2.2.2.2.2.2.2.2.2.2.2.2 (by decide)⟩⟩

theorem witness_AdmissionCommands (h : Obligations.AdmissionCommands) :
    Runs (.admitAskGo 4) (askFull (ask Mode.standalone 1 0)) ∧ Runs (.admitAskGo 4) (shut (askFull (ask Mode.standalone 1 0))) ∧
    Runs (.admitAskGo 0xFFFFFFFD) (ask Mode.standby 1 0) ∧ Runs (.admitAskGo 0) (ask Mode.standalone 0 0) ∧
    Runs (.admitAskGo 0) (ask Mode.standalone 1 1) ∧ Runs (.admitAskGo 0) (ask Mode.standby 3 0) ∧
    Runs (.admitAskCancel 0) (ask Mode.standby 3 0) ∧ Runs (.admitAskCancel 0) (ask Mode.standalone 3 1) ∧
    Runs (.admitAskCancel 0) (shut (ask Mode.standalone 3 1)) ∧ Runs (.admitAskCancel 1) (ask Mode.standalone 3 1) ∧
    Runs .admitQueueGrant ({ holds (st []) with adm := { queue := [⟨2, 3, 0, 0⟩] } }) ∧
    Runs .admitQueueGrant ({ ask Mode.standalone 1 0 with adm := { queue := [⟨2, 1, 151, 1⟩] } }) ∧ Runs .admitQueueGrant (st []) ∧
    Runs (.askTimeout 4) (waits (.ask 15 (some 3)) 3 []) ∧ Runs (.askTimeout 4) (st []) ∧
    Runs (.admitGiveGo 2048) (st [(F.ADMIT_LEDGER_CLASS, 2048, 2), (F.ADMIT_LEDGER_HOLDER, 2048, 7), (F.ADMIT_LEDGER_VALID, 2048, 1)]) ∧
    Runs (.admitGiveGo 2048) (shut (st [(F.ADMIT_LEDGER_CLASS, 2048, 2), (F.ADMIT_LEDGER_HOLDER, 2048, 7), (F.ADMIT_LEDGER_VALID, 2048, 1)])) ∧
    Runs (.admitGiveGo 0xFFF) (st []) ∧ Runs (.admitGiveGo 0x10FFF) (st []) ∧ Runs (.admitGiveGo 0x7FF) (up Mode.standby) :=
    ⟨⟨_, ((h 0 4 (askFull (ask Mode.standalone 1 0))).1 (by decide) (by decide)).1 (by decide)⟩,
     ⟨_, ((h 0 4 (shut (askFull (ask Mode.standalone 1 0)))).1 (by decide) (by decide)).2 (by decide)⟩,
     ⟨_, ((h 0 0xFFFFFFFD (ask Mode.standby 1 0)).2.1 (by decide) (by decide)).1 (by decide)⟩,
     ⟨_, ((h 0 0 (ask Mode.standalone 0 0)).2.2.1 Rc.arg (by decide) (by decide) (by decide)).1 (by decide)⟩,
     ⟨_, ((h 0 0 (ask Mode.standalone 1 1)).2.2.2.1 (by decide) (by decide)).1 (by decide)⟩,
     ⟨_, ((h 0 0 (ask Mode.standby 3 0)).2.2.2.2.1 (by decide)).1.1 (by decide)⟩,
     ⟨_, ((h 0 0 (ask Mode.standby 3 0)).2.2.2.2.1 (by decide)).2.1 (by decide)⟩,
     ⟨_, ((h 0 0 (ask Mode.standalone 3 1)).2.2.2.2.2.1 (by decide) (by decide)).1 (by decide)⟩,
     ⟨_, ((h 0 0 (shut (ask Mode.standalone 3 1))).2.2.2.2.2.1 (by decide) (by decide)).2 (by decide)⟩,
     ⟨_, ((h 0 1 (ask Mode.standalone 3 1)).2.2.2.2.2.2.1 (by decide) (by decide)).1 (by decide)⟩,
     ⟨_, (h 0 0 ({ holds (st []) with adm := { queue := [⟨2, 3, 0, 0⟩] } })).2.2.2.2.2.2.2.1 ⟨2, 3, 0, 0⟩ (by decide) (by decide)⟩,
     ⟨_, (h 0 0 ({ ask Mode.standalone 1 0 with adm := { queue := [⟨2, 1, 151, 1⟩] } })).2.2.2.2.2.2.2.2.1 ⟨2, 1, 151, 1⟩ (by decide) (by decide) ⟨⟨1, 0, 0, 0⟩, by decide, by decide⟩⟩,
     ⟨_, (h 0 0 (st [])).2.2.2.2.2.2.2.2.2.1 (fun _ e => nomatch e.1)⟩,
     ⟨_, (h 4 0 (waits (.ask 15 (some 3)) 3 [])).2.2.2.2.2.2.2.2.2.2.1 15 3 (by decide)⟩,
     ⟨_, (h 4 0 (st [])).2.2.2.2.2.2.2.2.2.2.2.1 (fun _ _ e => nomatch e.1)⟩,
     ⟨_, ((h 4 2048 (st [(F.ADMIT_LEDGER_CLASS, 2048, 2), (F.ADMIT_LEDGER_HOLDER, 2048, 7), (F.ADMIT_LEDGER_VALID, 2048, 1)])).2.2.2.2.2.2.2.2.2.2.2.2.1 (by decide) (by decide)).1 (by decide)⟩,
     ⟨_, ((h 4 2048 (shut (st [(F.ADMIT_LEDGER_CLASS, 2048, 2), (F.ADMIT_LEDGER_HOLDER, 2048, 7), (F.ADMIT_LEDGER_VALID, 2048, 1)]))).2.2.2.2.2.2.2.2.2.2.2.2.1 (by decide) (by decide)).2 (by decide)⟩,
     ⟨_, ((h 4 0xFFF (st [])).2.2.2.2.2.2.2.2.2.2.2.2.2.1 (by decide) (by decide) (by decide)).1 (by decide)⟩,
     ⟨_, ((h 4 0x10FFF (st [])).2.2.2.2.2.2.2.2.2.2.2.2.2.2.1 (by decide) (by decide) (by decide)).1 (by decide)⟩,
     ⟨_, ((h 4 0x7FF (up Mode.standby)).2.2.2.2.2.2.2.2.2.2.2.2.2.2.2 (by decide)).1 (by decide)⟩⟩

theorem witness_PowerAndHeat (h : Obligations.PowerAndHeat) :
    Runs (.powerMeasure 65535) (st []) ∧
    Runs (.powerMeasure 65535) ({ st [] with adm := { lastPower := some 0, lastTemp := some 0, lastLoop := some 0, lastEmer := some 0 } }) ∧
    Runs (.thermalRead [255]) (st []) ∧
    Runs (.thermalRead [255]) ({ st [] with adm := { lastPower := some 0, lastTemp := some 0, lastLoop := some 0, lastEmer := some 0 } }) ∧
    (({ (st [(F.ADMIT_THERM_CFG_WARN, 0, 95), (F.ADMIT_THERM_CFG_ALARM, 0, 105), (F.ADMIT_THERM_CFG_HYST, 0, 5)]) with adm := { (st [(F.ADMIT_THERM_CFG_WARN, 0, 95), (F.ADMIT_THERM_CFG_ALARM, 0, 105), (F.ADMIT_THERM_CFG_HYST, 0, 5)]).adm with lastTemp := some (st [(F.ADMIT_THERM_CFG_WARN, 0, 95), (F.ADMIT_THERM_CFG_ALARM, 0, 105), (F.ADMIT_THERM_CFG_HYST, 0, 5)]).clk } } : State).readSensors [255]).rd F.ADMIT_TEMP_TJ 0 = 255 ∧
    (({ (st [(F.ADMIT_THERM_CFG_WARN, 0, 95), (F.ADMIT_THERM_CFG_ALARM, 0, 105), (F.ADMIT_THERM_CFG_HYST, 0, 5)]) with adm := { (st [(F.ADMIT_THERM_CFG_WARN, 0, 95), (F.ADMIT_THERM_CFG_ALARM, 0, 105), (F.ADMIT_THERM_CFG_HYST, 0, 5)]).adm with lastTemp := some (st [(F.ADMIT_THERM_CFG_WARN, 0, 95), (F.ADMIT_THERM_CFG_ALARM, 0, 105), (F.ADMIT_THERM_CFG_HYST, 0, 5)]).clk } } : State).readSensors [95]).rd F.ADMIT_STATUS_THERM_HOLD 0 = 1 ∧
    (({ (st [(F.ADMIT_THERM_CFG_WARN, 0, 95), (F.ADMIT_THERM_CFG_ALARM, 0, 105), (F.ADMIT_THERM_CFG_HYST, 0, 5)]) with adm := { (st [(F.ADMIT_THERM_CFG_WARN, 0, 95), (F.ADMIT_THERM_CFG_ALARM, 0, 105), (F.ADMIT_THERM_CFG_HYST, 0, 5)]).adm with lastTemp := some (st [(F.ADMIT_THERM_CFG_WARN, 0, 95), (F.ADMIT_THERM_CFG_ALARM, 0, 105), (F.ADMIT_THERM_CFG_HYST, 0, 5)]).clk } } : State).readSensors [90]).rd F.ADMIT_STATUS_THERM_HOLD 0 = 0 ∧
    (({ (st [(F.ADMIT_THERM_CFG_WARN, 0, 95), (F.ADMIT_THERM_CFG_ALARM, 0, 105), (F.ADMIT_THERM_CFG_HYST, 0, 5)]) with adm := { (st [(F.ADMIT_THERM_CFG_WARN, 0, 95), (F.ADMIT_THERM_CFG_ALARM, 0, 105), (F.ADMIT_THERM_CFG_HYST, 0, 5)]).adm with lastTemp := some (st [(F.ADMIT_THERM_CFG_WARN, 0, 95), (F.ADMIT_THERM_CFG_ALARM, 0, 105), (F.ADMIT_THERM_CFG_HYST, 0, 5)]).clk } } : State).readSensors [91]).on F.ADMIT_STATUS_THERM_HOLD 0 = (st [(F.ADMIT_THERM_CFG_WARN, 0, 95), (F.ADMIT_THERM_CFG_ALARM, 0, 105), (F.ADMIT_THERM_CFG_HYST, 0, 5)]).on F.ADMIT_STATUS_THERM_HOLD 0 ∧
    (({ (st [(F.ADMIT_THERM_CFG_WARN, 0, 95), (F.ADMIT_THERM_CFG_ALARM, 0, 105), (F.ADMIT_THERM_CFG_HYST, 0, 5)]) with adm := { (st [(F.ADMIT_THERM_CFG_WARN, 0, 95), (F.ADMIT_THERM_CFG_ALARM, 0, 105), (F.ADMIT_THERM_CFG_HYST, 0, 5)]).adm with lastTemp := some (st [(F.ADMIT_THERM_CFG_WARN, 0, 95), (F.ADMIT_THERM_CFG_ALARM, 0, 105), (F.ADMIT_THERM_CFG_HYST, 0, 5)]).clk } } : State).readSensors [105]).rd F.ADMIT_STATUS_TEMP_ALARM 0 = 1 ∧
    (({ (st [(F.ADMIT_THERM_CFG_WARN, 0, 95), (F.ADMIT_THERM_CFG_ALARM, 0, 105), (F.ADMIT_THERM_CFG_HYST, 0, 5)]) with adm := { (st [(F.ADMIT_THERM_CFG_WARN, 0, 95), (F.ADMIT_THERM_CFG_ALARM, 0, 105), (F.ADMIT_THERM_CFG_HYST, 0, 5)]).adm with lastTemp := some (st [(F.ADMIT_THERM_CFG_WARN, 0, 95), (F.ADMIT_THERM_CFG_ALARM, 0, 105), (F.ADMIT_THERM_CFG_HYST, 0, 5)]).clk } } : State).readSensors [100]).rd F.ADMIT_STATUS_TEMP_ALARM 0 = 0 ∧
    (({ (st [(F.ADMIT_THERM_CFG_WARN, 0, 95), (F.ADMIT_THERM_CFG_ALARM, 0, 105), (F.ADMIT_THERM_CFG_HYST, 0, 5)]) with adm := { (st [(F.ADMIT_THERM_CFG_WARN, 0, 95), (F.ADMIT_THERM_CFG_ALARM, 0, 105), (F.ADMIT_THERM_CFG_HYST, 0, 5)]).adm with lastTemp := some (st [(F.ADMIT_THERM_CFG_WARN, 0, 95), (F.ADMIT_THERM_CFG_ALARM, 0, 105), (F.ADMIT_THERM_CFG_HYST, 0, 5)]).clk } } : State).readSensors [101]).on F.ADMIT_STATUS_TEMP_ALARM 0 = (st [(F.ADMIT_THERM_CFG_WARN, 0, 95), (F.ADMIT_THERM_CFG_ALARM, 0, 105), (F.ADMIT_THERM_CFG_HYST, 0, 5)]).on F.ADMIT_STATUS_TEMP_ALARM 0 ∧
    Runs (.thermCfgWrite 0x7070) (st []) ∧ Runs (.thermCfgWrite 0x7070) (shut (st [])) ∧ Runs (.thermCfgWrite 0x7170) (st []) ∧
    Runs (.thermCfgWrite 0x6F70) (st []) ∧ Runs .thermtrip (st []) ∧
    Runs (.avsLoopTick 0 true) ({ st [] with adm := { frozen := true } }) ∧ Runs (.avsLoopTick 256 true) (st []) ∧
    Runs (.avsLoopTick 256 true) ({ st [] with adm := { lastPower := some 0, lastTemp := some 0, lastLoop := some 0, lastEmer := some 0 } }) ∧
    Runs (.avsEmergency 4) (st [(F.ADMIT_AVS_CTRL_FREEZE, 0, 0), (F.ADMIT_AVS_CFG_SLACK_EMER, 0, 5)]) ∧
    Runs (.avsEmergency 5) (st [(F.ADMIT_AVS_CTRL_FREEZE, 0, 0), (F.ADMIT_AVS_CFG_SLACK_EMER, 0, 5)]) ∧
    Runs (.avsEmergency 5) ({ st [] with adm := { lastPower := some 0, lastTemp := some 0, lastLoop := some 0, lastEmer := some 0 } }) ∧
    Runs .avsTransactionFail (st []) :=
    ⟨⟨_, (h 65535 0 false [] 0 (st [])).1 (by decide)⟩,
     ⟨_, (h 65535 0 false [] 0 ({ st [] with adm := { lastPower := some 0, lastTemp := some 0, lastLoop := some 0, lastEmer := some 0 } })).2.1 (by decide)⟩,
     ⟨_, (h 65535 0 false [255] 0 (st [])).2.2.1 (by decide)⟩,
     ⟨_, (h 65535 0 false [255] 0 ({ st [] with adm := { lastPower := some 0, lastTemp := some 0, lastLoop := some 0, lastEmer := some 0 } })).2.2.2.1 (by decide)⟩,
     ((h 0 0 false [255] 0 (st [(F.ADMIT_THERM_CFG_WARN, 0, 95), (F.ADMIT_THERM_CFG_ALARM, 0, 105), (F.ADMIT_THERM_CFG_HYST, 0, 5)])).2.2.2.2.1 (by decide)).1,
     (h 0 0 false [95] 0 (st [(F.ADMIT_THERM_CFG_WARN, 0, 95), (F.ADMIT_THERM_CFG_ALARM, 0, 105), (F.ADMIT_THERM_CFG_HYST, 0, 5)])).2.2.2.2.2.1 (by decide),
     (h 0 0 false [90] 0 (st [(F.ADMIT_THERM_CFG_WARN, 0, 95), (F.ADMIT_THERM_CFG_ALARM, 0, 105), (F.ADMIT_THERM_CFG_HYST, 0, 5)])).2.2.2.2.2.2.1 (by decide) (by decide),
     (h 0 0 false [91] 0 (st [(F.ADMIT_THERM_CFG_WARN, 0, 95), (F.ADMIT_THERM_CFG_ALARM, 0, 105), (F.ADMIT_THERM_CFG_HYST, 0, 5)])).2.2.2.2.2.2.2.1 (by decide) (by decide),
     (h 0 0 false [105] 0 (st [(F.ADMIT_THERM_CFG_WARN, 0, 95), (F.ADMIT_THERM_CFG_ALARM, 0, 105), (F.ADMIT_THERM_CFG_HYST, 0, 5)])).2.2.2.2.2.2.2.2.1 (by decide),
     (h 0 0 false [100] 0 (st [(F.ADMIT_THERM_CFG_WARN, 0, 95), (F.ADMIT_THERM_CFG_ALARM, 0, 105), (F.ADMIT_THERM_CFG_HYST, 0, 5)])).2.2.2.2.2.2.2.2.2.1 (by decide) (by decide),
     (h 0 0 false [101] 0 (st [(F.ADMIT_THERM_CFG_WARN, 0, 95), (F.ADMIT_THERM_CFG_ALARM, 0, 105), (F.ADMIT_THERM_CFG_HYST, 0, 5)])).2.2.2.2.2.2.2.2.2.2.1 (by decide) (by decide),
     ⟨_, ((h 0 0 false [] 0x7070 (st [])).2.2.2.2.2.2.2.2.2.2.2.1 (by decide) (by decide)).1 (by decide)⟩,
     ⟨_, ((h 0 0 false [] 0x7070 (shut (st []))).2.2.2.2.2.2.2.2.2.2.2.1 (by decide) (by decide)).2 (by decide)⟩,
     ⟨_, ((h 0 0 false [] 0x7170 (st [])).2.2.2.2.2.2.2.2.2.2.2.2.1 (Or.inr (by decide))).1 (by decide)⟩,
     ⟨_, ((h 0 0 false [] 0x6F70 (st [])).2.2.2.2.2.2.2.2.2.2.2.2.1 (Or.inl (by decide))).1 (by decide)⟩,
     ⟨_, (h 0 0 false [] 0 (st [])).2.2.2.2.2.2.2.2.2.2.2.2.2.1⟩,
     ⟨_, (h 0 0 true [] 0 ({ st [] with adm := { frozen := true } })).2.2.2.2.2.2.2.2.2.2.2.2.2.2.1 (by decide) (by decide)⟩,
     ⟨_, (h 0 256 true [] 0 (st [])).2.2.2.2.2.2.2.2.2.2.2.2.2.2.2.1 (by decide) (by decide)⟩,
     ⟨_, (h 0 256 true [] 0 ({ st [] with adm := { lastPower := some 0, lastTemp := some 0, lastLoop := some 0, lastEmer := some 0 } })).2.2.2.2.2.2.2.2.2.2.2.2.2.2.2.2.1 (by decide)⟩,
     ⟨_, (h 0 4 true [] 0 (st [(F.ADMIT_AVS_CTRL_FREEZE, 0, 0), (F.ADMIT_AVS_CFG_SLACK_EMER, 0, 5)])).2.2.2.2.2.2.2.2.2.2.2.2.2.2.2.2.2.1 (by decide) (by decide)⟩,
     ⟨_, (h 0 5 true [] 0 (st [(F.ADMIT_AVS_CTRL_FREEZE, 0, 0), (F.ADMIT_AVS_CFG_SLACK_EMER, 0, 5)])).2.2.2.2.2.2.2.2.2.2.2.2.2.2.2.2.2.2.1 (by decide) (by decide)⟩,
     ⟨_, (h 0 5 true [] 0 ({ st [] with adm := { lastPower := some 0, lastTemp := some 0, lastLoop := some 0, lastEmer := some 0 } })).2.2.2.2.2.2.2.2.2.2.2.2.2.2.2.2.2.2.2.1 (by decide)⟩,
     ⟨_, (h 0 5 true [] 0 (st [])).2.2.2.2.2.2.2.2.2.2.2.2.2.2.2.2.2.2.2.2⟩⟩

theorem witness_FaultCommands_1 (h : Obligations.FaultCommands) :
    Runs (.faultClear 1 0xFFFFFFFF) (st []) ∧ Runs (.faultClear 1 0xFFFFFFFF) (shut (st [])) ∧ (st []).faultClear 48 = st [] ∧
    (∃ t, ({ st [(F.FLT_STATUS_SRC, 48, 1)] with flt := { win := [(48, [⟨0, false⟩])] } }).faultClear 48 = t) ∧
    (∃ t, ({ st [(F.FLT_STATUS_SRC, 0, 1)] with flt := { win := [(0, [⟨0, false⟩])] }, clk := 10 ^ 9 }).faultClear 0 = t) ∧
    Runs (.faultCauseExpire 48) (st []) ∧ Runs (.holdLimitExpire 48) ({ st [] with flt := { holds := [(48, 0)] }, clk := 10 ^ 15 }) ∧
    Runs (.holdLimitExpire 48) (st []) :=
    ⟨⟨_, ((h.1 48 1 0xFFFFFFFF (st [])).1).1 (by decide)⟩, ⟨_, ((h.1 48 1 0xFFFFFFFF (shut (st []))).1).2 (by decide)⟩,
     (h.1 48 1 0 (st [])).2.1 (by decide),
     ⟨_, (h.1 48 1 0 ({ st [(F.FLT_STATUS_SRC, 48, 1)] with flt := { win := [(48, [⟨0, false⟩])] } })).2.2.1 (by decide) (Or.inr (by decide))⟩,
     ⟨_, (h.1 0 1 0 ({ st [(F.FLT_STATUS_SRC, 0, 1)] with flt := { win := [(0, [⟨0, false⟩])] }, clk := 10 ^ 9 })).2.2.2.1 (by decide) (by decide) (by decide)⟩,
     ⟨_, (h.1 48 1 0 (st [])).2.2.2.2.1⟩,
     ⟨_, (h.1 48 1 0 ({ st [] with flt := { holds := [(48, 0)] }, clk := 10 ^ 15 })).2.2.2.2.2.1 (by decide)⟩,
     ⟨_, (h.1 48 1 0 (st [])).2.2.2.2.2.2 (by decide)⟩⟩

theorem witness_FaultCommands_2 (h : Obligations.FaultCommands) :
    ((st [(F.FLT_MASK_SRC, 48, 1)]).faultEvent 48 true).rd F.FLT_STATUS_SRC 48 = 1 ∧
    ((st [(F.FLT_MASK_SRC, 48, 1)]).faultEvent 48 true).rd F.FLT_SEVERE_SRC 48 = 1 :=
  have f := h.2 48 true (st [(F.FLT_MASK_SRC, 48, 1)]) (.inr (by decide))
  ⟨f.1, f.2.2 (by decide)⟩

theorem witness_WearAndSpareCommands_1 (h : Obligations.WearAndSpareCommands) :
    Runs (.wearEstimate []) ({ st [] with wear := { base := 24 } }) ∧ Runs (.wearEstimate []) (st []) ∧
    Runs .wearHourStep ({ st [] with wear := { base := 128 } }) ∧ Runs .wearHourStep (st []) ∧
    Runs (.sramCanaryTest []) ({ st [] with wear := { base := 1 } }) ∧ Runs (.sramCanaryTest []) (st []) ∧ Runs (.wearSave 0) (st []) ∧
    Runs (.wearSave 0) (shut (st [])) ∧ Runs (.wearRestore 0) (st []) ∧ Runs (.wearRestore 0) (shut (st [])) ∧
    (∃ t, ({ st [] with wear := { tried := true } } : State).wearRestore = t) ∧
    Runs (.scrubStart 3 0x10000) (granted Gc.scrub 3 (cxl3 2 [])) ∧
    Runs (.scrubStart 3 0x10000) (shut (granted Gc.scrub 3 (cxl3 2 []))) ∧ Runs (.scrubStart 3 0) (st []) ∧
    Runs (.scrubStop 3 0x10001) (granted Gc.scrub 3 (cxl3 2 [])) ∧ Runs (.scrubStop 3 0x10001) (shut (granted Gc.scrub 3 (cxl3 2 []))) ∧
    Runs (.scrubStop 3 0) (st [(F.WEAR_SCRUB_RUNNING, 3, 1)]) ∧ Runs (.scrubDone 3 true [5]) (st [(F.WEAR_SCRUB_RUNNING, 3, 1)]) ∧
    Runs (.scrubDone 3 false []) (st []) ∧ Runs (.softRepairComplete true) (st []) ∧ Runs (.softRepairComplete false) (st []) ∧
    Runs (.repairPromote 0xFFFCFFFF) (st []) ∧ Runs (.repairPromote 0xFFFCFFFF) (shut (st [])) :=
    ⟨⟨_, (h.1 0 [] [] false 0 ({ st [] with wear := { base := 24 } })).1 (by decide)⟩,
     ⟨_, (h.1 0 [] [] false 0 (st [])).2.1 (by decide)⟩,
     ⟨_, (h.1 0 [] [] false 0 ({ st [] with wear := { base := 128 } })).2.2.1 (by decide)⟩,
     ⟨_, (h.1 0 [] [] false 0 (st [])).2.2.2.1 (by decide)⟩,
     ⟨_, (h.1 0 [] [] false 0 ({ st [] with wear := { base := 1 } })).2.2.2.2.1 (by decide)⟩,
     ⟨_, (h.1 0 [] [] false 0 (st [])).2.2.2.2.2.1 (by decide)⟩, ⟨_, ((h.1 0 [] [] false 0 (st [])).2.2.2.2.2.2.1).1 (by decide)⟩,
     ⟨_, ((h.1 0 [] [] false 0 (shut (st []))).2.2.2.2.2.2.1).2 (by decide)⟩,
     ⟨_, ((h.1 0 [] [] false 0 (st [])).2.2.2.2.2.2.2.1).1 (by decide)⟩,
     ⟨_, ((h.1 0 [] [] false 0 (shut (st []))).2.2.2.2.2.2.2.1).2 (by decide)⟩,
     ⟨_, (h.1 0 [] [] false 0 ({ st [] with wear := { tried := true } })).2.2.2.2.2.2.2.2.2.1 (fun e => absurd e.1 (by decide))⟩,
     ⟨_, ((h.1 3 [] [] false 0x10000 (granted Gc.scrub 3 (cxl3 2 []))).2.2.2.2.2.2.2.2.2.2.1 (by decide)).1 (by decide)⟩,
     ⟨_, ((h.1 3 [] [] false 0x10000 (shut (granted Gc.scrub 3 (cxl3 2 [])))).2.2.2.2.2.2.2.2.2.2.1 (by decide)).2 (by decide)⟩,
     ⟨_, ((h.1 3 [] [] false 0 (st [])).2.2.2.2.2.2.2.2.2.2.2.1 (by decide)).1 (by decide)⟩,
     ⟨_, ((h.1 3 [] [] false 0x10001 (granted Gc.scrub 3 (cxl3 2 []))).2.2.2.2.2.2.2.2.2.2.2.2.1 (by decide) (by decide)).1 (by decide)⟩,
     ⟨_, ((h.1 3 [] [] false 0x10001 (shut (granted Gc.scrub 3 (cxl3 2 [])))).2.2.2.2.2.2.2.2.2.2.2.2.1 (by decide) (by decide)).2 (by decide)⟩,
     ⟨_, ((h.1 3 [] [] false 0 (st [(F.WEAR_SCRUB_RUNNING, 3, 1)])).2.2.2.2.2.2.2.2.2.2.2.2.2.1 (Or.inl rfl)).1 (by decide)⟩,
     ⟨_, (h.1 3 [] [5] true 0 (st [(F.WEAR_SCRUB_RUNNING, 3, 1)])).2.2.2.2.2.2.2.2.2.2.2.2.2.2.1 ⟨by decide, Or.inl ⟨rfl, by decide⟩⟩⟩,
     ⟨_, (h.1 3 [] [] false 0 (st [])).2.2.2.2.2.2.2.2.2.2.2.2.2.2.2.1 (by decide)⟩,
     ⟨_, (h.1 0 [] [] false 0 (st [])).2.2.2.2.2.2.2.2.2.2.2.2.2.2.2.2.1⟩,
     ⟨_, (h.1 0 [] [] false 0 (st [])).2.2.2.2.2.2.2.2.2.2.2.2.2.2.2.2.2.1⟩,
     ⟨_, ((h.1 0 [] [] false 0xFFFCFFFF (st [])).2.2.2.2.2.2.2.2.2.2.2.2.2.2.2.2.2.2).1 (by decide)⟩,
     ⟨_, ((h.1 0 [] [] false 0xFFFCFFFF (shut (st []))).2.2.2.2.2.2.2.2.2.2.2.2.2.2.2.2.2.2).2 (by decide)⟩⟩

theorem witness_WearAndSpareCommands_2 (h : Obligations.WearAndSpareCommands) :
    Runs (.spareTestStart 0) (st []) ∧ Runs (.spareTestStart 0) (shut (st [])) ∧ Runs (.spareSubstStart 0xFFFFFFFD) (st []) ∧
    Runs (.spareSubstStart 0xFFFFFFFD) (shut (st [])) ∧ Runs (.spareSubstAbort 0) ({ st [] with wear := { step := 2 } }) ∧
    Runs (.spareSubstAbort 0) (shut ({ st [] with wear := { step := 2 } })) ∧
    (∃ t, ({ st [] with wear := { step := 1 } }).spareStart = t) ∧
    (∃ t, ((granted Gc.spareTest 12) (st [(F.WEAR_SUBST_CTRL_KIND, 0, 2), (F.WEAR_SUBST_CTRL_TEST, 0, 1), (F.WEAR_SUBST_CTRL_GRANT, 0, 1)])).spareStart = t) ∧
    (∃ t, ((granted Gc.spareTest 12) (st [(F.WEAR_SUBST_CTRL_KIND, 0, 2), (F.WEAR_SUBST_CTRL_GRANT, 0, 1)])).spareStart = t) ∧
    (∃ t, ((granted Gc.spareTest 12) (st [(F.WEAR_SUBST_CTRL_KIND, 0, 2), (F.WEAR_SUBST_CTRL_GRANT, 0, 1), (F.SABLE_PLAY_RUNNING, 0, 1)])).spareStart = t) ∧
    Runs .headSubstLoad ({ ras 0 ⟨1, 1122, 0⟩ (st []) with wear := { step := 1, target := 95 } }) ∧ Runs .headSubstLoad (st []) ∧
    Runs (.headSubstMove 2) ({ ras 0 ⟨3, 1122, 0⟩ (st []) with wear := { step := 2, target := 95, since := 1 } }) ∧
    Runs (.headSubstMove 2) (st []) ∧ Runs (.spareTestDone true) ({ st [] with wear := { step := 6, kind := 2 } }) ∧
    Runs (.spareTestDone true) (st []) :=
    ⟨⟨_, ((h.2 0 true 0 (st [])).1).1 (by decide)⟩, ⟨_, ((h.2 0 true 0 (shut (st []))).1).2 (by decide)⟩,
     ⟨_, ((h.2 0 true 0xFFFFFFFD (st [])).2.1).1 (by decide)⟩, ⟨_, ((h.2 0 true 0xFFFFFFFD (shut (st []))).2.1).2 (by decide)⟩,
     ⟨_, ((h.2 0 true 0 ({ st [] with wear := { step := 2 } })).2.2.1).1 (by decide)⟩,
     ⟨_, ((h.2 0 true 0 (shut ({ st [] with wear := { step := 2 } }))).2.2.1).2 (by decide)⟩,
     ⟨_, (h.2 0 true 0 ({ st [] with wear := { step := 1 } })).2.2.2.1 (Or.inl (by decide))⟩,
     ⟨_, (h.2 0 true 0 ((granted Gc.spareTest 12) (st [(F.WEAR_SUBST_CTRL_KIND, 0, 2), (F.WEAR_SUBST_CTRL_TEST, 0, 1), (F.WEAR_SUBST_CTRL_GRANT, 0, 1)]))).2.2.2.2.1 (by decide) (by decide)⟩,
     ⟨_, (h.2 0 true 0 ((granted Gc.spareTest 12) (st [(F.WEAR_SUBST_CTRL_KIND, 0, 2), (F.WEAR_SUBST_CTRL_GRANT, 0, 1)]))).2.2.2.2.2.1 (by decide) (by decide) (Or.inr (by decide))⟩,
     ⟨_, (h.2 0 true 0 ((granted Gc.spareTest 12) (st [(F.WEAR_SUBST_CTRL_KIND, 0, 2), (F.WEAR_SUBST_CTRL_GRANT, 0, 1), (F.SABLE_PLAY_RUNNING, 0, 1)]))).2.2.2.2.2.2.1 (by decide) (by decide) (by decide)⟩,
     ⟨_, (h.2 0 true 0 ({ ras 0 ⟨1, 1122, 0⟩ (st []) with wear := { step := 1, target := 95 } })).2.2.2.2.2.2.2.1 (by decide)⟩,
     ⟨_, (h.2 0 true 0 (st [])).2.2.2.2.2.2.2.2.1 (by decide)⟩,
     ⟨_, (h.2 2 true 0 ({ ras 0 ⟨3, 1122, 0⟩ (st []) with wear := { step := 2, target := 95, since := 1 } })).2.2.2.2.2.2.2.2.2.1 (by decide)⟩,
     ⟨_, (h.2 2 true 0 (st [])).2.2.2.2.2.2.2.2.2.2.1 (by decide)⟩,
     ⟨_, (h.2 2 true 0 ({ st [] with wear := { step := 6, kind := 2 } })).2.2.2.2.2.2.2.2.2.2.2.1 ⟨by decide, Or.inl (by decide)⟩⟩,
     ⟨_, (h.2 2 true 0 (st [])).2.2.2.2.2.2.2.2.2.2.2.2 (by decide)⟩⟩

theorem crcBit_lt (c : Nat) (h : c < 2 ^ 32) : crcBit c < 2 ^ 32 := by
  unfold crcBit
  split
  · exact Nat.xor_lt_two_pow (by omega) (by decide)
  · omega

theorem crcByte_lt (c b : Nat) (h : c < 2 ^ 32) : crcByte c b < 2 ^ 32 := by
  unfold crcByte
  repeat apply crcBit_lt
  exact Nat.xor_lt_two_pow h (by omega)

theorem crc_fold_lt (l : List Nat) : ∀ c, c < 2 ^ 32 → l.foldl crcByte c < 2 ^ 32 := by
  induction l with
  | nil => exact fun c h => h
  | cons b l ih => exact fun c h => ih _ (crcByte_lt c b h)

theorem crcWords_lt (ws : List Nat) : crcWords ws < 2 ^ 32 := Nat.xor_lt_two_pow (crc_fold_lt _ _ (by decide)) (by decide)

/-- A device whose WEAR_HIST image, of zeros, has its CRC right. -/
def image : State := (st []).wr F.WEAR_HIST_WORD 1023 (crcWords (List.replicate 1023 0))

theorem image_words : ((List.range 1023).map fun i => image.rd F.WEAR_HIST_WORD i) = List.replicate 1023 0 := by
  have k : ∀ i, i ∈ List.range 1023 → F.WEAR_HIST_WORD.key i ≠ F.WEAR_HIST_WORD.key 1023 := by decide +kernel
  have e : ((List.range 1023).map fun i => image.rd F.WEAR_HIST_WORD i) = (List.range 1023).map fun i => (st []).rd F.WEAR_HIST_WORD i :=
    List.map_congr_left fun i hi => rd_wr_ne (st []) F.WEAR_HIST_WORD F.WEAR_HIST_WORD 1023 i _ (k i hi)
  rw [e]
  decide +kernel

theorem image_step : image.rd F.WEAR_HIST_CTRL_OTP_STEPS 0 = 0 :=
  (rd_wr_ne (st []) F.WEAR_HIST_WORD F.WEAR_HIST_CTRL_OTP_STEPS 1023 0 _ (by decide)).trans (by decide)

theorem image_crc : crcWords (List.replicate 1023 0) = image.rd F.WEAR_HIST_WORD 1023 :=
  ((rd_wr_same (st []) F.WEAR_HIST_WORD 1023 _).trans (Nat.mod_eq_of_lt (crcWords_lt _))).symm

theorem witness_WearAndSpare_image (h : Obligations.WearAndSpareCommands) : (∃ t, image.wearRestore = t) :=
  ⟨_, (h.1 0 [] [] false 0 image).2.2.2.2.2.2.2.2.1 ⟨rfl, (show (0 : Nat) < 1 by decide),
    (congrArg crcWords image_words).trans image_crc,
    .inl (((congrArg (List.getD · 1 0) image_words).trans (by rw [List.getD_replicate _ (by decide)])).trans image_step.symm)⟩⟩

theorem enr_wr (s : State) (f : Fld) (i v : Nat) (h : F.KEYS_STATUS_ENROLLED.key 0 ≠ f.key i) :
    (s.wr f i v).rd F.KEYS_STATUS_ENROLLED 0 = s.rd F.KEYS_STATUS_ENROLLED 0 := rd_wr_ne s f F.KEYS_STATUS_ENROLLED i 0 v h

theorem enr_each (l : List Nat) (f : Nat → State → State)
    (h : ∀ i, i ∈ l → ∀ s, (f i s).rd F.KEYS_STATUS_ENROLLED 0 = s.rd F.KEYS_STATUS_ENROLLED 0) :
    ∀ s, (forEach l f s).rd F.KEYS_STATUS_ENROLLED 0 = s.rd F.KEYS_STATUS_ENROLLED 0 := by
  induction l with
  | nil => intro s; rfl
  | cons a r ih =>
    intro s
    exact (ih (fun i hi => h i (List.mem_cons_of_mem a hi)) (f a s)).trans (h a (List.mem_cons_self ..) s)

theorem enr_synShow (s : State) : s.synShow.rd F.KEYS_STATUS_ENROLLED 0 = s.rd F.KEYS_STATUS_ENROLLED 0 := by
  have k : ∀ y, y ∈ List.range 16 → F.KEYS_STATUS_ENROLLED.key 0 ≠ F.SYNTH_STATUS_SERVING.key y ∧
      F.KEYS_STATUS_ENROLLED.key 0 ≠ F.SYNTH_STATUS_WARM.key y := by decide
  exact (enr_wr _ F.WEAR_SPARES_SYNTHS 0 _ (by decide)).trans
    (enr_each _ _ (fun y hy s => (enr_wr _ _ _ _ (k y hy).2).trans (enr_wr _ _ _ _ (k y hy).1)) s)

theorem each_synths (l : List Nat) (f : Nat → State → State) (h : ∀ i s, (f i s).synths = s.synths) :
    ∀ s, (forEach l f s).synths = s.synths := by
  induction l with
  | nil => intro s; rfl
  | cons a r ih => intro s; exact (ih (f a s)).trans (h a s)

theorem wr_synths (s : State) (f : Fld) (i v : Nat) : (s.wr f i v).synths = s.synths := rfl

theorem synShow_synths (s : State) : s.synShow.synths = s.synths := by
  unfold State.synShow
  refine (wr_synths _ F.WEAR_SPARES_SYNTHS 0 _).trans (each_synths _ _ ?_ s)
  intro y t
  dsimp only [State.wr]

theorem synLock_high (s : State) (y : Nat) (h : y = 12 ∨ y = 13) (c : (s.syn y).covers = []) : s.synLock y =
    ((s.wr F.SYNTH_STATUS_LOCKED y 1).setSyn y { s.syn y with failedAt := none, covers := [] }).synShow := by
  rcases h with rfl | rfl <;> simp [State.synLock, c, forEach]

theorem enr_synLock (s : State) (y : Nat) (h : y = 12 ∨ y = 13) (c : (s.syn y).covers = []) :
    (s.synLock y).rd F.KEYS_STATUS_ENROLLED 0 = s.rd F.KEYS_STATUS_ENROLLED 0 := by
  have k : F.KEYS_STATUS_ENROLLED.key 0 ≠ F.SYNTH_STATUS_LOCKED.key y := by rcases h with rfl | rfl <;> decide
  rw [synLock_high s y h c]
  exact (enr_synShow _).trans (enr_wr s _ _ 1 k)

/-- What INIT does before the unit root leaves ENROLLED as it was. -/
theorem enr_ready (s : State) (h : s.synths = []) :
    ((s.synLock 12).synLock 13).rd F.KEYS_STATUS_ENROLLED 0 = s.rd F.KEYS_STATUS_ENROLLED 0 := by
  have c : (s.syn 12).covers = [] := by simp [State.syn, h, tget]
  have e : ((s.synLock 12).syn 13).covers = [] := by
    rw [synLock_high s 12 (.inl rfl) c, State.syn, synShow_synths]
    simp [State.setSyn, State.wr, h, tput, tins, tdel]
    split <;> simp [tget]
  exact (enr_synLock _ 13 (.inr rfl) e).trans (enr_synLock _ 12 (.inl rfl) c)

theorem rd_pins (s : State) (p : Pins) (f : Fld) (i : Nat) : ({ s with pins := p } : State).rd f i = s.rd f i := rfl

theorem rd_adm (s : State) (a : Adm) (f : Fld) (i : Nat) : ({ s with adm := a } : State).rd f i = s.rd f i := rfl

theorem enr_on (s : State) (r b : Bool) (h : s.loadOtp.synths = [])
    (e : decide (s.loadPlanes.loadLanes.loadEngines.sparesShow.rd F.KEYS_STATUS_ENROLLED 0 ≠ 0) = b) : ((({ s.loadOtp with pins := { s.pins
    with ready := r } } : State).synLock 12).synLock 13).on F.KEYS_STATUS_ENROLLED 0 = b := by
  have a : s.loadOtp.rd F.KEYS_STATUS_ENROLLED 0 = s.loadPlanes.loadLanes.loadEngines.sparesShow.rd F.KEYS_STATUS_ENROLLED 0 := by
    unfold State.loadOtp
    exact (rd_adm _ _ _ _).trans ((enr_wr _ F.ADMIT_AVS_STATUS_TARGET 0 800 (by decide)).trans
      (enr_wr _ F.ADMIT_AVS_STATUS_V_FUSE 0 Config.vFuse (by decide)))
  have k := (enr_ready { s.loadOtp with pins := { s.pins with ready := r } } h).trans ((rd_pins s.loadOtp _ _ _).trans a)
  unfold State.on
  rw [k, e]

theorem regen_none (s : State) (c : List Nat) (h : s.keys.helper = []) : s.regenerate c = none := by simp [State.regenerate, h]

theorem regen_some (s : State) (h : s.keys.helper = [0]) (k : s.keys.check = rootCheck (rootOf (List.replicate 16 0))) :
    s.regenerate [] = some (rootOf (List.replicate 16 0)) := by
  have e : ((List.range 16).map fun i => correct (([] : List Nat).getD i 0) ([0].getD i 0)) = List.replicate 16 (some 0) := by
    decide +kernel
  have f : ((List.replicate 16 (some 0)).map fun w : Option Nat => w.getD 0) = List.replicate 16 0 := by decide
  simp only [State.regenerate, h, k]
  rw [e, f]
  simp

/-- An enrolled device in INIT, its helper data that of cells which read 0. -/
def enrolled : State :=
  { ini false [(F.KEYS_STATUS_ENROLLED, 0, 1)] with keys := { helper := [0], check := rootCheck (rootOf (List.replicate 16 0)) } }

theorem witness_StartUpCommands_1 (h : Obligations.StartUpCommands) :
    Runs (.rstNRelease true true 3) State.reset ∧ Runs (.rstNRelease true true 3) (st []) ∧
    Runs (.readyAssert []) ({ ini false [] with pins := { rstN := true, dbgEn := true } }) ∧
    Runs (.readyAssert []) ({ ini false [] with pins := { rstN := true, enrol := true } }) ∧ Runs (.readyAssert []) enrolled ∧
    Runs (.readyAssert []) (ini false [(F.KEYS_STATUS_ENROLLED, 0, 1)]) ∧ Runs (.readyAssert []) (ini true []) ∧
    Runs (.initComplete false true) (ini false []) ∧ Runs (.initComplete true false) (ini true []) ∧
    Runs (.initComplete true true) (ini true [(F.TOP_ENROL_CTRL_REQ, 0, 1)]) ∧ Runs (.initComplete true true) (ini true []) ∧
    Runs (.initComplete true true) (ini true [(F.TOP_INIT_STATUS_ROOT_FAIL, 0, 1)]) ∧ Runs (.initComplete true true) (st []) ∧
    Runs (.calGo 0xFFFFFFF7) (st []) ∧ Runs (.calGo 0xFFFFFFF7) (shut (st [])) ∧ (∃ t, (st []).calGo = t) ∧
    (∃ t, (up Mode.calibrate).calGo = t) ∧ Runs .calibrateDone (put [(F.TOP_DEV_MODE_CAL_STAGE, 0, 2)] (up Mode.calibrate)) ∧
    Runs .calibrateDone (st []) ∧ Runs (.modeRequest 3) (sw 1 (put [(F.TOP_DEV_MODE_CAL_DONE, 0, 1)] (up Mode.calibrate))) ∧
    Runs (.modeRequest 3) (shut (sw 1 (put [(F.TOP_DEV_MODE_CAL_DONE, 0, 1)] (up Mode.calibrate)))) ∧ Runs (.modeRequest 0) (st []) :=
    ⟨⟨_, (h.1 true true 3 [] true true 0 State.reset).1 (by decide)⟩, ⟨_, (h.1 true true 3 [] true true 0 (st [])).2.1 (by decide)⟩,
     ⟨_, (h.1 true true 3 [] true true 0 ({ ini false [] with pins := { rstN := true, dbgEn := true } })).2.2.1 (by decide) (by decide)⟩,
     ⟨_, (h.1 true true 3 [] true true 0 ({ ini false [] with pins := { rstN := true, enrol := true } })).2.2.2.1 (by decide) (by decide) (fun e => Bool.false_ne_true ((enr_on ({ ini false [] with pins := { rstN := true, enrol := true } }) true false rfl (by decide)).symm.trans e))⟩,
     ⟨_, (h.1 true true 3 [] true true 0 enrolled).2.2.2.2.1 (rootOf (List.replicate 16 0)) (by decide) (by decide) (enr_on _ _ _ rfl (by decide)) (regen_some _ rfl rfl)⟩,
     ⟨_, (h.1 true true 3 [] true true 0 (ini false [(F.KEYS_STATUS_ENROLLED, 0, 1)])).2.2.2.2.2.1 (by decide) (by decide) (enr_on _ _ _ rfl (by decide)) (regen_none _ _ rfl)⟩,
     ⟨_, (h.1 true true 3 [] true true 0 (ini true [])).2.2.2.2.2.2.1 (by decide)⟩,
     ⟨_, (h.1 true true 3 [] false true 0 (ini false [])).2.2.2.2.2.2.2.1 (by decide) (by decide)⟩,
     ⟨_, (h.1 true true 3 [] true false 0 (ini true [])).2.2.2.2.2.2.2.2.1 (by decide) (by decide)⟩,
     ⟨_, (h.1 true true 3 [] true true 0 (ini true [(F.TOP_ENROL_CTRL_REQ, 0, 1)])).2.2.2.2.2.2.2.2.2.1 (by decide) (by decide) (by decide)⟩,
     ⟨_, (h.1 true true 3 [] true true 0 (ini true [])).2.2.2.2.2.2.2.2.2.2.1 (by decide) (by decide) (by decide)⟩,
     ⟨_, (h.1 true true 3 [] true true 0 (ini true [(F.TOP_INIT_STATUS_ROOT_FAIL, 0, 1)])).2.2.2.2.2.2.2.2.2.2.1 (by decide) (by decide) (by decide)⟩,
     ⟨_, (h.1 true true 3 [] true true 0 (st [])).2.2.2.2.2.2.2.2.2.2.2.1 (Or.inl (by decide)) (by decide)⟩,
     ⟨_, ((h.1 true true 3 [] true true 0xFFFFFFF7 (st [])).2.2.2.2.2.2.2.2.2.2.2.2.1).1 (by decide)⟩,
     ⟨_, ((h.1 true true 3 [] true true 0xFFFFFFF7 (shut (st []))).2.2.2.2.2.2.2.2.2.2.2.2.1).2 (by decide)⟩,
     ⟨_, (h.1 true true 3 [] true true 0 (st [])).2.2.2.2.2.2.2.2.2.2.2.2.2.1 (Or.inl (by decide))⟩,
     ⟨_, (h.1 true true 3 [] true true 0 (up Mode.calibrate)).2.2.2.2.2.2.2.2.2.2.2.2.2.2.1 (by decide) (by decide)⟩,
     Exists.imp (fun _ e => e.1) ((h.1 true true 3 [] true true 0 (put [(F.TOP_DEV_MODE_CAL_STAGE, 0, 2)] (up Mode.calibrate))).2.2.2.2.2.2.2.2.2.2.2.2.2.2.2.1 (by decide)),
     ⟨_, (h.1 true true 3 [] true true 0 (st [])).2.2.2.2.2.2.2.2.2.2.2.2.2.2.2.2.1 (by decide)⟩,
     ⟨_, ((h.1 true true 3 [] true true 3 (sw 1 (put [(F.TOP_DEV_MODE_CAL_DONE, 0, 1)] (up Mode.calibrate)))).2.2.2.2.2.2.2.2.2.2.2.2.2.2.2.2.2.1 (by decide)).1 (by decide)⟩,
     ⟨_, ((h.1 true true 3 [] true true 3 (shut (sw 1 (put [(F.TOP_DEV_MODE_CAL_DONE, 0, 1)] (up Mode.calibrate))))).2.2.2.2.2.2.2.2.2.2.2.2.2.2.2.2.2.1 (by decide)).2 (by decide)⟩,
     ⟨_, ((h.1 true true 3 [] true true 0 (st [])).2.2.2.2.2.2.2.2.2.2.2.2.2.2.2.2.2.2 (by decide)).1 (by decide)⟩⟩

theorem witness_StartUpCommands_2 (h : Obligations.StartUpCommands) :
    Runs (.enrolKeyGo 0xFFFFFFF7) (st []) ∧ Runs (.enrolKeyGo 0xFFFFFFF7) (shut (st [])) ∧ (∃ t, (st []).enrolGo = t) ∧
    Runs .enrolTimeout ({ (st [(F.TOP_ENROL_CTRL_REQ, 0, 1)]) with clk := 1500 * msClk }) ∧
    Runs .enrolTimeout (st [(F.TOP_ENROL_CTRL_REQ, 0, 1)]) ∧ Runs (.enrolAck 0) (st []) ∧ Runs (.enrolAck 0) (shut (st [])) :=
    ⟨⟨_, ((h.2 0xFFFFFFF7 (st [])).1).1 (by decide)⟩, ⟨_, ((h.2 0xFFFFFFF7 (shut (st []))).1).2 (by decide)⟩,
     ⟨_, (h.2 0 (st [])).2.1 (by decide)⟩,
     ⟨_, (h.2 0 ({ (st [(F.TOP_ENROL_CTRL_REQ, 0, 1)]) with clk := 1500 * msClk })).2.2.2.2.1 (by decide)⟩,
     ⟨_, (h.2 0 (st [(F.TOP_ENROL_CTRL_REQ, 0, 1)])).2.2.2.2.2.1 (by decide)⟩, ⟨_, ((h.2 0 (st [])).2.2.2.2.2.2).1 (by decide)⟩,
     ⟨_, ((h.2 0 (shut (st []))).2.2.2.2.2.2).2 (by decide)⟩⟩

/-- KEY_GO takes an owner key or sets KEY_BAD: which, is left to the opaque check of the key. -/
theorem witness_StartUpCommands_key (h : Obligations.StartUpCommands) (b : Bool)
    (v : Config.p384Valid (st [(F.TOP_ENROL_CTRL_REQ, 0, 1)]).ownerKey = b) :
    (st [(F.TOP_ENROL_CTRL_REQ, 0, 1)]).enrolGo.rd F.TOP_ENROL_CTRL_KEY_BAD 0 = 1 ∨
      (st [(F.TOP_ENROL_CTRL_REQ, 0, 1)]).enrolGo.rd F.TOP_INIT_STATUS_ENROLLED 0 = 1 := by
  have f := (h.2 0 (st [(F.TOP_ENROL_CTRL_REQ, 0, 1)])).2.2
  cases b with
  | false => left; rw [f.1 (by decide) v]; decide
  | true => exact .inr (f.2.1 (by decide) v).1

theorem witness_ModeRequestCodes (h : Obligations.ModeRequestCodes) :
    (up Mode.debug).modeCode 6 = 1 ∧ (up Mode.init).modeCode 6 = 1 ∧ (up Mode.calibrate).modeCode 7 = 2 ∧ (st []).modeCode 7 = 1 ∧
    (up Mode.standby).modeCode 4 = 1 ∧ (up Mode.active).modeCode Mode.safe = 0 ∧ (up Mode.active).modeCode Mode.standby = 0 :=
    ⟨(h 6 (up Mode.debug)).1 (Or.inl rfl), (h 6 (up Mode.init)).1 (Or.inr (by decide)),
     (h 7 (up Mode.calibrate)).2.1 (by decide) (by decide) (by decide), (h 7 (st [])).2.2.1 (by decide) (by decide),
     (h 4 (up Mode.standby)).2.2.2.1 (by decide) (by decide), (h 4 (up Mode.active)).2.2.2.2.1 (by decide),
     (h 4 (up Mode.active)).2.2.2.2.2 (by decide)⟩

theorem witness_ResetCommands_1 (h : Obligations.ResetCommands) :
    Runs .rstNAssert (st []) ∧ Runs .railUndervoltage (st []) ∧ Runs (.warmReset 2 none []) (st []) ∧
    Runs (.warmReset 2 none []) (shut (st [])) ∧ Runs (.warmReset 1 none []) (st []) ∧ Runs (.warmReset 5 none []) (up Mode.calibrate) ∧
    Runs .warmResetComplete ({ tw Mode.active 1 4 [] {} with pins := { rstN := true } }) ∧
    Runs .warmResetComplete ({ st [] with pins := { rstN := true } }) ∧ Runs .warmResetComplete (st []) ∧
    Runs (.coldResetCmd 0) (st []) ∧ Runs (.coldResetCmd 0) (shut (st [])) ∧ Runs (.blockResetCmd 2) (st []) ∧
    Runs (.blockResetCmd 2) (shut (st [])) ∧ Runs (.blockResetCmd 0x2B00) (st []) ∧ Runs (.blockResetCmd 0x1201) (st []) ∧
    Runs (.hostIfReset none []) (st []) ∧ Runs (.d3hotEntry none []) (st []) ∧ Runs .d0Restore (st []) :=
    ⟨⟨_, (h.1 none [] 0 (st [])).1⟩, ⟨_, (h.1 none [] 0 (st [])).2.1⟩, ⟨_, ((h.1 none [] 2 (st [])).2.2.1 (by decide)).1 (by decide)⟩,
     ⟨_, ((h.1 none [] 2 (shut (st []))).2.2.1 (by decide)).2 (by decide)⟩,
     ⟨_, ((h.1 none [] 1 (st [])).2.2.2.1 (by decide)).1 (by decide)⟩,
     ⟨_, ((h.1 none [] 5 (up Mode.calibrate)).2.2.2.1 (by decide)).1 (by decide)⟩,
     ⟨_, (h.1 none [] 1 ({ tw Mode.active 1 4 [] {} with pins := { rstN := true } })).2.2.2.2.1 (by decide) (by decide)⟩,
     ⟨_, (h.1 none [] 1 ({ st [] with pins := { rstN := true } })).2.2.2.2.2.1 (by decide) (by decide)⟩,
     ⟨_, (h.1 none [] 1 (st [])).2.2.2.2.2.2.1 (by decide)⟩, ⟨_, ((h.1 none [] 0 (st [])).2.2.2.2.2.2.2.1).1 (by decide)⟩,
     ⟨_, ((h.1 none [] 0 (shut (st []))).2.2.2.2.2.2.2.1).2 (by decide)⟩,
     ⟨_, ((h.1 none [] 2 (st [])).2.2.2.2.2.2.2.2.1 (by decide)).1 (by decide)⟩,
     ⟨_, ((h.1 none [] 2 (shut (st []))).2.2.2.2.2.2.2.2.1 (by decide)).2 (by decide)⟩,
     ⟨_, ((h.1 none [] 0x2B00 (st [])).2.2.2.2.2.2.2.2.2.1 (by decide)).1 (by decide)⟩,
     ⟨_, ((h.1 none [] 0x1201 (st [])).2.2.2.2.2.2.2.2.2.1 (by decide)).1 (by decide)⟩,
     ⟨_, (h.1 none [] 0 (st [])).2.2.2.2.2.2.2.2.2.2.1⟩, ⟨_, (h.1 none [] 0 (st [])).2.2.2.2.2.2.2.2.2.2.2.1⟩,
     ⟨_, (h.1 none [] 0 (st [])).2.2.2.2.2.2.2.2.2.2.2.2⟩⟩

theorem witness_ResetCommands_2 (h : Obligations.ResetCommands) :
    ((st []).warmReset none).pins.ready = false ∧ ((st []).warmReset none).mode = (st []).mode ∧
    ((st []).coldReset 0).mode = Mode.reset :=
    ⟨(h.2 none (st [])).1, (h.2 none (st [])).2.2.2.1 (by decide), (h.2 none (st [])).2.2.2.2.2.2.2.1⟩

theorem witness_HostInterfaceCommands_1 (h : Obligations.HostInterfaceCommands) :
    Runs (.dmaReadError 4 5 true []) (st [(F.CUE_CTRL_RING_EN, 4, 1)]) ∧
    Runs (.dmaReadError 24 5 true []) (st [(F.MGT_RING_RXR_EN, 0, 1)]) ∧
    Runs (.dmaReadError 40 5 true []) (st [(F.MGT_RING_TXR_EN, 0, 1)]) ∧
    Runs (.dmaReadError 32 5 false []) (st [(F.MEDIA_RING_TXR_EN, 0, 1)]) ∧
    Runs (.dmaReadError 49 5 true []) (st [(F.HOSTIF_TLD_STATE, 0, 1)]) ∧ Runs (.dmaReadError 0 5 true []) (st []) ∧
    Runs (.smbSetAddr 0x20 true) (smb true 0) ∧ Runs (.smbSetAddr 0x20 false) (smb true 0) ∧ Runs (.smbRead false) (smb true 0) ∧
    Runs (.smbWrite 3 false) (smb true 0) ∧ Runs (.smbStatus false) (smb true 0) ∧ Runs (.smbRead true) (smb false 0x150044) ∧
    Runs (.smbRead true) (smb true 0x190000) ∧ Runs (.smbWrite 3 true) (smb true 0x20) ∧ Runs (.smbWrite 3 true) (smb true 0x150000) ∧
    Runs (.smbWrite 3 true) (smb true 0x24) ∧ Runs (.smbStatus true) (smb true 0) ∧ Runs (.matrixLockBreak 8 3 true 31) (st []) ∧
    Runs (.tapInstructionUpdate 7) (st []) ∧ Runs (.tapInstructionUpdate 8) ({ st [] with pins := { dbgEn := true } }) ∧
    Runs (.tapInstructionUpdate 9) (st []) ∧ Runs (.tapInstructionUpdate 8) (st []) :=
    ⟨⟨_, (h.1 4 5 0 true true true [] 0 0 0 0 0 (st [(F.CUE_CTRL_RING_EN, 4, 1)])).1 (by decide)⟩,
     ⟨_, (h.1 24 5 0 true true true [] 0 0 0 0 0 (st [(F.MGT_RING_RXR_EN, 0, 1)])).2.1 (by decide)⟩,
     ⟨_, (h.1 40 5 0 true true true [] 0 0 0 0 0 (st [(F.MGT_RING_TXR_EN, 0, 1)])).2.2.1 (by decide)⟩,
     ⟨_, (h.1 32 5 0 false true true [] 0 0 0 0 0 (st [(F.MEDIA_RING_TXR_EN, 0, 1)])).2.2.1 (by decide)⟩,
     ⟨_, (h.1 49 5 0 true true true [] 0 0 0 0 0 (st [(F.HOSTIF_TLD_STATE, 0, 1)])).2.2.2.1 (by decide)⟩,
     ⟨_, (h.1 0 5 0 true true true [] 0 0 0 0 0 (st [])).2.2.2.2.1 (by decide) (by decide) (by decide) (by decide)⟩,
     ⟨_, (h.1 0 5 0x20 true true true [] 0 0 0 0 0 (smb true 0)).2.2.2.2.2.1 (by decide)⟩,
     ⟨_, ((h.1 0 5 0x20 true false true [] 0 0 0 0 3 (smb true 0)).2.2.2.2.2.2.1 (fun e => absurd e.2.2 (by decide))).1⟩,
     ⟨_, ((h.1 0 5 0x20 true false true [] 0 0 0 0 3 (smb true 0)).2.2.2.2.2.2.1 (fun e => absurd e.2.2 (by decide))).2.1⟩,
     ⟨_, ((h.1 0 5 0x20 true false true [] 0 0 0 0 3 (smb true 0)).2.2.2.2.2.2.1 (fun e => absurd e.2.2 (by decide))).2.2.1⟩,
     ⟨_, ((h.1 0 5 0x20 true false true [] 0 0 0 0 3 (smb true 0)).2.2.2.2.2.2.1 (fun e => absurd e.2.2 (by decide))).2.2.2⟩,
     ⟨_, (h.1 0 5 0x20 true true true [] 0 0 0 0 0 (smb false 0x150044)).2.2.2.2.2.2.2.1 (by decide) (by decide)⟩,
     ⟨_, (h.1 0 5 0x20 true true true [] 0 0 0 0 0 (smb true 0x190000)).2.2.2.2.2.2.2.2.1 (by decide) (by decide)⟩,
     ⟨_, (h.1 0 5 0x20 true true true [] 0 0 0 0 3 (smb true 0x20)).2.2.2.2.2.2.2.2.2.1 (by decide) (by decide) (by decide)⟩,
     ⟨_, (h.1 0 5 0x20 true true true [] 0 0 0 0 3 (smb true 0x150000)).2.2.2.2.2.2.2.2.2.2.1 (by decide) (by decide) (by decide)⟩,
     ⟨_, (h.1 0 5 0x20 true true true [] 0 0 0 0 3 (smb true 0x24)).2.2.2.2.2.2.2.2.2.2.2.1 (by decide) (Or.inr (by decide))⟩,
     ⟨_, (h.1 0 5 0x20 true true true [] 0 0 0 0 3 (smb true 0)).2.2.2.2.2.2.2.2.2.2.2.2.1 (by decide)⟩,
     ⟨_, (h.1 0 5 0x20 true true true [] 8 3 31 0 3 (st [])).2.2.2.2.2.2.2.2.2.2.2.2.2.1⟩,
     ⟨_, (h.1 0 5 0x20 true true true [] 8 3 31 7 3 (st [])).2.2.2.2.2.2.2.2.2.2.2.2.2.2.1 (by decide)⟩,
     ⟨_, (h.1 0 5 0x20 true true true [] 8 3 31 8 3 ({ st [] with pins := { dbgEn := true } })).2.2.2.2.2.2.2.2.2.2.2.2.2.2.1 (by decide)⟩,
     ⟨_, (h.1 0 5 0x20 true true true [] 8 3 31 9 3 (st [])).2.2.2.2.2.2.2.2.2.2.2.2.2.2.2 (Or.inl rfl)⟩,
     ⟨_, (h.1 0 5 0x20 true true true [] 8 3 31 8 3 (st [])).2.2.2.2.2.2.2.2.2.2.2.2.2.2.2 (Or.inr (by decide))⟩⟩

theorem witness_HostInterfaceCommands_2 (h : Obligations.HostInterfaceCommands) :
    Runs (.tldGo 0xFFFFFFFD) (st []) ∧ Runs (.tldGo 0xFFFFFFFD) (shut (st [])) ∧ Runs (.tldGo 0) (st [(F.HOSTIF_TLD_STATE, 0, 1)]) ∧
    Runs (.tldAbort 0 []) (st [(F.HOSTIF_TLD_STATE, 0, 1)]) ∧ Runs (.tldAbort 0 []) (shut (st [(F.HOSTIF_TLD_STATE, 0, 1)])) ∧
    Runs (.tldAbort 0 []) (st []) ∧ Runs (.tldDone [1, 2, 3, 4]) (st [(F.HOSTIF_TLD_STATE, 0, 1), (F.HOSTIF_TLD_LEN, 0, 31)]) ∧
    Runs (.tldDone []) (st []) ∧ Runs (.summaryRequest 2) (st []) ∧ Runs (.summaryRequest 2) (shut (st [])) ∧
    Runs (.summaryRequest 2) (st [(F.HOSTIF_SUM_STATUS_STATE, 0, 2)]) ∧
    ((st [(F.HOSTIF_SUM_STATUS_STATE, 0, 2)]).summaryReq 7 true).2 = false ∧
    Runs .summaryCapture (st [(F.HOSTIF_SUM_STATUS_STATE, 0, 1), (F.HOSTIF_SUM_CFG_EN, 0, 1)]) ∧
    Runs .summaryCapture (st [(F.HOSTIF_SUM_STATUS_STATE, 0, 1)]) ∧ Runs .summaryCapture (st []) ∧
    Runs .summaryWritten (st [(F.HOSTIF_SUM_STATUS_STATE, 0, 2)]) ∧ Runs .summaryWritten (st []) :=
    ⟨⟨_, ((h.2 [] true 0xFFFFFFFD (st [])).1 (by decide)).1 (by decide)⟩,
     ⟨_, ((h.2 [] true 0xFFFFFFFD (shut (st []))).1 (by decide)).2 (by decide)⟩,
     ⟨_, ((h.2 [] true 0 (st [(F.HOSTIF_TLD_STATE, 0, 1)])).2.1 (by decide)).1 (by decide)⟩,
     ⟨_, ((h.2 [] true 0 (st [(F.HOSTIF_TLD_STATE, 0, 1)])).2.2.1 (by decide)).1 (by decide)⟩,
     ⟨_, ((h.2 [] true 0 (shut (st [(F.HOSTIF_TLD_STATE, 0, 1)]))).2.2.1 (by decide)).2 (by decide)⟩,
     ⟨_, ((h.2 [] true 0 (st [])).2.2.2.1 (by decide)).1 (by decide)⟩,
     ⟨_, (h.2 [1, 2, 3, 4] true 0 (st [(F.HOSTIF_TLD_STATE, 0, 1), (F.HOSTIF_TLD_LEN, 0, 31)])).2.2.2.2.1 (by decide)⟩,
     ⟨_, (h.2 [] true 0 (st [])).2.2.2.2.2.1 (by decide)⟩, ⟨_, ((h.2 [] true 2 (st [])).2.2.2.2.2.2.1 (by decide)).1 (by decide)⟩,
     ⟨_, ((h.2 [] true 2 (shut (st []))).2.2.2.2.2.2.1 (by decide)).2 (by decide)⟩,
     ⟨_, ((h.2 [] true 2 (st [(F.HOSTIF_SUM_STATUS_STATE, 0, 2)])).2.2.2.2.2.2.2.1 (by decide)).1 (by decide)⟩,
     (h.2 [] true 2 (st [(F.HOSTIF_SUM_STATUS_STATE, 0, 2)])).2.2.2.2.2.2.2.2.1,
     ⟨_, (h.2 [] true 2 (st [(F.HOSTIF_SUM_STATUS_STATE, 0, 1), (F.HOSTIF_SUM_CFG_EN, 0, 1)])).2.2.2.2.2.2.2.2.2.1 (by decide) (by decide)⟩,
     ⟨_, (h.2 [] true 2 (st [(F.HOSTIF_SUM_STATUS_STATE, 0, 1)])).2.2.2.2.2.2.2.2.2.2.1 (by decide) (by decide)⟩,
     ⟨_, (h.2 [] true 2 (st [])).2.2.2.2.2.2.2.2.2.2.2.1 (by decide)⟩,
     ⟨_, (h.2 [] true 2 (st [(F.HOSTIF_SUM_STATUS_STATE, 0, 2)])).2.2.2.2.2.2.2.2.2.2.2.2.1 (by decide)⟩,
     ⟨_, (h.2 [] true 2 (st [])).2.2.2.2.2.2.2.2.2.2.2.2.2 (by decide)⟩⟩

/-! ### What single commands do, with results worked out by hand from the spec -/

/-- A next state of which `p` holds. -/
def After (o : Host.Outcome State Fault Refusal) (p : State → Bool) : Bool :=
  match o with
  | .next t => p t
  | _ => false

/-- The check value of the CRC of R398 over the nine digits. -/
theorem test_crc32 : crc32 [0x31, 0x32, 0x33, 0x34, 0x35, 0x36, 0x37, 0x38, 0x39] = 0xCBF43926 := by decide
/-- R3: positions compare by frame, then line, then sample. -/
theorem test_pos_order : Pos.lt ⟨1, 1125, 0⟩ ⟨2, 1, 0⟩ = true ∧ Pos.lt ⟨1, 2, 0⟩ ⟨1, 1, 5⟩ = false := by decide
/-- No row gives bits, so no word spells a command. -/
theorem test_no_word : decodeTableWord 32 0x11F00000 = none ∧ State.reset.withFetchWord 32 0 = State.reset := by decide
/-- R57: a CORE clock is 262,144 units of house time. -/
theorem test_idle_clock : After (step State.reset) (fun t => t.house == 262144 && t.clk == 1) = true := by decide
/-- The front command leaves the queue. -/
theorem test_queue : After (step { up Mode.standalone with pending := [.gpoSet 1, .gpoClr 1] })
    (fun t => t.pending == [.gpoClr 1]) = true := by decide
/-- R451: READY low drops a write; R459: a write outside TOP before CALIBRATE is early. -/
theorem test_write_refused : exec (.gpoSet 1) State.reset = .next State.reset ∧
    After (exec (.gpoSet 1) (up Mode.init)) (fun t => t.rd F.SLATE_GPO_LEVEL_LEVEL 0 == 0 &&
      t.rd F.TOP_INIT_STATUS_WR_EARLY 0 == 1) = true := ⟨by rfl, by decide⟩
/-- R401: a standby refuses a write of a mirrored block. -/
theorem test_standby_refuses : After (exec (.xptCommitGo 1) (up Mode.standby))
    (fun t => t.rd F.COBALT_EVENT_STBY_REFUSED 0 == 1 && t.xCommits == []) = true := by decide
/-- Setting and clearing general-purpose outputs. -/
theorem test_gpo : After (exec (.gpoSet 0x80000001) (st [(F.SLATE_GPO_LEVEL_LEVEL, 0, 2)]))
    (fun t => t.rd F.SLATE_GPO_LEVEL_LEVEL 0 == 0x80000003) = true ∧
    After (exec (.gpoClr 0x80000001) (st [(F.SLATE_GPO_LEVEL_LEVEL, 0, 0x80000003)]))
      (fun t => t.rd F.SLATE_GPO_LEVEL_LEVEL 0 == 2) = true := by decide
/-- R187 and Table 7-2, on words written out bit by bit: ADD g2, g3, g4 wraps. -/
theorem test_add_wraps : After (exec (.add 4 none) (run [0b00010011001000110000000000000100] [g 3 0xFFFFFFFF, g 4 2]))
    (fun t => t.g 4 2 == 1 && t.pc 4 == 4) = true := by decide
/-- SUB g2, g2, g3: the destination is a source too. -/
theorem test_sub_same : After (exec (.sub 4 none) (run [0b00010100001000100000000000000011] [g 2 1, g 3 3]))
    (fun t => t.g 4 2 == 0xFFFFFFFE) = true := by decide
/-- Long LI takes its second word whole, and the next address is two words on. -/
theorem test_li_long : After (exec (.liLong 4 none) (run [0b00010001010100000000000000000000, 0xDEADBEEF] []))
    (fun t => t.g 4 5 == 0xDEADBEEF && t.pc 4 == 8) = true := by decide
/-- LD sign-extends its displacement: word 3 of data memory from base 16 and displacement -4. -/
theorem test_ld_displacement : After (exec (.ld 4 none)
    { run [0b00100000001000111111111111111100] [g 3 16] with dmem := [(4 * 16384 + 3, 77)] }) (fun t => t.g 4 2 == 77) = true := by
  decide
/-- R177: an opcode of no row stops the engine with ILLEGAL. -/
theorem test_undefined_opcode : After (exec (.undefinedOpcode 4 none) (run [0xFF000000] []))
    (fun t => t.rd F.CUE_STATUS_STATE 4 == Es.faulted) = true := by decide
/-- R184: YIELD restarts the watchdog count. -/
theorem test_yield : After (exec (.yield 4 none) { run [0b00000110000000000000000000000000] [] with clk := 9 })
    (fun t => (t.eng 4).runSince == 9 && t.pc 4 == 4 && t.es 4 == Es.running) = true := by decide
/-- A write of THERM_CFG whose WARN lies above ALARM keeps both and takes HYST. -/
theorem test_therm_cfg : After (exec (.thermCfgWrite 0x00051020) (st [])) (fun t =>
    t.rd F.ADMIT_THERM_CFG_WARN 0 == (st []).rd F.ADMIT_THERM_CFG_WARN 0 && t.rd F.ADMIT_THERM_CFG_HYST 0 == 5) = true := by decide
/-- R229: value 1 of a packed line lies in bits 19-10 of its little-endian bytes. -/
theorem test_packed : packed [0x01, 0xA8, 0x0F, 0x00] 0 = 1 ∧ packed [0x01, 0xA8, 0x0F, 0x00] 1 = 0x3EA := by decide
/-- R95: pixels 2 and 3 of an odd line of a 12G picture lie in sub-image 4, those of a 6G picture in sub-channel 1 of strand 1. -/
theorem test_sub_image : pixelAt 6 false 0 7 1 = (3, 0, 3) ∧ pixelAt 6 true 0 7 1 = (1, 1, 3) := by decide
/-- R266, the worked example: text at luma 940 is opaque, black at 64 clear. -/
theorem test_key : clip 0 65536 ((940 - 64) * 75) = 65536 ∧ clip 0 65536 ((64 - 64) * 75) = 0 := by decide
/-- R264: the walk through a cell follows the falling fractions. -/
theorem test_axes : axes (fun k => [5, 9, 7].getD k 0) = (1, 2, 0) := by decide
/-- R231: a record of another line is passed over, a header of 0 ends the area. -/
theorem test_anc_walk : (ancWalk (fun o => [9, 0, 1, 0, 1, 2, 0, 0, 10, 0, 1, 0, 3, 4, 0, 0].getD o 0) 64 10 8 0) = [[10, 0, 1, 0, 3, 4, 0, 0]] := by
  decide

/-- The timing reference code's fourth word: EAV and SAV of active lines, and those of blanking lines (R92). -/
theorem test_trs : xyz false false true = 0x274 ∧ xyz false false false = 0x200 ∧ xyz false true true = 0x2D8 ∧
    xyz true true false = 0x3B0 := by decide
/-- Line number words: line 1125 is 1100101 over 0001000. -/
theorem test_line_number : lnWords 1 = [0x204, 0x200] ∧ lnWords 1125 = [0x194, 0x220] := by decide
/-- R316: a bit pair, the first bit the more significant, takes the Gray levels 0, 1, 3, 2. -/
theorem test_gray : levelsOf [0, 0, 0, 1, 1, 1, 1, 0] = [0, 1, 2, 3] := by decide
/-- R317: what is scrambled comes back, whatever the descrambler held 58 bits before. -/
theorem test_scrambler : (descramble 5 (scramble 5 0xF0E1D2C300010002).2).2 = 0xF0E1D2C300010002 := by decide
/-- The worked example of chapter 21: FL[57] transmits on BY5 and BY6; GPI[0], signal 51, is M15; THERMTRIP_N, signal 49, M13. -/
theorem test_balls : (Serdes.fl 57).balls = [⟨57, 5⟩, ⟨57, 6⟩, ⟨58, 7⟩, ⟨58, 8⟩] ∧ rowName 57 = "BY" ∧ rowName 58 = "CA" ∧
    ioBall 51 = ⟨12, 15⟩ ∧ ioBall 49 = ⟨12, 13⟩ ∧ rowName 12 = "M" := by decide

/-! ### Ill-formed commands are refused -/

theorem test_wf_accepts : (Instr.registerWrite 0x0FFFFFC 0).wf = true ∧ (Instr.thermalRead (List.replicate 24 255)).wf = true ∧
    (Instr.readyAssert (List.replicate 16 (2 ^ 1023 - 1))).wf = true ∧ (Instr.readyAssert [2 ^ 1023]).wf = false ∧
    (Instr.helloRx ⟨3, 1, 2⟩ (List.replicate 51 0)).wf = true := by decide
theorem test_wf_registerWrite : (Instr.registerWrite 0x1000000 0).wf = false ∧ (Instr.registerWrite 2 0).wf = false := by decide
theorem test_wf_rcRead : (Instr.rcRead 0x1000000).wf = false ∧ (Instr.rcRead 3).wf = false := by decide
theorem test_wf_captureRead : (Instr.captureRead 0x1000000).wf = false ∧ (Instr.captureRead 1).wf = false := by decide
theorem test_wf_unmappedAccess : (Instr.unmappedAccess true (2 ^ 28) false).wf = false := by decide
theorem test_wf_driftUpdate : (Instr.driftUpdate (List.replicate 7 0)).wf = false ∧
    (Instr.driftUpdate (List.replicate 8 4294967296)).wf = false := by decide
theorem test_wf_gates : (Instr.synthLock (0, [2 ^ 32])).wf = false ∧ (Instr.synthLockLoss (0, [2 ^ 32], 0)).wf = false := by decide
theorem test_wf_strandLineJudge : (Instr.strandLineJudge 0 ⟨[2 ^ 20], 1⟩).wf = false ∧ (Instr.strandLineJudge 0 ⟨[], 0⟩).wf = false ∧
    (Instr.strandLineJudge 0 ⟨[], 2 ^ 20⟩).wf = false := by decide
theorem test_wf_cueRecordAccept : (Instr.cueRecordAccept 0 []).wf = false := by decide
theorem test_wf_placementLoop : (Instr.placementLoop [] [0, 0, 0, 0] [0, 0, 0, 0]).wf = false ∧
    (Instr.placementLoop [0, 0, 0, 0] [0, 0, 0, 111] [0, 0, 0, 0]).wf = false ∧
    (Instr.placementLoop [0, 0, 0, 0] [0, 0, 0, 0] [0, 0, 0]).wf = false := by decide
theorem test_wf_cxlAddress : (Instr.cxlEventRecord 0 (2 ^ 64)).wf = false ∧ (Instr.cxlMemTimeout 0 (2 ^ 64)).wf = false := by decide
theorem test_wf_recorderLineComplete : (Instr.recorderLineComplete 0 [[], [], [], [], []] () ()).wf = false ∧
    (Instr.recorderLineComplete 0 [[2 ^ 20]] () ()).wf = false := by decide
theorem test_wf_hostWindowAccess : (Instr.hostWindowAccess 0 (2 ^ 36) none 1 (none, false)).wf = false ∧
    (Instr.hostWindowAccess 0 0 none 4097 (none, false)).wf = false ∧ (Instr.hostWindowAccess 0 0 (some [256]) 1 (none, false)).wf = false := by
  decide
theorem test_wf_audioBoundary : (Instr.audioBoundary false ([(61952, 0)], [])).wf = false ∧
    (Instr.audioBoundary false ([(61440, 2 ^ 24)], [])).wf = false ∧ (Instr.audioBoundary false ([], [(65536, 0, false)])).wf = false := by
  decide
theorem test_wf_tdmFrame : (Instr.tdmFrame 0 0 (List.replicate 33 0)).wf = false ∧ (Instr.tdmFrame 0 0 [2 ^ 32]).wf = false := by
  decide
theorem test_wf_fabric : (Instr.tetosFrameRx 0 [0] () () ()).wf = false ∧ (Instr.cellRx 0 65 ()).wf = false := by decide
theorem test_wf_mediaFrameRx : (Instr.mediaFrameRx ⟨33, true, 64, 0, 0, 0, 0, false, none, none, 0, 0⟩).wf = false ∧
    (Instr.mediaFrameRx ⟨0, true, 65536, 0, 0, 0, 0, false, none, none, 0, 0⟩).wf = false ∧
    (Instr.mediaFrameRx ⟨0, true, 64, 2 ^ 48, 0, 0, 0, false, none, none, 0, 0⟩).wf = false := by decide
theorem test_wf_frameBytes : (Instr.mediaFrameRx ⟨0, true, 64, 0, 0, 0, 0, false, none, some ⟨false, true, [], [], 0, [256]⟩, 0, 0⟩).wf = false ∧
    (Instr.ancPacketTx 0 65536).wf = false := by decide
theorem test_wf_txDescriptorSend : (Instr.txDescriptorSend 0 (2 ^ 32) 0 none).wf = false ∧
    (Instr.txDescriptorSend 0 0 (2 ^ 32) none).wf = false ∧ (Instr.txDescriptorSend 0 0 0 (some [256])).wf = false := by decide
theorem test_wf_header : (Instr.giveupRx ⟨0, 2 ^ 32, 0⟩ 0).wf = false ∧ (Instr.cobaltStatusRx ⟨0, 0, 2 ^ 32⟩ 0 0 false false false).wf = false := by
  decide
theorem test_wf_helloRx : (Instr.helloRx ⟨0, 0, 0⟩ []).wf = false := by decide
theorem test_wf_recordRx : (Instr.recordRx ⟨0, 0, 0⟩ 0 []).wf = false := by decide
theorem test_wf_valueRx : (Instr.valueRx ⟨0, 0, 0⟩ 0 (2 ^ 17) 0 ⟨0, 0, 0⟩ []).wf = false ∧
    (Instr.valueRx ⟨0, 0, 0⟩ 0 0 256 ⟨0, 0, 0⟩ []).wf = false ∧ (Instr.valueRx ⟨0, 0, 0⟩ 0 0 0 ⟨2 ^ 64, 0, 0⟩ []).wf = false ∧
    (Instr.valueRx ⟨0, 0, 0⟩ 0 0 0 ⟨0, 0, 0⟩ [0, 0, 0, 0, 0]).wf = false := by decide
theorem test_wf_cackRx : (Instr.cackRx ⟨0, 0, 0⟩ 0 (2 ^ 17) 0).wf = false ∧ (Instr.cackRx ⟨0, 0, 0⟩ 0 0 256).wf = false := by decide
theorem test_wf_hostwRx : (Instr.hostwRx ⟨0, 0, 0⟩ 256 0 ⟨0, 0, 0⟩ []).wf = false ∧
    (Instr.hostwRx ⟨0, 0, 0⟩ 0 (2 ^ 64) ⟨0, 0, 0⟩ []).wf = false ∧ (Instr.hostwRx ⟨0, 0, 0⟩ 0 0 ⟨0, 0, 0⟩ [256]).wf = false := by decide
theorem test_wf_digests : (Instr.digestRx ⟨0, 0, 0⟩ 0 (2 ^ 64) []).wf = false ∧
    (Instr.digestRx ⟨0, 0, 0⟩ 0 0 [(0, 2 ^ 32)]).wf = false := by decide
theorem test_wf_times : (Instr.timeRx ⟨0, 0, 0⟩ (2 ^ 96)).wf = false ∧ (Instr.echoRx ⟨0, 0, 0⟩ (2 ^ 96) 0 0).wf = false ∧
    (Instr.echoRx ⟨0, 0, 0⟩ 0 (2 ^ 96) 0).wf = false ∧ (Instr.echoRx ⟨0, 0, 0⟩ 0 0 (2 ^ 96)).wf = false := by decide
theorem test_wf_stateRx : (Instr.stateRx ⟨0, 0, 0⟩ 256 (0, [])).wf = false ∧ (Instr.stateRx ⟨0, 0, 0⟩ 0 (0, [2 ^ 64])).wf = false := by decide
theorem test_wf_swapRx : (Instr.swapRx ⟨0, 0, 0⟩ 0 (2 ^ 64)).wf = false := by decide
theorem test_wf_discardedMessageRx : (Instr.discardedMessageRx 0 (0, [2 ^ 64]) false).wf = false := by decide
theorem test_wf_measures : (Instr.powerMeasure 2048).wf = false ∧ (Instr.thermalRead []).wf = false ∧
    (Instr.wearEstimate [(960, 0)]).wf = false ∧ (Instr.wearEstimate [(0, 65536)]).wf = false ∧
    (Instr.sramCanaryTest [(703, 0)]).wf = false ∧ (Instr.sramCanaryTest [(832, 0)]).wf = false ∧
    (Instr.sramCanaryTest [(704, 65536)]).wf = false ∧ (Instr.scrubDone 0 true [2048]).wf = false := by decide
theorem test_wf_tldWords : (Instr.warmReset 0 .none [2 ^ 32]).wf = false ∧ (Instr.hostIfReset .none [2 ^ 32]).wf = false ∧
    (Instr.d3hotEntry .none [2 ^ 32]).wf = false ∧ (Instr.tldAbort 0 [2 ^ 32]).wf = false ∧ (Instr.tldDone [2 ^ 32]).wf = false := by
  decide
theorem test_wf_dmaReadError : (Instr.dmaReadError 64 0 false []).wf = false ∧ (Instr.dmaReadError 0 (2 ^ 64) false []).wf = false ∧
    (Instr.dmaReadError 0 0 false [2 ^ 32]).wf = false := by decide
theorem test_wf_smbSetAddr : (Instr.smbSetAddr (2 ^ 32) false).wf = false := by decide

end Sys2Proof.Tests
end

section
/-! PROOFS. Host accesses to BAR0 (chapters 0, 18, 20): what REGISTER_WRITE, RC_READ, CAPTURE_READ and UNMAPPED_ACCESS do, one lemma
per case, and the statement about them all. -/
namespace Sys2Proof.Proofs
open Sys2Proof.Machine Sys2Proof.Laws

/-! ### The commands -/

theorem exec_registerWrite (off : Nat) (w : Word) (s : State) : exec (.registerWrite off w) s = .next (s.hostPut off w.toNat) := rfl

theorem exec_rcRead (off : Nat) (s : State) : exec (.rcRead off) s = .next (s.hostRead off) := rfl

theorem exec_captureRead (off : Nat) (s : State) :
    exec (.captureRead off) s = .next (if (captureOf off).isSome then s.hostRead off else s) := rfl

theorem exec_unmappedAccess (bar2 : Bool) (off : Nat) (write : Bool) (s : State) :
    exec (.unmappedAccess bar2 off write) s = execUnmappedAccess bar2 off write s := rfl

/-! ### Writes -/

/-- A write of a word that stands goes to its register's rule, behind what every host write meets. -/
theorem hostPut_mapped {off : Nat} (h : bar0Mapped off = true) (w : Nat) (s : State) :
    s.hostPut off w = s.hostWrite off w (State.regWrite 5 off w) := if_pos h

/-- R466, R499. -/
theorem hostPut_unmapped {off : Nat} {s : State} (h : bar0Mapped off = false) (hr : s.pins.ready = true) (hd : s.hif.d3 = false)
    (w : Nat) : s.hostPut off w = s.unmapped false off := by
  simp [State.hostPut, h, hr, hd]

/-- R459. -/
theorem turnedAway_notReady {s : State} (h : s.pins.ready = false) (top : Bool) : s.turnedAway top = s := if_pos (.inl h)

/-- R467. -/
theorem turnedAway_notDecoded {s : State} (h : s.hif.d3 = true) (top : Bool) : s.turnedAway top = s := if_pos (.inr h)

/-- R451. -/
theorem turnedAway_early {s : State} (hr : s.pins.ready = true) (hd : s.hif.d3 = false) (hm : s.mode ≤ Mode.init) :
    s.turnedAway false = s.wr F.TOP_INIT_STATUS_WR_EARLY 0 1 := by
  simp [State.turnedAway, hr, hd, hm]

/-- R401. -/
theorem turnedAway_late {s : State} (hr : s.pins.ready = true) (hd : s.hif.d3 = false) (hm : ¬ s.mode ≤ Mode.init) (top : Bool) :
    s.turnedAway top = s.event F.COBALT_EVENT_STBY_REFUSED 0 Irq.cobalt := by
  simp [State.turnedAway, hr, hd, hm]

/-- A register write that is not carried out is turned away, whatever the register's rule. -/
theorem registerWrite_shut {off : Nat} {s : State} (hb : bar0Mapped off = true) (h : ¬ s.HostOpen off) (w : Word) :
    exec (.registerWrite off w) s = .next (s.turnedAway (blockOf off = some .top)) := by
  rw [exec_registerWrite, hostPut_mapped hb, hostWrite_shut h]

/-- R459. -/
theorem registerWrite_notReady {off : Nat} {s : State} (hb : bar0Mapped off = true) (hr : s.pins.ready = false) (w : Word) :
    exec (.registerWrite off w) s = .next s := by
  have hshut : ¬ s.HostOpen off := fun ⟨hready, _⟩ => by simp [hr] at hready
  rw [registerWrite_shut hb hshut, turnedAway_notReady hr]

/-- R467. -/
theorem registerWrite_notDecoded {off : Nat} {s : State} (hb : bar0Mapped off = true) (hd : s.hif.d3 = true) (w : Word) :
    exec (.registerWrite off w) s = .next s := by
  have hshut : ¬ s.HostOpen off := fun ⟨_, hdecoded, _⟩ => by simp [hd] at hdecoded
  rw [registerWrite_shut hb hshut, turnedAway_notDecoded hd]

/-- R451: before CALIBRATE only TOP takes writes. -/
theorem registerWrite_early {off : Nat} {s : State} (hb : bar0Mapped off = true) (hr : s.pins.ready = true) (hd : s.hif.d3 = false)
    (hm : s.mode ≤ Mode.init) (ht : blockOf off ≠ some .top) (w : Word) :
    exec (.registerWrite off w) s = .next (s.wr F.TOP_INIT_STATUS_WR_EARLY 0 1) := by
  have hshut : ¬ s.HostOpen off := fun ⟨_, _, hplace, _⟩ => hplace.elim (Nat.not_lt.mpr hm) ht
  rw [registerWrite_shut hb hshut, decide_eq_false ht, turnedAway_early hr hd hm]

/-- R401: a STANDBY device takes the writes of its mirrored registers from the twin alone. -/
theorem registerWrite_standby {off : Nat} {s : State} (hb : bar0Mapped off = true) (hr : s.pins.ready = true) (hd : s.hif.d3 = false)
    (hm : s.mode = Mode.standby) (hmir : mirroredOff off = true) (w : Word) :
    exec (.registerWrite off w) s = .next (s.event F.COBALT_EVENT_STBY_REFUSED 0 Irq.cobalt) := by
  have hshut : ¬ s.HostOpen off := fun ⟨_, _, _, hown⟩ => by simp [hown hm] at hmir
  have hlate : ¬ s.mode ≤ Mode.init := by simp [hm]
  rw [registerWrite_shut hb hshut, turnedAway_late hr hd hlate]

/-! ### Reads -/

/-- R459: only TOP_DEV_MODE and TOP_RESET_STATUS are read while READY is low. -/
theorem hostRead_notReady {s : State} (hr : s.pins.ready = false) (hd : s.hif.d3 = false) (off : Nat) :
    s.hostRead off = s.answer (if off = 0x10 ∨ off = 0x24 then s.wordNow off else 0xFFFFFFFF) := by
  simp [State.hostRead, hr, hd]

/-- R6, R500. -/
theorem hostRead_mapped {off : Nat} {s : State} (h : bar0Mapped off = true) (hr : s.pins.ready = true) (hd : s.hif.d3 = false) :
    s.hostRead off = (s.readReg 0 off true).1.answer (s.readReg 0 off true).2 := by
  simp [State.hostRead, h, hr, hd]

/-- R466, R499. -/
theorem hostRead_unmapped {off : Nat} {s : State} (h : bar0Mapped off = false) (hr : s.pins.ready = true) (hd : s.hif.d3 = false) :
    s.hostRead off = (s.unmapped false off).answer 0 := by
  simp [State.hostRead, h, hr, hd]

/-- R500: a word of a multi-word register is read as any other word. -/
theorem captureRead_some {off : Nat} (h : (captureOf off).isSome = true) (s : State) :
    exec (.captureRead off) s = exec (.rcRead off) s := by
  rw [exec_captureRead, exec_rcRead, if_pos h]

theorem captureRead_none {off : Nat} (h : (captureOf off).isSome = false) (s : State) : exec (.captureRead off) s = .next s := by
  simp [exec_captureRead, h]

/-! ### Accesses where nothing is mapped -/

/-- R466, R499. -/
theorem unmappedAccess_ready {s : State} (hr : s.pins.ready = true) (hd : s.hif.d3 = false) (bar2 : Bool) (off : Nat) (write : Bool) :
    exec (.unmappedAccess bar2 off write) s = .next (if write then s.unmapped bar2 off else (s.unmapped bar2 off).answer 0) := by
  simp [exec_unmappedAccess, execUnmappedAccess, hr, hd, ok]

/-- R459. -/
theorem unmappedAccess_notReady {s : State} (hr : s.pins.ready = false) (hd : s.hif.d3 = false) (bar2 : Bool) (off : Nat)
    (write : Bool) : exec (.unmappedAccess bar2 off write) s = .next (if write then s else s.answer 0xFFFFFFFF) := by
  simp [exec_unmappedAccess, execUnmappedAccess, hr, hd, ok]

/-! ### The statement -/

/-- Settles O17: each clause is the access's own case, the writes by the law of host writes that are not carried out. -/
theorem hostAccesses : Obligations.HostAccesses := by
  unfold Obligations.HostAccesses
  refine ⟨fun off w s => ⟨?write, ?read, ?capture, (captureRead_none · s), ?readLow, ?writeNowhere, ?readNowhere⟩,
    fun bar2 off s hd => ⟨?hole, ?holeRead, ?holeLow, ?holeReadLow⟩, fun off w s hb => ⟨?low, ?notDecoded, ?early, ?standby⟩⟩
  case write => exact fun hb => puts_of _ (by rw [exec_registerWrite, hostPut_mapped hb]; rfl)
  case read => exact fun hb hr hd => by rw [exec_rcRead, hostRead_mapped hb hr hd]
  case capture => exact fun hb hr hd hc => by rw [captureRead_some hc, exec_rcRead, hostRead_mapped hb hr hd]
  case readLow => exact fun hr hd => by rw [exec_rcRead, hostRead_notReady hr hd]
  case writeNowhere => exact fun hb hr hd => by rw [exec_registerWrite, hostPut_unmapped hb hr hd]
  case readNowhere => exact fun hb hr hd => by rw [exec_rcRead, hostRead_unmapped hb hr hd]
  case hole => exact fun hr => unmappedAccess_ready hr hd bar2 off true
  case holeRead => exact fun hr => unmappedAccess_ready hr hd bar2 off false
  case holeLow => exact fun hr => unmappedAccess_notReady hr hd bar2 off true
  case holeReadLow => exact fun hr => unmappedAccess_notReady hr hd bar2 off false
  case low => exact fun hr => registerWrite_notReady hb hr w
  case notDecoded => exact fun hd => registerWrite_notDecoded hb hd w
  case early => exact fun hr hd hm ht => registerWrite_early hb hr hd hm ht w
  case standby => exact fun hr hd hm hmir => registerWrite_standby hb hr hd hm hmir w

end Sys2Proof.Proofs
end

section
/-! PROOFS. CXL ports (chapters 1, 8, 16): what bring-up, RETRAIN, the expanders' reports and the loss of a port do, one lemma per
case, and the statement about them all. -/
namespace Sys2Proof.Proofs
open Sys2Proof.Machine Sys2Proof.Laws

/-! ### Bring-up -/

/-- Why the steps of R222 fail with a partner present, 0 where they do not: the step's own reason, or a link at a speed and width
that R221 does not let train. -/
def bringupReason (reason : Fin 7) (speed : Fin 3) (width : Fin 32) : Nat :=
  if reason.val ≠ 0 then reason.val else if linkHalf speed.val width.val = 0 then 2 else 0

/-- Port `c` in service at full or reduced speed with the capacity it found, its link and pages shown (R222, R224, R227). -/
def inService (c : Fin 4) (speed : Fin 3) (width : Fin 32) (units : Nat) (s : State) : State :=
  let found := Nat.min units 1024
  let up := ((((s.wr F.CXLP_PORT_STATUS_STATE c (if linkHalf speed.val width.val = 220 then 2 else 3)).wr
    F.CXLP_PORT_STATUS_REASON c 0).wr F.CXLP_PORT_STATUS_SPEED c speed).wr F.CXLP_PORT_STATUS_WIDTH c width).wr
    F.CXLP_PORT_STATUS_CAP_UNITS c found
  (up.setCxl c { up.cxl c with total := 128 * found, reserve := ceilDiv (3 * 128 * found) 100, timeouts := [] }).storeShow

/-- CALIBRATE waits on memory no more: its own steps are done and R26 is met. -/
def EndsMemShort (s : State) : Prop := s.mode = Mode.calibrate ∧ s.memOk = true ∧ s.on F.TOP_DEV_MODE_CAL_DONE 0 = true

theorem exec_cxlPortBringupDone (c : Fin 4) (partner : Bool) (reason : Fin 7) (speed : Fin 3) (width : Fin 32) (units : Nat)
    (s : State) : exec (.cxlPortBringupDone c partner reason speed width units) s =
      .next (if s.rd F.CXLP_PORT_STATUS_STATE c ≠ 1 then s
        else if !partner then ((s.wr F.CXLP_PORT_STATUS_STATE c 0).wr F.CXLP_PORT_STATUS_REASON c 0).storeShow
        else if bringupReason reason speed width ≠ 0 then
          ((s.wr F.CXLP_PORT_STATUS_STATE c 4).wr F.CXLP_PORT_STATUS_REASON c (bringupReason reason speed width)).storeShow
        else
          let t := inService c speed width units s
          if t.mode = Mode.calibrate && t.memOk && t.on F.TOP_DEV_MODE_CAL_DONE 0 then t.wr F.TOP_DEV_MODE_MEM_SHORT 0 0
          else t) := rfl

section
variable {c : Fin 4} {reason : Fin 7} {speed : Fin 3} {width : Fin 32} {s : State}

/-- A report on a port that is not training changes nothing. -/
theorem bringup_notTraining (h : ¬ s.rd F.CXLP_PORT_STATUS_STATE c = 1) (partner : Bool) (units : Nat) :
    exec (.cxlPortBringupDone c partner reason speed width units) s = .next s := by
  rw [exec_cxlPortBringupDone, if_pos h]

theorem bringup_absent (h : s.rd F.CXLP_PORT_STATUS_STATE c = 1) (units : Nat) :
    exec (.cxlPortBringupDone c false reason speed width units) s =
      .next ((s.wr F.CXLP_PORT_STATUS_STATE c 0).wr F.CXLP_PORT_STATUS_REASON c 0).storeShow := by
  rw [exec_cxlPortBringupDone, if_neg (not_not.mpr h), if_pos Bool.not_false]

theorem bringup_refused (h : s.rd F.CXLP_PORT_STATUS_STATE c = 1) (hr : bringupReason reason speed width ≠ 0) (units : Nat) :
    exec (.cxlPortBringupDone c true reason speed width units) s =
      .next ((s.wr F.CXLP_PORT_STATUS_STATE c 4).wr F.CXLP_PORT_STATUS_REASON c (bringupReason reason speed width)).storeShow := by
  rw [exec_cxlPortBringupDone, if_neg (not_not.mpr h), if_neg (by decide), if_pos hr]

theorem bringup_memReady (h : s.rd F.CXLP_PORT_STATUS_STATE c = 1) (hr : bringupReason reason speed width = 0) {units : Nat}
    (hm : EndsMemShort (inService c speed width units s)) : exec (.cxlPortBringupDone c true reason speed width units) s =
      .next ((inService c speed width units s).wr F.TOP_DEV_MODE_MEM_SHORT 0 0) := by
  obtain ⟨hmode, hmem, hcal⟩ := hm
  rw [exec_cxlPortBringupDone, if_neg (not_not.mpr h), if_neg (by decide), if_neg (not_not.mpr hr)]
  simp [hmode, hmem, hcal]

theorem bringup_inService (h : s.rd F.CXLP_PORT_STATUS_STATE c = 1) (hr : bringupReason reason speed width = 0) {units : Nat}
    (hm : ¬ EndsMemShort (inService c speed width units s)) : exec (.cxlPortBringupDone c true reason speed width units) s =
      .next (inService c speed width units s) := by
  rw [exec_cxlPortBringupDone, if_neg (not_not.mpr h), if_neg (by decide), if_neg (not_not.mpr hr)]
  refine congrArg _ (if_neg fun hcond => hm ?_)
  simpa [EndsMemShort, and_assoc] using hcond

end

/-! ### RETRAIN -/

/-- A port that RETRAIN may start again: out of service, not training, after CAL_DONE (R223). -/
def MayRetrain (c : Fin 4) (s : State) : Prop :=
  (s.rd F.CXLP_PORT_STATUS_STATE c = 0 ∨ s.rd F.CXLP_PORT_STATUS_STATE c = 4 ∨ s.rd F.CXLP_PORT_STATUS_STATE c = 5) ∧
    s.on F.TOP_DEV_MODE_CAL_DONE 0 = true

/-- What any write of CXLP_PORT_CTRL does first: RETRAIN_REFUSED as the host writes it. -/
def refusedAsWritten (c : Fin 4) (w : Nat) (s : State) : State := s.writeField F.CXLP_PORT_CTRL_RETRAIN_REFUSED c (bits w 1 1)

theorem exec_cxlpRetrain (c : Fin 4) (w : Word) (s : State) : exec (.cxlpRetrain c w) s =
    ok (s.hostWrite (0x1B0000 + 0x100 * c.val) (Nat.lor w.toNat 1) (State.cxlCtrl c (Nat.lor w.toNat 1))) := rfl

/-- The bits a command sets are set in its word. -/
theorem bit_lor_one (w : Nat) : bit (Nat.lor w 1) 0 = true := by
  rw [bit_lor]
  exact Bool.or_true _

theorem cxlCtrl_retrain {c : Fin 4} {w : Nat} {s : State} (hw : bit w 0 = true) (h : MayRetrain c s) :
    State.cxlCtrl c w s = (refusedAsWritten c w s).cxlTrain c := by
  unfold State.cxlCtrl
  rw [if_neg (by simp [hw])]
  exact if_pos h

theorem cxlCtrl_refused {c : Fin 4} {w : Nat} {s : State} (hw : bit w 0 = true) (h : ¬ MayRetrain c s) :
    State.cxlCtrl c w s = (refusedAsWritten c w s).wr F.CXLP_PORT_CTRL_RETRAIN_REFUSED c 1 := by
  unfold State.cxlCtrl
  rw [if_neg (by simp [hw])]
  exact if_neg h

/-- RETRAIN is a host write of its port's CXLP_PORT_CTRL. -/
theorem cxlpRetrain_puts {c : Fin 4} {w : Word} {s t : State} (h : State.cxlCtrl c (Nat.lor w.toNat 1) s = t) :
    Sets (.cxlpRetrain c w) (0x1B0000 + 0x100 * c.val) w 1 s t :=
  h ▸ puts_of _ (exec_cxlpRetrain c w s)

/-! ### Reports of an expander -/

/-- The correctable errors of region `g` of port `c` within the window CE_WIN, the one now reported among them (R226). -/
def errorsSeen (c : Fin 4) (g : Nat) (s : State) : List Nat :=
  (tget (s.cxl c).ces g []).filter (fun t => decide (s.clk < t + s.rd F.SABLE_PLACE_CFG_CE_WIN 0 * 3600 * sClk)) ++ [s.clk]

/-- A correctable error of region `g` counted, for its region and its port. -/
def errorCounted (c : Fin 4) (g : Nat) (s : State) : State :=
  (s.setCxl c { s.cxl c with ces := tput (s.cxl c).ces g (errorsSeen c g s) [] }).incSat F.CXLP_CE_CNT_COUNT c

theorem exec_cxlEventRecord (c : Fin 4) (addr : Nat) (s : State) : exec (.cxlEventRecord c addr) s =
    .next (if s.rd F.CXLP_PORT_STATUS_CAP_UNITS c ≤ addr / 2 ^ 28 then s.violation 4 c 0x03 1 (addr / 65536) (Src.cxl c)
      else if s.rd F.SABLE_PLACE_CFG_CE_THR 0 ≤ (errorsSeen c (addr / 2 ^ 28) s).length then
        (errorCounted c (addr / 2 ^ 28) s).markRegion c (addr / 2 ^ 28)
      else errorCounted c (addr / 2 ^ 28) s) := rfl

section
variable {c : Fin 4} {addr : Nat} {s : State}

/-- R438. -/
theorem eventRecord_beyond (h : s.rd F.CXLP_PORT_STATUS_CAP_UNITS c ≤ addr / 2 ^ 28) : exec (.cxlEventRecord c addr) s =
    .next (s.violation 4 c 0x03 1 (addr / 65536) (Src.cxl c)) := by
  rw [exec_cxlEventRecord, if_pos h]

theorem eventRecord_below (h : addr / 2 ^ 28 < s.rd F.CXLP_PORT_STATUS_CAP_UNITS c)
    (ht : (errorsSeen c (addr / 2 ^ 28) s).length < s.rd F.SABLE_PLACE_CFG_CE_THR 0) :
    exec (.cxlEventRecord c addr) s = .next (errorCounted c (addr / 2 ^ 28) s) := by
  rw [exec_cxlEventRecord, if_neg (Nat.not_le.mpr h), if_neg (Nat.not_le.mpr ht)]

theorem eventRecord_atThreshold (h : addr / 2 ^ 28 < s.rd F.CXLP_PORT_STATUS_CAP_UNITS c)
    (ht : s.rd F.SABLE_PLACE_CFG_CE_THR 0 ≤ (errorsSeen c (addr / 2 ^ 28) s).length) :
    exec (.cxlEventRecord c addr) s = .next ((errorCounted c (addr / 2 ^ 28) s).markRegion c (addr / 2 ^ 28)) := by
  rw [exec_cxlEventRecord, if_neg (Nat.not_le.mpr h), if_pos ht]

end

/-- The timeouts of port `c` within the last 1 ms, the one now met among them (Table 8-7). -/
def lateNow (c : Fin 4) (s : State) : State :=
  s.setCxl c { s.cxl c with timeouts := (s.cxl c).timeouts.filter (fun t => decide (s.clk < t + msClk)) ++ [s.clk] }

theorem exec_cxlMemTimeout (c : Fin 4) (addr : Nat) (s : State) : exec (.cxlMemTimeout c addr) s =
    .next ((((lateNow c s).incSat F.CXLP_TIMEOUT_CNT_COUNT c).event F.SABLE_EVENT_TIMEOUT 0 Irq.sable).violation
      4 c 0x01 3 (addr / 65536) (Src.cxl c)) := rfl

theorem exec_cxlMailboxTimeout (c : Fin 4) (s : State) :
    exec (.cxlMailboxTimeout c) s = .next (s.violation 4 c 0x04 2 0 (Src.cxl c)) := rfl

/-! ### Loss of a port -/

/-- Port `c` in service meets what fails it: its link is lost, or (`rep`) 16 timeouts came within 1 ms (Table 8-7). -/
def PortFails (c : Fin 4) (rep : Bool) (s : State) : Prop :=
  s.portUp c = true ∧ (rep = true → 16 ≤ (s.cxl c).timeouts.length)

/-- Port `c` out of service, its pages and weight gone, before what they held is replaced. -/
def portGone (c : Fin 4) (s : State) : State :=
  let fail := (s.wr F.CXLP_PORT_STATUS_STATE c 5).wr F.CXLP_PORT_STATUS_REASON c 7
  (fail.setCxl c { fail.cxl c with used := [], weight := 0 }).event F.SABLE_EVENT_PORT_FAIL 0 Irq.sable

/-- What every buffer in use lost on port `c` is replaced (R248). -/
def lossesReplaced (c : Fin 4) (s : State) : State :=
  (s.sable.descs.filter fun e => decide (e.2.state ≠ 0)).foldl (fun s e => s.replaceLost c e.1) s

theorem exec_cxlPortFail (c : Fin 4) (rep : Bool) (s : State) : exec (.cxlPortFail c rep) s =
    .next (if !s.portUp c || (rep && decide ((s.cxl c).timeouts.length < 16)) then s
      else (lossesReplaced c (portGone c s)).storeShow.faultEvent (Src.cxl c) true) := rfl

/-- The model's test for doing nothing is the opposite of what fails a port. -/
theorem portStays_iff (c : Fin 4) (rep : Bool) (s : State) :
    (!s.portUp c || (rep && decide ((s.cxl c).timeouts.length < 16))) = true ↔ ¬ PortFails c rep s := by
  cases rep <;> cases hup : s.portUp c <;> simp [PortFails, hup]

theorem portFail_fails {c : Fin 4} {rep : Bool} {s : State} (h : PortFails c rep s) : exec (.cxlPortFail c rep) s =
    .next ((lossesReplaced c (portGone c s)).storeShow.faultEvent (Src.cxl c) true) := by
  rw [exec_cxlPortFail, if_neg (mt (portStays_iff c rep s).mp (not_not.mpr h))]

theorem portFail_stays {c : Fin 4} {rep : Bool} {s : State} (h : ¬ PortFails c rep s) : exec (.cxlPortFail c rep) s = .next s := by
  rw [exec_cxlPortFail, if_pos ((portStays_iff c rep s).mpr h)]

/-! ### The statement -/

/-- Settles O31: each clause is one case of its command, RETRAIN's two by the law of host writes. -/
theorem cxlPortCommands : Obligations.CxlPortCommands := by
  unfold Obligations.CxlPortCommands
  intro c partner rep reason speed width units addr w s
  refine ⟨(bringup_notTraining · partner units), ?absent, ?refused, ?memReady, ?inService, ?retrain, ?retrainRefused,
    eventRecord_beyond, eventRecord_below, eventRecord_atThreshold, exec_cxlMemTimeout c addr s, portFail_fails, portFail_stays,
    exec_cxlMailboxTimeout c s⟩
  case absent => exact fun ht hp => hp ▸ bringup_absent ht units
  case refused => exact fun ht hp hr => hp ▸ bringup_refused ht hr units
  case memReady => exact fun ht hp hr hm => hp ▸ bringup_memReady ht hr hm
  case inService => exact fun ht hp hr hm => hp ▸ bringup_inService ht hr hm
  case retrain => exact fun hi => cxlpRetrain_puts (cxlCtrl_retrain (bit_lor_one _) hi)
  case retrainRefused => exact fun hi => cxlpRetrain_puts (cxlCtrl_refused (bit_lor_one _) hi)

end Sys2Proof.Proofs
end

section
/-! PROOFS. Comparators and the GPO schedule (chapter 2): what a write to them does, one lemma per case, what a fire signals and what it
leaves, and the statement about them all. -/
namespace Sys2Proof.Proofs
open Sys2Proof.Machine Sys2Proof.Laws

/-- A command that is a host write, by what its register's rule makes of the state. -/
theorem puts_of_eq {c : Instr} {off v : Nat} {s t : State} {f : State → State} (h : exec c s = ok (s.hostWrite off v f))
    (ht : f s = t) : Puts c off v s t :=
  ht ▸ puts_of f h

/-! ### The commands -/

theorem exec_cmpArm (k : Fin 32) (w : Word) (s : State) : exec (.cmpArm k w) s =
    ok (s.hostWrite (0x10400 + 0x20 * k.val) w.toNat (State.cmpArm k w.toNat)) := rfl

theorem exec_cmpDisarm (k : Fin 32) (w : Word) (s : State) : exec (.cmpDisarm k w) s =
    ok (s.hostWrite (0x10400 + 0x20 * k.val) w.toNat (State.cmpDisarm k w.toNat)) := rfl

theorem exec_cmpTgtWrite (k : Fin 32) (x : Fin 4) (w : Word) (s : State) : exec (.cmpTgtWrite k x w) s =
    ok (s.hostWrite (0x10404 + 0x20 * k.val + 4 * x.val) w.toNat (State.cmpTgt k x w.toNat)) := rfl

theorem exec_gpoSchedWrite (j : Fin 256) (y : Fin 6) (w : Word) (s : State) : exec (.gpoSchedWrite j y w) s =
    ok (s.hostWrite (0x12000 + 0x20 * j.val + 4 * y.val) w.toNat (State.schedWrite j y w.toNat)) := rfl

theorem exec_comparatorFire (k : Fin 32) (s : State) : exec (.comparatorFire k) s =
    .next (if s.on F.SLATE_CMP_CTRL_ARM k && s.enabled (s.rd F.SLATE_CMP_CTRL_RASTER k) &&
      s.reached (s.rd F.SLATE_CMP_CTRL_RASTER k) (s.cmpTarget k) then s.cmpFire k false else s) := rfl

theorem exec_gpoSchedApply (j : Fin 256) (s : State) : exec (.gpoSchedApply j) s =
    .next (if s.schedDue j && !(List.range j.val).any s.schedDue then s.schedApply j else s) := rfl

/-! ### Arming and disarming (R47) -/

section
variable {k w : Nat} {s : State}

theorem cmpArm_refused (h : (s.cmpFields k w).cmpOk k = false) :
    s.cmpArm k w = (s.cmpFields k w).wr F.SLATE_CMP_STATUS_ARM_REFUSED k 1 := by
  simp [State.cmpArm, h]

/-- Comparator `k` armed with the fields that the word `w` gives it. -/
def cmpArmed (k w : Nat) (s : State) : State := (s.cmpFields k w).wr F.SLATE_CMP_CTRL_ARM k 1

theorem cmpArm_waits (h : (s.cmpFields k w).cmpOk k = true)
    (hr : (cmpArmed k w s).reached ((cmpArmed k w s).rd F.SLATE_CMP_CTRL_RASTER k) ((cmpArmed k w s).cmpTarget k) = false) :
    s.cmpArm k w = cmpArmed k w s := by
  unfold cmpArmed at *
  simp [State.cmpArm, h, hr]

theorem cmpArm_fires (h : (s.cmpFields k w).cmpOk k = true)
    (hr : (cmpArmed k w s).reached ((cmpArmed k w s).rd F.SLATE_CMP_CTRL_RASTER k) ((cmpArmed k w s).cmpTarget k) = true) :
    s.cmpArm k w = (cmpArmed k w s).cmpFire k
      (((cmpArmed k w s).cmpTarget k).lt ((cmpArmed k w s).pos ((cmpArmed k w s).rd F.SLATE_CMP_CTRL_RASTER k))) := by
  unfold cmpArmed at *
  simp [State.cmpArm, h, hr]

theorem cmpTgt_armed (h : s.on F.SLATE_CMP_CTRL_ARM k = true) (x : Nat) :
    s.cmpTgt k x w = s.wr F.SLATE_CMP_STATUS_ARM_REFUSED k 1 := if_pos h

theorem cmpTgt_frameLo (h : s.on F.SLATE_CMP_CTRL_ARM k = false) : s.cmpTgt k 0 w = s.wr F.SLATE_CMP_TGT_FRAME_LO k w :=
  if_neg (Bool.eq_false_iff.mp h)

theorem cmpTgt_frameHi (h : s.on F.SLATE_CMP_CTRL_ARM k = false) : s.cmpTgt k 1 w = s.wr F.SLATE_CMP_TGT_FRAME_HI k w :=
  if_neg (Bool.eq_false_iff.mp h)

theorem cmpTgt_lineSample (h : s.on F.SLATE_CMP_CTRL_ARM k = false) :
    s.cmpTgt k 2 w = (s.wr F.SLATE_CMP_TGT_LINE k w).wr F.SLATE_CMP_TGT_SAMPLE k (w / 65536) :=
  if_neg (Bool.eq_false_iff.mp h)

theorem cmpTgt_period (h : s.on F.SLATE_CMP_CTRL_ARM k = false) : s.cmpTgt k 3 w = s.wr F.SLATE_CMP_TGT_PERIOD k w :=
  if_neg (Bool.eq_false_iff.mp h)

end

/-! ### Fires (R38, R48) -/

/-- Comparator `k` is armed on a running raster and its target is reached. -/
def CmpDue (k : Nat) (s : State) : Prop :=
  s.on F.SLATE_CMP_CTRL_ARM k = true ∧ s.enabled (s.rd F.SLATE_CMP_CTRL_RASTER k) = true ∧
    s.reached (s.rd F.SLATE_CMP_CTRL_RASTER k) (s.cmpTarget k) = true

theorem comparatorFire_due {k : Fin 32} {s : State} (h : CmpDue k s) : exec (.comparatorFire k) s = .next (s.cmpFire k false) := by
  obtain ⟨harm, hen, hreached⟩ := h
  simp [exec_comparatorFire, harm, hen, hreached]

theorem comparatorFire_notDue {k : Fin 32} {s : State} (h : ¬ CmpDue k s) : exec (.comparatorFire k) s = .next s := by
  rw [exec_comparatorFire, if_neg]
  simpa [CmpDue, and_assoc] using h

/-- FIRED, the event bit and the count of comparator `k`. -/
def fireCounted (k : Nat) (s : State) : State :=
  ((s.wr F.SLATE_CMP_STATUS_FIRED k 1).wr F.SLATE_CMP_EVENT_FIRED k 1).addWrap F.SLATE_CMP_STATUS_FIRE_COUNT k 1

/-- A fire counted and told to the host and to the engines that the comparator names. -/
def fireTold (k : Nat) (s : State) : State :=
  (if s.on F.SLATE_CMP_CTRL_IRQ k then (fireCounted k s).raise Irq.cmp else fireCounted k s).engMask
    (s.rd F.SLATE_CMP_CTRL_ENG_MASK k) 4

section
variable {k : Nat} {s : State}

theorem cmpFire_once (h : s.on F.SLATE_CMP_CTRL_PERIODIC k = false) :
    s.cmpFire k false = (fireTold k s).wr F.SLATE_CMP_CTRL_ARM k 0 := by
  unfold State.cmpFire
  exact if_neg (by simp [h])

theorem cmpFire_wide (h : s.on F.SLATE_CMP_CTRL_PERIODIC k = true) (hs : s.on F.SLATE_CMP_CTRL_STYLE k = false) :
    s.cmpFire k false = (fireTold k s).wr64 F.SLATE_CMP_TGT_FRAME_LO F.SLATE_CMP_TGT_FRAME_HI k
      (s.rd64 F.SLATE_CMP_TGT_FRAME_LO F.SLATE_CMP_TGT_FRAME_HI k + s.rd F.SLATE_CMP_TGT_PERIOD k) := by
  unfold State.cmpFire
  exact (if_pos h).trans (if_neg (by simp [hs]))

theorem cmpFire_short (h : s.on F.SLATE_CMP_CTRL_PERIODIC k = true) (hs : s.on F.SLATE_CMP_CTRL_STYLE k = true) :
    s.cmpFire k false = (fireTold k s).addWrap F.SLATE_CMP_TGT_FRAME_LO k (s.rd F.SLATE_CMP_TGT_PERIOD k) := by
  unfold State.cmpFire
  exact (if_pos h).trans (if_pos hs)

end

/-! ### What a fire leaves (R37, R48) -/

/-- A field of the comparators' words, which take 256 bits a comparator from 0x10400 on. -/
abbrev CmpField (f : Fld) : Prop := f.n2 = 1 ∧ f.s1 = 256 ∧ f.base / 256 = 2080

theorem cmpField_key {f : Fld} (h : CmpField f) (k : Nat) : f.key k = f.base + 256 * k := by
  obtain ⟨hn, hs, -⟩ := h
  simp [Fld.key, hn, hs, Nat.mul_comm, Nat.mod_one]

theorem cmpField_key_ne {f g : Fld} (hf : CmpField f) (hg : CmpField g) (h : f.base ≠ g.base) (k m : Nat) : f.key k ≠ g.key m := by
  rw [cmpField_key hf, cmpField_key hg]
  obtain ⟨-, -, hf⟩ := hf
  obtain ⟨-, -, hg⟩ := hg
  omega

/-- Every field of a comparator lies below the comparators' event register, the engines' and the vectors'. -/
theorem cmpField_key_lt {f : Fld} (h : CmpField f) {k : Nat} (hk : k < 32) : f.key k < F.SLATE_CMP_EVENT_FIRED.base := by
  rw [cmpField_key h, show F.SLATE_CMP_EVENT_FIRED.base = 540672 from rfl]
  obtain ⟨-, -, h⟩ := h
  omega

theorem base_le_key (f : Fld) (k : Nat) : f.base ≤ f.key k := by
  unfold Fld.key
  omega

theorem rd_wr_cmpField {f g : Fld} (hf : CmpField f) (hg : CmpField g) (h : g.base ≠ f.base) (s : State) (k m v : Nat) :
    (s.wr f k v).rd g m = s.rd g m :=
  rd_wr_ne s f g k m v (cmpField_key_ne hg hf h m k)

section
variable {g : Fld} (hg : CmpField g) {m : Nat} (hm : m < 32)
include hg hm

/-- What a fire tells changes no field of a comparator. -/
theorem fireTold_rd (k : Nat) (s : State) : (fireTold k s).rd g m = (fireCounted k s).rd g m := by
  have hlow := cmpField_key_lt hg hm
  have hpend : ∀ v, g.key m ≠ F.MSIX_PBA_PENDING.key v := fun v =>
    ((hlow.trans (by decide)).trans_le (base_le_key F.MSIX_PBA_PENDING v)).ne
  have hev : ∀ v, v < 5 → g.key m ≠ F.CUE_EVPEND_BITS.key v := fun v _ =>
    ((hlow.trans (by decide)).trans_le (base_le_key F.CUE_EVPEND_BITS v)).ne
  unfold fireTold
  rw [engMask_rd _ _ _ _ _ hev]
  split
  · exact raise_rd _ _ _ _ hpend
  · rfl

theorem rd_wr_cmpEvent (k v : Nat) (s : State) : (s.wr F.SLATE_CMP_EVENT_FIRED k v).rd g m = s.rd g m :=
  rd_wr_ne _ _ _ _ _ _ ((cmpField_key_lt hg hm).trans_le (base_le_key _ k)).ne

/-- A fire counts in FIRED and FIRE_COUNT alone, of the fields of comparators. -/
theorem fireCounted_rd (hf : g.base ≠ F.SLATE_CMP_STATUS_FIRED.base) (hc : g.base ≠ F.SLATE_CMP_STATUS_FIRE_COUNT.base) (k : Nat)
    (s : State) : (fireCounted k s).rd g m = s.rd g m := by
  unfold fireCounted State.addWrap
  rw [rd_wr_cmpField (by decide) hg hc, rd_wr_cmpEvent hg hm, rd_wr_cmpField (by decide) hg hf]

/-- What follows a fire, disarming or the next target, changes ARM and the target frame alone, of the fields of comparators. -/
theorem cmpFire_rd (ha : g.base ≠ F.SLATE_CMP_CTRL_ARM.base) (hl : g.base ≠ F.SLATE_CMP_TGT_FRAME_LO.base)
    (hh : g.base ≠ F.SLATE_CMP_TGT_FRAME_HI.base) (k : Nat) (s : State) : (s.cmpFire k false).rd g m = (fireCounted k s).rd g m := by
  rw [← fireTold_rd hg hm]
  cases hp : s.on F.SLATE_CMP_CTRL_PERIODIC k
  case false => rw [cmpFire_once hp, rd_wr_cmpField (by decide) hg ha]
  case true =>
    cases hs : s.on F.SLATE_CMP_CTRL_STYLE k
    case false => rw [cmpFire_wide hp hs, State.wr64, rd_wr_cmpField (by decide) hg hh, rd_wr_cmpField (by decide) hg hl]
    case true => rw [cmpFire_short hp hs, State.addWrap, rd_wr_cmpField (by decide) hg hl]

end

theorem fireTold_sameMem (k : Nat) (s : State) : SameMem s (fireTold k s) := by
  unfold fireTold
  split <;> simp [SameMem, fireCounted, State.addWrap]

theorem cmpFire_sameMem (k : Nat) (s : State) : SameMem s (s.cmpFire k false) := by
  have htold := fireTold_sameMem k s
  cases hp : s.on F.SLATE_CMP_CTRL_PERIODIC k
  case false => rw [cmpFire_once hp]; exact htold
  case true =>
    cases hs : s.on F.SLATE_CMP_CTRL_STYLE k
    case false => rw [cmpFire_wide hp hs]; exact htold
    case true => rw [cmpFire_short hp hs]; exact htold

theorem cmpFire_disarms {k : Nat} {s : State} (hp : s.on F.SLATE_CMP_CTRL_PERIODIC k = false) :
    (s.cmpFire k false).on F.SLATE_CMP_CTRL_ARM k = false := by
  rw [cmpFire_once hp, State.on, rd_wr_same]
  rfl

theorem cmpFire_wideTarget {k : Nat} {s : State} (hp : s.on F.SLATE_CMP_CTRL_PERIODIC k = true)
    (hs : s.on F.SLATE_CMP_CTRL_STYLE k = false) :
    (s.cmpFire k false).rd64 F.SLATE_CMP_TGT_FRAME_LO F.SLATE_CMP_TGT_FRAME_HI k =
      (s.rd64 F.SLATE_CMP_TGT_FRAME_LO F.SLATE_CMP_TGT_FRAME_HI k + s.rd F.SLATE_CMP_TGT_PERIOD k) % 2 ^ 64 := by
  rw [cmpFire_wide hp hs, State.wr64, State.rd64, rd_wr_same, rd_wr_cmpField (by decide) (by decide) (by decide), rd_wr_same]
  exact (Nat.mod_mul (a := 2 ^ 32) (b := 2 ^ 32)).symm

theorem cmpFire_othersFired {k m : Nat} (s : State) (hm : m < 32) (hne : m ≠ k) :
    (s.cmpFire k false).rd F.SLATE_CMP_STATUS_FIRED m = s.rd F.SLATE_CMP_STATUS_FIRED m := by
  have hkey : F.SLATE_CMP_STATUS_FIRED.key m ≠ F.SLATE_CMP_STATUS_FIRED.key k := by
    rw [cmpField_key (by decide), cmpField_key (by decide)]
    omega
  rw [cmpFire_rd (by decide) hm (by decide) (by decide) (by decide), fireCounted, State.addWrap,
    rd_wr_cmpField (by decide) (by decide) (by decide), rd_wr_cmpEvent (by decide) hm, rd_wr_ne _ _ _ _ _ _ hkey]

section
variable {k : Nat} (hk : k < 32) (s : State)
include hk

theorem cmpFire_fired : (s.cmpFire k false).rd F.SLATE_CMP_STATUS_FIRED k = 1 := by
  rw [cmpFire_rd (by decide) hk (by decide) (by decide) (by decide), fireCounted, State.addWrap,
    rd_wr_cmpField (by decide) (by decide) (by decide), rd_wr_cmpEvent (by decide) hk, rd_wr_same]
  rfl

theorem cmpFire_count : (s.cmpFire k false).rd F.SLATE_CMP_STATUS_FIRE_COUNT k =
    (s.rd F.SLATE_CMP_STATUS_FIRE_COUNT k + 1) % 2 ^ F.SLATE_CMP_STATUS_FIRE_COUNT.w := by
  rw [cmpFire_rd (by decide) hk (by decide) (by decide) (by decide), fireCounted, State.addWrap, rd_wr_same,
    rd_wr_cmpEvent (by decide) hk, rd_wr_cmpField (by decide) (by decide) (by decide)]

/-- The target and the arming of a comparator stand while its fire is told. -/
theorem fireTold_rd_stands {g : Fld} (hg : CmpField g) (hf : g.base ≠ F.SLATE_CMP_STATUS_FIRED.base)
    (hc : g.base ≠ F.SLATE_CMP_STATUS_FIRE_COUNT.base) : (fireTold k s).rd g k = s.rd g k :=
  (fireTold_rd hg hk k s).trans (fireCounted_rd hg hk hf hc k s)

theorem cmpFire_rearms (hp : s.on F.SLATE_CMP_CTRL_PERIODIC k = true) :
    (s.cmpFire k false).on F.SLATE_CMP_CTRL_ARM k = s.on F.SLATE_CMP_CTRL_ARM k := by
  have hstands := fireTold_rd_stands hk s (g := F.SLATE_CMP_CTRL_ARM) (by decide) (by decide) (by decide)
  unfold State.on at *
  cases hs : s.on F.SLATE_CMP_CTRL_STYLE k
  case false =>
    rw [cmpFire_wide hp hs, State.wr64, rd_wr_cmpField (by decide) (by decide) (by decide),
      rd_wr_cmpField (by decide) (by decide) (by decide), hstands]
  case true => rw [cmpFire_short hp hs, State.addWrap, rd_wr_cmpField (by decide) (by decide) (by decide), hstands]

theorem cmpFire_shortTarget (hp : s.on F.SLATE_CMP_CTRL_PERIODIC k = true) (hs : s.on F.SLATE_CMP_CTRL_STYLE k = true) :
    (s.cmpFire k false).rd F.SLATE_CMP_TGT_FRAME_LO k =
        (s.rd F.SLATE_CMP_TGT_FRAME_LO k + s.rd F.SLATE_CMP_TGT_PERIOD k) % 2 ^ 32 ∧
      (s.cmpFire k false).rd F.SLATE_CMP_TGT_FRAME_HI k = s.rd F.SLATE_CMP_TGT_FRAME_HI k := by
  rw [cmpFire_short hp hs, State.addWrap]
  constructor
  · rw [rd_wr_same, fireTold_rd_stands hk s (by decide) (by decide) (by decide)]
    rfl
  · rw [rd_wr_cmpField (by decide) (by decide) (by decide), fireTold_rd_stands hk s (by decide) (by decide) (by decide)]

end

/-! ### The schedule (R52, R53) -/

/-- Entry `j` with RASTER and STYLE as the word `w` gives them. -/
def schedStyled (j w : Nat) (s : State) : State :=
  (s.wr F.SLATE_GPO_SCHED_RASTER j (bits w 1 3)).wr F.SLATE_GPO_SCHED_STYLE j (bits w 4 1)

/-- The position of entry `j` exists on its raster. -/
def schedOk (j : Nat) (s : State) : Bool :=
  s.armOk (s.rd F.SLATE_GPO_SCHED_RASTER j) (s.rd F.SLATE_GPO_SCHED_LINE j) (s.rd F.SLATE_GPO_SCHED_SAMPLE j)

section
variable {j w : Nat} {s : State}

theorem schedWrite_refused (h : s.on F.SLATE_GPO_SCHED_VALID j = true) {y : Nat} (hy : ¬ (y = 0 ∧ bit w 0 = false)) :
    s.schedWrite j y w = s.wr F.SLATE_GPO_SCHED_STATUS_REFUSED 0 1 := if_pos ⟨h, hy⟩

theorem schedWrite_clears (h : bit w 0 = false) : s.schedWrite j 0 w = (schedStyled j w s).setValid j false := by
  simp [State.schedWrite, schedStyled, h]

theorem schedWrite_arms (ho : s.on F.SLATE_GPO_SCHED_VALID j = false) (h : bit w 0 = true) :
    s.schedWrite j 0 w = (schedStyled j w s).schedArm j := by
  simp [State.schedWrite, schedStyled, ho, h]

theorem schedWrite_frameLo (ho : s.on F.SLATE_GPO_SCHED_VALID j = false) :
    s.schedWrite j 1 w = s.wr F.SLATE_GPO_SCHED_FRAME_LO j w :=
  if_neg fun h => Bool.eq_false_iff.mp ho h.1

theorem schedWrite_frameHi (ho : s.on F.SLATE_GPO_SCHED_VALID j = false) :
    s.schedWrite j 2 w = s.wr F.SLATE_GPO_SCHED_FRAME_HI j w :=
  if_neg fun h => Bool.eq_false_iff.mp ho h.1

theorem schedWrite_lineSample (ho : s.on F.SLATE_GPO_SCHED_VALID j = false) :
    s.schedWrite j 3 w = (s.wr F.SLATE_GPO_SCHED_LINE j w).wr F.SLATE_GPO_SCHED_SAMPLE j (w / 65536) :=
  if_neg fun h => Bool.eq_false_iff.mp ho h.1

theorem schedWrite_mask (ho : s.on F.SLATE_GPO_SCHED_VALID j = false) :
    s.schedWrite j 4 w = s.wr F.SLATE_GPO_SCHED_MASK j w :=
  if_neg fun h => Bool.eq_false_iff.mp ho h.1

theorem schedWrite_value (ho : s.on F.SLATE_GPO_SCHED_VALID j = false) :
    s.schedWrite j 5 w = s.wr F.SLATE_GPO_SCHED_VALUE j w :=
  if_neg fun h => Bool.eq_false_iff.mp ho h.1

theorem schedArm_refused (h : schedOk j s = false) : s.schedArm j = s.wr F.SLATE_GPO_SCHED_STATUS_REFUSED 0 1 :=
  if_neg (Bool.eq_false_iff.mp h)

theorem schedArm_waits (h : schedOk j s = true)
    (hr : (s.setValid j true).reached (s.rd F.SLATE_GPO_SCHED_RASTER j) ((s.setValid j true).schedTarget j) = false) :
    s.schedArm j = s.setValid j true :=
  (if_pos h).trans (if_neg (Bool.eq_false_iff.mp hr))

theorem schedArm_applies (h : schedOk j s = true)
    (hr : (s.setValid j true).reached (s.rd F.SLATE_GPO_SCHED_RASTER j) ((s.setValid j true).schedTarget j) = true) :
    s.schedArm j = (if ((s.setValid j true).schedTarget j).lt ((s.setValid j true).pos (s.rd F.SLATE_GPO_SCHED_RASTER j)) then
      (s.setValid j true).wr F.SLATE_GPO_SCHED_STATUS_LATE 0 1 else s.setValid j true).schedApply j :=
  (if_pos h).trans (if_pos hr)

end

/-- R53: an entry that is due applies behind every lower one that is. -/
theorem gpoSchedApply_first {j : Fin 256} {s : State} (h : s.schedDue j = true) (hlow : ∀ m, m < j.val → s.schedDue m = false) :
    exec (.gpoSchedApply j) s = .next (s.schedApply j) := by
  have hnone : (List.range j.val).any s.schedDue = false := by simpa using hlow
  simp [exec_gpoSchedApply, h, hnone]

theorem gpoSchedApply_waits {j : Fin 256} {s : State} (h : s.schedDue j = false ∨ ∃ m, m < j.val ∧ s.schedDue m = true) :
    exec (.gpoSchedApply j) s = .next s := by
  rw [exec_gpoSchedApply, if_neg]
  rcases h with h | hlower
  · simp [h]
  · have hsome : (List.range j.val).any s.schedDue = true := by simpa using hlower
    simp [hsome]

/-! ### The statement -/

/-- Settles O19: each clause is one case of its write or of what falls due; what a fire leaves is read off field by field. -/
theorem comparatorCommands : Obligations.ComparatorCommands := by
  unfold Obligations.ComparatorCommands
  refine ⟨fun k j w x y s => ⟨?armRefused, ?armWaits, ?armFires, ?disarm, ?tgtArmed, ?frameLo, ?frameHi, ?line, ?period,
    comparatorFire_due, comparatorFire_notDue, ?schedRefused, ?schedClears, ?schedNone, ?schedWaits, ?schedApplies, ?schedLo, ?schedHi,
    ?schedLine, ?schedMask, ?schedValue, gpoSchedApply_first, gpoSchedApply_waits⟩, fun k s harm hen hreached => ?fires⟩
  case armRefused => exact fun h => puts_of_eq (exec_cmpArm k w s) (cmpArm_refused h)
  case armWaits => exact fun h hr => puts_of_eq (exec_cmpArm k w s) (cmpArm_waits h hr)
  case armFires => exact fun h hr => puts_of_eq (exec_cmpArm k w s) (cmpArm_fires h hr)
  case disarm => exact puts_of _ (exec_cmpDisarm k w s)
  case tgtArmed => exact fun h => puts_of_eq (exec_cmpTgtWrite k x w s) (cmpTgt_armed h x)
  case frameLo => exact fun h => puts_of_eq (exec_cmpTgtWrite k 0 w s) (cmpTgt_frameLo h)
  case frameHi => exact fun h => puts_of_eq (exec_cmpTgtWrite k 1 w s) (cmpTgt_frameHi h)
  case line => exact fun h => puts_of_eq (exec_cmpTgtWrite k 2 w s) (cmpTgt_lineSample h)
  case period => exact fun h => puts_of_eq (exec_cmpTgtWrite k 3 w s) (cmpTgt_period h)
  case schedRefused =>
    refine fun h hy => puts_of_eq (exec_gpoSchedWrite j y w s) (schedWrite_refused h fun hclear => hy ⟨Fin.ext hclear.1, hclear.2⟩)
  case schedClears => exact fun h => puts_of_eq (exec_gpoSchedWrite j 0 w s) (schedWrite_clears h)
  case schedNone => exact fun ho h hn => puts_of_eq (exec_gpoSchedWrite j 0 w s) ((schedWrite_arms ho h).trans (schedArm_refused hn))
  case schedWaits =>
    exact fun ho h he hr => puts_of_eq (exec_gpoSchedWrite j 0 w s) ((schedWrite_arms ho h).trans (schedArm_waits he hr))
  case schedApplies =>
    exact fun ho h he hr => puts_of_eq (exec_gpoSchedWrite j 0 w s) ((schedWrite_arms ho h).trans (schedArm_applies he hr))
  case schedLo => exact fun ho => puts_of_eq (exec_gpoSchedWrite j 1 w s) (schedWrite_frameLo ho)
  case schedHi => exact fun ho => puts_of_eq (exec_gpoSchedWrite j 2 w s) (schedWrite_frameHi ho)
  case schedLine => exact fun ho => puts_of_eq (exec_gpoSchedWrite j 3 w s) (schedWrite_lineSample ho)
  case schedMask => exact fun ho => puts_of_eq (exec_gpoSchedWrite j 4 w s) (schedWrite_mask ho)
  case schedValue => exact fun ho => puts_of_eq (exec_gpoSchedWrite j 5 w s) (schedWrite_value ho)
  case fires =>
    exact ⟨s.cmpFire k false, comparatorFire_due ⟨harm, hen, hreached⟩, cmpFire_fired k.isLt s, cmpFire_count k.isLt s,
      cmpFire_disarms, fun hp => (cmpFire_rearms k.isLt s hp).trans harm, cmpFire_wideTarget,
      cmpFire_shortTarget k.isLt s, fun _ => cmpFire_othersFired s, cmpFire_sameMem k s⟩

end Sys2Proof.Proofs
end

section
/-! PROOFS. General-purpose inputs and outputs (chapter 2): a level change, the acceptance of an edge, the queue's head, the writes of the
outputs, and the statement about them all. -/
namespace Sys2Proof.Proofs
open Sys2Proof.Machine Sys2Proof.Laws

/-! ### The commands -/

theorem exec_gpiLevelChange (i : Fin 32) (level : Bool) (s : State) :
    exec (.gpiLevelChange i level) s = .next (s.gpiChange i level) := rfl

/-- The edge of input `i` has stood for its FILT microseconds. -/
def EdgeDue (i : Nat) (s : State) : Prop :=
  (s.gpi i).waiting = true ∧ (s.gpi i).since + s.rd F.SLATE_GPI_CFG_FILT i * usClk ≤ s.clk

theorem exec_gpiEdgeAccept (i : Fin 32) (s : State) : exec (.gpiEdgeAccept i) s =
    .next (if (s.gpi i).waiting && decide ((s.gpi i).since + s.rd F.SLATE_GPI_CFG_FILT i * usClk ≤ s.clk) then s.gpiAccept i
      else s) := rfl

theorem exec_gpiPop (w : Word) (s : State) : exec (.gpiPop w) s =
    ok (s.hostWrite 0x1098C w.toNat (State.gpiPop w.toNat)) := rfl

theorem exec_gpoLevelWrite (w : Word) (s : State) : exec (.gpoLevelWrite w) s =
    ok (s.hostWrite 0x10A00 w.toNat (State.gpoWrite 0 w.toNat)) := rfl

theorem exec_gpoSet (w : Word) (s : State) : exec (.gpoSet w) s =
    ok (s.hostWrite 0x10A04 w.toNat (State.gpoWrite 1 w.toNat)) := rfl

theorem exec_gpoClr (w : Word) (s : State) : exec (.gpoClr w) s =
    ok (s.hostWrite 0x10A08 w.toNat (State.gpoWrite 2 w.toNat)) := rfl

/-! ### Inputs (R49, R50) -/

section
variable {i : Fin 32} {s : State}

theorem gpiEdgeAccept_due (h : EdgeDue i s) : exec (.gpiEdgeAccept i) s = .next (s.gpiAccept i) := by
  obtain ⟨hwaiting, hpassed⟩ := h
  simp [exec_gpiEdgeAccept, hwaiting, hpassed]

theorem gpiEdgeAccept_notDue (h : ¬ EdgeDue i s) : exec (.gpiEdgeAccept i) s = .next s := by
  rw [exec_gpiEdgeAccept, if_neg]
  simpa [EdgeDue] using h

end

/-- Input `i` no longer waits, and its filtered level is the one it shows. -/
def levelTaken (i : Nat) (s : State) : State :=
  (s.setGpi i { s.gpi i with waiting := false }).wr F.SLATE_GPI_LEVEL_LEVEL 0
    (withBit (s.rd F.SLATE_GPI_LEVEL_LEVEL 0) i (s.gpi i).raw)

/-- The edge of input `i` taken, queued and told to the engines of its ENG_MASK. -/
def edgeTold (i : Nat) (s : State) : State := ((levelTaken i s).gpiQueue i).engMask (s.rd F.SLATE_GPI_CFG_ENG_MASK i) 5

section
variable {i : Nat} {s : State}

theorem gpiAccept_unwatched (h : s.gpiEdgeOn i = false) : s.gpiAccept i = levelTaken i s := if_neg (Bool.eq_false_iff.mp h)

theorem gpiAccept_quiet (h : s.gpiEdgeOn i = true) (hi : s.on F.SLATE_GPI_CFG_IRQ i = false) : s.gpiAccept i = edgeTold i s :=
  (if_pos h).trans (if_neg (Bool.eq_false_iff.mp hi))

theorem gpiAccept_interrupts (h : s.gpiEdgeOn i = true) (hi : s.on F.SLATE_GPI_CFG_IRQ i = true) :
    s.gpiAccept i = (edgeTold i s).raise Irq.gpi :=
  (if_pos h).trans (if_pos hi)

end

/-! ### Outputs (R52, R53) -/

/-- The outputs show what their clock has done. -/
theorem gpoDrive_level (s : State) (c : GpoClock) : (s.gpoDrive c).rd F.SLATE_GPO_LEVEL_LEVEL 0 = c.level % 2 ^ 32 :=
  rd_wr_same _ _ _ _

theorem gpoDrive_regs {s : State} {c : GpoClock} {k d : Nat} (h : k ≠ F.SLATE_GPO_LEVEL_LEVEL.key 0) :
    tget (s.gpoDrive c).regs k d = tget s.regs k d :=
  tget_tput_ne _ _ _ _ _ _ h

theorem gpoDrive_frame (s : State) (c : GpoClock) : { s.gpoDrive c with regs := s.regs, gpoClock := s.gpoClock } = s := rfl

/-- Nothing has been done to the outputs in the present clock. -/
def FirstOfClock (s : State) : Prop := ∀ p, s.gpoClock = some p → p.at' ≠ s.clk

theorem gpoNow_first {s : State} (h : FirstOfClock s) : s.gpoNow = { at' := s.clk, base := s.rd F.SLATE_GPO_LEVEL_LEVEL 0 } := by
  unfold State.gpoNow
  split
  next p hp => exact if_neg (h p hp)
  next => rfl

/-- With nothing applied before it in its clock, a write gives the outputs what it makes of their present levels. -/
theorem gpoDrive_first {s : State} (h : FirstOfClock s) {op : Nat → Nat} (hop : ∀ b, b < 2 ^ 32 → op b < 2 ^ 32) :
    (s.gpoDrive { s.gpoNow with base := op s.gpoNow.base }).rd F.SLATE_GPO_LEVEL_LEVEL 0 = op (s.rd F.SLATE_GPO_LEVEL_LEVEL 0) := by
  have hlevel : s.rd F.SLATE_GPO_LEVEL_LEVEL 0 < 2 ^ 32 := Nat.mod_lt _ (by decide)
  rw [gpoDrive_level, gpoNow_first h]
  exact Nat.mod_eq_of_lt (hop _ hlevel)

/-- Setting and clearing keep to the 32 outputs. -/
theorem gpoSet_lt {b : Nat} (w : Word) (h : b < 2 ^ 32) : Nat.lor b w.toNat < 2 ^ 32 := Nat.or_lt_two_pow h w.isLt

theorem gpoClear_lt {b : Nat} (w : Word) (h : b < 2 ^ 32) : Nat.land b (Nat.xor w.toNat (2 ^ 32 - 1)) < 2 ^ 32 :=
  Nat.and_le_left.trans_lt h

/-- A write of the outputs whose register makes `op` of the levels; all but the outputs and what their clock has done stands. -/
theorem gpo_does {c : Instr} {off m : Nat} {w : Word} {s : State} {op : Nat → Nat}
    (hc : exec c s = ok (s.hostWrite off w.toNat (State.gpoWrite m w.toNat)))
    (hm : s.gpoWrite m w.toNat = s.gpoDrive { s.gpoNow with base := op s.gpoNow.base })
    (hop : ∀ b, b < 2 ^ 32 → op b < 2 ^ 32) :
    let t := s.gpoDrive { s.gpoNow with base := op s.gpoNow.base }
    Writes c off w s t ∧ t.rd F.SLATE_GPO_LEVEL_LEVEL 0 = ({ s.gpoNow with base := op s.gpoNow.base } : GpoClock).level % 2 ^ 32 ∧
      (FirstOfClock s → t.rd F.SLATE_GPO_LEVEL_LEVEL 0 = op (s.rd F.SLATE_GPO_LEVEL_LEVEL 0)) ∧
      (∀ k d, k ≠ F.SLATE_GPO_LEVEL_LEVEL.key 0 → tget t.regs k d = tget s.regs k d) ∧
      { t with regs := s.regs, gpoClock := s.gpoClock } = s :=
  ⟨puts_of_eq hc hm, gpoDrive_level s _, fun h => gpoDrive_first h hop, fun _ _ => gpoDrive_regs, gpoDrive_frame s _⟩

/-! ### The statement -/

/-- Settles O20: the inputs' clauses are the cases of their commands, the outputs' one law for all three writes. -/
theorem gpiAndGpoCommands : Obligations.GpiAndGpoCommands := by
  unfold Obligations.GpiAndGpoCommands
  refine ⟨fun i level w s => ⟨?changes, ?same, ?unwatched, ?quiet, ?interrupts, gpiEdgeAccept_notDue, ?pops, ?popsNot⟩, fun w s =>
    ⟨gpo_does (exec_gpoLevelWrite w s) rfl fun _ _ => w.isLt, gpo_does (exec_gpoSet w s) rfl fun _ => gpoSet_lt w,
      gpo_does (exec_gpoClr w s) rfl fun _ => gpoClear_lt w⟩⟩
  case changes => exact fun h => (exec_gpiLevelChange i level s).trans (congrArg _ (if_neg h))
  case same => exact fun h => (exec_gpiLevelChange i level s).trans (congrArg _ (if_pos h))
  case unwatched => exact fun hd he => (gpiEdgeAccept_due hd).trans (congrArg _ (gpiAccept_unwatched he))
  case quiet => exact fun hd he hi => (gpiEdgeAccept_due hd).trans (congrArg _ (gpiAccept_quiet he hi))
  case interrupts => exact fun hd he hi => (gpiEdgeAccept_due hd).trans (congrArg _ (gpiAccept_interrupts he hi))
  case pops => exact fun h => puts_of_eq (exec_gpiPop w s) (if_pos h)
  case popsNot => exact fun h => puts_of_eq (exec_gpiPop w s) (if_neg (Bool.eq_false_iff.mp h))

end Sys2Proof.Proofs
end

section
/-! PROOFS. Rasters (chapter 2): SNAP, the raster registers and the start of a frame, one lemma per case, and the statement about them
all. -/
namespace Sys2Proof.Proofs
open Sys2Proof.Machine Sys2Proof.Laws

/-! ### The commands -/

theorem exec_snap (s : State) : exec .snap s = ok (s.hostWrite 0x10010 1 State.snap) := rfl

theorem exec_rasterCfgWrite (n : Fin 8) (w : Word) (s : State) : exec (.rasterCfgWrite n w) s =
    ok (s.hostWrite (0x10200 + 0x40 * n.val) w.toNat (State.rasterCfg n w.toNat)) := rfl

theorem exec_rasterSeedWrite (n : Fin 8) (hi : Bool) (w : Word) (s : State) : exec (.rasterSeedWrite n hi w) s =
    ok (s.hostWrite (0x10210 + 0x40 * n.val + (if hi then 4 else 0)) w.toNat (State.rasterSeed n hi w.toNat)) := rfl

theorem exec_rasterTimingWrite (n : Fin 8) (w : Word) (s : State) : exec (.rasterTimingWrite n w) s =
    ok (s.hostWrite (0x10208 + 0x40 * n.val) w.toNat (State.rasterTiming n w.toNat)) := rfl

theorem exec_rasterFrameStart (n : Fin 8) (s : State) : exec (.rasterFrameStart n) s =
    .next (if s.enabled n ∧ (s.pos n).frame ≠ (s.raster n).begun then
      (if n.val = 0 then (s.loadLines n).psubFrames else s.loadLines n) else s) := rfl

/-! ### The seed and the timing (R8, R35, R41) -/

section
variable {n w : Nat} {s : State}

theorem rasterSeed_taken (h : s.on F.SLATE_RASTER_STATUS_EVER_LOCKED n = false) (hi : Bool) : s.rasterSeed n hi w =
    s.wr (if hi then F.SLATE_RASTER_SEED_SEED_HI else F.SLATE_RASTER_SEED_SEED_LO) n w := if_neg (Bool.eq_false_iff.mp h)

theorem rasterSeed_ignored (h : s.on F.SLATE_RASTER_STATUS_EVER_LOCKED n = true) (hi : Bool) :
    s.rasterSeed n hi w = s.wr F.SLATE_RASTER_STATUS_SEED_IGNORED n 1 := if_pos h

/-- LEAD as the word gives it; 0 is reserved. -/
def leadWritten (n w : Nat) (s : State) : State :=
  if bits w 0 4 = 0 then s else s.wr F.SLATE_RASTER_TIMING_LEAD n (bits w 0 4)

/-- ADV stands: the word gives it a reserved value, or the one it has. -/
def AdvKeeps (n w : Nat) (s : State) : Prop := s.rSamples n ≤ bits w 16 13 ∨ bits w 16 13 = s.rd F.SLATE_RASTER_TIMING_ADV n

theorem rasterTiming_keeps (h : AdvKeeps n w s) : s.rasterTiming n w = leadWritten n w s := if_pos h

theorem rasterTiming_moves (h : ¬ AdvKeeps n w s) (hu : s.inUse n = false) :
    s.rasterTiming n w = (leadWritten n w s).wr F.SLATE_RASTER_TIMING_ADV n (bits w 16 13) :=
  (if_neg h).trans (if_neg (Bool.eq_false_iff.mp hu))

theorem rasterTiming_refused (h : ¬ AdvKeeps n w s) (hu : s.inUse n = true) :
    s.rasterTiming n w = (leadWritten n w s).wr F.SLATE_RASTER_STATUS_CFG_REFUSED n 1 :=
  (if_neg h).trans (if_pos hu)

end

/-! ### The start of a frame (R42) -/

/-- Raster `n` runs in a frame whose start has not been applied. -/
def FrameStarts (n : Nat) (s : State) : Prop := s.enabled n = true ∧ (s.pos n).frame ≠ (s.raster n).begun

section
variable {n : Fin 8} {s : State}

theorem rasterFrameStart_loads (h : FrameStarts n s) (hn : n.val ≠ 0) : exec (.rasterFrameStart n) s = .next (s.loadLines n) := by
  rw [exec_rasterFrameStart]
  exact congrArg _ ((if_pos h).trans (if_neg hn))

/-- Raster 0's frames count for a plane substitution too (R140). -/
theorem rasterFrameStart_zero (h : FrameStarts n s) (hn : n.val = 0) :
    exec (.rasterFrameStart n) s = .next (s.loadLines 0).psubFrames := by
  rw [exec_rasterFrameStart, if_pos hn, hn]
  exact congrArg _ (if_pos (hn ▸ h))

theorem rasterFrameStart_notDue (h : ¬ FrameStarts n s) : exec (.rasterFrameStart n) s = .next s := by
  rw [exec_rasterFrameStart]
  exact congrArg _ (if_neg h)

end

/-! ### The statement -/

/-- Settles O18: each clause is one case of its write, or of a frame's start. -/
theorem rasterCommands : Obligations.RasterCommands := by
  unfold Obligations.RasterCommands
  intro n hi w s
  refine ⟨puts_of _ (exec_snap s), puts_of _ (exec_rasterCfgWrite n w s), ?seed, ?seedIgnored, ?keeps, ?moves, ?refused,
    rasterFrameStart_loads, rasterFrameStart_zero, rasterFrameStart_notDue⟩
  case seed => exact fun h => puts_of_eq (exec_rasterSeedWrite n hi w s) (rasterSeed_taken h hi)
  case seedIgnored => exact fun h => puts_of_eq (exec_rasterSeedWrite n hi w s) (rasterSeed_ignored h hi)
  case keeps => exact fun h => puts_of_eq (exec_rasterTimingWrite n w s) (rasterTiming_keeps h)
  case moves => exact fun h hu => puts_of_eq (exec_rasterTimingWrite n w s) (rasterTiming_moves h hu)
  case refused => exact fun h hu => puts_of_eq (exec_rasterTimingWrite n w s) (rasterTiming_refused h hu)

end Sys2Proof.Proofs
end

section
/-! PROOFS. Start-up (chapters 17, 19): the release of RST_N, READY and the unit root, the end of INIT, CALIBRATE, mode requests and
enrolment, one lemma per case, and the statement about them all. -/
namespace Sys2Proof.Proofs
open Sys2Proof.Machine Sys2Proof.Laws

/-! ### The commands -/

theorem exec_calGo (w : Word) (s : State) : exec (.calGo w) s =
    ok (s.hostWrite 0x14 (Nat.lor w.toNat 16) (State.modeWrite (Nat.lor w.toNat 16))) := rfl

theorem exec_modeRequest (w : Word) (s : State) : exec (.modeRequest w) s =
    ok (s.hostWrite 0x14 (Nat.lor w.toNat 8) (State.modeWrite (Nat.lor w.toNat 8))) := rfl

theorem exec_enrolKeyGo (w : Word) (s : State) : exec (.enrolKeyGo w) s =
    ok (s.hostWrite 0x200 (Nat.lor w.toNat 2) (State.enrolCtrl (Nat.lor w.toNat 2))) := rfl

theorem exec_enrolAck (w : Word) (s : State) : exec (.enrolAck w) s =
    ok (s.hostWrite 0x200 (Nat.lor w.toNat 8) (State.enrolCtrl (Nat.lor w.toNat 8))) := rfl

theorem exec_enrolTimeout (s : State) : exec .enrolTimeout s =
    .next (if s.on F.TOP_ENROL_CTRL_REQ 0 && decide (s.keys.enrolAt + 1500 * msClk ≤ s.clk) then s.wr F.TOP_ENROL_CTRL_REQ 0 0
      else s) := rfl

/-- A bit that a command sets is set in its word; every other bit is the host's. -/
theorem bit_lor_set {y i : Nat} (h : bit y i = true) (x : Nat) : bit (Nat.lor x y) i = true := by
  rw [bit_lor, h, Bool.or_true]

theorem bit_lor_clear {y i : Nat} (h : bit y i = false) (x : Nat) : bit (Nat.lor x y) i = bit x i := by
  rw [bit_lor, h, Bool.or_false]

/-! ### What INIT loads leaves the root alone (R449, R483) -/

/-- What the root rests on: the key store, and the mark of an enrolled unit. -/
def rootView (s : State) : Keys × Nat := (s.keys, s.rd F.KEYS_STATUS_ENROLLED 0)

theorem keys_of_rootView {s t : State} (h : rootView t = rootView s) : t.keys = s.keys := congrArg Prod.fst h

theorem enrolled_of_rootView {s t : State} (h : rootView t = rootView s) :
    t.on F.KEYS_STATUS_ENROLLED 0 = s.on F.KEYS_STATUS_ENROLLED 0 :=
  congrArg (fun v : Keys × Nat => decide (v.2 ≠ 0)) h

theorem rootView_pins (s : State) (p : Pins) : rootView { s with pins := p } = rootView s := rfl

/-- No copy of the field lies at the mark of an enrolled unit, by the residue of its place. -/
abbrev OffRoot (f : Fld) : Prop := f.n2 = 1 ∧ f.base % f.s1 ≠ F.KEYS_STATUS_ENROLLED.base % f.s1

theorem rootView_wr {f : Fld} (h : OffRoot f) (s : State) (i v : Nat) : rootView (s.wr f i v) = rootView s := by
  obtain ⟨hn, hres⟩ := h
  have hkey : F.KEYS_STATUS_ENROLLED.key 0 ≠ f.key i := by
    intro he
    have hcopy : F.KEYS_STATUS_ENROLLED.base = f.base + i * f.s1 := by
      simpa [Fld.key, hn, Nat.mod_one, F.KEYS_STATUS_ENROLLED] using he
    exact hres (by rw [hcopy, Nat.add_mul_mod_self_right])
  exact congrArg (Prod.mk s.keys) (rd_wr_ne _ _ _ _ _ _ hkey)

theorem rootView_ite {p : Prop} [Decidable p] {s t u : State} (ht : rootView t = rootView s) (hu : rootView u = rootView s) :
    rootView (if p then t else u) = rootView s := by
  split
  · exact ht
  · exact hu

theorem rootView_forEach {f : Nat → State → State} (h : ∀ i s, rootView (f i s) = rootView s) (l : List Nat) (s : State) :
    rootView (forEach l f s) = rootView s := forEach_keeps rootView l f h s

theorem rootView_loadPlanes (s : State) : rootView s.loadPlanes = rootView s := by
  unfold State.loadPlanes
  split
  · simp (disch := decide) only [rootView_wr]
  · rfl

theorem rootView_loadLanes (s : State) : rootView s.loadLanes = rootView s := by
  unfold State.loadLanes
  extract_lets phys s1 s2
  have hmap : rootView s1 = rootView s := rootView_forEach (fun j t => by simp (disch := decide) only [rootView_wr]) _ _
  have hspare : rootView s2 = rootView s1 := rootView_forEach (fun k t => by simp (disch := decide) only [rootView_wr]) _ _
  simp (disch := decide) only [rootView_wr, hspare, hmap]

theorem rootView_loadEngines (s : State) : rootView s.loadEngines = rootView s := by
  unfold State.loadEngines
  extract_lets gone s1
  have hspare : rootView s1 = rootView s := by
    unfold s1
    split
    · simp (disch := decide) only [rootView_wr]
    · split
      · simp (disch := decide) only [rootView_wr]
      · rfl
  have hretired := rootView_forEach (f := fun j t => t.wr F.CUE_STATUS_STATE j Es.retired)
    (fun j t => by simp (disch := decide) only [rootView_wr])
  simp (disch := decide) only [State.spareShow, rootView_wr, hretired, hspare]

theorem rootView_sparesShow (s : State) : rootView s.sparesShow = rootView s := by
  simp (disch := decide) only [State.sparesShow, rootView_wr]

theorem rootView_loadOtp (s : State) : rootView s.loadOtp = rootView s := by
  unfold State.loadOtp
  extract_lets s1
  have hloaded : rootView s1 = rootView s := by
    simp (disch := decide) only [s1, rootView_wr, rootView_sparesShow, rootView_loadEngines, rootView_loadLanes, rootView_loadPlanes]
  clear_value s1
  have htarget := rootView_wr (f := F.ADMIT_AVS_STATUS_TARGET) (by decide) s1 0 800
  exact htarget.trans hloaded

theorem rootView_synShow (s : State) : rootView s.synShow = rootView s := by
  unfold State.synShow
  refine (rootView_wr (f := F.WEAR_SPARES_SYNTHS) (by decide) _ 0 _).trans (rootView_forEach (fun y t => ?_) _ s)
  simp (disch := decide) only [rootView_wr]

theorem rootView_moveDomain (d src : Nat) (s : State) : rootView (s.moveDomain d src) = rootView s := by
  have hmoved : rootView ((s.wr F.SYNTH_DOMAIN_SOURCE d src).addWrap F.SYNTH_DOMAIN_MOVES d 1) = rootView s := by
    simp (disch := decide) only [State.addWrap, rootView_wr]
  unfold State.moveDomain
  dsimp only
  split <;> exact hmoved

theorem rootView_synLock (y : Nat) (s : State) : rootView (s.synLock y) = rootView s := by
  unfold State.synLock
  extract_lets x s1 s2 s3 s4 s5
  have hlocked : rootView s1 = rootView s := rootView_wr (f := F.SYNTH_STATUS_LOCKED) (by decide) s y 1
  have hcovers : rootView s2 = rootView s := by
    refine (forEach_keeps rootView _ _ (fun d t => ?_) s1).trans hlocked
    split
    · simp (disch := decide) only [rootView_wr]
    · rfl
  have haudio : rootView s3 = rootView s := by
    refine rootView_ite (rootView_ite ?_ hcovers) hcovers
    exact (rootView_moveDomain _ _ _).trans hcovers
  have hrefout : rootView s4 = rootView s := rootView_ite haudio haudio
  have hcore : rootView s5 = rootView s := rootView_ite hrefout hrefout
  exact (rootView_synShow s5).trans hcore

/-! ### RST_N (R449) -/

section
variable {s : State} (dbg enrol : Bool) (smb : Fin 4)

/-- The straps as RST_N's rising edge latches them. -/
def strapped (s : State) : State :=
  (({ s with pins := { s.pins with rstN := true, dbgEn := dbg, enrol := enrol, smbAddr := smb.val, rstAt := s.clk } }.wr
    F.TOP_DEV_MODE_DBG_STRAP 0 (b2n dbg)).wr F.TOP_DEV_MODE_ENROL_STRAP 0 (b2n enrol)).wr F.TOP_BOOT_SMB_ADDR 0 smb.val

theorem exec_rstNRelease (s : State) : exec (.rstNRelease dbg enrol smb) s =
    .next (if s.pins.rstN then s else (strapped dbg enrol smb s).initBegin) := rfl

theorem rstNRelease_low (h : s.pins.rstN = false) :
    exec (.rstNRelease dbg enrol smb) s = .next (strapped dbg enrol smb s).initBegin := by
  rw [exec_rstNRelease, if_neg (Bool.eq_false_iff.mp h)]

theorem rstNRelease_high (h : s.pins.rstN = true) : exec (.rstNRelease dbg enrol smb) s = .next s := by
  rw [exec_rstNRelease, if_pos h]

end

/-! ### READY (R449, R451, R482, R483, R485) -/

/-- INIT goes on: RST_N high, MODE INIT and no failure. -/
def InInit (s : State) : Prop := s.pins.rstN = true ∧ s.mode = Mode.init ∧ s.on F.TOP_INIT_STATUS_FAIL 0 = false

/-- The model's test for an INIT that does not go on. -/
theorem notInInit_iff (s : State) :
    (!s.pins.rstN || decide (s.mode ≠ Mode.init) || s.on F.TOP_INIT_STATUS_FAIL 0) = true ↔ ¬ InInit s := by
  cases hrst : s.pins.rstN <;> cases hfail : s.on F.TOP_INIT_STATUS_FAIL 0 <;> simp [InInit, hrst, hfail]

/-- OTP loaded, READY high, and the serdes synthesisers locked. -/
def readied (s : State) : State := (({ s.loadOtp with pins := { s.pins with ready := true } }).synLock 12).synLock 13

theorem rootView_readied (s : State) : rootView (readied s) = rootView s := by
  rw [readied, rootView_synLock, rootView_synLock, rootView_pins, rootView_loadOtp]

theorem readied_keys (s : State) : (readied s).keys = s.keys := keys_of_rootView (rootView_readied s)

theorem readied_enrolled (s : State) : (readied s).on F.KEYS_STATUS_ENROLLED 0 = s.on F.KEYS_STATUS_ENROLLED 0 :=
  enrolled_of_rootView (rootView_readied s)

/-- A root is regenerated from the key store alone. -/
theorem readied_regenerate (s : State) (cells : List Nat) : (readied s).regenerate cells = s.regenerate cells := by
  unfold State.regenerate
  rw [readied_keys]

/-- The root step: the test root, none yet, or the one regenerated, in `up`. -/
def rootStep (cells : List Nat) (s up : State) : State :=
  if s.pins.dbgEn then
    { (up.wr F.KEYS_STATUS_TEST_ROOT 0 1).wr F.KEYS_STATUS_ROOT_OK 0 1 with keys := { up.keys with root := testRoot } }
  else if !s.on F.KEYS_STATUS_ENROLLED 0 then { up with keys := { up.keys with cells := cells } }
  else (s.regenerate cells).elim { up.wr F.TOP_INIT_STATUS_ROOT_FAIL 0 1 with keys := { up.keys with cells := cells } }
    fun root => { up.wr F.KEYS_STATUS_ROOT_OK 0 1 with keys := { up.keys with cells := cells, root := root } }

/-- After the root step an enrolment's wait begins, or the tests do (log 33). -/
def afterRoot (s t : State) : State :=
  if s.enrols then
    { (t.wr F.TOP_INIT_STATUS_STEP 0 6).wr F.TOP_ENROL_CTRL_REQ 0 1 with keys := { t.keys with enrolAt := s.clk } }
  else t.wr F.TOP_INIT_STATUS_STEP 0 5

theorem exec_readyAssert (cells : List Nat) (s : State) : exec (.readyAssert cells) s =
    .next (if !s.pins.rstN || s.mode ≠ Mode.init || s.pins.ready || s.on F.TOP_INIT_STATUS_FAIL 0 then s
      else afterRoot s (rootStep cells s (readied s))) := by
  refine congrArg Host.Outcome.next (if_congr Iff.rfl rfl ?_)
  unfold rootStep
  cases s.regenerate cells <;> rfl

section
variable {s : State}

theorem readyAssert_fresh (h : InInit s ∧ s.pins.ready = false) (cells : List Nat) :
    exec (.readyAssert cells) s = .next (afterRoot s (rootStep cells s (readied s))) := by
  obtain ⟨⟨hrst, hmode, hfail⟩, hready⟩ := h
  simp [exec_readyAssert, hrst, hmode, hfail, hready]

theorem readyAssert_notFresh (h : ¬ (InInit s ∧ s.pins.ready = false)) (cells : List Nat) :
    exec (.readyAssert cells) s = .next s := by
  rw [exec_readyAssert, if_pos]
  by_contra hgoes
  simp only [Bool.or_eq_true, Bool.not_eq_true', decide_eq_true_eq, not_or, not_not, Bool.not_eq_false, Bool.not_eq_true] at hgoes
  obtain ⟨⟨⟨hrst, hmode⟩, hready⟩, hfail⟩ := hgoes
  exact h ⟨⟨hrst, hmode, hfail⟩, hready⟩

variable (up : State)

theorem rootStep_test (h : s.pins.dbgEn = true) (cells : List Nat) : rootStep cells s up =
    { (up.wr F.KEYS_STATUS_TEST_ROOT 0 1).wr F.KEYS_STATUS_ROOT_OK 0 1 with keys := { up.keys with root := testRoot } } := if_pos h

theorem rootStep_unenrolled (h : s.pins.dbgEn = false) (he : ¬ s.on F.KEYS_STATUS_ENROLLED 0 = true) (cells : List Nat) :
    rootStep cells s up = { up with keys := { up.keys with cells := cells } } :=
  (if_neg (Bool.eq_false_iff.mp h)).trans (if_pos (by simp [he]))

theorem rootStep_enrolled (h : s.pins.dbgEn = false) (he : s.on F.KEYS_STATUS_ENROLLED 0 = true) (cells : List Nat) :
    rootStep cells s up =
      (s.regenerate cells).elim { up.wr F.TOP_INIT_STATUS_ROOT_FAIL 0 1 with keys := { up.keys with cells := cells } }
        fun root => { up.wr F.KEYS_STATUS_ROOT_OK 0 1 with keys := { up.keys with cells := cells, root := root } } :=
  (if_neg (Bool.eq_false_iff.mp h)).trans (if_neg (by simp [he]))

end

/-! ### The end of INIT (R450, R452) -/

/-- INIT ended: the nonces drawn, and CALIBRATE entered. -/
def calibrating (s : State) : State :=
  let lo := s.draw
  let hi := lo.1.draw
  let nonces := ((hi.1.wr F.KEYS_NONCE_LO 0 lo.2).wr F.KEYS_NONCE_HI 0 hi.2).wr F.KEYS_STATUS_TRNG_OK 0 1
  let cal := ((nonces.wr F.TOP_INIT_STATUS_STEP 0 0).wr F.TOP_INIT_STATUS_SELFTEST_PCT 0 100).setMode Mode.calibrate
  { cal with wear := { cal.wear with left := some s.clk } }

/-- What INIT_COMPLETE makes of an INIT that goes on, by what OTP, READY and the repairs say. -/
def initOutcome (otp repair : Bool) (s : State) : State :=
  if !otp then (if s.pins.ready then s else (s.wr F.TOP_INIT_STATUS_FAIL 0 1).wr F.TOP_INIT_STATUS_STEP 0 2)
  else if !s.pins.ready then s
  else if !repair then (s.wr F.TOP_INIT_STATUS_FAIL 0 2).wr F.TOP_INIT_STATUS_STEP 0 5
  else if s.on F.TOP_ENROL_CTRL_REQ 0 then s
  else if s.on F.TOP_INIT_STATUS_ROOT_FAIL 0 then (calibrating s).faultEvent Src.keys false else calibrating s

theorem exec_initComplete (otp repair : Bool) (s : State) : exec (.initComplete otp repair) s =
    .next (if !s.pins.rstN || s.mode ≠ Mode.init || s.on F.TOP_INIT_STATUS_FAIL 0 then s else initOutcome otp repair s) := rfl

section
variable {s : State}

theorem initComplete_notInit (h : ¬ InInit s) (otp repair : Bool) : exec (.initComplete otp repair) s = .next s := by
  rw [exec_initComplete, if_pos ((notInInit_iff s).mpr h)]

theorem initComplete_inInit (h : InInit s) (otp repair : Bool) :
    exec (.initComplete otp repair) s = .next (initOutcome otp repair s) := by
  rw [exec_initComplete, if_neg (mt (notInInit_iff s).mp (not_not.mpr h))]

theorem initComplete_otpFails (h : InInit s) (hr : s.pins.ready = false) (repair : Bool) :
    exec (.initComplete false repair) s = .next ((s.wr F.TOP_INIT_STATUS_FAIL 0 1).wr F.TOP_INIT_STATUS_STEP 0 2) := by
  simp [initComplete_inInit h, initOutcome, hr]

/-- OTP was read before READY rose, and the arrays are tested after. -/
theorem initComplete_early (h : InInit s) {otp : Bool} (hr : s.pins.ready = !otp) (repair : Bool) :
    exec (.initComplete otp repair) s = .next s := by
  cases otp
  case false => simp [initComplete_inInit h, initOutcome, show s.pins.ready = true from hr]
  case true => simp [initComplete_inInit h, initOutcome, show s.pins.ready = false from hr]

theorem initComplete_repairFails (h : InInit s) (hr : s.pins.ready = true) :
    exec (.initComplete true false) s = .next ((s.wr F.TOP_INIT_STATUS_FAIL 0 2).wr F.TOP_INIT_STATUS_STEP 0 5) := by
  simp [initComplete_inInit h, initOutcome, hr]

theorem initComplete_enrols (h : InInit s) (hr : s.pins.ready = true) (hq : s.on F.TOP_ENROL_CTRL_REQ 0 = true) :
    exec (.initComplete true true) s = .next s := by
  simp [initComplete_inInit h, initOutcome, hr, hq]

theorem initComplete_ends (h : InInit s) (hr : s.pins.ready = true) (hq : s.on F.TOP_ENROL_CTRL_REQ 0 = false) :
    exec (.initComplete true true) s = .next (if s.on F.TOP_INIT_STATUS_ROOT_FAIL 0 then
      (calibrating s).faultEvent Src.keys false else calibrating s) := by
  simp [initComplete_inInit h, initOutcome, hr, hq]

end

/-! ### CALIBRATE (R452, R453) -/

theorem calGo_refused {s : State} (h : s.mode ≠ Mode.calibrate ∨ s.rd F.TOP_DEV_MODE_CAL_STAGE 0 ≠ 0) :
    s.calGo = s.wr F.TOP_MODE_REQ_REQ_REFUSED 0 1 := if_pos h

/-- The working stage begun, and an enrolment's output gone. -/
def calBegun (s : State) : State := (s.wr F.TOP_DEV_MODE_CAL_STAGE 0 1).enrolZero

theorem calGo_begins {s : State} (hm : s.mode = Mode.calibrate) (hst : s.rd F.TOP_DEV_MODE_CAL_STAGE 0 = 0) :
    s.calGo = ((calBegun s).setTarget
      ((calBegun s).rd F.ADMIT_AVS_STATUS_V_FUSE 0 + (calBegun s).rd F.ADMIT_AVS_CFG_MARGIN 0)).clocksDone :=
  if_neg (not_or.mpr ⟨not_not.mpr hm, not_not.mpr hst⟩)

/-- A device trains in stages CLOCKS and LINKS of CALIBRATE. -/
def Trains (s : State) : Prop :=
  s.mode = Mode.calibrate ∧ (s.rd F.TOP_DEV_MODE_CAL_STAGE 0 = 1 ∨ s.rd F.TOP_DEV_MODE_CAL_STAGE 0 = 2)

/-- Lane `n` without frame lock stands in L-IDLE when training ends (R335). -/
def laneIdles (n : Nat) (s : State) : State :=
  if Ln.training ≤ s.laneSt n ∧ s.laneSt n ≤ Ln.blockLock ∧ !s.framed n then s.wr F.FAB_LANE_STATUS_STATE n Ln.idle else s

/-- The end of training: CAL_STAGE and CAL_DONE, and every lane judged. -/
def trainedLanes (s : State) : State :=
  forEach (List.range 152) laneIdles ((s.synExclude.wr F.TOP_DEV_MODE_CAL_STAGE 0 3).wr F.TOP_DEV_MODE_CAL_DONE 0 1)

theorem exec_calibrateDone (s : State) : exec .calibrateDone s = execCalibrateDone s := rfl

theorem calibrateDone_trains {s : State} (h : Trains s) : exec .calibrateDone s =
    .next ((trainedLanes s).wr F.TOP_DEV_MODE_MEM_SHORT 0 (b2n (!s.memOk))) := by
  rw [exec_calibrateDone, execCalibrateDone]
  exact congrArg ok (if_pos h)

theorem calibrateDone_notTraining {s : State} (h : ¬ Trains s) : exec .calibrateDone s = .next s := by
  rw [exec_calibrateDone, execCalibrateDone]
  exact congrArg ok (if_neg h)

/-- What shows that CALIBRATE's own steps are done. -/
def calShown (s : State) : Nat × Nat := (s.rd F.TOP_DEV_MODE_CAL_STAGE 0, s.rd F.TOP_DEV_MODE_CAL_DONE 0)

theorem calShown_iff {s : State} {a b : Nat} :
    calShown s = (a, b) ↔ s.rd F.TOP_DEV_MODE_CAL_STAGE 0 = a ∧ s.rd F.TOP_DEV_MODE_CAL_DONE 0 = b := Prod.ext_iff

/-- Judging the lanes leaves CAL_STAGE and CAL_DONE alone. -/
theorem calShown_laneIdles (n : Nat) (s : State) : calShown (laneIdles n s) = calShown s := by
  have hkey : ∀ k, k < F.FAB_LANE_STATUS_STATE.base → k ≠ F.FAB_LANE_STATUS_STATE.key n := fun k hk =>
    (hk.trans_le (base_le_key _ n)).ne
  unfold laneIdles
  split
  · rw [calShown, rd_wr_ne _ _ _ _ _ _ (hkey _ (by decide)), rd_wr_ne _ _ _ _ _ _ (hkey _ (by decide)), calShown]
  · rfl

theorem calShown_trainedLanes (s : State) : calShown (trainedLanes s) = (3, 1) := by
  rw [trainedLanes, forEach_keeps calShown _ _ calShown_laneIdles, calShown, rd_wr_ne _ _ _ _ _ _ (by decide), rd_wr_same, rd_wr_same]
  rfl

/-! ### Mode requests (R454, R455) -/

section
variable {w : Nat} {s : State}

/-- CAL_GO set in a write of TOP_MODE_REQ comes before its GO. -/
theorem modeWrite_calGo (h : bit w 4 = true) :
    s.modeWrite w = if bit w 3 then (s.writeWord 0x14 w).calGo.modeReq else (s.writeWord 0x14 w).calGo := by
  simp [State.modeWrite, h]

theorem modeWrite_go (h : bit w 3 = true) :
    s.modeWrite w = (if bit w 4 then (s.writeWord 0x14 w).calGo else s.writeWord 0x14 w).modeReq := if_pos h

/-- RESULT and STATE of a request for TARGET. -/
def modeJudged (s : State) : State :=
  (s.wr F.TOP_MODE_REQ_RESULT 0 (s.modeCode (s.rd F.TOP_MODE_REQ_TARGET 0))).wr F.TOP_MODE_REQ_STATE 0
    (if s.modeCode (s.rd F.TOP_MODE_REQ_TARGET 0) = 0 then 1 else 2)

theorem modeReq_made (h : s.modeCode (s.rd F.TOP_MODE_REQ_TARGET 0) = 0) :
    s.modeReq = ((modeJudged s).modeGo (s.rd F.TOP_MODE_REQ_TARGET 0)).reselect := if_pos h

theorem modeReq_refused (h : s.modeCode (s.rd F.TOP_MODE_REQ_TARGET 0) ≠ 0) :
    s.modeReq = (modeJudged s).wr F.TOP_MODE_REQ_REQ_REFUSED 0 1 := if_neg h

end

/-! ### Enrolment (R485) -/

section
variable {w : Nat} {s : State}

theorem enrolCtrl_keyGo (h : bit w 1 = true) : s.enrolCtrl w = if bit w 3 then s.enrolGo.enrolZero else s.enrolGo := by
  simp [State.enrolCtrl, h]

theorem enrolCtrl_ack (h : bit w 3 = true) : s.enrolCtrl w = (if bit w 1 then s.enrolGo else s).enrolZero := if_pos h

theorem enrolGo_notAsked (h : ¬ s.on F.TOP_ENROL_CTRL_REQ 0 = true) : s.enrolGo = s := if_pos (by simp [h])

theorem enrolGo_keyBad (h : s.on F.TOP_ENROL_CTRL_REQ 0 = true) (hk : Config.p384Valid s.ownerKey = false) :
    s.enrolGo = (s.wr F.TOP_ENROL_CTRL_REQ 0 0).wr F.TOP_ENROL_CTRL_KEY_BAD 0 1 := by
  simp [State.enrolGo, h, hk]

end

/-- What a good owner key has fused, and the marks of an enrolled unit. -/
def enrolFused (s : State) : State :=
  let d := (s.wr F.TOP_ENROL_CTRL_REQ 0 0).draw
  let root := rootOf s.keys.cells
  ((({ d.1 with keys := { d.1.keys with
      ownerHash := Config.sha384 s.ownerKey, root := root, helper := s.keys.cells, check := rootCheck root } }.wr
    F.KEYS_STATUS_ENROLLED 0 1).wr F.KEYS_STATUS_ROOT_OK 0 1).wr F.TOP_INIT_STATUS_ENROLLED 0 1)

/-- The bytes `out` shown in TOP_ENROL_OUT. -/
def enrolShown (out : List Nat) (s : State) : State :=
  (forEach (List.range 44) (fun i s => s.wr F.TOP_ENROL_OUT_WORD i (wordAt (out.take 173) (4 * i))) s).wr F.TOP_ENROL_CTRL_OUT_VALID 0 1

theorem enrolGo_fuses {s : State} (h : s.on F.TOP_ENROL_CTRL_REQ 0 = true) (hk : Config.p384Valid s.ownerKey = true) :
    s.enrolGo = enrolShown (Config.enrolOut (bindingKey (rootOf s.keys.cells)) s.ownerKey
      (s.wr F.TOP_ENROL_CTRL_REQ 0 0).draw.2) (enrolFused s) :=
  (if_neg (by simp [h])).trans (if_neg (by simp [hk]))

theorem enrolShown_keys (out : List Nat) (s : State) : (enrolShown out s).keys = s.keys := by
  rw [enrolShown, wr_keys]
  exact forEach_keeps State.keys _ _ (fun i t => wr_keys t _ i _) s

/-- The shown bytes leave the mark of TOP_INIT_STATUS alone. -/
theorem enrolShown_enrolled (out : List Nat) (s : State) :
    (enrolShown out s).rd F.TOP_INIT_STATUS_ENROLLED 0 = s.rd F.TOP_INIT_STATUS_ENROLLED 0 := by
  have hword : ∀ i v (t : State), (t.wr F.TOP_ENROL_OUT_WORD i v).rd F.TOP_INIT_STATUS_ENROLLED 0 =
      t.rd F.TOP_INIT_STATUS_ENROLLED 0 := fun i v t =>
    rd_wr_ne _ _ _ _ _ _ ((show 199 < F.TOP_ENROL_OUT_WORD.base by decide).trans_le (base_le_key _ i)).ne
  rw [enrolShown, rd_wr_ne _ _ _ _ _ _ (by decide)]
  exact forEach_keeps (fun t => t.rd F.TOP_INIT_STATUS_ENROLLED 0) _ _ (fun i t => hword i _ t) s

theorem enrolFused_enrolled (s : State) : (enrolFused s).rd F.TOP_INIT_STATUS_ENROLLED 0 = 1 := rd_wr_same _ _ _ _

/-- The wait for an owner key has lasted 1.5 s. -/
def EnrolLate (s : State) : Prop := s.on F.TOP_ENROL_CTRL_REQ 0 = true ∧ s.keys.enrolAt + 1500 * msClk ≤ s.clk

theorem enrolTimeout_late {s : State} (h : EnrolLate s) : exec .enrolTimeout s = .next (s.wr F.TOP_ENROL_CTRL_REQ 0 0) := by
  obtain ⟨hasked, hlate⟩ := h
  simp [exec_enrolTimeout, hasked, hlate]

theorem enrolTimeout_notLate {s : State} (h : ¬ EnrolLate s) : exec .enrolTimeout s = .next s := by
  rw [exec_enrolTimeout, if_neg]
  simpa [EnrolLate] using h

/-! ### The statement -/

/-- Settles O57: each clause is one case of its command, the root's by what INIT loads leaving the key store alone. -/
theorem startUpCommands : Obligations.StartUpCommands := by
  unfold Obligations.StartUpCommands
  refine ⟨fun dbg enrol smb cells otp repair w s => ⟨rstNRelease_low dbg enrol smb, rstNRelease_high dbg enrol smb, ?testRoot,
    ?noRoot, ?rootOk, ?rootFails, (readyAssert_notFresh · cells), ?otpFails, ?repairFails, ?enrols, ?initEnds, ?initStays, ?calGo,
    calGo_refused, calGo_begins, ?trained, calibrateDone_notTraining, ?modeMade, ?modeRefused⟩, fun w s => ⟨?keyGo, enrolGo_notAsked,
    enrolGo_keyBad, ?fuses, enrolTimeout_late, enrolTimeout_notLate, ?ack⟩⟩
  case testRoot =>
    intro hf hd
    rw [readyAssert_fresh hf, rootStep_test _ hd]
    rfl
  case noRoot =>
    intro hf hd he
    rw [readyAssert_fresh hf, rootStep_unenrolled _ hd (readied_enrolled s ▸ he)]
    rfl
  case rootOk =>
    intro root hf hd he hr
    rw [readyAssert_fresh hf, rootStep_enrolled _ hd (readied_enrolled s ▸ he),
      (readied_regenerate s cells).symm.trans hr]
    rfl
  case rootFails =>
    intro hf hd he hr
    rw [readyAssert_fresh hf, rootStep_enrolled _ hd (readied_enrolled s ▸ he),
      (readied_regenerate s cells).symm.trans hr]
    rfl
  case otpFails =>
    rintro ⟨hi, hr⟩ rfl
    exact initComplete_otpFails hi hr repair
  case repairFails =>
    rintro ⟨hi, hr, rfl⟩ rfl
    exact initComplete_repairFails hi hr
  case enrols =>
    rintro ⟨hi, hr, rfl⟩ rfl hq
    exact initComplete_enrols hi hr hq
  case initEnds =>
    rintro ⟨hi, hr, rfl⟩ rfl hq
    exact initComplete_ends hi hr hq
  case initStays =>
    intro h hn
    by_cases hi : InInit s
    · exact initComplete_early hi (h.resolve_left (not_not.mpr hi)) repair
    · exact initComplete_notInit hi otp repair
  case calGo =>
    refine puts_of_eq (exec_calGo w s) ((modeWrite_calGo (bit_lor_set (by decide) _)).trans ?_)
    rw [bit_lor_clear (by decide)]
  case trained =>
    intro h
    obtain ⟨hstage, hdone⟩ := calShown_iff.mp (calShown_trainedLanes s)
    refine ⟨_, calibrateDone_trains h, ?_, ?_⟩
    · rw [rd_wr_ne _ _ _ _ _ _ (by decide), hstage]
    · rw [rd_wr_ne _ _ _ _ _ _ (by decide), hdone]
  case modeMade =>
    intro h
    refine puts_of_eq (exec_modeRequest w s) ((modeWrite_go (bit_lor_set (by decide) _)).trans ?_)
    rw [bit_lor_clear (by decide)]
    exact modeReq_made h
  case modeRefused =>
    intro h
    refine puts_of_eq (exec_modeRequest w s) ((modeWrite_go (bit_lor_set (by decide) _)).trans ?_)
    rw [bit_lor_clear (by decide)]
    exact modeReq_refused h
  case keyGo =>
    refine puts_of_eq (exec_enrolKeyGo w s) ((enrolCtrl_keyGo (bit_lor_set (by decide) _)).trans ?_)
    rw [bit_lor_clear (by decide)]
    rfl
  case fuses =>
    intro h hk
    rw [enrolGo_fuses h hk, enrolShown_enrolled, enrolShown_keys]
    exact ⟨enrolFused_enrolled s, rfl, rfl, rfl, rfl⟩
  case ack =>
    refine puts_of_eq (exec_enrolAck w s) ((enrolCtrl_ack (bit_lor_set (by decide) _)).trans ?_)
    rw [bit_lor_clear (by decide)]
    exact apply_ite State.enrolZero _ _ _

end Sys2Proof.Proofs
end

section
/-! PROOFS. Reference candidates (chapter 3): the timing points and the stop of a REFIN candidate, qualification and drift, and the writes
of the candidates' registers, one lemma per case, and the statement about them all. -/
namespace Sys2Proof.Proofs
open Sys2Proof.Machine Sys2Proof.Laws

/-! ### The commands -/

theorem exec_refinTimingPoint (r : Fin 4) (s : State) :
    exec (.refinTimingPoint r) s = .next (if s.refWatches then s.refinPoint r else s) := rfl

theorem exec_refinStop (r : Fin 4) (s : State) : exec (.refinStop r) s = .next
    (if (s.cand r).seen && decide (2 * (s.checkInterval r).1 ≤ (s.clk - (s.cand r).lastEdge) * 262144 * (s.checkInterval r).2) then
      (((s.addSat F.REFSEL_CAND_STOP_CNT r 1).event F.REFSEL_EVENT_STOPPED 0 Irq.refsel).faultEvent Src.refsel true).candAbsent r
    else s) := rfl

theorem exec_candSourceLost (c : Fin 8) (s : State) : exec (.candSourceLost c) s =
    .next (if (s.cand c).present && !s.srcStands c then s.candAbsent c else s) := rfl

theorem exec_candQualified (c : Fin 8) (s : State) : exec (.candQualified c) s =
    .next (if s.cst c = Cs.qualifying ∧ (s.cand c).since + s.rd F.REFSEL_CAND_QUAL c * sClk ≤ s.clk then
      ((s.wr F.REFSEL_CAND_STATE c Cs.qualified).wr F.REFSEL_CAND_QUAL_LEFT c 0).reselect else s) := rfl

theorem exec_driftUpdate (offs : List Nat) (s : State) : exec (.driftUpdate offs) s =
    .next (forEach (List.range 8) (fun c s => s.driftOne offs c) s).reselect := rfl

theorem exec_candDriftCleared (c : Fin 8) (s : State) : exec (.candDriftCleared c) s = execCandDriftCleared c s := rfl

theorem exec_candDisqualified (c : Fin 8) (s : State) : exec (.candDisqualified c) s = execCandDisqualified c s := rfl

theorem exec_ptpValidWrite (w : Word) (s : State) : exec (.ptpValidWrite w) s =
    ok (s.hostWrite 0x20064 w.toNat (State.ptpValid w.toNat)) := rfl

theorem exec_ptpValidExpire (s : State) : exec .ptpValidExpire s =
    .next (if s.on F.REFSEL_PTP_VALID_PTP_VALID 0 && decide (s.ref.ptpWrite + 2 * sClk ≤ s.clk) then
      (s.wr F.REFSEL_PTP_VALID_PTP_VALID 0 0).candAbsent 4 else s) := rfl

theorem exec_refselLocoscWrite (w : Word) (s : State) : exec (.refselLocoscWrite w) s =
    ok (s.hostWrite 0x20060 w.toNat (State.locoscWrite w.toNat)) := rfl

theorem exec_refselCandWrite (c : Fin 8) (k : Fin 4) (w : Word) (s : State) : exec (.refselCandWrite c k w) s =
    ok (s.hostWrite (0x20100 + 0x20 * c.val + 4 * k.val) w.toNat (State.candWrite c k w.toNat)) := rfl

/-! ### Timing points of a REFIN candidate (R57, R64) -/

/-- The length of the check interval that an edge of candidate `r` ends now, in house units. -/
def intervalLen (r : Nat) (s : State) : Nat := (s.clk - (s.cand r).lastEdge) * 262144

/-- The check interval that ends now differs from its nominal length by more than `k` times 0.05 %. -/
def intervalOff (r k : Nat) (s : State) : Bool := offBy (intervalLen r s) (s.checkInterval r) k

/-- With this edge 16 check intervals in a row are off by more than 0.5 %. -/
def RateChanged (r : Nat) (s : State) : Prop := intervalOff r 10 s = true ∧ 15 ≤ (s.cand r).rateRun

/-- The edge shown: the next check interval runs from it. -/
def edgeTaken (r : Nat) (s : State) : State := s.setCand r { s.cand r with lastEdge := s.clk, seen := true, present := true }

/-- The edge shown with `n` check intervals off by more than 0.5 % up to it. -/
def edgeRun (r n : Nat) (s : State) : State := (edgeTaken r s).setCand r { (edgeTaken r s).cand r with rateRun := n }

/-- The cable delay taken from the phase of a black burst or word clock input. -/
def refinDelay (r : Nat) (s : State) : Int :=
  if s.rd F.REFSEL_CAND_TYPE r = 0 ∨ s.rd F.REFSEL_CAND_TYPE r = 2 then sx 32 (s.rd F.REFSEL_CAND_DELAY r) * nsUnits else 0

section
variable {r : Nat} {s : State}

theorem refinPoint_first (h : (s.cand r).seen = false) : s.refinPoint r = (edgeTaken r s).candPresent r :=
  if_pos (by simp [h])

theorem refinPoint_rateChanged (h : (s.cand r).seen = true) (hr : RateChanged r s) :
    s.refinPoint r = ((edgeTaken r s).refinGlitch r).refinResync r :=
  (if_neg (by simp [h])).trans (if_pos hr)

theorem refinPoint_glitch (h : (s.cand r).seen = true) (hr : ¬ RateChanged r s) (hg : intervalOff r 2 s = true) :
    s.refinPoint r = (edgeRun r (if intervalOff r 10 s then (s.cand r).rateRun + 1 else 0) s).refinGlitch r :=
  (if_neg (by simp [h])).trans ((if_neg hr).trans (if_pos hg))

theorem refinPoint_phase (h : (s.cand r).seen = true) (hr : ¬ RateChanged r s) (hg : intervalOff r 2 s = false) :
    s.refinPoint r =
      ((edgeRun r 0 s).setPhase r (s.pointPhase r ((s.house : Int) - refinDelay r s))).candPresent r :=
  (if_neg (by simp [h])).trans ((if_neg hr).trans (if_neg (Bool.eq_false_iff.mp hg)))

end

theorem refinTimingPoint_unwatched {s : State} (h : s.refWatches = false) (r : Fin 4) : exec (.refinTimingPoint r) s = .next s := by
  rw [exec_refinTimingPoint, if_neg (Bool.eq_false_iff.mp h)]

theorem refinTimingPoint_watched {s : State} (h : s.refWatches = true) (r : Fin 4) :
    exec (.refinTimingPoint r) s = .next (s.refinPoint r) := by
  rw [exec_refinTimingPoint, if_pos h]

/-! ### Sources that stop (R61, R64) -/

/-- No edge has come for two check intervals of candidate `r`, which has shown one. -/
def RefinStops (r : Nat) (s : State) : Prop :=
  (s.cand r).seen = true ∧ 2 * (s.checkInterval r).1 ≤ intervalLen r s * (s.checkInterval r).2

theorem refinStop_due {r : Fin 4} {s : State} (h : RefinStops r s) : exec (.refinStop r) s = .next
    ((((s.addSat F.REFSEL_CAND_STOP_CNT r 1).event F.REFSEL_EVENT_STOPPED 0 Irq.refsel).faultEvent Src.refsel true).candAbsent r) := by
  rw [exec_refinStop, if_pos]
  simpa [RefinStops, intervalLen] using h

theorem refinStop_notDue {r : Fin 4} {s : State} (h : ¬ RefinStops r s) : exec (.refinStop r) s = .next s := by
  rw [exec_refinStop, if_neg]
  simpa [RefinStops, intervalLen] using h

/-- Candidate `c` is shown, and its source no longer stands. -/
def SourceLost (c : Nat) (s : State) : Prop := (s.cand c).present = true ∧ s.srcStands c = false

theorem candSourceLost_due {c : Fin 8} {s : State} (h : SourceLost c s) : exec (.candSourceLost c) s = .next (s.candAbsent c) := by
  rw [exec_candSourceLost, if_pos]
  simpa [SourceLost] using h

theorem candSourceLost_notDue {c : Fin 8} {s : State} (h : ¬ SourceLost c s) : exec (.candSourceLost c) s = .next s := by
  rw [exec_candSourceLost, if_neg]
  simpa [SourceLost] using h

/-- PTP_VALID stands, and two seconds have passed since a write of 1. -/
def PtpExpires (s : State) : Prop := s.on F.REFSEL_PTP_VALID_PTP_VALID 0 = true ∧ s.ref.ptpWrite + 2 * sClk ≤ s.clk

theorem ptpValidExpire_due {s : State} (h : PtpExpires s) :
    exec .ptpValidExpire s = .next ((s.wr F.REFSEL_PTP_VALID_PTP_VALID 0 0).candAbsent 4) := by
  rw [exec_ptpValidExpire, if_pos]
  simpa [PtpExpires] using h

theorem ptpValidExpire_notDue {s : State} (h : ¬ PtpExpires s) : exec .ptpValidExpire s = .next s := by
  rw [exec_ptpValidExpire, if_neg]
  simpa [PtpExpires] using h

/-! ### Qualification and drift (R61-R63) -/

/-- QUAL seconds of candidate `c` have passed since `t`. -/
abbrev QualPassed (c t : Nat) (s : State) : Prop := t + s.rd F.REFSEL_CAND_QUAL c * sClk ≤ s.clk

/-- A condition of candidate `c` that runs since the time in `o` has lasted QUAL seconds. -/
def Lasted (c : Nat) (o : Option Nat) (s : State) : Prop := ∃ t, o = some t ∧ QualPassed c t s

section
variable {c : Fin 8} {s : State}

theorem candQualified_due (h : s.cst c = Cs.qualifying ∧ QualPassed c (s.cand c).since s) : exec (.candQualified c) s =
    .next ((s.wr F.REFSEL_CAND_STATE c Cs.qualified).wr F.REFSEL_CAND_QUAL_LEFT c 0).reselect := by
  rw [exec_candQualified]
  exact congrArg _ (if_pos h)

theorem candQualified_notDue (h : ¬ (s.cst c = Cs.qualifying ∧ QualPassed c (s.cand c).since s)) :
    exec (.candQualified c) s = .next s := by
  rw [exec_candQualified]
  exact congrArg _ (if_neg h)

/-- Candidate `c` drifts, and its drift has stayed below 40 % of TOL for QUAL seconds. -/
def DriftCleared (c : Nat) (s : State) : Prop := s.cst c = Cs.drifting ∧ Lasted c (s.cand c).under s

theorem candDriftCleared_due (h : DriftCleared c s) :
    exec (.candDriftCleared c) s = .next (s.wr F.REFSEL_CAND_STATE c Cs.qualified).reselect := by
  obtain ⟨hst, t, ht, hpassed⟩ := h
  rw [exec_candDriftCleared]
  simp only [execCandDriftCleared, ht]
  exact congrArg _ (if_pos ⟨hst, hpassed⟩)

theorem candDriftCleared_notDue (h : ¬ DriftCleared c s) : exec (.candDriftCleared c) s = .next s := by
  rw [exec_candDriftCleared]
  cases hu : (s.cand c).under with
  | none => simp only [execCandDriftCleared, hu, ok]
  | some t =>
    simp only [execCandDriftCleared, hu]
    exact congrArg _ (if_neg fun hdue => h ⟨hdue.1, t, hu, hdue.2⟩)

/-- Candidate `c` qualifies, is QUALIFIED or drifts, and its drift has stayed at or above TOL for QUAL seconds. -/
def Disqualifies (c : Nat) (s : State) : Prop :=
  Cs.qualifying ≤ s.cst c ∧ s.cst c ≤ Cs.drifting ∧ Lasted c (s.cand c).excess s

theorem candDisqualified_due (h : Disqualifies c s) : exec (.candDisqualified c) s = .next (s.candDisq c) := by
  obtain ⟨hlo, hhi, t, ht, hpassed⟩ := h
  rw [exec_candDisqualified]
  simp only [execCandDisqualified, ht]
  exact congrArg _ (if_pos (Bool.and_eq_true_iff.mpr ⟨decide_eq_true ⟨hlo, hhi⟩, decide_eq_true hpassed⟩))

theorem candDisqualified_notDue (h : ¬ Disqualifies c s) : exec (.candDisqualified c) s = .next s := by
  rw [exec_candDisqualified]
  cases he : (s.cand c).excess with
  | none => simp only [execCandDisqualified, he, ok]
  | some t =>
    simp only [execCandDisqualified, he]
    refine congrArg _ (if_neg fun hdue => ?_)
    obtain ⟨hst, hpassed⟩ := Bool.and_eq_true_iff.mp hdue
    obtain ⟨hlo, hhi⟩ := of_decide_eq_true hst
    exact h ⟨hlo, hhi, t, he, of_decide_eq_true hpassed⟩

end

/-! ### Register writes (R59, R65, R81) -/

/-- A write that the selector refuses. -/
def cfgRefused (s : State) : State := s.event F.REFSEL_EVENT_CFG_REFUSED 0 Irq.refsel

/-- The word `w` would change TYPE or RATE of candidate `c`, which is selected, to a legal value. -/
def BasisChanges (c w : Nat) (s : State) : Prop :=
  s.sel = some c ∧
    ((s.rd F.REFSEL_CAND_TYPE c ≠ bits w 5 3 ∧ F.REFSEL_CAND_TYPE.legal (bits w 5 3) = true) ∨
      (s.rd F.REFSEL_CAND_RATE c ≠ bits w 8 4 ∧ F.REFSEL_CAND_RATE.legal (bits w 8 4) = true))

/-- The word of index `i` would change SRC of candidate `c`, which is selected. -/
def SrcChanges (c i w : Nat) (s : State) : Prop := i = 3 ∧ s.sel = some c ∧ s.rd F.REFSEL_CAND_SRC c ≠ bits w 0 13

/-- Word 0 of candidate `c` taken as written. -/
def candTaken (c w : Nat) (s : State) : State := s.writeWord (0x20100 + 0x20 * c) w

/-- Word 0 taken, with the candidate ABSENT. -/
def candEnabled (c w : Nat) (s : State) : State := (candTaken c w s).wr F.REFSEL_CAND_STATE c Cs.absent

/-- The source of candidate `c`, enabled by the word `w`, shows timing points. -/
def enabledShows (c w : Nat) (s : State) : Bool := (s.cand c).present && (candEnabled c w s).srcStands c

section
variable {c w : Nat} {s : State}

theorem ptpValid_set (h : bit w 0 = true) : s.ptpValid w =
    ({ s.wr F.REFSEL_PTP_VALID_PTP_VALID 0 1 with ref := { s.ref with ptpWrite := s.clk } }).candPresent 4 := if_pos h

theorem ptpValid_clear (h : bit w 0 = false) : s.ptpValid w = (s.wr F.REFSEL_PTP_VALID_PTP_VALID 0 0).candAbsent 4 :=
  if_neg (Bool.eq_false_iff.mp h)

theorem locoscWrite_taken (h : s.mode = Mode.calibrate) : s.locoscWrite w = s.writeWord 0x20060 w := if_pos h

theorem locoscWrite_refused (h : s.mode ≠ Mode.calibrate) : s.locoscWrite w = cfgRefused s := if_neg h

theorem candWord0_refused (h : BasisChanges c w s) : s.candWord0 c w = cfgRefused s := if_pos h

/-- EN as it was. -/
theorem candWord0_same (h : ¬ BasisChanges c w s) (hb : bit w 0 = s.on F.REFSEL_CAND_EN c) :
    s.candWord0 c w = candTaken c w s := by
  refine (if_neg h).trans ?_
  cases hen : s.on F.REFSEL_CAND_EN c <;> simp [hb, hen, candTaken]

section
variable (h : ¬ BasisChanges c w s) (hb : bit w 0 = true) (hen : s.on F.REFSEL_CAND_EN c = false)
include h hb hen

/-- EN set on a candidate that was OFF. -/
theorem candWord0_enables : s.candWord0 c w =
    if enabledShows c w s then (candEnabled c w s).qualify c else candEnabled c w s :=
  (if_neg h).trans (if_pos (by simp [hb, hen]))

theorem candWord0_qualifies (hp : enabledShows c w s = true) : s.candWord0 c w = (candEnabled c w s).qualify c := by
  rw [candWord0_enables h hb hen, if_pos hp]

theorem candWord0_absent (hp : enabledShows c w s = false) : s.candWord0 c w = candEnabled c w s := by
  rw [candWord0_enables h hb hen, if_neg (Bool.eq_false_iff.mp hp)]

end

/-- EN cleared on a candidate that was enabled. -/
theorem candWord0_disables (h : ¬ BasisChanges c w s) (hb : bit w 0 = false) (hen : s.on F.REFSEL_CAND_EN c = true) :
    s.candWord0 c w = ((candTaken c w s).wr F.REFSEL_CAND_STATE c Cs.off).wr F.REFSEL_CAND_QUAL_LEFT c 0 :=
  (if_neg h).trans ((if_neg (by simp [hb])).trans (if_pos (by simp [hb, hen])))

/-- Each write of a candidate selects again; word 0 by its own rule. -/
theorem candWrite_zero : s.candWrite c 0 w = (s.candWord0 c w).reselect := rfl

theorem candWrite_srcRefused {i : Nat} (h : SrcChanges c i w s) : s.candWrite c i w = (cfgRefused s).reselect := by
  obtain ⟨rfl, hchanges⟩ := h
  exact congrArg State.reselect ((if_neg (by decide : 3 ≠ 0)).trans (if_pos ⟨rfl, hchanges⟩))

theorem candWrite_taken {i : Nat} (hi : i ≠ 0) (h : ¬ SrcChanges c i w s) :
    s.candWrite c i w = (s.writeWord (0x20100 + 0x20 * c + 4 * i) w).reselect :=
  congrArg State.reselect ((if_neg hi).trans (if_neg h))

end

/-- A write of word 0 of a candidate, by what its rule makes of the state. -/
theorem refselCandWrite_zero {c : Fin 8} {k : Fin 4} {w : Word} {s t : State} (hk : k.val = 0) (h : s.candWord0 c w.toNat = t) :
    Writes (.refselCandWrite c k w) (0x20100 + 0x20 * c.val + 4 * k.val) w s t.reselect := by
  refine puts_of_eq (exec_refselCandWrite c k w s) ?_
  rw [hk, candWrite_zero, h]

/-- Word 0 stands at the candidate's own offset. -/
theorem writeWord_zero {k : Fin 4} (hk : k.val = 0) (c w : Nat) (s : State) :
    s.writeWord (0x20100 + 0x20 * c + 4 * k.val) w = candTaken c w s := by
  rw [hk]
  rfl

/-! ### The statement -/

/-- Settles O21: each clause is one case of its command; the writes of a candidate are read off by its word. -/
theorem referenceCommands : Obligations.ReferenceCommands := by
  unfold Obligations.ReferenceCommands
  refine ⟨fun c r offs s => ⟨(refinTimingPoint_unwatched · r), ?first, ?rateChanged, ?glitch, ?phase, refinStop_due, refinStop_notDue,
    candSourceLost_due, candSourceLost_notDue, candQualified_due, candQualified_notDue, exec_driftUpdate offs s,
    candDriftCleared_due, candDriftCleared_notDue, candDisqualified_due, candDisqualified_notDue⟩,
    fun c k w s => ⟨?ptpSet, ?ptpClear, ptpValidExpire_due, ptpValidExpire_notDue, ?locosc, ?locoscRefused, ?taken, ?srcRefused,
      ?basisRefused, ?same, ?qualifies, ?absent, ?disables⟩⟩
  case first => exact fun hw h => (refinTimingPoint_watched hw r).trans (congrArg _ (refinPoint_first h))
  case rateChanged => exact fun hw h hr => (refinTimingPoint_watched hw r).trans (congrArg _ (refinPoint_rateChanged h hr))
  case glitch => exact fun hw h hr hg => (refinTimingPoint_watched hw r).trans (congrArg _ (refinPoint_glitch h hr hg))
  case phase => exact fun hw h hr hg => (refinTimingPoint_watched hw r).trans (congrArg _ (refinPoint_phase h hr hg))
  case ptpSet => exact fun h => puts_of_eq (exec_ptpValidWrite w s) (ptpValid_set h)
  case ptpClear => exact fun h => puts_of_eq (exec_ptpValidWrite w s) (ptpValid_clear h)
  case locosc => exact fun h => puts_of_eq (exec_refselLocoscWrite w s) (locoscWrite_taken h)
  case locoscRefused => exact fun h => puts_of_eq (exec_refselLocoscWrite w s) (locoscWrite_refused h)
  case taken => exact fun hk h => puts_of_eq (exec_refselCandWrite c k w s) (candWrite_taken hk h)
  case srcRefused => exact fun h => puts_of_eq (exec_refselCandWrite c k w s) (candWrite_srcRefused h)
  case basisRefused => exact fun hk h => refselCandWrite_zero hk (candWord0_refused h)
  case same =>
    intro hb hk h
    rw [writeWord_zero hk]
    exact refselCandWrite_zero hk (candWord0_same h hb)
  case qualifies =>
    intro hb hen hp hk h
    rw [writeWord_zero hk] at hp ⊢
    exact refselCandWrite_zero hk (candWord0_qualifies h hb hen hp)
  case absent =>
    intro hb hen hp hk h
    rw [writeWord_zero hk] at hp ⊢
    exact refselCandWrite_zero hk (candWord0_absent h hb hen hp)
  case disables =>
    intro hb hen hk h
    rw [writeWord_zero hk]
    exact refselCandWrite_zero hk (candWord0_disables h hb hen)

end Sys2Proof.Proofs
end

section
/-! PROOFS. Ports and destinations (chapters 4, 5): a port's configuration, the judged lines of its strands and its windows, and the loss
policy and line mode of a destination, one lemma per case, and the statement about them all. -/
namespace Sys2Proof.Proofs
open Sys2Proof.Machine Sys2Proof.Laws

/-! ### Port configuration (R99, R107, R534) -/

theorem exec_alignPortCfgWrite (p : Fin 1152) (w : Word) (s : State) : exec (.alignPortCfgWrite p w) s =
    ok (s.hostWrite (0x56000 + 0x20 * p.val) w.toNat (State.portCfg p w.toNat)) := rfl

/-- RASTER, PID_REQ and CRC_POL of the word `w` taken. -/
def portCfgTaken (p w : Nat) (s : State) : State :=
  ((s.wr F.ALIGN_PORT_CFG_RASTER p (bits w 4 3)).wr F.ALIGN_PORT_CFG_PID_REQ p (bits w 8 1)).wr F.ALIGN_PORT_CFG_CRC_POL p (bits w 9 1)

/-- The destinations whose slots lie on port `p`. -/
def ownDests (p : Nat) (s : State) : List Nat :=
  (s.routes.filter fun e => decide (e.1 < 4608) && s.slotPort e.1 = p).map (·.1)

/-- The offset, the windows, the readers and the own destinations of port `p` judged again. -/
def portRejudged (p : Nat) (s : State) : State :=
  forEach (ownDests p s) (fun d s => s.showDest d) (((s.showOfs p).oowUpdate p).showReaders p)

section
variable {p w : Nat} {s : State}

/-- A reserved class keeps the field. -/
theorem portCfg_reserved (h : 7 < bits w 0 4) : s.portCfg p w = portRejudged p (portCfgTaken p w s) :=
  congrArg (portRejudged p) (if_pos h)

section
variable (h : bits w 0 4 ≤ 7)
include h

theorem portCfg_refused (hr : s.classRefused p (bits w 0 4) = true) :
    s.portCfg p w = portRejudged p ((portCfgTaken p w s).wr F.ALIGN_PORT_STATUS_CFG_REFUSED p 1) :=
  congrArg (portRejudged p) ((if_neg (Nat.not_lt.mpr h)).trans (if_pos hr))

variable (hr : s.classRefused p (bits w 0 4) = false)
include hr

theorem portCfg_sameClass (hc : bits w 0 4 = s.portClass p) : s.portCfg p w = portRejudged p (portCfgTaken p w s) :=
  congrArg (portRejudged p) ((if_neg (Nat.not_lt.mpr h)).trans ((if_neg (Bool.eq_false_iff.mp hr)).trans (if_pos hc)))

theorem portCfg_newClass (hc : bits w 0 4 ≠ s.portClass p) :
    s.portCfg p w = portRejudged p (((portCfgTaken p w s).portClear p).wr F.ALIGN_PORT_CFG_CLASS p (bits w 0 4)) :=
  congrArg (portRejudged p) ((if_neg (Nat.not_lt.mpr h)).trans ((if_neg (Bool.eq_false_iff.mp hr)).trans (if_neg hc)))

end
end

/-! ### Lines of a strand (R99, R100, R292) -/

/-- The number of strand slot `d` within its port. -/
abbrev strandIndex (d : Nat) (s : State) : Nat := d - 4 * s.slotPort d

/-- The class of its port has strand slot `d`. -/
def CarriesStrand (d : Nat) (s : State) : Prop :=
  s.portClass (s.slotPort d) ≠ 0 ∧ strandIndex d s < s.portWidth (s.slotPort d)

theorem exec_strandLineJudge (d : Fin 4608) (j : StrandLine) (s : State) : exec (.strandLineJudge d j) s =
    .next (if s.portClass (s.slotPort d) = 0 ∨ s.portWidth (s.slotPort d) ≤ strandIndex d s then s
      else if strandIndex d s = 0 then (s.judgeLine (s.slotPort d) (strandIndex d s) d j).deembStrand (s.slotPort d) d j
      else s.judgeLine (s.slotPort d) (strandIndex d s) d j) := rfl

theorem not_carriesStrand_iff {d : Nat} {s : State} : ¬ CarriesStrand d s ↔
    s.portClass (s.slotPort d) = 0 ∨ s.portWidth (s.slotPort d) ≤ strandIndex d s := by
  rw [CarriesStrand, not_and_or, not_not, Nat.not_lt]

section
variable {d : Fin 4608} {s : State}

theorem strandLineJudge_absent (h : ¬ CarriesStrand d s) (j : StrandLine) : exec (.strandLineJudge d j) s = .next s := by
  rw [exec_strandLineJudge, if_pos (not_carriesStrand_iff.mp h)]

theorem strandLineJudge_member (h : CarriesStrand d s) (hk : strandIndex d s ≠ 0) (j : StrandLine) :
    exec (.strandLineJudge d j) s = .next (s.judgeLine (s.slotPort d) (strandIndex d s) d j) := by
  rw [exec_strandLineJudge, if_neg fun ha => not_carriesStrand_iff.mpr ha h, if_neg hk]

/-- Strand 0 of a port carries its embedded audio. -/
theorem strandLineJudge_first (h : CarriesStrand d s) (hk : strandIndex d s = 0) (j : StrandLine) :
    exec (.strandLineJudge d j) s = .next ((s.judgeLine (s.slotPort d) 0 d j).deembStrand (s.slotPort d) d j) := by
  rw [exec_strandLineJudge, if_neg fun ha => not_carriesStrand_iff.mpr ha h, if_pos hk, hk]

end

/-! ### Windows (R113) -/

/-- Port `p` has stood two frames inside its window on raster `r`, which stands on a switch line. -/
def Reenters (p r : Nat) (s : State) : Prop :=
  s.on F.ALIGN_PORT_STATUS_FMT_VALID p = true ∧ (s.winNow p r).inside = false ∧ 2 ≤ (s.winNow p r).run ∧ s.atSwitch r = true

theorem exec_windowReenter (p : Fin 1152) (r : Fin 8) (s : State) : exec (.windowReenter p r) s =
    .next (if s.on F.ALIGN_PORT_STATUS_FMT_VALID p && !(s.winNow p r).inside && decide (2 ≤ (s.winNow p r).run) && s.atSwitch r then
      ((s.setWin p r { s.winNow p r with inside := true }).oowUpdate p).showReaders p else s) := rfl

theorem reenters_iff {p r : Nat} {s : State} : (s.on F.ALIGN_PORT_STATUS_FMT_VALID p && !(s.winNow p r).inside &&
    decide (2 ≤ (s.winNow p r).run) && s.atSwitch r) = true ↔ Reenters p r s := by
  simp [Reenters, and_assoc]

section
variable {p : Fin 1152} {r : Fin 8} {s : State}

theorem windowReenter_due (h : Reenters p r s) : exec (.windowReenter p r) s =
    .next (((s.setWin p r { s.winNow p r with inside := true }).oowUpdate p).showReaders p) := by
  rw [exec_windowReenter, if_pos (reenters_iff.mpr h)]

theorem windowReenter_notDue (h : ¬ Reenters p r s) : exec (.windowReenter p r) s = .next s := by
  rw [exec_windowReenter, if_neg fun hb => h (reenters_iff.mp hb)]

end

/-! ### A destination's loss policy (R134, R135, R139, R535) -/

/-- Destination `d` turned to its loss policy. -/
def lossPolicyTaken (d : Nat) (s : State) : State :=
  if 6336 ≤ d then s
  else (((s.wr F.XPT_DEST_STATUS_SUBST d 1).wr F.XPT_DEST_STATUS_LIVE d 0).wr F.XPT_DEST_STATUS_UNCLEAN d 0).probeSubst d

/-- A line of destination `d`, in service, begins while a loss condition holds and its policy is not in force. -/
def LossBegins (d : Nat) (s : State) : Prop :=
  (s.judge d).subst = true ∧ s.on F.XPT_DEST_STATUS_SUBST d = false ∧ s.held d = false ∧ s.lineStart d = true

/-- The loss condition of destination `d` has ended under its policy, or its route was held. -/
def LossEnded (d : Nat) (s : State) : Prop :=
  (s.on F.XPT_DEST_STATUS_SUBST d = true ∧ (s.judge d).subst = false) ∨ tget s.destHold d false = true

/-- A group of destination `d` may return now: its raster stands on a switch line; a recorder has no raster to wait for. -/
def MayReturn (d : Nat) (s : State) : Prop :=
  (∃ r, s.dstRaster d = some r ∧ s.atSwitch r = true) ∨ (s.dstRaster d = none ∧ isRec d = true)

theorem exec_lossPolicyApply (d : Fin 6336) (s : State) : exec (.lossPolicyApply d) s =
    .next (if (s.judge d).subst && !s.on F.XPT_DEST_STATUS_SUBST d && !s.held d && s.lineStart d then
      forEach (s.groupOf d) lossPolicyTaken s else s) := rfl

theorem lossBegins_iff {d : Nat} {s : State} :
    ((s.judge d).subst && !s.on F.XPT_DEST_STATUS_SUBST d && !s.held d && s.lineStart d) = true ↔ LossBegins d s := by
  simp [LossBegins, and_assoc]

theorem exec_lossPolicyReturn (d : Fin 6336) (s : State) : exec (.lossPolicyReturn d) s =
    .next (if ((s.on F.XPT_DEST_STATUS_SUBST d && !(s.judge d).subst) || tget s.destHold d false) &&
      (s.dstRaster d).elim (isRec d) s.atSwitch then forEach (s.groupOf d) State.settleDest s else s) := by
  change execLossPolicyReturn d s = _
  unfold execLossPolicyReturn
  cases s.dstRaster d with
  | none => rfl
  | some r => rfl

theorem lossEnded_iff {d : Nat} {s : State} :
    (s.on F.XPT_DEST_STATUS_SUBST d && !(s.judge d).subst || tget s.destHold d false) = true ↔ LossEnded d s := by
  simp [LossEnded]

theorem mayReturn_iff {d : Nat} {s : State} : (s.dstRaster d).elim (isRec d) s.atSwitch = true ↔ MayReturn d s := by
  rw [MayReturn]
  cases s.dstRaster d with
  | none => simp
  | some r => simp

theorem lossReturns_iff {d : Nat} {s : State} : ((s.on F.XPT_DEST_STATUS_SUBST d && !(s.judge d).subst || tget s.destHold d false) &&
    (s.dstRaster d).elim (isRec d) s.atSwitch) = true ↔ LossEnded d s ∧ MayReturn d s := by
  rw [Bool.and_eq_true_iff, lossEnded_iff, mayReturn_iff]

section
variable {d : Fin 6336} {s : State}

theorem lossPolicyApply_due (h : LossBegins d s) :
    exec (.lossPolicyApply d) s = .next (forEach (s.groupOf d) lossPolicyTaken s) := by
  rw [exec_lossPolicyApply, if_pos (lossBegins_iff.mpr h)]

theorem lossPolicyApply_notDue (h : ¬ LossBegins d s) : exec (.lossPolicyApply d) s = .next s := by
  rw [exec_lossPolicyApply, if_neg fun hb => h (lossBegins_iff.mp hb)]

theorem lossPolicyReturn_due (h : LossEnded d s) (hm : MayReturn d s) :
    exec (.lossPolicyReturn d) s = .next (forEach (s.groupOf d) State.settleDest s) := by
  rw [exec_lossPolicyReturn, if_pos (lossReturns_iff.mpr ⟨h, hm⟩)]

theorem lossPolicyReturn_notDue (h : ¬ (LossEnded d s ∧ MayReturn d s)) : exec (.lossPolicyReturn d) s = .next s := by
  rw [exec_lossPolicyReturn, if_neg fun hb => h (lossReturns_iff.mp hb)]

end

/-! ### Line mode (R118) -/

/-- The raster that destination `d` is timed by. -/
def lineRaster (d : Nat) (s : State) : Nat := (s.dstRaster d).getD 0

/-- The first source slot of the group that destination `d` reads. -/
def lineSource (d : Nat) (s : State) : Nat := groupSrc d (s.xa d)

/-- The line-mode offset of destination `d`. -/
def destK (d : Nat) (s : State) : Int := sx 12 (s.rd F.XPT_DEST_STATUS_K d)

/-- The step that the first strand out of range asks of the line-mode offset of destination `d`; 0 where none is. -/
def slipStep (d : Nat) (s : State) : Int :=
  (((s.lineOffsets (lineSource d s) (lineRaster d s)).map (s.slipOf (lineRaster d s) (destK d s))).find? fun i => decide (i ≠ 0)).getD 0

/-- The destinations in line mode that read the source of destination `d` on its raster. -/
def slipDests (d : Nat) (s : State) : List Nat :=
  (s.routes.filter fun e => decide (e.1 < 6336) && groupSrc e.1 e.2 = lineSource d s && s.dstRaster e.1 = some (lineRaster d s)
    && s.on F.XPT_DEST_STATUS_UNCLEAN e.1).map (·.1)

/-- Destination `d` moved to the line-mode offset `k`, which counts as a slip. -/
def slipTo (k : Int) (d : Nat) (s : State) : State :=
  (s.wr F.XPT_DEST_STATUS_K d (wrapInt 12 k)).incSat F.XPT_DEST_STATUS_SLIP_CNT d

/-- A line of destination `d` begins in line mode, and a strand of its source is out of range. -/
def Slips (d : Nat) (s : State) : Prop :=
  s.on F.XPT_DEST_STATUS_UNCLEAN d = true ∧ (s.xa d).routed = true ∧ s.lineStart d = true ∧ slipStep d s ≠ 0

theorem exec_lineModeSlip (d : Fin 6336) (s : State) : exec (.lineModeSlip d) s =
    .next (if s.on F.XPT_DEST_STATUS_UNCLEAN d && (s.xa d).routed && s.lineStart d && decide (slipStep d s ≠ 0) then
      (forEach (slipDests d s) (slipTo (destK d s + slipStep d s)) s).event F.XPT_EVENT_SLIP 0 Irq.xpt else s) := rfl

theorem slips_iff {d : Nat} {s : State} : (s.on F.XPT_DEST_STATUS_UNCLEAN d && (s.xa d).routed && s.lineStart d &&
    decide (slipStep d s ≠ 0)) = true ↔ Slips d s := by
  simp [Slips, and_assoc]

section
variable {d : Fin 6336} {s : State}

theorem lineModeSlip_due (h : Slips d s) : exec (.lineModeSlip d) s =
    .next ((forEach (slipDests d s) (slipTo (destK d s + slipStep d s)) s).event F.XPT_EVENT_SLIP 0 Irq.xpt) := by
  rw [exec_lineModeSlip, if_pos (slips_iff.mpr h)]

theorem lineModeSlip_notDue (h : ¬ Slips d s) : exec (.lineModeSlip d) s = .next s := by
  rw [exec_lineModeSlip, if_neg fun hb => h (slips_iff.mp hb)]

end

/-! ### The statement -/

/-- Settles O23: each clause is one case of its command; the port's configuration is read off by the class written. -/
theorem portAndDestinationCommands : Obligations.PortAndDestinationCommands := by
  unfold Obligations.PortAndDestinationCommands
  refine ⟨fun p r d j w s => ⟨?reserved, ?refused, ?sameClass, ?newClass, (strandLineJudge_absent · j),
      (strandLineJudge_member · · j), (strandLineJudge_first · · j), windowReenter_due, windowReenter_notDue⟩,
    fun d s => ⟨lossPolicyApply_due, lossPolicyApply_notDue, lossPolicyReturn_due, lossPolicyReturn_notDue, lineModeSlip_due,
      lineModeSlip_notDue⟩⟩
  case reserved => exact fun h => puts_of_eq (exec_alignPortCfgWrite p w s) (portCfg_reserved h)
  case refused => exact fun h hr => puts_of_eq (exec_alignPortCfgWrite p w s) (portCfg_refused h hr)
  case sameClass => exact fun h hr hc => puts_of_eq (exec_alignPortCfgWrite p w s) (portCfg_sameClass h hr hc)
  case newClass => exact fun h hr hc => puts_of_eq (exec_alignPortCfgWrite p w s) (portCfg_newClass h hr hc)

end Sys2Proof.Proofs
end

section
/-! PROOFS. The crosspoint tables (chapter 5): what staging, acceptance and locks change and what stands, what a commit's effect does,
one lemma per case, and the statements about them all. -/
namespace Sys2Proof.Proofs
open Sys2Proof.Machine Sys2Proof.Laws

/-! ### The tables -/

theorem xs_setXs_same (s : State) (d : Nat) (e : XShadow) : (s.setXs d e).xs d = e := tget_tput_same _ _ _ _

theorem xs_setXs_ne {m d : Nat} (h : m ≠ d) (s : State) (e : XShadow) : (s.setXs d e).xs m = s.xs m := tget_tput_ne _ _ _ _ _ _ h

theorem xlocked_setXlock_same (s : State) (d : Nat) (b : Bool) : (s.setXlock d b).xlocked d = b := tget_tput_same _ _ _ _

theorem xlocked_setXlock_ne {m d : Nat} (h : m ≠ d) (s : State) (b : Bool) : (s.setXlock d b).xlocked m = s.xlocked m :=
  tget_tput_ne _ _ _ _ _ _ h

/-! ### Staging (R125) -/

theorem exec_shadowXptWrite (d : Fin 8192) (hi : Bool) (w : Word) (s : State) : exec (.shadowXptWrite d hi w) s =
    ok (s.hostWriteWin true 2 (0x10000 + 8 * d.val + (if hi then 4 else 0)) w.toNat (State.shadowWrite d.val hi w.toNat)) := rfl

/-- The code of a host write of the low word of shadow entry `d`. -/
def shadowCode (d : Nat) (s : State) : Nat := firstFail ((s.xlocked d, Rc.locked) :: s.heldFails d 1 7)

section
variable {d w : Nat} {s : State}

theorem shadowWrite_stages (h : shadowCode d s = 0) : State.shadowWrite d false w s = s.stageEnt 7 d (xOfLow w (s.xShown d)) :=
  if_pos h

theorem shadowWrite_refused (h : shadowCode d s ≠ 0) :
    State.shadowWrite d false w s = s.event F.XPT_EVENT_STAGE_REFUSED 0 Irq.xpt := if_neg h

end

/-- A write of shadow entry `d`, by what its rule makes of the state. -/
theorem shadowXptWrite_winWrites {d : Fin 8192} {hi : Bool} {w : Word} {s t : State} (h : State.shadowWrite d hi w.toNat s = t) :
    WinWrites (.shadowXptWrite d hi w) true (0x10000 + 8 * d.val + (if hi then 4 else 0)) w s t :=
  h ▸ winWrites_of _ (exec_shadowXptWrite d hi w s)

theorem xs_stageEnt_same (s : State) (m d : Nat) (e : XEnt) :
    (s.stageEnt m d e).xs d = { ent := e, stager := m, staged := decide (e ≠ s.xa d) } := xs_setXs_same _ _ _

theorem xs_stageEnt_ne {d k : Nat} (h : k ≠ d) (s : State) (m : Nat) (e : XEnt) : (s.stageEnt m d e).xs k = s.xs k :=
  xs_setXs_ne h _ _

theorem stageEnt_frame (s : State) (m d : Nat) (e : XEnt) : { s.stageEnt m d e with xShadow := s.xShadow } = s := rfl

/-! ### Acceptance (R128) -/

/-- Entry `d` captured by commit `cid`. -/
def capture (cid d : Nat) (s : State) : State := s.setXs d { s.xs d with pending := true, cid := cid }

/-- Captured entries are PENDING with the commit's number, and no other changes. -/
theorem xs_forEach_capture (cid m : Nat) (l : List Nat) (s : State) : (forEach l (capture cid) s).xs m =
    if m ∈ l then { s.xs m with pending := true, cid := cid } else s.xs m := by
  induction l generalizing s with
  | nil => rfl
  | cons d r ih =>
    rw [show forEach (d :: r) (capture cid) s = forEach r (capture cid) (capture cid d s) from rfl, ih]
    by_cases hm : m = d
    · subst hm
      simp [capture, xs_setXs_same]
    · simp [capture, xs_setXs_ne hm, hm]

/-- The commit that master `m` makes on raster `r` for position `p`. -/
def acceptedCommit (s : State) (m r : Nat) (p : Pos) : XCommit :=
  ⟨s.nextCid, m, r, s.captured m, s.commitEffects r p (s.captured m)⟩

section
variable (s : State) (m r : Nat) (p : Pos)

theorem xs_acceptXpt (d : Nat) : (s.acceptXpt m r p).1.xs d =
    if d ∈ s.captured m then { s.xs d with pending := true, cid := s.nextCid } else s.xs d :=
  xs_forEach_capture _ _ _ _

theorem acceptXpt_xCommits : (s.acceptXpt m r p).1.xCommits = s.xCommits ++ [acceptedCommit s m r p] :=
  congrArg (· ++ [acceptedCommit s m r p]) (forEach_keeps State.xCommits _ (capture s.nextCid) (fun _ _ => rfl) s)

theorem acceptXpt_xNext : (s.acceptXpt m r p).1.xNext = s.xNext + 1 :=
  congrArg (· + 1) (forEach_keeps State.xNext _ (capture s.nextCid) (fun _ _ => rfl) s)

/-- Acceptance changes the shadow table and what is kept of commits alone. -/
theorem acceptXpt_frame :
    { (s.acceptXpt m r p).1 with xShadow := s.xShadow, xCommits := s.xCommits, xNext := s.xNext, xLast := s.xLast } = s :=
  forEach_keeps (fun u => { u with xShadow := s.xShadow, xCommits := s.xCommits, xNext := s.xNext, xLast := s.xLast })
    (s.captured m) (capture s.nextCid) (fun _ _ => rfl) s

end

/-! ### Locks (R133) -/

/-- Destination `m` locked or unlocked. -/
def lockDest (b : Bool) (m : Nat) (s : State) : State :=
  if m < 6336 then (s.setXlock m b).wr F.XPT_DEST_STATUS_LOCKED m (b2n b) else s.setXlock m b

theorem lockGroup_eq (s : State) (d w : Nat) (b : Bool) :
    s.lockGroup d w b = forEach ((List.range w).map (· + d)) (lockDest b) s := rfl

theorem lockDest_xLock (b : Bool) (m : Nat) (s : State) : (lockDest b m s).xLock = (s.setXlock m b).xLock := by
  unfold lockDest
  split <;> rfl

theorem xlocked_forEach_lockDest (b : Bool) (m : Nat) (l : List Nat) (s : State) :
    (forEach l (lockDest b) s).xlocked m = if m ∈ l then b else s.xlocked m := by
  induction l generalizing s with
  | nil => rfl
  | cons d r ih =>
    have hstep : (lockDest b d s).xlocked m = (s.setXlock d b).xlocked m := by rw [State.xlocked, lockDest_xLock, State.xlocked]
    rw [show forEach (d :: r) (lockDest b) s = forEach r (lockDest b) (lockDest b d s) from rfl, ih, hstep]
    by_cases hm : m = d
    · subst hm
      simp [xlocked_setXlock_same]
    · simp [xlocked_setXlock_ne hm, hm]

theorem mem_group {d w m : Nat} : m ∈ (List.range w).map (· + d) ↔ d ≤ m ∧ m < d + w := by
  rw [List.mem_map]
  constructor
  · rintro ⟨i, hi, rfl⟩
    have := List.mem_range.mp hi
    omega
  · rintro ⟨hle, hlt⟩
    exact ⟨m - d, List.mem_range.mpr (by omega), by omega⟩

theorem xlocked_lockGroup (s : State) (d w : Nat) (b : Bool) (m : Nat) :
    (s.lockGroup d w b).xlocked m = if d ≤ m ∧ m < d + w then b else s.xlocked m := by
  simp only [lockGroup_eq, xlocked_forEach_lockDest, mem_group]

/-- A lock changes the locks and the registers alone. -/
theorem lockGroup_frame (s : State) (d w : Nat) (b : Bool) :
    { s.lockGroup d w b with xLock := s.xLock, regs := s.regs } = s := by
  have hone : ∀ m t, { lockDest b m t with xLock := s.xLock, regs := s.regs } = { t with xLock := s.xLock, regs := s.regs } := by
    intro m t
    unfold lockDest
    split <;> rfl
  exact forEach_keeps (fun t => { t with xLock := s.xLock, regs := s.regs }) _ _ hone s

/-! ### The frames -/

/-- Settles O25: staging, acceptance and locks are each one table's write, entry by entry. -/
theorem crosspointFrames : Obligations.CrosspointFrames := by
  unfold Obligations.CrosspointFrames
  refine ⟨fun d w s => ?staging, fun m r t s => ?acceptance, fun d k b s _ _ => ?locks⟩
  case staging =>
    have hentry := xs_stageEnt_same s 7 d (xOfLow w.toNat (s.xShown d))
    refine ⟨fun h => shadowXptWrite_winWrites (shadowWrite_stages h), fun h => shadowXptWrite_winWrites (shadowWrite_refused h),
      shadowXptWrite_winWrites rfl, congrArg XShadow.ent hentry, congrArg XShadow.stager hentry, ?staged,
      congrArg XShadow.pending hentry, fun _ hm => xs_stageEnt_ne hm _ _ _, stageEnt_frame _ _ _ _⟩
    case staged =>
      rw [hentry]
      exact decide_eq_true_iff
  case acceptance =>
    have hframe := acceptXpt_frame s m r t
    refine ⟨(congrArg State.xActive hframe :), rfl, ?length, acceptXpt_xNext s m r t, fun d hd => ?captured, fun d hd => ?others,
      (congrArg State.regs hframe :), (congrArg State.pmem hframe :), (congrArg State.dmem hframe :),
      (congrArg State.smem hframe :)⟩
    case length => rw [acceptXpt_xCommits, List.length_append, List.length_singleton]
    case captured =>
      rw [xs_acceptXpt, if_pos hd]
      exact ⟨rfl, rfl, rfl⟩
    case others => rw [xs_acceptXpt, if_neg hd]
  case locks =>
    have hframe := lockGroup_frame s d (2 ^ k) b
    exact ⟨xlocked_lockGroup s d (2 ^ k) b, (congrArg State.xActive hframe :), (congrArg State.xShadow hframe :),
      (congrArg State.pmem hframe :), (congrArg State.dmem hframe :), (congrArg State.smem hframe :)⟩

/-! ### Commits and locks from the host (R128, R133) -/

theorem exec_xptCommitGo (w : Word) (s : State) : exec (.xptCommitGo w) s = ok (s.hostWriteSet 0x40010 w.toNat 1 State.xptCtrl) := rfl

theorem exec_xptCommitDiscard (w : Word) (s : State) :
    exec (.xptCommitDiscard w) s = ok (s.hostWriteSet 0x40010 w.toNat 2 State.xptCtrl) := rfl

theorem exec_xptLockRequest (w : Word) (s : State) :
    exec (.xptLockRequest w) s = ok (s.hostWriteSet 0x40030 w.toNat 0x80000000 State.xptLock) := rfl

theorem exec_commitTakeEffect (r : Fin 8) (s : State) : exec (.commitTakeEffect r) s = .next (s.xptEffect r) := rfl

/-- RASTER and STYLE of a commit as the word `w` gives them. -/
def commitFields (w : Nat) (s : State) : State :=
  (s.wr F.XPT_COMMIT_CTRL_RASTER 0 (bits w 4 3)).wr F.XPT_COMMIT_CTRL_STYLE 0 (bits w 7 1)

/-- DISCARD, where it is asked for. -/
def discardAsked (b : Bool) (s : State) : State := if b then s.unstageXpt 7 else s

/-- What a GO of the host answers. -/
def hostCommitCode (s : State) : Nat × Option Nat := s.commitCode 7 (s.rd F.XPT_COMMIT_CTRL_RASTER 0) s.hostTarget.line

/-- The fields of a lock request as the word `w` gives them. -/
def lockFields (w : Nat) (s : State) : State :=
  ((s.wr F.XPT_LOCK_DEST 0 (bits w 0 13)).wr F.XPT_LOCK_WIDTH 0 (bits w 16 2)).wr F.XPT_LOCK_LOCK 0 (bits w 18 1)

/-- What the lock request of the word `w` answers. -/
def lockReqCode (w : Nat) (s : State) : Nat := (lockFields w s).lockCode (bits w 0 13) (widthOf (bits w 16 2)) (bit w 18)

section
variable {w : Nat} {s : State}

theorem xptCtrl_go (h : bit w 0 = true) : s.xptCtrl w = discardAsked (bit w 1) (commitFields w s).hostXptCommit :=
  congrArg (discardAsked (bit w 1)) (if_pos h)

theorem xptCtrl_noGo (h : bit w 0 = false) : s.xptCtrl w = discardAsked (bit w 1) (commitFields w s) :=
  congrArg (discardAsked (bit w 1)) (if_neg (Bool.eq_false_iff.mp h))

theorem hostXptCommit_accepted (h : (hostCommitCode s).1 = 0) : s.hostXptCommit =
    (s.acceptXpt 7 (s.rd F.XPT_COMMIT_CTRL_RASTER 0) s.hostTarget).1.hostCommitAccepted
      (s.acceptXpt 7 (s.rd F.XPT_COMMIT_CTRL_RASTER 0) s.hostTarget).2
      (s.commitEffects (s.rd F.XPT_COMMIT_CTRL_RASTER 0) s.hostTarget (s.captured 7)) := if_pos h

theorem hostXptCommit_refused (h : (hostCommitCode s).1 ≠ 0) :
    s.hostXptCommit = s.hostCommitRefused (hostCommitCode s).1 (hostCommitCode s).2 := if_neg h

section
variable (hgo : bit w 31 = true)
include hgo

theorem xptLock_locks (h : lockReqCode w s = 0) :
    s.xptLock w = (lockFields w s).lockGroup (bits w 0 13) (widthOf (bits w 16 2)) (bit w 18) :=
  (if_neg (by simp [hgo])).trans (if_pos h)

theorem xptLock_refused (h : lockReqCode w s ≠ 0) : s.xptLock w = (lockFields w s).event F.XPT_EVENT_LOCK_REFUSED 0 Irq.xpt :=
  (if_neg (by simp [hgo])).trans (if_neg h)

end
end

section
variable {w : Word} {s t : State}

/-- A write with GO, by what the commit makes of the state; a DISCARD of the same word follows. -/
theorem xptCommitGo_puts (h : (commitFields (Nat.lor w.toNat 1) s).hostXptCommit = t) :
    Sets (.xptCommitGo w) 0x40010 w 1 s (discardAsked (bit w.toNat 1) t) := by
  refine puts_of_eq (exec_xptCommitGo w s) ?_
  rw [xptCtrl_go (bit_lor_one _), bit_lor_clear (by decide), h]

theorem xptCommitDiscard_alone (h : bit w.toNat 0 = false) :
    Sets (.xptCommitDiscard w) 0x40010 w 2 s ((commitFields (Nat.lor w.toNat 2) s).unstageXpt 7) := by
  refine puts_of_eq (exec_xptCommitDiscard w s) ?_
  rw [xptCtrl_noGo ((bit_lor_clear (by decide) _).trans h), bit_lor_set (by decide)]
  rfl

theorem xptCommitDiscard_afterGo (h : bit w.toNat 0 = true) :
    Sets (.xptCommitDiscard w) 0x40010 w 2 s ((commitFields (Nat.lor w.toNat 2) s).hostXptCommit.unstageXpt 7) := by
  refine puts_of_eq (exec_xptCommitDiscard w s) ?_
  rw [xptCtrl_go ((bit_lor_clear (by decide) _).trans h), bit_lor_set (by decide)]
  rfl

end

/-! ### Effects (R129-R131) -/

/-- The effect of a commit of the host on raster `r` shown in APPLIED. -/
def showApplied (c : XCommit) (r : Nat) (s : State) : State :=
  if c.master = 7 ∧ s.rd F.XPT_COMMIT_STATUS_COMMIT_ID 0 = c.cid then
    s.wr F.XPT_COMMIT_STATUS_APPLIED 0 (withBit (s.rd F.XPT_COMMIT_STATUS_APPLIED 0) r true)
  else s

section
variable {r : Fin 8} {s : State}

theorem commitTakeEffect_none (h : s.nextEffect r = none) : exec (.commitTakeEffect r) s = .next s := by
  simp only [exec_commitTakeEffect, State.xptEffect, h]

theorem commitTakeEffect_next {c : XCommit} {e : Effect} (h : s.nextEffect r = some (c, e)) : exec (.commitTakeEffect r) s =
    .next (if s.effectLost e then (s.discardOn c r).finishXpt c.cid else (showApplied c r (s.applyOn c r)).finishXpt c.cid) := by
  simp only [exec_commitTakeEffect, State.xptEffect, h]
  rfl

theorem commitTakeEffect_applied {c : XCommit} {e : Effect} (h : s.nextEffect r = some (c, e)) (hl : s.effectLost e = false) :
    exec (.commitTakeEffect r) s = .next ((showApplied c r (s.applyOn c r)).finishXpt c.cid) := by
  rw [commitTakeEffect_next h, if_neg (Bool.eq_false_iff.mp hl)]

theorem commitTakeEffect_lost {c : XCommit} {e : Effect} (h : s.nextEffect r = some (c, e)) (hl : s.effectLost e = true) :
    exec (.commitTakeEffect r) s = .next ((s.discardOn c r).finishXpt c.cid) := by
  rw [commitTakeEffect_next h, if_pos hl]

end

/-! ### The commands -/

/-- Settles O24: each clause is one case of its command, the writes by the bits their commands set. -/
theorem crosspointCommands : Obligations.CrosspointCommands := by
  unfold Obligations.CrosspointCommands
  refine fun r w s => ⟨fun h => xptCommitGo_puts (hostXptCommit_accepted h), fun h => xptCommitGo_puts (hostXptCommit_refused h),
    xptCommitDiscard_alone, xptCommitDiscard_afterGo, ?locks, ?lockRefused, fun _ _ => commitTakeEffect_applied,
    fun _ _ => commitTakeEffect_lost, commitTakeEffect_none⟩
  case locks => exact fun h => puts_of_eq (exec_xptLockRequest w s) (xptLock_locks (bit_lor_set (by decide) _) h)
  case lockRefused => exact fun h => puts_of_eq (exec_xptLockRequest w s) (xptLock_refused (bit_lor_set (by decide) _) h)

end Sys2Proof.Proofs
end

section
/-! PROOFS. Probes and planes (chapter 5): what a probe publishes, the steps of a plane substitution and the lines that a plane
forwards, one lemma per case, and the statement about them all. -/
namespace Sys2Proof.Proofs
open Sys2Proof.Machine Sys2Proof.Laws

/-! ### Probes (R139) -/

/-- The frame whose lines probe `i` took last. -/
def probeTaken (i : Nat) (s : State) : ProbeRun := tget s.probeRun i {}

/-- The egress position of the raster that probe `i` is timed by. -/
def probePos (i : Nat) (s : State) : Pos := s.egress (s.rd F.PROBE_CFG_RASTER i)

/-- The last active line of the strand that probe `i` reads. -/
def probeLastLine (i : Nat) (s : State) : Nat :=
  lastActive (signalStruct (s.destStrand (6272 + i)).1 (s.destStrand (6272 + i)).2.1) * strandStep (s.destStrand (6272 + i)).1

/-- The frame that probe `i` took has ended. -/
def ProbeEnded (i : Nat) (s : State) : Prop :=
  (probeTaken i s).frame < (probePos i s).frame ∨
    ((probeTaken i s).frame = (probePos i s).frame ∧ probeLastLine i s < (probePos i s).line)

/-- Probe `i` has a route and a running raster, and its frame has ended. -/
def ProbeDue (i : Nat) (s : State) : Prop :=
  (s.xa (6272 + i)).routed = true ∧ s.enabled (s.rd F.PROBE_CFG_RASTER i) = true ∧ ProbeEnded i s

/-- The loss policy was in force during the frame. -/
def ProbeLost (i : Nat) (s : State) : Prop := (probeTaken i s).subst = true ∨ s.on F.XPT_DEST_STATUS_SUBST (6272 + i) = true

/-- The CRC of the frame that probe `i` took. -/
def probeCrc (i : Nat) (s : State) : Nat := Nat.xor (probeTaken i s).acc 0xFFFFFFFF

/-- The frames in a row of the CRC of this one. -/
def probeStill (i : Nat) (s : State) : Nat :=
  if (probeTaken i s).crc = probeCrc i s ∧ 0 < (probeTaken i s).run then (probeTaken i s).run + 1 else 1

/-- The frame is BLACK by the probe's threshold. -/
abbrev ProbeBlack (i : Nat) (s : State) : Prop :=
  s.rd F.PROBE_CFG_BLK_THR i ≠ 0 ∧ (probeTaken i s).hi ≤ s.rd F.PROBE_CFG_BLK_THR i

/-- The frame is the last of as many alike as the probe's threshold asks for. -/
abbrev ProbeFrozen (i : Nat) (s : State) : Prop := s.rd F.PROBE_CFG_FRZ i ≠ 0 ∧ s.rd F.PROBE_CFG_FRZ i ≤ probeStill i s

/-- BLACK or FREEZE rises with the frame that probe `i` took. -/
def ProbeRises (i : Nat) (s : State) : Prop :=
  (ProbeBlack i s ∧ s.on F.PROBE_RES_BLACK i = false) ∨ (ProbeFrozen i s ∧ s.on F.PROBE_RES_FREEZE i = false)

/-- The measures of the frame that probe `i` took, and its judgements by the thresholds. -/
def probeResults (i : Nat) (s : State) : State :=
  let q := probeTaken i s
  let measured := (((s.wr F.PROBE_RES_CRC i (probeCrc i s)).wr F.PROBE_RES_YMIN i q.lo).wr F.PROBE_RES_YMAX i q.hi).wr
    F.PROBE_RES_FRAME i q.frame
  ((measured.wr F.PROBE_RES_BLACK i (b2n (decide (ProbeBlack i s)))).wr F.PROBE_RES_FREEZE i (b2n (decide (ProbeFrozen i s)))).wr
    F.PROBE_RES_NOSIG i 0

/-- Probe `i` goes on behind frame `f`, with what `q` says of the frame before. -/
def probeGoesOn (i f : Nat) (q : ProbeRun) (s : State) : State :=
  { s with probeRun := tput s.probeRun i { q with frame := f + 1 } {} }

/-- A frame published. -/
def probePublished (i : Nat) (s : State) : State :=
  probeGoesOn i (probePos i s).frame { probeTaken i s with crc := probeCrc i s, run := probeStill i s } (probeResults i s)

/-- A frame without a signal published. -/
def probeNoSignal (i : Nat) (s : State) : State :=
  probeGoesOn i (probePos i s).frame { probeTaken i s with subst := false } (s.wr F.PROBE_RES_NOSIG i 1)

theorem exec_probeFramePublish (i : Fin 64) (s : State) : exec (.probeFramePublish i () () ()) s =
    .next (if !(s.xa (6272 + i)).routed || !s.enabled (s.rd F.PROBE_CFG_RASTER i) ||
        !(decide ((probeTaken i s).frame < (probePos i s).frame) ||
          (decide ((probeTaken i s).frame = (probePos i s).frame) && decide (probeLastLine i s < (probePos i s).line))) then s
      else if (probeTaken i s).subst || s.on F.XPT_DEST_STATUS_SUBST (6272 + i) then probeNoSignal i s
      else if ((decide (ProbeBlack i s) && !s.on F.PROBE_RES_BLACK i) || (decide (ProbeFrozen i s) && !s.on F.PROBE_RES_FREEZE i)) &&
        s.on F.PROBE_CFG_IRQ i then (probePublished i s).raise Irq.probe
      else probePublished i s) := rfl

theorem not_probeDue_iff {i : Nat} {s : State} : (!(s.xa (6272 + i)).routed || !s.enabled (s.rd F.PROBE_CFG_RASTER i) ||
    !(decide ((probeTaken i s).frame < (probePos i s).frame) ||
      (decide ((probeTaken i s).frame = (probePos i s).frame) && decide (probeLastLine i s < (probePos i s).line)))) = true ↔
    ¬ ProbeDue i s := by
  simp only [ProbeDue, ProbeEnded, ← Bool.not_and, Bool.not_eq_true', ← Bool.not_eq_true, Bool.and_eq_true, Bool.or_eq_true,
    decide_eq_true_eq, and_assoc]

theorem probeLost_iff {i : Nat} {s : State} :
    ((probeTaken i s).subst || s.on F.XPT_DEST_STATUS_SUBST (6272 + i)) = true ↔ ProbeLost i s := Bool.or_eq_true_iff

theorem probeRises_iff {i : Nat} {s : State} : (((decide (ProbeBlack i s) && !s.on F.PROBE_RES_BLACK i) ||
    (decide (ProbeFrozen i s) && !s.on F.PROBE_RES_FREEZE i)) && s.on F.PROBE_CFG_IRQ i) = true ↔
    ProbeRises i s ∧ s.on F.PROBE_CFG_IRQ i = true := by
  simp only [ProbeRises, Bool.and_eq_true, Bool.or_eq_true, decide_eq_true_eq, Bool.not_eq_true']

section
variable {i : Fin 64} {s : State}

theorem probeFramePublish_notDue (h : ¬ ProbeDue i s) : exec (.probeFramePublish i () () ()) s = .next s := by
  rw [exec_probeFramePublish, if_pos (not_probeDue_iff.mpr h)]

section
variable (h : ProbeDue i s)
include h

theorem probeFramePublish_noSignal (hl : ProbeLost i s) :
    exec (.probeFramePublish i () () ()) s = .next (probeNoSignal i s) := by
  rw [exec_probeFramePublish, if_neg fun hb => not_probeDue_iff.mp hb h, if_pos (probeLost_iff.mpr hl)]

variable (hl : ¬ ProbeLost i s)
include hl

theorem probeFramePublish_raises (hr : ProbeRises i s ∧ s.on F.PROBE_CFG_IRQ i = true) :
    exec (.probeFramePublish i () () ()) s = .next ((probePublished i s).raise Irq.probe) := by
  rw [exec_probeFramePublish, if_neg fun hb => not_probeDue_iff.mp hb h, if_neg fun hb => hl (probeLost_iff.mp hb),
    if_pos (probeRises_iff.mpr hr)]

theorem probeFramePublish_quiet (hr : ¬ (ProbeRises i s ∧ s.on F.PROBE_CFG_IRQ i = true)) :
    exec (.probeFramePublish i () () ()) s = .next (probePublished i s) := by
  rw [exec_probeFramePublish, if_neg fun hb => not_probeDue_iff.mp hb h, if_neg fun hb => hl (probeLost_iff.mp hb),
    if_neg fun hb => hr (probeRises_iff.mp hb)]

end
end

/-! ### START and ABORT of a plane substitution (R140) -/

theorem exec_psubStart (w : Word) (s : State) : exec (.psubStart w) s = ok (s.hostWriteSet 0x40140 w.toNat 1 State.psubCtrl) := rfl

theorem exec_psubAbort (w : Word) (s : State) : exec (.psubAbort w) s = ok (s.hostWriteSet 0x40140 w.toNat 2 State.psubCtrl) := rfl

/-- LOGICAL and GRANT of a substitution as the word `w` gives them. -/
def psubFields (w : Nat) (s : State) : State :=
  (s.wr F.XPT_PSUB_CTRL_LOGICAL 0 (bits w 4 3)).wr F.XPT_PSUB_CTRL_GRANT 0 (bits w 16 16)

/-- A substitution is under way whose switch has not begun. -/
abbrev PsubEarly (s : State) : Prop := s.psubStep = 1 ∨ s.psubStep = 2

/-- ABORT, where it is asked for and comes before the switch. -/
def abortAsked (b : Bool) (s : State) : State := if b = true ∧ PsubEarly s then s.psubAbandon 0 else s

/-- The grant that START names covers its plane. -/
def psubGranted (s : State) : Bool :=
  s.grantOk (s.rd F.XPT_PSUB_CTRL_GRANT 0) Gc.psub (s.rd F.XPT_PSUB_CTRL_LOGICAL 0)

/-- The journal of a substitution of the plane that START names by plane `sp`. -/
def psubJournal (sp : Nat) (s : State) : State :=
  let j := s.rd F.XPT_PSUB_CTRL_LOGICAL 0
  let planes := ((s.wr F.XPT_PSUB_JOURNAL_LOGICAL 0 j).wr F.XPT_PSUB_JOURNAL_OLD 0 (s.rd F.XPT_PLANE_MAP_PHYS j)).wr
    F.XPT_PSUB_JOURNAL_SPARE 0 sp
  (((planes.wr F.XPT_PSUB_JOURNAL_RASTERS_DONE 0 0).wr F.XPT_PSUB_JOURNAL_REASON 0 0).wr F.XPT_PSUB_JOURNAL_FRAMES_DONE 0 0).wr
    F.XPT_PSUB_JOURNAL_MISMATCH_CNT 0 0

section
variable {w : Nat} {s : State}

theorem psubCtrl_eq : s.psubCtrl w =
    if bit w 0 then (abortAsked (bit w 1) (psubFields w s)).psubStart else abortAsked (bit w 1) (psubFields w s) := by
  have habort : abortAsked (bit w 1) (psubFields w s) = if bit w 1 && decide (PsubEarly (psubFields w s)) then
      (psubFields w s).psubAbandon 0 else psubFields w s := by
    simp only [abortAsked, Bool.and_eq_true, decide_eq_true_eq]
  rw [habort]
  rfl

theorem psubCtrl_start (h : bit w 0 = true) : s.psubCtrl w = (abortAsked (bit w 1) (psubFields w s)).psubStart := by
  rw [psubCtrl_eq, if_pos h]

theorem psubCtrl_noStart (h : bit w 0 = false) : s.psubCtrl w = abortAsked (bit w 1) (psubFields w s) := by
  rw [psubCtrl_eq, if_neg (Bool.eq_false_iff.mp h)]

theorem abortAsked_true : abortAsked true s = if PsubEarly s then s.psubAbandon 0 else s := by
  simp only [abortAsked, true_and]

theorem psubStart_loads {sp : Nat} (h : s.sparePlane = some sp) (hg : psubGranted s = true) :
    s.psubStart = ((psubJournal sp s).wr F.XPT_PLANE_STATUS_STATE sp 2).psubTo 1 := by
  simp only [State.psubStart, h]
  exact if_pos hg

theorem psubStart_refused (h : s.sparePlane = none ∨ psubGranted s = false) :
    s.psubStart = s.event F.XPT_EVENT_PSUB_REFUSED 0 Irq.xpt := by
  cases hsp : s.sparePlane with
  | none => simp only [State.psubStart, hsp]
  | some sp =>
    have hg : psubGranted s = false := h.resolve_left (by simp [hsp])
    simp only [State.psubStart, hsp]
    exact if_neg (Bool.eq_false_iff.mp hg)

end

section
variable {w : Word} {s t : State}

/-- A write with START, by what START makes of the state; an ABORT of the same word goes before. -/
theorem psubStart_puts (h : (abortAsked (bit w.toNat 1) (psubFields (Nat.lor w.toNat 1) s)).psubStart = t) :
    Sets (.psubStart w) 0x40140 w 1 s t := by
  refine puts_of_eq (exec_psubStart w s) ?_
  rw [psubCtrl_start (bit_lor_one _), bit_lor_clear (by decide), h]

theorem psubAbort_alone (h : bit w.toNat 0 = false) : Sets (.psubAbort w) 0x40140 w 2 s
    (if PsubEarly (psubFields (Nat.lor w.toNat 2) s) then (psubFields (Nat.lor w.toNat 2) s).psubAbandon 0
      else psubFields (Nat.lor w.toNat 2) s) := by
  refine puts_of_eq (exec_psubAbort w s) ?_
  rw [psubCtrl_noStart ((bit_lor_clear (by decide) _).trans h), bit_lor_set (by decide), abortAsked_true]

theorem psubAbort_thenStart (h : bit w.toNat 0 = true) : Sets (.psubAbort w) 0x40140 w 2 s
    (if PsubEarly (psubFields (Nat.lor w.toNat 2) s) then (psubFields (Nat.lor w.toNat 2) s).psubAbandon 0
      else psubFields (Nat.lor w.toNat 2) s).psubStart := by
  refine puts_of_eq (exec_psubAbort w s) ?_
  rw [psubCtrl_start ((bit_lor_clear (by decide) _).trans h), bit_lor_set (by decide), abortAsked_true]

end

/-! ### The steps of a plane substitution (R140) -/

/-- The frame of raster 0. -/
abbrev frame0 (s : State) : Nat := (s.pos 0).frame

theorem exec_psubLoadDone (s : State) : exec .psubLoadDone s =
    .next (if s.psubStep = 1 ∧ s.psubFrame < frame0 s then (s.wr F.XPT_PLANE_STATUS_STATE s.psubSpare 3).psubTo 2 else s) := rfl

theorem exec_psubCompareDone (s : State) : exec .psubCompareDone s =
    .next (if s.psubStep = 2 ∧ s.psubFrame + 64 ≤ frame0 s ∧ s.atSwitch 0 then
      (((s.wr F.XPT_PSUB_JOURNAL_FRAMES_DONE 0 64).psubTo 3).wr64 F.XPT_PSUB_JOURNAL_SW_FRAME_LO F.XPT_PSUB_JOURNAL_SW_FRAME_HI 0
        (frame0 s)).psubMove 0 else s) := rfl

theorem exec_psubRasterMove (r : Fin 8) (s : State) : exec (.psubRasterMove r) s =
    .next (if s.psubStep = 3 ∧ s.atSwitch r ∧ !bit (s.rd F.XPT_PSUB_JOURNAL_RASTERS_DONE 0) r then s.psubMove r else s) := rfl

/-- The old plane retired, the spare in its place on the map, and the grant returned. -/
def psubRetired (s : State) : State :=
  let l := s.rd F.XPT_PSUB_JOURNAL_LOGICAL 0
  let swapped := (s.wr F.XPT_PLANE_STATUS_STATE (s.rd F.XPT_PSUB_JOURNAL_OLD 0) 4).wr F.XPT_PLANE_STATUS_STATE s.psubSpare 0
  (((swapped.wr F.XPT_PLANE_MAP_PHYS l s.psubSpare).wr F.WEAR_SPARES_PLANE 0 0).psubTo 5).returnGrant Gc.psub l

theorem exec_psubSwitchedDone (s : State) : exec .psubSwitchedDone s =
    .next (if s.psubStep = 4 ∧ s.psubFrame + 2 ≤ frame0 s then psubRetired s else s) := rfl

section
variable {r : Fin 8} {s : State}

theorem psubLoadDone_due (h : s.psubStep = 1 ∧ s.psubFrame < frame0 s) :
    exec .psubLoadDone s = .next ((s.wr F.XPT_PLANE_STATUS_STATE s.psubSpare 3).psubTo 2) := by
  rw [exec_psubLoadDone, if_pos h]

theorem psubLoadDone_notDue (h : ¬ (s.psubStep = 1 ∧ s.psubFrame < frame0 s)) : exec .psubLoadDone s = .next s := by
  rw [exec_psubLoadDone, if_neg h]

theorem psubCompareDone_due (h : s.psubStep = 2 ∧ s.psubFrame + 64 ≤ frame0 s ∧ s.atSwitch 0 = true) : exec .psubCompareDone s =
    .next ((((s.wr F.XPT_PSUB_JOURNAL_FRAMES_DONE 0 64).psubTo 3).wr64 F.XPT_PSUB_JOURNAL_SW_FRAME_LO
      F.XPT_PSUB_JOURNAL_SW_FRAME_HI 0 (frame0 s)).psubMove 0) := by
  rw [exec_psubCompareDone, if_pos h]

theorem psubCompareDone_notDue (h : ¬ (s.psubStep = 2 ∧ s.psubFrame + 64 ≤ frame0 s ∧ s.atSwitch 0 = true)) :
    exec .psubCompareDone s = .next s := by
  rw [exec_psubCompareDone, if_neg h]

/-- Raster `r`, which has not moved, stands on its switch line after the switch began. -/
def RasterMoves (r : Nat) (s : State) : Prop :=
  s.psubStep = 3 ∧ s.atSwitch r = true ∧ bit (s.rd F.XPT_PSUB_JOURNAL_RASTERS_DONE 0) r = false

theorem rasterMoves_iff {r : Nat} : (s.psubStep = 3 ∧ s.atSwitch r = true ∧
    (!bit (s.rd F.XPT_PSUB_JOURNAL_RASTERS_DONE 0) r) = true) ↔ RasterMoves r s := by
  rw [RasterMoves, Bool.not_eq_true']

theorem psubRasterMove_due (h : RasterMoves r s) : exec (.psubRasterMove r) s = .next (s.psubMove r) := by
  rw [exec_psubRasterMove, if_pos (rasterMoves_iff.mpr h)]

theorem psubRasterMove_notDue (h : ¬ RasterMoves r s) : exec (.psubRasterMove r) s = .next s := by
  rw [exec_psubRasterMove, if_neg fun hb => h (rasterMoves_iff.mp hb)]

theorem psubSwitchedDone_due (h : s.psubStep = 4 ∧ s.psubFrame + 2 ≤ frame0 s) :
    exec .psubSwitchedDone s = .next (psubRetired s) := by
  rw [exec_psubSwitchedDone, if_pos h]

theorem psubSwitchedDone_notDue (h : ¬ (s.psubStep = 4 ∧ s.psubFrame + 2 ≤ frame0 s)) : exec .psubSwitchedDone s = .next s := by
  rw [exec_psubSwitchedDone, if_neg h]

end

/-! ### Lines that a plane forwards (R122, R140) -/

/-- The line of destination `d` forwarded, its checksum judged by its plane. -/
def planeForwarded (d : Nat) (bad : Bool) (s : State) : State :=
  let t := if d < 6336 then s.forwardLine d bad else s
  if bad then t.planeErr (s.planeOf d) else t

/-- The same, with a difference from the comparing spare counted. -/
def planeCompared (d : Nat) (bad differ : Bool) (s : State) : State :=
  if differ then (planeForwarded d bad s).incSat F.XPT_PSUB_JOURNAL_MISMATCH_CNT 0 else planeForwarded d bad s

/-- The plane under substitution forwards destination `d`. -/
abbrev OnSubstituted (d : Nat) (s : State) : Prop := d % 8 = s.rd F.XPT_PSUB_JOURNAL_LOGICAL 0

theorem exec_planeLineForward (d : Fin 8192) (bad spareBad differ : Bool) (s : State) :
    exec (.planeLineForward d bad spareBad differ) s =
      .next (if decide (OnSubstituted d s) && s.psubStep = 2 then
        if spareBad then ((planeCompared d bad differ s).planeErr s.psubSpare).psubAbandon 1 else planeCompared d bad differ s
      else if decide (OnSubstituted d s) && s.psubStep = 4 && bad then (planeForwarded d bad s).psubAbandon 1
      else planeForwarded d bad s) := rfl

theorem compares_iff {d : Nat} {s : State} :
    (decide (OnSubstituted d s) && s.psubStep = 2) = true ↔ OnSubstituted d s ∧ s.psubStep = 2 := by
  simp only [Bool.and_eq_true, decide_eq_true_eq]

theorem switchedBad_iff {d : Nat} {bad : Bool} {s : State} :
    (decide (OnSubstituted d s) && s.psubStep = 4 && bad) = true ↔ OnSubstituted d s ∧ s.psubStep = 4 ∧ bad = true := by
  simp only [Bool.and_eq_true, decide_eq_true_eq, and_assoc]

section
variable {d : Fin 8192} {bad spareBad differ : Bool} {s : State}

section
variable (hm : OnSubstituted d s) (hs : s.psubStep = 2)
include hm hs

theorem planeLineForward_spareBad (h : spareBad = true) : exec (.planeLineForward d bad spareBad differ) s =
    .next (((planeCompared d bad differ s).planeErr s.psubSpare).psubAbandon 1) := by
  rw [exec_planeLineForward, if_pos (compares_iff.mpr ⟨hm, hs⟩), if_pos h]

theorem planeLineForward_compares (h : spareBad = false) : exec (.planeLineForward d bad spareBad differ) s =
    .next (planeCompared d bad differ s) := by
  rw [exec_planeLineForward, if_pos (compares_iff.mpr ⟨hm, hs⟩), if_neg (Bool.eq_false_iff.mp h)]

end

theorem planeLineForward_switchedBad (hm : OnSubstituted d s) (hs : s.psubStep = 4) (h : bad = true) :
    exec (.planeLineForward d bad spareBad differ) s = .next ((planeForwarded d bad s).psubAbandon 1) := by
  have hcompares : ¬ (OnSubstituted d s ∧ s.psubStep = 2) := by simp [hs]
  rw [exec_planeLineForward, if_neg (mt compares_iff.mp hcompares), if_pos (switchedBad_iff.mpr ⟨hm, hs, h⟩)]

theorem planeLineForward_alone (h : ¬ (OnSubstituted d s ∧ (s.psubStep = 2 ∨ (s.psubStep = 4 ∧ bad = true)))) :
    exec (.planeLineForward d bad spareBad differ) s = .next (planeForwarded d bad s) := by
  rw [and_or_left, not_or] at h
  obtain ⟨hcompares, hswitched⟩ := h
  rw [exec_planeLineForward, if_neg (mt compares_iff.mp hcompares), if_neg (mt switchedBad_iff.mp hswitched)]

end

/-! ### The statement -/

/-- Settles O26: each clause is one case of its command, the writes of XPT_PSUB_CTRL by the bits their commands set. -/
theorem probeAndPlaneCommands : Obligations.ProbeAndPlaneCommands := by
  unfold Obligations.ProbeAndPlaneCommands
  refine ⟨fun i s => ⟨probeFramePublish_notDue, probeFramePublish_noSignal, probeFramePublish_raises, probeFramePublish_quiet⟩,
    fun r d bad spareBad differ sp w s => ⟨?loads, ?refused, psubAbort_alone, psubAbort_thenStart, psubLoadDone_due,
      psubLoadDone_notDue, psubCompareDone_due, psubCompareDone_notDue, psubRasterMove_due, psubRasterMove_notDue,
      psubSwitchedDone_due, psubSwitchedDone_notDue, planeLineForward_spareBad, planeLineForward_compares,
      planeLineForward_switchedBad, planeLineForward_alone⟩⟩
  case loads => exact fun h hg => psubStart_puts (psubStart_loads h hg)
  case refused => exact fun h => psubStart_puts (psubStart_refused h)

end Sys2Proof.Proofs
end

section
/-! PROOFS. The cue engines' register fields (chapter 6): where they lie, what stands when one is written, and what the ends of an
instruction leave. -/
namespace Sys2Proof.Proofs
open Sys2Proof.Machine Sys2Proof.Laws

/-! ### Places -/

/-- A field that every engine has in its own 2,048 bits from 0x61000 on, once or more often (R498). -/
abbrev CueField (f : Fld) : Prop :=
  f.s1 = 2048 ∧ 3178496 ≤ f.base ∧ f.base + (f.n2 - 1) * f.s2 < 3180544 ∧ (f.n2 = 1 ∨ 0 < f.n2 ∧ 0 < f.s2)

/-- The place of copy `i` within its engine's bits. -/
def cuePlace (f : Fld) (i : Nat) : Nat := f.base + i % f.n2 * f.s2

/-- No copy of the one field lies where one of the other does in its engine's bits. -/
abbrev Apart (f g : Fld) : Prop := ∀ a, a < f.n2 → ∀ b, b < g.n2 → f.base + a * f.s2 ≠ g.base + b * g.s2

theorem cueField_copies_pos {f : Fld} (h : CueField f) : 0 < f.n2 := by
  obtain ⟨-, -, -, hone | ⟨hpos, -⟩⟩ := h
  · exact hone ▸ Nat.one_pos
  · exact hpos

theorem cuePlace_lt {f : Fld} (h : CueField f) (i : Nat) : cuePlace f i < 3180544 := by
  have hcopy : i % f.n2 ≤ f.n2 - 1 := Nat.le_sub_one_of_lt (Nat.mod_lt _ (cueField_copies_pos h))
  obtain ⟨-, -, hend, -⟩ := h
  exact (Nat.add_le_add_left (Nat.mul_le_mul_right _ hcopy) _).trans_lt hend

theorem cueField_key {f : Fld} (h : CueField f) (i : Nat) : f.key i = 2048 * (i / f.n2) + cuePlace f i := by
  obtain ⟨hs, -⟩ := h
  unfold Fld.key cuePlace
  rw [hs]
  omega

/-- A bit address tells the engine and the place within its bits. -/
theorem cueField_key_eq {f g : Fld} (hf : CueField f) (hg : CueField g) {i j : Nat} (h : f.key i = g.key j) :
    i / f.n2 = j / g.n2 ∧ cuePlace f i = cuePlace g j := by
  have hfplace := cuePlace_lt hf i
  have hgplace := cuePlace_lt hg j
  have hflow : 3178496 ≤ cuePlace f i := hf.2.1.trans (Nat.le_add_right _ _)
  have hglow : 3178496 ≤ cuePlace g j := hg.2.1.trans (Nat.le_add_right _ _)
  rw [cueField_key hf, cueField_key hg] at h
  omega

/-- The engines' fields end below 0x61500. -/
theorem cueField_key_range {f : Fld} (h : CueField f) {i : Nat} (hi : i / f.n2 < 5) : 3178496 ≤ f.key i ∧ f.key i < 3188736 := by
  have hplace := cuePlace_lt h i
  have hlow : 3178496 ≤ cuePlace f i := h.2.1.trans (Nat.le_add_right _ _)
  rw [cueField_key h]
  omega

theorem cueField_key_ne {f g : Fld} (hf : CueField f) (hg : CueField g) (h : Apart f g) (i j : Nat) : f.key i ≠ g.key j := fun hkey =>
  h _ (Nat.mod_lt _ (cueField_copies_pos hf)) _ (Nat.mod_lt _ (cueField_copies_pos hg)) (cueField_key_eq hf hg hkey).2

theorem cueField_key_inj {f : Fld} (h : CueField f) {i j : Nat} (hkey : f.key i = f.key j) : i = j := by
  obtain ⟨hdiv, hplace⟩ := cueField_key_eq h h hkey
  have hmod : i % f.n2 = j % f.n2 := by
    obtain ⟨-, -, -, hone | ⟨-, hpos⟩⟩ := h
    · rw [hone, Nat.mod_one, Nat.mod_one]
    · exact Nat.eq_of_mul_eq_mul_right hpos (Nat.add_left_cancel hplace)
  rw [← Nat.div_add_mod i f.n2, ← Nat.div_add_mod j f.n2, hdiv, hmod]

/-! ### What stands when a field is written -/

theorem rd_wr_apart {f g : Fld} (hf : CueField f) (hg : CueField g) (h : Apart g f) (s : State) (i j v : Nat) :
    (s.wr f i v).rd g j = s.rd g j :=
  rd_wr_ne s f g i j v (cueField_key_ne hg hf h j i)

/-- A write to one engine's field leaves the fields of the others. -/
theorem rd_wr_otherEng {f g : Fld} (hf : CueField f) (hg : CueField g) {i j : Nat} (h : j / g.n2 ≠ i / f.n2) (s : State) (v : Nat) :
    (s.wr f i v).rd g j = s.rd g j :=
  rd_wr_ne s f g i j v fun hkey => h (cueField_key_eq hg hf hkey).1

theorem key_zero (f : Fld) : f.key 0 = f.base := by simp [Fld.key]

/-- The field lies outside the engines' bits. -/
abbrev OffCue (f : Fld) : Prop := f.base < 3178496 ∨ 3188736 ≤ f.base

theorem rd_wr_offCue {f g : Fld} (hf : OffCue f) (hg : CueField g) {j : Nat} (hj : j / g.n2 < 5) (s : State) (v : Nat) :
    (s.wr f 0 v).rd g j = s.rd g j := by
  obtain ⟨hlow, hhigh⟩ := cueField_key_range hg hj
  refine rd_wr_ne s f g 0 j v ?_
  rw [key_zero]
  omega

end Sys2Proof.Proofs
end

section
/-! PROOFS. How a cue engine takes an instruction (chapter 7): the body that its word reaches, and what the ends of an instruction
leave (R162, R182). -/
namespace Sys2Proof.Proofs
open Sys2Proof.Machine Sys2Proof.Laws

/-! ### Taking an instruction (R163, R174, R177, R182) -/

section
variable {s : State} {n op : Nat}

theorem engRun_ready {hw : Option EngErr} (h : s.Ready n op) (hclean : Clean hw) (body : Ins → State → State) :
    s.engRun n op hw body = body (s.ins n) s := by
  obtain ⟨htakes, hop, hlegal, hext, hnext⟩ := h
  have hin : (!flowCode op && (s.ins n).nextBad) = false := by
    rcases hnext with hflow | hnext
    · simp [hflow]
    · simp [hnext]
  unfold State.engRun
  rw [show hw.bind EngErr.stop = none from hclean]
  simp [htakes, hop, hlegal, hext, hin]

/-- A command that is an instruction of opcode `op` does what its word does. -/
theorem exec_ready {c : Instr} {hw : Option EngErr} {body : Ins → State → State} {t : State}
    (hc : exec c s = ok (s.engRun n op hw body)) (h : s.Ready n op) (hclean : Clean hw) (ht : body (s.ins n) s = t) :
    exec c s = .next t := by
  rw [hc, engRun_ready h hclean, ht]
  rfl

/-- The next address of an instruction that goes on fits PC. -/
theorem nxt_lt_of_ready (h : s.Ready n op) (hflow : flowCode op = false) : (s.ins n).nxt < 2 ^ 17 := by
  obtain ⟨-, -, -, -, hflow' | hnext⟩ := h
  · simp [hflow] at hflow'
  · simp only [Ins.nextBad, Bool.or_eq_false_iff, decide_eq_false_iff_not, not_le] at hnext
    exact hnext.1

theorem legal_of_ready (h : s.Ready n op) : (s.ins n).legal op = true := h.2.2.1

end

/-! ### Frames -/

theorem onlyRegs_refl (keys : List Nat) (s : State) : OnlyRegs keys s s := ⟨fun _ _ _ => rfl, rfl⟩

theorem onlyRegs_wr {keys : List Nat} {s t : State} {f : Fld} {i : Nat} (h : OnlyRegs keys s t) (hkey : f.key i ∈ keys) (v : Nat) :
    OnlyRegs keys s (t.wr f i v) := by
  obtain ⟨hregs, hrest⟩ := h
  refine ⟨fun k d hk => ?_, hrest⟩
  exact (tget_tput_ne _ _ _ _ _ _ fun he : k = f.key i => hk (he ▸ hkey)).trans (hregs k d hk)

/-! ### The ends of instructions -/

theorem pc_go (s : State) (n : Nat) (i : Ins) : (s.go n i).pc n = i.nxt % 2 ^ 17 := rd_wr_same _ _ _ _

theorem g_setG_same (s : State) (n j v : Nat) : (s.setG n j v).g n j = v % 2 ^ 32 := rd_wr_same _ _ _ _

theorem g_setPc (s : State) (n v m j : Nat) : (s.setPc n v).g m j = s.g m j := rd_wr_apart (by decide) (by decide) (by decide) _ _ _ _

/-- An image's words hold 32 bits. -/
theorem ofWords_mod (a b c d : Nat) : TReg.ofWords (a % 2 ^ 32) (b % 2 ^ 32) (c % 2 ^ 32) (d % 2 ^ 32) = TReg.ofWords a b c d := by
  have hlow : d % 2 ^ 32 % 8 = d % 8 := by omega
  have hvalid : d % 2 ^ 32 / 2 ^ 3 % 2 = d / 2 ^ 3 % 2 := by omega
  have hline : c % 2 ^ 32 % 65536 = c % 65536 := by omega
  have hsample : c % 2 ^ 32 / 65536 % 65536 = c / 65536 % 65536 := by omega
  simp only [TReg.ofWords, bit, hlow, hvalid, hline, hsample, Nat.mod_mod]

/-- A time register holds the image written to it. -/
theorem k_setK_same (s : State) (n i : Nat) (r : TReg) : (s.setK n i r).k n i =
    TReg.ofWords (r.words.getD 0 0) (r.words.getD 1 0) (r.words.getD 2 0) (r.words.getD 3 0) := by
  unfold State.setK State.k
  simp (disch := decide) only [rd_wr_same, rd_wr_apart]
  exact ofWords_mod _ _ _ _

theorem k_setPc (s : State) (n v m j : Nat) : (s.setPc n v).k m j = s.k m j := by
  unfold State.setPc State.k
  simp (disch := decide) only [rd_wr_apart]

section
variable {c : Instr} {s : State} {n : Nat} (hnxt : (s.ins n).nxt < 2 ^ 17)
include hnxt

theorem givesReg_of {v : Nat} (hc : exec c s = .next (s.goG n (s.ins n) v)) : GivesReg c s n (v % 2 ^ 32) :=
  ⟨_, hc, (g_setPc _ _ _ _ _).trans (g_setG_same _ _ _ _), (pc_go _ _ _).trans (Nat.mod_eq_of_lt hnxt),
    onlyRegs_wr (onlyRegs_wr (onlyRegs_refl _ s) (by simp) _) (by simp) _⟩

theorem givesTime_of {r : TReg} (hc : exec c s = .next ((s.setK n (s.ins n).d r).go n (s.ins n))) : GivesTime c s n r := by
  refine ⟨_, hc, (pc_go _ _ _).trans (Nat.mod_eq_of_lt hnxt), (k_setPc _ _ _ _ _).trans (k_setK_same _ _ _ _), ?_⟩
  have hk0 := onlyRegs_refl [F.CUE_KREG_W0.key (n * 4 + (s.ins n).d), F.CUE_KREG_W1.key (n * 4 + (s.ins n).d),
    F.CUE_KREG_W2.key (n * 4 + (s.ins n).d), F.CUE_KREG_W3.key (n * 4 + (s.ins n).d), F.CUE_PC_PC.key n] s
  exact onlyRegs_wr (onlyRegs_wr (onlyRegs_wr (onlyRegs_wr (onlyRegs_wr hk0 (by simp) _) (by simp) _) (by simp) _) (by simp) _)
    (by simp) _

/-- RS takes a Refused code, REFUSED_ANY with it (R162, R179). -/
theorem refuses_of {code : Nat} (hcode : code < 256) (href : refusedCode code = true)
    (hc : exec c s = .next (s.goRs n (s.ins n) code)) : Refuses c s n code := by
  unfold State.goRs State.setRs at hc
  rw [if_pos href] at hc
  refine ⟨_, hc, ?_, ?_, (pc_go _ _ _).trans (Nat.mod_eq_of_lt hnxt),
    onlyRegs_wr (onlyRegs_wr (onlyRegs_wr (onlyRegs_refl _ s) (by simp) _) (by simp) _) (by simp) _⟩
  · unfold State.go State.setPc
    simp (disch := decide) only [rd_wr_same, rd_wr_apart]
    exact Nat.mod_eq_of_lt hcode
  · unfold State.go State.setPc
    simp (disch := decide) only [rd_wr_same, rd_wr_apart]
    rfl

end

/-! ### Checks (R180) -/

/-- A result that an instruction's checks give: OK or a Refused code of Table 7-3. -/
abbrev CheckCode (c : Nat) : Prop := c < 256 ∧ c ≠ Rc.late ∧ c ≠ Rc.timeout

theorem foldl_lowest_mem (l : List Nat) (a : Nat) :
    l.foldl (fun a c => if a = 0 ∨ c < a then c else a) a = a ∨ l.foldl (fun a c => if a = 0 ∨ c < a then c else a) a ∈ l := by
  induction l generalizing a with
  | nil => exact .inl rfl
  | cons c l ih =>
    rw [List.foldl_cons]
    rcases ih (if a = 0 ∨ c < a then c else a) with h | h
    · rw [h]
      split <;> simp
    · exact .inr (List.mem_cons_of_mem c h)

/-- Checks that can fail with check codes alone give one. -/
theorem firstFail_code {l : List (Bool × Nat)} (h : ∀ p ∈ l, CheckCode p.2) : CheckCode (firstFail l) := by
  rcases foldl_lowest_mem ((l.filter (·.1)).map (·.2)) 0 with hnone | hmem
  · rw [show firstFail l = 0 from hnone]
    decide
  · obtain ⟨p, hp, hcode⟩ := List.mem_map.mp hmem
    rw [show firstFail l = p.2 from hcode.symm]
    exact h p (List.mem_filter.mp hp).1

theorem refusedCode_of {c : Nat} (h : CheckCode c) (hc : c ≠ 0) : refusedCode c = true := by
  obtain ⟨-, hlate, htimeout⟩ := h
  simp [refusedCode, hc, hlate, htimeout]

/-- An instruction whose checks fail is refused with their code. -/
theorem refuses_of_checks {c : Instr} {s : State} {n code : Nat} (hnxt : (s.ins n).nxt < 2 ^ 17) (hcheck : CheckCode code)
    (hcode : code ≠ 0) (hc : exec c s = .next (s.goRs n (s.ins n) code)) : Refuses c s n code :=
  refuses_of hnxt hcheck.1 (refusedCode_of hcheck hcode) hc

/-! ### What stops an access (R147, R148) -/

section
variable {s : State} {n a : Nat} {x : Option Nat} {f : State → State}

theorem orFault_none (h : x = none) : s.orFault n a x f = f s := by
  rw [h]
  rfl

theorem orFault_some {c : Nat} (h : x = some c) : s.orFault n a x f = s.faultStop n c a := by
  rw [h]
  rfl

end

/-! ### Values from the mirror (R168) -/

section
variable {s : State} {n kind : Nat} {own : State → State} {mir : List Nat → State → State}

theorem takeVal_own (h : s.fromMirror = false) : s.takeVal n kind own mir = own s := if_neg (Bool.eq_false_iff.mp h)

theorem takeVal_waits (h : s.fromMirror = true) (hv : (s.eng n).vals = []) : s.takeVal n kind own mir = s := by
  simp [State.takeVal, h, hv]

theorem takeVal_takes {v : List Nat} {vs : List (List Nat)} (h : s.fromMirror = true) (hv : (s.eng n).vals = v :: vs)
    (hpc : v.getD 2 0 = s.pc n) (hkind : v.getD 3 0 = kind) : s.takeVal n kind own mir = mir v (s.dropVal n) := by
  simp only [State.takeVal, h, hv, hpc, hkind, and_self, if_true]

end

/-- A device that mirrors to no standby tells it nothing. -/
theorem mirrorVal_quiet {s : State} (h : s.mirroring = false) (n kind : Nat) (v : List Nat) : s.mirrorVal n kind v = s :=
  if_neg (Bool.eq_false_iff.mp h)

/-- Only an ACTIVE device mirrors, only a STANDBY follows. -/
theorem not_fromMirror_of_mirroring {s : State} (h : s.mirroring = true) : s.fromMirror = false := by
  have hmode : s.mode = Mode.active := by
    simp only [State.mirroring, Bool.and_eq_true, decide_eq_true_eq] at h
    exact h.1.1
  simp [State.fromMirror, hmode]

end Sys2Proof.Proofs
end

section
/-! PROOFS. Ednel's memory instructions (R147, R148, R190, R191): what stops an access, what LD, ST, LDX and STX do, and the statement
about them. -/
namespace Sys2Proof.Proofs
open Sys2Proof.Machine Sys2Proof.Laws

/-! ### What an access meets -/

section
variable {hw : Option EngErr} {a al : Nat}

theorem accessFault_align (h : a % al ≠ 0) (write : Bool) : accessFault hw a al write = some Fc.align := if_pos h

theorem accessFault_readOut (hal : a % al = 0) (h : ¬ (isData a = true ∨ isShared a = true ∨ isOwn a = true)) :
    accessFault hw a al false = some Fc.addr := by
  simp only [not_or, Bool.not_eq_true] at h
  obtain ⟨hdata, hshared, hown⟩ := h
  simp [accessFault, hal, hdata, hshared, hown]

theorem accessFault_writeOut (hal : a % al = 0) (h : ¬ (isData a = true ∨ isShared a = true)) :
    accessFault hw a al true = some Fc.addr := by
  simp only [not_or, Bool.not_eq_true] at h
  obtain ⟨hdata, hshared⟩ := h
  simp [accessFault, hal, hdata, hshared]

theorem accessFault_read (hal : a % al = 0) (h : isData a = true ∨ isShared a = true ∨ isOwn a = true) :
    accessFault hw a al false = memErr hw a := by
  rcases h with h | h | h <;> simp [accessFault, hal, h]

theorem accessFault_write (hal : a % al = 0) (h : isData a = true ∨ isShared a = true) : accessFault hw a al true = none := by
  rcases h with h | h <;> simp [accessFault, hal, h]

end

section
variable {s : State} {n off : Nat} {i : Ins} {f : State → State}

theorem matrixAccess_open (h : off % 4 = 0 ∧ protectedOff off = false ∧ bar0Mapped off = true) :
    s.matrixAccess n i off f = f s := by
  obtain ⟨hal, hprot, hmap⟩ := h
  simp [State.matrixAccess, hal, hprot, hmap]

theorem matrixAccess_align (hal : off % 4 ≠ 0) : s.matrixAccess n i off f = s.faultStop n Fc.align off := if_pos hal

theorem matrixAccess_protected (hal : off % 4 = 0) (hprot : protectedOff off = true) :
    s.matrixAccess n i off f = s.goRs n i Rc.protect := by
  simp [State.matrixAccess, hal, hprot]

theorem matrixAccess_unmapped (hal : off % 4 = 0) (hprot : protectedOff off = false) (hmap : bar0Mapped off = false) :
    s.matrixAccess n i off f = s.faultStop n Fc.matrix off := by
  simp [State.matrixAccess, hal, hprot, hmap]

end

/-! ### The instructions -/

section
variable (n : Fin 5) (hw : Option EngErr) (s : State)

theorem exec_ld : exec (.ld n hw) s = ok (s.engRun n 0x20 hw fun i s =>
    s.orFault n (s.localAddr n i) (accessFault hw (s.localAddr n i) 4 false) fun u => u.goG n i (u.localRead n (s.localAddr n i))) := rfl

theorem exec_st : exec (.st n hw) s = ok (s.engRun n 0x21 hw fun i s =>
    s.orFault n (s.localAddr n i) (accessFault hw (s.localAddr n i) 4 true)
      fun u => (u.localWrite n (s.localAddr n i) (u.g n i.d)).go n i) := rfl

/-- The image at the local address `a`. -/
def imageAt (n a : Nat) (s : State) : TReg :=
  TReg.ofWords (s.localRead n (a + 4 * 0)) (s.localRead n (a + 4 * 1)) (s.localRead n (a + 4 * 2)) (s.localRead n (a + 4 * 3))

theorem exec_ldTime : exec (.ldTime n hw) s = ok (s.engRun n 0x22 hw fun i s =>
    s.orFault n (s.localAddr n i) (accessFault hw (s.localAddr n i) 16 false)
      fun u => (u.setK n i.d (u.ofImage n (imageAt n (s.localAddr n i) u))).go n i) := rfl

/-- The four words of time register `k` stored from the local address `a` on. -/
def imagePut (n a k : Nat) (s : State) : State :=
  forEach (List.range 4) (fun j s' => s'.localWrite n (a + 4 * j) ((s.k n k).words.getD j 0)) s

theorem exec_stTime : exec (.stTime n hw) s = ok (s.engRun n 0x23 hw fun i s =>
    s.orFault n (s.localAddr n i) (accessFault hw (s.localAddr n i) 16 true)
      fun u => (imagePut n (s.localAddr n i) i.d u).go n i) := rfl

/-- What LDX does where it reads the register itself. -/
def ldxOwn (n : Nat) (i : Ins) (off : Nat) (s : State) : State :=
  let r := s.readReg (s.engMaster n) off true
  ((r.1.mirrorVal n Vk.ldx [r.2]).setG n i.d r.2).goRs n i Rc.ok

theorem exec_ldx : exec (.ldx n hw) s = ok (s.engRun n 0x24 hw fun i s =>
    s.matrixAccess n i (s.localAddr n i) fun u => u.takeVal n Vk.ldx (ldxOwn n i (s.localAddr n i))
      fun v u => (u.setG n i.d (v.getD 7 0)).goRs n i Rc.ok) := rfl

theorem exec_stx : exec (.stx n hw) s = ok (s.engRun n 0x25 hw fun i s =>
    s.matrixAccess n i (s.localAddr n i) fun u => (u.regWrite n (s.localAddr n i) (u.g n i.d)).goRs n i Rc.ok) := rfl

end

/-! ### The statement -/

/-- Settles O9: each clause is one outcome of the check that the instruction's address meets. -/
theorem memoryInstructions : Obligations.MemoryInstructions := by
  unfold Obligations.MemoryInstructions
  refine ⟨fun n hw s hclean => ⟨?ld, ?st, ?ldTime, ?stTime, ?ldAlign, ?stAlign, ?ldTimeAlign, ?stTimeAlign, ?ldAddr, ?stAddr,
    ?ldTimeAddr, ?stTimeAddr, ?ldErr, ?ldTimeErr⟩, fun n hw s hclean => ⟨?ldx, ?ldxTakes, ?ldxWaits, ?stx, ?ldxProtected,
    ?stxProtected, ?ldxAlign, ?stxAlign, ?ldxUnmapped, ?stxUnmapped⟩⟩
  case ld =>
    exact fun hr hal hin herr => givesReg_of (nxt_lt_of_ready hr rfl)
      (exec_ready (exec_ld n hw s) hr hclean (orFault_none ((accessFault_read hal hin).trans herr)))
  case st => exact fun hr hal hin => exec_ready (exec_st n hw s) hr hclean (orFault_none (accessFault_write hal hin))
  case ldTime =>
    exact fun hr hal hin herr => givesTime_of (nxt_lt_of_ready hr rfl)
      (exec_ready (exec_ldTime n hw s) hr hclean (orFault_none ((accessFault_read hal hin).trans herr)))
  case stTime => exact fun hr hal hin => exec_ready (exec_stTime n hw s) hr hclean (orFault_none (accessFault_write hal hin))
  case ldAlign => exact fun hr hal => exec_ready (exec_ld n hw s) hr hclean (orFault_some (accessFault_align hal _))
  case stAlign => exact fun hr hal => exec_ready (exec_st n hw s) hr hclean (orFault_some (accessFault_align hal _))
  case ldTimeAlign => exact fun hr hal => exec_ready (exec_ldTime n hw s) hr hclean (orFault_some (accessFault_align hal _))
  case stTimeAlign => exact fun hr hal => exec_ready (exec_stTime n hw s) hr hclean (orFault_some (accessFault_align hal _))
  case ldAddr => exact fun hr hal hout => exec_ready (exec_ld n hw s) hr hclean (orFault_some (accessFault_readOut hal hout))
  case stAddr => exact fun hr hal hout => exec_ready (exec_st n hw s) hr hclean (orFault_some (accessFault_writeOut hal hout))
  case ldTimeAddr => exact fun hr hal hout => exec_ready (exec_ldTime n hw s) hr hclean (orFault_some (accessFault_readOut hal hout))
  case stTimeAddr => exact fun hr hal hout => exec_ready (exec_stTime n hw s) hr hclean (orFault_some (accessFault_writeOut hal hout))
  case ldErr =>
    exact fun _ hr hal hin herr => exec_ready (exec_ld n hw s) hr hclean (orFault_some ((accessFault_read hal hin).trans herr))
  case ldTimeErr =>
    exact fun _ hr hal hin herr => exec_ready (exec_ldTime n hw s) hr hclean (orFault_some ((accessFault_read hal hin).trans herr))
  case ldx =>
    exact fun hr hopen hown => exec_ready (exec_ldx n hw s) hr hclean ((matrixAccess_open hopen).trans (takeVal_own hown))
  case ldxTakes =>
    exact fun v vs hr hopen hmir hv hpc hkind =>
      exec_ready (exec_ldx n hw s) hr hclean ((matrixAccess_open hopen).trans (takeVal_takes hmir hv hpc hkind))
  case ldxWaits =>
    exact fun hr hopen hmir hv => exec_ready (exec_ldx n hw s) hr hclean ((matrixAccess_open hopen).trans (takeVal_waits hmir hv))
  case stx => exact fun hr hopen => exec_ready (exec_stx n hw s) hr hclean (matrixAccess_open hopen)
  case ldxProtected =>
    exact fun hr hal hprot => refuses_of (nxt_lt_of_ready hr rfl) (by decide) (by decide)
      (exec_ready (exec_ldx n hw s) hr hclean (matrixAccess_protected hal hprot))
  case stxProtected =>
    exact fun hr hal hprot => refuses_of (nxt_lt_of_ready hr rfl) (by decide) (by decide)
      (exec_ready (exec_stx n hw s) hr hclean (matrixAccess_protected hal hprot))
  case ldxAlign => exact fun hr hal => exec_ready (exec_ldx n hw s) hr hclean (matrixAccess_align hal)
  case stxAlign => exact fun hr hal => exec_ready (exec_stx n hw s) hr hclean (matrixAccess_align hal)
  case ldxUnmapped => exact fun hr hal hprot hmap => exec_ready (exec_ldx n hw s) hr hclean (matrixAccess_unmapped hal hprot hmap)
  case stxUnmapped => exact fun hr hal hprot hmap => exec_ready (exec_stx n hw s) hr hclean (matrixAccess_unmapped hal hprot hmap)

end Sys2Proof.Proofs
end

section
/-! PROOFS. Ednel's positions and waits (R192-R195, R217, R218): TNOW and TADD, WAIT, WAITEV, FENCE and TSYNC, and the statement about
them. -/
namespace Sys2Proof.Proofs
open Sys2Proof.Machine Sys2Proof.Laws

/-! ### The instructions -/

section
variable (n : Fin 5) (hw : Option EngErr) (s : State)

/-- The position `t` written to a time register, told to the standby. -/
def positionTold (n : Nat) (i : Ins) (t : TReg) (s : State) : State := ((s.mirrorVal n Vk.tnow t.words).setK n i.d t).go n i

theorem exec_tnow : exec (.tnow n hw) s = ok (s.engRun n 0x30 hw fun i s =>
    s.takeVal n Vk.tnow (fun u => positionTold n i (u.nowReg (bits i.w 0 3)) u)
      fun v u => (u.setK n i.d (TReg.ofWords (v.getD 7 0) (v.getD 8 0) (v.getD 9 0) (v.getD 10 0))).go n i) := rfl

theorem exec_tadd : exec (.tadd n hw) s = ok (s.engRun n 0x31 hw fun i s =>
    (s.setK n i.d (s.tadd (s.k n i.a) (s.g n i.b) i.x)).go n i) := rfl

theorem exec_wait : exec (.wait n hw) s = ok (s.engRun n 0x32 hw fun i s =>
    if !s.kOk n i.d then s.goRs n i Rc.target else if bit i.w 0 then s.waitArm n i else s.waitRun n i) := rfl

/-- The code of WAITEV's checks. -/
def waitevCode (n : Nat) (i : Ins) (s : State) : Nat :=
  firstFail [(decide (i.x = 0 ∨ Nat.land i.x evReserved ≠ 0), Rc.arg), (s.tmoBad n i.tmo, Rc.target)]

theorem exec_waitev : exec (.waitev n hw) s = ok (s.engRun n 0x33 hw fun i s =>
    if waitevCode n i s ≠ 0 then s.goRs n i (waitevCode n i s) else s.waitevRun n i) := rfl

theorem exec_fence : exec (.fence n hw) s = ok (s.engRun n 0x81 hw fun i s =>
    if s.fromMirror then ((s.go n i).suspend n .fence).mirrorEnd n else (s.go n i).suspend n .fence) := rfl

/-- The code of TSYNC's checks. -/
def tsyncCode (n : Nat) (i : Ins) (s : State) : Nat :=
  firstFail [(!bit (bits i.w 8 5) n || bit (bits i.w 8 5) s.spareNum, Rc.arg), (!s.kOk n (bits i.w 13 2), Rc.target)]

/-- The engine in the barrier of a TSYNC. -/
def tsyncEntered (n : Nat) (i : Ins) (s : State) : State :=
  ((s.armCmp n (bits i.w 13 2) 3).go n i).suspend n (.tsync (bits i.w 0 8) (bits i.w 8 5) (bits i.w 13 2))

theorem exec_tsync : exec (.tsync n hw) s = ok (s.engRun n 0x82 hw fun i s =>
    if tsyncCode n i s ≠ 0 then s.goRs n i (tsyncCode n i s)
    else if s.fromMirror then (tsyncEntered n i s).mirrorEnd n else tsyncEntered n i s) := rfl

end

/-! ### Positions (R192, R193) -/

section
variable {s : State} {r : Nat}

theorem nowReg_enabled (h : s.enabled r = true) :
    s.nowReg r = ⟨r, { s.pos r with frame := (s.pos r).frame % 2 ^ 64 }, true⟩ := by
  simp [State.nowReg, h]

theorem nowReg_disabled (h : s.enabled r = false) : s.nowReg r = ⟨r, ⟨0, 0, 0⟩, true⟩ := by
  simp [State.nowReg, h]

theorem tadd_enabled {t : TReg} (h : s.enabled t.raster = true) (gf x : Nat) : s.tadd t gf x =
    ⟨t.raster, addPos t.pos (sx 32 gf) (sx 16 x) (sx 16 (x / 65536)) (s.rLines t.raster) (s.rSamples t.raster), true⟩ := if_pos h

theorem tadd_disabled {t : TReg} (h : s.enabled t.raster = false) (gf x : Nat) : s.tadd t gf x = t :=
  if_neg (Bool.eq_false_iff.mp h)

theorem tnow_own {n : Fin 5} {hw : Option EngErr} (hclean : Clean hw) (hr : s.Ready n 0x30) (hown : s.fromMirror = false) :
    exec (.tnow n hw) s = .next (positionTold n (s.ins n) (s.nowReg (bits (s.ins n).w 0 3)) s) :=
  exec_ready (exec_tnow n hw s) hr hclean (takeVal_own hown)

/-- On a device that neither mirrors nor follows TNOW writes its register alone. -/
theorem tnow_givesTime {n : Fin 5} {hw : Option EngErr} (hclean : Clean hw) (hr : s.Ready n 0x30) (hown : s.mode ≠ Mode.standby)
    (hquiet : s.mirroring = false) : GivesTime (.tnow n hw) s n (s.nowReg (bits (s.ins n).w 0 3)) := by
  refine givesTime_of (nxt_lt_of_ready hr rfl) ?_
  rw [tnow_own hclean hr (decide_eq_false hown), positionTold, mirrorVal_quiet hquiet]

end

/-! ### Waits (R159, R160, R166-R168) -/

section
variable {s : State} {n : Nat} {i : Ins}

theorem waitRun_waits (hown : s.fromMirror = false) (h : ((s.armCmp n i.d 1).setPc n i.nxt).cmpReached n i.d = false) :
    s.waitRun n i = ((s.armCmp n i.d 1).setPc n i.nxt).suspend n (.pos i.d) := by
  simp [State.waitRun, State.go, hown, h]

theorem waitRun_late (hown : s.fromMirror = false) (h : ((s.armCmp n i.d 1).setPc n i.nxt).cmpReached n i.d = true) :
    s.waitRun n i = ((s.armCmp n i.d 1).setPc n i.nxt).wakeMirror n Rc.late (some i.d) := by
  simp [State.waitRun, State.go, hown, h]

theorem waitRun_follows (hmir : s.fromMirror = true) :
    s.waitRun n i = (((s.armCmp n i.d 1).setPc n i.nxt).suspend n (.pos i.d)).mirrorEnd n := by
  simp [State.waitRun, State.go, hmir]

theorem waitArm_arms (h : (s.armCmp n i.d 2).cmpReached n i.d = false) : s.waitArm n i = (s.armCmp n i.d 2).goRs n i Rc.ok :=
  if_neg (Bool.eq_false_iff.mp h)

theorem waitArm_late (h : (s.armCmp n i.d 2).cmpReached n i.d = true) :
    s.waitArm n i = ((s.disarmCmp n i.d).engEvent n i.d).goRs n i Rc.late := if_pos h

/-- The state in which a WAITEV whose operands are good looks for pending events: its timeout armed, PC at the next instruction. -/
def waitevArmed (n : Nat) (i : Ins) (s : State) : State := (s.armTmo n i.tmo).setPc n i.nxt

/-- Where a WAITEV writes the bits it takes. -/
def waitevDst (i : Ins) : Option Nat := if bit i.w 0 then some i.d else none

theorem waitevRun_waits (hown : s.fromMirror = false) (h : ((waitevArmed n i s).takeEvents n i.x).2 = 0) :
    s.waitevRun n i = (waitevArmed n i s).suspend n (.event i.x (waitevDst i) i.tmo) := by
  unfold waitevArmed at *
  simp [State.waitevRun, State.go, hown, h, waitevDst]

theorem waitevRun_takes (hown : s.fromMirror = false) (h : ((waitevArmed n i s).takeEvents n i.x).2 ≠ 0) :
    s.waitevRun n i = ((((waitevArmed n i s).takeEvents n i.x).1.mirrorVal n Vk.waitev
      [((waitevArmed n i s).takeEvents n i.x).2]).setDst n (waitevDst i) ((waitevArmed n i s).takeEvents n i.x).2).wake n Rc.ok
        i.tmo := by
  unfold waitevArmed at *
  simp [State.waitevRun, State.go, hown, h, waitevDst]

theorem waitevRun_follows (hmir : s.fromMirror = true) :
    s.waitevRun n i = ((waitevArmed n i s).suspend n (.event i.x (waitevDst i) i.tmo)).mirrorEnd n := by
  simp [State.waitevRun, State.go, hmir, waitevDst, waitevArmed]

theorem waitevCode_good (h : i.x ≠ 0 ∧ Nat.land i.x evReserved = 0 ∧ s.tmoBad n i.tmo = false) : waitevCode n i s = 0 := by
  obtain ⟨hx, hreserved, htmo⟩ := h
  rw [waitevCode, decide_eq_false (not_or.mpr ⟨hx, not_not.mpr hreserved⟩), htmo]
  rfl

theorem waitevCode_arg (h : i.x = 0 ∨ Nat.land i.x evReserved ≠ 0) (htmo : s.tmoBad n i.tmo = false) : waitevCode n i s = Rc.arg := by
  rw [waitevCode, decide_eq_true h, htmo]
  rfl

/-- The lower of two codes of failed checks counts (R180). -/
theorem waitevCode_target (htmo : s.tmoBad n i.tmo = true) : waitevCode n i s = Rc.target := by
  rw [waitevCode, htmo]
  cases decide (i.x = 0 ∨ Nat.land i.x evReserved ≠ 0) <;> rfl

theorem tsyncCode_good (h : bit (bits i.w 8 5) n = true ∧ bit (bits i.w 8 5) s.spareNum = false)
    (hk : s.kOk n (bits i.w 13 2) = true) : tsyncCode n i s = 0 := by
  obtain ⟨hmember, hspare⟩ := h
  simp [tsyncCode, firstFail, hmember, hspare, hk]

theorem tsyncCode_arg (h : bit (bits i.w 8 5) n = false ∨ bit (bits i.w 8 5) s.spareNum = true)
    (hk : s.kOk n (bits i.w 13 2) = true) : tsyncCode n i s = Rc.arg := by
  rcases h with h | h <;> simp [tsyncCode, firstFail, h, hk]

theorem tsyncCode_target (hk : s.kOk n (bits i.w 13 2) = false) : tsyncCode n i s = Rc.target := by
  cases h : !bit (bits i.w 8 5) n || bit (bits i.w 8 5) s.spareNum <;> simp [tsyncCode, firstFail, h, hk]

end

section
variable {n : Fin 5} {hw : Option EngErr} {s : State} (hclean : Clean hw)
include hclean

/-- A WAIT on a time register that can be used (R145). -/
theorem wait_runs (hr : s.Ready n 0x32) (hk : s.kOk n (s.ins n).d = true) (hb : bit (s.ins n).w 0 = false) {t : State}
    (ht : s.waitRun n (s.ins n) = t) : exec (.wait n hw) s = .next t :=
  exec_ready (exec_wait n hw s) hr hclean (by rw [hk, hb]; exact ht)

theorem wait_arms (hr : s.Ready n 0x32) (hk : s.kOk n (s.ins n).d = true) (hb : bit (s.ins n).w 0 = true) {t : State}
    (ht : s.waitArm n (s.ins n) = t) : exec (.wait n hw) s = .next t :=
  exec_ready (exec_wait n hw s) hr hclean (by rw [hk, hb]; exact ht)

theorem wait_refuses (hr : s.Ready n 0x32) (hk : s.kOk n (s.ins n).d = false) : Refuses (.wait n hw) s n Rc.target :=
  refuses_of (nxt_lt_of_ready hr rfl) (by decide) (by decide) (exec_ready (exec_wait n hw s) hr hclean (by rw [hk]; rfl))

theorem waitev_runs (hr : s.Ready n 0x33) (h : waitevCode n (s.ins n) s = 0) {t : State} (ht : s.waitevRun n (s.ins n) = t) :
    exec (.waitev n hw) s = .next t :=
  exec_ready (exec_waitev n hw s) hr hclean ((if_neg (not_not.mpr h)).trans ht)

theorem waitev_refuses (hr : s.Ready n 0x33) {code : Nat} (h : waitevCode n (s.ins n) s = code) (hc : CheckCode code)
    (hne : code ≠ 0) : Refuses (.waitev n hw) s n code :=
  refuses_of_checks (nxt_lt_of_ready hr rfl) hc hne
    (exec_ready (exec_waitev n hw s) hr hclean (by rw [h]; exact if_pos hne))

theorem tsync_enters (hr : s.Ready n 0x82) (h : tsyncCode n (s.ins n) s = 0) {t : State}
    (ht : (if s.fromMirror then (tsyncEntered n (s.ins n) s).mirrorEnd n else tsyncEntered n (s.ins n) s) = t) :
    exec (.tsync n hw) s = .next t :=
  exec_ready (exec_tsync n hw s) hr hclean ((if_neg (not_not.mpr h)).trans ht)

theorem tsync_refuses (hr : s.Ready n 0x82) {code : Nat} (h : tsyncCode n (s.ins n) s = code) (hc : CheckCode code)
    (hne : code ≠ 0) : Refuses (.tsync n hw) s n code :=
  refuses_of_checks (nxt_lt_of_ready hr rfl) hc hne
    (exec_ready (exec_tsync n hw s) hr hclean (by rw [h]; exact if_pos hne))

end

/-! ### The statement -/

/-- Settles O11: each clause is one case of its instruction's checks and of the device's side of the pair. -/
theorem positionAndWaitInstructions : Obligations.PositionAndWaitInstructions := by
  unfold Obligations.PositionAndWaitInstructions
  refine ⟨fun n hw s hclean => ⟨?now, ?nowDisabled, tnow_own hclean, ?nowTakes, ?nowWaits, ?add, ?addDisabled⟩,
    fun n hw s hclean => ⟨?waits, ?late, ?waitFollows, ?arms, ?armsLate, wait_refuses hclean, ?events, ?takes, ?eventFollows,
      ?eventArg, ?eventTarget, ?fence, ?fenceFollows, ?sync, ?syncFollows, ?syncArg, ?syncTarget⟩⟩
  case now => exact fun hr hown hquiet hen => nowReg_enabled hen ▸ tnow_givesTime hclean hr hown hquiet
  case nowDisabled => exact fun hr hown hquiet hen => nowReg_disabled hen ▸ tnow_givesTime hclean hr hown hquiet
  case nowTakes =>
    exact fun v vs hr hmir hv hpc hkind => exec_ready (exec_tnow n hw s) hr hclean (takeVal_takes hmir hv hpc hkind)
  case nowWaits => exact fun hr hmir hv => exec_ready (exec_tnow n hw s) hr hclean (takeVal_waits hmir hv)
  case add =>
    exact fun hr hen => givesTime_of (nxt_lt_of_ready hr rfl)
      (exec_ready (exec_tadd n hw s) hr hclean (by rw [tadd_enabled hen]))
  case addDisabled =>
    exact fun hr hen => givesTime_of (nxt_lt_of_ready hr rfl)
      (exec_ready (exec_tadd n hw s) hr hclean (by rw [tadd_disabled hen]))
  case waits => exact fun hr hk hb hown h => wait_runs hclean hr hk hb (waitRun_waits hown h)
  case late => exact fun hr hk hb hown h => wait_runs hclean hr hk hb (waitRun_late hown h)
  case waitFollows => exact fun hr hk hb hmir => wait_runs hclean hr hk hb (waitRun_follows hmir)
  case arms => exact fun hr hk hb h => wait_arms hclean hr hk hb (waitArm_arms h)
  case armsLate => exact fun hr hk hb h => wait_arms hclean hr hk hb (waitArm_late h)
  case events => exact fun hr hgood hown h => waitev_runs hclean hr (waitevCode_good hgood) (waitevRun_waits hown h)
  case takes => exact fun hr hgood hown h => waitev_runs hclean hr (waitevCode_good hgood) (waitevRun_takes hown h)
  case eventFollows => exact fun hr hgood hmir => waitev_runs hclean hr (waitevCode_good hgood) (waitevRun_follows hmir)
  case eventArg => exact fun hr h htmo => waitev_refuses hclean hr (waitevCode_arg h htmo) (by decide) (by decide)
  case eventTarget => exact fun hr htmo => waitev_refuses hclean hr (waitevCode_target htmo) (by decide) (by decide)
  case fence => exact fun hr hown => exec_ready (exec_fence n hw s) hr hclean (if_neg (Bool.eq_false_iff.mp hown))
  case fenceFollows => exact fun hr hmir => exec_ready (exec_fence n hw s) hr hclean (if_pos hmir)
  case sync =>
    exact fun hr hgood hk hown => tsync_enters hclean hr (tsyncCode_good hgood hk) (if_neg (Bool.eq_false_iff.mp hown))
  case syncFollows => exact fun hr hgood hk hmir => tsync_enters hclean hr (tsyncCode_good hgood hk) (if_pos hmir)
  case syncArg => exact fun hr h hk => tsync_refuses hclean hr (tsyncCode_arg h hk) (by decide) (by decide)
  case syncTarget => exact fun hr hk => tsync_refuses hclean hr (tsyncCode_target hk) (by decide) (by decide)

end Sys2Proof.Proofs
end

section
/-! PROOFS. Ednel's staging instructions (R196-R198, R201-R203, R205): the codes of their checks, what each does, and the statement about
them. -/
namespace Sys2Proof.Proofs
open Sys2Proof.Machine Sys2Proof.Laws

/-! ### The codes of the checks (R180) -/

/-- Checks whose codes are these give one of them, or OK. -/
theorem firstFail_code_of {l : List (Bool × Nat)} {codes : List Nat} (hl : l.map (·.2) = codes) (hc : ∀ c ∈ codes, CheckCode c) :
    CheckCode (firstFail l) :=
  firstFail_code fun _ hp => hc _ (hl ▸ List.mem_map_of_mem hp)

section
variable (s : State) (n d x w : Nat)

theorem dstFails_codes : (s.dstFails d w).map (·.2) = [Rc.dstRange, Rc.alignment, Rc.width, Rc.deadSlot, Rc.locked] := rfl

theorem heldFails_codes : (s.heldFails d w n).map (·.2) = [Rc.conflict, Rc.pending] := rfl

theorem srcFails_codes (h : isGen x = false) : (s.srcFails x w d).map (·.2) =
    [Rc.srcRange, Rc.alignment, Rc.width, Rc.family, Rc.deadSlot] := by
  rw [State.srcFails, h]
  rfl

theorem srcFails_gen (h : isGen x = true) : s.srcFails x w d = [] := if_pos h

theorem stageCode_check (unroute : Bool) : CheckCode (s.stageCode n d x w unroute) := by
  have hsrc : ∀ c ∈ (s.srcFails x w d).map (·.2), CheckCode c := by
    cases h : isGen x
    · rw [srcFails_codes s d x w h]
      decide
    · rw [srcFails_gen s d x w h]
      exact fun _ hc => nomatch hc
  refine firstFail_code_of rfl fun c hc => ?_
  rw [List.map_append, List.map_append, dstFails_codes, heldFails_codes, List.mem_append] at hc
  rcases hc with hdst | hc
  · revert c
    decide
  · cases unroute
    · exact hsrc c hc
    · exact nomatch hc

theorem routeCode_check : CheckCode (s.routeCode n d x w) :=
  firstFail_code_of (codes := [s.stageCode n d x (attrWidth w) (attrUnroute w), Rc.arg]) rfl
    (List.forall_mem_cons.mpr ⟨stageCode_check s n d x _ _, by decide⟩)

theorem lockCode_check (lock : Bool) : CheckCode (s.lockCode d w lock) :=
  firstFail_code_of (codes := [Rc.dstRange, Rc.alignment, Rc.width, Rc.lockBusy]) rfl (by decide)

theorem aStageCode_check (gd gs ga : Nat) : CheckCode (s.aStageCode n gd gs ga) :=
  firstFail_code_of (codes := [Rc.srcRange, Rc.dstRange, Rc.conflict, Rc.pending, Rc.arg, Rc.audioRate]) rfl (by decide)

theorem checkedPair_refused {c : Nat} {t u : State} (h : (if c = 0 then (t, 0) else (u, c)).2 ≠ 0) :
    (if c = 0 then (t, 0) else (u, c)) = (u, c) := if_neg fun hc => h (by rw [if_pos hc])

/-- LSET that fails its checks stages nothing. -/
theorem lset_refused {g imm v : Nat} (h : (s.lset n g imm v).2 ≠ 0) : (s.lset n g imm v).1 = s ∧ CheckCode (s.lset n g imm v).2 := by
  have hpair := checkedPair_refused h
  exact ⟨congrArg Prod.fst hpair, congrArg Prod.snd hpair ▸
    firstFail_code_of (codes := [Rc.arg, Rc.conflict, Rc.pending]) rfl (by decide)⟩

end

/-! ### What stops the read of a list (R198) -/

theorem listFault_align {hw : Option EngErr} {a al len : Nat} (h : listFault hw a al len = none) : a % al = 0 := by
  by_contra hne
  simp [listFault, hne] at h

/-! ### The instructions -/

section
variable (n : Fin 5) (hw : Option EngErr) (s : State)

theorem exec_xstage : exec (.xstage n hw) s = ok (s.engRun n 0x40 hw fun i s =>
    (if s.routeCode n (s.g n i.d) (s.g n i.a) (s.g n i.b) = 0 then s.stageOne n (s.g n i.d) (s.g n i.a) (s.g n i.b) else s).goRs n i
      (s.routeCode n (s.g n i.d) (s.g n i.a) (s.g n i.b))) := rfl

/-- XSTAGEB of `k` records that can be read at `a`. -/
def listStaged (n : Nat) (i : Ins) (a k : Nat) (s : State) : State :=
  match s.listCode n (s.routeList n a k) with
  | some (j, c) => (s.setG n i.d j).goRs n i c
  | none => (((s.routeList n a k).foldl (fun s r => s.stageOne n (recDest r) (recSrc r) r.2) s).setG n i.d k).goRs n i Rc.ok

theorem exec_xstageb : exec (.xstageb n hw) s = ok (s.engRun n 0x41 hw fun i s =>
    if s.g n i.a % 8 ≠ 0 then s.faultStop n Fc.align (s.g n i.a)
    else if s.g n i.b = 0 ∨ 8192 < s.g n i.b then s.goRs n i Rc.arg
    else s.orFault n (s.g n i.a) (listFault hw (s.g n i.a) 8 (8 * s.g n i.b)) (listStaged n i (s.g n i.a) (s.g n i.b))) := rfl

/-- The code of XREAD's checks. -/
def xreadCode (imm d : Nat) : Nat :=
  firstFail [(decide (4 < imm ∨ 8191 < d), Rc.arg), (decide (imm = 4 ∧ 6335 < d), Rc.dstRange)]

/-- What XREAD does where it reads the tables itself. -/
def xreadOwn (n : Nat) (i : Ins) (d : Nat) (s : State) : State :=
  ((s.mirrorVal n Vk.xread [s.xreadWord d i.imm]).setG n i.d (s.xreadWord d i.imm)).goRs n i Rc.ok

theorem exec_xread : exec (.xread n hw) s = ok (s.engRun n 0x43 hw fun i s =>
    if xreadCode i.imm (s.g n i.a) ≠ 0 then s.goRs n i (xreadCode i.imm (s.g n i.a))
    else s.takeVal n Vk.xread (xreadOwn n i (s.g n i.a)) fun v u => (u.setG n i.d (v.getD 7 0)).goRs n i Rc.ok) := rfl

/-- The code of XLOCK's checks. -/
def xlockCode (n : Nat) (i : Ins) (s : State) : Nat := s.lockCode (s.g n i.a) (widthOf (bits i.w 0 2)) (bit i.w 2)

theorem exec_xlock : exec (.xlock n hw) s = ok (s.engRun n 0x44 hw fun i s =>
    (if xlockCode n i s = 0 then s.lockGroup (s.g n i.a) (widthOf (bits i.w 0 2)) (bit i.w 2) else s).goRs n i (xlockCode n i s)) := rfl

theorem exec_astage : exec (.astage n hw) s = ok (s.engRun n 0x50 hw fun i s =>
    (if s.aStageCode n (s.g n i.d) (s.g n i.a) (s.g n i.b) = 0 then s.aStage n (s.g n i.d) (s.g n i.a) (s.g n i.b) else s).goRs n i
      (s.aStageCode n (s.g n i.d) (s.g n i.a) (s.g n i.b))) := rfl

theorem exec_lset : exec (.lset n hw) s = ok (s.engRun n 0x52 hw fun i s =>
    (s.lset n (s.g n i.a) i.imm (s.g n i.d)).1.goRs n i (s.lset n (s.g n i.a) i.imm (s.g n i.d)).2) := rfl

end

/-! ### Staged, or refused (R162) -/

section
variable {c : Instr} {n op : Nat} {hw : Option EngErr} {s : State} {code : Ins → State → Nat} {does : Ins → State → State}
  (hc : exec c s = ok (s.engRun n op hw fun i s => (if code i s = 0 then does i s else s).goRs n i (code i s)))
include hc

/-- An instruction whose checks hold takes its effect with RS OK. -/
theorem checked_does (hclean : Clean hw) (hr : s.Ready n op) (h : code (s.ins n) s = 0) :
    exec c s = .next ((does (s.ins n) s).goRs n (s.ins n) Rc.ok) :=
  exec_ready hc hr hclean (by rw [if_pos h, h])

/-- One whose checks fail is refused with their code. -/
theorem checked_refuses (hclean : Clean hw) (hr : s.Ready n op) (hflow : flowCode op = false) (hcheck : CheckCode (code (s.ins n) s))
    (h : code (s.ins n) s ≠ 0) : Refuses c s n (code (s.ins n) s) :=
  refuses_of_checks (nxt_lt_of_ready hr hflow) hcheck h (exec_ready hc hr hclean (by rw [if_neg h]))

end

section
variable {n : Fin 5} {hw : Option EngErr} {s : State} (hclean : Clean hw)
include hclean

theorem lset_does (hr : s.Ready n 0x52) (h : (s.lset n (s.g n (s.ins n).a) (s.ins n).imm (s.g n (s.ins n).d)).2 = 0) :
    exec (.lset n hw) s =
      .next ((s.lset n (s.g n (s.ins n).a) (s.ins n).imm (s.g n (s.ins n).d)).1.goRs n (s.ins n) Rc.ok) :=
  exec_ready (exec_lset n hw s) hr hclean (by rw [h])

theorem lset_refuses (hr : s.Ready n 0x52) (h : (s.lset n (s.g n (s.ins n).a) (s.ins n).imm (s.g n (s.ins n).d)).2 ≠ 0) :
    Refuses (.lset n hw) s n (s.lset n (s.g n (s.ins n).a) (s.ins n).imm (s.g n (s.ins n).d)).2 := by
  obtain ⟨hstands, hcheck⟩ := lset_refused s n h
  exact refuses_of_checks (nxt_lt_of_ready hr rfl) hcheck h (exec_ready (exec_lset n hw s) hr hclean (by rw [hstands]))

end

/-! ### Lists (R198) -/

section
variable {n : Fin 5} {hw : Option EngErr} {s : State} (hclean : Clean hw) (hr : s.Ready n 0x41)
include hclean hr

theorem xstageb_misaligned (hal : s.g n (s.ins n).a % 8 ≠ 0) :
    exec (.xstageb n hw) s = .next (s.faultStop n Fc.align (s.g n (s.ins n).a)) :=
  exec_ready (exec_xstageb n hw s) hr hclean (if_pos hal)

theorem xstageb_badCount (hal : s.g n (s.ins n).a % 8 = 0) (h : s.g n (s.ins n).b = 0 ∨ 8192 < s.g n (s.ins n).b) :
    Refuses (.xstageb n hw) s n Rc.arg :=
  refuses_of (nxt_lt_of_ready hr rfl) (by decide) (by decide)
    (exec_ready (exec_xstageb n hw s) hr hclean ((if_neg (not_not.mpr hal)).trans (if_pos h)))

/-- A list of a legal length at an aligned address goes on to its read. -/
theorem xstageb_reads (hal : s.g n (s.ins n).a % 8 = 0) (hlow : 1 ≤ s.g n (s.ins n).b) (hhigh : s.g n (s.ins n).b ≤ 8192) {t : State}
    (ht : s.orFault n (s.g n (s.ins n).a) (listFault hw (s.g n (s.ins n).a) 8 (8 * s.g n (s.ins n).b))
      (listStaged n (s.ins n) (s.g n (s.ins n).a) (s.g n (s.ins n).b)) = t) : exec (.xstageb n hw) s = .next t := by
  have hcount : ¬ (s.g n (s.ins n).b = 0 ∨ 8192 < s.g n (s.ins n).b) := by omega
  exact exec_ready (exec_xstageb n hw s) hr hclean ((if_neg (not_not.mpr hal)).trans ((if_neg hcount).trans ht))

end

section
variable {n a k : Nat} {i : Ins} {s : State}

theorem listStaged_all (h : s.listCode n (s.routeList n a k) = none) : listStaged n i a k s =
    (((s.routeList n a k).foldl (fun s r => s.stageOne n (recDest r) (recSrc r) r.2) s).setG n i.d k).goRs n i Rc.ok := by
  rw [listStaged, h]

theorem listStaged_fails {j c : Nat} (h : s.listCode n (s.routeList n a k) = some (j, c)) :
    listStaged n i a k s = (s.setG n i.d j).goRs n i c := by
  rw [listStaged, h]

end

/-! ### Reading an entry (R201) -/

section
variable {imm d : Nat}

theorem xreadCode_ok (h : imm ≤ 3 ∧ d ≤ 8191 ∨ imm = 4 ∧ d ≤ 6335) : xreadCode imm d = 0 := by
  rw [xreadCode, decide_eq_false (by omega), decide_eq_false (by omega)]
  rfl

theorem xreadCode_arg (h : 4 < imm ∨ imm ≤ 3 ∧ 8191 < d) : xreadCode imm d = Rc.arg := by
  rw [xreadCode, decide_eq_true (by omega), decide_eq_false (by omega)]
  rfl

theorem xreadCode_dstRange (himm : imm = 4) (hd : 6335 < d) : xreadCode imm d = Rc.dstRange := by
  rw [xreadCode, decide_eq_true (p := imm = 4 ∧ 6335 < d) ⟨himm, hd⟩]
  cases decide (4 < imm ∨ 8191 < d) <;> rfl

end

section
variable {n : Fin 5} {hw : Option EngErr} {s : State} (hclean : Clean hw) (hr : s.Ready n 0x43)
include hclean hr

theorem xread_reads (h : xreadCode (s.ins n).imm (s.g n (s.ins n).a) = 0) {t : State}
    (ht : s.takeVal n Vk.xread (xreadOwn n (s.ins n) (s.g n (s.ins n).a))
      (fun v u => (u.setG n (s.ins n).d (v.getD 7 0)).goRs n (s.ins n) Rc.ok) = t) : exec (.xread n hw) s = .next t :=
  exec_ready (exec_xread n hw s) hr hclean ((if_neg (not_not.mpr h)).trans ht)

theorem xread_refuses {code : Nat} (h : xreadCode (s.ins n).imm (s.g n (s.ins n).a) = code) (hcheck : CheckCode code)
    (hne : code ≠ 0) : Refuses (.xread n hw) s n code :=
  refuses_of_checks (nxt_lt_of_ready hr rfl) hcheck hne (exec_ready (exec_xread n hw s) hr hclean (by rw [h]; exact if_pos hne))

end

/-! ### The statement -/

/-- Settles O12: each clause is one outcome of its instruction's checks; the codes that refuse are those that the checks list. -/
theorem stagingInstructions : Obligations.StagingInstructions := by
  unfold Obligations.StagingInstructions
  refine ⟨fun n hw s hclean => ⟨checked_does (exec_xstage n hw s) hclean, ?list, ?read, ?readStatus, ?readTakes, ?readWaits,
    checked_does (exec_xlock n hw s) hclean, checked_does (exec_astage n hw s) hclean, lset_does hclean⟩,
    fun n hw s hclean => ⟨?stageRefused, xstageb_badCount hclean, ?listRefused, xstageb_misaligned hclean, ?listStops, ?readSel,
      ?readRange, ?readDest, ?lockRefused, ?aStageRefused, lset_refuses hclean⟩⟩
  case list =>
    exact fun hr hlow hhigh hread hall =>
      xstageb_reads hclean hr (listFault_align hread) hlow hhigh ((orFault_none hread).trans (listStaged_all hall))
  case read =>
    exact fun hr himm hd hown => xread_reads hclean hr (xreadCode_ok (.inl ⟨himm, hd⟩)) (takeVal_own hown)
  case readStatus =>
    intro hr himm hd hown
    rw [← himm]
    exact xread_reads hclean hr (xreadCode_ok (.inr ⟨himm, hd⟩)) (takeVal_own hown)
  case readTakes =>
    exact fun v vs hr hsel hmir hv hpc hkind => xread_reads hclean hr (xreadCode_ok hsel) (takeVal_takes hmir hv hpc hkind)
  case readWaits => exact fun hr hsel hmir hv => xread_reads hclean hr (xreadCode_ok hsel) (takeVal_waits hmir hv)
  case stageRefused => exact fun hr => checked_refuses (exec_xstage n hw s) hclean hr rfl (routeCode_check _ _ _ _ _)
  case listRefused =>
    exact fun j c hr hlow hhigh hread hfails =>
      xstageb_reads hclean hr (listFault_align hread) hlow hhigh ((orFault_none hread).trans (listStaged_fails hfails))
  case listStops => exact fun c hr hal hlow hhigh hstop => xstageb_reads hclean hr hal hlow hhigh (orFault_some hstop)
  case readSel => exact fun hr himm => xread_refuses hclean hr (xreadCode_arg (.inl himm)) (by decide) (by decide)
  case readRange => exact fun hr himm hd => xread_refuses hclean hr (xreadCode_arg (.inr ⟨himm, hd⟩)) (by decide) (by decide)
  case readDest => exact fun hr himm hd => xread_refuses hclean hr (xreadCode_dstRange himm hd) (by decide) (by decide)
  case lockRefused => exact fun hr => checked_refuses (exec_xlock n hw s) hclean hr rfl (lockCode_check _ _ _ _)
  case aStageRefused => exact fun hr => checked_refuses (exec_astage n hw s) hclean hr rfl (aStageCode_check _ _ _ _ _)

end Sys2Proof.Proofs
end

section
/-! PROOFS. Commits by an engine (R169, R199, R204, R207): what XCOMMIT, ACOMMIT and HCOMMIT do alone, on a device that mirrors and on a
standby, and the statement about them. -/
namespace Sys2Proof.Proofs
open Sys2Proof.Machine Sys2Proof.Laws

/-! ### The instructions -/

section
variable (n : Fin 5) (hw : Option EngErr) (s : State)

theorem exec_xcommit : exec (.xcommit n hw) s = ok (s.engRun n 0x42 hw fun i s => s.commitRun n i) := rfl

theorem exec_acommit : exec (.acommit n hw) s = ok (s.engRun n 0x51 hw fun i s => s.commitRun n i) := rfl

theorem exec_hcommit : exec (.hcommit n hw) s = ok (s.engRun n 0x53 hw fun i s => s.commitRun n i) := rfl

end

/-! ### What a commit instruction does (R169) -/

/-- Engine `n` in no wait. -/
def unwaiting (n : Nat) (s : State) : State := s.setEng n { s.eng n with wait := .none }

/-- Engine `n` stands at a commit that waits for its acknowledgement, with the code of its checks and what gd takes on a refusal. -/
def commitHeld (n : Nat) (c : Nat × Option Nat) (s : State) : State :=
  s.setEng n { s.eng n with wait := .commit s.clk c.1 c.2 }

/-- What a commit that its checks `tryC` accept (`doC`: the state, gd and kt) or refuse does, by the device's side of the pair. -/
def CommitDoes (c : Instr) (n : Nat) (s : State) (tryC : Nat × Option Nat) (doC : State × Nat × TReg) : Prop :=
  let i := s.ins n
  (s.fromMirror = false → s.mirroring = false → tryC.1 = 0 →
    exec c s = .next (((doC.1.setG n i.d doC.2.1).setK n i.a doC.2.2).goRs n i Rc.ok)) ∧
  (s.fromMirror = false → s.mirroring = false → tryC.1 ≠ 0 →
    exec c s = .next (((unwaiting n s).commitRefuse n i tryC.1 tryC.2).goRs n i tryC.1)) ∧
  (s.mirroring = true → exec c s = .next (commitHeld n tryC s)) ∧
  (s.fromMirror = true → exec c s =
    .next ((if s.twin.alone then commitHeld n tryC s else (commitHeld n tryC s).send Mt.cack [n, i.pc, tryC.1]).mirrorEnd n))

section
variable {s : State} {n : Nat}

theorem commitEnd_accepts {code rs : Nat} {detail : Option Nat} (h : code = 0) : s.commitEnd n code detail rs =
    (((((unwaiting n s).commitDo n (s.ins n)).1.setG n (s.ins n).d ((unwaiting n s).commitDo n (s.ins n)).2.1).setK n (s.ins n).a
      ((unwaiting n s).commitDo n (s.ins n)).2.2)).goRs n (s.ins n) rs := by
  rw [State.commitEnd, if_pos h]
  rfl

theorem commitEnd_refuses {code rs : Nat} {detail : Option Nat} (h : code ≠ 0) : s.commitEnd n code detail rs =
    ((unwaiting n s).commitRefuse n (s.ins n) code detail).goRs n (s.ins n) rs := by
  rw [State.commitEnd, if_neg h]
  rfl

variable {i : Ins}

theorem commitRun_follows (hmir : s.fromMirror = true) : s.commitRun n i = (if s.twin.alone then commitHeld n (s.commitTry n i) s
    else (commitHeld n (s.commitTry n i) s).send Mt.cack [n, i.pc, (s.commitTry n i).1]).mirrorEnd n := if_pos hmir

theorem commitRun_holds (h : s.mirroring = true) : s.commitRun n i = commitHeld n (s.commitTry n i) s :=
  (if_neg (Bool.eq_false_iff.mp (not_fromMirror_of_mirroring h))).trans (if_pos h)

theorem commitRun_ends (hown : s.fromMirror = false) (h : s.mirroring = false) :
    s.commitRun n i = s.commitEnd n (s.commitTry n i).1 (s.commitTry n i).2 (s.commitTry n i).1 :=
  (if_neg (Bool.eq_false_iff.mp hown)).trans (if_neg (Bool.eq_false_iff.mp h))

/-- A commit instruction at PC, by the device's side of the pair. -/
theorem commit_does {c : Instr} {op : Nat} {hw : Option EngErr} (hc : exec c s = ok (s.engRun n op hw fun i s => s.commitRun n i))
    (hclean : Clean hw) (hr : s.Ready n op) :
    CommitDoes c n s (s.commitTry n (s.ins n)) ((unwaiting n s).commitDo n (s.ins n)) := by
  refine ⟨fun hown hquiet hok => ?_, fun hown hquiet hbad => ?_, fun hm => ?_, fun hmir => ?_⟩
  · refine exec_ready hc hr hclean ((commitRun_ends hown hquiet).trans ((commitEnd_accepts hok).trans ?_))
    rw [hok]
  · exact exec_ready hc hr hclean ((commitRun_ends hown hquiet).trans (commitEnd_refuses hbad))
  · exact exec_ready hc hr hclean (commitRun_holds hm)
  · exact exec_ready hc hr hclean (commitRun_follows hmir)

end

/-! ### Which commit stands at PC -/

section
variable {s : State} {n : Nat} {i : Ins}

theorem commitTry_x (h : i.op = 0x42) : s.commitTry n i = s.xcommitTry n i := if_pos h

theorem commitDo_x (h : i.op = 0x42) : s.commitDo n i = s.xcommitDo n i := if_pos h

theorem commitTry_a (h : i.op = 0x51) : s.commitTry n i = s.acommitTry n i := by simp [State.commitTry, h]

theorem commitDo_a (h : i.op = 0x51) : s.commitDo n i = s.acommitDo n i := by simp [State.commitDo, h]

theorem commitTry_h (h : i.op = 0x53) : s.commitTry n i = s.hcommitTry n i := by simp [State.commitTry, h]

theorem commitDo_h (h : i.op = 0x53) : s.commitDo n i = s.hcommitDo n i := by simp [State.commitDo, h]

theorem op_of_ready {op : Nat} (h : s.Ready n op) : (s.ins n).op = op := h.2.1

end

/-! ### The statement -/

/-- Settles O13: the three commits are one instruction with the checks and the effect of the opcode at PC. -/
theorem commitsAccepted : Obligations.CommitsAccepted := by
  unfold Obligations.CommitsAccepted
  refine fun n hw s hclean => ⟨fun hr => ?_, fun hr => ?_, fun hr => ?_⟩
  · have hdoes := commit_does (exec_xcommit n hw s) hclean hr
    rwa [commitTry_x (op_of_ready hr), commitDo_x (op_of_ready hr)] at hdoes
  · have hdoes := commit_does (exec_acommit n hw s) hclean hr
    rwa [commitTry_a (op_of_ready hr), commitDo_a (op_of_ready hr)] at hdoes
  · have hdoes := commit_does (exec_hcommit n hw s) hclean hr
    rwa [commitTry_h (op_of_ready hr), commitDo_h (op_of_ready hr)] at hdoes

end Sys2Proof.Proofs
end

section
/-! PROOFS. Ednel's frame store and admission instructions (R209-R215, R420): what each does alone and on a standby, the buffer that
BUFFREE gives up, and the statement about them. -/
namespace Sys2Proof.Proofs
open Sys2Proof.Machine Sys2Proof.Laws

/-! ### The instructions -/

section
variable (n : Fin 5) (hw : Option EngErr) (s : State)

/-- The allocation that BUFALLOC asks for at `a`, its outcome told to the standby. -/
def allocOwn (n : Nat) (i : Ins) (a : Nat) (s : State) : State :=
  let r := s.bufRequest n a none
  let told := r.1.mirrorVal n Vk.bufalloc [r.2.1, r.2.2]
  (if r.2.1 = 0 then told.setG n i.d r.2.2 else told).goRs n i r.2.1

theorem exec_bufalloc : exec (.bufalloc n hw) s = ok (s.engRun n 0x60 hw fun i s =>
    s.orFault n (s.g n i.a) (listFault hw (s.g n i.a) 16 16) fun u => u.takeVal n Vk.bufalloc (allocOwn n i (s.g n i.a))
      fun v u => u.mirrorAlloc n i (s.g n i.a) (v.getD 7 0) (v.getD 8 0) (v.getD 0 0)) := rfl

theorem exec_buffree : exec (.buffree n hw) s = ok (s.engRun n 0x61 hw fun i s =>
    (s.bufFree n (s.g n i.a)).1.goRs n i (s.bufFree n (s.g n i.a)).2) := rfl

theorem exec_recstart : exec (.recstart n hw) s = ok (s.engRun n 0x62 hw fun i s => s.asActive n fun u =>
    (u.recStart n (u.g n i.a) (u.g n i.b)).1.goRs n i (u.recStart n (u.g n i.a) (u.g n i.b)).2) := rfl

theorem exec_recstop : exec (.recstop n hw) s = ok (s.engRun n 0x63 hw fun i s => s.asActive n fun u =>
    (u.recStop (u.g n i.a)).1.goRs n i (u.recStop (u.g n i.a)).2) := rfl

theorem exec_play : exec (.play n hw) s = ok (s.engRun n 0x64 hw fun i s => s.asActive n fun u =>
    (u.play n (u.g n i.d) (u.g n i.a) (u.g n i.b)).1.goRs n i (u.play n (u.g n i.d) (u.g n i.a) (u.g n i.b)).2) := rfl

theorem exec_ask : exec (.ask n hw) s = ok (s.engRun n 0x70 hw fun i s =>
    s.orFault n (s.g n i.a) (listFault hw (s.g n i.a) 8 8)
      fun u => u.askRun n i (u.localRead n (s.g n i.a)) (u.localRead n (s.g n i.a + 4))) := rfl

/-- The token that GIVE names. -/
def givenToken (n : Nat) (i : Ins) (s : State) : Nat := s.g n i.a % 65536

theorem exec_give : exec (.give n hw) s = ok (s.engRun n 0x71 hw fun i s =>
    (if s.giveVerdict n (givenToken n i s) false = Rc.ok then s.returnEntry (givenToken n i s % 4096) else s).goRs n i
      (s.giveVerdict n (givenToken n i s) false)) := rfl

end

/-! ### At the active engine's instant (R220) -/

section
variable {s : State} {n : Nat} {f : State → State}

theorem asActive_own (h : s.fromMirror = false) : s.asActive n f = f s := if_neg (Bool.eq_false_iff.mp h)

theorem asActive_follows (h : s.fromMirror = true) : s.asActive n f = s.atBack (s.eng n).lag f := if_pos h

end

/-! ### Allocation (R210) -/

section
variable {s : State} {n a : Nat} {i : Ins}

theorem allocOwn_takes (h : (s.bufRequest n a none).2.1 = 0) : allocOwn n i a s =
    (((s.bufRequest n a none).1.mirrorVal n Vk.bufalloc [0, (s.bufRequest n a none).2.2]).setG n i.d
      (s.bufRequest n a none).2.2).goRs n i Rc.ok := by
  simp [allocOwn, h]

theorem allocOwn_refused (h : (s.bufRequest n a none).2.1 ≠ 0) : allocOwn n i a s =
    ((s.bufRequest n a none).1.mirrorVal n Vk.bufalloc [(s.bufRequest n a none).2.1, (s.bufRequest n a none).2.2]).goRs n i
      (s.bufRequest n a none).2.1 := by
  simp [allocOwn, h]

end

/-! ### The buffer given up (R211) -/

/-- The frame store beside its registers, and the engine memories. -/
def storeView (s : State) : Sable × Tab Nat × Tab Nat × Tab Nat := (s.sable, s.pmem, s.dmem, s.smem)

theorem sable_of_storeView {s t : State} (h : storeView t = storeView s) : t.sable = s.sable := congrArg Prod.fst h

theorem sameMem_of_storeView {s t : State} (h : storeView t = storeView s) : SameMem s t :=
  ⟨congrArg (fun v => v.2.1) h, congrArg (fun v => v.2.2.1) h, congrArg (fun v => v.2.2.2) h⟩

theorem storeView_wr (s : State) (f : Fld) (i v : Nat) : storeView (s.wr f i v) = storeView s := Prod.ext (wr_sable s f i v) rfl

theorem storeView_event (s : State) (f : Fld) (i src : Nat) : storeView (s.event f i src) = storeView s := by
  simp only [storeView, State.event, raise_sable, raise_pmem, raise_dmem, raise_smem, wr_sable, wr_pmem, wr_dmem, wr_smem]

theorem storeView_loadShow (s : State) : storeView s.loadShow = storeView s := by
  unfold State.loadShow
  simp only [apply_ite storeView, storeView_event, storeView_wr, ite_self]

/-- Showing the store's state in its registers changes nothing of it. -/
theorem storeView_storeShow (s : State) : storeView s.storeShow = storeView s := by
  have hports := forEach_keeps storeView (List.range 4) (fun c s =>
    ((s.wr F.CXLP_FREE_PAGES c (s.cxl c).free).wr F.CXLP_SPARE_PAGES c (s.cxl c).reserve).wr F.CXLP_MARKED_REGIONS c
      (s.cxl c).marked.length) (fun _ _ => rfl) s
  unfold State.storeShow State.admShow
  simp only [storeView_wr, storeView_loadShow]
  exact hports

/-- The descriptor of a buffer that engine `n` frees: its generation advanced, waiting for its release. -/
def freedDesc (n i : Nat) (s : State) : Desc :=
  { s.desc i with gen := ((s.desc i).gen + 1) % 65536, state := 2, freer := n, freedAt := some s.clk }

theorem bufFree_frees {s : State} {n h i : Nat} (hz : bits h 14 2 = 0) (hi : s.handleDesc h = some i) (hu : s.bufInUse i = false) :
    s.bufFree n h = ((s.setDesc i (freedDesc n i s)).storeShow, Rc.ok) := by
  simp [State.bufFree, hz, hi, hu, freedDesc]

section
variable (s : State) (i : Nat) (x : Desc)

theorem desc_setDesc_show (j : Nat) : ((s.setDesc i x).storeShow).desc j = if j = i then x else s.desc j := by
  have hsable := sable_of_storeView (storeView_storeShow (s.setDesc i x))
  unfold State.desc
  rw [hsable]
  split
  next h => rw [h]; exact tget_tput_same _ _ _ _
  next h => exact tget_tput_ne _ _ _ _ _ _ h

theorem setDesc_show_sameMem : SameMem s (s.setDesc i x).storeShow :=
  sameMem_of_storeView (s := s.setDesc i x) (storeView_storeShow (s.setDesc i x))

end

/-! ### Asking and giving (R214, R215, R420) -/

section
variable {s : State} {n w0 w1 : Nat} {i : Ins}

theorem askRun_follows (hmir : s.fromMirror = true) : s.askRun n i w0 w1 =
    (((if s.askForm n i w0 = 0 then (s.armTmo n i.tmo).askQueue n w0 w1 else s).go n i).suspend n (.ask i.d i.tmo)).mirrorEnd n :=
  if_pos hmir

theorem askRun_badForm (hown : s.fromMirror = false) (h : s.askForm n i w0 ≠ 0) :
    s.askRun n i w0 w1 = s.askDone n i (s.askForm n i w0) 0 :=
  (if_neg (Bool.eq_false_iff.mp hown)).trans (if_pos h)

section
variable (hown : s.fromMirror = false) (hform : s.askForm n i w0 = 0)
include hown hform

theorem askRun_grants (h : s.askVerdict (askCls w0) (askInst w0) w1 (bit i.w 0) = some Rc.ok) : s.askRun n i w0 w1 =
    ((s.grant n (askCls w0) (askInst w0) w1).1.endTmo n i.tmo).askDone n i Rc.ok (s.grant n (askCls w0) (askInst w0) w1).2 := by
  simp [State.askRun, hown, hform, h]

theorem askRun_refuses {c : Nat} (h : s.askVerdict (askCls w0) (askInst w0) w1 (bit i.w 0) = some c) (hc : c ≠ 0) :
    s.askRun n i w0 w1 = s.askDone n i c 0 := by
  simp [State.askRun, hown, hform, h, hc]

theorem askRun_waits (h : s.askVerdict (askCls w0) (askInst w0) w1 (bit i.w 0) = none) : s.askRun n i w0 w1 =
    (((s.armTmo n i.tmo).askQueue n w0 w1).go n i).suspend n (.ask i.d i.tmo) := by
  simp [State.askRun, hown, hform, h]

end

theorem giveVerdict_check (s : State) (n tok : Nat) (reclaim : Bool) : CheckCode (s.giveVerdict n tok reclaim) := by
  unfold State.giveVerdict
  split
  next => decide
  next =>
    dsimp only
    split
    · decide
    · split <;> decide

end

/-! ### The statement -/

/-- Settles O14: the store's and the queue's instructions case by case, and the frame of the one descriptor that BUFFREE changes. -/
theorem storeAndGrantInstructions : Obligations.StoreAndGrantInstructions := by
  unfold Obligations.StoreAndGrantInstructions
  refine ⟨fun n hw s hclean => ⟨?alloc, ?allocRefused, ?allocTakes, ?allocWaits, ?allocStops, ?free, ?start, ?stop, ?play,
    ?startFollows, ?stopFollows, ?playFollows⟩, fun n s h i hz hi hu => ?freed, fun n hw s hclean => ⟨?grants, ?refuses, ?waits,
    ?badForm, ?askFollows, ?askStops, checked_does (exec_give n hw s) hclean, ?keeps⟩⟩
  case alloc =>
    exact fun hr hread hown hok =>
      exec_ready (exec_bufalloc n hw s) hr hclean ((orFault_none hread).trans ((takeVal_own hown).trans (allocOwn_takes hok)))
  case allocRefused =>
    exact fun hr hread hown hbad =>
      exec_ready (exec_bufalloc n hw s) hr hclean ((orFault_none hread).trans ((takeVal_own hown).trans (allocOwn_refused hbad)))
  case allocTakes =>
    exact fun v vs hr hread hmir hv hpc hkind =>
      exec_ready (exec_bufalloc n hw s) hr hclean ((orFault_none hread).trans (takeVal_takes hmir hv hpc hkind))
  case allocWaits =>
    exact fun hr hread hmir hv => exec_ready (exec_bufalloc n hw s) hr hclean ((orFault_none hread).trans (takeVal_waits hmir hv))
  case allocStops => exact fun c hr hstop => exec_ready (exec_bufalloc n hw s) hr hclean (orFault_some hstop)
  case free => exact fun hr => exec_ready (exec_buffree n hw s) hr hclean rfl
  case start => exact fun hr hown => exec_ready (exec_recstart n hw s) hr hclean (asActive_own hown)
  case stop => exact fun hr hown => exec_ready (exec_recstop n hw s) hr hclean (asActive_own hown)
  case play => exact fun hr hown => exec_ready (exec_play n hw s) hr hclean (asActive_own hown)
  case startFollows => exact fun hr hmir => exec_ready (exec_recstart n hw s) hr hclean (asActive_follows hmir)
  case stopFollows => exact fun hr hmir => exec_ready (exec_recstop n hw s) hr hclean (asActive_follows hmir)
  case playFollows => exact fun hr hmir => exec_ready (exec_play n hw s) hr hclean (asActive_follows hmir)
  case freed =>
    rw [bufFree_frees hz hi hu]
    have hdesc := desc_setDesc_show s i (freedDesc n i s)
    have hfreed := (hdesc i).trans (if_pos rfl)
    exact ⟨rfl, congrArg Desc.gen hfreed, congrArg Desc.state hfreed, fun j hj => (hdesc j).trans (if_neg hj),
      setDesc_show_sameMem s i _⟩
  case grants =>
    exact fun hr hread hform hown hv =>
      exec_ready (exec_ask n hw s) hr hclean ((orFault_none hread).trans (askRun_grants hown hform hv))
  case refuses =>
    exact fun c hr hread hform hown hv hc =>
      exec_ready (exec_ask n hw s) hr hclean ((orFault_none hread).trans (askRun_refuses hown hform hv hc))
  case waits =>
    exact fun hr hread hform hown hv =>
      exec_ready (exec_ask n hw s) hr hclean ((orFault_none hread).trans (askRun_waits hown hform hv))
  case badForm =>
    exact fun hr hread hform hown =>
      exec_ready (exec_ask n hw s) hr hclean ((orFault_none hread).trans (askRun_badForm hown hform))
  case askFollows =>
    exact fun hr hread hmir => exec_ready (exec_ask n hw s) hr hclean ((orFault_none hread).trans (askRun_follows hmir))
  case askStops => exact fun c hr hstop => exec_ready (exec_ask n hw s) hr hclean (orFault_some hstop)
  case keeps => exact fun hr => checked_refuses (exec_give n hw s) hclean hr rfl (giveVerdict_check s _ _ _)

end Sys2Proof.Proofs
end

section
/-! PROOFS. The reset of a cue engine (R156): what it clears, and what stands of the other engines and of the memories. -/
namespace Sys2Proof.Proofs
open Sys2Proof.Machine Sys2Proof.Laws

/-! ### The engines' state under the shared operations -/

theorem eng_setEng_same (s : State) (n : Nat) (e : Eng) : (s.setEng n e).eng n = e := tget_tput_same _ _ _ _

theorem eng_setEng_ne {m n : Nat} (h : m ≠ n) (s : State) (e : Eng) : (s.setEng n e).eng m = s.eng m := tget_tput_ne _ _ _ _ _ _ h

/-- The engines beside their registers, and their memories. -/
def engView (s : State) : Tab Eng × Tab Nat × Tab Nat × Tab Nat := (s.engs, s.pmem, s.dmem, s.smem)

theorem eng_of_engView {s t : State} (h : engView t = engView s) (m : Nat) : t.eng m = s.eng m :=
  congrArg (fun v : Tab Eng × Tab Nat × Tab Nat × Tab Nat => tget v.1 m {}) h

theorem sameMem_of_engView {s t : State} (h : engView t = engView s) : SameMem s t :=
  ⟨congrArg (fun v => v.2.1) h, congrArg (fun v => v.2.2.1) h, congrArg (fun v => v.2.2.2) h⟩

theorem engView_wr (s : State) (f : Fld) (i v : Nat) : engView (s.wr f i v) = engView s := Prod.ext (wr_engs s f i v) rfl

theorem engView_raise (s : State) (x : Nat) : engView (s.raise x) = engView s := by
  simp only [engView, raise_engs, raise_pmem, raise_dmem, raise_smem]

/-- An event record goes to the ring, and to no engine. -/
theorem engView_evRecord (s : State) (typ eng seq code d0 d1 : Nat) : engView (s.evRecord typ eng seq code d0 d1) = engView s := by
  unfold State.evRecord
  split
  · simp only [State.incSat, State.addSat, engView_wr]; rfl
  · split
    · simp only [State.incSat, State.addSat, engView_wr]; rfl
    · simp only [State.addWrap, engView_raise, engView_wr]; rfl

section
variable {g : Fld} (hg : CueField g) {j : Nat} (hj : j / g.n2 < 5)
include hg hj

theorem rd_raise_cueField (s : State) (x : Nat) : (s.raise x).rd g j = s.rd g j := by
  refine raise_rd s x g j fun v => ((cueField_key_range hg hj).2.trans_le ?_).ne
  exact (by decide : 3188736 ≤ F.MSIX_PBA_PENDING.base).trans (base_le_key _ v)

theorem rd_evRecord_cueField (s : State) (typ eng seq code d0 d1 : Nat) : (s.evRecord typ eng seq code d0 d1).rd g j = s.rd g j := by
  have hlost (u : State) (v : Nat) := rd_wr_offCue (f := F.CUE_EVR_LOST_LOST) (by decide) hg hj u v
  have hovf (u : State) (v : Nat) := rd_wr_offCue (f := F.CUE_EVR_STATUS_OVF) (by decide) hg hj u v
  have htail (u : State) (v : Nat) := rd_wr_offCue (f := F.CUE_EVR_TAIL_TAIL) (by decide) hg hj u v
  unfold State.evRecord
  split
  · simp only [State.incSat, State.addSat, hlost]; rfl
  · split
    · simp only [State.incSat, State.addSat, hlost, hovf]; rfl
    · simp only [State.addWrap, rd_raise_cueField hg hj, htail]; rfl

end

/-! ### Loops -/

/-- A step of a loop that brings about what every step keeps. -/
theorem forEach_holds {P : State → Prop} {l : List Nat} {f : Nat → State → State} {i : Nat} (hi : i ∈ l) (hdoes : ∀ s, P (f i s))
    (hkeeps : ∀ j s, P s → P (f j s)) (s : State) : P (forEach l f s) := by
  obtain ⟨before, after, rfl⟩ := List.append_of_mem hi
  simp only [forEach, List.foldl_append, List.foldl_cons]
  exact List.foldlRecOn after _ (hdoes _) fun s hs j _ => hkeeps j s hs

/-! ### What ENG_RESET clears (R156) -/

/-- The general registers of engine `n` cleared. -/
def gCleared (n : Nat) (s : State) : State := forEach (List.range 16) (fun j s => s.setG n j 0) s

/-- An empty time register. -/
abbrev noTime : TReg := ⟨0, ⟨0, 0, 0⟩, false⟩

/-- The time registers of engine `n` cleared. -/
def kCleared (n : Nat) (s : State) : State := forEach (List.range 4) (fun k s => s.setK n k noTime) s

/-- RS, EVPEND and the stop of engine `n` cleared, and it STOPPED. -/
def statusCleared (n : Nat) (s : State) : State :=
  (((((s.wr F.CUE_STATUS_RS n 0).wr F.CUE_EVPEND_BITS n 0).wr F.CUE_STATUS_FAULT_CLASS n 0).wr F.CUE_STATUS_FAULT_CODE n 0).wr
    F.CUE_STATUS_STOP_CAUSE n 0).wr F.CUE_STATUS_STATE n Es.stopped

/-- The wait of engine `n` abandoned, and all it holds beside its registers but the values from its twin. -/
def engEmptied (n : Nat) (s : State) : State :=
  (s.abandonWait n).setEng n { vals := ((s.abandonWait n).eng n).vals }

/-- Engine `n` as a reset leaves it. -/
def engCleared (n : Nat) (s : State) : State := statusCleared n (kCleared n (gCleared n (engEmptied n s)))

/-- A reset clears the engine, and reports a record that was in its window. -/
theorem engReset_cases {n : Nat} {s : State} (hs : s.es n ≠ Es.spare) (hr : s.es n ≠ Es.retired) :
    s.engReset n = engCleared n s ∨ ∃ q, s.engReset n = (engCleared n s).evRecord 0x0A n q 0 0 0 := by
  unfold State.engReset
  rw [if_neg (not_or.mpr ⟨hs, hr⟩)]
  cases (s.eng n).win with
  | none => exact .inl rfl
  | some w => exact .inr ⟨w.seq, rfl⟩

theorem engView_engReset {n : Nat} {s : State} (hs : s.es n ≠ Es.spare) (hr : s.es n ≠ Es.retired) :
    engView (s.engReset n) = engView (engCleared n s) := by
  rcases engReset_cases hs hr with h | ⟨q, h⟩ <;> rw [h]
  exact engView_evRecord _ _ _ _ _ _ _

theorem rd_engReset {n : Nat} {s : State} (hs : s.es n ≠ Es.spare) (hr : s.es n ≠ Es.retired) {g : Fld} (hg : CueField g) {j : Nat}
    (hj : j / g.n2 < 5) : (s.engReset n).rd g j = (engCleared n s).rd g j := by
  rcases engReset_cases hs hr with h | ⟨q, h⟩ <;> rw [h]
  exact rd_evRecord_cueField hg hj _ _ _ _ _ _ _

/-! ### What a reset engine reads as -/

theorem engView_setK (s : State) (n i : Nat) (r : TReg) : engView (s.setK n i r) = engView s := by
  simp only [State.setK, engView_wr]

/-- Clearing registers leaves what is beside them. -/
theorem engView_engCleared (n : Nat) (s : State) : engView (engCleared n s) = engView (engEmptied n s) := by
  have hk := forEach_keeps engView (List.range 4) (fun k s => s.setK n k noTime) (fun k s => engView_setK s n k noTime)
  have hg := forEach_keeps engView (List.range 16) (fun j s => s.setG n j 0) (fun _ s => engView_wr s _ _ _)
  unfold engCleared statusCleared kCleared gCleared
  simp only [engView_wr, hk, hg]

theorem engEmptied_eng_same (n : Nat) (s : State) : (engEmptied n s).eng n = { vals := (s.eng n).vals } := by
  have hvals : ((s.abandonWait n).eng n).vals = (s.eng n).vals := by
    rw [show (s.abandonWait n).eng n = { s.eng n with wait := .none } from eng_setEng_same s n _]
  rw [engEmptied, eng_setEng_same, hvals]

theorem engEmptied_eng_ne {m n : Nat} (h : m ≠ n) (s : State) : (engEmptied n s).eng m = s.eng m :=
  (eng_setEng_ne h _ _).trans (eng_setEng_ne h s _)

theorem engEmptied_sameMem (n : Nat) (s : State) : SameMem s (engEmptied n s) := ⟨rfl, rfl, rfl⟩

theorem g_kCleared (n m j : Nat) (s : State) : (kCleared n s).g m j = s.g m j :=
  forEach_keeps (fun s => s.g m j) (List.range 4) _ (fun k s => by
    unfold State.setK State.g
    simp (disch := decide) only [rd_wr_apart]) s

theorem g_statusCleared (n m j : Nat) (s : State) : (statusCleared n s).g m j = s.g m j := by
  unfold statusCleared State.g
  simp (disch := decide) only [rd_wr_apart]

theorem k_statusCleared (n m j : Nat) (s : State) : (statusCleared n s).k m j = s.k m j := by
  unfold statusCleared State.k
  simp (disch := decide) only [rd_wr_apart]

theorem g_gCleared {n j : Nat} (hj : j < 16) (s : State) : (gCleared n s).g n j = 0 :=
  forEach_holds (P := fun s => s.g n j = 0) (List.mem_range.mpr hj) (fun s => g_setG_same s n j 0) (fun i s hs => by
    by_cases hij : i = j
    · rw [hij]
      exact g_setG_same s n j 0
    · exact (rd_wr_ne s _ _ _ _ _ fun hkey => hij (by have := cueField_key_inj (by decide) hkey; omega)).trans hs) s

theorem k_setK_ne {n m i j : Nat} (h : m * 4 + j ≠ n * 4 + i) (s : State) (r : TReg) : (s.setK n i r).k m j = s.k m j := by
  have hsame {f : Fld} (hf : CueField f) (u : State) (v : Nat) : (u.wr f (n * 4 + i) v).rd f (m * 4 + j) = u.rd f (m * 4 + j) :=
    rd_wr_ne u f f _ _ v fun hkey => h (cueField_key_inj hf hkey)
  unfold State.setK State.k
  simp (disch := decide) only [rd_wr_apart, hsame]

theorem k_kCleared {n j : Nat} (hj : j < 4) (s : State) : (kCleared n s).k n j = noTime :=
  forEach_holds (P := fun s => s.k n j = noTime) (List.mem_range.mpr hj) (fun s => k_setK_same s n j noTime) (fun i s hs => by
    by_cases hij : i = j
    · rw [hij]
      exact k_setK_same s n j noTime
    · exact (k_setK_ne (by omega) s noTime).trans hs) s

/-! ### What a reset leaves of the other engines -/

/-- The register fields of every engine but `n` stand. -/
def KeepsOthers (n : Nat) (s t : State) : Prop :=
  ∀ (g : Fld) (j : Nat), CueField g → j / g.n2 < 5 → j / g.n2 ≠ n → t.rd g j = s.rd g j

section
variable {n : Nat} {s t : State}

theorem keepsOthers_wr (h : KeepsOthers n s t) {f : Fld} (hf : CueField f) {i : Nat} (hi : i / f.n2 = n) (v : Nat) :
    KeepsOthers n s (t.wr f i v) :=
  fun g j hg hj hne => (rd_wr_otherEng hf hg (hi ▸ hne) t v).trans (h g j hg hj hne)

theorem keepsOthers_wr_one (h : KeepsOthers n s t) {f : Fld} (hf : CueField f ∧ f.n2 = 1) (v : Nat) :
    KeepsOthers n s (t.wr f n v) :=
  keepsOthers_wr h hf.1 (by rw [hf.2, Nat.div_one]) v

theorem keepsOthers_wr_offCue (h : KeepsOthers n s t) {f : Fld} (hf : OffCue f) (v : Nat) : KeepsOthers n s (t.wr f 0 v) :=
  fun g j hg hj hne => (rd_wr_offCue hf hg hj t v).trans (h g j hg hj hne)

theorem keepsOthers_forEach {l : List Nat} {f : Nat → State → State} (h : KeepsOthers n s t)
    (hf : ∀ i, i ∈ l → ∀ u, KeepsOthers n s u → KeepsOthers n s (f i u)) : KeepsOthers n s (forEach l f t) :=
  List.foldlRecOn l _ h fun u hu i hi => hf i hi u hu

theorem keepsOthers_setK (h : KeepsOthers n s t) {k : Nat} (hk : k < 4) (r : TReg) : KeepsOthers n s (t.setK n k r) := by
  have hdiv : (n * 4 + k) / 4 = n := by omega
  exact keepsOthers_wr (keepsOthers_wr (keepsOthers_wr (keepsOthers_wr h (by decide) hdiv _) (by decide) hdiv _) (by decide) hdiv _)
    (by decide) hdiv _

theorem keepsOthers_setG (h : KeepsOthers n s t) {j : Nat} (hj : j < 16) (v : Nat) : KeepsOthers n s (t.setG n j v) := by
  have hdiv : (n * 16 + j) / 16 = n := by omega
  exact keepsOthers_wr h (by decide) hdiv v

end

theorem keepsOthers_engEmptied (n : Nat) (s : State) : KeepsOthers n s (engEmptied n s) := by
  have hqueue (u : State) (hu : KeepsOthers n s u) := keepsOthers_wr_offCue hu (f := F.ADMIT_QUEUE_WAITING) (by decide)
  exact hqueue { s.setEng n { s.eng n with wait := .none } with
    adm := { s.adm with queue := s.adm.queue.filter fun r => decide (r.master ≠ n) } } (fun _ _ _ _ _ => rfl) _

theorem keepsOthers_engCleared (n : Nat) (s : State) : KeepsOthers n s (engCleared n s) := by
  have hg : KeepsOthers n s (gCleared n (engEmptied n s)) :=
    keepsOthers_forEach (keepsOthers_engEmptied n s) fun j hj _ hu => keepsOthers_setG hu (List.mem_range.mp hj) 0
  have hk : KeepsOthers n s (kCleared n (gCleared n (engEmptied n s))) :=
    keepsOthers_forEach hg fun k hk _ hu => keepsOthers_setK hu (List.mem_range.mp hk) noTime
  exact keepsOthers_wr_one (keepsOthers_wr_one (keepsOthers_wr_one (keepsOthers_wr_one (keepsOthers_wr_one (keepsOthers_wr_one hk
    (by decide) _) (by decide) _) (by decide) _) (by decide) _) (by decide) _) (by decide) _

/-! ### The state after ENG_RESET (R156) -/

section
variable {n : Nat} {s : State} (hn : n < 5) (hs : s.es n ≠ Es.spare) (hr : s.es n ≠ Es.retired)
include hs hr

theorem engReset_eng_same : (s.engReset n).eng n = { vals := (s.eng n).vals } :=
  (eng_of_engView ((engView_engReset hs hr).trans (engView_engCleared n s)) n).trans (engEmptied_eng_same n s)

theorem engReset_eng_ne {m : Nat} (hm : m ≠ n) : (s.engReset n).eng m = s.eng m :=
  (eng_of_engView ((engView_engReset hs hr).trans (engView_engCleared n s)) m).trans (engEmptied_eng_ne hm s)

theorem engReset_sameMem : SameMem s (s.engReset n) :=
  sameMem_of_engView (s := engEmptied n s) ((engView_engReset hs hr).trans (engView_engCleared n s))

/-- The registers of the other engines stand. -/
theorem engReset_rd_ne {g : Fld} (hg : CueField g) {j : Nat} (hj : j / g.n2 < 5) (hne : j / g.n2 ≠ n) :
    (s.engReset n).rd g j = s.rd g j :=
  (rd_engReset hs hr hg hj).trans (keepsOthers_engCleared n s g j hg hj hne)

include hn

theorem engReset_g {j : Nat} (hj : j < 16) : (s.engReset n).g n j = 0 := by
  have hread : (s.engReset n).g n j = (engCleared n s).g n j :=
    rd_engReset hs hr (by decide) (by rw [show F.CUE_GREG_VALUE.n2 = 16 from rfl]; omega)
  rw [hread, engCleared, g_statusCleared, g_kCleared, g_gCleared hj]

theorem engReset_k {j : Nat} (hj : j < 4) : (s.engReset n).k n j = noTime := by
  have hread {g : Fld} (hg : CueField g ∧ g.n2 = 4) : (s.engReset n).rd g (n * 4 + j) = (engCleared n s).rd g (n * 4 + j) :=
    rd_engReset hs hr hg.1 (by rw [hg.2]; omega)
  have himage : (s.engReset n).k n j = (engCleared n s).k n j := by
    unfold State.k
    rw [hread (by decide), hread (by decide), hread (by decide), hread (by decide)]
  rw [himage, engCleared, k_statusCleared, k_kCleared hj]

theorem engReset_rd_one {g : Fld} (hg : CueField g ∧ g.n2 = 1) : (s.engReset n).rd g n = (engCleared n s).rd g n :=
  rd_engReset hs hr hg.1 (by rw [hg.2, Nat.div_one]; exact hn)

theorem engReset_es : (s.engReset n).es n = Es.stopped := (engReset_rd_one hn hs hr (by decide)).trans (rd_wr_same _ _ _ _)

theorem engReset_rs : (s.engReset n).rd F.CUE_STATUS_RS n = 0 := by
  rw [engReset_rd_one hn hs hr (by decide), engCleared, statusCleared]
  simp (disch := decide) only [rd_wr_apart, rd_wr_same, Nat.zero_mod]

theorem engReset_evpend : (s.engReset n).rd F.CUE_EVPEND_BITS n = 0 := by
  rw [engReset_rd_one hn hs hr (by decide), engCleared, statusCleared]
  simp (disch := decide) only [rd_wr_apart, rd_wr_same, Nat.zero_mod]

end

end Sys2Proof.Proofs
end

section
/-! PROOFS. The host's control of the engines (chapter 6): the requests of CUE_CTRL (R154, R156, R157), ENG_RESET, the window into the
engines' memories (R149), and the statement about them. -/
namespace Sys2Proof.Proofs
open Sys2Proof.Machine Sys2Proof.Laws

/-! ### The commands -/

section
variable (n : Fin 5) (i : Fin 16384) (w : Word) (s : State)

theorem exec_cueStart : exec (.cueStart n w) s = ok (s.hostWrite (0x61000 + 0x100 * n.val) (Nat.lor w.toNat 1)
    (State.cueCtrl n.val (Nat.lor w.toNat 1))) := rfl

theorem exec_cueStop : exec (.cueStop n w) s = ok (s.hostWrite (0x61000 + 0x100 * n.val) (Nat.lor w.toNat 2)
    (State.cueCtrl n.val (Nat.lor w.toNat 2))) := rfl

theorem exec_cueResume : exec (.cueResume n w) s = ok (s.hostWrite (0x61000 + 0x100 * n.val) (Nat.lor w.toNat 4)
    (State.cueCtrl n.val (Nat.lor w.toNat 4))) := rfl

theorem exec_engReset : exec (.engReset n w) s = ok (s.hostWrite (0x61000 + 0x100 * n.val) (Nat.lor w.toNat 8)
    (State.cueCtrl n.val (Nat.lor w.toNat 8))) := rfl

theorem exec_discardStaged : exec (.discardStaged n w) s = ok (s.hostWrite (0x61000 + 0x100 * n.val) (Nat.lor w.toNat 16)
    (State.cueCtrl n.val (Nat.lor w.toNat 16))) := rfl

theorem exec_cueMemoryWindowWrite : exec (.cueMemoryWindowWrite i w) s = ok (s.hostWrite (0x70000 + 4 * i.val) w.toNat
    (State.cueWinWrite i.val w.toNat)) := rfl

end

/-! ### The requests of CUE_CTRL -/

/-- Request `f`, which bit `i` of the word `v` asks for. -/
def asked (v i : Nat) (f : State → State) (s : State) : State := if bit v i then f s else s

theorem asked_congr {f g : State → State} {s t : State} (hfg : ∀ u, f u = g u) (hst : s = t) (v i : Nat) :
    asked v i f s = asked v i g t := by
  rw [funext hfg, hst]

/-- The fields, then the requests in bit order. -/
theorem cueCtrl_requests (n v : Nat) (s : State) : State.cueCtrl n v s =
    asked v 4 (·.reqDiscard n) (asked v 3 (·.reqReset n) (asked v 2 (·.reqResume n) (asked v 1 (·.reqStop n)
      (asked v 0 (·.reqStart n) (s.cueFields n v))))) := rfl

theorem reqStart_eq (n : Nat) (s : State) : s.reqStart n =
    if s.engOff n = true ∧ s.enginesRun = true ∧ n ≠ s.spareNum then (s.engStart n).dispatch n else s.ctrlRefused n := by
  unfold State.reqStart
  simp only [Bool.and_eq_true, decide_eq_true_eq, and_assoc]

/-- What RESUME of an engine that may resume does, by the wait it was stopped in. -/
def resumed (n : Nat) (s : State) : State :=
  let u := s.setEng n { s.eng n with wasIdle := false, runSince := s.clk }
  match (s.eng n).wait with
  | .none => if (s.eng n).wasIdle = true ∧ s.es n = Es.stopped then u.enterIdle n else u.wr F.CUE_STATUS_STATE n Es.running
  | .commit _ _ _ => u.wr F.CUE_STATUS_STATE n Es.running
  | _ => u.wr F.CUE_STATUS_STATE n Es.waiting

theorem reqResume_eq (n : Nat) (s : State) : s.reqResume n =
    if ¬ ((s.es n = Es.stopped ∨ s.es n = Es.faulted) ∧ s.enginesRun = true ∧ n ≠ s.spareNum) then s.ctrlRefused n
    else resumed n s :=
  (ite_not _ _ _).symm

/-! ### The window into the engines' memories (R149) -/

section
variable {s : State} {i b w : Nat}

theorem cueWinWrite_program (h : s.cueWin = some (0, b)) (hfree : s.es (s.rd F.CUE_WIN_SEL_ENGINE 0) = Es.stopped ∨
    s.es (s.rd F.CUE_WIN_SEL_ENGINE 0) = Es.halted ∨ s.es (s.rd F.CUE_WIN_SEL_ENGINE 0) = Es.faulted) (hlow : (b + i) * 4 < winBase) :
    State.cueWinWrite i w s = s.pmemPut (s.rd F.CUE_WIN_SEL_ENGINE 0) (b + i) w := by
  rw [State.cueWinWrite, h]
  exact if_pos ⟨hfree, hlow⟩

theorem cueWinWrite_program_refused (h : s.cueWin = some (0, b)) (hbusy : ¬ (s.es (s.rd F.CUE_WIN_SEL_ENGINE 0) = Es.stopped ∨
    s.es (s.rd F.CUE_WIN_SEL_ENGINE 0) = Es.halted ∨ s.es (s.rd F.CUE_WIN_SEL_ENGINE 0) = Es.faulted) ∨ winBase ≤ (b + i) * 4) :
    State.cueWinWrite i w s = s.wr F.CUE_STATUS_CTRL_REFUSED (s.rd F.CUE_WIN_SEL_ENGINE 0) 1 := by
  rw [State.cueWinWrite, h]
  exact if_neg fun ⟨hfree, hlow⟩ => hbusy.elim (· hfree) (Nat.not_le_of_lt hlow)

theorem cueWinWrite_data (h : s.cueWin = some (1, b)) :
    State.cueWinWrite i w s = s.dmemPut (s.rd F.CUE_WIN_SEL_ENGINE 0) (b + i) w := by
  rw [State.cueWinWrite, h]
  rfl

theorem cueWinWrite_shared (h : s.cueWin = some (2, b)) : State.cueWinWrite i w s = s.smemPut (b + i) w := by
  rw [State.cueWinWrite, h]
  rfl

theorem cueWinWrite_noPage (h : s.cueWin = none) : State.cueWinWrite i w s = s := by
  rw [State.cueWinWrite, h]

end

/-- Settles O27: a write of CUE_CTRL is its fields and then its requests in bit order, each as its own equation says; ENG_RESET is
followed register by register; and the window's write goes by the target and page it selects. -/
theorem engineControl : Obligations.EngineControl := by
  refine ⟨fun n w s => ?control, fun n m j s hn hm hmn hj hspare hretired => ?reset, fun i w b s => ?window⟩
  case control =>
    intro off no gone start stop resume reset discard req all
    have hall (v : Nat) : State.cueCtrl n.val v s = all v :=
      (cueCtrl_requests n.val v s).trans (asked_congr (fun _ => rfl) (asked_congr (fun _ => rfl) (asked_congr (reqResume_eq n.val)
        (asked_congr (fun _ => rfl) (asked_congr (reqStart_eq n.val) rfl _ _) _ _) _ _) _ _) _ _)
    exact ⟨puts_of_eq (exec_cueStart n w s) (hall _), puts_of_eq (exec_cueStop n w s) (hall _),
      puts_of_eq (exec_cueResume n w s) (hall _), puts_of_eq (exec_engReset n w s) (hall _),
      puts_of_eq (exec_discardStaged n w s) (hall _)⟩
  case reset =>
    have heng := engReset_eng_same hspare hretired
    have hg : (s.engReset n).g m j = s.g m j :=
      engReset_rd_ne hspare hretired (by decide) (by rw [show F.CUE_GREG_VALUE.n2 = 16 from rfl]; omega)
        (by rw [show F.CUE_GREG_VALUE.n2 = 16 from rfl]; omega)
    have hone {g : Fld} (hf : CueField g ∧ g.n2 = 1) : (s.engReset n).rd g m = s.rd g m :=
      engReset_rd_ne hspare hretired hf.1 (by rw [hf.2, Nat.div_one]; exact hm) (by rw [hf.2, Nat.div_one]; exact hmn)
    exact ⟨engReset_es hn hspare hretired, engReset_g hn hspare hretired hj, engReset_k hn hspare hretired,
      engReset_rs hn hspare hretired, engReset_evpend hn hspare hretired, by rw [heng], by rw [heng], by rw [heng],
      engReset_sameMem hspare hretired, engReset_eng_ne hspare hretired hmn, hg, hone (by decide), hone (by decide)⟩
  case window =>
    have hexec := exec_cueMemoryWindowWrite i w s
    exact ⟨fun h hfree hlow => puts_of_eq hexec (cueWinWrite_program h hfree hlow),
      fun h hbusy => puts_of_eq hexec (cueWinWrite_program_refused h hbusy), fun h => puts_of_eq hexec (cueWinWrite_data h),
      fun h => puts_of_eq hexec (cueWinWrite_shared h), fun h => puts_of_eq hexec (cueWinWrite_noPage h)⟩

end Sys2Proof.Proofs
end

section
/-! PROOFS. Command rings and cue records (R150-R153): doorbells, the fetch and the judgement of a record, and the statement about them. -/
namespace Sys2Proof.Proofs
open Sys2Proof.Machine Sys2Proof.Laws

/-! ### The commands -/

section
variable (n : Fin 5) (ws : List Nat) (w : Word) (s : State)

theorem exec_ringDoorbell : exec (.ringDoorbell n w) s = ok (s.hostWrite (0x6102C + 0x100 * n.val) w.toNat
    (State.doorbell n.val w.toNat)) := rfl

theorem exec_cueRecordFetch : exec (.cueRecordFetch n) s =
    ok (if s.canFetch n then s.setEng n { s.eng n with fetching := true } else s) := rfl

theorem exec_evrHeadWrite : exec (.evrHeadWrite w) s = ok (s.hostWrite 0x6001C w.toNat fun u => u.wr F.CUE_EVR_HEAD_HEAD 0 w.toNat) := rfl

end

/-! ### Doorbells (R143, R151) -/

/-- A tail that the ring of engine `n` does not take: of the spare number, or past its size. -/
def TailRefused (n w : Nat) (s : State) : Prop :=
  n = s.spareNum ∨ s.ringSlots n < (w + 2 ^ 32 - s.rd F.CUE_RING_HEAD_HEAD n) % 2 ^ 32

section
variable {n w : Nat} {s : State}

theorem doorbell_taken (h : ¬ TailRefused n w s) : State.doorbell n w s = s.wr F.CUE_RING_TAIL_TAIL n w := if_neg h

theorem doorbell_refused (h : TailRefused n w s) :
    State.doorbell n w s = (s.wr F.CUE_RING_STAT_RING_ERR n 1).evRecord 0x08 n 0 0 w 0 := if_pos h

end

/-! ### The judgement of a record (R150, R152, R153) -/

/-- The read of a record by engine `n` ended. -/
def fetched (n : Nat) (s : State) : State := s.setEng n { s.eng n with fetching := false }

/-- HEAD passes the record. -/
def headPassed (n : Nat) (s : State) : State := (fetched n s).addWrap F.CUE_RING_HEAD_HEAD n 1

/-- The record's counter kept (R153). -/
def counterKept (n : Nat) (ws : List Nat) (s : State) : State :=
  (headPassed n s).wr64 F.CUE_AUTH_CTR_LO F.CUE_AUTH_CTR_HI n (recCounter ws)

/-- The record mirrored, and in the cue window. -/
def recordAccepted (n : Nat) (ws : List Nat) (s : State) : State := (s.mirror Mt.record (n :: pairWords ws)).loadWindow n ws

/-- Engine `n` reads a record, and may still. -/
def RecordRead (n : Nat) (s : State) : Prop := (s.eng n).fetching = true ∧ (fetched n s).canFetch n = true

/-- The record has to be authenticated: it says so, or the engine demands it. -/
def MustAuth (n : Nat) (ws : List Nat) (s : State) : Prop := bit (ws.getD 0 0) 25 = true ∨ s.on F.CUE_CTRL_AUTH_REQ n = true

/-- The judgement of a record that was read. -/
theorem exec_cueRecordAccept (n : Fin 5) (ws : List Nat) (s : State) (h : RecordRead n s) : exec (.cueRecordAccept n ws) s = .next (
    if recBad ws then ((headPassed n s).wr F.CUE_RING_STAT_RECORD_ERR n 1).evRecord 0x05 n (recSeq ws) 0 0 0
    else if (bit (ws.getD 0 0) 25 || s.on F.CUE_CTRL_AUTH_REQ n) && !s.recAuth n ws then
      (((headPassed n s).incSat F.CUE_AUTH_FAILS_COUNT n).wr F.CUE_RING_STAT_AUTH_FAIL n 1).evRecord 0x04 n (recSeq ws) 0 0 0
    else recordAccepted n ws (if bit (ws.getD 0 0) 25 || s.on F.CUE_CTRL_AUTH_REQ n then counterKept n ws s else headPassed n s)) := by
  obtain ⟨hreads, hmay⟩ := h
  exact congrArg Host.Outcome.next ((if_neg (by rw [hreads]; decide)).trans (if_neg fun hno => by
    rw [fetched] at hmay
    rw [hmay] at hno
    exact absurd hno (by decide)))

theorem cueRecordAccept_idle {n : Fin 5} {s : State} (ws : List Nat) (h : (s.eng n).fetching = false) :
    exec (.cueRecordAccept n ws) s = .next s :=
  congrArg Host.Outcome.next (if_pos (by rw [h]; rfl))

theorem cueRecordAccept_dropped {n : Fin 5} {s : State} (ws : List Nat) (hreads : (s.eng n).fetching = true)
    (hmay : (fetched n s).canFetch n = false) : exec (.cueRecordAccept n ws) s = .next (fetched n s) :=
  congrArg Host.Outcome.next ((if_neg (by rw [hreads]; decide)).trans (if_pos (congrArg (!·) hmay)))

section
variable {n : Fin 5} {ws : List Nat} {s : State} (h : RecordRead n s)
include h

theorem cueRecordAccept_bad (hbad : recBad ws = true) : exec (.cueRecordAccept n ws) s =
    .next (((headPassed n s).wr F.CUE_RING_STAT_RECORD_ERR n 1).evRecord 0x05 n (recSeq ws) 0 0 0) := by
  rw [exec_cueRecordAccept n ws s h, if_pos hbad]

variable (hgood : recBad ws = false)
include hgood

theorem cueRecordAccept_unproven (hmust : MustAuth n ws s) (hauth : s.recAuth n ws = false) : exec (.cueRecordAccept n ws) s =
    .next ((((headPassed n s).incSat F.CUE_AUTH_FAILS_COUNT n).wr F.CUE_RING_STAT_AUTH_FAIL n 1).evRecord 0x04 n (recSeq ws) 0 0 0) := by
  have hfails : ((bit (ws.getD 0 0) 25 || s.on F.CUE_CTRL_AUTH_REQ n) && !s.recAuth n ws) = true := by
    rw [hauth, Bool.not_false, Bool.and_true, Bool.or_eq_true]
    exact hmust
  rw [exec_cueRecordAccept n ws s h, if_neg (Bool.eq_false_iff.mp hgood), if_pos hfails]

theorem cueRecordAccept_proven (hmust : MustAuth n ws s) (hauth : s.recAuth n ws = true) :
    exec (.cueRecordAccept n ws) s = .next (recordAccepted n ws (counterKept n ws s)) := by
  have hneeds : (bit (ws.getD 0 0) 25 || s.on F.CUE_CTRL_AUTH_REQ n) = true := Bool.or_eq_true_iff.mpr hmust
  rw [exec_cueRecordAccept n ws s h, if_neg (Bool.eq_false_iff.mp hgood), hauth, hneeds]
  rfl

theorem cueRecordAccept_free (hfree : ¬ MustAuth n ws s) :
    exec (.cueRecordAccept n ws) s = .next (recordAccepted n ws (headPassed n s)) := by
  have hneeds : (bit (ws.getD 0 0) 25 || s.on F.CUE_CTRL_AUTH_REQ n) = false :=
    Bool.eq_false_iff.mpr fun hc => hfree (Bool.or_eq_true_iff.mp hc)
  rw [exec_cueRecordAccept n ws s h, if_neg (Bool.eq_false_iff.mp hgood), hneeds]
  rfl

end

/-- Settles O28: each command is its ring's operation, and the record that was read meets one of four judgements. -/
theorem recordCommands : Obligations.RecordCommands := by
  intro n ws w s off past f a must take m accept
  refine ⟨?tail, ?tailRefused, ?fetches, ?waits, cueRecordAccept_idle ws, cueRecordAccept_dropped ws, cueRecordAccept_bad,
    cueRecordAccept_unproven, cueRecordAccept_proven, cueRecordAccept_free, ?head⟩
  case tail => exact fun h => puts_of_eq (exec_ringDoorbell n w s) (doorbell_taken h)
  case tailRefused => exact fun h => puts_of_eq (exec_ringDoorbell n w s) (doorbell_refused h)
  case fetches => exact fun h => (exec_cueRecordFetch n s).trans (congrArg ok (if_pos h))
  case waits => exact fun h => (exec_cueRecordFetch n s).trans (congrArg ok (if_neg (Bool.eq_false_iff.mp h)))
  case head => exact puts_of_eq (exec_evrHeadWrite w s) rfl

end Sys2Proof.Proofs
end

section
/-! PROOFS. The ends of the engines' waits (R155, R158-R161, R166-R168): what each does when it is due, that it does nothing otherwise, and
the statement about them. -/
namespace Sys2Proof.Proofs
open Sys2Proof.Machine Sys2Proof.Laws

/-! ### The commands -/

section
variable (n : Fin 5) (s : State)

theorem exec_waitMatch : exec (.waitMatch n) s = execWaitMatch n s := rfl

theorem exec_waitevWake : exec (.waitevWake n) s = execWaitevWake n s := rfl

theorem exec_waitevTimeout : exec (.waitevTimeout n) s = execWaitevTimeout n s := rfl

theorem exec_tsyncTimeout : exec (.tsyncTimeout n) s = execTsyncTimeout n s := rfl

theorem exec_fenceComplete : exec (.fenceComplete n) s = execFenceComplete n s := rfl

end

/-! ### The watchdog and the comparators (R156, R158, R161) -/

section
variable {n : Fin 5} {x : Fin 4} {s : State}

/-- The watchdog of engine `n` has run out. -/
def WatchdogDue (n : Nat) (s : State) : Prop :=
  s.es n = Es.running ∧ s.rd F.CUE_WDOG_LIMIT n ≠ 0 ∧ s.rd F.CUE_WDOG_LIMIT n ≤ s.runClocks n

theorem watchdogExpire_due (h : WatchdogDue n s) : exec (.watchdogExpire n) s = .next (s.faultStop n Fc.watchdog 0) :=
  congrArg ok (if_pos h)

theorem watchdogExpire_notDue (h : ¬ WatchdogDue n s) : exec (.watchdogExpire n) s = .next s := congrArg ok (if_neg h)

/-- Comparator `x` of engine `n` is reached, and keeps no wait. -/
def ComparatorDue (n x : Nat) (s : State) : Prop := s.cmpReached n x = true ∧ keepsWait (s.eng n).wait x = false

theorem exec_cueComparatorFire (n : Fin 5) (x : Fin 4) (s : State) : exec (.cueComparatorFire n x) s =
    ok (if s.cmpReached n x && !keepsWait (s.eng n).wait x then
      if (s.cmp n x).purpose = 2 then (s.disarmCmp n x).engEvent n x else s.disarmCmp n x
    else s) := rfl

theorem comparatorDue_iff : (s.cmpReached n x && !keepsWait (s.eng n).wait x) = true ↔ ComparatorDue n x s := by
  rw [Bool.and_eq_true, Bool.not_eq_true']
  rfl

theorem cueComparatorFire_event (h : ComparatorDue n x s) (harm : (s.cmp n x).purpose = 2) :
    exec (.cueComparatorFire n x) s = .next ((s.disarmCmp n x).engEvent n x) := by
  rw [exec_cueComparatorFire, if_pos (comparatorDue_iff.mpr h), if_pos harm]
  rfl

theorem cueComparatorFire_disarms (h : ComparatorDue n x s) (harm : (s.cmp n x).purpose ≠ 2) :
    exec (.cueComparatorFire n x) s = .next (s.disarmCmp n x) := by
  rw [exec_cueComparatorFire, if_pos (comparatorDue_iff.mpr h), if_neg harm]
  rfl

theorem cueComparatorFire_notDue (h : ¬ ComparatorDue n x s) : exec (.cueComparatorFire n x) s = .next s := by
  rw [exec_cueComparatorFire, if_neg (mt comparatorDue_iff.mp h)]
  rfl

end

/-! ### The ends of the waits (R159, R160, R167) -/

/-- A wait that the device ends itself, and whose condition holds. -/
theorem own_and_iff {s : State} {b : Bool} : (!s.fromMirror && b) = true ↔ s.fromMirror = false ∧ b = true := by
  rw [Bool.and_eq_true, Bool.not_eq_true']

section
variable {n : Fin 5} {s : State}

theorem waitMatch_due {t : Nat} (hw : (s.eng n).wait = .pos t) (hown : s.fromMirror = false) (hr : s.cmpReached n t = true) :
    exec (.waitMatch n) s = .next (s.wakeMirror n Rc.ok (some t)) := by
  rw [exec_waitMatch, execWaitMatch, hw]
  exact congrArg ok (if_pos (own_and_iff.mpr ⟨hown, hr⟩))

theorem waitMatch_notDue (h : ∀ t, ¬ ((s.eng n).wait = .pos t ∧ s.fromMirror = false ∧ s.cmpReached n t = true)) :
    exec (.waitMatch n) s = .next s := by
  rw [exec_waitMatch, execWaitMatch]
  split
  case h_1 t hw => exact congrArg ok (if_neg fun hc => h t ⟨hw, own_and_iff.mp hc⟩)
  case h_2 => rfl

theorem waitevWake_due {mask : Nat} {dst tmo : Option Nat} (hw : (s.eng n).wait = .event mask dst tmo) (hown : s.fromMirror = false)
    (htaken : (s.takeEvents n mask).2 ≠ 0) : exec (.waitevWake n) s = .next
      ((((s.takeEvents n mask).1.mirrorVal n Vk.waitev [(s.takeEvents n mask).2]).setDst n dst (s.takeEvents n mask).2).wake n Rc.ok
        tmo) := by
  rw [exec_waitevWake, execWaitevWake, hw]
  exact congrArg ok (if_pos (own_and_iff.mpr ⟨hown, decide_eq_true htaken⟩))

theorem waitevWake_notDue (h : ∀ mask dst tmo, ¬ ((s.eng n).wait = .event mask dst tmo ∧ s.fromMirror = false ∧
    (s.takeEvents n mask).2 ≠ 0)) : exec (.waitevWake n) s = .next s := by
  rw [exec_waitevWake, execWaitevWake]
  split
  case h_1 mask dst tmo hw =>
    refine congrArg ok (if_neg fun hc => ?_)
    obtain ⟨hown, htaken⟩ := own_and_iff.mp hc
    exact h mask dst tmo ⟨hw, hown, of_decide_eq_true htaken⟩
  case h_2 => rfl

theorem waitevTimeout_due {mask t : Nat} {dst : Option Nat} (hw : (s.eng n).wait = .event mask dst (some t))
    (hown : s.fromMirror = false) (hr : s.cmpReached n t = true) : exec (.waitevTimeout n) s =
      .next (((s.mirrorVal n Vk.waitEnd [Rc.timeout]).setDst n dst 0).wake n Rc.timeout (some t)) := by
  rw [exec_waitevTimeout, execWaitevTimeout, hw]
  exact congrArg ok (if_pos (own_and_iff.mpr ⟨hown, hr⟩))

theorem waitevTimeout_notDue (h : ∀ mask dst t, ¬ ((s.eng n).wait = .event mask dst (some t) ∧ s.fromMirror = false ∧
    s.cmpReached n t = true)) : exec (.waitevTimeout n) s = .next s := by
  rw [exec_waitevTimeout, execWaitevTimeout]
  split
  case h_1 mask dst t hw => exact congrArg ok (if_neg fun hc => h mask dst t ⟨hw, own_and_iff.mp hc⟩)
  case h_2 => rfl

theorem fenceComplete_due (hw : (s.eng n).wait = .fence) (hown : s.fromMirror = false) :
    exec (.fenceComplete n) s = .next ((s.mirrorVal n Vk.waitEnd [Rc.ok]).endWait n .none) := by
  rw [exec_fenceComplete, execFenceComplete, hw]
  exact congrArg ok (if_neg (Bool.eq_false_iff.mp hown))

theorem fenceComplete_notDue (h : ¬ ((s.eng n).wait = .fence ∧ s.fromMirror = false)) : exec (.fenceComplete n) s = .next s := by
  rw [exec_fenceComplete, execFenceComplete]
  split
  case h_1 hw => exact congrArg ok (if_pos (Bool.of_not_eq_false fun hown => h ⟨hw, hown⟩))
  case h_2 => rfl

end

/-! ### Barriers (R159) -/

section
variable {n : Fin 5} {s : State} {id mask t : Nat}

theorem barrier_eq_some_iff {m : Nat} : s.barrier m = some (id, mask, t) ↔ (s.eng m).wait = .tsync id mask t := by
  unfold State.barrier
  split
  case h_1 hw => simp only [hw, Option.some.injEq, Prod.mk.injEq, Wait.tsync.injEq]
  case h_2 hno => exact iff_of_false nofun (hno id mask t)

/-- Engine `m` waits in barrier `id` of the members `mask`. -/
def atBarrier (s : State) (id mask m : Nat) : Bool :=
  match s.barrier m with
  | some (i, k, _) => decide (i = id ∧ k = mask)
  | none => false

theorem atBarrier_iff {m : Nat} : atBarrier s id mask m = true ↔ ∃ t', s.barrier m = some (id, mask, t') := by
  unfold atBarrier
  split
  case h_1 i k t' hb => simp [hb]
  case h_2 hb => simp [hb]

/-- Every member of the barrier waits in it. -/
def AllArrived (s : State) (id mask : Nat) : Prop := ∀ m, m ∈ bitList mask 5 → ∃ t', s.barrier m = some (id, mask, t')

theorem all_atBarrier_iff : (bitList mask 5).all (atBarrier s id mask) = true ↔ AllArrived s id mask := by
  simp only [List.all_eq_true, atBarrier_iff, AllArrived]

theorem exec_tsyncRelease (n : Fin 5) (s : State) : exec (.tsyncRelease n) s =
    ok (match s.barrier n with
      | some (id, mask, _) =>
        if !s.fromMirror && (bitList mask 5).all (atBarrier s id mask) then
          forEach (bitList mask 5) (fun m s => s.wakeMirror m Rc.ok ((s.barrier m).map (·.2.2))) s
        else s
      | none => s) := rfl

theorem tsyncRelease_due (hw : (s.eng n).wait = .tsync id mask t) (hown : s.fromMirror = false) (hall : AllArrived s id mask) :
    exec (.tsyncRelease n) s = .next (forEach (bitList mask 5) (fun m s => s.wakeMirror m Rc.ok ((s.barrier m).map (·.2.2))) s) := by
  rw [exec_tsyncRelease, barrier_eq_some_iff.mpr hw]
  exact congrArg ok (if_pos (own_and_iff.mpr ⟨hown, all_atBarrier_iff.mpr hall⟩))

theorem tsyncRelease_notDue (h : ∀ id mask t, ¬ ((s.eng n).wait = .tsync id mask t ∧ s.fromMirror = false ∧ AllArrived s id mask)) :
    exec (.tsyncRelease n) s = .next s := by
  rw [exec_tsyncRelease]
  split
  case h_1 id mask t hb =>
    refine congrArg ok (if_neg fun hc => ?_)
    obtain ⟨hown, hall⟩ := own_and_iff.mp hc
    exact h id mask t ⟨barrier_eq_some_iff.mp hb, hown, all_atBarrier_iff.mp hall⟩
  case h_2 => rfl

theorem tsyncTimeout_due (hw : (s.eng n).wait = .tsync id mask t) (hown : s.fromMirror = false) (hr : s.cmpReached n t = true) :
    exec (.tsyncTimeout n) s = .next (s.wakeMirror n Rc.timeout (some t)) := by
  rw [exec_tsyncTimeout, execTsyncTimeout, barrier_eq_some_iff.mpr hw]
  exact congrArg ok (if_pos (own_and_iff.mpr ⟨hown, hr⟩))

theorem tsyncTimeout_notDue (h : ∀ id mask t, ¬ ((s.eng n).wait = .tsync id mask t ∧ s.fromMirror = false ∧
    s.cmpReached n t = true)) : exec (.tsyncTimeout n) s = .next s := by
  rw [exec_tsyncTimeout, execTsyncTimeout]
  split
  case h_1 id mask t hb => exact congrArg ok (if_neg fun hc => h id mask t ⟨barrier_eq_some_iff.mp hb, own_and_iff.mp hc⟩)
  case h_2 => rfl

end

/-- Settles O29: each end of a wait by its lemma where it is due, and by its complement where it is not. -/
theorem waitsEnd : Obligations.WaitsEnd := by
  intro n x s
  exact ⟨watchdogExpire_due, watchdogExpire_notDue, fun _ ⟨hw, hown, hr⟩ => waitMatch_due hw hown hr, waitMatch_notDue,
    cueComparatorFire_event, cueComparatorFire_disarms, cueComparatorFire_notDue,
    fun _ _ _ ⟨hw, hown, htaken⟩ => waitevWake_due hw hown htaken, waitevWake_notDue,
    fun _ _ _ ⟨hw, hown, hr⟩ => waitevTimeout_due hw hown hr, waitevTimeout_notDue,
    fun _ _ _ ⟨hw, hown, hall⟩ => tsyncRelease_due hw hown hall, tsyncRelease_notDue,
    fun _ _ _ ⟨hw, hown, hr⟩ => tsyncTimeout_due hw hown hr, tsyncTimeout_notDue, fenceComplete_due, fenceComplete_notDue⟩

end Sys2Proof.Proofs
end

section
/-! PROOFS. Substitution of an engine (R172, R173): the writes of CUE_SUBST_CTRL, the steps of a requested and of an automatic
substitution, and the statement about them. -/
namespace Sys2Proof.Proofs
open Sys2Proof.Machine Sys2Proof.Laws

/-! ### The commands -/

section
variable (w : Word) (pass ecc : Bool) (s : State)

theorem exec_engSubstStart : exec (.engSubstStart w) s =
    ok (s.hostWrite 0x60008 (Nat.lor w.toNat 1) (State.substCtrl (Nat.lor w.toNat 1))) := rfl

theorem exec_engSubstAbort : exec (.engSubstAbort w) s =
    ok (s.hostWrite 0x60008 (Nat.lor w.toNat 2) (State.substCtrl (Nat.lor w.toNat 2))) := rfl

theorem exec_engSubstSelftestDone : exec (.engSubstSelftestDone pass) s = execEngSubstSelftestDone pass s := rfl

theorem exec_engSubstAutoDone : exec (.engSubstAutoDone ecc) s = execEngSubstAutoDone ecc s := rfl

end

/-! ### CUE_SUBST_CTRL (R172) -/

/-- The answer to START: it was requested, and `code` is its result. -/
def substResult (code : Nat) (s : State) : State := (s.wr F.CUE_SUBST_CTRL_AUTO 0 0).wr F.CUE_SUBST_CTRL_RESULT 0 code

/-- START refused with `code`. -/
def substRefused (code : Nat) (s : State) : State := (substResult code s).wr F.CUE_SUBST_CTRL_STATE 0 4

/-- START by its code: 0 begins the substitution of the target selected, another refuses it. -/
def substAnswered (code : Nat) (s : State) : State :=
  if code = 0 then
    { (substResult code s).wr F.CUE_SUBST_CTRL_STATE 0 1 with
      subst := { s.subst with step := 1, target := s.rd F.CUE_SUBST_CTRL_TARGET 0, auto := false } }
  else substRefused code s

/-- The code of START: the first refusal that holds, or 0. -/
def substCode (s : State) : Nat :=
  if s.rd F.CUE_SUBST_CTRL_TARGET 0 = s.spareNum ∨ 4 < s.rd F.CUE_SUBST_CTRL_TARGET 0 then 3
  else if s.subst.step ≠ 0 then 2 else if s.es s.spareNum ≠ Es.spare then 1 else 0

theorem substStart_answered (s : State) : s.substStart = substAnswered (substCode s) s := rfl

theorem substStart_eq (s : State) : s.substStart =
    if s.rd F.CUE_SUBST_CTRL_TARGET 0 = s.spareNum ∨ 4 < s.rd F.CUE_SUBST_CTRL_TARGET 0 then substRefused 3 s
    else if s.subst.step ≠ 0 then substRefused 2 s else if s.es s.spareNum ≠ Es.spare then substRefused 1 s
    else substAnswered 0 s := by
  rw [substStart_answered, substCode]
  simp only [apply_ite (substAnswered · s)]
  rfl

/-- The target of a write of CUE_SUBST_CTRL selected. -/
def targetSelected (v : Nat) (s : State) : State := s.wr F.CUE_SUBST_CTRL_TARGET 0 (bits v 4 3)

/-- A write of CUE_SUBST_CTRL: the target, whose three bits are all selectable, ABORT, then START. -/
theorem substCtrl_eq (v : Nat) (s : State) : State.substCtrl v s =
    if bit v 0 then (if bit v 1 then (targetSelected v s).substAbort else targetSelected v s).substStart
    else if bit v 1 then (targetSelected v s).substAbort else targetSelected v s := by
  have hthree : bits v 4 3 ≤ 7 := Nat.le_of_lt_succ (Nat.mod_lt _ (by decide))
  unfold State.substCtrl
  rw [if_pos hthree]
  rfl

theorem substCtrl_start (w : Nat) (s : State) : State.substCtrl (Nat.lor w 1) s =
    (if bit w 1 then (targetSelected (Nat.lor w 1) s).substAbort else targetSelected (Nat.lor w 1) s).substStart := by
  rw [substCtrl_eq, if_pos (bit_lor_set (by decide) w), bit_lor_clear (y := 1) (i := 1) (by decide) w]

theorem substCtrl_abort (w : Nat) (s : State) : State.substCtrl (Nat.lor w 2) s =
    if bit w 0 then (targetSelected (Nat.lor w 2) s).substAbort.substStart else (targetSelected (Nat.lor w 2) s).substAbort := by
  rw [substCtrl_eq, bit_lor_clear (y := 2) (i := 0) (by decide) w, if_pos (bit_lor_set (y := 2) (i := 1) (by decide) w)]

/-! ### The steps of a requested substitution (R172) -/

section
variable {s : State}

/-- The move may begin: the target does not run. -/
def TargetStill (s : State) : Prop :=
  s.es s.subst.target = Es.waiting ∨ s.es s.subst.target = Es.idle ∨ s.es s.subst.target = Es.stopped ∨
    s.es s.subst.target = Es.halted

/-- The target's memories copied to the spare, and READY shown. -/
def substCopied (s : State) : State := (s.copyEng s.subst.target s.spareNum).wr F.CUE_SUBST_CTRL_STATE 0 2

theorem engSubstCopyDone_due (h : s.subst.step = 1 ∧ s.subst.auto = false) :
    exec .engSubstCopyDone s = .next { substCopied s with subst := { (substCopied s).subst with step := 2 } } := congrArg ok (if_pos h)

theorem engSubstCopyDone_notDue (h : ¬ (s.subst.step = 1 ∧ s.subst.auto = false)) : exec .engSubstCopyDone s = .next s :=
  congrArg ok (if_neg h)

theorem engSubstSwap_due (h : s.subst.step = 2 ∧ TargetStill s) : exec .engSubstSwap s =
    .next (((s.copyEng s.subst.target s.spareNum).exchange s.subst.target).substRecord s.subst.target (s.winSeq s.subst.target) 0 0) :=
  congrArg ok (if_pos h)

theorem engSubstSwap_notDue (h : ¬ (s.subst.step = 2 ∧ TargetStill s)) : exec .engSubstSwap s = .next s := congrArg ok (if_neg h)

/-! ### The self-test of the released engine (R172) -/

/-- The self-test ended. -/
def selftestEnded (s : State) : State := { s with subst := { s.subst with testing := none } }

/-- Engine `p` marked RETIRED. -/
def markedRetired (p : Nat) (s : State) : State := s.wr F.CUE_PMAP_RETIRED 0 (withBit (s.rd F.CUE_PMAP_RETIRED 0) p true)

theorem engSubstSelftestDone_passes {p : Nat} (h : s.subst.testing = some p) : exec (.engSubstSelftestDone true) s =
    .next ((selftestEnded s).wr F.CUE_STATUS_STATE (selftestEnded s).spareNum Es.spare).spareShow := by
  rw [exec_engSubstSelftestDone, execEngSubstSelftestDone, h]
  rfl

theorem engSubstSelftestDone_fails {p : Nat} (h : s.subst.testing = some p) : exec (.engSubstSelftestDone false) s =
    .next ((markedRetired p (selftestEnded s)).wr F.CUE_STATUS_STATE (selftestEnded s).spareNum Es.retired).spareShow := by
  rw [exec_engSubstSelftestDone, execEngSubstSelftestDone, h]
  rfl

theorem engSubstSelftestDone_notDue (pass : Bool) (h : s.subst.testing = none) : exec (.engSubstSelftestDone pass) s = .next s := by
  rw [exec_engSubstSelftestDone, execEngSubstSelftestDone, h]
  rfl

/-! ### Automatic substitution (R173) -/

/-- An automatic substitution that failed on a word that cannot be corrected. -/
def autoFailed (s : State) : State :=
  { (s.wr F.CUE_SUBST_CTRL_STATE 0 4).wr F.CUE_SUBST_CTRL_RESULT 0 4 with subst := { s.subst with step := 0 } }

theorem engSubstAutoDone_fails (h : s.subst.step = 1 ∧ s.subst.auto = true) : exec (.engSubstAutoDone true) s =
    .next ((autoFailed s).substRecord s.subst.target s.subst.seq 4 s.subst.pc) :=
  congrArg ok ((if_pos h).trans (if_pos rfl))

theorem engSubstAutoDone_moves (h : s.subst.step = 1 ∧ s.subst.auto = true) : exec (.engSubstAutoDone false) s =
    .next ((((s.copyEng s.subst.target s.spareNum).exchange s.subst.target).autoRestart s.subst.target).substRecord s.subst.target
      s.subst.seq 0 s.subst.pc) :=
  congrArg ok ((if_pos h).trans (if_neg Bool.false_ne_true))

theorem engSubstAutoDone_notDue (ecc : Bool) (h : ¬ (s.subst.step = 1 ∧ s.subst.auto = true)) :
    exec (.engSubstAutoDone ecc) s = .next s := congrArg ok (if_neg h)

end

/-- Settles O30: a write of CUE_SUBST_CTRL is its target, ABORT and START; every other command is its step where the substitution stands
there, and nothing elsewhere. -/
theorem engineSubstitution : Obligations.EngineSubstitution := by
  intro w s go ab sel abort start b c still d bad
  have hstart (t : State) : t.substStart = start t := substStart_eq t
  refine ⟨?start, ?abort, fun hstep hown => engSubstCopyDone_due ⟨hstep, hown⟩, engSubstCopyDone_notDue,
    fun hstep hstill => engSubstSwap_due ⟨hstep, hstill⟩, engSubstSwap_notDue, fun _ => engSubstSelftestDone_passes,
    fun _ => engSubstSelftestDone_fails, engSubstSelftestDone_notDue, fun hstep hauto => engSubstAutoDone_fails ⟨hstep, hauto⟩,
    fun hstep hauto => engSubstAutoDone_moves ⟨hstep, hauto⟩, engSubstAutoDone_notDue⟩
  case start => exact puts_of_eq (exec_engSubstStart w s) ((substCtrl_start w.toNat s).trans (hstart _))
  case abort =>
    refine puts_of_eq (exec_engSubstAbort w s) ((substCtrl_abort w.toNat s).trans ?_)
    rw [hstart]
    rfl

end Sys2Proof.Proofs
end

section
/-! PROOFS. Mirroring on a standby (R168-R170, R399, R402): what a record, a value, a host write and an acknowledgement do where they are
taken, the end of a commit that none acknowledged, and the statement about them. -/
namespace Sys2Proof.Proofs
open Sys2Proof.Machine Sys2Proof.Laws

/-! ### The commands -/

section
variable (h : CobHdr) (n : Fin 5) (m : Fin 8) (ws v data : List Nat) (pc kind code space off : Nat) (p : Pos) (s : State)

theorem exec_recordRx : exec (.recordRx h n ws) s = ok (s.arrive h (.record n.val ws)) := rfl

theorem exec_valueRx : exec (.valueRx h m pc kind p v) s = ok (s.arrive h (.value m.val pc kind p v)) := rfl

theorem exec_hostwRx : exec (.hostwRx h space off p data) s = ok (s.arrive h (.hostw space off p data)) := rfl

theorem exec_cackRx : exec (.cackRx h n pc code) s = ok (s.arrive h (.cack n.val pc)) := rfl

theorem exec_cackTimeout : exec (.cackTimeout n) s = execCackTimeout n s := rfl

end

/-- A message that only one role may send: from the other it does what its action does. -/
theorem receivesFrom_of {r typ : Nat} {c : Instr} {h : CobHdr} {m : Received} {s t : State} {f : State → State}
    (hc : exec c s = ok (s.arrive h m)) (hr : r ≠ 0) (hact : (s.heard h).act h m = (s.heard h).deliver h typ r f)
    (ht : f (s.taken h) = t) : ReceivesFrom r typ c h m s t := by
  subst ht
  refine receives_of hc (hact.trans ?_)
  by_cases hrole : (s.taken h).role = r
  · exact (if_pos ⟨hr, hrole⟩).trans (if_pos hrole).symm
  · exact (if_neg fun hc => hrole hc.2).trans (if_neg hrole).symm

/-! ### A record (R168) -/

section
variable {s : State} {seq n : Nat} {ws : List Nat}

/-- Engine `n` can take a record: its window is empty, and it runs, waits or idles. -/
def TakesRecord (n : Nat) (s : State) : Prop :=
  (s.eng n).win = none ∧ (s.es n = Es.idle ∨ s.es n = Es.running ∨ s.es n = Es.waiting)

theorem takesRecord_iff : ((s.eng n).win.isSome || !(s.es n = Es.idle || s.es n = Es.running || s.es n = Es.waiting)) = false ↔
    TakesRecord n s := by
  simp only [TakesRecord, Bool.or_eq_false_iff, Option.isSome_eq_false_iff, Option.isNone_iff_eq_none, Bool.not_eq_false',
    Bool.or_eq_true, decide_eq_true_eq, or_assoc]

theorem onRecord_ignored (h : s.follows = false) : State.onRecord seq n ws s = s := if_pos (by rw [h]; rfl)

theorem onRecord_unmatched (h : s.follows = true) (hbusy : ¬ TakesRecord n s) :
    State.onRecord seq n ws s = s.outOfStep Mt.record seq :=
  (if_neg (by rw [h]; decide)).trans (if_pos (Bool.of_not_eq_false (mt takesRecord_iff.mp hbusy)))

/-- A record that is taken enters the window; the counter of a signed one is kept. -/
theorem onRecord_taken (h : s.follows = true) (hfree : TakesRecord n s) : State.onRecord seq n ws s =
    (if bit (ws.getD 0 0) 25 then s.wr64 F.CUE_AUTH_CTR_LO F.CUE_AUTH_CTR_HI n (recCounter ws) else s).loadWindow n ws :=
  (if_neg (by rw [h]; decide)).trans (if_neg (Bool.eq_false_iff.mp (takesRecord_iff.mpr hfree)))

theorem onRecord_plain (h : s.follows = true) (hfree : TakesRecord n s) (hsig : bit (ws.getD 0 0) 25 = false) :
    State.onRecord seq n ws s = s.loadWindow n ws := by
  rw [onRecord_taken h hfree, if_neg (Bool.eq_false_iff.mp hsig)]

theorem onRecord_signed (h : s.follows = true) (hfree : TakesRecord n s) (hsig : bit (ws.getD 0 0) 25 = true) :
    State.onRecord seq n ws s = (s.wr64 F.CUE_AUTH_CTR_LO F.CUE_AUTH_CTR_HI n (recCounter ws)).loadWindow n ws := by
  rw [onRecord_taken h hfree, if_pos hsig]

end

/-! ### A value (R168, R399) -/

section
variable {s : State} {seq m pc kind : Nat} {p : Pos} {v : List Nat}

/-- A value as it waits for its instruction. -/
def valueItem (seq m pc kind : Nat) (p : Pos) (v : List Nat) : List Nat :=
  [seq, m, pc, kind, p.frame % 2 ^ 32, p.frame / 2 ^ 32 % 2 ^ 32, p.line % 65536 + 65536 * (p.sample % 65536)] ++ v

/-- No engine stands where a value of number `m` is due. -/
def NoTaker (m : Nat) (s : State) : Prop := 4 < m ∨ ((s.eng m).wait = .none ∧ s.es m ≠ Es.running)

theorem onValue_ignored (h : s.follows = false) : State.onValue seq m pc kind p v s = s := if_pos (by rw [h]; rfl)

theorem onValue_host (h : s.follows = true) (hm : m = 7) : State.onValue seq m pc kind p v s = s.mirrorHost v seq :=
  (if_neg (by rw [h]; decide)).trans (if_pos hm)

theorem onValue_unmatched (h : s.follows = true) (hm : m ≠ 7) (hno : NoTaker m s) :
    State.onValue seq m pc kind p v s = s.outOfStep Mt.value seq :=
  (if_neg (by rw [h]; decide)).trans ((if_neg hm).trans (if_pos hno))

theorem onValue_kept (h : s.follows = true) (hm : m ≠ 7) (hno : ¬ NoTaker m s) : State.onValue seq m pc kind p v s =
    (s.setEng m { s.eng m with vals := (s.eng m).vals ++ [valueItem seq m pc kind p v] }).mirrorEnd m :=
  (if_neg (by rw [h]; decide)).trans ((if_neg hm).trans (if_neg hno))

end

/-! ### A host write (R399) and an acknowledgement (R169, R402) -/

section
variable {s : State} {seq n pc space off : Nat} {p : Pos} {data : List Nat}

theorem onHostw_ignored (h : s.follows = false) : State.onHostw seq space off p data s = s := if_pos (by rw [h]; rfl)

theorem onHostw_applied (h : s.follows = true) :
    State.onHostw seq space off p data s = s.atPos p fun s => s.hostwApply space off seq data := if_neg (by rw [h]; decide)

theorem onCack_accepts {since own : Nat} {d : Option Nat} (h : s.commitWait n = some (since, own, d)) (hpc : pc = s.pc n) :
    State.onCack seq n pc s = s.commitAccept n own d := by
  rw [State.onCack, h]
  exact if_pos hpc

theorem onCack_other {since own : Nat} {d : Option Nat} (h : s.commitWait n = some (since, own, d)) (hpc : pc ≠ s.pc n) :
    State.onCack seq n pc s = s.outOfStep Mt.cack seq := by
  rw [State.onCack, h]
  exact if_neg hpc

theorem onCack_alone (h : s.commitWait n = none) (halone : s.twin.alone = true) : State.onCack seq n pc s = s := by
  rw [State.onCack, h]
  exact if_pos halone

theorem onCack_unmatched (h : s.commitWait n = none) (halone : s.twin.alone = false) :
    State.onCack seq n pc s = s.outOfStep Mt.cack seq := by
  rw [State.onCack, h]
  exact if_neg (Bool.eq_false_iff.mp halone)

end

/-! ### A commit that none acknowledged (R169, R402) -/

section
variable {s : State} {n : Fin 5} {since own : Nat} {d : Option Nat}

/-- ACK_TIMEOUT has passed since a commit began to wait on a device that ends its own waits. -/
def AckLate (since : Nat) (s : State) : Prop :=
  s.fromMirror = false ∧ since + s.rd F.COBALT_CFG_ACK_TIMEOUT 0 * usClk ≤ s.clk

theorem ackLate_iff : (s.fromMirror || !decide (since + s.rd F.COBALT_CFG_ACK_TIMEOUT 0 * usClk ≤ s.clk)) = false ↔
    AckLate since s := by
  rw [Bool.or_eq_false_iff, Bool.not_eq_false', decide_eq_true_eq]
  rfl

/-- The device runs alone from a commit that its twin did not acknowledge. -/
def goneAlone (s : State) : State :=
  ({ s with twin := { s.twin with alone := true } }.clearInStep.event F.COBALT_EVENT_ACK_TIMEOUT 0 Irq.cobalt).faultEvent Src.cobalt true

theorem cackTimeout_late (hw : s.commitWait n = some (since, own, d)) (hlate : AckLate since s) : exec (.cackTimeout n) s =
    .next (if s.mirroring then goneAlone (s.commitEnd n own d own) else s.commitEnd n own d own) := by
  rw [exec_cackTimeout, execCackTimeout, hw]
  exact congrArg ok (if_neg (Bool.eq_false_iff.mp (ackLate_iff.mpr hlate)))

theorem cackTimeout_early (hw : s.commitWait n = some (since, own, d)) (hearly : ¬ AckLate since s) :
    exec (.cackTimeout n) s = .next s := by
  rw [exec_cackTimeout, execCackTimeout, hw]
  exact congrArg ok (if_pos (Bool.of_not_eq_false (mt ackLate_iff.mp hearly)))

theorem cackTimeout_quiet (hw : s.commitWait n = some (since, own, d)) (hlate : AckLate since s) (hm : s.mirroring = false) :
    exec (.cackTimeout n) s = .next (s.commitEnd n own d own) := by
  rw [cackTimeout_late hw hlate, if_neg (Bool.eq_false_iff.mp hm)]

theorem cackTimeout_mirroring (hw : s.commitWait n = some (since, own, d)) (hlate : AckLate since s) (hm : s.mirroring = true) :
    exec (.cackTimeout n) s = .next (goneAlone (s.commitEnd n own d own)) := by
  rw [cackTimeout_late hw hlate, if_pos hm]

theorem cackTimeout_none (hw : s.commitWait n = none) : exec (.cackTimeout n) s = .next s := by
  rw [exec_cackTimeout, execCackTimeout, hw]
  rfl

end

/-- Settles O52: each message does what its action does to the state after its header, where its sender may send it; a commit's timeout
goes by its wait. -/
theorem mirrorCommands : Obligations.MirrorCommands := by
  intro h n m ws v data pc kind code space off p s x item free idle wait late alone record value hostw cack
  have hrecord {t : State} (ht : State.onRecord h.seq n ws x = t) : record t :=
    receivesFrom_of (exec_recordRx h n ws s) (by decide) rfl ht
  have hvalue {t : State} (ht : State.onValue h.seq m pc kind p v x = t) : value t :=
    receivesFrom_of (exec_valueRx h m v pc kind p s) (by decide) rfl ht
  have hhostw {t : State} (ht : State.onHostw h.seq space off p data x = t) : hostw t :=
    receivesFrom_of (exec_hostwRx h data space off p s) (by decide) rfl ht
  have hcack {t : State} (ht : State.onCack h.seq n pc x = t) : cack t :=
    receivesFrom_of (exec_cackRx h n pc code s) (by decide) rfl ht
  have hhost : m = 7 ↔ m.val = 7 := Fin.ext_iff
  refine ⟨?ignored, ?plain, ?signed, ?unmatched, ?host, ?kept, ?untaken, ?write, ?accepts, ?other, ?alone, ?none, ?quiet, ?mirroring,
    ?early, cackTimeout_none⟩
  case ignored => exact fun hf => ⟨hrecord (onRecord_ignored hf), hvalue (onValue_ignored hf), hhostw (onHostw_ignored hf)⟩
  case plain => exact fun hf hfree hsig => hrecord (onRecord_plain hf hfree hsig)
  case signed => exact fun hf hfree hsig => hrecord (onRecord_signed hf hfree hsig)
  case unmatched => exact fun hf hbusy => hrecord (onRecord_unmatched hf hbusy)
  case host => exact fun hf hm => hvalue (onValue_host hf (hhost.mp hm))
  case kept => exact fun hf hm hno => hvalue (onValue_kept hf (mt hhost.mpr hm) hno)
  case untaken => exact fun hf hm hno => hvalue (onValue_unmatched hf (mt hhost.mpr hm) hno)
  case write => exact fun hf => hhostw (onHostw_applied hf)
  case accepts => exact fun _ _ _ hw hpc => hcack (onCack_accepts hw hpc)
  case other => exact fun _ _ _ hw hpc => hcack (onCack_other hw hpc)
  case alone => exact fun hw halone => hcack (onCack_alone hw halone)
  case none => exact fun hw halone => hcack (onCack_unmatched hw halone)
  case quiet => exact fun _ _ _ hw hlate hm => cackTimeout_quiet hw hlate hm
  case mirroring => exact fun _ _ _ hw hlate hm => cackTimeout_mirroring hw hlate hm
  case early => exact fun _ _ _ hw hearly => cackTimeout_early hw hearly

end Sys2Proof.Proofs
end

section
/-! PROOFS. Ednel's arithmetic (R186-R189): what each instruction computes fits gd, and the statement about them. -/
namespace Sys2Proof.Proofs
open Sys2Proof.Machine Sys2Proof.Laws

/-! ### The instructions -/

section
variable (n : Fin 5) (hw : Option EngErr) (s : State)

theorem exec_li : exec (.li n hw) s = ok (s.engRun n 0x10 hw fun i s => s.goG n i (wrapInt 32 i.simm)) := rfl

theorem exec_liLong : exec (.liLong n hw) s = ok (s.engRun n 0x11 hw fun i s => s.goG n i i.x) := rfl

theorem exec_lui : exec (.lui n hw) s = ok (s.engRun n 0x12 hw fun i s => s.goG n i (s.g n i.d % 65536 + 65536 * i.imm)) := rfl

theorem exec_add : exec (.add n hw) s = ok (s.engRun n 0x13 hw fun i s => s.goG n i (wrapInt 32 (s.g n i.a + s.opSigned n i))) := rfl

theorem exec_sub : exec (.sub n hw) s = ok (s.engRun n 0x14 hw fun i s => s.goG n i (wrapInt 32 (s.g n i.a - s.opSigned n i))) := rfl

theorem exec_and : exec (.and n hw) s = ok (s.engRun n 0x15 hw fun i s => s.goG n i (Nat.land (s.g n i.a) (s.opPlain n i))) := rfl

theorem exec_or : exec (.or n hw) s = ok (s.engRun n 0x16 hw fun i s => s.goG n i (Nat.lor (s.g n i.a) (s.opPlain n i))) := rfl

theorem exec_xor : exec (.xor n hw) s = ok (s.engRun n 0x17 hw fun i s => s.goG n i (Nat.xor (s.g n i.a) (s.opPlain n i))) := rfl

theorem exec_shl : exec (.shl n hw) s = ok (s.engRun n 0x18 hw fun i s =>
    s.goG n i (s.g n i.a * 2 ^ s.shiftBy n i % 2 ^ 32)) := rfl

theorem exec_shr : exec (.shr n hw) s = ok (s.engRun n 0x19 hw fun i s =>
    s.goG n i (shr32 (s.g n i.a) (s.shiftBy n i) (bit i.w 14))) := rfl

theorem exec_cmp : exec (.cmp n hw) s = ok (s.engRun n 0x1A hw fun i s =>
    s.goG n i (b2n (compare (bits i.w 12 3) (s.g n i.a) (s.cmpOperand n i)))) := rfl

end

/-! ### Values of 32 bits -/

theorem wrapInt_lt (x : Int) : wrapInt 32 x < 2 ^ 32 := by
  unfold wrapInt
  omega

theorem rd_lt (s : State) (f : Fld) (i : Nat) : s.rd f i < 2 ^ f.w := Nat.mod_lt _ (Nat.two_pow_pos _)

theorem g_lt (s : State) (n j : Nat) : s.g n j < 2 ^ 32 := rd_lt s F.CUE_GREG_VALUE _

theorem bits_lt (x lo w : Nat) : bits x lo w < 2 ^ w := Nat.mod_lt _ (Nat.two_pow_pos _)

theorem shr32_lt {v : Nat} (h : v < 2 ^ 32) (k : Nat) (arith : Bool) : shr32 v k arith < 2 ^ 32 := by
  cases arith with
  | false => exact (Nat.div_le_self _ _).trans_lt h
  | true => exact wrapInt_lt _

theorem b2n_lt (b : Bool) : b2n b < 2 ^ 32 := by cases b <;> decide

theorem lui_lt (v : Nat) (i : Ins) : v % 65536 + 65536 * i.imm < 2 ^ 32 := by
  have himm : i.imm < 2 ^ 16 := bits_lt i.w 0 16
  omega

/-! ### The second operand (R187-R189) -/

/-- The register of a second operand; nothing where the operand is the immediate. -/
def regOperand (n : Nat) (i : Ins) (s : State) : Nat := if i.isImm then 0 else s.g n (bits i.w 0 4)

section
variable (s : State) (n : Nat) (i : Ins)

theorem opSigned_eq : s.opSigned n i = if i.isImm then sx 15 i.w else (regOperand n i s : Int) := by
  unfold State.opSigned regOperand
  split <;> rfl

theorem opPlain_eq : s.opPlain n i = if i.isImm then bits i.w 0 15 else regOperand n i s := by
  unfold State.opPlain regOperand
  split <;> rfl

theorem shiftBy_eq : s.shiftBy n i = (if i.isImm then i.w else regOperand n i s) % 32 := by
  unfold State.shiftBy regOperand
  split <;> rfl

theorem cmpOperand_eq : s.cmpOperand n i = if i.isImm then wrapInt 32 (sx 12 i.w) else regOperand n i s := by
  unfold State.cmpOperand regOperand
  split <;> rfl

theorem opPlain_lt : s.opPlain n i < 2 ^ 32 := by
  unfold State.opPlain
  split
  · exact (bits_lt _ _ _).trans (by decide)
  · exact g_lt _ _ _

end

/-! ### The statement -/

/-- An instruction that writes gd with a value of 32 bits and goes on. -/
theorem givesReg_ready {c : Instr} {s : State} {n op v : Nat} {hw : Option EngErr} {value : Ins → State → Nat}
    (hc : exec c s = ok (s.engRun n op hw fun i s => s.goG n i (value i s))) (hclean : Clean hw) (hflow : flowCode op = false)
    (hlt : value (s.ins n) s < 2 ^ 32) (hv : value (s.ins n) s = v) (hr : s.Ready n op) : GivesReg c s n v := by
  rw [← hv, ← Nat.mod_eq_of_lt hlt]
  exact givesReg_of (nxt_lt_of_ready hr hflow) (exec_ready hc hr hclean rfl)

/-- Settles O8: each instruction's value fits gd, and its second operand is the one that its form names. -/
theorem arithmeticResults : Obligations.ArithmeticResults := by
  unfold Obligations.ArithmeticResults
  intro n hw s hclean i a b
  have ha : a < 2 ^ 32 := g_lt s n i.a
  have hsigned : s.opSigned n i = if i.isImm then sx 15 i.w else (b : Int) := opSigned_eq s n i
  have hplain : s.opPlain n i = if i.isImm then bits i.w 0 15 else b := opPlain_eq s n i
  have hplainLt : s.opPlain n i < 2 ^ 32 := opPlain_lt s n i
  have hshift : s.shiftBy n i = (if i.isImm then i.w else b) % 32 := shiftBy_eq s n i
  have hcmp : s.cmpOperand n i = if i.isImm then wrapInt 32 (sx 12 i.w) else b := cmpOperand_eq s n i
  refine ⟨?li, ?liLong, ?lui, ?add, ?sub, ?and, ?or, ?xor, ?shl, ?shr, ?cmp⟩
  case li => exact givesReg_ready (exec_li n hw s) hclean rfl (wrapInt_lt _) rfl
  case liLong => exact fun hr => givesReg_of (nxt_lt_of_ready hr rfl) (exec_ready (exec_liLong n hw s) hr hclean rfl)
  case lui => exact givesReg_ready (exec_lui n hw s) hclean rfl (lui_lt _ _) rfl
  case add =>
    refine givesReg_ready (exec_add n hw s) hclean rfl (wrapInt_lt _) ?_
    rw [hsigned]
    split <;> rfl
  case sub =>
    refine givesReg_ready (exec_sub n hw s) hclean rfl (wrapInt_lt _) ?_
    rw [hsigned]
    split <;> rfl
  case and => exact givesReg_ready (exec_and n hw s) hclean rfl (Nat.and_lt_two_pow _ hplainLt) (congrArg (Nat.land a) hplain)
  case or => exact givesReg_ready (exec_or n hw s) hclean rfl (Nat.or_lt_two_pow ha hplainLt) (congrArg (Nat.lor a) hplain)
  case xor => exact givesReg_ready (exec_xor n hw s) hclean rfl (Nat.xor_lt_two_pow ha hplainLt) (congrArg (Nat.xor a) hplain)
  case shl =>
    exact givesReg_ready (exec_shl n hw s) hclean rfl (Nat.mod_lt _ (Nat.two_pow_pos _))
      (congrArg (fun k => a * 2 ^ k % 2 ^ 32) hshift)
  case shr =>
    exact givesReg_ready (exec_shr n hw s) hclean rfl (shr32_lt ha _ _) (congrArg (fun k => shr32 a k (bit i.w 14)) hshift)
  case cmp =>
    exact givesReg_ready (exec_cmp n hw s) hclean rfl (b2n_lt _) (congrArg (fun y => b2n (compare (bits i.w 12 3) a y)) hcmp)

end Sys2Proof.Proofs
end

section
/-! PROOFS. What ST changes (R190): the words of data and shared memory under a store, and the statement about its frame. -/
namespace Sys2Proof.Proofs
open Sys2Proof.Machine Sys2Proof.Laws

/-! ### Stores -/

section
variable {s : State} {n a : Nat}

theorem copyTo_none (h : s.subst.step = 0) (n : Nat) : s.copyTo n = none := if_neg fun hcopy => hcopy.1 h

/-- While no substitution copies the engine's memories, a store changes its own data memory alone. -/
theorem dmemPut_uncopied (h : s.subst.step = 0) (n a v : Nat) :
    s.dmemPut n a v = { s with dmem := tput s.dmem (n * 16384 + a) (v % 2 ^ 32) 0 } := by
  simp only [State.dmemPut, copyTo_none h]

/-- The regions of Table 6-3 do not meet. -/
theorem isData_false_of_isShared (h : isShared a = true) : isData a = false := by
  simp only [isShared, isData, decide_eq_true_eq, decide_eq_false_iff_not] at *
  omega

theorem localRead_data (h : isData a = true) : s.localRead n a = s.dmemWord n (a / 4) := if_pos h

theorem localRead_shared (h : isShared a = true) : s.localRead n a = s.smemWord ((a - 0x100000) / 4) := by
  simp [State.localRead, isData_false_of_isShared h, h]

theorem localWrite_data (h : isData a = true) (v : Nat) : s.localWrite n a v = s.dmemPut n (a / 4) v := if_pos h

theorem localWrite_shared (h : isShared a = true) (v : Nat) : s.localWrite n a v = s.smemPut ((a - 0x100000) / 4) v :=
  if_neg (Bool.eq_false_iff.mp (isData_false_of_isShared h))

end

/-! ### The frame of a store -/

/-- What the state `t` after a store of `v` at the local address `a` of engine `n` holds. -/
def StoredAlone (n a v : Nat) (s t : State) : Prop :=
  t.localRead n a = v ∧ t.pmem = s.pmem ∧
    (∀ m q, q < 16384 → (isData a = true → m = n → q ≠ a / 4) → m < 5 → t.dmemWord m q = s.dmemWord m q) ∧
    (∀ q, (isShared a = true → q ≠ (a - 0x100000) / 4) → t.smemWord q = s.smemWord q) ∧
    ∀ k d, k ≠ F.CUE_PC_PC.key n → tget t.regs k d = tget s.regs k d

section
variable {s : State} {n a v : Nat} (hv : v < 2 ^ 32) (x : Nat)
include hv

theorem storedAlone_data (hstep : s.subst.step = 0) (h : isData a = true) :
    StoredAlone n a v s ((s.localWrite n a v).setPc n x) := by
  have ha : a / 4 < 16384 := by
    simp only [isData, decide_eq_true_eq] at h
    omega
  rw [localWrite_data h, dmemPut_uncopied hstep]
  refine ⟨?_, rfl, fun m q hq hother _ => ?_, fun _ _ => rfl, fun k d hk => tget_tput_ne _ _ _ _ _ _ hk⟩
  · rw [localRead_data h]
    exact (tget_tput_same _ _ _ _).trans (Nat.mod_eq_of_lt hv)
  · have hword : m * 16384 + q ≠ n * 16384 + a / 4 := fun hkey => hother h (by omega) (by omega)
    exact tget_tput_ne _ _ _ _ _ _ hword

theorem storedAlone_shared (h : isShared a = true) : StoredAlone n a v s ((s.localWrite n a v).setPc n x) := by
  rw [localWrite_shared h]
  refine ⟨?_, rfl, fun _ _ _ _ _ => rfl, fun q hother => ?_, fun k d hk => tget_tput_ne _ _ _ _ _ _ hk⟩
  · rw [localRead_shared h]
    exact (tget_tput_same _ _ _ _).trans (Nat.mod_eq_of_lt hv)
  · exact (smemWord_smemPut _ _ _ _).trans (if_neg (hother h))

end

/-! ### The statement -/

/-- Settles O10: a store changes one word of the memory that its address lies in, and PC. -/
theorem storeFrame : Obligations.StoreFrame := by
  unfold Obligations.StoreFrame
  intro n s t hr hstep hexec i a hin
  obtain ⟨hal, hregion⟩ := hin
  have hstores := exec_ready (exec_st n none s) hr rfl (orFault_none (accessFault_write hal hregion))
  obtain rfl : t = (s.localWrite n a (s.g n i.d)).setPc n i.nxt := Host.Outcome.next.inj (hexec.symm.trans hstores)
  have hv : s.g n i.d < 2 ^ 32 := g_lt s n i.d
  rcases hregion with hdata | hshared
  · exact storedAlone_data hv i.nxt hstep hdata
  · exact storedAlone_shared hv i.nxt hshared

end Sys2Proof.Proofs
end

section
/-! PROOFS. What stops an engine (R163, R178, Table 6-7): an undefined opcode, an error met before the instruction, what a fault stop
leaves, and the statement about them. -/
namespace Sys2Proof.Proofs
open Sys2Proof.Machine Sys2Proof.Laws

/-! ### Stops before the instruction -/

section
variable {s : State} {n : Nat} {hw : Option EngErr} {code : Nat} (htakes : s.takes n = true) (hstop : hw.bind EngErr.stop = some code)
include htakes hstop

theorem engRun_stops (op : Nat) (body : Ins → State → State) : s.engRun n op hw body = s.faultStop n code 0 := by
  simp [State.engRun, htakes, hstop]

end

section
variable {s : State} {n : Fin 5} {hw : Option EngErr} (htakes : s.takes n = true)
include htakes

theorem undefinedOpcode_illegal (hclean : Clean hw) (hop : definedOp (s.ins n).op = false) :
    exec (.undefinedOpcode n hw) s = .next (s.faultStop n Fc.illegal 0) := by
  rw [show exec (.undefinedOpcode n hw) s = execUndefinedOpcode n hw s from rfl, execUndefinedOpcode,
    show hw.bind EngErr.stop = none from hclean]
  simp [htakes, hop, ok]

theorem undefinedOpcode_stops {code : Nat} (hstop : hw.bind EngErr.stop = some code) :
    exec (.undefinedOpcode n hw) s = .next (s.faultStop n code 0) := by
  rw [show exec (.undefinedOpcode n hw) s = execUndefinedOpcode n hw s from rfl, execUndefinedOpcode, hstop]
  simp [htakes, ok]

end

/-- Every Ednel command but UNDEFINED_OPCODE is an instruction that its engine takes. -/
theorem ednelOf_engRun {c : Instr} {n : Fin 5} {hw : Option EngErr} (h : ednelOf c = some (n, hw)) (s : State) :
    c = .undefinedOpcode n hw ∨ ∃ op body, exec c s = ok (s.engRun n op hw body) := by
  unfold ednelOf at h
  split at h
  all_goals cases h
  case h_49 => exact .inl rfl -- UNDEFINED_OPCODE, the list's last
  all_goals exact .inr ⟨_, _, rfl⟩

theorem ednel_stops {c : Instr} {n : Fin 5} {e : EngErr} {code : Nat} {s : State} (hc : ednelOf c = some (n, some e))
    (hstop : Sys2Proof.Machine.EngErr.stop e = some code) (htakes : s.takes n = true) : exec c s = .next (s.faultStop n code 0) := by
  rcases ednelOf_engRun hc s with rfl | ⟨op, body, hrun⟩
  · exact undefinedOpcode_stops htakes hstop
  · rw [hrun, engRun_stops (hw := some e) htakes hstop]
    rfl

/-! ### What a fault stop leaves (R163) -/

/-- The crosspoint's staging. -/
def stagedView (s : State) : Tab XShadow × List XCommit := (s.xShadow, s.xCommits)

theorem stagedView_wr (s : State) (f : Fld) (i v : Nat) : stagedView (s.wr f i v) = stagedView s := rfl

theorem stagedView_raise (s : State) (x : Nat) : stagedView (s.raise x) = stagedView s := by
  simp only [stagedView, raise_xShadow, raise_xCommits]

theorem stagedView_evRecord (s : State) (typ eng seq code d0 d1 : Nat) :
    stagedView (s.evRecord typ eng seq code d0 d1) = stagedView s := by
  unfold State.evRecord
  split
  · rfl
  · split
    · rfl
    · exact stagedView_raise _ _

/-- Engine `n` FAULTED with the stop's class, code and address, its wait abandoned and its comparators disarmed. -/
def faultMarked (n code addr : Nat) (s : State) : State :=
  (((((s.abandonWait n).disarmAll n).wr F.CUE_STATUS_STATE n Es.faulted).wr F.CUE_STATUS_FAULT_CLASS n (faultClass code)).wr
    F.CUE_STATUS_FAULT_CODE n code).wr F.CUE_FAULT_ADDR_ADDR n addr

theorem faultMarked_state (n code addr : Nat) (s : State) : (faultMarked n code addr s).rd F.CUE_STATUS_STATE n = Es.faulted := by
  unfold faultMarked
  simp (disch := decide) only [rd_wr_apart, rd_wr_same]
  rfl

theorem faultMarked_class (n code addr : Nat) (s : State) :
    (faultMarked n code addr s).rd F.CUE_STATUS_FAULT_CLASS n = faultClass code % 4 := by
  unfold faultMarked
  simp (disch := decide) only [rd_wr_apart, rd_wr_same]
  rfl

theorem faultMarked_code (n code addr : Nat) (s : State) : (faultMarked n code addr s).rd F.CUE_STATUS_FAULT_CODE n = code % 256 := by
  unfold faultMarked
  simp (disch := decide) only [rd_wr_apart, rd_wr_same]
  rfl

theorem faultMarked_addr (n code addr : Nat) (s : State) : (faultMarked n code addr s).rd F.CUE_FAULT_ADDR_ADDR n = addr % 2 ^ 32 :=
  rd_wr_same _ _ _ _

theorem faultMarked_pc {n : Nat} (hn : n < 5) (code addr : Nat) (s : State) : (faultMarked n code addr s).pc n = s.pc n := by
  unfold faultMarked State.abandonWait State.disarmAll State.pc
  simp (disch := decide) only [rd_wr_apart]
  exact rd_wr_offCue (f := F.ADMIT_QUEUE_WAITING) (g := F.CUE_PC_PC) (by decide) (by decide)
    (by rw [show F.CUE_PC_PC.n2 = 1 from rfl, Nat.div_one]; exact hn) _ _

section
variable {n code : Nat} {s : State}

/-- A stop of class PROGRAM marks the engine and reports it. -/
theorem faultStop_program (h : faultClass code = 1) (addr : Nat) :
    s.faultStop n code addr = (faultMarked n code addr s).evRecord 0x03 n (s.winSeq n) code (s.pc n) addr := if_pos h

/-- A register field of the engines reads after the stop as the mark left it. -/
theorem faultStop_rd (hn : n < 5) (h : faultClass code = 1) (addr : Nat) {g : Fld} (hg : CueField g ∧ g.n2 = 1) :
    (s.faultStop n code addr).rd g n = (faultMarked n code addr s).rd g n := by
  rw [faultStop_program h]
  exact rd_evRecord_cueField hg.1 (by rw [hg.2, Nat.div_one]; exact hn) _ _ _ _ _ _ _

theorem faultStop_sameMem (h : faultClass code = 1) (addr : Nat) : SameMem s (s.faultStop n code addr) := by
  rw [faultStop_program h]
  exact sameMem_of_engView (s := faultMarked n code addr s) (engView_evRecord _ _ _ _ _ _ _)

theorem faultStop_stagedView (h : faultClass code = 1) (addr : Nat) : stagedView (s.faultStop n code addr) = stagedView s := by
  rw [faultStop_program h]
  exact stagedView_evRecord _ _ _ _ _ _ _

end

/-! ### The statement -/

/-- Settles O16: an error stops whatever instruction the engine takes, and a stop is a mark on the engine's own registers, reported to
the event ring. -/
theorem engineStops : Obligations.EngineStops := by
  unfold Obligations.EngineStops
  refine ⟨⟨fun n hw s hclean htakes hop => undefinedOpcode_illegal htakes hclean hop,
    fun c n e code s hc hstop htakes => ednel_stops hc hstop htakes⟩, ?stop⟩
  case stop =>
    intro n s code a hcode ha t
    have hclass : faultClass code = 1 := if_pos hcode
    have hread {g : Fld} (hg : CueField g ∧ g.n2 = 1) : t.rd g n = (faultMarked n code a s).rd g n := faultStop_rd n.isLt hclass a hg
    have hstaged : stagedView t = stagedView s := faultStop_stagedView hclass a
    refine ⟨?es, ?code, ?cls, ?addr, ?pc, faultStop_sameMem hclass a, congrArg Prod.fst hstaged, congrArg Prod.snd hstaged⟩
    case es => exact (hread (by decide)).trans (faultMarked_state n code a s)
    case code => exact (hread (by decide)).trans ((faultMarked_code n code a s).trans (Nat.mod_eq_of_lt (hcode.trans (by decide))))
    case cls => exact (hread (by decide)).trans ((faultMarked_class n code a s).trans (by rw [hclass]))
    case addr => exact (hread (by decide)).trans ((faultMarked_addr n code a s).trans (Nat.mod_eq_of_lt ha))
    case pc => exact (hread (by decide)).trans (faultMarked_pc n.isLt code a s)

end Sys2Proof.Proofs
end

section
/-! PROOFS. EMIT and SUMMARY (R216, R219, R220): what each does or refuses, and the statement about them. -/
namespace Sys2Proof.Proofs
open Sys2Proof.Machine Sys2Proof.Laws

/-! ### The instructions -/

section
variable (n : Fin 5) (hw : Option EngErr) (s : State)

theorem exec_emit : exec (.emit n hw) s = ok (s.engRun n 0x80 hw fun i s =>
    (s.emit n (bits i.w 0 6) (s.g n i.a) (s.g n i.b)).1.goRs n i (s.emit n (bits i.w 0 6) (s.g n i.a) (s.g n i.b)).2) := rfl

theorem exec_summary : exec (.summary n hw) s = ok (s.engRun n 0x83 hw fun i s => s.asActive n fun u =>
    (u.summaryReq n (bit i.w 0)).1.goRs n i (if (u.summaryReq n (bit i.w 0)).2 then Rc.ok else Rc.busy)) := rfl

end

/-! ### What EMIT does (R216) -/

theorem ne_zero_of_bit {m i : Nat} (h : bit m i = true) : m ≠ 0 := by
  rintro rfl
  simp [bit] at h

section
variable {s : State} {n m d0 d1 : Nat}

/-- Engine events leave the record in the window. -/
theorem winSeq_engMask (mask b : Nat) : (s.engMask mask b).winSeq n = s.winSeq n := by
  simp only [State.winSeq, State.eng, engMask_engs]

theorem emit_none (h : m = 0) : s.emit n m d0 d1 = (s, Rc.arg) := if_pos h

theorem emit_engines (hm : m ≠ 0) (hhost : bit m 5 = false) : s.emit n m d0 d1 = (s.engMask (m % 32) (16 + n), Rc.ok) := by
  simp [State.emit, hm, hhost]

theorem emit_host (hhost : bit m 5 = true) (hopen : s.evrOpen = true) (hroom : s.evrFull = false) :
    s.emit n m d0 d1 = ((s.engMask (m % 32) (16 + n)).evRecord 0x01 n (s.winSeq n) 0 d0 d1, Rc.ok) := by
  simp [State.emit, ne_zero_of_bit hhost, hhost, hopen, hroom, winSeq_engMask]

theorem emit_lost (hhost : bit m 5 = true) (hring : s.evrOpen = false ∨ s.evrFull = true) :
    s.emit n m d0 d1 = (s.evRecord 0x01 n (s.winSeq n) 0 d0 d1, Rc.ringFull) := by
  simp [State.emit, ne_zero_of_bit hhost, hhost, hring]

end

section
variable {n : Fin 5} {hw : Option EngErr} {s : State} (hclean : Clean hw)
include hclean

theorem emit_does (hr : s.Ready n 0x80) {t : State} {code : Nat}
    (h : s.emit n (bits (s.ins n).w 0 6) (s.g n (s.ins n).a) (s.g n (s.ins n).b) = (t, code)) :
    exec (.emit n hw) s = .next (t.goRs n (s.ins n) code) :=
  exec_ready (exec_emit n hw s) hr hclean (by rw [h])

/-! ### What SUMMARY does (R219, R220) -/

theorem summary_own (hr : s.Ready n 0x83) (hown : s.fromMirror = false) {t : State} {taken : Bool}
    (h : s.summaryReq n (bit (s.ins n).w 0) = (t, taken)) :
    exec (.summary n hw) s = .next (t.goRs n (s.ins n) (if taken then Rc.ok else Rc.busy)) :=
  exec_ready (exec_summary n hw s) hr hclean ((asActive_own hown).trans (by rw [h]))

end

theorem summaryReq_busy {s : State} (h : s.rd F.HOSTIF_SUM_STATUS_STATE 0 = 1 ∨ s.rd F.HOSTIF_SUM_STATUS_STATE 0 = 2) (n : Nat)
    (full : Bool) : s.summaryReq n full = (s, false) := if_pos h

theorem summaryReq_free {s : State} (h1 : s.rd F.HOSTIF_SUM_STATUS_STATE 0 ≠ 1) (h2 : s.rd F.HOSTIF_SUM_STATUS_STATE 0 ≠ 2) (n : Nat)
    (full : Bool) : s.summaryReq n full = ((s.summaryReq n full).1, true) := by
  simp [State.summaryReq, h1, h2]

/-! ### The statement -/

/-- Settles O15: EMIT by its targets and the event ring, SUMMARY by whether an earlier one is under way. -/
theorem emitAndSummary : Obligations.EmitAndSummary := by
  unfold Obligations.EmitAndSummary
  refine fun n hw s hclean => ⟨?engines, ?host, ?lost, ?none, ?summary, ?busy, ?follows⟩
  case engines => exact fun hr hm hhost => emit_does hclean hr (emit_engines hm hhost)
  case host => exact fun hr hhost hopen hroom => emit_does hclean hr (emit_host hhost hopen hroom)
  case lost => exact fun hr hhost hring => emit_does hclean hr (emit_lost hhost hring)
  case none =>
    exact fun hr hm => refuses_of (nxt_lt_of_ready hr rfl) (by decide) (by decide) (emit_does hclean hr (emit_none hm))
  case summary => exact fun hr hown h1 h2 => summary_own hclean hr hown (summaryReq_free h1 h2 _ _)
  case busy =>
    exact fun hr hown hbusy => refuses_of (nxt_lt_of_ready hr rfl) (by decide) (by decide)
      (summary_own hclean hr hown (summaryReq_busy hbusy _ _))
  case follows => exact fun hr hmir => exec_ready (exec_summary n hw s) hr hclean (asActive_follows hmir)

end Sys2Proof.Proofs
end

section
/-! PROOFS. Ednel's flow (R182-R185): branches, CALL and RET, YIELD and HALT, where they go on and where they stop, and the statement
about them. -/
namespace Sys2Proof.Proofs
open Sys2Proof.Machine Sys2Proof.Laws

/-! ### Branches (R182) -/

/-- A branch from `i` to `t` leaves program memory, or enters the cue window from outside it. -/
def BranchBad (i : Ins) (t : Int) : Prop := t < 0 ∨ 0x20000 ≤ t ∨ (i.pc < winBase ∧ (winBase : Int) ≤ t)

section
variable {s : State} {n : Nat} {i : Ins} {t : Int}

theorem branchBad_not (h : 0 ≤ t ∧ t < 0x20000 ∧ (winBase ≤ i.pc ∨ t < winBase)) : ¬ BranchBad i t := by
  unfold BranchBad
  omega

theorem branchTo_inside (h : 0 ≤ t ∧ t < 0x20000 ∧ (winBase ≤ i.pc ∨ t < winBase)) : s.branchTo n i t = s.setPc n t.toNat :=
  if_neg (branchBad_not h)

theorem branchTo_outside (h : BranchBad i t) : s.branchTo n i t = s.faultStop n Fc.pcRange 0 := if_pos h

theorem fallThrough_on (h : i.nextBad = false) : s.fallThrough n i = s.setPc n i.nxt := if_neg (Bool.eq_false_iff.mp h)

theorem fallThrough_stops (h : i.nextBad = true) : s.fallThrough n i = s.faultStop n Fc.pcRange 0 := if_pos h

end

section
variable (n : Fin 5) (hw : Option EngErr) (s : State)

theorem exec_br : exec (.br n hw) s = ok (s.engRun n 0x01 hw fun i s => s.branchTo n i i.target) := rfl

theorem exec_bz : exec (.bz n hw) s = ok (s.engRun n 0x02 hw fun i s =>
    if s.testVal n i = 0 then s.branchTo n i i.target else s.fallThrough n i) := rfl

theorem exec_bnz : exec (.bnz n hw) s = ok (s.engRun n 0x03 hw fun i s =>
    if s.testVal n i ≠ 0 then s.branchTo n i i.target else s.fallThrough n i) := rfl

end

section
variable {n : Fin 5} {hw : Option EngErr} {s : State} (hclean : Clean hw)
include hclean

theorem br_does (hr : s.Ready n 0x01) {t : State} (ht : s.branchTo n (s.ins n) (s.ins n).target = t) :
    exec (.br n hw) s = .next t := exec_ready (exec_br n hw s) hr hclean ht

theorem bz_taken (hr : s.Ready n 0x02) (hv : s.testVal n (s.ins n) = 0) {t : State}
    (ht : s.branchTo n (s.ins n) (s.ins n).target = t) : exec (.bz n hw) s = .next t :=
  exec_ready (exec_bz n hw s) hr hclean ((if_pos hv).trans ht)

theorem bz_falls (hr : s.Ready n 0x02) (hv : s.testVal n (s.ins n) ≠ 0) {t : State} (ht : s.fallThrough n (s.ins n) = t) :
    exec (.bz n hw) s = .next t :=
  exec_ready (exec_bz n hw s) hr hclean ((if_neg hv).trans ht)

theorem bnz_taken (hr : s.Ready n 0x03) (hv : s.testVal n (s.ins n) ≠ 0) {t : State}
    (ht : s.branchTo n (s.ins n) (s.ins n).target = t) : exec (.bnz n hw) s = .next t :=
  exec_ready (exec_bnz n hw s) hr hclean ((if_pos hv).trans ht)

theorem bnz_falls (hr : s.Ready n 0x03) (hv : s.testVal n (s.ins n) = 0) {t : State} (ht : s.fallThrough n (s.ins n) = t) :
    exec (.bnz n hw) s = .next t :=
  exec_ready (exec_bnz n hw s) hr hclean ((if_neg (not_not.mpr hv)).trans ht)

end

/-! ### CALL (R183) -/

/-- What CALL to `a` does. -/
def called (n : Nat) (i : Ins) (a : Nat) (s : State) : State :=
  if a % 4 ≠ 0 ∨ winBase < a then s.faultStop n Fc.pcRange 0
  else if a = winBase ∧ (s.eng n).win.isNone then
    (if i.nextBad then s.faultStop n Fc.pcRange 0 else s.goRs n i Rc.noCue)
  else if 16 ≤ (s.eng n).stack.length then s.faultStop n Fc.stack 0
  else if a = winBase then s.callWindow n i.nxt
  else (s.setEng n { s.eng n with stack := i.nxt :: (s.eng n).stack }).setPc n a

section
variable {s : State} {n a : Nat} {i : Ins}

theorem winBase_aligned : winBase % 4 = 0 := rfl

theorem called_outside (h : a % 4 ≠ 0 ∨ winBase < a) : called n i a s = s.faultStop n Fc.pcRange 0 := if_pos h

theorem called_noCue (h : a = winBase) (hwin : (s.eng n).win = none) (hnext : i.nextBad = false) :
    called n i a s = s.goRs n i Rc.noCue := by
  simp [called, h, winBase_aligned, hwin, hnext]

section
variable (hal : a % 4 = 0) (hlow : a < winBase)
include hal hlow

theorem called_pushes (hroom : (s.eng n).stack.length < 16) :
    called n i a s = (s.setEng n { s.eng n with stack := i.nxt :: (s.eng n).stack }).setPc n a := by
  simp [called, hal, hlow.ne, hlow.le.not_gt, hroom.not_ge]

theorem called_full (hfull : 16 ≤ (s.eng n).stack.length) : called n i a s = s.faultStop n Fc.stack 0 := by
  simp [called, hal, hlow.ne, hlow.le.not_gt, hfull]

end

section
variable (h : a = winBase) (hwin : (s.eng n).win.isSome = true)
include h hwin

theorem called_window (hroom : (s.eng n).stack.length < 16) : called n i a s = s.callWindow n i.nxt := by
  simp [called, h, winBase_aligned, Option.isSome_iff_ne_none.mp hwin, hroom.not_ge]

theorem called_windowFull (hfull : 16 ≤ (s.eng n).stack.length) : called n i a s = s.faultStop n Fc.stack 0 := by
  simp [called, h, winBase_aligned, Option.isSome_iff_ne_none.mp hwin, hfull]

end

end

theorem exec_call (n : Fin 5) (hw : Option EngErr) (s : State) :
    exec (.call n hw) s = ok (s.engRun n 0x04 hw fun i s => called n i (s.callTarget n i) s) := rfl

/-! ### RET (R154, R155, R183) -/

/-- The stack of engine `n` with its top taken off, and the record consumed that this RET ends. -/
def popped (n : Nat) (rest : List Nat) (s : State) : State := (s.setEng n { s.eng n with stack := rest }).retConsume n

/-- What RET to `r` does. -/
def returnedTo (n : Nat) (i : Ins) (r : Nat) (rest : List Nat) (s : State) : State :=
  if r = dispatchRet then (popped n rest s).enterIdle n
  else if 0x20000 ≤ r ∨ (winBase ≤ r ∧ i.pc < winBase) then s.faultStop n Fc.pcRange 0
  else (popped n rest s).setPc n r

/-- What RET does. -/
def returned (n : Nat) (i : Ins) (s : State) : State :=
  match (s.eng n).stack with
  | [] => s.faultStop n Fc.stack 0
  | r :: rest => returnedTo n i r rest s

theorem exec_ret (n : Fin 5) (hw : Option EngErr) (s : State) :
    exec (.ret n hw) s = ok (s.engRun n 0x05 hw fun i s => returned n i s) := rfl

section
variable {s : State} {n r : Nat} {i : Ins} {rest : List Nat}

theorem returned_empty (h : (s.eng n).stack = []) : returned n i s = s.faultStop n Fc.stack 0 := by
  rw [returned, h]

theorem returned_pops (h : (s.eng n).stack = r :: rest) : returned n i s = returnedTo n i r rest s := by
  rw [returned, h]

theorem returnedTo_dispatcher : returnedTo n i dispatchRet rest s = (popped n rest s).enterIdle n := if_pos rfl

theorem returnedTo_outside (hr : r ≠ dispatchRet) (h : 0x20000 ≤ r ∨ (winBase ≤ r ∧ i.pc < winBase)) :
    returnedTo n i r rest s = s.faultStop n Fc.pcRange 0 := (if_neg hr).trans (if_pos h)

theorem returnedTo_inside (h : r < 0x20000) (hwin : winBase ≤ i.pc ∨ r < winBase) :
    returnedTo n i r rest s = (popped n rest s).setPc n r := by
  have hr : r ≠ dispatchRet := (h.trans (by decide)).ne
  have hin : ¬ (0x20000 ≤ r ∨ (winBase ≤ r ∧ i.pc < winBase)) := by omega
  exact (if_neg hr).trans (if_neg hin)

end

/-! ### YIELD and HALT (R184, R185) -/

/-- Engine `n` HALTED and reported. -/
def haltTold (n : Nat) (s : State) : State := (s.wr F.CUE_STATUS_STATE n Es.halted).evRecord 0x02 n (s.winSeq n) 0 0 0

/-- What HALT does: a record under way is consumed. -/
def haltDone (n : Nat) (s : State) : State :=
  match (s.eng n).win with
  | some w => if w.depth.isSome then (haltTold n s).consume n else haltTold n s
  | none => haltTold n s

section
variable (n : Fin 5) (hw : Option EngErr) (s : State)

theorem exec_yield : exec (.yield n hw) s = ok (s.engRun n 0x06 hw fun i s =>
    ((s.setEng n { s.eng n with runSince := s.clk }).setPc n i.nxt).swapAt n) := rfl

theorem exec_halt : exec (.halt n hw) s = ok (s.engRun n 0x07 hw fun _ s => haltDone n s) := rfl

end

section
variable {s : State} {n : Nat}

theorem haltDone_none (h : (s.eng n).win = none) :
    haltDone n s = (s.wr F.CUE_STATUS_STATE n Es.halted).evRecord 0x02 n 0 0 0 0 := by
  simp [haltDone, haltTold, State.winSeq, h]

variable {w : CueWin}

theorem haltDone_loaded (h : (s.eng n).win = some w) (hd : w.depth = none) :
    haltDone n s = (s.wr F.CUE_STATUS_STATE n Es.halted).evRecord 0x02 n w.seq 0 0 0 := by
  simp [haltDone, haltTold, State.winSeq, h, hd]

theorem haltDone_running (h : (s.eng n).win = some w) {d : Nat} (hd : w.depth = some d) :
    haltDone n s = ((s.wr F.CUE_STATUS_STATE n Es.halted).evRecord 0x02 n w.seq 0 0 0).consume n := by
  simp [haltDone, haltTold, State.winSeq, h, hd]

end

/-! ### The statement -/

/-- Settles O7: each instruction by the case of its target, its test value, the return stack or the cue window. -/
theorem flowInstructions : Obligations.FlowInstructions := by
  unfold Obligations.FlowInstructions
  refine ⟨fun n hw s hclean => ⟨?br, ?bz, ?bzFalls, ?bnz, ?bnzFalls, ?call, ?callWindow, ?ret, ?retIdle, ?yield, ?halt, ?haltLoaded,
    ?haltRunning⟩, fun n hw s hclean => ⟨?brOut, ?bzOut, ?bzFallsOut, ?bnzOut, ?bnzFallsOut, ?callOut, ?callFull, ?callNoCue,
      ?callWindowFull, ?retEmpty, ?retOut⟩⟩
  case br => exact fun hr hin => br_does hclean hr (branchTo_inside hin)
  case bz => exact fun hr hv hin => bz_taken hclean hr hv (branchTo_inside hin)
  case bzFalls => exact fun hr hv hnext => bz_falls hclean hr hv (fallThrough_on hnext)
  case bnz => exact fun hr hv hin => bnz_taken hclean hr hv (branchTo_inside hin)
  case bnzFalls => exact fun hr hv hnext => bnz_falls hclean hr hv (fallThrough_on hnext)
  case call => exact fun hr hal hlow hroom => exec_ready (exec_call n hw s) hr hclean (called_pushes hal hlow hroom)
  case callWindow => exact fun hr h hwin hroom => exec_ready (exec_call n hw s) hr hclean (called_window h hwin hroom)
  case ret => exact fun r rest hr hs h hwin => exec_ready (exec_ret n hw s) hr hclean ((returned_pops hs).trans (returnedTo_inside h hwin))
  case retIdle => exact fun rest hr hs => exec_ready (exec_ret n hw s) hr hclean ((returned_pops hs).trans returnedTo_dispatcher)
  case yield => exact fun hr => exec_ready (exec_yield n hw s) hr hclean rfl
  case halt => exact fun hr h => exec_ready (exec_halt n hw s) hr hclean (haltDone_none h)
  case haltLoaded => exact fun w hr h hd => exec_ready (exec_halt n hw s) hr hclean (haltDone_loaded h hd)
  case haltRunning => exact fun w d hr h hd => exec_ready (exec_halt n hw s) hr hclean (haltDone_running h hd)
  case brOut => exact fun hr hout => br_does hclean hr (branchTo_outside hout)
  case bzOut => exact fun hr hv hout => bz_taken hclean hr hv (branchTo_outside hout)
  case bzFallsOut => exact fun hr hv hnext => bz_falls hclean hr hv (fallThrough_stops hnext)
  case bnzOut => exact fun hr hv hout => bnz_taken hclean hr hv (branchTo_outside hout)
  case bnzFallsOut => exact fun hr hv hnext => bnz_falls hclean hr hv (fallThrough_stops hnext)
  case callOut => exact fun hr hout => exec_ready (exec_call n hw s) hr hclean (called_outside hout)
  case callFull => exact fun hr hal hlow hfull => exec_ready (exec_call n hw s) hr hclean (called_full hal hlow hfull)
  case callNoCue =>
    intro hr h hwin hnext
    have hnxt : (s.ins n).nxt < 2 ^ 17 := by
      simp only [Ins.nextBad, Bool.or_eq_false_iff, decide_eq_false_iff_not, not_le] at hnext
      exact hnext.1
    exact refuses_of hnxt (by decide) (by decide) (exec_ready (exec_call n hw s) hr hclean (called_noCue h hwin hnext))
  case callWindowFull => exact fun hr h hwin hfull => exec_ready (exec_call n hw s) hr hclean (called_windowFull h hwin hfull)
  case retEmpty => exact fun hr hs => exec_ready (exec_ret n hw s) hr hclean (returned_empty hs)
  case retOut =>
    exact fun r rest hr hs hne hout =>
      exec_ready (exec_ret n hw s) hr hclean ((returned_pops hs).trans (returnedTo_outside hne hout))

end Sys2Proof.Proofs
end

section
/-! PROOFS. Buffers of the frame store (chapter 8): the placement loop, the migration of pages, the release of descriptors, the release
queue and leases, one lemma per case; what a release leaves of the other buffers, and the statement about them. -/
namespace Sys2Proof.Proofs
open Sys2Proof.Machine Sys2Proof.Laws

/-! ### The placement loop (R225) -/

/-- The weights and measures of the expander ports recorded; a port out of service takes weight 0. -/
def portsMeasured (ws wr rd : List Nat) (s : State) : State :=
  forEach (List.range 4) (fun c s =>
    ((s.setCxl c { s.cxl c with weight := if s.portUp c then ws.getD c 0 else 0 }).wr F.CXLP_BW_MEAS_WR c (wr.getD c 0)).wr
      F.CXLP_BW_MEAS_RD c (rd.getD c 0)) s

/-- The placement loop has made its first pass. -/
def weightsInForce (s : State) : State := { s with sable := { s.sable with looped := true } }

theorem exec_placementLoop (ws wr rd : List Nat) (s : State) : exec (.placementLoop ws wr rd) s =
    .next ((((weightsInForce (portsMeasured ws wr rd s)).wr F.SABLE_BW_MEAS_WR 0 (wr.foldl (· + ·) 0)).wr
      F.SABLE_BW_MEAS_RD 0 (rd.foldl (· + ·) 0)).storeShow) := rfl

/-! ### Migration (R226, R227) -/

/-- Extent `e` of buffer `d`, on page `p`, may leave it for port `c`: the page lies in a MARKED region, the migration grant is held and
the port takes pages. -/
def MayMigrate (d e c : Nat) (s : State) (p : Page) : Prop :=
  (s.desc d).pages[e]? = some p ∧ s.grantOk (s.rd F.SABLE_PLACE_GRANT_GRANT 0) Gc.migration 0 = true ∧
    p.placed = true ∧ (s.cxl p.port).bad p.page = true ∧ s.weight c ≠ 0

/-- The page of port `c` that what stands on `p` moves to, taken: of the reserve of its own port, or a healthy free one. -/
def newPage (c : Nat) (spare : Bool) (p : Page) (s : State) : Option (State × Nat) :=
  if spare then (if c = p.port then s.takeSpare c else none)
  else ((s.cxl c).pick s.draw.2).map fun g => (s.draw.1.takePage c g, g)

/-- Extent `e` of buffer `d` moved from `p` to page `g` of port `c`, which is taken in `t`; `p` is given back. -/
def pageMoved (d e c : Nat) (p : Page) (s t : State) (g : Nat) : State :=
  ((t.givePage p.port p.page).setDesc d
    { s.desc d with pages := (s.desc d).pages.set e { p with port := c, page := g } }).storeShow

section
variable {d : Fin 16384} {e : Nat} {c : Fin 4} {spare : Bool} {p : Page} {s : State}

theorem exec_migrationPageDone_noExtent (h : (s.desc d).pages[e]? = none) : exec (.migrationPageDone d e c spare) s = .next s := by
  change execMigrationPageDone d e c spare s = _
  simp only [execMigrationPageDone, h]
  rfl

theorem exec_migrationPageDone_extent (h : (s.desc d).pages[e]? = some p) : exec (.migrationPageDone d e c spare) s =
    .next (if !s.grantOk (s.rd F.SABLE_PLACE_GRANT_GRANT 0) Gc.migration 0 || !p.placed || !(s.cxl p.port).bad p.page ||
        decide (s.weight c = 0) then s
      else (newPage c spare p s).elim s fun t => pageMoved d e c p s t.1 t.2) := by
  change execMigrationPageDone d e c spare s = _
  simp only [execMigrationPageDone, h]
  refine congrArg ok (ite_congr rfl (fun _ => rfl) fun _ => ?_)
  cases spare with
  | true =>
    simp only [newPage, if_true]
    cases (if c.val = p.port then s.takeSpare c.val else none) <;> simp [pageMoved]
  | false =>
    simp only [newPage, Bool.false_eq_true, if_false]
    cases (s.cxl c.val).pick s.draw.2 <;> simp [pageMoved]

/-- The model's test for leaving a page where it is, is the opposite of what lets it move. -/
theorem pageStays_iff (h : (s.desc d).pages[e]? = some p) :
    (!s.grantOk (s.rd F.SABLE_PLACE_GRANT_GRANT 0) Gc.migration 0 || !p.placed || !(s.cxl p.port).bad p.page ||
      decide (s.weight c = 0)) = true ↔ ¬ MayMigrate d e c s p := by
  simp only [MayMigrate, h, true_and, Bool.or_eq_true, Bool.not_eq_true', decide_eq_true_eq, not_and_or, Bool.not_eq_true, not_not,
    or_assoc]

theorem migration_barred (h : ∀ p, ¬ MayMigrate d e c s p) : exec (.migrationPageDone d e c spare) s = .next s := by
  cases hp : (s.desc d).pages[e]? with
  | none => exact exec_migrationPageDone_noExtent hp
  | some p => rw [exec_migrationPageDone_extent hp, if_pos ((pageStays_iff hp).mpr (h p))]

section
variable (h : MayMigrate d e c s p)
include h

theorem migration_allowed : exec (.migrationPageDone d e c spare) s =
    .next ((newPage c spare p s).elim s fun t => pageMoved d e c p s t.1 t.2) := by
  rw [exec_migrationPageDone_extent h.1, if_neg (mt (pageStays_iff h.1).mp (not_not.mpr h))]

theorem migration_noPage (hn : newPage c spare p s = none) : exec (.migrationPageDone d e c spare) s = .next s := by
  rw [migration_allowed h, hn, Option.elim_none]

theorem migration_moves {t : State} {g : Nat} (ht : newPage c spare p s = some (t, g)) :
    exec (.migrationPageDone d e c spare) s = .next (pageMoved d e c p s t g) := by
  rw [migration_allowed h, ht, Option.elim_some]

end

end

section
variable {c : Nat} {p : Page} {s : State}

theorem newPage_otherPort (h : c ≠ p.port) : newPage c true p s = none := if_neg h

theorem newPage_reserve (h : c = p.port) : newPage c true p s = s.takeSpare c := if_pos h

theorem newPage_noReserve (h : s.takeSpare c = none) : newPage c true p s = none := by
  by_cases hport : c = p.port
  · exact (newPage_reserve hport).trans h
  · exact newPage_otherPort hport

theorem newPage_full (h : (s.cxl c).pick s.draw.2 = none) : newPage c false p s = none := congrArg (Option.map _) h

theorem newPage_healthy {g : Nat} (h : (s.cxl c).pick s.draw.2 = some g) :
    newPage c false p s = some (s.draw.1.takePage c g, g) := congrArg (Option.map _) h

end

/-! ### The release of a descriptor (R235) -/

/-- The pages of a buffer given back to their ports. -/
def pagesGiven (l : List Page) (s : State) : State := l.foldl (fun s p => if p.placed then s.givePage p.port p.page else s) s

/-- Descriptor `d` free, with its generation; its pages given back and their bytes gone. -/
def released (d : Nat) (s : State) : State :=
  let back := pagesGiven (s.desc d).pages s
  let clean := { back with sable := { back.sable with
    bytes := back.sable.bytes.filter (fun b => decide (b.1 / 2 ^ 44 ≠ d)), freeNo := back.sable.freeNo + 1 } }
  clean.setDesc d { gen := (s.desc d).gen, freedNo := s.sable.freeNo }

/-- The release recorded in the queue, or counted as lost with OVF where 256 records wait. -/
def releaseTold (d : Nat) (s : State) : State :=
  if s.sable.relq.length < 256 then
    ((released d s).setRelq (s.sable.relq ++ [(s.desc d).relRecord d])).event F.SABLE_EVENT_RELEASED 0 Irq.sable
  else ((released d s).wr F.SABLE_REL_QSTAT_OVF 0 1).event F.SABLE_EVENT_REL_OVF 0 Irq.sable

theorem exec_descriptorRelease (d : Fin 16384) (s : State) : exec (.descriptorRelease d) s =
    .next (if (s.desc d).state ≠ 2 then s else ((releaseTold d s).engEvent (s.desc d).freer 11).storeShow) := rfl

section
variable {d : Fin 16384} {s : State}

theorem descriptorRelease_notFreed (h : (s.desc d).state ≠ 2) : exec (.descriptorRelease d) s = .next s := by
  rw [exec_descriptorRelease, if_pos h]

theorem descriptorRelease_freed (h : (s.desc d).state = 2) : exec (.descriptorRelease d) s =
    .next (((releaseTold d s).engEvent (s.desc d).freer 11).storeShow) := by
  rw [exec_descriptorRelease, if_neg (not_not.mpr h)]

theorem descriptorRelease_queued (h : (s.desc d).state = 2) (hroom : s.sable.relq.length < 256) : exec (.descriptorRelease d) s =
    .next (((((released d s).setRelq (s.sable.relq ++ [(s.desc d).relRecord d])).event F.SABLE_EVENT_RELEASED 0 Irq.sable).engEvent
      (s.desc d).freer 11).storeShow) := by
  rw [descriptorRelease_freed h, releaseTold, if_pos hroom]

theorem descriptorRelease_dropped (h : (s.desc d).state = 2) (hfull : 256 ≤ s.sable.relq.length) : exec (.descriptorRelease d) s =
    .next (((((released d s).wr F.SABLE_REL_QSTAT_OVF 0 1).event F.SABLE_EVENT_REL_OVF 0 Irq.sable).engEvent
      (s.desc d).freer 11).storeShow) := by
  rw [descriptorRelease_freed h, releaseTold, if_neg (Nat.not_lt.mpr hfull)]

end

/-! ### What a release leaves (R235) -/

/-- The descriptors and bytes of the frame store, and the engine memories. -/
def bufferView (s : State) : Tab Desc × Tab Nat × Tab Nat × Tab Nat × Tab Nat :=
  (s.sable.descs, s.sable.bytes, s.pmem, s.dmem, s.smem)

theorem bufferView_of_storeView {s t : State} (h : storeView t = storeView s) : bufferView t = bufferView s :=
  congrArg (fun v : Sable × Tab Nat × Tab Nat × Tab Nat => (v.1.descs, v.1.bytes, v.2)) h

section
variable {s t : State} (h : bufferView t = bufferView s)
include h

theorem desc_of_bufferView (i : Nat) : t.desc i = s.desc i :=
  congrArg (fun v : Tab Desc × Tab Nat × Tab Nat × Tab Nat × Tab Nat => tget v.1 i {}) h

theorem bytes_of_bufferView : t.sable.bytes = s.sable.bytes := congrArg (fun v => v.2.1) h

theorem sameMem_of_bufferView : SameMem s t :=
  ⟨congrArg (fun v => v.2.2.1) h, congrArg (fun v => v.2.2.2.1) h, congrArg (fun v => v.2.2.2.2) h⟩

end

theorem sameMem_trans {s t u : State} (hst : SameMem s t) (htu : SameMem t u) : SameMem s u := by
  obtain ⟨hp, hd, hs⟩ := hst
  obtain ⟨hp', hd', hs'⟩ := htu
  exact ⟨hp'.trans hp, hd'.trans hd, hs'.trans hs⟩

theorem bufferView_event (s : State) (f : Fld) (i src : Nat) : bufferView (s.event f i src) = bufferView s :=
  bufferView_of_storeView (storeView_event s f i src)

theorem bufferView_engEvent (s : State) (n b : Nat) : bufferView (s.engEvent n b) = bufferView s := by
  simp only [bufferView, engEvent_sable, engEvent_pmem, engEvent_dmem, engEvent_smem]

theorem bufferView_setRelq (s : State) (q : List (List Nat)) : bufferView (s.setRelq q) = bufferView s :=
  forEach_keeps bufferView (List.range 4) (fun k s => s.wr F.SABLE_REL_EVT_WORD k ((q.headD []).getD k 0)) (fun _ _ => rfl) _

/-- Giving pages back changes the ports alone. -/
theorem bufferView_pagesGiven (l : List Page) (s : State) : bufferView (pagesGiven l s) = bufferView s := by
  induction l generalizing s with
  | nil => rfl
  | cons p l ih =>
    refine (ih _).trans ?_
    cases hp : p.placed <;> simp [hp, bufferView, State.givePage, State.setCxl]

/-- Telling of a release changes no descriptor and no byte. -/
theorem bufferView_releaseTold (d : Nat) (s : State) : bufferView (releaseTold d s) = bufferView (released d s) := by
  unfold releaseTold
  split
  · rw [bufferView_event, bufferView_setRelq]
  · rw [bufferView_event]
    rfl

theorem bufferView_releaseShown (d n : Nat) (s : State) :
    bufferView (((releaseTold d s).engEvent n 11).storeShow) = bufferView (released d s) := by
  rw [bufferView_of_storeView (storeView_storeShow _), bufferView_engEvent, bufferView_releaseTold]

section
variable (d : Nat) (s : State)

theorem released_desc_same : (released d s).desc d = { gen := (s.desc d).gen, freedNo := s.sable.freeNo } := tget_tput_same _ _ _ _

theorem released_desc_ne {k : Nat} (h : k ≠ d) : (released d s).desc k = s.desc k :=
  (tget_tput_ne _ _ _ _ _ _ h).trans (desc_of_bufferView (bufferView_pagesGiven (s.desc d).pages s) k)

theorem released_bytes : (released d s).sable.bytes = s.sable.bytes.filter (fun b => decide (b.1 / 2 ^ 44 ≠ d)) :=
  congrArg (List.filter _) (bytes_of_bufferView (bufferView_pagesGiven (s.desc d).pages s))

theorem released_sameMem : SameMem s (released d s) :=
  sameMem_of_bufferView (t := pagesGiven (s.desc d).pages s) (bufferView_pagesGiven (s.desc d).pages s)

end

/-! ### The release queue and leases (R235, R236) -/

theorem exec_sableRelPop (w : Word) (s : State) : exec (.sableRelPop w) s =
    ok (s.hostWrite 0x80044 w.toNat (State.relPop w.toNat)) := rfl

theorem relPop_pops {w : Nat} (h : bit w 0 = true) (s : State) : State.relPop w s = s.setRelq s.sable.relq.tail := if_pos h

theorem relPop_keeps {w : Nat} (h : bit w 0 = false) (s : State) : State.relPop w s = s := if_neg (Bool.eq_false_iff.mp h)

theorem exec_leaseSet (w : Word) (s : State) : exec (.leaseSet w) s =
    ok (s.hostWrite 0x8003C (Nat.lor w.toNat 0x80000000) (State.leaseGo (Nat.lor w.toNat 0x80000000))) := rfl

section
variable {v : Nat} {s : State}

/-- What any write of the last word of SABLE_LEASE_CTRL does first: it takes RASTER. -/
def leaseRasterTaken (v : Nat) (s : State) : State := s.wr F.SABLE_LEASE_CTRL_RASTER 0 (bits v 0 3)

/-- Descriptor `i` with the lease that the registers ask for, from the next clock on. -/
def leasedDesc (v i : Nat) (s : State) : Desc :=
  { s.desc i with leaseAt := some s.clk, leaseWas := (s.desc i).leaseAtStart s.clk, leaseRaster := bits v 0 3,
                  lease := s.rd64 F.SABLE_LEASE_CTRL_FRAME_LO F.SABLE_LEASE_CTRL_FRAME_HI 0 }

theorem leaseGo_stale (hgo : bit v 31 = true) (h : s.handleDesc (s.rd F.SABLE_LEASE_CTRL_HANDLE 0) = none) :
    State.leaseGo v s = (leaseRasterTaken v s).event F.SABLE_EVENT_LEASE_REFUSED 0 Irq.sable := by
  simp [State.leaseGo, leaseRasterTaken, hgo, h]

theorem leaseGo_live (hgo : bit v 31 = true) {i : Nat} (h : s.handleDesc (s.rd F.SABLE_LEASE_CTRL_HANDLE 0) = some i) :
    State.leaseGo v s = (leaseRasterTaken v s).setDesc i (leasedDesc v i s) := by
  simp [State.leaseGo, leaseRasterTaken, leasedDesc, hgo, h]

end

/-! ### The statement -/

/-- Settles O32: each clause is one case of its command; what a release leaves follows from the pages given back, the telling and the
showing, which change no descriptor and no byte. -/
theorem bufferCommands : Obligations.BufferCommands := by
  unfold Obligations.BufferCommands
  refine ⟨fun d e c spare ws wr rd w s => ⟨exec_placementLoop ws wr rd s, migration_barred, ?otherPort, ?noReserve, ?reserve,
    ?full, ?healthy, descriptorRelease_notFreed, descriptorRelease_queued, descriptorRelease_dropped, ?pops, ?keeps, ?stale, ?live⟩,
    fun d s hfreed => ?frame⟩
  case otherPort => exact fun p hmay hspare hport => hspare ▸ migration_noPage hmay (newPage_otherPort hport)
  case noReserve => exact fun p hmay hspare hnone => hspare ▸ migration_noPage hmay (newPage_noReserve hnone)
  case reserve => exact fun p t hmay hspare hport ht => hspare ▸ migration_moves hmay ((newPage_reserve hport).trans ht)
  case full => exact fun p hmay hspare hnone => hspare ▸ migration_noPage hmay (newPage_full hnone)
  case healthy => exact fun p g hmay hspare hg => hspare ▸ migration_moves hmay (newPage_healthy hg)
  case pops => exact fun h => puts_of_eq (exec_sableRelPop w s) (relPop_pops h s)
  case keeps => exact fun h => puts_of_eq (exec_sableRelPop w s) (relPop_keeps h s)
  case stale => exact fun h => puts_of_eq (exec_leaseSet w s) (leaseGo_stale (bit_lor_set (by decide) _) h)
  case live => exact fun i h => puts_of_eq (exec_leaseSet w s) (leaseGo_live (bit_lor_set (by decide) _) h)
  case frame =>
    have hview := bufferView_releaseShown d (s.desc d).freer s
    have hdesc := desc_of_bufferView hview
    have hsame := (hdesc d).trans (released_desc_same d s)
    refine ⟨_, descriptorRelease_freed hfreed, ?_, ?_, ?_, fun k => ?_, fun b hb => ?_, ?_⟩
    · rw [hsame]
    · rw [hsame]
    · rw [hsame]
    · exact or_iff_not_imp_right.mpr fun hk => (hdesc k).trans (released_desc_ne d s (mt Fin.ext hk))
    · rw [bytes_of_bufferView hview, released_bytes] at hb
      simpa using hb
    · exact sameMem_trans (released_sameMem d s) (sameMem_of_bufferView hview)

end Sys2Proof.Proofs
end

section
/-! PROOFS. Lookup tables (chapter 9): OPEN and CLOSE of a library slot as a write of OCHRE_LUT_SEL carries them out, the words written to an
open slot, and the statement about them. -/
namespace Sys2Proof.Proofs
open Sys2Proof.Machine Sys2Proof.Laws

theorem exec_lutOpen (w : Word) (s : State) : exec (.lutOpen w) s = ok (s.hostWriteSet 0xA0080 w.toNat 0x10000 State.lutSel) := rfl

theorem exec_lutClose (w : Word) (s : State) : exec (.lutClose w) s = ok (s.hostWriteSet 0xA0080 w.toNat 0x20000 State.lutSel) := rfl

theorem exec_lutDataWrite (w : Word) (s : State) : exec (.lutDataWrite w) s =
    ok (s.hostWrite 0xA0088 w.toNat (State.lutData w.toNat)) := rfl

/-! ### OPEN and CLOSE (R264, R285) -/

/-- What any write of OCHRE_LUT_SEL does first: it takes SLOT and KIND. -/
abbrev selTaken (w : Nat) (s : State) : State := s.writeWord 0xA0080 w

/-- The slot that a write of OCHRE_LUT_SEL selects: its kind and its number. -/
abbrev selKind (w : Nat) (s : State) : Nat := (selTaken w s).rd F.OCHRE_LUT_SEL_KIND 0
abbrev selSlot (w : Nat) (s : State) : Nat := (selTaken w s).rd F.OCHRE_LUT_SEL_SLOT 0

/-- OPEN of slot `n` of kind `k`: emptied and open from word 0 on, or refused. -/
def slotOpened (k n : Nat) (t : State) : State :=
  if lutWritable k n = true ∧ t.slotNamed k n = false then
    { t with lutOpen := some (k * 64 + n), lutValid := tput t.lutValid (k * 64 + n) false false,
             lutCrc := tput t.lutCrc (k * 64 + n) 0 0 }.wr F.OCHRE_LUT_ADDR_ADDR 0 0
  else t.lutRefuse

/-- The entry words of slot `n` of kind `k`. -/
def slotWords (k n : Nat) (t : State) : List Nat :=
  (List.range (lutWords k)).map fun i => tget t.lut (k * 2 ^ 24 + n * 2 ^ 18 + i) 0

/-- CLOSE of slot `n` of kind `k`: VALID with the CRC of its words where it is open and all of them were written, or refused. -/
def slotClosed (k n : Nat) (t : State) : State :=
  if t.lutOpen = some (k * 64 + n) ∧ t.rd F.OCHRE_LUT_ADDR_ADDR 0 = lutWords k then
    { t with lutOpen := none, lutValid := tput t.lutValid (k * 64 + n) true false,
             lutCrc := tput t.lutCrc (k * 64 + n) (crcWords (slotWords k n t)) 0 }
  else t.lutRefuse

/-- OPEN and CLOSE, where they are asked for. -/
def openAsked (b : Bool) (k n : Nat) (t : State) : State := if b then slotOpened k n t else t
def closeAsked (b : Bool) (k n : Nat) (t : State) : State := if b then slotClosed k n t else t

/-- A write of `w` to OCHRE_LUT_SEL: its fields, then OPEN and CLOSE of the slot selected, as asked; the slot is then shown. -/
def selDone (opens closes : Bool) (w : Nat) (s : State) : State :=
  (closeAsked closes (selKind w s) (selSlot w s) (openAsked opens (selKind w s) (selSlot w s) (selTaken w s))).lutShow

/-- The bits of the word ask for OPEN and CLOSE. -/
theorem lutSel_eq (w : Nat) (s : State) : State.lutSel w s = selDone (bit w 16) (bit w 17) w s := by
  cases hopen : bit w 16 <;> cases hclose : bit w 17 <;>
    simp [State.lutSel, selDone, openAsked, closeAsked, slotOpened, slotClosed, slotWords, hopen, hclose, ite_and]

section
variable (w : Word) (s : State)

theorem lutOpen_sets : Sets (.lutOpen w) 0xA0080 w 0x10000 s (selDone true (bit w.toNat 17) (Nat.lor w.toNat 0x10000) s) := by
  refine puts_of_eq (exec_lutOpen w s) ?_
  rw [lutSel_eq, bit_lor_set (i := 16) (by decide), bit_lor_clear (i := 17) (by decide)]

theorem lutClose_sets : Sets (.lutClose w) 0xA0080 w 0x20000 s (selDone (bit w.toNat 16) true (Nat.lor w.toNat 0x20000) s) := by
  refine puts_of_eq (exec_lutClose w s) ?_
  rw [lutSel_eq, bit_lor_set (i := 17) (by decide), bit_lor_clear (i := 16) (by decide)]

end

/-! ### Entry words (R285) -/

section
variable {w : Nat} {s : State}

theorem lutData_stores {o : Nat} (ho : s.lutOpen = some o) (h : s.rd F.OCHRE_LUT_ADDR_ADDR 0 < lutWords (o / 64)) :
    State.lutData w s =
      { s with lut := tput s.lut (o / 64 * 2 ^ 24 + o % 64 * 2 ^ 18 + s.rd F.OCHRE_LUT_ADDR_ADDR 0) (w % 2 ^ 32) 0 }.wr
        F.OCHRE_LUT_ADDR_ADDR 0 (s.rd F.OCHRE_LUT_ADDR_ADDR 0 + 1) := by
  simp only [State.lutData, ho, if_pos h]

theorem lutData_full {o : Nat} (ho : s.lutOpen = some o) (h : lutWords (o / 64) ≤ s.rd F.OCHRE_LUT_ADDR_ADDR 0) :
    State.lutData w s = s.lutRefuse := by
  simp only [State.lutData, ho, if_neg (Nat.not_lt.mpr h)]

theorem lutData_noneOpen (ho : s.lutOpen = none) : State.lutData w s = s.lutRefuse := by
  simp only [State.lutData, ho]

end

/-! ### The statement -/

/-- Settles O35: a write of OCHRE_LUT_SEL by the bits its commands set, a write of OCHRE_LUT_DATA by the slot that is open. -/
theorem libraryCommands : Obligations.LibraryCommands := by
  unfold Obligations.LibraryCommands
  refine fun w s => ⟨lutOpen_sets w s, lutClose_sets w s, ?stores, ?full, ?noneOpen⟩
  case stores =>
    intro o ho h
    have hfits : w.toNat % 2 ^ 32 = w.toNat := Nat.mod_eq_of_lt w.isLt
    exact puts_of_eq (exec_lutDataWrite w s) ((lutData_stores ho h).trans (by rw [hfits]))
  case full => exact fun o ho h => puts_of_eq (exec_lutDataWrite w s) (lutData_full ho h)
  case noneOpen => exact fun ho => puts_of_eq (exec_lutDataWrite w s) (lutData_noneOpen ho)

end Sys2Proof.Proofs
end

section
/-! PROOFS. Audio registers (chapter 10): delay blocks and delay requests, the settings of an audio port and the choice of a frame start,
one lemma per case, and the statement about them. -/
namespace Sys2Proof.Proofs
open Sys2Proof.Machine Sys2Proof.Laws

/-! ### The commands -/

section
variable (b : Fin 1024) (m : Fin 6) (p : Fin 1152) (w : Word) (s : State)

theorem exec_delayBlockWrite (hi : Bool) : exec (.delayBlockWrite b hi w) s =
    ok (s.hostWrite (0xC1000 + 8 * b.val + (if hi then 4 else 0)) w.toNat (State.dblkWrite b.val hi w.toNat)) := rfl

theorem exec_delaySet : exec (.delaySet m w) s = ok (s.hostWrite (0xC0108 + 16 * m.val) (Nat.lor w.toNat 0x80000000)
    (State.dlyCtrlWrite 5 m.val 2 (Nat.lor w.toNat 0x80000000))) := rfl

theorem exec_audioPortCfgWrite : exec (.audioPortCfgWrite p w) s =
    ok (s.hostWrite (0xC4000 + 16 * p.val) w.toNat (State.audioPortWrite p.val w.toNat)) := rfl

end

/-! ### Delay blocks (R304) -/

/-- EN of block `b` written, with its grant. -/
def blockEnabled (b en tok : Nat) (s : State) : State := ((s.wr F.AUDIO_DBLK_EN b en).wr F.AUDIO_DBLK_GRANT b tok).loadShow

/-- A write to a delay block refused. -/
def blockRefused (s : State) : State := s.event F.AUDIO_EVENT_DBLK_REFUSED 0 Irq.audio

/-- An enabled block that a channel uses. -/
def BlockInUse (b : Nat) (s : State) : Prop := s.on F.AUDIO_DBLK_EN b = true ∧ s.blockUsed b = true

section
variable {b w : Nat} {s : State}

theorem dblkWrite_handle (h : s.on F.AUDIO_DBLK_EN b = false) : State.dblkWrite b false w s = s.wr F.AUDIO_DBLK_HANDLE b w :=
  if_neg (Bool.eq_false_iff.mp h)

theorem dblkWrite_handle_refused (h : s.on F.AUDIO_DBLK_EN b = true) : State.dblkWrite b false w s = blockRefused s := if_pos h

/-- A write of the word with EN and GRANT. -/
theorem dblkWrite_en : State.dblkWrite b true w s =
    if bit w 0 then (if s.dblkOk b (bits w 16 16) then blockEnabled b 1 (bits w 16 16) s else blockRefused s)
    else if s.on F.AUDIO_DBLK_EN b && s.blockUsed b then blockRefused s else blockEnabled b 0 (bits w 16 16) s := by
  rw [State.dblkWrite, if_neg (by decide)]
  rfl

theorem dblkWrite_enables (hen : bit w 0 = true) (h : s.dblkOk b (bits w 16 16) = true) :
    State.dblkWrite b true w s = blockEnabled b 1 (bits w 16 16) s := by
  rw [dblkWrite_en, if_pos hen, if_pos h]

theorem dblkWrite_enable_refused (hen : bit w 0 = true) (h : s.dblkOk b (bits w 16 16) = false) :
    State.dblkWrite b true w s = blockRefused s := by
  rw [dblkWrite_en, if_pos hen, if_neg (Bool.eq_false_iff.mp h)]

theorem dblkWrite_disables (hen : bit w 0 = false) (h : ¬ BlockInUse b s) :
    State.dblkWrite b true w s = blockEnabled b 0 (bits w 16 16) s := by
  rw [dblkWrite_en, if_neg (Bool.eq_false_iff.mp hen), if_neg (mt Bool.and_eq_true_iff.mp h)]

theorem dblkWrite_disable_refused (hen : bit w 0 = false) (h : BlockInUse b s) :
    State.dblkWrite b true w s = blockRefused s := by
  rw [dblkWrite_en, if_neg (Bool.eq_false_iff.mp hen), if_pos (Bool.and_eq_true_iff.mpr h)]

end

/-! ### Delay requests (R305) -/

/-- The last word of AUDIO_DLY_CTRL[m] taken. -/
def delayTaken (m v : Nat) (s : State) : State :=
  ((s.wr F.AUDIO_DLY_CTRL_BLOCK m (bits v 0 10)).wr F.AUDIO_DLY_CTRL_LANE m (bits v 10 4)).wr F.AUDIO_DLY_CTRL_EN m (bits v 16 1)

section
variable {own m v : Nat} {s : State}

theorem dlyCtrlWrite_go (hown : m = own) (hgo : bit v 31 = true) : State.dlyCtrlWrite own m 2 v s = (delayTaken own v s).delayGo own v := by
  subst hown
  exact (if_neg (not_not.mpr rfl)).trans (if_pos hgo)

theorem dlyCtrlWrite_refused (hother : m ≠ own) (word : Nat) :
    State.dlyCtrlWrite own m word v s = s.event F.AUDIO_EVENT_DLY_REFUSED 0 Irq.audio := if_pos hother.symm

end

/-! ### Settings of an audio port (R294) -/

/-- GRP_EN of port `p` as a write of `w` leaves it: an SD port keeps its own where groups 5-8 are asked for. -/
def groupsAsked (p w : Nat) (s : State) : Nat :=
  if s.portClass p = 1 ∧ 16 ≤ bits w 8 8 then s.rd F.AUDIO_PORT_GRP_EN p else bits w 8 8

/-- The settings of port `p` taken. -/
def portSettingsTaken (p w : Nat) (s : State) : State :=
  (((s.wr F.AUDIO_PORT_DEEMB_EN p (bits w 0 1)).wr F.AUDIO_PORT_EMB_MODE p (bits w 1 1)).wr F.AUDIO_PORT_GRP_EN p
    (groupsAsked p w s)).wr F.AUDIO_PORT_GRP96 p (bits w 16 8)

/-- A write of `w` takes group `g` of port `p`, or its rate, from a channel routed. -/
def LosesGroup (p w : Nat) (s : State) (g : Nat) : Prop :=
  s.groupRouted p g = true ∧ (bit (s.rd F.AUDIO_PORT_GRP96 p) g ≠ bit (bits w 16 8) g ∨
    (bit (s.rd F.AUDIO_PORT_GRP_EN p) g = true ∧ bit (groupsAsked p w s) g = false))

/-- A write of `w` takes the de-embedder of port `p` from a channel routed. -/
def LosesDeemb (p w : Nat) (s : State) : Prop :=
  bit w 0 = false ∧ s.on F.AUDIO_PORT_DEEMB_EN p = true ∧ s.deembRouted p = true

/-- What a routed channel would lose, as the port tests it. -/
def losesRouted (p w : Nat) (s : State) : Bool :=
  ((List.range 8).any fun g => s.groupRouted p g && ((bit (s.rd F.AUDIO_PORT_GRP96 p) g != bit (bits w 16 8) g) ||
    (bit (s.rd F.AUDIO_PORT_GRP_EN p) g && !bit (groupsAsked p w s) g))) ||
  (!bit w 0 && s.on F.AUDIO_PORT_DEEMB_EN p && s.deembRouted p)

section
variable {p w : Nat} {s : State}

theorem losesRouted_iff : losesRouted p w s = true ↔ (∃ g, g < 8 ∧ LosesGroup p w s g) ∨ LosesDeemb p w s := by
  simp only [losesRouted, LosesGroup, LosesDeemb, Bool.or_eq_true, Bool.and_eq_true, List.any_eq_true, List.mem_range, bne_iff_ne,
    Bool.not_eq_true', and_assoc]

theorem audioPortWrite_second (h : s.second24 p = true) : State.audioPortWrite p w s = s := if_pos h

theorem audioPortWrite_takes (hown : s.second24 p = false) (h : ¬ ((∃ g, g < 8 ∧ LosesGroup p w s g) ∨ LosesDeemb p w s)) :
    State.audioPortWrite p w s = portSettingsTaken p w s :=
  (if_neg (Bool.eq_false_iff.mp hown)).trans (if_neg (mt losesRouted_iff.mp h))

theorem audioPortWrite_refused (hown : s.second24 p = false) (h : (∃ g, g < 8 ∧ LosesGroup p w s g) ∨ LosesDeemb p w s) :
    State.audioPortWrite p w s = s.event F.AUDIO_EVENT_CFG_REFUSED 0 Irq.audio :=
  (if_neg (Bool.eq_false_iff.mp hown)).trans (if_pos (losesRouted_iff.mpr h))

end

/-! ### The choice of a frame start (R291) -/

/-- Sub-channel 1 of port `p` supplies channels 16-31. -/
def sub1Supplies (p : Nat) (s : State) : Bool := decide (s.portClass p = 3) || (decide (s.portClass p = 2) && (s.deemb p).wave)

/-- The groups that the frame before showed, and the supplier chosen. -/
def groupsShown (p : Nat) (s : State) : State :=
  (((s.wr F.AUDIO_PORT_PRESENT p (s.deemb p).seen).wr F.AUDIO_PORT_RATE96 p (s.deemb p).r96).wr F.AUDIO_PORT_ASYNC p
    (s.deemb p).async).setDeemb p ((s.deemb p).choose (sub1Supplies p s))

/-- A gap begins for channels 16-31 of port `p`. -/
def gapBegun (p : Nat) (s : State) : State := { s with aud := { s.aud with gap := tput s.aud.gap p true false } }

theorem exec_deembSourceChoice (p : Fin 1152) (s : State) : exec (.deembSourceChoice p () () () ()) s =
    .next (if !(s.deemb p).start then s
      else if (s.deemb p).sub1 ≠ sub1Supplies p s then gapBegun p (groupsShown p s) else groupsShown p s) := rfl

section
variable {p : Fin 1152} {s : State}

theorem deembSourceChoice_noStart (h : (s.deemb p).start = false) : exec (.deembSourceChoice p () () () ()) s = .next s := by
  rw [exec_deembSourceChoice, if_pos (by rw [h]; rfl)]

section
variable (hstart : (s.deemb p).start = true)
include hstart

theorem deembSourceChoice_started : exec (.deembSourceChoice p () () () ()) s =
    .next (if (s.deemb p).sub1 ≠ sub1Supplies p s then gapBegun p (groupsShown p s) else groupsShown p s) := by
  rw [exec_deembSourceChoice, if_neg (by rw [hstart]; decide)]

theorem deembSourceChoice_stays (h : (s.deemb p).sub1 = sub1Supplies p s) :
    exec (.deembSourceChoice p () () () ()) s = .next (groupsShown p s) := by
  rw [deembSourceChoice_started hstart, if_neg (not_not.mpr h)]

theorem deembSourceChoice_changes (h : (s.deemb p).sub1 ≠ sub1Supplies p s) :
    exec (.deembSourceChoice p () () () ()) s = .next (gapBegun p (groupsShown p s)) := by
  rw [deembSourceChoice_started hstart, if_pos h]

end

end

/-! ### The statement -/

/-- Settles O37: each register write is its unit's operation, by what the block, the master and the port allow; the frame start by the
supplier that it finds. -/
theorem audioRegisters : Obligations.AudioRegisters := by
  intro b m p w s v bo refused go req used en0 en held off y sub1 seen
  have hblock := exec_delayBlockWrite b w s
  have hport := exec_audioPortCfgWrite p w s
  refine ⟨fun h => ?handle, fun h => ?handleRefused, fun hen h => ?enables, fun hen h => ?enableRefused, fun hen h => ?disables,
    fun hen h => ?disableRefused, fun h => ?requested, fun h => ?otherMaster, fun h => ?second, fun hown h => ?taken,
    fun hown h => ?lost, deembSourceChoice_noStart, deembSourceChoice_stays, deembSourceChoice_changes⟩
  case handle => exact puts_of_eq (hblock false) (dblkWrite_handle h)
  case handleRefused => exact puts_of_eq (hblock false) (dblkWrite_handle_refused h)
  case enables => exact puts_of_eq (hblock true) (dblkWrite_enables hen h)
  case enableRefused => exact puts_of_eq (hblock true) (dblkWrite_enable_refused hen h)
  case disables => exact puts_of_eq (hblock true) (dblkWrite_disables hen h)
  case disableRefused => exact puts_of_eq (hblock true) (dblkWrite_disable_refused hen h)
  case requested => exact puts_of_eq (exec_delaySet m w s) (dlyCtrlWrite_go h (bit_lor_set (by decide) _))
  case otherMaster => exact puts_of_eq (exec_delaySet m w s) (dlyCtrlWrite_refused h 2)
  case second => exact puts_of_eq hport (audioPortWrite_second h)
  case taken => exact puts_of_eq hport (audioPortWrite_takes hown h)
  case lost => exact puts_of_eq hport (audioPortWrite_refused hown h)

end Sys2Proof.Proofs
end

section
/-! PROOFS. TDM ports (chapter 10): the write of a port's format and EN, an FSYNC edge of a slave, its stop and a master's start, one lemma
per case. -/
namespace Sys2Proof.Proofs
open Sys2Proof.Machine Sys2Proof.Laws

/-! ### The format and EN of a port (R311, R312) -/

theorem exec_tdmCfgWrite (i : Fin 16) (w : Word) (s : State) : exec (.tdmCfgWrite i w) s =
    ok (s.hostWrite (0xD0000 + 0x20 * i.val) w.toNat (State.tdmCfg i.val w.toNat)) := rfl

/-- The format that `w` asks of port `i` is faster than a port may run, or has more slots than its rate allows. -/
def FormatFast (i w : Nat) (s : State) : Prop :=
  49152000 < tdmHz ((s.tdmFields i w).rd F.TDM_CFG_RATE i) * ((s.tdmFields i w).rd F.TDM_CFG_SLOTS i + 1) *
    (s.tdmFields i w).rd F.TDM_CFG_WIDTH i ∨
  ((s.tdmFields i w).rd F.TDM_CFG_RATE i % 2 = 1 ∧ 16 < (s.tdmFields i w).rd F.TDM_CFG_SLOTS i + 1)

/-- The format that `w` asks of port `i` is another than it has. -/
def FormatChanges (i w : Nat) (s : State) : Prop :=
  tdmFormat ((s.tdmFields i w).readWord (0xD0000 + 0x20 * i)) ≠ tdmFormat (s.readWord (0xD0000 + 0x20 * i))

/-- RASTER of port `i` as `w` gives it, then EN as it asks. -/
def rasterAndEn (i w : Nat) (s : State) : State :=
  if bit w 0 then (s.wr F.TDM_CFG_RASTER i (bits w 24 3)).tdmOn i else (s.wr F.TDM_CFG_RASTER i (bits w 24 3)).tdmOff i

/-- A refused write of port `i`, which stops the port all the same where it asks for EN 0. -/
def formatRefused (i w : Nat) (s : State) : State :=
  if bit w 0 then s.wr F.TDM_STATUS_CFG_REFUSED i 1 else (s.wr F.TDM_STATUS_CFG_REFUSED i 1).tdmOff i

/-- What bars a write of `w`, as port `i` tests it: an enabled port keeps its format, a disabled one takes none that is too fast. -/
def formatBarred (i w : Nat) (s : State) : Bool :=
  (s.on F.TDM_CFG_EN i && decide (tdmFormat ((s.tdmFields i w).readWord (0xD0000 + 0x20 * i)) ≠
    tdmFormat (s.readWord (0xD0000 + 0x20 * i)))) ||
  (!s.on F.TDM_CFG_EN i && (decide (49152000 < tdmHz ((s.tdmFields i w).rd F.TDM_CFG_RATE i) *
      ((s.tdmFields i w).rd F.TDM_CFG_SLOTS i + 1) * (s.tdmFields i w).rd F.TDM_CFG_WIDTH i) ||
    decide ((s.tdmFields i w).rd F.TDM_CFG_RATE i % 2 = 1 ∧ 16 < (s.tdmFields i w).rd F.TDM_CFG_SLOTS i + 1)))

section
variable {i w : Nat} {s : State}

theorem formatBarred_disabled (hoff : s.on F.TDM_CFG_EN i = false) : formatBarred i w s = true ↔ FormatFast i w s := by
  simp only [formatBarred, FormatFast, hoff, Bool.false_and, Bool.false_or, Bool.not_false, Bool.true_and, Bool.or_eq_true,
    decide_eq_true_eq]

theorem formatBarred_enabled (hon : s.on F.TDM_CFG_EN i = true) : formatBarred i w s = true ↔ FormatChanges i w s := by
  simp only [formatBarred, FormatChanges, hon, Bool.true_and, Bool.not_true, Bool.false_and, Bool.or_false, decide_eq_true_eq]

/-- CFG_REFUSED takes the place of the format and of RASTER, and a refused write starts no port. -/
theorem tdmCfg_eq : State.tdmCfg i w s = if formatBarred i w s then formatRefused i w s
    else rasterAndEn i w (if s.on F.TDM_CFG_EN i then s else s.tdmFields i w) := by
  cases h : formatBarred i w s <;> rw [formatBarred] at h <;> cases hen : bit w 0 <;>
    simp only [State.tdmCfg, rasterAndEn, formatRefused, hen, h, Bool.not_false, Bool.not_true, Bool.false_eq_true, if_true, if_false]

section
variable (hoff : ¬ s.on F.TDM_CFG_EN i = true)
include hoff

theorem tdmCfg_format (h : ¬ FormatFast i w s) : State.tdmCfg i w s = rasterAndEn i w (s.tdmFields i w) := by
  rw [tdmCfg_eq, if_neg (mt (formatBarred_disabled (Bool.eq_false_iff.mpr hoff)).mp h), if_neg hoff]

theorem tdmCfg_fast (h : FormatFast i w s) : State.tdmCfg i w s = formatRefused i w s := by
  rw [tdmCfg_eq, if_pos ((formatBarred_disabled (Bool.eq_false_iff.mpr hoff)).mpr h)]

end

section
variable (hon : s.on F.TDM_CFG_EN i = true)
include hon

theorem tdmCfg_sameFormat (h : ¬ FormatChanges i w s) : State.tdmCfg i w s = rasterAndEn i w s := by
  rw [tdmCfg_eq, if_neg (mt (formatBarred_enabled hon).mp h), if_pos hon]

theorem tdmCfg_otherFormat (h : FormatChanges i w s) : State.tdmCfg i w s = formatRefused i w s := by
  rw [tdmCfg_eq, if_pos ((formatBarred_enabled hon).mpr h)]

end

end

/-! ### An FSYNC edge (R313, R314) -/

/-- Port `i` is an enabled slave. -/
def IsSlave (i : Nat) (s : State) : Prop := s.on F.TDM_CFG_EN i = true ∧ s.on F.TDM_CFG_MASTER i = false

/-- The clocks from the last FSYNC edge of port `i` to now. -/
def fsyncPeriod (i : Nat) (s : State) : Option Nat := (tget s.tdms i {}).lastEdge.map fun e => s.clk - e

/-- A frame of port `i` has the length that its format gives it. -/
def goodFrame (i len : Nat) (s : State) : Bool := decide (len = (s.rd F.TDM_CFG_SLOTS i + 1) * s.rd F.TDM_CFG_WIDTH i)

/-- Port `i` holds `t`. -/
def setPort (i : Nat) (t : Tdm) (s : State) : State := { s with tdms := tput s.tdms i t {} }

/-- The edge noted. -/
def edgeNoted (i : Nat) (s : State) : State := setPort i { tget s.tdms i {} with lastEdge := some s.clk } s

/-- The edge noted, and the error of the period that it ends shown. -/
def periodShown (i : Nat) (s : State) : State :=
  match fsyncPeriod i s with
  | some p => (edgeNoted i s).wr F.TDM_STATUS_RATE_ERR i
      (wrapInt 16 ((((p * tdmHz (s.rd F.TDM_CFG_RATE i) : Nat) : Int) - 1250000000) * 100000 / 1250000000))
  | none => edgeNoted i s

/-- A port in RESYNC follows the foreign rate. -/
def frameFollowed (i len : Nat) (smp : List Nat) (s : State) : State :=
  if s.rd F.TDM_STATUS_STATE i = 4 then (periodShown i s).tdmFlow i (goodFrame i len s) smp else periodShown i s

/-- The good frames in a row that port `i` has then received. -/
def goodFrames (i len : Nat) (smp : List Nat) (s : State) : Nat :=
  if (fsyncPeriod i s).isNone then 0
  else if goodFrame i len s then (tget (frameFollowed i len smp s).tdms i {}).good + 1 else 0

/-- The frame of a port that does not run, counted. -/
def frameCounted (i len : Nat) (smp : List Nat) (s : State) : State :=
  setPort i { tget (frameFollowed i len smp s).tdms i {} with good := goodFrames i len smp s } (frameFollowed i len smp s)

theorem exec_tdmFrame (i : Fin 16) (len : Nat) (smp : List Nat) (s : State) : exec (.tdmFrame i len smp) s =
    .next (if !s.on F.TDM_CFG_EN i || s.on F.TDM_CFG_MASTER i then s
      else if s.rd F.TDM_STATUS_STATE i = 2 then
        (periodShown i s).tdmRunning i len (goodFrame i len s) (fsyncPeriod i s) smp
      else if 16 ≤ goodFrames i len smp s then (frameCounted i len smp s).tdmRun i else frameCounted i len smp s) := rfl

theorem isSlave_iff {i : Nat} {s : State} : IsSlave i s ↔ ¬ (!s.on F.TDM_CFG_EN i || s.on F.TDM_CFG_MASTER i) = true := by
  simp [IsSlave]

section
variable {i : Fin 16} {s : State} {len : Nat} {smp : List Nat}

theorem tdmFrame_noSlave (h : ¬ IsSlave i s) : exec (.tdmFrame i len smp) s = .next s := by
  rw [exec_tdmFrame, if_pos (not_not.mp (mt isSlave_iff.mpr h))]

section
variable (hslave : IsSlave i s)
include hslave

theorem tdmFrame_running (h : s.rd F.TDM_STATUS_STATE i = 2) : exec (.tdmFrame i len smp) s =
    .next ((periodShown i s).tdmRunning i len (goodFrame i len s) (fsyncPeriod i s) smp) := by
  rw [exec_tdmFrame, if_neg (isSlave_iff.mp hslave), if_pos h]

variable (h : s.rd F.TDM_STATUS_STATE i ≠ 2)
include h

theorem tdmFrame_counted (hfew : goodFrames i len smp s < 16) :
    exec (.tdmFrame i len smp) s = .next (frameCounted i len smp s) := by
  rw [exec_tdmFrame, if_neg (isSlave_iff.mp hslave), if_neg h, if_neg (Nat.not_le.mpr hfew)]

theorem tdmFrame_enters (hmany : 16 ≤ goodFrames i len smp s) :
    exec (.tdmFrame i len smp) s = .next ((frameCounted i len smp s).tdmRun i) := by
  rw [exec_tdmFrame, if_neg (isSlave_iff.mp hslave), if_neg h, if_pos hmany]

end

end

/-! ### The stop of a slave and the start of a master (R313, R314) -/

/-- Two periods of port `i`, a running slave, have passed since the edge at `e`. -/
def EdgeMissed (i : Nat) (s : State) (e : Nat) : Prop :=
  s.rd F.TDM_STATUS_STATE i = 2 ∧ s.on F.TDM_CFG_MASTER i = false ∧
    2 * 1250000000 ≤ (s.clk - e) * tdmHz (s.rd F.TDM_CFG_RATE i)

/-- The stop of port `i` told. -/
def stopTold (i : Nat) (s : State) : State :=
  (((s.wr F.TDM_STATUS_STATE i 3).incSat F.TDM_CNT1_STOP i).tdmZerox i true).tdmFault i F.TDM_STATUS_STOP_EV 1 6 0

/-- Port `i` STOPPED, with nothing waiting. -/
def portStopped (i : Nat) (s : State) : State :=
  setPort i { tget s.tdms i {} with good := 0, off := 0, lastEdge := none, outq := [], cur := [], odd := false, dout := [] }
    (stopTold i s)

theorem edgeMissed_iff {i e : Nat} {s : State} : (s.rd F.TDM_STATUS_STATE i = 2 ∧ (!s.on F.TDM_CFG_MASTER i) = true ∧
    2 * 1250000000 ≤ (s.clk - e) * tdmHz (s.rd F.TDM_CFG_RATE i)) ↔ EdgeMissed i s e := by
  rw [Bool.not_eq_true', EdgeMissed]

section
variable {i : Fin 16} {s : State}

theorem exec_tdmStop_noEdge (h : (tget s.tdms i {}).lastEdge = none) : exec (.tdmStop i) s = .next s := by
  change execTdmStop i s = _
  rw [execTdmStop, h]
  rfl

theorem exec_tdmStop_edge {e : Nat} (h : (tget s.tdms i {}).lastEdge = some e) : exec (.tdmStop i) s =
    .next (if s.rd F.TDM_STATUS_STATE i = 2 ∧ (!s.on F.TDM_CFG_MASTER i) = true ∧
      2 * 1250000000 ≤ (s.clk - e) * tdmHz (s.rd F.TDM_CFG_RATE i) then portStopped i s else s) := by
  change execTdmStop i s = _
  rw [execTdmStop, h]
  rfl

theorem tdmStop_due (h : ∃ e, (tget s.tdms i {}).lastEdge = some e ∧ EdgeMissed i s e) :
    exec (.tdmStop i) s = .next (portStopped i s) := by
  obtain ⟨e, he, hmissed⟩ := h
  rw [exec_tdmStop_edge he, if_pos (edgeMissed_iff.mpr hmissed)]

theorem tdmStop_notDue (h : ¬ ∃ e, (tget s.tdms i {}).lastEdge = some e ∧ EdgeMissed i s e) :
    exec (.tdmStop i) s = .next s := by
  cases he : (tget s.tdms i {}).lastEdge with
  | none => exact exec_tdmStop_noEdge he
  | some e => rw [exec_tdmStop_edge he, if_neg fun hc => h ⟨e, he, edgeMissed_iff.mp hc⟩]

/-- Port `i` is an enabled master that acquires, and a boundary has come since EN. -/
def MasterDue (i : Nat) (s : State) : Prop :=
  s.on F.TDM_CFG_EN i = true ∧ s.on F.TDM_CFG_MASTER i = true ∧ s.rd F.TDM_STATUS_STATE i = 1 ∧
    (tget s.tdms i {}).since < s.boundaryNow (aRate (decide (2 ≤ s.rd F.TDM_CFG_RATE i)))

theorem exec_tdmMasterStart (i : Fin 16) (s : State) : exec (.tdmMasterStart i) s =
    .next (if s.on F.TDM_CFG_EN i && s.on F.TDM_CFG_MASTER i && s.rd F.TDM_STATUS_STATE i = 1 &&
        decide ((tget s.tdms i {}).since < s.boundaryNow (aRate (decide (2 ≤ s.rd F.TDM_CFG_RATE i)))) then
      s.wr F.TDM_STATUS_STATE i 2 else s) := rfl

theorem masterDue_iff {i : Nat} {s : State} : (s.on F.TDM_CFG_EN i && s.on F.TDM_CFG_MASTER i && s.rd F.TDM_STATUS_STATE i = 1 &&
    decide ((tget s.tdms i {}).since < s.boundaryNow (aRate (decide (2 ≤ s.rd F.TDM_CFG_RATE i))))) = true ↔ MasterDue i s := by
  simp only [MasterDue, Bool.and_eq_true, decide_eq_true_eq, and_assoc]

theorem tdmMasterStart_due (h : MasterDue i s) : exec (.tdmMasterStart i) s = .next (s.wr F.TDM_STATUS_STATE i 2) := by
  rw [exec_tdmMasterStart, if_pos (masterDue_iff.mpr h)]

theorem tdmMasterStart_notDue (h : ¬ MasterDue i s) : exec (.tdmMasterStart i) s = .next s := by
  rw [exec_tdmMasterStart, if_neg (mt masterDue_iff.mp h)]

end

end Sys2Proof.Proofs
end

section
/-! PROOFS. Key messages (chapter 19): the requests of KEYS_UPD_CTRL, the end of the message being processed, the masks and the entropy
source; and the statement about them and the TDM ports. -/
namespace Sys2Proof.Proofs
open Sys2Proof.Machine Sys2Proof.Laws

/-! ### The commands -/

section
variable (w : Word) (s : State)

theorem exec_keyUpdateGo : exec (.keyUpdateGo w) s =
    ok (s.hostWrite 0x190010 (Nat.lor w.toNat 1) (State.keysCtrl (Nat.lor w.toNat 1))) := rfl

theorem exec_keysMsgClear : exec (.keysMsgClear w) s =
    ok (s.hostWrite 0x190010 (Nat.lor w.toNat 2) (State.keysCtrl (Nat.lor w.toNat 2))) := rfl

end

/-! ### GO and CLEAR (R489, R491) -/

/-- The message in KEYS_MSG taken, and its processing shown. -/
def messageTaken (s : State) : State :=
  let a := ((s.wr F.KEYS_UPD_CTRL_STATE 0 1).wr F.KEYS_UPD_CTRL_RESULT 0 0).wr F.KEYS_UPD_CTRL_BAD_ENTRY 0 0
  { a with keys := { a.keys with msg := s.keysMsg } }

/-- GO takes the message unless one is being processed. -/
def keyGo (s : State) : State := if s.rd F.KEYS_UPD_CTRL_STATE 0 = 1 then s else messageTaken s

/-- GO, then CLEAR, each as the word asks. -/
theorem keysCtrl_requests (w : Nat) (s : State) : State.keysCtrl w s = asked w 1 State.keysMsgClear (asked w 0 keyGo s) := by
  have hgo : asked w 0 keyGo s = if bit w 0 = true ∧ s.rd F.KEYS_UPD_CTRL_STATE 0 ≠ 1 then messageTaken s else s := by
    simp only [asked, keyGo, ite_and, ite_not]
  rw [hgo]
  rfl

section
variable (w : Word) (s : State)

theorem keyUpdateGo_sets : Sets (.keyUpdateGo w) 0x190010 w 1 s (asked w.toNat 1 State.keysMsgClear (keyGo s)) := by
  refine puts_of_eq (exec_keyUpdateGo w s) ?_
  rw [keysCtrl_requests, asked, asked, bit_lor_set (i := 0) (by decide), bit_lor_clear (i := 1) (by decide)]
  rfl

theorem keysMsgClear_sets : Sets (.keysMsgClear w) 0x190010 w 2 s
    (if bit w.toNat 0 then (keyGo s).keysMsgClear else s.keysMsgClear) := by
  refine puts_of_eq (exec_keysMsgClear w s) ?_
  rw [keysCtrl_requests, asked, asked, bit_lor_set (i := 1) (by decide), bit_lor_clear (i := 0) (by decide)]
  exact apply_ite State.keysMsgClear _ _ _

end

/-! ### The end of a message (R490, R491) -/

/-- No message is being processed. -/
def messageGone (s : State) : State := { s with keys := { s.keys with msg := [] } }

theorem exec_keyUpdateComplete (s : State) : exec .keyUpdateComplete s =
    .next (if s.rd F.KEYS_UPD_CTRL_STATE 0 = 1 then
      messageGone (if (s.keyVerdict s.keys.msg).1 = 0 then s.keyApply s.keys.msg
        else s.keyRefuse (s.keyVerdict s.keys.msg).1 (s.keyVerdict s.keys.msg).2)
      else s) := rfl

section
variable {s : State}

theorem keyUpdateComplete_applies (hst : s.rd F.KEYS_UPD_CTRL_STATE 0 = 1) (h : (s.keyVerdict s.keys.msg).1 = 0) :
    exec .keyUpdateComplete s = .next (messageGone (s.keyApply s.keys.msg)) := by
  rw [exec_keyUpdateComplete, if_pos hst, if_pos h]

theorem keyUpdateComplete_refuses (hst : s.rd F.KEYS_UPD_CTRL_STATE 0 = 1) (h : (s.keyVerdict s.keys.msg).1 ≠ 0) :
    exec .keyUpdateComplete s =
      .next (messageGone (s.keyRefuse (s.keyVerdict s.keys.msg).1 (s.keyVerdict s.keys.msg).2)) := by
  rw [exec_keyUpdateComplete, if_pos hst, if_neg h]

theorem keyUpdateComplete_idle (hst : s.rd F.KEYS_UPD_CTRL_STATE 0 ≠ 1) : exec .keyUpdateComplete s = .next s := by
  rw [exec_keyUpdateComplete, if_neg hst]

end

/-! ### Masks and the entropy source (R488) -/

/-- The entropy source passes its tests, and the masks are a millisecond old. -/
def MasksDue (s : State) : Prop := s.on F.KEYS_STATUS_TRNG_OK 0 = true ∧ s.keys.refreshAt + msClk ≤ s.clk

/-- Every slot in use with a fresh mask. -/
def masksFresh (s : State) : State :=
  forEach ((List.range 64).filter fun k => s.on F.KEYS_SLOT_ATTR_VALID k) (fun k s => s.newMask k) s

/-- The failure of the entropy source told. -/
def trngFailTold (s : State) : State :=
  ((s.wr F.KEYS_STATUS_TRNG_OK 0 0).event F.KEYS_EVENT_TRNG_FAIL 0 Irq.hostif).faultEvent Src.keys false

section
variable {s : State}

theorem keyMaskRefresh_due (h : MasksDue s) : exec .keyMaskRefresh s =
    .next { masksFresh s with keys := { (masksFresh s).keys with refreshAt := s.clk } } := congrArg ok (if_pos h)

theorem keyMaskRefresh_notDue (h : ¬ MasksDue s) : exec .keyMaskRefresh s = .next s := congrArg ok (if_neg h)

theorem trngFail_passing (h : s.on F.KEYS_STATUS_TRNG_OK 0 = true) : exec .trngFail s = .next (trngFailTold s) :=
  congrArg ok (if_pos h)

theorem trngFail_failed (h : ¬ s.on F.KEYS_STATUS_TRNG_OK 0 = true) : exec .trngFail s = .next s := congrArg ok (if_neg h)

end

/-! ### The statement -/

/-- Settles O38: a port's commands by its EN, its side of the clock and its state; the key unit's by the message being processed and the
entropy source. -/
theorem tdmAndKeyCommands : Obligations.TdmAndKeyCommands := by
  refine ⟨fun i len smp w s => ?ports, fun w s => ?keys⟩
  case ports =>
    intro v off a en slots fast changes refused ras t slave st good per hz b c e g f late stop begins
    have hcfg := exec_tdmCfgWrite i w s
    refine ⟨fun hoff h => ?format, fun hoff h => ?fast, fun hon h => ?sameFormat, fun hon h => ?otherFormat, tdmFrame_noSlave,
      tdmFrame_running, tdmFrame_counted, tdmFrame_enters, tdmStop_due, tdmStop_notDue, tdmMasterStart_due, tdmMasterStart_notDue⟩
    case format => exact puts_of_eq hcfg (tdmCfg_format hoff h)
    case fast => exact puts_of_eq hcfg (tdmCfg_fast hoff h)
    case sameFormat => exact puts_of_eq hcfg (tdmCfg_sameFormat hon h)
    case otherFormat => exact puts_of_eq hcfg (tdmCfg_otherFormat hon h)
  case keys =>
    intro st a go v empty fresh ok' due
    refine ⟨keyUpdateGo_sets w s, keysMsgClear_sets w s, keyUpdateComplete_applies, fun hst h => ?refused, keyUpdateComplete_idle,
      keyMaskRefresh_due, keyMaskRefresh_notDue, trngFail_passing, trngFail_failed⟩
    case refused =>
      change exec .keyUpdateComplete s = .next (messageGone (s.keyRefuse v.1 v.2))
      exact keyUpdateComplete_refuses hst h

end Sys2Proof.Proofs
end

section
/-! PROOFS. Steps, the idle step, the state after reset and register fields (chapters 0, 17, 20): the statements about the machine
as a whole. -/
namespace Sys2Proof.Proofs
open Sys2Proof.Machine Sys2Proof.Laws

/-- Settles O1. -/
theorem stepTakesFront : Obligations.StepTakesFront := by
  intro c r s hq
  unfold step
  rw [hq]

/-- Everything but time and the rasters. -/
def timeless (s : State) : State := { s with clk := 0, house := 0, ptp := {}, rasters := [] }

theorem rasterTick_timeless (n : Nat) (s : State) :
    (timeless (s.rasterTick n), (s.rasterTick n).clk, (s.rasterTick n).house) = (timeless s, s.clk, s.house) := by
  unfold State.rasterTick
  dsimp only
  split
  · split <;> rfl
  · rfl

theorem tick_timeless (s : State) : (timeless s.tick, s.tick.clk, s.tick.house) = (timeless s, s.clk + 1, s.house + 262144) :=
  forEach_keeps (fun s => (timeless s, s.clk, s.house)) (List.range 8) (fun n s => s.rasterTick n) rasterTick_timeless _

/-- Time and rasters given back, a state that differs in them alone is the same again. -/
theorem timeless_restored {s t : State} (h : timeless t = timeless s) :
    { t with clk := s.clk, house := s.house, ptp := s.ptp, rasters := s.rasters } = s :=
  congrArg (fun u : State => { u with clk := s.clk, house := s.house, ptp := s.ptp, rasters := s.rasters }) h

/-- Settles O2: a tick moves time on, and each raster with it. -/
theorem idleStepIsOneClock : Obligations.IdleStepIsOneClock := by
  intro s hq
  have ht := tick_timeless s
  simp only [Prod.mk.injEq] at ht
  obtain ⟨hrest, hclk, hhouse⟩ := ht
  refine ⟨s.tick, ?_, hclk, hhouse, timeless_restored hrest⟩
  unfold step
  rw [hq]

/-- Settles O4. -/
theorem resetState : Obligations.ResetState := ⟨fun _ _ => rfl, rfl, rfl⟩

/-- Settles O6: a table reads what was put where it was put, and elsewhere what it held. -/
theorem registerReadAfterWrite : Obligations.RegisterReadAfterWrite :=
  fun s f g i j v => ⟨rd_wr_same s f i v, rd_wr_ne s f g i j v⟩

end Sys2Proof.Proofs
end

section
/-! PROOFS. The engine memories (R147), as one view of the state, and the updates of State that leave them as they are. -/
namespace Sys2Proof.Machine

/-- The engine memories: program, data, shared. -/
def State.mems (s : State) : Tab Nat × Tab Nat × Tab Nat := (s.pmem, s.dmem, s.smem)

end Sys2Proof.Machine

namespace Sys2Proof.Proofs
open Sys2Proof.Machine Sys2Proof.Laws

/-- An update of other fields. The proof is in brackets so that `simp` takes it as an equation, not as a definition to unfold. -/
@[simp] theorem mems_mk (s : State) {regs clk house ptp rasters gpis gpiq gpiSeq gpiOn gpoClock xActive
    xLock xShadow xCommits xNext xLast windows strands ports psubFrame aligner egressQ sendLines ancOut sent destHold
    destGen destLine digs probeRun engs peFaults subst twin flt pins sable adm hif freeCtr pending hostFifo txq headReinit
    addend ptpRun ref synths refouts flows flowSt flowBind opaques pauseUntil lpiSince rings headAct headStg heads layers
    ochreLog ochreSeq lut lutValid lutCrc lutOpen aud tdms keys lanes remap wear} :
    State.mems {
      regs, clk, house, ptp, rasters, gpis, gpiq, gpiSeq, gpiOn, gpoClock, xActive, xLock, xShadow, xCommits, xNext, xLast,
      windows, strands, ports, psubFrame, aligner, egressQ, sendLines, ancOut, sent, destHold, destGen, destLine, digs,
      probeRun, engs, peFaults, subst, twin, flt, pins, sable, adm, hif, freeCtr, pending, hostFifo, txq, headReinit, addend,
      ptpRun, ref, synths, refouts, flows, flowSt, flowBind, opaques, pauseUntil, lpiSince, rings, headAct, headStg, heads,
      layers, ochreLog, ochreSeq, lut, lutValid, lutCrc, lutOpen, aud, tdms, keys, lanes, remap, wear, pmem := s.pmem, dmem :=
      s.dmem, smem := s.smem } = s.mems := (rfl)

@[simp] theorem mems_ite (p : Prop) [Decidable p] (a b : State) : (if p then a else b).mems = if p then a.mems else b.mems :=
  apply_ite State.mems p a b

@[simp] theorem fst_ite {α β : Type} (p : Prop) [Decidable p] (a b : α × β) : (if p then a else b).1 = if p then a.1 else b.1 :=
  apply_ite Prod.fst p a b

@[simp] theorem forEach_mems {f : Nat → State → State} (h : ∀ i t, (f i t).mems = t.mems) (l : List Nat) (s : State) :
    (forEach l f s).mems = s.mems := forEach_keeps State.mems l f h s

@[simp] theorem foldl_mems {β : Type} {f : State → β → State} (h : ∀ t e, (f t e).mems = t.mems) (l : List β) (s : State) :
    (l.foldl f s).mems = s.mems := by
  induction l generalizing s with
  | nil => rfl
  | cons a r ih => rw [List.foldl_cons, ih, h]

@[simp] theorem foldl_fst_mems {β γ : Type} {f : State × γ → β → State × γ} (h : ∀ t e, (f t e).1.mems = t.1.mems) (l : List β)
    (s : State × γ) : (l.foldl f s).1.mems = s.1.mems := by
  induction l generalizing s with
  | nil => rfl
  | cons a r ih => rw [List.foldl_cons, ih, h]

variable {s : State}

/-- An `if` leaves the memories as a state has them where both branches do. -/
theorem ite_mems {p : Prop} [Decidable p] {a b : State} (ha : a.mems = s.mems) (hb : b.mems = s.mems) :
    (if p then a else b).mems = s.mems := by
  split <;> assumption

/-! ## What the model's operations leave of the memories, in the order of its files -/

/-! ### Ops -/

@[simp] theorem wr_mems {f i v} : (s.wr f i v).mems = s.mems := by simp [State.wr]
@[simp] theorem addSat_mems {f i k} : (s.addSat f i k).mems = s.mems := by simp [State.addSat]
@[simp] theorem incSat_mems {f i} : (s.incSat f i).mems = s.mems := by simp [State.incSat]
@[simp] theorem addWrap_mems {f i k} : (s.addWrap f i k).mems = s.mems := by simp [State.addWrap]
@[simp] theorem subSat_mems {f i k} : (s.subSat f i k).mems = s.mems := by simp [State.subSat]
@[simp] theorem wr64_mems {lo hi i v} : (s.wr64 lo hi i v).mems = s.mems := by simp [State.wr64]
@[simp] theorem clr_mems {f i} : (s.clr f i).mems = s.mems := by simp [State.clr]
@[simp] theorem setRaster_mems {n r} : (s.setRaster n r).mems = s.mems := by simp [State.setRaster]
@[simp] theorem setGpi_mems {i g} : (s.setGpi i g).mems = s.mems := by simp [State.setGpi]
@[simp] theorem setXa_mems {d e} : (s.setXa d e).mems = s.mems := by simp [State.setXa]
@[simp] theorem setXs_mems {d e} : (s.setXs d e).mems = s.mems := by simp [State.setXs]
@[simp] theorem setXlock_mems {d b} : (s.setXlock d b).mems = s.mems := by simp [State.setXlock]
@[simp] theorem setWin_mems {p r w} : (s.setWin p r w).mems = s.mems := by simp [State.setWin]
@[simp] theorem setStrand_mems {d x} : (s.setStrand d x).mems = s.mems := by simp [State.setStrand]
@[simp] theorem setPort_mems {p x} : (s.setPort p x).mems = s.mems := by simp [State.setPort]
@[simp] theorem setEng_mems {n e} : (s.setEng n e).mems = s.mems := by simp [State.setEng]
@[simp] theorem setG_mems {n j v} : (s.setG n j v).mems = s.mems := by simp [State.setG]
@[simp] theorem setCmp_mems {n x c} : (s.setCmp n x c).mems = s.mems := by simp [State.setCmp]
@[simp] theorem setDesc_mems {i d} : (s.setDesc i d).mems = s.mems := by simp [State.setDesc]
@[simp] theorem setRecorder_mems {r x} : (s.setRecorder r x).mems = s.mems := by simp [State.setRecorder]
@[simp] theorem setPlayer_mems {p x} : (s.setPlayer p x).mems = s.mems := by simp [State.setPlayer]
@[simp] theorem setCxl_mems {c x} : (s.setCxl c x).mems = s.mems := by simp [State.setCxl]
@[simp] theorem draw_mems : s.draw.1.mems = s.mems := by simp [State.draw]

/-! ### Operands -/

@[simp] theorem writeField_mems {f i v} : (s.writeField f i v).mems = s.mems := by
  unfold State.writeField
  split <;> simp
@[simp] theorem writeFields_mems {fs w} : (s.writeFields fs w).mems = s.mems := by simp [State.writeFields]
@[simp] theorem writeWord_mems {off w} : (s.writeWord off w).mems = s.mems := by simp [State.writeWord]
@[simp] theorem readClear_mems {off} : (s.readClear off).mems = s.mems := by simp [State.readClear]
@[simp] theorem rasterTick_mems {n} : (State.rasterTick n s).mems = s.mems := by simp [State.rasterTick]

/-! ### Flags -/

@[simp] theorem raise_mems {src} : (s.raise src).mems = s.mems := by simp [State.raise]
@[simp] theorem event_mems {f i src} : (s.event f i src).mems = s.mems := by simp [State.event]
@[simp] theorem engEvent_mems {n b} : (s.engEvent n b).mems = s.mems := by simp [State.engEvent]
@[simp] theorem engMask_mems {mask b} : (s.engMask mask b).mems = s.mems := by simp [State.engMask]
@[simp] theorem evRecord_mems {typ eng seq code d0 d1} :
    (s.evRecord typ eng seq code d0 d1).mems = s.mems := by simp [State.evRecord]
@[simp] theorem transmit_mems {m} : (s.transmit m).mems = s.mems := by simp only [State.transmit, mems_mk]
@[simp] theorem send_mems {typ body} : (s.send typ body).mems = s.mems := by simp [State.send]
@[simp] theorem sendHostw_mems {at' space off data} : (s.sendHostw at' space off data).mems = s.mems := by simp [State.sendHostw]
@[simp] theorem mirror_mems {typ body} : (s.mirror typ body).mems = s.mems := by simp [State.mirror]
@[simp] theorem clearInStep_mems : s.clearInStep.mems = s.mems := by simp [State.clearInStep]
@[simp] theorem setMode_mems {m} : (s.setMode m).mems = s.mems := by simp [State.setMode]
@[simp] theorem setRole_mems {r} : (s.setRole r).mems = s.mems := by simp [State.setRole]
@[simp] theorem leaveActive_mems {next} : (s.leaveActive next).mems = s.mems := by simp [State.leaveActive]
@[simp] theorem giveUpTo_mems {reason next} : (s.giveUpTo reason next).mems = s.mems := by simp [State.giveUpTo]
@[simp] theorem giveUp_mems {reason} : (s.giveUp reason).mems = s.mems := by simp [State.giveUp]
@[simp] theorem takeOwn_mems : s.takeOwn.mems = s.mems := by simp [State.takeOwn]
@[simp] theorem engStop_mems {n cause} : (s.engStop n cause).mems = s.mems := by simp [State.engStop]
@[simp] theorem enterSafe_mems : s.enterSafe.mems = s.mems := by simp [State.enterSafe]
@[simp] theorem disarmAll_mems {n} : (s.disarmAll n).mems = s.mems := by simp [State.disarmAll]
@[simp] theorem abandonWait_mems {n} : (s.abandonWait n).mems = s.mems := by simp [State.abandonWait]
@[simp] theorem engReset_mems {n} : (s.engReset n).mems = s.mems := by
  unfold State.engReset
  dsimp only
  split
  · rfl
  · split <;> simp
@[simp] theorem engStart_mems {n} : (s.engStart n).mems = s.mems := by simp [State.engStart]

/-! ### Faults -/

@[simp] theorem ptpFlush_mems {q} : (s.ptpFlush q).mems = s.mems := by simp [State.ptpFlush]
@[simp] theorem cxlTrain_mems {c} : (s.cxlTrain c).mems = s.mems := by simp [State.cxlTrain]
@[simp] theorem setLane_mems {n x} : (s.setLane n x).mems = s.mems := by simp [State.setLane]
@[simp] theorem eqReset_mems {n} : (s.eqReset n).mems = s.mems := by simp [State.eqReset]
@[simp] theorem toTraining_mems {n hot} : (s.toTraining n hot).mems = s.mems := by simp [State.toTraining]
@[simp] theorem blockReset_mems {src} : (s.blockReset src).mems = s.mems := by
  unfold State.blockReset
  dsimp only
  (repeat' split) <;> simp
@[simp] theorem faultAction_mems {src partnerOnly} : (s.faultAction src partnerOnly).mems = s.mems := by simp [State.faultAction]
@[simp] theorem faultEvent_mems {src partner} : (s.faultEvent src partner).mems = s.mems := by simp [State.faultEvent]
@[simp] theorem violation_mems {iface partner code answer detail src} :
    (s.violation iface partner code answer detail src).mems = s.mems := by simp [State.violation]

/-! ### Host -/

@[simp] theorem hostDone_mems {t off w} : (s.hostDone off w t).mems = t.mems := by
  unfold State.hostDone
  split <;> simp
@[simp] theorem boardWrite_mems {off w} {f : State → State} (hf : ∀ t, (f t).mems = t.mems) :
    (s.boardWrite off w f).mems = s.mems := by
  unfold State.boardWrite
  (repeat' split) <;> simp [hf]
@[simp] theorem hostWrite_mems {off w} {f : State → State} (hf : ∀ t, (f t).mems = t.mems) :
    (s.hostWrite off w f).mems = s.mems := by
  unfold State.hostWrite
  split <;> simp [hf]
@[simp] theorem hostWriteSet_mems {off w b} {f : Nat → State → State} (hf : ∀ v t, (f v t).mems = t.mems) :
    (s.hostWriteSet off w b f).mems = s.mems := hostWrite_mems (hf _)
@[simp] theorem winDone_mems {t mir bar off w} : (s.winDone mir bar off w t).mems = t.mems := by
  unfold State.winDone
  split <;> simp
@[simp] theorem hostWriteWin_mems {mir bar off w} {f : State → State} (hf : ∀ t, (f t).mems = t.mems) :
    (s.hostWriteWin mir bar off w f).mems = s.mems := by
  unfold State.hostWriteWin
  (repeat' split) <;> simp [hf]

/-! ### Routes -/

@[simp] theorem setFw_mems {i w v} : (s.setFw i w v).mems = s.mems := by simp [State.setFw]

/-! ### Slate -/

@[simp] theorem snapPos_mems {n} : (State.snapPos n s).mems = s.mems := by simp [State.snapPos]
@[simp] theorem snap_mems : s.snap.mems = s.mems := by simp [State.snap]
@[simp] theorem loadLines_mems {n} : (State.loadLines n s).mems = s.mems := by simp [State.loadLines]
@[simp] theorem showPtpLocked_mems : s.showPtpLocked.mems = s.mems := by simp [State.showPtpLocked]
@[simp] theorem lockRaster_mems {n} : (State.lockRaster n s).mems = s.mems := by simp [State.lockRaster]
@[simp] theorem pulsesWait_mems {n} : (State.pulsesWait n s).mems = s.mems := by simp [State.pulsesWait]
@[simp] theorem enableRaster_mems {n} : (State.enableRaster n s).mems = s.mems := by simp [State.enableRaster]
@[simp] theorem disableRaster_mems {n} : (State.disableRaster n s).mems = s.mems := by simp [State.disableRaster]
@[simp] theorem rasterFormat_mems {n w} : (s.rasterFormat n w).mems = s.mems := by simp [State.rasterFormat]
@[simp] theorem rasterSet_mems {n w} : (State.rasterSet n w s).mems = s.mems := by simp [State.rasterSet]
@[simp] theorem rasterSeed_mems {n hi w} : (State.rasterSeed n hi w s).mems = s.mems := by simp [State.rasterSeed]
@[simp] theorem rasterTiming_mems {n w} : (State.rasterTiming n w s).mems = s.mems := by simp [State.rasterTiming]
@[simp] theorem rasterOfs_mems {n w} : (State.rasterOfs n w s).mems = s.mems := by simp [State.rasterOfs]
@[simp] theorem rasterLines_mems {n w} : (State.rasterLines n w s).mems = s.mems := by simp [State.rasterLines]
@[simp] theorem psubFrames_mems : s.psubFrames.mems = s.mems := by simp [State.psubFrames]
@[simp] theorem cmpFire_mems {k late} : (State.cmpFire k late s).mems = s.mems := by simp [State.cmpFire]
@[simp] theorem cmpFields_mems {k w} : (State.cmpFields k w s).mems = s.mems := by simp [State.cmpFields]
@[simp] theorem cmpArm_mems {k w} : (State.cmpArm k w s).mems = s.mems := by simp [State.cmpArm]
@[simp] theorem cmpDisarm_mems {k w} : (State.cmpDisarm k w s).mems = s.mems := by simp [State.cmpDisarm]
@[simp] theorem cmpTgt_mems {k i w} : (State.cmpTgt k i w s).mems = s.mems := by
  unfold State.cmpTgt
  (repeat' split) <;> simp
@[simp] theorem showHead_mems {f n q} : (State.showHead f n q s).mems = s.mems := by simp [State.showHead]
@[simp] theorem setGpiq_mems {q} : (s.setGpiq q).mems = s.mems := by simp [State.setGpiq]
@[simp] theorem gpiChange_mems {i level} : (State.gpiChange i level s).mems = s.mems := by simp [State.gpiChange]
@[simp] theorem gpiSettle_mems : s.gpiSettle.mems = s.mems := by simp [State.gpiSettle]
@[simp] theorem gpiQueue_mems {i} : (State.gpiQueue i s).mems = s.mems := by simp [State.gpiQueue]
@[simp] theorem gpiAccept_mems {i} : (State.gpiAccept i s).mems = s.mems := by simp [State.gpiAccept]
@[simp] theorem gpiPop_mems {w} : (State.gpiPop w s).mems = s.mems := by simp [State.gpiPop]
@[simp] theorem gpoDrive_mems {c} : (s.gpoDrive c).mems = s.mems := by simp [State.gpoDrive]
@[simp] theorem gpoWrite_mems {op w} : (State.gpoWrite op w s).mems = s.mems := by simp [State.gpoWrite]
@[simp] theorem setValid_mems {j b} : (State.setValid j b s).mems = s.mems := by simp [State.setValid]
@[simp] theorem schedApply_mems {j} : (State.schedApply j s).mems = s.mems := by simp [State.schedApply]
@[simp] theorem schedArm_mems {j} : (State.schedArm j s).mems = s.mems := by simp [State.schedArm]
@[simp] theorem schedWrite_mems {j i w} : (State.schedWrite j i w s).mems = s.mems := by
  unfold State.schedWrite
  (repeat' split) <;> simp

/-! ### Refsel -/

@[simp] theorem setCand_mems {c x} : (s.setCand c x).mems = s.mems := by simp [State.setCand]
@[simp] theorem setRef_mems {f} : (s.setRef f).mems = s.mems := by simp [State.setRef]
@[simp] theorem rastersFollow_mems : s.rastersFollow.mems = s.mems := by simp [State.rastersFollow]
@[simp] theorem freeze_mems {new} : (s.freeze new).mems = s.mems := by simp [State.freeze]
@[simp] theorem refShow_mems : s.refShow.mems = s.mems := by simp [State.refShow]
@[simp] theorem setBuildout_mems {v} : (s.setBuildout v).mems = s.mems := by simp [State.setBuildout]
@[simp] theorem ctlShow_mems : s.ctlShow.mems = s.mems := by simp [State.ctlShow]
@[simp] theorem ctlMove_mems {x v w rate} : (s.ctlMove x v w rate).mems = s.mems := by simp [State.ctlMove]
@[simp] theorem ctlTo_mems {w} : (s.ctlTo w).mems = s.mems := by simp [State.ctlTo]
@[simp] theorem slewTo_mems {ph f build} : (s.slewTo ph f build).mems = s.mems := by simp [State.slewTo]
@[simp] theorem histShow_mems : s.histShow.mems = s.mems := by simp [State.histShow]
@[simp] theorem hoEnter_mems : s.hoEnter.mems = s.mems := by simp [State.hoEnter]
@[simp] theorem phaseShow_mems {c} : (State.phaseShow c s).mems = s.mems := by simp [State.phaseShow]
@[simp] theorem judgeStage_mems : s.judgeStage.mems = s.mems := by
  unfold State.judgeStage
  split <;> simp
@[simp] theorem setPhase_mems {c p} : (s.setPhase c p).mems = s.mems := by simp [State.setPhase]
@[simp] theorem houseStep_mems {c} : (s.houseStep c).mems = s.mems := by simp [State.houseStep]
@[simp] theorem moveLoop_mems {c} : (s.moveLoop c).mems = s.mems := by simp [State.moveLoop]
@[simp] theorem showSel_mems {o} : (s.showSel o).mems = s.mems := by simp [State.showSel]
@[simp] theorem reselect_mems : s.reselect.mems = s.mems := by
  unfold State.reselect
  dsimp only
  split
  · simp
  · split <;> simp
@[simp] theorem qualify_mems {c} : (s.qualify c).mems = s.mems := by simp [State.qualify]
@[simp] theorem candPresent_mems {c} : (s.candPresent c).mems = s.mems := by simp [State.candPresent]
@[simp] theorem candAbsent_mems {c} : (s.candAbsent c).mems = s.mems := by simp [State.candAbsent]
@[simp] theorem candDisq_mems {c} : (s.candDisq c).mems = s.mems := by simp [State.candDisq]
@[simp] theorem refinResync_mems {c} : (s.refinResync c).mems = s.mems := by simp [State.refinResync]
@[simp] theorem refinGlitch_mems {c} : (s.refinGlitch c).mems = s.mems := by simp [State.refinGlitch]
@[simp] theorem refinPoint_mems {c} : (s.refinPoint c).mems = s.mems := by simp [State.refinPoint]
@[simp] theorem fabricPoint_mems {d} : (State.fabricPoint d s).mems = s.mems := by simp [State.fabricPoint]
@[simp] theorem follow_mems {c f} : (s.follow c f).mems = s.mems := by simp [State.follow]
@[simp] theorem driftOne_mems {offs c} : (State.driftOne offs c s).mems = s.mems := by simp [State.driftOne]
@[simp] theorem ptpValid_mems {w} : (State.ptpValid w s).mems = s.mems := by simp [State.ptpValid]
@[simp] theorem refCtrl_mems {w} : (State.refCtrl w s).mems = s.mems := by simp [State.refCtrl]
@[simp] theorem refselShow_mems {c} : (State.refselShow c s).mems = s.mems := by simp [State.refselShow]
@[simp] theorem candWord0_mems {c w} : (s.candWord0 c w).mems = s.mems := by simp [State.candWord0]
@[simp] theorem candWrite_mems {c i w} : (State.candWrite c i w s).mems = s.mems := by simp [State.candWrite]
@[simp] theorem locoscWrite_mems {w} : (State.locoscWrite w s).mems = s.mems := by simp [State.locoscWrite]
@[simp] theorem setSyn_mems {y x} : (s.setSyn y x).mems = s.mems := by simp [State.setSyn]
@[simp] theorem synShow_mems : s.synShow.mems = s.mems := by simp [State.synShow]
@[simp] theorem unprotect_mems {d} : (State.unprotect d s).mems = s.mems := by simp [State.unprotect]
@[simp] theorem moveDomain_mems {d src} : (State.moveDomain d src s).mems = s.mems := by simp [State.moveDomain]
@[simp] theorem setRefout_mems {i x} : (s.setRefout i x).mems = s.mems := by simp [State.setRefout]
@[simp] theorem refoutWait_mems {i} : (State.refoutWait i s).mems = s.mems := by simp [State.refoutWait]
@[simp] theorem synLock_mems {y} : (State.synLock y s).mems = s.mems := by simp [State.synLock]
@[simp] theorem synGate_mems {y e} : (State.synGate y e s).mems = s.mems := by simp [State.synGate]
@[simp] theorem synMove_mems {y} : (State.synMove y s).mems = s.mems := by
  unfold State.synMove
  simp only [forEach_mems, unprotect_mems, setSyn_mems, implies_true]
  exact forEach_mems (fun d t => by split <;> simp) _ s
@[simp] theorem synLoss_mems {y} : (State.synLoss y s).mems = s.mems := by simp [State.synLoss]
@[simp] theorem synExclude_mems : s.synExclude.mems = s.mems := by simp [State.synExclude]
@[simp] theorem synCtrl_mems {y w} : (State.synCtrl y w s).mems = s.mems := by simp [State.synCtrl]
@[simp] theorem refoutWrite_mems {i off w} : (State.refoutWrite i off w s).mems = s.mems := by simp [State.refoutWrite]

/-! ### Ptp -/

@[simp] theorem setTxq_mems {q l} : (s.setTxq q l).mems = s.mems := by simp [State.setTxq]
@[simp] theorem txqPush_mems {q e} : (s.txqPush q e).mems = s.mems := by simp [State.txqPush]
@[simp] theorem txqPop_mems {q w} : (State.txqPop q w s).mems = s.mems := by simp [State.txqPop]
@[simp] theorem addendWrite_mems {w} : (State.addendWrite w s).mems = s.mems := by simp [State.addendWrite]
@[simp] theorem ptpStep_mems : s.ptpStep.mems = s.mems := by simp [State.ptpStep]
@[simp] theorem ptpRearm_mems : s.ptpRearm.mems = s.mems := by simp [State.ptpRearm]
@[simp] theorem ptpCtrl_mems {w} : (State.ptpCtrl w s).mems = s.mems := by simp [State.ptpCtrl]

/-! ### Engine -/

@[simp] theorem setRs_mems {n c} : (s.setRs n c).mems = s.mems := by simp [State.setRs]
@[simp] theorem setPc_mems {n v} : (s.setPc n v).mems = s.mems := by simp [State.setPc]
@[simp] theorem setK_mems {n i t} : (s.setK n i t).mems = s.mems := by simp [State.setK]
@[simp] theorem mirrorVal_mems {n kind v} : (s.mirrorVal n kind v).mems = s.mems := by simp [State.mirrorVal]
@[simp] theorem rasterBack_mems {c n} : (State.rasterBack c n s).mems = s.mems := by simp [State.rasterBack]
@[simp] theorem atBack_mems {c} {f : State → State} (hf : ∀ t, (f t).mems = t.mems) : (s.atBack c f).mems = s.mems := by
  unfold State.atBack
  split <;> simp [hf]
@[simp] theorem atPos_mems {p} {f : State → State} (hf : ∀ t, (f t).mems = t.mems) : (s.atPos p f).mems = s.mems := atBack_mems hf
@[simp] theorem asActive_mems {n} {f : State → State} (hf : ∀ t, (f t).mems = t.mems) : (s.asActive n f).mems = s.mems := by
  unfold State.asActive
  split <;> simp [hf]
@[simp] theorem dropVal_mems {n} : (s.dropVal n).mems = s.mems := by simp [State.dropVal]
@[simp] theorem armCmp_mems {n x purpose} : (s.armCmp n x purpose).mems = s.mems := by simp [State.armCmp]
@[simp] theorem disarmCmp_mems {n x} : (s.disarmCmp n x).mems = s.mems := by simp [State.disarmCmp]
@[simp] theorem suspend_mems {n w} : (s.suspend n w).mems = s.mems := by simp [State.suspend]
@[simp] theorem endWait_mems {n tmo} : (s.endWait n tmo).mems = s.mems := by
  unfold State.endWait
  split <;> simp
@[simp] theorem wake_mems {n code tmo} : (s.wake n code tmo).mems = s.mems := by simp [State.wake]
@[simp] theorem wakeMirror_mems {n code tmo} : (s.wakeMirror n code tmo).mems = s.mems := by simp [State.wakeMirror]
@[simp] theorem consume_mems {n} : (s.consume n).mems = s.mems := by
  unfold State.consume
  split <;> simp
@[simp] theorem spareShow_mems : s.spareShow.mems = s.mems := by simp [State.spareShow]
@[simp] theorem engineFault_mems {n code} : (s.engineFault n code).mems = s.mems := by simp [State.engineFault]
@[simp] theorem faultStop_mems {n code addr} : (s.faultStop n code addr).mems = s.mems := by simp [State.faultStop]

/-! ### Admit -/

@[simp] theorem admShow_mems : s.admShow.mems = s.mems := by simp [State.admShow]
@[simp] theorem enterGrant_mems {e holder cls inst param tag c} : (s.enterGrant e holder cls inst param tag c).mems = s.mems :=
    by simp [State.enterGrant]
@[simp] theorem returnEntry_mems {e} : (s.returnEntry e).mems = s.mems := by simp [State.returnEntry]
@[simp] theorem returnGrant_mems {cls inst} : (s.returnGrant cls inst).mems = s.mems := by
  unfold State.returnGrant
  split <;> simp
@[simp] theorem grantNow_mems {holder cls inst param} : (s.grantNow holder cls inst param).1.mems = s.mems := by
  unfold State.grantNow
  dsimp only
  split <;> simp
@[simp] theorem hostAskEnd_mems {code tok st} : (s.hostAskEnd code tok st).mems = s.mems := by simp [State.hostAskEnd]
@[simp] theorem engAskEnd_mems {n code tok} : (s.engAskEnd n code tok).mems = s.mems := by
  unfold State.engAskEnd
  split <;> simp
@[simp] theorem mirrorHostAsk_mems {cls inst param code tok} : (s.mirrorHostAsk cls inst param code tok).mems = s.mems :=
    by simp [State.mirrorHostAsk]
@[simp] theorem askEnd_mems {r code tok} : (s.askEnd r code tok).mems = s.mems := by simp [State.askEnd]
@[simp] theorem unqueue_mems {r} : (s.unqueue r).mems = s.mems := by simp [State.unqueue]
@[simp] theorem refuseRivals_mems {cls inst} : (s.refuseRivals cls inst).mems = s.mems := by simp [State.refuseRivals]
@[simp] theorem grant_mems {holder cls inst param} : (s.grant holder cls inst param).1.mems = s.mems := by simp [State.grant]
@[simp] theorem serveQueue_mems : s.serveQueue.mems = s.mems := by
  unfold State.serveQueue
  (repeat' split) <;> simp
@[simp] theorem admStandby_mems {cls} {f : State → State} (hf : ∀ t, (f t).mems = t.mems) : (s.admStandby cls f).mems = s.mems := by
  unfold State.admStandby
  split <;> simp [hf]
@[simp] theorem hostAsk_mems {w} : (State.hostAsk w s).mems = s.mems := by
  unfold State.hostAsk
  dsimp only
  (repeat' split) <;> simp
@[simp] theorem hostCancel_mems : s.hostCancel.mems = s.mems := by simp [State.hostCancel]
@[simp] theorem askCtrl_mems {w} : (State.askCtrl w s).mems = s.mems := by simp [State.askCtrl]
@[simp] theorem hostGive_mems {w} : (State.hostGive w s).mems = s.mems := by simp [State.hostGive]
@[simp] theorem giveCtrl_mems {w} : (State.giveCtrl w s).mems = s.mems := by simp [State.giveCtrl]
@[simp] theorem readSensors_mems {ts} : (State.readSensors ts s).mems = s.mems := by simp [State.readSensors]
@[simp] theorem thermCfg_mems {w} : (State.thermCfg w s).mems = s.mems := by simp [State.thermCfg]
@[simp] theorem setTarget_mems {v} : (s.setTarget v).mems = s.mems := by simp [State.setTarget]
@[simp] theorem avsCtrl_mems {w} : (State.avsCtrl w s).mems = s.mems := by simp [State.avsCtrl]
@[simp] theorem avsBus_mems {ack} : (s.avsBus ack).mems = s.mems := by simp [State.avsBus]
@[simp] theorem avsDecide_mems {slack} : (s.avsDecide slack).mems = s.mems := by simp [State.avsDecide]

/-! ### Align -/

@[simp] theorem hold_mems {d b} : (State.hold d b s).mems = s.mems := by simp [State.hold]
@[simp] theorem showFlags_mems {d j} : (State.showFlags d j s).mems = s.mems := by simp [State.showFlags]
@[simp] theorem showDest_mems {d} : (State.showDest d s).mems = s.mems := by simp [State.showDest]
@[simp] theorem probeSubst_mems {d} : (State.probeSubst d s).mems = s.mems := by simp [State.probeSubst]
@[simp] theorem settleDest_mems {d} : (State.settleDest d s).mems = s.mems := by simp [State.settleDest]
@[simp] theorem showSrc_mems {lo n} : (State.showSrc lo n s).mems = s.mems := by simp [State.showSrc]
@[simp] theorem showReaders_mems {p} : (State.showReaders p s).mems = s.mems := by simp [State.showReaders]
@[simp] theorem showRaster_mems {r} : (State.showRaster r s).mems = s.mems := by simp [State.showRaster]
@[simp] theorem recEnd_mems {r} : (s.recEnd r).mems = s.mems := by simp [State.recEnd]
@[simp] theorem recDrop_mems {r q} : (State.recDrop r q s).mems = s.mems := by
  unfold State.recDrop
  dsimp only
  split <;> simp only [recEnd_mems, incSat_mems, setDesc_mems, setRecorder_mems]
@[simp] theorem recAbandon_mems {r} : (State.recAbandon r s).mems = s.mems := by
  unfold State.recAbandon
  split <;> simp
@[simp] theorem recCheck_mems : s.recCheck.mems = s.mems := by simp [State.recCheck]
@[simp] theorem oowUpdate_mems {p} : (State.oowUpdate p s).mems = s.mems := by simp [State.oowUpdate]
@[simp] theorem windowsStep_mems {p} {f : State → Nat → Window} : (s.windowsStep p f).mems = s.mems := by simp [State.windowsStep]
@[simp] theorem portLost_mems {p} : (State.portLost p s).mems = s.mems := by simp [State.portLost]
@[simp] theorem showOfs_mems {p} : (State.showOfs p s).mems = s.mems := by simp [State.showOfs]
@[simp] theorem portClear_mems {p} : (State.portClear p s).mems = s.mems := by simp [State.portClear]
@[simp] theorem portCfg_mems {p w} : (State.portCfg p w s).mems = s.mems := by simp [State.portCfg]
@[simp] theorem setLock_mems {p k b} : (s.setLock p k b).mems = s.mems := by simp [State.setLock]
@[simp] theorem lockLost_mems {p k} : (s.lockLost p k).mems = s.mems := by simp [State.lockLost]
@[simp] theorem judgeTrs_mems {p k d t} : (s.judgeTrs p k d t).mems = s.mems := by simp [State.judgeTrs]
@[simp] theorem judgeWords_mems {p d clks f} : (s.judgeWords p d clks f).mems = s.mems := by simp [State.judgeWords]
@[simp] theorem judgePid_mems {p v} : (s.judgePid p v).mems = s.mems := by simp [State.judgePid]
@[simp] theorem pidFrame_mems {p} : (s.pidFrame p).mems = s.mems := by
  unfold State.pidFrame
  dsimp only
  (repeat' split) <;> simp
@[simp] theorem judgeSkew_mems {p k d} : (s.judgeSkew p k d).mems = s.mems := by simp [State.judgeSkew]
@[simp] theorem judgeFormat_mems {p clks} : (s.judgeFormat p clks).mems = s.mems := by simp [State.judgeFormat]
@[simp] theorem portFrame_mems {p clks} : (s.portFrame p clks).mems = s.mems := by simp [State.portFrame]
@[simp] theorem alignStore_mems {p d l} : (s.alignStore p d l).mems = s.mems := by simp [State.alignStore]
@[simp] theorem digest_mems {key lay q l bad ws} : (s.digest key lay q l bad ws).mems = s.mems := by simp [State.digest]
@[simp] theorem oowMoved_mems {was p r} : (s.oowMoved was p r).mems = s.mems := by simp [State.oowMoved]
@[simp] theorem judgeLine_mems {p k d j} : (s.judgeLine p k d j).mems = s.mems := by
  unfold State.judgeLine
  dsimp only
  (repeat' split) <;> simp

/-! ### Spare -/

@[simp] theorem sparesShow_mems : s.sparesShow.mems = s.mems := by simp [State.sparesShow]
@[simp] theorem spareMove_mems : s.spareMove.mems = s.mems := by simp [State.spareMove]
@[simp] theorem spareTake_mems {kind n} : (s.spareTake kind n).mems = s.mems := by simp [State.spareTake]

/-! ### Xpt -/

@[simp] theorem stageEnt_mems {master d e} : (s.stageEnt master d e).mems = s.mems := by simp [State.stageEnt]
@[simp] theorem stageRoute_mems {master d x w e} : (s.stageRoute master d x w e).mems = s.mems := by simp [State.stageRoute]
@[simp] theorem shadowWrite_mems {d hi w} : (State.shadowWrite d hi w s).mems = s.mems := by simp [State.shadowWrite]
@[simp] theorem unstage_mems {d} : (State.unstage d s).mems = s.mems := by simp [State.unstage]
@[simp] theorem unstageXpt_mems {master} : (s.unstageXpt master).mems = s.mems := by simp [State.unstageXpt]
@[simp] theorem acceptXpt_mems {master r target} : (s.acceptXpt master r target).1.mems = s.mems := by simp [State.acceptXpt]
@[simp] theorem hostCommitAccepted_mems {cid es} : (s.hostCommitAccepted cid es).mems = s.mems := by simp [State.hostCommitAccepted]
@[simp] theorem hostCommitRefused_mems {code bad} :
    (s.hostCommitRefused code bad).mems = s.mems := by simp [State.hostCommitRefused]
@[simp] theorem hostXptCommit_mems : s.hostXptCommit.mems = s.mems := by simp [State.hostXptCommit]
@[simp] theorem xptCtrl_mems {w} : (State.xptCtrl w s).mems = s.mems := by simp [State.xptCtrl]
@[simp] theorem opaqueMove_mems {d e} : (State.opaqueMove d e s).mems = s.mems := by simp [State.opaqueMove]
@[simp] theorem applyEnt_mems {d} : (State.applyEnt d s).mems = s.mems := by simp [State.applyEnt]
@[simp] theorem mapCommit_mems {cid f} : (s.mapCommit cid f).mems = s.mems := by simp [State.mapCommit]
@[simp] theorem discardOn_mems {c r} : (s.discardOn c r).mems = s.mems := by simp [State.discardOn]
@[simp] theorem applyOn_mems {c r} : (s.applyOn c r).mems = s.mems := by simp [State.applyOn]
@[simp] theorem finishXpt_mems {cid} : (s.finishXpt cid).mems = s.mems := by
  unfold State.finishXpt
  split <;> simp
@[simp] theorem xptEffect_mems {r} : (State.xptEffect r s).mems = s.mems := by
  unfold State.xptEffect
  split <;> simp
@[simp] theorem discardCommits_mems : s.discardCommits.mems = s.mems := by simp [State.discardCommits]
@[simp] theorem lockGroup_mems {d w lock} : (s.lockGroup d w lock).mems = s.mems := by simp [State.lockGroup]
@[simp] theorem xptLock_mems {w} : (State.xptLock w s).mems = s.mems := by simp [State.xptLock]
@[simp] theorem psubTo_mems {step} : (s.psubTo step).mems = s.mems := by simp [State.psubTo]
@[simp] theorem psubAbandon_mems {reason} : (s.psubAbandon reason).mems = s.mems := by simp [State.psubAbandon]
@[simp] theorem psubStart_mems : s.psubStart.mems = s.mems := by
  unfold State.psubStart
  split <;> simp
@[simp] theorem psubCtrl_mems {w} : (State.psubCtrl w s).mems = s.mems := by simp [State.psubCtrl]
@[simp] theorem psubMove_mems {r} : (State.psubMove r s).mems = s.mems := by simp [State.psubMove]
@[simp] theorem planeErr_mems {k} : (s.planeErr k).mems = s.mems := by simp [State.planeErr]
@[simp] theorem rasterDone_mems {n} : (State.rasterDone n s).mems = s.mems := by simp [State.rasterDone]
@[simp] theorem rasterCfg_mems {n w} : (State.rasterCfg n w s).mems = s.mems := by simp [State.rasterCfg]

/-! ### Sable -/

@[simp] theorem loadShow_mems : s.loadShow.mems = s.mems := by simp [State.loadShow]
@[simp] theorem storeShow_mems : s.storeShow.mems = s.mems := by simp [State.storeShow]
@[simp] theorem cxlCtrl_mems {c w} : (State.cxlCtrl c w s).mems = s.mems := by simp [State.cxlCtrl]
@[simp] theorem markRegion_mems {c g} : (s.markRegion c g).mems = s.mems := by simp [State.markRegion]
@[simp] theorem takePage_mems {c g} : (s.takePage c g).mems = s.mems := by simp [State.takePage]
@[simp] theorem givePage_mems {c g} : (s.givePage c g).mems = s.mems := by simp [State.givePage]
theorem takeSpare_mems {c x} (h : s.takeSpare c = some x) : x.1.mems = s.mems := by
  simp only [State.takeSpare, Option.map_eq_some_iff] at h
  obtain ⟨k, -, rfl⟩ := h
  simp
theorem placeAll_mems {pat n d x} (h : s.placeAll pat n d = some x) : x.1.mems = s.mems := by
  refine List.foldlRecOn (motive := fun a : Option (State × List Page) => ∀ x, a = some x → x.1.mems = s.mems) _ _ ?_ ?_ _ h
  · rintro _ ⟨⟩
    rfl
  · rintro (_ | ⟨t, ps⟩) ha e - x hx
    · cases hx
    · dsimp only at hx
      (repeat' split at hx) <;> cases hx
      exact takePage_mems.trans (ha _ rfl)
@[simp] theorem bufAlloc_mems {n w0 w1 w2 w3 at'} : (s.bufAlloc n w0 w1 w2 w3 at').1.mems = s.mems := by
  unfold State.bufAlloc
  dsimp only
  split
  · rfl
  split
  · rfl
  split
  · rfl
  next h => simp [placeAll_mems h]
@[simp] theorem bufFree_mems {n h} : (s.bufFree n h).1.mems = s.mems := by
  unfold State.bufFree
  (repeat' split) <;> simp
@[simp] theorem noteRead_mems {i r} : (s.noteRead i r).mems = s.mems := by simp [State.noteRead]
@[simp] theorem staleRead_mems : s.staleRead.mems = s.mems := by simp [State.staleRead]
@[simp] theorem setRelq_mems {q} : (s.setRelq q).mems = s.mems := by simp [State.setRelq]
@[simp] theorem relPop_mems {w} : (State.relPop w s).mems = s.mems := by simp [State.relPop]
@[simp] theorem leaseGo_mems {w} : (State.leaseGo w s).mems = s.mems := by
  unfold State.leaseGo
  (repeat' split) <;> simp
@[simp] theorem writeBytes_mems {i o bs} : (s.writeBytes i o bs).mems = s.mems := by simp [State.writeBytes]
@[simp] theorem readByte_mems {i o} : (s.readByte i o).1.mems = s.mems := by simp [State.readByte]
@[simp] theorem hostWinErr_mems {w} : (s.hostWinErr w).mems = s.mems := by simp [State.hostWinErr]
@[simp] theorem hostWinWrite_mems {w o bs} : (State.hostWinWrite w o bs s).mems = s.mems := by
  unfold State.hostWinWrite
  split <;> simp
@[simp] theorem poisoned_mems {c} : (s.poisoned c).mems = s.mems := by simp [State.poisoned]
@[simp] theorem hostWinRead_mems {w o n poison tmo} : (State.hostWinRead w o n poison tmo s).mems = s.mems := by
  unfold State.hostWinRead
  split <;> simp
@[simp] theorem replaceLost_mems {c i} : (s.replaceLost c i).mems = s.mems := by
  unfold State.replaceLost
  dsimp only
  split
  · rfl
  · simp only [event_mems, mems_mk, setDesc_mems]
    exact foldl_fst_mems (fun a e => by (repeat' split) <;> simp) _ _

/-! ### Lines -/

@[simp] theorem pushLine_mems {x n l} : (s.pushLine x n l).mems = s.mems := by simp [State.pushLine]

/-! ### Record -/

@[simp] theorem recStart_mems {n r h} : (s.recStart n r h).1.mems = s.mems := by simp [State.recStart]
@[simp] theorem recStop_mems {r} : (s.recStop r).1.mems = s.mems := by simp [State.recStop]
@[simp] theorem recFrame_mems {r i src} : (s.recFrame r i src).mems = s.mems := by simp [State.recFrame]
@[simp] theorem recStrandLine_mems {r i q l k act anc} : (s.recStrandLine r i q l k act anc).mems = s.mems := by
  unfold State.recStrandLine
  dsimp only
  split <;> simp
@[simp] theorem recStrandDone_mems {i q k} : (s.recStrandDone i q k).mems = s.mems := by simp [State.recStrandDone]
@[simp] theorem recDone_mems {r i q} : (s.recDone r i q).mems = s.mems := by simp [State.recDone]
@[simp] theorem playFlags_mems {p lost lapsed} : (s.playFlags p lost lapsed).mems = s.mems := by simp [State.playFlags]
@[simp] theorem playChoose_mems {p l} : (s.playChoose p l).mems = s.mems := by
  unfold State.playChoose
  dsimp only
  split <;> simp
@[simp] theorem playAdopt_mems {p q} : (s.playAdopt p q).mems = s.mems := by simp [State.playAdopt]
@[simp] theorem playStop_mems {p} : (s.playStop p).mems = s.mems := by simp [State.playStop]
@[simp] theorem playLine_mems {p i} : (s.playLine p i).mems = s.mems := by
  unfold State.playLine
  dsimp only
  (repeat' split) <;> simp only [incSat_mems, setPlayer_mems]
@[simp] theorem playEmit_mems {p i poison} : (s.playEmit p i poison).mems = s.mems := by
  unfold State.playEmit
  dsimp only
  split <;> simp
@[simp] theorem playFetch_mems {p i bad tmo} : (s.playFetch p i bad tmo).mems = s.mems := by
  unfold State.playFetch
  split <;> simp
@[simp] theorem play_mems {n p h w} : (s.play n p h w).1.mems = s.mems := by simp [State.play]

/-! ### Ochre -/

@[simp] theorem setHead_mems {h x} : (s.setHead h x).mems = s.mems := by simp [State.setHead]
@[simp] theorem setLayer_mems {h l x} : (s.setLayer h l x).mems = s.mems := by simp [State.setLayer]
@[simp] theorem ochreShow_mems : s.ochreShow.mems = s.mems := by simp [State.ochreShow]
@[simp] theorem setOchreLog_mems {q} : (s.setOchreLog q).mems = s.mems := by simp [State.setOchreLog]
@[simp] theorem headCond_mems {h l reason detail} : (s.headCond h l reason detail).mems = s.mems := by simp [State.headCond]
@[simp] theorem ochrePop_mems {w} : (State.ochrePop w s).mems = s.mems := by simp [State.ochrePop]
@[simp] theorem stageWord_mems {n h b i v} : (s.stageWord n h b i v).mems = s.mems := by
  unfold State.stageWord
  simp
@[simp] theorem headStage_mems {h b i w} : (State.headStage h b i w s).mems = s.mems := by simp [State.headStage]
@[simp] theorem lset_mems {n g imm v} : (s.lset n g imm v).1.mems = s.mems := by simp [State.lset]
@[simp] theorem unclaim_mems {h n} : (State.unclaim h n s).mems = s.mems := by simp [State.unclaim]
@[simp] theorem unclaimAll_mems {n} : (s.unclaimAll n).mems = s.mems := by simp [State.unclaimAll]
@[simp] theorem freeScaler_mems : s.freeScaler.1.mems = s.mems := by simp [State.freeScaler]
@[simp] theorem takeScaler_mems {h l} : (s.takeScaler h l).mems = s.mems := by
  unfold State.takeScaler
  rcases h : s.freeScaler with ⟨t, _ | k⟩ <;> simp [← freeScaler_mems (s := s), h]
@[simp] theorem dropScalers_mems {h x} : (s.dropScalers h x).mems = s.mems := by simp [State.dropScalers]
@[simp] theorem headStatus_mems {h st n code detail val} : (s.headStatus h st n code detail val).mems = s.mems :=
    by simp [State.headStatus]
@[simp] theorem headRefused_mems {n h code detail validate} : (s.headRefused n h code detail validate).mems = s.mems :=
    by simp [State.headRefused]
@[simp] theorem headAccept_mems {n h r t validate} : (s.headAccept n h r t validate).mems = s.mems := by simp [State.headAccept]
@[simp] theorem headCommit_mems {n h r t validate} : (s.headCommit n h r t validate).1.mems = s.mems := by simp [State.headCommit]
@[simp] theorem headCtrl_mems {w} : (State.headCtrl w s).mems = s.mems := by simp [State.headCtrl]
@[simp] theorem headDiscard_mems {h} : (State.headDiscard h s).mems = s.mems := by simp [State.headDiscard]
@[simp] theorem layerOff_mems {h l count} : (s.layerOff h l count).mems = s.mems := by simp [State.layerOff]
@[simp] theorem layerShow_mems {h l hd q} : (s.layerShow h l hd q).mems = s.mems := by simp [State.layerShow]
@[simp] theorem framePidBad_mems {i f} : (s.framePidBad i f).1.mems = s.mems := by
  unfold State.framePidBad
  split <;> simp
@[simp] theorem layerNotReady_mems {h l i} : (s.layerNotReady h l i).mems = s.mems := by
  unfold State.layerNotReady
  dsimp only
  split <;> simp
@[simp] theorem bufferStart_mems {h l} : (s.bufferStart h l).mems = s.mems := by
  unfold State.bufferStart
  dsimp only
  (repeat' split) <;> simp
@[simp] theorem layerStart_mems {h l} : (State.layerStart h l s).mems = s.mems := by
  unfold State.layerStart
  dsimp only
  (repeat' split) <;> simp
@[simp] theorem headJudge_mems {h} : (State.headJudge h s).mems = s.mems := by simp [State.headJudge]
@[simp] theorem headLayers_mems {h ls} : (State.headLayers h ls s).mems = s.mems := by simp [State.headLayers]
@[simp] theorem headStart_mems {h} : (State.headStart h s).mems = s.mems := by simp [State.headStart]
@[simp] theorem headShow_mems {h} : (State.headShow h s).mems = s.mems := by simp [State.headShow]
@[simp] theorem headLatch_mems {h} : (State.headLatch h s).mems = s.mems := by
  unfold State.headLatch
  simp
@[simp] theorem headEffect_mems {h} : (State.headEffect h s).mems = s.mems := by simp [State.headEffect]
@[simp] theorem fetchRow_mems {i q o y sub} : (s.fetchRow i q o y sub).1.mems = s.mems := by simp [State.fetchRow]
@[simp] theorem layerCompose_mems {h y l} : (State.layerCompose h y l s).mems = s.mems := by simp [State.layerCompose]
@[simp] theorem composeRow_mems {h y} : (State.composeRow h y s).mems = s.mems := by simp [State.composeRow]
@[simp] theorem lutRefuse_mems : s.lutRefuse.mems = s.mems := by simp [State.lutRefuse]
@[simp] theorem lutShow_mems : s.lutShow.mems = s.mems := by simp [State.lutShow]
@[simp] theorem lutSel_mems {w} : (State.lutSel w s).mems = s.mems := by simp [State.lutSel]
@[simp] theorem lutData_mems {w} : (State.lutData w s).mems = s.mems := by
  unfold State.lutData
  split <;> simp

/-! ### Keys -/

@[simp] theorem keysShow_mems : s.keysShow.mems = s.mems := by simp [State.keysShow]
@[simp] theorem newMask_mems {k} : (State.newMask k s).mems = s.mems := by simp [State.newMask]
@[simp] theorem slotErase_mems {k} : (State.slotErase k s).mems = s.mems := by simp [State.slotErase]
@[simp] theorem applyEntry_mems {s₀ ctr e} : (State.applyEntry s₀ ctr s e).mems = s.mems := by
  unfold State.applyEntry
  (repeat' split) <;> simp
@[simp] theorem keyApply_mems {m} : (s.keyApply m).mems = s.mems := by
  simp only [State.keyApply, event_mems, wr_mems, keysShow_mems]
  rw [foldl_mems fun t e => applyEntry_mems]
  split <;> simp
@[simp] theorem keyRefuse_mems {r entry} : (s.keyRefuse r entry).mems = s.mems := by simp [State.keyRefuse]
@[simp] theorem burnLoss_mems : s.burnLoss.mems = s.mems := by simp [State.burnLoss]
@[simp] theorem keysMsgClear_mems : s.keysMsgClear.mems = s.mems := by simp [State.keysMsgClear]
@[simp] theorem keysCtrl_mems {w} : (State.keysCtrl w s).mems = s.mems := by simp [State.keysCtrl]

/-! ### Audio -/

@[simp] theorem setAa_mems {d e} : (s.setAa d e).mems = s.mems := by simp [State.setAa]
@[simp] theorem setAsh_mems {d e} : (s.setAsh d e).mems = s.mems := by simp [State.setAsh]
@[simp] theorem aStageEnt_mems {master d e} : (s.aStageEnt master d e).mems = s.mems := by simp [State.aStageEnt]
@[simp] theorem aStage_mems {master gd gs ga} : (s.aStage master gd gs ga).mems = s.mems := by simp [State.aStage]
@[simp] theorem aShadowWrite_mems {d word w} : (State.aShadowWrite d word w s).mems = s.mems := by simp [State.aShadowWrite]
@[simp] theorem unstageAudio_mems {master} : (s.unstageAudio master).mems = s.mems := by simp [State.unstageAudio]
@[simp] theorem acceptAud_mems {master r target join} :
    (s.acceptAud master r target join).1.mems = s.mems := by simp [State.acceptAud]
@[simp] theorem hostAudioCommit_mems : s.hostAudioCommit.mems = s.mems := by simp [State.hostAudioCommit]
@[simp] theorem audioCtrl_mems {w} : (State.audioCtrl w s).mems = s.mems := by simp [State.audioCtrl]
@[simp] theorem aFinish_mems {c done} : (s.aFinish c done).mems = s.mems := by simp [State.aFinish]
@[simp] theorem beginChange_mems {d c} : (s.beginChange d c).mems = s.mems := by simp [State.beginChange]
@[simp] theorem aApply_mems {c d} : (State.aApply c d s).mems = s.mems := by simp [State.aApply]
@[simp] theorem aDiscard_mems {c} : (s.aDiscard c).mems = s.mems := by simp [State.aDiscard]
@[simp] theorem audioEffect_mems : s.audioEffect.mems = s.mems := by
  unfold State.audioEffect
  split <;> simp
@[simp] theorem laneAt_mems {lane k back bad} : (s.laneAt lane k back bad).1.mems = s.mems := by
  unfold State.laneAt
  (repeat' split) <;> simp
@[simp] theorem lanePush_mems {lane k x} : (s.lanePush lane k x).mems = s.mems := by
  unfold State.lanePush
  split <;> simp
@[simp] theorem delayed_mems {d k x bad} : (s.delayed d k x bad).1.mems = s.mems := by
  unfold State.delayed
  split <;> simp
@[simp] theorem embPush_mems {d k x} : (s.embPush d k x).mems = s.mems := by simp [State.embPush]
@[simp] theorem channelAt_mems {k lat bad d} : (State.channelAt k lat bad d s).mems = s.mems := by simp [State.channelAt]
@[simp] theorem ownerSlip_mems {u} : (State.ownerSlip u s).mems = s.mems := by simp [State.ownerSlip]
@[simp] theorem countSlip_mems {c} : (s.countSlip c).mems = s.mems := by
  unfold State.countSlip
  split <;> simp
@[simp] theorem countMissing_mems {c} : (s.countMissing c).mems = s.mems := by
  unfold State.countMissing
  (repeat' split) <;> simp
@[simp] theorem fifoPush_mems {c xs} : (s.fifoPush c xs).mems = s.mems := by simp [State.fifoPush]
@[simp] theorem fifoPop_mems {c} : (s.fifoPop c).1.mems = s.mems := by simp [State.fifoPop]
@[simp] theorem present_mems {c k smp} : (s.present c k smp).1.mems = s.mems := by simp [State.present]
@[simp] theorem feed_mems {k gap smp c} : (State.feed k gap smp c s).mems = s.mems := by simp [State.feed]
@[simp] theorem moveSlips_mems {t44 cs} : (s.moveSlips t44 cs).mems = s.mems := by
  unfold State.moveSlips
  split <;> simp
@[simp] theorem tdmOut_mems {t44 i} : (State.tdmOut t44 i s).mems = s.mems := by simp [State.tdmOut]
@[simp] theorem endChange_mems {d mode len} : (s.endChange d mode len).mems = s.mems := by
  unfold State.endChange
  split <;> simp
@[simp] theorem dblkShow_mems {b} : (s.dblkShow b).mems = s.mems := by simp [State.dblkShow]
@[simp] theorem dblkWrite_mems {b hi w} : (State.dblkWrite b hi w s).mems = s.mems := by simp [State.dblkWrite]
@[simp] theorem setDelay_mems {d delay b l en} : (s.setDelay d delay b l en).mems = s.mems := by simp [State.setDelay]
@[simp] theorem delayGo_mems {m w} : (State.delayGo m w s).mems = s.mems := by simp [State.delayGo]
@[simp] theorem dlyCtrlWrite_mems {own m word w} : (State.dlyCtrlWrite own m word w s).mems = s.mems := by simp [State.dlyCtrlWrite]
@[simp] theorem audioPortWrite_mems {p w} : (State.audioPortWrite p w s).mems = s.mems := by simp [State.audioPortWrite]
@[simp] theorem setDeemb_mems {q x} : (s.setDeemb q x).mems = s.mems := by simp [State.setDeemb]
@[simp] theorem takeSample_mems {c code at'} : (s.takeSample c code at').mems = s.mems := by simp [State.takeSample]
@[simp] theorem deembLine_mems {base at' clks len sub1 sd fs} : (s.deembLine base at' clks len sub1 sd fs).mems = s.mems :=
    by simp [State.deembLine]
@[simp] theorem deembStrand_mems {p d j} : (s.deembStrand p d j).mems = s.mems := by simp [State.deembStrand]
@[simp] theorem deembPlay_mems {p} : (s.deembPlay p).mems = s.mems := by
  unfold State.deembPlay
  dsimp only
  (repeat' split) <;> simp
@[simp] theorem tdmZerox_mems {i stop} : (s.tdmZerox i stop).mems = s.mems := by simp [State.tdmZerox]
@[simp] theorem tdmFifos_mems {i fill} : (s.tdmFifos i fill).mems = s.mems := by simp [State.tdmFifos]
@[simp] theorem tdmOff_mems {i} : (s.tdmOff i).mems = s.mems := by simp [State.tdmOff]
@[simp] theorem tdmOn_mems {i} : (s.tdmOn i).mems = s.mems := by simp [State.tdmOn]
@[simp] theorem tdmFields_mems {i w} : (s.tdmFields i w).mems = s.mems := by simp [State.tdmFields]
@[simp] theorem tdmCfg_mems {i w} : (State.tdmCfg i w s).mems = s.mems := by simp [State.tdmCfg]
@[simp] theorem tdmFault_mems {i f code answer len} : (s.tdmFault i f code answer len).mems = s.mems := by simp [State.tdmFault]
@[simp] theorem tdmRun_mems {i} : (s.tdmRun i).mems = s.mems := by simp [State.tdmRun]
@[simp] theorem tdmCentre_mems {i} : (s.tdmCentre i).mems = s.mems := by
  unfold State.tdmCentre
  simp
@[simp] theorem tdmSend_mems {i} : (s.tdmSend i).mems = s.mems := by simp [State.tdmSend]
@[simp] theorem tdmFlow_mems {i good smp} : (s.tdmFlow i good smp).mems = s.mems := by simp [State.tdmFlow]
@[simp] theorem tdmRunning_mems {i len good per smp} : (s.tdmRunning i len good per smp).mems = s.mems := by
  unfold State.tdmRunning
  (repeat' split) <;> simp

/-! ### Cue -/

@[simp] theorem winSelWrite_mems {w} : (State.winSelWrite w s).mems = s.mems := by simp [State.winSelWrite]
@[simp] theorem callWindow_mems {n ret} : (s.callWindow n ret).mems = s.mems := by simp [State.callWindow]
@[simp] theorem dispatch_mems {n} : (s.dispatch n).mems = s.mems := by simp [State.dispatch]
@[simp] theorem enterIdle_mems {n} : (s.enterIdle n).mems = s.mems := by simp [State.enterIdle]
@[simp] theorem ctrlRefused_mems {n} : (s.ctrlRefused n).mems = s.mems := by simp [State.ctrlRefused]
@[simp] theorem reqStart_mems {n} : (s.reqStart n).mems = s.mems := by simp [State.reqStart]
@[simp] theorem reqStop_mems {n} : (s.reqStop n).mems = s.mems := by simp [State.reqStop]
@[simp] theorem reqResume_mems {n} : (s.reqResume n).mems = s.mems := by
  unfold State.reqResume
  dsimp only
  (repeat' split) <;> simp
@[simp] theorem reqReset_mems {n} : (s.reqReset n).mems = s.mems := by simp [State.reqReset]
@[simp] theorem unstageEng_mems {n} : (s.unstageEng n).mems = s.mems := by simp [State.unstageEng]
@[simp] theorem reqDiscard_mems {n} : (s.reqDiscard n).mems = s.mems := by simp [State.reqDiscard]
@[simp] theorem cueFields_mems {n w} : (State.cueFields n w s).mems = s.mems := by simp [State.cueFields]
@[simp] theorem cueCtrl_mems {n w} : (State.cueCtrl n w s).mems = s.mems := by simp [State.cueCtrl]
@[simp] theorem cueCtrlHost_mems {n w b} : (s.cueCtrlHost n w b).mems = s.mems := by simp [State.cueCtrlHost]
@[simp] theorem setSpare_mems {n} : (s.setSpare n).mems = s.mems := by simp [State.setSpare]
@[simp] theorem globalCfg_mems {w} : (State.globalCfg w s).mems = s.mems := by simp [State.globalCfg]
@[simp] theorem pmapWrite_mems {w} : (State.pmapWrite w s).mems = s.mems := by simp [State.pmapWrite]
@[simp] theorem doorbell_mems {n w} : (State.doorbell n w s).mems = s.mems := by simp [State.doorbell]
@[simp] theorem loadWindow_mems {n ws} : (s.loadWindow n ws).mems = s.mems := by simp [State.loadWindow]
@[simp] theorem takeEvents_mems {n mask} : (s.takeEvents n mask).1.mems = s.mems := by simp [State.takeEvents]
@[simp] theorem setDst_mems {n dst v} : (s.setDst n dst v).mems = s.mems := by
  unfold State.setDst
  split <;> simp
@[simp] theorem substRecord_mems {target seq result pc} : (s.substRecord target seq result pc).mems = s.mems :=
    by simp [State.substRecord]
@[simp] theorem substStart_mems : s.substStart.mems = s.mems := by simp [State.substStart]
@[simp] theorem substAbort_mems : s.substAbort.mems = s.mems := by simp [State.substAbort]
@[simp] theorem substCtrl_mems {w} : (State.substCtrl w s).mems = s.mems := by simp [State.substCtrl]
@[simp] theorem exchange_mems {t} : (s.exchange t).mems = s.mems := by simp [State.exchange]
@[simp] theorem autoRestart_mems {n} : (s.autoRestart n).mems = s.mems := by simp [State.autoRestart]

/-! ### Fab -/

@[simp] theorem laneViol_mems {n code answer detail} : (s.laneViol n code answer detail).mems = s.mems := by simp [State.laneViol]
@[simp] theorem unframe_mems {n} : (s.unframe n).mems = s.mems := by simp [State.unframe]
@[simp] theorem laneGrantBack_mems {n} : (s.laneGrantBack n).mems = s.mems := by
  unfold State.laneGrantBack
  split
  · split <;> simp
  · rfl
@[simp] theorem laneStop_mems {n st} : (s.laneStop n st).mems = s.mems := by simp [State.laneStop]
@[simp] theorem laneWake_mems {n} : (s.laneWake n).mems = s.mems := by simp [State.laneWake]
@[simp] theorem laneRefused_mems {n} : (s.laneRefused n).mems = s.mems := by simp [State.laneRefused]
@[simp] theorem laneTrain_mems {n} : (s.laneTrain n).mems = s.mems := by simp [State.laneTrain]
@[simp] theorem laneFollow_mems {n req} : (s.laneFollow n req).mems = s.mems := by simp [State.laneFollow]
@[simp] theorem laneCtrl_mems {n w} : (State.laneCtrl n w s).mems = s.mems := by simp [State.laneCtrl]
@[simp] theorem rmTo_mems {st} : (s.rmTo st).mems = s.mems := by simp [State.rmTo]
@[simp] theorem rmShow_mems {l k auto reason} : (s.rmShow l k auto reason).mems = s.mems := by simp [State.rmShow]
@[simp] theorem rmBegin_mems {l k auto hitless retire} :
    (s.rmBegin l k auto hitless retire).mems = s.mems := by simp [State.rmBegin]
@[simp] theorem rmRelease_mems : s.rmRelease.mems = s.mems := by simp [State.rmRelease]
@[simp] theorem rmAuto_mems {l} : (s.rmAuto l).mems = s.mems := by
  unfold State.rmAuto
  split <;> simp
@[simp] theorem rmNext_mems : s.rmNext.mems = s.mems := by
  unfold State.rmNext
  split <;> simp
@[simp] theorem rmEnd_mems {st reason} : (s.rmEnd st reason).mems = s.mems := by simp [State.rmEnd]
@[simp] theorem rmSwitch_mems : s.rmSwitch.mems = s.mems := by simp [State.rmSwitch]
@[simp] theorem rmDone_mems : s.rmDone.mems = s.mems := by simp [State.rmDone]
@[simp] theorem laneFail_mems {n} : (s.laneFail n).mems = s.mems := by
  unfold State.laneFail
  split <;> simp
@[simp] theorem rmStart_mems : s.rmStart.mems = s.mems := by simp [State.rmStart]
@[simp] theorem remapCtrl_mems {w} : (State.remapCtrl w s).mems = s.mems := by simp [State.remapCtrl]
@[simp] theorem remapRx_mems {n c} : (s.remapRx n c).mems = s.mems := by simp [State.remapRx]
@[simp] theorem loseTurns_mems {n k} : (s.loseTurns n k).mems = s.mems := by simp [State.loseTurns]
@[simp] theorem frameBad_mems {n} : (s.frameBad n).mems = s.mems := by simp [State.frameBad]
@[simp] theorem countSyms_mems {n k} : (s.countSyms n k).mems = s.mems := by simp [State.countSyms]
@[simp] theorem testRx_mems {n bs} : (s.testRx n bs).mems = s.mems := by
  unfold State.testRx
  dsimp only
  (repeat' split) <;> simp
@[simp] theorem frameRx_mems {n raw} : (State.frameRx n raw s).mems = s.mems := by
  unfold State.frameRx
  split <;> simp
@[simp] theorem testBegin_mems {n} : (s.testBegin n).mems = s.mems := by simp [State.testBegin]
@[simp] theorem popRx_mems {n k} : (s.popRx n k).mems = s.mems := by simp [State.popRx]
@[simp] theorem resume_mems {n} : (s.resume n).mems = s.mems := by simp [State.resume]
@[simp] theorem markerRx_mems {m found good turnM fseq} :
    (s.markerRx m found good turnM fseq).mems = s.mems := by simp [State.markerRx]
@[simp] theorem markerHunt_mems {m} : (s.markerHunt m).mems = s.mems := by
  unfold State.markerHunt
  dsimp only
  (repeat' split) <;> simp
@[simp] theorem compare_mems {n t ws} : (s.compare n t ws).mems = s.mems := by
  unfold State.compare
  dsimp only
  (repeat' split) <;> simp
@[simp] theorem cellRx_mems {m ws out} : (s.cellRx m ws out).mems = s.mems := by simp [State.cellRx]
@[simp] theorem skipRx_mems {m strand inCell} : (s.skipRx m strand inCell).mems = s.mems := by simp [State.skipRx]
@[simp] theorem ffeApply_mems {n pre post} : (s.ffeApply n pre post).mems = s.mems := by simp [State.ffeApply]
@[simp] theorem cardSeen_mems {n id det} : (s.cardSeen n id det).mems = s.mems := by simp [State.cardSeen]
@[simp] theorem statusRx_mems {m c} : (s.statusRx m c).mems = s.mems := by simp [State.statusRx]
@[simp] theorem tagRx_mems {m c} : (s.tagRx m c).mems = s.mems := by
  unfold State.tagRx
  split <;> simp
@[simp] theorem testStart_mems {n tok} : (s.testStart n tok).mems = s.mems := by simp [State.testStart]
@[simp] theorem testStop_mems {n} : (s.testStop n).mems = s.mems := by simp [State.testStop]
@[simp] theorem testCtrl_mems {n w} : (State.testCtrl n w s).mems = s.mems := by simp [State.testCtrl]
@[simp] theorem spareCfg_mems {k w} : (State.spareCfg k w s).mems = s.mems := by simp [State.spareCfg]

/-! ### Media -/

@[simp] theorem lwr_mems {l media mgt v} : (s.lwr l media mgt v).mems = s.mems := by simp [State.lwr]
@[simp] theorem lcnt_mems {l media mgt} : (s.lcnt l media mgt).mems = s.mems := by simp [State.lcnt]
@[simp] theorem rxCount_mems {l n} : (s.rxCount l n).mems = s.mems := by simp [State.rxCount]
@[simp] theorem txCount_mems {l n} : (s.txCount l n).mems = s.mems := by simp [State.txCount]
@[simp] theorem mediaViolation_mems {l code answer entry} : (s.mediaViolation l code answer entry).mems = s.mems :=
    by simp [State.mediaViolation]
@[simp] theorem setFst_mems {i x} : (s.setFst i x).mems = s.mems := by simp [State.setFst]
@[simp] theorem setFb_mems {i x} : (s.setFb i x).mems = s.mems := by simp [State.setFb]
@[simp] theorem fLow_mems {i w k} : (s.fLow i w k).mems = s.mems := by simp [State.fLow]
@[simp] theorem fHigh_mems {i w k} : (s.fHigh i w k).mems = s.mems := by simp [State.fHigh]
@[simp] theorem fCountUp_mems {i w k} : (s.fCountUp i w k).mems = s.mems := by simp [State.fCountUp]
@[simp] theorem fLate_mems {i} : (s.fLate i).mems = s.mems := by simp [State.fLate]
@[simp] theorem fEarly_mems {i} : (s.fEarly i).mems = s.mems := by simp [State.fEarly]
@[simp] theorem fUnderrun_mems {i} : (s.fUnderrun i).mems = s.mems := by simp [State.fUnderrun]
@[simp] theorem flowShow_mems {i} : (s.flowShow i).mems = s.mems := by simp [State.flowShow]
@[simp] theorem poolShow_mems : s.poolShow.mems = s.mems := by simp [State.poolShow]
@[simp] theorem clearBind_mems {i} : (s.clearBind i).mems = s.mems := by simp [State.clearBind]
@[simp] theorem flowEnable_mems {i} : (State.flowEnable i s).mems = s.mems := by simp [State.flowEnable]
@[simp] theorem flowDisable_mems {i} : (State.flowDisable i s).mems = s.mems := by simp [State.flowDisable]
@[simp] theorem flowClear_mems {i} : (State.flowClear i s).mems = s.mems := by simp [State.flowClear]
@[simp] theorem flowOp_mems : s.flowOp.mems = s.mems := by simp [State.flowOp]
@[simp] theorem flowCtrl_mems {w} : (State.flowCtrl w s).mems = s.mems := by simp [State.flowCtrl]
@[simp] theorem flowWrite_mems {i k w} : (State.flowWrite i k w s).mems = s.mems := by simp [State.flowWrite]
@[simp] theorem ringPut_mems {r q ws} : (s.ringPut r q ws).mems = s.mems := by simp [State.ringPut]
@[simp] theorem toHost_mems {f host} : (s.toHost f host).mems = s.mems := by simp [State.toHost]
@[simp] theorem flowSeq_mems {i seq w} : (s.flowSeq i seq w).mems = s.mems := by
  unfold State.flowSeq
  dsimp only
  (repeat' split) <;> simp
@[simp] theorem flowFrameEnd_mems {i p} : (s.flowFrameEnd i p).mems = s.mems := by simp [State.flowFrameEnd]
@[simp] theorem flowAccept_mems {i} : (s.flowAccept i).mems = s.mems := by simp [State.flowAccept]
theorem flowMerge_mems {i seq t} (h : s.flowMerge i seq = some t) : t.mems = s.mems := by
  simp only [State.flowMerge] at h
  (repeat' split at h) <;> cases h <;> simp
@[simp] theorem flowDup_mems {i} : (s.flowDup i).mems = s.mems := by simp [State.flowDup]
@[simp] theorem rxVideo_mems {i p} : (s.rxVideo i p).mems = s.mems := by
  unfold State.rxVideo
  dsimp only
  (repeat' split) <;> simp
  next h => simpa using flowMerge_mems h
@[simp] theorem rxAudio_mems {i p} : (s.rxAudio i p).mems = s.mems := by
  unfold State.rxAudio
  extract_lets unit n inOrder s₁ chans s₁' col t₀ cap late first last s₂ s₃ put
  have h₁ : s₁.mems = s.mems := by simp [s₁]
  have h₂ : s₂.mems = s.mems := by
    unfold s₂
    split <;> simp [h₁]
  have hput : ∀ m c t, (put m c t).mems = t.mems := fun m c t => by
    dsimp only [put]
    split <;> simp
  split
  · simp
  split
  · split
    · simp [s₁', h₁]
    next h =>
      have ht := flowMerge_mems h
      (repeat' split) <;> simp [ht, s₁', h₁]
  split
  · simp [h₁]
  split
  · exact h₂
  split
  · simp [h₂, s₃]
  next h => simp [hput, flowMerge_mems h, s₃, h₂]
@[simp] theorem ancPut_mems {v f p a} : (s.ancPut v f p a).mems = s.mems := by simp [State.ancPut]
@[simp] theorem rxAncList_mems {i v f bs n off} : (s.rxAncList i v f bs n off).mems = s.mems := by
  induction n generalizing s off with
  | zero => rfl
  | succ k ih =>
    unfold State.rxAncList
    split <;> simp [ih]
@[simp] theorem rxAnc_mems {i p} : (s.rxAnc i p).mems = s.mems := by
  unfold State.rxAnc
  dsimp only
  split
  · simp
  split
  · simp
  next h =>
    have ht := flowMerge_mems h
    split <;> simp [ht]
@[simp] theorem opaqueHear_mems {x pkt mark d} : (State.opaqueHear x pkt mark d s).mems = s.mems := by simp [State.opaqueHear]
@[simp] theorem rxOpaque_mems {i p pkt} : (s.rxOpaque i p pkt).mems = s.mems := by
  unfold State.rxOpaque
  dsimp only
  split
  · simp
  next h =>
    have ht := flowMerge_mems h
    split <;> simp [ht]
@[simp] theorem sealFail_mems {i} : (s.sealFail i).mems = s.mems := by simp [State.sealFail]
@[simp] theorem rxFlow_mems {i f d} : (s.rxFlow i f d).mems = s.mems := by
  unfold State.rxFlow
  (repeat' split) <;> simp
@[simp] theorem rxPause_mems {l q} : (s.rxPause l q).mems = s.mems := by simp [State.rxPause]
@[simp] theorem rxRest_mems {f} : (s.rxRest f).mems = s.mems := by simp [State.rxRest]
@[simp] theorem rxFrame_mems {f} : (s.rxFrame f).mems = s.mems := by
  unfold State.rxFrame
  dsimp only
  (repeat' split) <;> simp
@[simp] theorem showSlots_mems {lo n} : (s.showSlots lo n).mems = s.mems := by simp [State.showSlots]
@[simp] theorem bindFrame_mems {i f} : (s.bindFrame i f).mems = s.mems := by simp [State.bindFrame]
@[simp] theorem ipPut_mems {i f l repeats} : (s.ipPut i f l repeats).mems = s.mems := by simp [State.ipPut]
@[simp] theorem ipSlip_mems {x} : (s.ipSlip x).mems = s.mems := by simp [State.ipSlip]
@[simp] theorem bindLine_mems {i f l} : (s.bindLine i f l).mems = s.mems := by
  unfold State.bindLine
  (repeat' split) <;> simp
@[simp] theorem wireOut_mems {l f} : (s.wireOut l f).mems = s.mems := by simp [State.wireOut]
@[simp] theorem sendPacket_mems {i pkt rtp} : (s.sendPacket i pkt rtp).mems = s.mems := by simp [State.sendPacket]
@[simp] theorem opaqueSwitch_mems {d} : (s.opaqueSwitch d).mems = s.mems := by simp [State.opaqueSwitch]
@[simp] theorem mediaPortCfg_mems {n w} : (State.mediaPortCfg n w s).mems = s.mems := by simp [State.mediaPortCfg]
@[simp] theorem lportCfg_mems {l w} : (State.lportCfg l w s).mems = s.mems := by simp [State.lportCfg]
@[simp] theorem mgtCfg_mems {w} : (State.mgtCfg w s).mems = s.mems := by simp [State.mgtCfg]
@[simp] theorem ringTail_mems {r w} : (State.ringTail r w s).mems = s.mems := by simp [State.ringTail]

/-! ### Cobalt -/

@[simp] theorem setTwin_mems {f} : (s.setTwin f).mems = s.mems := by simp [State.setTwin]
@[simp] theorem setPair_mems {p} : (s.setPair p).mems = s.mems := by simp [State.setPair]
@[simp] theorem linkHeard_mems {h} : (s.linkHeard h).mems = s.mems := by simp [State.linkHeard]
@[simp] theorem linkAcked_mems {h} : (s.linkAcked h).mems = s.mems := by simp [State.linkAcked]
@[simp] theorem cobaltBreach_mems {code answer typ seq} : (s.cobaltBreach code answer typ seq).mems = s.mems :=
    by simp [State.cobaltBreach]
@[simp] theorem outOfStep_mems {typ seq} : (s.outOfStep typ seq).mems = s.mems := by simp [State.outOfStep]
@[simp] theorem deliver_mems {h typ sender} {f : State → State} (hf : ∀ t, (f t).mems = t.mems) :
    (s.deliver h typ sender f).mems = s.mems := by
  unfold State.deliver
  dsimp only
  split <;> simp [hf]
@[simp] theorem pairFailed_mems {why} : (s.pairFailed why).mems = s.mems := by simp [State.pairFailed]
@[simp] theorem paired_mems {b} : (s.paired b).mems = s.mems := by simp [State.paired]
@[simp] theorem onHello_mems {b} : (State.onHello b s).mems = s.mems := by simp [State.onHello]
@[simp] theorem pairEn_mems {was} : (s.pairEn was).mems = s.mems := by simp [State.pairEn]
@[simp] theorem startTransfer_mems : s.startTransfer.mems = s.mems := by simp [State.startTransfer]
@[simp] theorem cobaltCtrl_mems {w} : (State.cobaltCtrl w s).mems = s.mems := by simp [State.cobaltCtrl]
@[simp] theorem twinTime_mems {v seq} : (s.twinTime v seq).mems = s.mems := by simp [State.twinTime]
@[simp] theorem onEcho_mems {orig rx tx} : (State.onEcho orig rx tx s).mems = s.mems := by simp [State.onEcho]
@[simp] theorem peerStatus_mems {mode pair own resync low} : (s.peerStatus mode pair own resync low).mems = s.mems :=
    by simp [State.peerStatus]
@[simp] theorem linkLost_mems : s.linkLost.mems = s.mems := by simp [State.linkLost]
@[simp] theorem onGiveup_mems : s.onGiveup.mems = s.mems := by simp [State.onGiveup]
@[simp] theorem setRegRows_mems {lo hi r} : (s.setRegRows lo hi r).mems = s.mems := by simp [State.setRegRows]
@[simp] theorem setEngRegs_mems {n l} : (s.setEngRegs n l).mems = s.mems := by simp [State.setEngRegs]
@[simp] theorem installDesc_mems {e} : (State.installDesc e s).mems = s.mems := by
  unfold State.installDesc
  dsimp only
  split
  · simp
  split
  · next h => simp [placeAll_mems h]
  · simp
@[simp] theorem markCopied_mems : s.markCopied.mems = s.mems := by simp [State.markCopied]
@[simp] theorem sendObject_mems {o ws} : (State.sendObject o ws s).mems = s.mems := by simp [State.sendObject]
@[simp] theorem digCompare_mems {r} : (s.digCompare r).mems = s.mems := by simp [State.digCompare]
@[simp] theorem digStore_mems {k frame es last} : (s.digStore k frame es last).mems = s.mems := by simp [State.digStore]
@[simp] theorem sendDigest_mems {r frame es} : (s.sendDigest r frame es).mems = s.mems := by simp [State.sendDigest]
@[simp] theorem onDigest_mems {r frame es} : (State.onDigest r frame es s).mems = s.mems := by simp [State.onDigest]
@[simp] theorem swapTimer_mems : s.swapTimer.mems = s.mems := by simp [State.swapTimer]
@[simp] theorem swapRefuse_mems {why} : (s.swapRefuse why).mems = s.mems := by simp [State.swapRefuse]
@[simp] theorem swapDrop_mems : s.swapDrop.mems = s.mems := by simp [State.swapDrop]
@[simp] theorem swapPropose_mems {f} : (s.swapPropose f).mems = s.mems := by simp [State.swapPropose]
@[simp] theorem swapCancel_mems : s.swapCancel.mems = s.mems := by simp [State.swapCancel]
@[simp] theorem swapCtrl_mems {w} : (State.swapCtrl w s).mems = s.mems := by simp [State.swapCtrl]
@[simp] theorem onSwap_mems {seq op f} : (State.onSwap seq op f s).mems = s.mems := by
  unfold State.onSwap
  split <;> simp
@[simp] theorem swapTake_mems : s.swapTake.mems = s.mems := by simp [State.swapTake]

/-! ### Wear -/

@[simp] theorem causeShow_mems : s.causeShow.mems = s.mems := by simp [State.causeShow]
@[simp] theorem faultClear_mems {i} : (State.faultClear i s).mems = s.mems := by simp [State.faultClear]
@[simp] theorem faultWrite_mems {hi w} : (State.faultWrite hi w s).mems = s.mems := by simp [State.faultWrite]
@[simp] theorem hoursShow_mems : s.hoursShow.mems = s.mems := by simp [State.hoursShow]
@[simp] theorem domEstimate_mems {d} : (State.domEstimate d s).mems = s.mems := by
  unfold State.domEstimate
  split <;> simp
@[simp] theorem wearSave_mems : s.wearSave.mems = s.mems := by simp [State.wearSave]
@[simp] theorem wearRestore_mems : s.wearRestore.mems = s.mems := by simp [State.wearRestore]
@[simp] theorem wearCtrl_mems {w} : (State.wearCtrl w s).mems = s.mems := by simp [State.wearCtrl]
@[simp] theorem substState_mems {st} : (s.substState st).mems = s.mems := by simp [State.substState]
@[simp] theorem spareTestBegin_mems {kind k unit} : (s.spareTestBegin kind k unit).mems = s.mems := by simp [State.spareTestBegin]
@[simp] theorem spareStart_mems : s.spareStart.mems = s.mems := by simp [State.spareStart]
@[simp] theorem spareAbort_mems : s.spareAbort.mems = s.mems := by simp [State.spareAbort]
@[simp] theorem spareCtrl_mems {w} : (State.spareCtrl w s).mems = s.mems := by simp [State.spareCtrl]
@[simp] theorem scrubEnd_mems {c} : (s.scrubEnd c).mems = s.mems := by simp [State.scrubEnd]
@[simp] theorem scrubShow_mems {c} : (State.scrubShow c s).mems = s.mems := by simp [State.scrubShow]
@[simp] theorem scrubCtrl_mems {c w} : (State.scrubCtrl c w s).mems = s.mems := by simp [State.scrubCtrl]
@[simp] theorem promote_mems : s.promote.mems = s.mems := by simp [State.promote]
@[simp] theorem repairWrite_mems {w} : (State.repairWrite w s).mems = s.mems := by simp [State.repairWrite]

/-! ### Win -/

@[simp] theorem unmapped_mems {bar2 off} : (s.unmapped bar2 off).mems = s.mems := by simp [State.unmapped]
@[simp] theorem bar2Put_mems {off w} : (State.bar2Put off w s).mems = s.mems := by
  unfold State.bar2Put
  split <;> simp
@[simp] theorem bar2Write_mems {off w} : (State.bar2Write off w s).mems = s.mems := by simp [State.bar2Write]
@[simp] theorem tldBeat_mems {ws k} : (State.tldBeat ws k s).mems = s.mems := by simp [State.tldBeat]
@[simp] theorem tldMove_mems {ws} : (s.tldMove ws).mems = s.mems := by simp [State.tldMove]
@[simp] theorem tldEnd_mems {st} : (s.tldEnd st).mems = s.mems := by simp [State.tldEnd]

/-! ### Modes -/

@[simp] theorem dropRegs_mems {hostOnly} : (s.dropRegs hostOnly).mems = s.mems := by simp [State.dropRegs]
@[simp] theorem mlog_mems {m t left wr lock} : (s.mlog m t left wr lock).mems = s.mems := by simp [State.mlog]
@[simp] theorem masterReset_mems {b} : (s.masterReset b).mems = s.mems := by
  unfold State.masterReset
  split <;> simp
@[simp] theorem hostJobsEnd_mems : s.hostJobsEnd.mems = s.mems := by simp [State.hostJobsEnd]
@[simp] theorem ptpFlushAll_mems : s.ptpFlushAll.mems = s.mems := by simp [State.ptpFlushAll]
@[simp] theorem hostReset_mems {b} : (s.hostReset b).mems = s.mems := by simp [State.hostReset]
@[simp] theorem stagedEnd_mems : s.stagedEnd.mems = s.mems := by simp [State.stagedEnd]
@[simp] theorem enginesWarm_mems : s.enginesWarm.mems = s.mems := by simp [State.enginesWarm]
@[simp] theorem psubWarm_mems : s.psubWarm.mems = s.mems := by simp [State.psubWarm]
@[simp] theorem faultsWarm_mems : s.faultsWarm.mems = s.mems := by simp [State.faultsWarm]
@[simp] theorem takeDue_mems : s.takeDue.mems = s.mems := by simp [State.takeDue]
@[simp] theorem warmReset_mems {b} : (s.warmReset b).mems = s.mems := by simp [State.warmReset]
@[simp] theorem warmCtrl_mems {b} : (s.warmCtrl b).mems = s.mems := by simp [State.warmCtrl]
@[simp] theorem initBegin_mems : s.initBegin.mems = s.mems := by simp [State.initBegin]
@[simp] theorem blockCtrl_mems : s.blockCtrl.mems = s.mems := by simp [State.blockCtrl]
@[simp] theorem loadPlanes_mems : s.loadPlanes.mems = s.mems := by
  unfold State.loadPlanes
  split <;> simp
@[simp] theorem loadLanes_mems : s.loadLanes.mems = s.mems := by simp [State.loadLanes]
@[simp] theorem loadEngines_mems : s.loadEngines.mems = s.mems := by
  unfold State.loadEngines
  dsimp only
  (repeat' split) <;> simp
@[simp] theorem loadOtp_mems : s.loadOtp.mems = s.mems := by simp [State.loadOtp]
@[simp] theorem enrolZero_mems : s.enrolZero.mems = s.mems := by simp [State.enrolZero]
@[simp] theorem enrolGo_mems : s.enrolGo.mems = s.mems := by simp [State.enrolGo]
@[simp] theorem enrolCtrl_mems {w} : (State.enrolCtrl w s).mems = s.mems := by simp [State.enrolCtrl]
@[simp] theorem linksBegin_mems : s.linksBegin.mems = s.mems := by simp [State.linksBegin]
@[simp] theorem clocksDone_mems : s.clocksDone.mems = s.mems := by simp [State.clocksDone]
@[simp] theorem calGo_mems : s.calGo.mems = s.mems := by simp [State.calGo]
@[simp] theorem modeGo_mems {t} : (s.modeGo t).mems = s.mems := by simp [State.modeGo]
@[simp] theorem modeReq_mems : s.modeReq.mems = s.mems := by simp [State.modeReq]
@[simp] theorem modeWrite_mems {w} : (State.modeWrite w s).mems = s.mems := by simp [State.modeWrite]

/-! ### Bar -/

@[simp] theorem answer_mems {v} : (s.answer v).mems = s.mems := by simp [State.answer]
@[simp] theorem winShow_mems {i} : (State.winShow i s).mems = s.mems := by simp [State.winShow]
@[simp] theorem refresh_mems {off} : (State.refresh off s).mems = s.mems := by
  unfold State.refresh
  split <;> simp
@[simp] theorem capture_mems {m b n} : (s.capture m b n).mems = s.mems := by simp [State.capture]
@[simp] theorem readReg_mems {m off clear} : (s.readReg m off clear).1.mems = s.mems := by
  unfold State.readReg
  split <;> simp
@[simp] theorem hostRead_mems {off} : (s.hostRead off).mems = s.mems := by simp [State.hostRead]

/-! ### HostIf -/

@[simp] theorem dmaErr_mems {t addr} : (s.dmaErr t addr).mems = s.mems := by simp [State.dmaErr]
@[simp] theorem smbAnswer_mems {v refused} : (s.smbAnswer v refused).mems = s.mems := by simp [State.smbAnswer]
@[simp] theorem tldCtrl_mems {ws w} : (State.tldCtrl ws w s).mems = s.mems := by simp [State.tldCtrl]
@[simp] theorem summaryReq_mems {master full} : (s.summaryReq master full).1.mems = s.mems := by simp [State.summaryReq]
@[simp] theorem resync_mems {w} : (State.resync w s).mems = s.mems := by simp [State.resync]
@[simp] theorem sumRefresh_mems : s.sumRefresh.mems = s.mems := by simp [State.sumRefresh]

/-! ### RegWrite -/

@[simp] theorem writeBut_mems {off fs w} : (State.writeBut off fs w s).mems = s.mems := by simp [State.writeBut]
@[simp] theorem slateWrite_mems {off w} : (State.slateWrite off w s).mems = s.mems := by
  refine ite_mems (ite_mems (by simp) rfl) <| ite_mems (by simp) <| ite_mems (by simp) <| ite_mems (by simp) <|
    ite_mems (by simp) <| ite_mems (by simp) ?_
  rcases rep off 0x10200 0x40 8 with _ | ⟨n, r⟩
  · rcases rep off 0x10400 0x20 32 with _ | ⟨n, r⟩
    · rcases rep off 0x12000 0x20 256 with _ | ⟨n, r⟩ <;> simp
    · refine ite_mems (ite_mems ?_ ?_) <| ite_mems ?_ ?_ <;> simp
  · refine ite_mems ?_ <| ite_mems ?_ <| ite_mems ?_ <| ite_mems ?_ <| ite_mems ?_ <| ite_mems ?_ ?_ <;> simp
@[simp] theorem refselWrite_mems {off w} : (State.refselWrite off w s).mems = s.mems := by
  unfold State.refselWrite
  (repeat' split) <;> simp
@[simp] theorem synthWrite_mems {off w} : (State.synthWrite off w s).mems = s.mems := by
  unfold State.synthWrite
  split <;> simp
@[simp] theorem xptWrite_mems {off w} : (State.xptWrite off w s).mems = s.mems := by simp [State.xptWrite]
@[simp] theorem alignWrite_mems {off w} : (State.alignWrite off w s).mems = s.mems := by
  unfold State.alignWrite
  split <;> simp
@[simp] theorem sableWrite_mems {off w} : (State.sableWrite off w s).mems = s.mems := by simp [State.sableWrite]
@[simp] theorem ochreWrite_mems {off w} : (State.ochreWrite off w s).mems = s.mems := by simp [State.ochreWrite]
@[simp] theorem audioWrite_mems {own off w} : (State.audioWrite own off w s).mems = s.mems := by
  unfold State.audioWrite
  (repeat' split) <;> simp
@[simp] theorem tdmWrite_mems {off w} : (State.tdmWrite off w s).mems = s.mems := by
  unfold State.tdmWrite
  split <;> simp
@[simp] theorem fabWrite_mems {off w} : (State.fabWrite off w s).mems = s.mems := by
  unfold State.fabWrite
  (repeat' split) <;> simp
@[simp] theorem mediaWrite_mems {off w} : (State.mediaWrite off w s).mems = s.mems := by
  unfold State.mediaWrite
  (repeat' split) <;> simp
@[simp] theorem mgtWrite_mems {off w} : (State.mgtWrite off w s).mems = s.mems := by simp [State.mgtWrite]
@[simp] theorem ptpWrite_mems {off w} : (State.ptpWrite off w s).mems = s.mems := by
  unfold State.ptpWrite
  (repeat' split) <;> simp
@[simp] theorem cobaltWrite_mems {off w} : (State.cobaltWrite off w s).mems = s.mems := by simp [State.cobaltWrite]
@[simp] theorem admWrite_mems {off w} : (State.admWrite off w s).mems = s.mems := by simp [State.admWrite]
@[simp] theorem vermilionWrite_mems {off w} : (State.vermilionWrite off w s).mems = s.mems := by
  unfold State.vermilionWrite
  (repeat' split) <;> simp
@[simp] theorem wearWrite_mems {off w} : (State.wearWrite off w s).mems = s.mems := by
  unfold State.wearWrite
  (repeat' split) <;> simp
@[simp] theorem msixMask_mems {v} : (s.msixMask v).mems = s.mems := by simp [State.msixMask]
@[simp] theorem hostifWrite_mems {off w} : (State.hostifWrite off w s).mems = s.mems := by
  unfold State.hostifWrite
  (repeat' split) <;> simp
@[simp] theorem keysWrite_mems {off w} : (State.keysWrite off w s).mems = s.mems := by
  unfold State.keysWrite
  (repeat' split) <;> simp
@[simp] theorem cxlpWrite_mems {off w} : (State.cxlpWrite off w s).mems = s.mems := by
  unfold State.cxlpWrite
  split <;> simp

/-! ### Ednel -/

@[simp] theorem engRun_mems {n op hw} {f : Ins → State → State} (hf : ∀ i t, (f i t).mems = t.mems) :
    (s.engRun n op hw f).mems = s.mems := by
  unfold State.engRun
  (repeat' split) <;> simp [hf]
@[simp] theorem go_mems {n i} : (s.go n i).mems = s.mems := by simp [State.go]
@[simp] theorem goG_mems {n i v} : (s.goG n i v).mems = s.mems := by simp [State.goG]
@[simp] theorem goRs_mems {n i code} : (s.goRs n i code).mems = s.mems := by simp [State.goRs]
@[simp] theorem takeVal_mems {n kind} {f : State → State} {g : List Nat → State → State} (hf : ∀ t, (f t).mems = t.mems)
    (hg : ∀ v t, (g v t).mems = t.mems) : (s.takeVal n kind f g).mems = s.mems := by
  unfold State.takeVal
  (repeat' split) <;> simp [hf, hg]
@[simp] theorem divergeIf_mems {n own act seq} : (s.divergeIf n own act seq).mems = s.mems := by simp [State.divergeIf]
@[simp] theorem orFault_mems {n a x} {f : State → State} (hf : ∀ t, (f t).mems = t.mems) : (s.orFault n a x f).mems = s.mems := by
  unfold State.orFault
  split <;> simp [hf]
@[simp] theorem branchTo_mems {n i t} : (s.branchTo n i t).mems = s.mems := by simp [State.branchTo]
@[simp] theorem fallThrough_mems {n i} : (s.fallThrough n i).mems = s.mems := by simp [State.fallThrough]
@[simp] theorem retConsume_mems {n} : (s.retConsume n).mems = s.mems := by
  unfold State.retConsume
  split <;> simp

/-! ### EdnelMem -/

@[simp] theorem matrixAccess_mems {n i off} {f : State → State} (hf : ∀ t, (f t).mems = t.mems) :
    (s.matrixAccess n i off f).mems = s.mems := by
  unfold State.matrixAccess
  (repeat' split) <;> simp [hf]

/-! ### EdnelXpt -/

@[simp] theorem stageOne_mems {n d x w} : (s.stageOne n d x w).mems = s.mems := by simp [State.stageOne]
@[simp] theorem xcommitDo_mems {n i} : (s.xcommitDo n i).1.mems = s.mems := by simp [State.xcommitDo]
@[simp] theorem acommitDo_mems {n i} : (s.acommitDo n i).1.mems = s.mems := by simp [State.acommitDo]
@[simp] theorem hcommitDo_mems {n i} : (s.hcommitDo n i).1.mems = s.mems := by simp [State.hcommitDo]
@[simp] theorem commitDo_mems {n i} : (s.commitDo n i).1.mems = s.mems := by simp [State.commitDo]
@[simp] theorem commitRefuse_mems {n i code detail} : (s.commitRefuse n i code detail).mems = s.mems := by
  unfold State.commitRefuse
  (repeat' split) <;> simp
@[simp] theorem commitEnd_mems {n code detail rs} : (s.commitEnd n code detail rs).mems = s.mems := by simp [State.commitEnd]

/-! ### EdnelWait -/

@[simp] theorem mirrorGrant_mems {holder cls inst param tok seq} : (s.mirrorGrant holder cls inst param tok seq).mems = s.mems := by
  unfold State.mirrorGrant
  split <;> simp
@[simp] theorem mirrorAsk_mems {n dst tmo code tok seq} : (s.mirrorAsk n dst tmo code tok seq).mems = s.mems := by
  unfold State.mirrorAsk
  dsimp only
  (repeat' split) <;> simp
@[simp] theorem mirrorCommit_mems {n own detail v} : (s.mirrorCommit n own detail v).mems = s.mems := by simp [State.mirrorCommit]
@[simp] theorem clearEvents_mems {n m} : (s.clearEvents n m).mems = s.mems := by simp [State.clearEvents]
@[simp] theorem mirrorEnd_mems {n} : (s.mirrorEnd n).mems = s.mems := by
  unfold State.mirrorEnd
  (repeat' split) <;> simp
@[simp] theorem commitRun_mems {n i} : (s.commitRun n i).mems = s.mems := by simp [State.commitRun]
@[simp] theorem waitRun_mems {n i} : (s.waitRun n i).mems = s.mems := by simp [State.waitRun]
@[simp] theorem waitArm_mems {n i} : (s.waitArm n i).mems = s.mems := by simp [State.waitArm]
@[simp] theorem armTmo_mems {n t} : (s.armTmo n t).mems = s.mems := by
  unfold State.armTmo
  split <;> simp
@[simp] theorem endTmo_mems {n t} : (s.endTmo n t).mems = s.mems := by
  unfold State.endTmo
  split <;> simp
@[simp] theorem waitevRun_mems {n i} : (s.waitevRun n i).mems = s.mems := by simp [State.waitevRun]
@[simp] theorem askQueue_mems {n w0 w1} : (s.askQueue n w0 w1).mems = s.mems := by simp [State.askQueue]
@[simp] theorem askDone_mems {n i code tok} : (s.askDone n i code tok).mems = s.mems := by simp [State.askDone]
@[simp] theorem askRun_mems {n i w0 w1} : (s.askRun n i w0 w1).mems = s.mems := by
  unfold State.askRun
  (repeat' split) <;> simp

/-! ### EdnelDev -/

@[simp] theorem bufRequest_mems {n a at'} : (s.bufRequest n a at').1.mems = s.mems := by simp [State.bufRequest]
@[simp] theorem mirrorAlloc_mems {n i a act h seq} : (s.mirrorAlloc n i a act h seq).mems = s.mems := by simp [State.mirrorAlloc]
@[simp] theorem emit_mems {n targets d0 d1} : (s.emit n targets d0 d1).1.mems = s.mems := by simp [State.emit]

/-! ### Mirror -/

@[simp] theorem onRecord_mems {seq m ws} : (State.onRecord seq m ws s).mems = s.mems := by simp [State.onRecord]
@[simp] theorem mirrorHost_mems {v seq} : (s.mirrorHost v seq).mems = s.mems := by simp [State.mirrorHost]
@[simp] theorem onValue_mems {seq m pc kind at' v} : (State.onValue seq m pc kind at' v s).mems = s.mems := by simp [State.onValue]
@[simp] theorem commitAccept_mems {n code detail} : (s.commitAccept n code detail).mems = s.mems := by simp [State.commitAccept]
@[simp] theorem onCack_mems {seq n pc} : (State.onCack seq n pc s).mems = s.mems := by
  unfold State.onCack
  split <;> simp

/-! ### Egress -/

@[simp] theorem embed_mems {p m cls st r rl black ws} : (s.embed p m cls st r rl black ws).1.mems = s.mems := by
  unfold State.embed
  dsimp only
  (repeat' split) <;> simp
@[simp] theorem destWords_mems {d r l f rl} : (s.destWords d r l f rl).1.mems = s.mems := by
  unfold State.destWords
  dsimp only
  (repeat' split) <;> simp
@[simp] theorem probeTake_mems {i cls st l f ws} : (s.probeTake i cls st l f ws).mems = s.mems := by
  unfold State.probeTake
  split <;> simp
@[simp] theorem sendTake_mems {d m cls st l f ws} : (s.sendTake d m cls st l f ws).mems = s.mems := by simp [State.sendTake]
@[simp] theorem forwardLine_mems {d bad} : (s.forwardLine d bad).mems = s.mems := by
  unfold State.forwardLine
  dsimp only
  (repeat' split) <;> simp
@[simp] theorem pushTurn_mems {n turn ws bl} : (s.pushTurn n turn ws bl).mems = s.mems := by simp [State.pushTurn]
@[simp] theorem turnTx_mems {n} : (s.turnTx n).mems = s.mems := by simp [State.turnTx]
@[simp] theorem frameBegin_mems {n pre post} : (s.frameBegin n pre post).mems = s.mems := by simp [State.frameBegin]
@[simp] theorem fillFrame_mems {fuel n} : (State.fillFrame fuel n s).mems = s.mems := by
  induction fuel generalizing s with
  | zero => rfl
  | succ k ih => simp [State.fillFrame, ih]
@[simp] theorem spoilPlan_mems {k left} : (State.spoilPlan k left s).1.mems = s.mems := by
  induction k generalizing s left with
  | zero => rfl
  | succ k ih => simp [State.spoilPlan, ih]
@[simp] theorem frameEnd_mems {n} : (s.frameEnd n).mems = s.mems := by simp [State.frameEnd]
@[simp] theorem trainTx_mems {n} : (s.trainTx n).mems = s.mems := by simp [State.trainTx]
@[simp] theorem patternTx_mems {n} : (s.patternTx n).mems = s.mems := by simp [State.patternTx]

/-! ### Tick -/

@[simp] theorem tick_mems : s.tick.mems = s.mems := by simp [State.tick]

end Sys2Proof.Proofs
end

section
/-! PROOFS. The commands that leave the engine memories as they are, in the order of the model's files. -/
namespace Sys2Proof.Proofs
open Sys2Proof.Machine Sys2Proof.Laws

/-- A command's meaning answers a state with the engine memories of `s`. -/
def LeavesMems (s : State) (o : Host.Outcome State Fault Refusal) : Prop := ∃ t, o = .next t ∧ t.mems = s.mems

theorem LeavesMems.ok {s t : State} (h : t.mems = s.mems) : LeavesMems s (ok t) := ⟨t, rfl, h⟩

variable {s : State}

/-! ### Slate -/

theorem execSnap_mems : LeavesMems s (execSnap s) := .ok (by simp)
theorem execRasterSeedWrite_mems {n hi w} : LeavesMems s (execRasterSeedWrite n hi w s) := .ok (by simp)
theorem execRasterTimingWrite_mems {n w} : LeavesMems s (execRasterTimingWrite n w s) := .ok (by simp)
theorem execRasterFrameStart_mems {n} : LeavesMems s (execRasterFrameStart n s) := .ok (by simp)
theorem execCmpArm_mems {k w} : LeavesMems s (execCmpArm k w s) := .ok (by simp)
theorem execCmpDisarm_mems {k w} : LeavesMems s (execCmpDisarm k w s) := .ok (by simp)
theorem execCmpTgtWrite_mems {k word w} : LeavesMems s (execCmpTgtWrite k word w s) := .ok (by simp)
theorem execComparatorFire_mems {k} : LeavesMems s (execComparatorFire k s) := .ok (by simp)
theorem execGpiLevelChange_mems {i level} : LeavesMems s (execGpiLevelChange i level s) := .ok (by simp)
theorem execGpiEdgeAccept_mems {i} : LeavesMems s (execGpiEdgeAccept i s) := .ok (by simp)
theorem execGpiPop_mems {w} : LeavesMems s (execGpiPop w s) := .ok (by simp)
theorem execGpoLevelWrite_mems {w} : LeavesMems s (execGpoLevelWrite w s) := .ok (by simp)
theorem execGpoSet_mems {w} : LeavesMems s (execGpoSet w s) := .ok (by simp)
theorem execGpoClr_mems {w} : LeavesMems s (execGpoClr w s) := .ok (by simp)
theorem execGpoSchedWrite_mems {j word w} : LeavesMems s (execGpoSchedWrite j word w s) := .ok (by simp)
theorem execGpoSchedApply_mems {j} : LeavesMems s (execGpoSchedApply j s) := .ok (by simp)

/-! ### Refsel -/

theorem execRefinTimingPoint_mems {c} : LeavesMems s (execRefinTimingPoint c s) := .ok (by simp)
theorem execRefinStop_mems {c} : LeavesMems s (execRefinStop c s) := .ok (by simp)
theorem execCandSourceLost_mems {c} : LeavesMems s (execCandSourceLost c s) := .ok (by simp)
theorem execCandQualified_mems {c} : LeavesMems s (execCandQualified c s) := .ok (by simp)
theorem execDriftUpdate_mems {offs} : LeavesMems s (execDriftUpdate offs s) := .ok (by simp)
theorem execCandDriftCleared_mems {c} : LeavesMems s (execCandDriftCleared c s) := .ok (by (repeat' split) <;> simp)
theorem execCandDisqualified_mems {c} : LeavesMems s (execCandDisqualified c s) := .ok (by (repeat' split) <;> simp)
theorem execPtpValidWrite_mems {w} : LeavesMems s (execPtpValidWrite w s) := .ok (by simp)
theorem execPtpValidExpire_mems : LeavesMems s (execPtpValidExpire s) := .ok (by simp)
theorem execLoopStageAdvance_mems : LeavesMems s (execLoopStageAdvance s) := .ok (by
    dsimp only
    (repeat' split) <;> simp)
theorem execPullNow_mems {w} : LeavesMems s (execPullNow w s) := .ok (by simp)
theorem execSlewComplete_mems : LeavesMems s (execSlewComplete s) := .ok (by simp)
theorem execHistorySample_mems : LeavesMems s (execHistorySample () s) := .ok (by simp)
theorem execHoldoverLimitExpire_mems : LeavesMems s (execHoldoverLimitExpire s) := .ok (by simp)
theorem execLocoscFail_mems : LeavesMems s (execLocoscFail s) := .ok (by simp)
theorem execRefselCandWrite_mems {c word w} : LeavesMems s (execRefselCandWrite c word w s) := .ok (by simp)
theorem execRefselLocoscWrite_mems {w} : LeavesMems s (execRefselLocoscWrite w s) := .ok (by simp)
theorem execSynthLockLoss_mems {g} : LeavesMems s (execSynthLockLoss g s) := .ok (by simp)
theorem execDitherSeedLoad_mems {y w} : LeavesMems s (execDitherSeedLoad y w s) := .ok (by simp)
theorem execRefoutCfgWrite_mems {i word w} : LeavesMems s (execRefoutCfgWrite i word w s) := .ok (by simp)
theorem execRefoutChangeApply_mems {i} : LeavesMems s (execRefoutChangeApply i s) := .ok (by simp)

/-! ### Ptp -/

theorem execPtpTxqPop_mems {q w} : LeavesMems s (execPtpTxqPop q w s) := .ok (by simp)
theorem execPtpAddendWrite_mems {w} : LeavesMems s (execPtpAddendWrite w s) := .ok (by simp)
theorem execPtpStepGo_mems {w} : LeavesMems s (execPtpStepGo w s) := .ok (by simp)
theorem execPtpRearm_mems {w} : LeavesMems s (execPtpRearm w s) := .ok (by simp)

/-! ### Admit -/

theorem execAdmitQueueGrant_mems : LeavesMems s (execAdmitQueueGrant s) := .ok (by simp)
theorem execAdmitAskGo_mems {w} : LeavesMems s (execAdmitAskGo w s) := .ok (by simp)
theorem execAdmitAskCancel_mems {w} : LeavesMems s (execAdmitAskCancel w s) := .ok (by simp)
theorem execAskTimeout_mems {n} : LeavesMems s (execAskTimeout n s) := .ok (by (repeat' split) <;> simp)
theorem execAdmitGiveGo_mems {w} : LeavesMems s (execAdmitGiveGo w s) := .ok (by simp)
theorem execPowerMeasure_mems {m} : LeavesMems s (execPowerMeasure m s) := .ok (by simp)
theorem execThermalRead_mems {ts} : LeavesMems s (execThermalRead ts s) := .ok (by simp)
theorem execThermCfgWrite_mems {w} : LeavesMems s (execThermCfgWrite w s) := .ok (by simp)
theorem execThermtrip_mems : LeavesMems s (execThermtrip s) := .ok (by simp)
theorem execAvsLoopTick_mems {slack ack} : LeavesMems s (execAvsLoopTick slack ack s) := .ok (by simp)
theorem execAvsEmergency_mems {slack} : LeavesMems s (execAvsEmergency slack s) := .ok (by simp)
theorem execAvsTransactionFail_mems : LeavesMems s (execAvsTransactionFail s) := .ok (by simp)

/-! ### Align -/

theorem execLossPolicyApply_mems {d} : LeavesMems s (execLossPolicyApply d s) := .ok (by simp)
theorem execLossPolicyReturn_mems {d} : LeavesMems s (execLossPolicyReturn d s) := .ok (by simp)
theorem execLineModeSlip_mems {d} : LeavesMems s (execLineModeSlip d s) := .ok (by simp)
theorem execWindowReenter_mems {p r} : LeavesMems s (execWindowReenter p r s) := .ok (by simp)
theorem execAlignPortCfgWrite_mems {p w} : LeavesMems s (execAlignPortCfgWrite p w s) := .ok (by simp)

/-! ### Xpt -/

theorem execShadowXptWrite_mems {d hi w} : LeavesMems s (execShadowXptWrite d hi w s) := .ok (by simp)
theorem execXptCommitGo_mems {w} : LeavesMems s (execXptCommitGo w s) := .ok (by simp)
theorem execXptCommitDiscard_mems {w} : LeavesMems s (execXptCommitDiscard w s) := .ok (by simp)
theorem execCommitTakeEffect_mems {r} : LeavesMems s (execCommitTakeEffect r s) := .ok (by simp)
theorem execXptLockRequest_mems {w} : LeavesMems s (execXptLockRequest w s) := .ok (by simp)
theorem execPsubStart_mems {w} : LeavesMems s (execPsubStart w s) := .ok (by simp)
theorem execPsubAbort_mems {w} : LeavesMems s (execPsubAbort w s) := .ok (by simp)
theorem execPsubLoadDone_mems : LeavesMems s (execPsubLoadDone s) := .ok (by simp)
theorem execPsubCompareDone_mems : LeavesMems s (execPsubCompareDone s) := .ok (by simp)
theorem execPsubRasterMove_mems {r} : LeavesMems s (execPsubRasterMove r s) := .ok (by simp)
theorem execPsubSwitchedDone_mems : LeavesMems s (execPsubSwitchedDone s) := .ok (by simp)
theorem execRasterCfgWrite_mems {n w} : LeavesMems s (execRasterCfgWrite n w s) := .ok (by simp)

/-! ### Sable -/

theorem execCxlPortBringupDone_mems {c partner reason speed width units} :
    LeavesMems s (execCxlPortBringupDone c partner reason speed width units s) :=
    .ok (by simp)
theorem execCxlpRetrain_mems {c w} : LeavesMems s (execCxlpRetrain c w s) := .ok (by simp)
theorem execPlacementLoop_mems {ws wr rd} : LeavesMems s (execPlacementLoop ws wr rd s) := .ok (by simp)
theorem execCxlEventRecord_mems {c addr} : LeavesMems s (execCxlEventRecord c addr s) := .ok (by simp)
theorem execMigrationPageDone_mems {d e c spare} : LeavesMems s (execMigrationPageDone d e c spare s) := .ok (by
    dsimp only
    split
    · rfl
    split
    · rfl
    split
    · split
      next h =>
        split at h
        · simp [takeSpare_mems h]
        · cases h
      · rfl
    · split <;> simp)
theorem execDescriptorRelease_mems {d} : LeavesMems s (execDescriptorRelease d s) := .ok (by simp)
theorem execSableRelPop_mems {w} : LeavesMems s (execSableRelPop w s) := .ok (by simp)
theorem execLeaseSet_mems {w} : LeavesMems s (execLeaseSet w s) := .ok (by simp)
theorem execHostWindowAccess_mems {w o data n bad} : LeavesMems s (execHostWindowAccess w o data n bad s) :=
    .ok (by (repeat' split) <;> simp)
theorem execCxlMemTimeout_mems {c addr} : LeavesMems s (execCxlMemTimeout c addr s) := .ok (by simp)
theorem execCxlPortFail_mems {c rep} : LeavesMems s (execCxlPortFail c rep s) := .ok (by simp)
theorem execCxlMailboxTimeout_mems {c} : LeavesMems s (execCxlMailboxTimeout c s) := .ok (by simp)

/-! ### Record -/

theorem execRecorderFrameStart_mems {r} : LeavesMems s (execRecorderFrameStart r s) := .ok (by
    dsimp only
    (repeat' split) <;> simp)
theorem execRecorderLineComplete_mems {r ws} : LeavesMems s (execRecorderLineComplete r ws () () s) := .ok (by
    dsimp only
    (repeat' split) <;> simp)
theorem execPlayerFrameStart_mems {p} : LeavesMems s (execPlayerFrameStart p s) := .ok (by (repeat' split) <;> simp)

/-! ### Ochre -/

theorem execOchreLogPop_mems {w} : LeavesMems s (execOchreLogPop w s) := .ok (by simp)
theorem execHeadStagedWrite_mems {h b i w} : LeavesMems s (execHeadStagedWrite h b i w s) := .ok (by simp)
theorem execHeadCommitGo_mems {w} : LeavesMems s (execHeadCommitGo w s) := .ok (by simp)
theorem execHeadCommitDiscard_mems {w} : LeavesMems s (execHeadCommitDiscard w s) := .ok (by simp)
theorem execHeadFrameStart_mems {h} : LeavesMems s (execHeadFrameStart h s) := .ok (by simp)
theorem execHeadLatch_mems {h} : LeavesMems s (execHeadLatch h s) := .ok (by simp)
theorem execLayerLineFetch_mems {h l bad tmo} : LeavesMems s (execLayerLineFetch h l bad tmo s) := .ok (by (repeat' split) <;> simp)
theorem execHeadLineCompose_mems {h} : LeavesMems s (execHeadLineCompose h s) := .ok (by simp)
theorem execLutOpen_mems {w} : LeavesMems s (execLutOpen w s) := .ok (by simp)
theorem execLutClose_mems {w} : LeavesMems s (execLutClose w s) := .ok (by simp)
theorem execLutDataWrite_mems {w} : LeavesMems s (execLutDataWrite w s) := .ok (by simp)

/-! ### Keys -/

theorem execKeyUpdateGo_mems {w} : LeavesMems s (execKeyUpdateGo w s) := .ok (by simp)
theorem execKeyUpdateComplete_mems : LeavesMems s (execKeyUpdateComplete s) := .ok (by simp)
theorem execKeysMsgClear_mems {w} : LeavesMems s (execKeysMsgClear w s) := .ok (by simp)
theorem execKeyMaskRefresh_mems : LeavesMems s (execKeyMaskRefresh s) := .ok (by simp)
theorem execTrngFail_mems : LeavesMems s (execTrngFail s) := .ok (by simp)

/-! ### Audio -/

theorem execShadowAudioWrite_mems {d word w} : LeavesMems s (execShadowAudioWrite d word w s) := .ok (by simp)
theorem execAudioCommitGo_mems {w} : LeavesMems s (execAudioCommitGo w s) := .ok (by simp)
theorem execAudioCommitDiscard_mems {w} : LeavesMems s (execAudioCommitDiscard w s) := .ok (by simp)
theorem execAudioCommitEffect_mems : LeavesMems s (execAudioCommitEffect s) := .ok (by simp)
theorem execAudioBoundary_mems {t44 x} : LeavesMems s (execAudioBoundary t44 x s) := .ok (by simp)
theorem execZeroxTimeout_mems {d} : LeavesMems s (execZeroxTimeout d s) := .ok (by simp)
theorem execFadeComplete_mems {d} : LeavesMems s (execFadeComplete d s) := .ok (by simp)
theorem execDelayBlockWrite_mems {b hi w} : LeavesMems s (execDelayBlockWrite b hi w s) := .ok (by simp)
theorem execDelaySet_mems {m w} : LeavesMems s (execDelaySet m w s) := .ok (by simp)
theorem execAudioPortCfgWrite_mems {p w} : LeavesMems s (execAudioPortCfgWrite p w s) := .ok (by simp)
theorem execDeembSourceChoice_mems {p} : LeavesMems s (execDeembSourceChoice p () () () () s) := .ok (by simp)
theorem execStrandLineJudge_mems {d j} : LeavesMems s (execStrandLineJudge d j s) := .ok (by simp)
theorem execPlayerLineFetch_mems {p bad tmo} : LeavesMems s (execPlayerLineFetch p bad tmo s) := .ok (by (repeat' split) <;> simp)
theorem execTdmCfgWrite_mems {i w} : LeavesMems s (execTdmCfgWrite i w s) := .ok (by simp)
theorem execTdmFrame_mems {i len smp} : LeavesMems s (execTdmFrame i len smp s) := .ok (by
    dsimp only
    (repeat' split) <;> simp)
theorem execTdmStop_mems {i} : LeavesMems s (execTdmStop i s) := .ok (by (repeat' split) <;> simp)
theorem execTdmMasterStart_mems {i} : LeavesMems s (execTdmMasterStart i s) := .ok (by simp)

/-! ### Cue -/

theorem execCueStart_mems {n w} : LeavesMems s (execCueStart n w s) := .ok (by simp)
theorem execCueStop_mems {n w} : LeavesMems s (execCueStop n w s) := .ok (by simp)
theorem execCueResume_mems {n w} : LeavesMems s (execCueResume n w s) := .ok (by simp)
theorem execEngReset_mems {n w} : LeavesMems s (execEngReset n w s) := .ok (by simp)
theorem execDiscardStaged_mems {n w} : LeavesMems s (execDiscardStaged n w s) := .ok (by simp)
theorem execRingDoorbell_mems {n w} : LeavesMems s (execRingDoorbell n w s) := .ok (by simp)
theorem execCueRecordFetch_mems {n} : LeavesMems s (execCueRecordFetch n s) := .ok (by simp)
theorem execCueRecordAccept_mems {n ws} : LeavesMems s (execCueRecordAccept n ws s) := .ok (by simp)
theorem execWatchdogExpire_mems {n} : LeavesMems s (execWatchdogExpire n s) := .ok (by simp)
theorem execWaitMatch_mems {n} : LeavesMems s (execWaitMatch n s) := .ok (by (repeat' split) <;> simp)
theorem execCueComparatorFire_mems {n x} : LeavesMems s (execCueComparatorFire n x s) := .ok (by simp)
theorem execWaitevWake_mems {n} : LeavesMems s (execWaitevWake n s) := .ok (by (repeat' split) <;> simp)
theorem execWaitevTimeout_mems {n} : LeavesMems s (execWaitevTimeout n s) := .ok (by (repeat' split) <;> simp)
theorem execTsyncRelease_mems {n} : LeavesMems s (execTsyncRelease n s) := .ok (by (repeat' split) <;> simp)
theorem execTsyncTimeout_mems {n} : LeavesMems s (execTsyncTimeout n s) := .ok (by (repeat' split) <;> simp)
theorem execFenceComplete_mems {n} : LeavesMems s (execFenceComplete n s) := .ok (by (repeat' split) <;> simp)
theorem execEvrHeadWrite_mems {w} : LeavesMems s (execEvrHeadWrite w s) := .ok (by simp)
theorem execEngSubstStart_mems {w} : LeavesMems s (execEngSubstStart w s) := .ok (by simp)
theorem execEngSubstAbort_mems {w} : LeavesMems s (execEngSubstAbort w s) := .ok (by simp)
theorem execEngSubstSelftestDone_mems {pass} : LeavesMems s (execEngSubstSelftestDone pass s) := .ok (by (repeat' split) <;> simp)

/-! ### Fab -/

theorem execLaneCtrlWrite_mems {n w} : LeavesMems s (execLaneCtrlWrite n w s) := .ok (by simp)
theorem execSignalDetect_mems {n} : LeavesMems s (execSignalDetect n s) := .ok (by simp)
theorem execLaneActive_mems {n} : LeavesMems s (execLaneActive n s) := .ok (by simp)
theorem execLaneSignalLoss_mems {n} : LeavesMems s (execLaneSignalLoss n s) := .ok (by simp)
theorem execLaneLockTimeout_mems {n} : LeavesMems s (execLaneLockTimeout n s) := .ok (by (repeat' split) <;> simp)
theorem execRemapStart_mems {w} : LeavesMems s (execRemapStart w s) := .ok (by simp)
theorem execRemapAbort_mems {w} : LeavesMems s (execRemapAbort w s) := .ok (by simp)
theorem execRemapWakeDone_mems : LeavesMems s (execRemapWakeDone s) := .ok (by simp)
theorem execRemapWakeTimeout_mems : LeavesMems s (execRemapWakeTimeout s) := .ok (by simp)
theorem execRemapOfferTimeout_mems : LeavesMems s (execRemapOfferTimeout s) := .ok (by simp)
theorem execRemapCompareDone_mems : LeavesMems s (execRemapCompareDone () s) := .ok (by simp)
theorem execRemapSwitchTurn_mems : LeavesMems s (execRemapSwitchTurn s) := .ok (by simp)
theorem execTetosFrameRx_mems {n lev} : LeavesMems s (execTetosFrameRx n lev () () () s) := .ok (by simp)
theorem execMarkerRx_mems {n} : LeavesMems s (execMarkerRx n () () () s) := .ok (by (repeat' split) <;> simp)
theorem execCellRx_mems {n out} : LeavesMems s (execCellRx n out () s) := .ok (by simp)
theorem execSkipRx_mems {n} : LeavesMems s (execSkipRx n () () s) := .ok (by (repeat' split) <;> simp)
theorem execStatusBlockRx_mems {n} : LeavesMems s (execStatusBlockRx n () s) := .ok (by (repeat' split) <;> simp)
theorem execStatusAbsent_mems {n} : LeavesMems s (execStatusAbsent n s) := .ok (by simp)
theorem execTagRx_mems {n} : LeavesMems s (execTagRx n () s) := .ok (by (repeat' split) <;> simp)
theorem execRemapRx_mems {n} : LeavesMems s (execRemapRx n () s) := .ok (by (repeat' split) <;> simp)
theorem execLaneTestStart_mems {n w} : LeavesMems s (execLaneTestStart n w s) := .ok (by simp)
theorem execLaneTestStop_mems {n w} : LeavesMems s (execLaneTestStop n w s) := .ok (by simp)

/-! ### Media -/

theorem execFlowEnable_mems {w} : LeavesMems s (execFlowEnable w s) := .ok (by simp)
theorem execFlowDisable_mems {w} : LeavesMems s (execFlowDisable w s) := .ok (by simp)
theorem execFlowClearStats_mems {w} : LeavesMems s (execFlowClearStats w s) := .ok (by simp)
theorem execFlowEntryWrite_mems {i k w} : LeavesMems s (execFlowEntryWrite i k w s) := .ok (by simp)
theorem execMediaFrameRx_mems {f} : LeavesMems s (execMediaFrameRx f s) := .ok (by simp)
theorem execPauseExpire_mems {l} : LeavesMems s (execPauseExpire l s) := .ok (by simp)
theorem execIpLineEgress_mems {i} : LeavesMems s (execIpLineEgress i s) := .ok (by simp)
theorem execIpFlowTimeout_mems {i} : LeavesMems s (execIpFlowTimeout i s) := .ok (by simp)
theorem execVideoPacketTx_mems {i f k} : LeavesMems s (execVideoPacketTx i f k () () s) := .ok (by simp)
theorem execAudioPacketTx_mems {i} : LeavesMems s (execAudioPacketTx i s) := .ok (by simp)
theorem execAncPacketTx_mems {i n} : LeavesMems s (execAncPacketTx i n s) := .ok (by (repeat' split) <;> simp)
theorem execOpaqueForward_mems {d} : LeavesMems s (execOpaqueForward d s) := .ok (by (repeat' split) <;> simp)
theorem execOpaqueSourceSwitch_mems {d} : LeavesMems s (execOpaqueSourceSwitch d s) := .ok (by simp)
theorem execOpaqueSwitchTimeout_mems {d} : LeavesMems s (execOpaqueSwitchTimeout d s) := .ok (by simp)
theorem execMediaPortCfgWrite_mems {n w} : LeavesMems s (execMediaPortCfgWrite n w s) := .ok (by simp)
theorem execMediaLportCfgWrite_mems {l w} : LeavesMems s (execMediaLportCfgWrite l w s) := .ok (by simp)
theorem execMediaLinkChange_mems {l up} : LeavesMems s (execMediaLinkChange l up s) := .ok (by simp)
theorem execLpiEnter_mems : LeavesMems s (execLpiEnter s) := .ok (by simp)
theorem execTxRingDoorbell_mems {n w} : LeavesMems s (execTxRingDoorbell n w s) := .ok (by simp)
theorem execRxRingPost_mems {n w} : LeavesMems s (execRxRingPost n w s) := .ok (by simp)
theorem execTxDescriptorSend_mems {n w2 w3 fr} : LeavesMems s (execTxDescriptorSend n w2 w3 fr s) := .ok (by simp)

/-! ### Cobalt -/

theorem execPairEnWrite_mems {w} : LeavesMems s (execPairEnWrite w s) := .ok (by simp)
theorem execTake_mems {w} : LeavesMems s (execTake w s) := .ok (by simp)
theorem execCobaltResync_mems {w} : LeavesMems s (execCobaltResync w s) := .ok (by simp)
theorem execCobaltTimeTx_mems : LeavesMems s (execCobaltTimeTx s) := .ok (by simp)
theorem execCobaltEchoTx_mems : LeavesMems s (execCobaltEchoTx s) := .ok (by simp)
theorem execCobaltStatusTx_mems : LeavesMems s (execCobaltStatusTx s) := .ok (by simp)
theorem execCobaltLinkLost_mems {unframed} : LeavesMems s (execCobaltLinkLost unframed s) := .ok (by simp)
theorem execCobaltRetxTimeout_mems : LeavesMems s (execCobaltRetxTimeout () s) := .ok (by (repeat' split) <;> simp)
theorem execSilenceTakeover_mems : LeavesMems s (execSilenceTakeover s) := .ok (by simp)
theorem execStateTransferFreeze_mems : LeavesMems s (execStateTransferFreeze s) := .ok (by simp)
theorem execDigestTx_mems {r errs} : LeavesMems s (execDigestTx r errs s) := .ok (by simp)
theorem execPairInStep_mems : LeavesMems s (execPairInStep s) := .ok (by simp)
theorem execSwapGo_mems {w} : LeavesMems s (execSwapGo w s) := .ok (by simp)
theorem execSwapCancel_mems {w} : LeavesMems s (execSwapCancel w s) := .ok (by simp)
theorem execSwapAutoTimer_mems : LeavesMems s (execSwapAutoTimer s) := .ok (by simp)
theorem execSwapFetchStop_mems : LeavesMems s (execSwapFetchStop s) := .ok (by simp)
theorem execSwapExecute_mems : LeavesMems s (execSwapExecute s) := .ok (by simp)

/-! ### Wear -/

theorem execFaultCauseExpire_mems {src} : LeavesMems s (execFaultCauseExpire src s) := .ok (by simp)
theorem execHoldLimitExpire_mems {src} : LeavesMems s (execHoldLimitExpire src s) := .ok (by simp)
theorem execFaultClear_mems {hi w} : LeavesMems s (execFaultClear hi w s) := .ok (by simp)
theorem execWearEstimate_mems {m} : LeavesMems s (execWearEstimate m s) := .ok (by simp)
theorem execWearHourStep_mems : LeavesMems s (execWearHourStep s) := .ok (by simp)
theorem execSramCanaryTest_mems {m} : LeavesMems s (execSramCanaryTest m s) := .ok (by simp)
theorem execWearSave_mems {w} : LeavesMems s (execWearSave w s) := .ok (by simp)
theorem execWearRestore_mems {w} : LeavesMems s (execWearRestore w s) := .ok (by simp)
theorem execSpareSubstStart_mems {w} : LeavesMems s (execSpareSubstStart w s) := .ok (by simp)
theorem execSpareSubstAbort_mems {w} : LeavesMems s (execSpareSubstAbort w s) := .ok (by simp)
theorem execSpareTestStart_mems {w} : LeavesMems s (execSpareTestStart w s) := .ok (by simp)
theorem execHeadSubstLoad_mems : LeavesMems s (execHeadSubstLoad s) := .ok (by simp)
theorem execHeadSubstMove_mems {mism} : LeavesMems s (execHeadSubstMove mism s) := .ok (by simp)
theorem execSpareTestDone_mems {pass} : LeavesMems s (execSpareTestDone pass s) := .ok (by simp)
theorem execScrubStart_mems {c w} : LeavesMems s (execScrubStart c w s) := .ok (by simp)
theorem execScrubStop_mems {c w} : LeavesMems s (execScrubStop c w s) := .ok (by simp)
theorem execScrubDone_mems {c full poison} : LeavesMems s (execScrubDone c full poison s) := .ok (by simp)
theorem execSoftRepairComplete_mems {spare} : LeavesMems s (execSoftRepairComplete spare s) := .ok (by simp)
theorem execRepairPromote_mems {w} : LeavesMems s (execRepairPromote w s) := .ok (by simp)

/-! ### Modes -/

theorem execHostIfReset_mems {b tld} : LeavesMems s (execHostIfReset b tld s) := .ok (by simp)
theorem execD3hotEntry_mems {b tld} : LeavesMems s (execD3hotEntry b tld s) := .ok (by simp)
theorem execD0Restore_mems : LeavesMems s (execD0Restore s) := .ok (by simp)
theorem execWarmResetComplete_mems : LeavesMems s (execWarmResetComplete s) := .ok (by simp)
theorem execRstNRelease_mems {dbg enrol smb} : LeavesMems s (execRstNRelease dbg enrol smb s) := .ok (by simp)
theorem execReadyAssert_mems {cells} : LeavesMems s (execReadyAssert cells s) := .ok (by (repeat' split) <;> simp)
theorem execInitComplete_mems {otp repair} : LeavesMems s (execInitComplete otp repair s) := .ok (by simp)
theorem execEnrolKeyGo_mems {w} : LeavesMems s (execEnrolKeyGo w s) := .ok (by simp)
theorem execEnrolTimeout_mems : LeavesMems s (execEnrolTimeout s) := .ok (by simp)
theorem execEnrolAck_mems {w} : LeavesMems s (execEnrolAck w s) := .ok (by simp)
theorem execSynthLock_mems {g} : LeavesMems s (execSynthLock g s) := .ok (by simp)
theorem execCalibrateDone_mems : LeavesMems s (execCalibrateDone s) := .ok (by simp)
theorem execCalGo_mems {w} : LeavesMems s (execCalGo w s) := .ok (by simp)
theorem execModeRequest_mems {w} : LeavesMems s (execModeRequest w s) := .ok (by simp)

/-! ### Bar -/

theorem execUnmappedAccess_mems {bar2 off write} : LeavesMems s (execUnmappedAccess bar2 off write s) := .ok (by simp)
theorem execRcRead_mems {off} : LeavesMems s (execRcRead off s) := .ok (by simp)
theorem execCaptureRead_mems {off} : LeavesMems s (execCaptureRead off s) := .ok (by simp)

/-! ### HostIf -/

theorem execDmaReadError_mems {t addr frame tld} : LeavesMems s (execDmaReadError t addr frame tld s) := .ok (by
    dsimp only
    (repeat' split) <;> simp)
theorem execSmbSetAddr_mems {off pec} : LeavesMems s (execSmbSetAddr off pec s) := .ok (by simp)
theorem execSmbRead_mems {pec} : LeavesMems s (execSmbRead pec s) := .ok (by simp)
theorem execSmbStatus_mems {pec} : LeavesMems s (execSmbStatus pec s) := .ok (by simp)
theorem execMatrixLockBreak_mems {m t write left} : LeavesMems s (execMatrixLockBreak m t write left s) :=
    .ok (by simp only [event_mems, mlog_mems])
theorem execTldGo_mems {w} : LeavesMems s (execTldGo w s) := .ok (by simp)
theorem execTldAbort_mems {w tld} : LeavesMems s (execTldAbort w tld s) := .ok (by simp)
theorem execTldDone_mems {tld} : LeavesMems s (execTldDone tld s) := .ok (by simp)
theorem execSummaryRequest_mems {w} : LeavesMems s (execSummaryRequest w s) := .ok (by simp)
theorem execSummaryCapture_mems : LeavesMems s (execSummaryCapture s) := .ok (by simp)
theorem execSummaryWritten_mems : LeavesMems s (execSummaryWritten s) := .ok (by simp)
theorem execTapInstructionUpdate_mems {ir} : LeavesMems s (execTapInstructionUpdate ir s) := .ok (by simp)

/-! ### Ednel -/

theorem execBr_mems {n hw} : LeavesMems s (execBr n hw s) := .ok (by simp)
theorem execBz_mems {n hw} : LeavesMems s (execBz n hw s) := .ok (by simp)
theorem execBnz_mems {n hw} : LeavesMems s (execBnz n hw s) := .ok (by simp)
theorem execCall_mems {n hw} : LeavesMems s (execCall n hw s) := .ok (by simp)
theorem execRet_mems {n hw} : LeavesMems s (execRet n hw s) := .ok <| engRun_mems fun i t => by
    dsimp only
    (repeat' split) <;> simp
theorem execHalt_mems {n hw} : LeavesMems s (execHalt n hw s) := .ok <| engRun_mems fun i t => by
    dsimp only
    (repeat' split) <;> simp
theorem execLi_mems {n hw} : LeavesMems s (execLi n hw s) := .ok (by simp)
theorem execLiLong_mems {n hw} : LeavesMems s (execLiLong n hw s) := .ok (by simp)
theorem execLui_mems {n hw} : LeavesMems s (execLui n hw s) := .ok (by simp)
theorem execAdd_mems {n hw} : LeavesMems s (execAdd n hw s) := .ok (by simp)
theorem execSub_mems {n hw} : LeavesMems s (execSub n hw s) := .ok (by simp)
theorem execAnd_mems {n hw} : LeavesMems s (execAnd n hw s) := .ok (by simp)
theorem execOr_mems {n hw} : LeavesMems s (execOr n hw s) := .ok (by simp)
theorem execXor_mems {n hw} : LeavesMems s (execXor n hw s) := .ok (by simp)
theorem execShl_mems {n hw} : LeavesMems s (execShl n hw s) := .ok (by simp)
theorem execShr_mems {n hw} : LeavesMems s (execShr n hw s) := .ok (by simp)
theorem execCmp_mems {n hw} : LeavesMems s (execCmp n hw s) := .ok (by simp)

/-! ### EdnelMem -/

theorem execLd_mems {n hw} : LeavesMems s (execLd n hw s) := .ok (by simp)
theorem execLdTime_mems {n hw} : LeavesMems s (execLdTime n hw s) := .ok (by simp)
theorem execLdx_mems {n hw} : LeavesMems s (execLdx n hw s) :=
    .ok <| engRun_mems fun i t => matrixAccess_mems fun t => takeVal_mems (fun t => by simp) fun v t => by simp
theorem execTnow_mems {n hw} : LeavesMems s (execTnow n hw s) := .ok (by simp)
theorem execTadd_mems {n hw} : LeavesMems s (execTadd n hw s) := .ok (by simp)

/-! ### EdnelXpt -/

theorem execXstage_mems {n hw} : LeavesMems s (execXstage n hw s) := .ok (by simp)
theorem execXstageb_mems {n hw} : LeavesMems s (execXstageb n hw s) := .ok <| engRun_mems fun i t => by
    refine ite_mems (by simp) <| ite_mems (by simp) <| orFault_mems fun t => ?_
    dsimp only
    split <;> simp
theorem execXread_mems {n hw} : LeavesMems s (execXread n hw s) := .ok (by simp)
theorem execXlock_mems {n hw} : LeavesMems s (execXlock n hw s) := .ok (by simp)
theorem execAstage_mems {n hw} : LeavesMems s (execAstage n hw s) := .ok (by simp)
theorem execLset_mems {n hw} : LeavesMems s (execLset n hw s) := .ok (by simp)

/-! ### EdnelWait -/

theorem execXcommit_mems {n hw} : LeavesMems s (execXcommit n hw s) := .ok (by simp)
theorem execAcommit_mems {n hw} : LeavesMems s (execAcommit n hw s) := .ok (by simp)
theorem execHcommit_mems {n hw} : LeavesMems s (execHcommit n hw s) := .ok (by simp)
theorem execWait_mems {n hw} : LeavesMems s (execWait n hw s) := .ok (by simp)
theorem execWaitev_mems {n hw} : LeavesMems s (execWaitev n hw s) := .ok (by simp)
theorem execAsk_mems {n hw} : LeavesMems s (execAsk n hw s) := .ok (by simp)
theorem execFence_mems {n hw} : LeavesMems s (execFence n hw s) := .ok (by simp)
theorem execTsync_mems {n hw} : LeavesMems s (execTsync n hw s) := .ok (by simp)

/-! ### EdnelDev -/

theorem execBufalloc_mems {n hw} : LeavesMems s (execBufalloc n hw s) := .ok <| engRun_mems fun i t => orFault_mems fun t =>
    takeVal_mems (fun t => by dsimp only; split <;> simp) fun v t => by simp
theorem execBuffree_mems {n hw} : LeavesMems s (execBuffree n hw s) := .ok (by simp)
theorem execRecstart_mems {n hw} : LeavesMems s (execRecstart n hw s) := .ok (by simp)
theorem execRecstop_mems {n hw} : LeavesMems s (execRecstop n hw s) := .ok (by simp)
theorem execPlay_mems {n hw} : LeavesMems s (execPlay n hw s) := .ok (by simp)
theorem execGive_mems {n hw} : LeavesMems s (execGive n hw s) := .ok (by simp)
theorem execEmit_mems {n hw} : LeavesMems s (execEmit n hw s) := .ok (by simp)
theorem execSummary_mems {n hw} : LeavesMems s (execSummary n hw s) := .ok (by simp)
theorem execUndefinedOpcode_mems {n hw} : LeavesMems s (execUndefinedOpcode n hw s) := .ok (by (repeat' split) <;> simp)

/-! ### Mirror -/

theorem execCackTimeout_mems {n} : LeavesMems s (execCackTimeout n s) := .ok (by (repeat' split) <;> simp)

/-! ### Egress -/

theorem execPlaneLineForward_mems {d bad spareBad differ} :
    LeavesMems s (execPlaneLineForward d bad spareBad differ s) := .ok (by simp)
theorem execProbeFramePublish_mems {i} : LeavesMems s (execProbeFramePublish i () () () s) := .ok (by simp)
theorem execTurnTx_mems {n} : LeavesMems s (execTurnTx n () s) := .ok (by simp)
theorem execStatusBlockTx_mems {n pre post} : LeavesMems s (execStatusBlockTx n pre post s) := .ok (by simp)

end Sys2Proof.Proofs
end

section
/-! PROOFS. The operations that write the engine memories (R147, R157, R172, R404): each keeps their canonical form. -/
namespace Sys2Proof.Proofs
open Sys2Proof.Machine Sys2Proof.Laws

variable {s : State}

/-- Equal memories are in equal form. -/
theorem memWf_of_mems {t : State} (h : t.mems = s.mems) (hs : s.memWf = true) : t.memWf = true := by
  simp only [State.mems, Prod.mk.injEq] at h
  exact SameMem.memWf h hs

/-- `f` keeps the engine memories in canonical form. -/
def KeepsForm (f : State → State) : Prop := ∀ s, s.memWf = true → (f s).memWf = true

theorem keepsForm_of_mems {f : State → State} (h : ∀ s, (f s).mems = s.mems) : KeepsForm f := fun s => memWf_of_mems (h s)

theorem KeepsForm.ite {p : State → Prop} [DecidablePred p] {f g : State → State} (hf : KeepsForm f) (hg : KeepsForm g) :
    KeepsForm fun s => if p s then f s else g s := fun s hs => by
  dsimp only
  split
  · exact hf s hs
  · exact hg s hs

theorem KeepsForm.comp {f g : State → State} (hg : KeepsForm g) (hf : KeepsForm f) : KeepsForm fun s => g (f s) :=
  fun s hs => hg _ (hf s hs)

theorem KeepsForm.foldl {β : Type} {f : State → β → State} (hf : ∀ e, KeepsForm (f · e)) (l : List β) : KeepsForm (l.foldl f) := by
  intro s hs
  induction l generalizing s with
  | nil => exact hs
  | cons e r ih => exact ih _ (hf e s hs)

/-! ### Resets -/

/-- Empty memories are in canonical form. -/
theorem memWf_of_empty (h : s.mems = ([], [], [])) : s.memWf = true := by
  simp only [State.mems, Prod.mk.injEq] at h
  obtain ⟨hp, hd, hm⟩ := h
  simp [State.memWf, hp, hd, hm, twf, tsorted]

/-- R157. -/
theorem coldState_mems {cause} : (s.coldState cause).mems = ([], [], []) := by
  simp only [State.coldState, wr_mems, forEach_mems, mems_ite, ite_self, implies_true]
  rfl

theorem coldReset_mems {cause} : (s.coldReset cause).mems = ([], [], []) := by
  unfold State.coldReset
  dsimp only
  split <;> exact coldState_mems

theorem coldCtrl_mems {cause} : (s.coldCtrl cause).mems = ([], [], []) := by simp [State.coldCtrl, coldReset_mems]

theorem resetCtrl_keepsForm {cause b w} : KeepsForm (State.resetCtrl cause b w) := by
  intro s hs
  unfold State.resetCtrl
  dsimp only
  split
  · exact memWf_of_empty coldCtrl_mems
  · refine memWf_of_mems ?_ hs
    (repeat' split) <;> simp

/-! ### Words of the memories -/

theorem cueMemWrite_keepsForm {n t a w} : KeepsForm (State.cueMemWrite n t a w) := by
  intro s hs
  unfold State.cueMemWrite
  split
  · split
    · exact pmemPut_wf s _ _ _ hs
    · exact memWf_of_mems wr_mems hs
  · exact dmemPut_wf s _ _ _ hs
  · exact smemPut_wf s _ _ hs

theorem cueWinWrite_keepsForm {i w} : KeepsForm (State.cueWinWrite i w) := by
  intro s hs
  unfold State.cueWinWrite
  split
  · exact hs
  · exact cueMemWrite_keepsForm s hs

theorem localWrite_keepsForm {n a v} : KeepsForm (State.localWrite · n a v) := by
  intro s hs
  unfold State.localWrite
  split
  · exact dmemPut_wf s _ _ _ hs
  · exact smemPut_wf s _ _ hs

theorem copyEng_keepsForm {a b} : KeepsForm (State.copyEng · a b) := fun s => copyEng_wf s a b

theorem swapAt_keepsForm {n} : KeepsForm (State.swapAt · n) := by
  intro s hs
  dsimp only [State.swapAt]
  split
  · exact memWf_of_mems (s := s.copyEng n s.spareNum) (by simp) (copyEng_keepsForm s hs)
  · exact hs

/-! ### Registers -/

theorem topWrite_keepsForm {off w} : KeepsForm (State.topWrite off w) := by
  intro s hs
  unfold State.topWrite
  split
  · exact memWf_of_mems (by simp) hs
  split
  · exact resetCtrl_keepsForm s hs
  · refine memWf_of_mems ?_ hs
    (repeat' split) <;> simp

theorem cueWrite_keepsForm {off w} : KeepsForm (State.cueWrite off w) := by
  intro s hs
  unfold State.cueWrite
  split
  · exact cueWinWrite_keepsForm s hs
  · refine memWf_of_mems ?_ hs
    (repeat' split) <;> simp

theorem regWrite_keepsForm {own off w} : KeepsForm (State.regWrite own off w) := by
  intro s hs
  unfold State.regWrite
  split
  case h_1 => exact topWrite_keepsForm s hs
  case h_7 => exact cueWrite_keepsForm s hs
  all_goals exact memWf_of_mems (by simp) hs

/-! ### Host writes -/

theorem hostDone_keepsForm {off w} {f : State → State} (hf : KeepsForm f) : KeepsForm fun s => s.hostDone off w (f s) :=
  fun s hs => memWf_of_mems hostDone_mems (hf s hs)

theorem boardWrite_keepsForm {off w} {f : State → State} (hf : KeepsForm f) : KeepsForm (State.boardWrite · off w f) := by
  intro s hs
  dsimp only [State.boardWrite]
  split
  · exact hs
  split
  · exact memWf_of_mems wr_mems hs
  split
  · exact memWf_of_mems event_mems hs
  · exact hostDone_keepsForm hf s hs

theorem hostWrite_keepsForm {off w} {f : State → State} (hf : KeepsForm f) : KeepsForm (State.hostWrite · off w f) := by
  intro s hs
  dsimp only [State.hostWrite]
  split
  · exact hs
  · exact boardWrite_keepsForm hf s hs

theorem hostPut_keepsForm {off w} : KeepsForm (State.hostPut off w) := by
  intro s hs
  unfold State.hostPut
  split
  · exact hostWrite_keepsForm regWrite_keepsForm s hs
  · refine memWf_of_mems ?_ hs
    split <;> simp

/-! ### The twin -/

theorem atBack_keepsForm {c} {f : State → State} (hf : KeepsForm f) : KeepsForm (State.atBack · c f) := by
  intro s hs
  dsimp only [State.atBack]
  split
  · exact hf s hs
  · exact memWf_of_mems (s := f (forEach (List.range 8) (fun n s => State.rasterBack c n s) s)) (by simp)
      (hf _ (memWf_of_mems (by simp) hs))

theorem hostwWord_keepsForm {space off w t} (h : s.hostwWord space off w = some t) (hs : s.memWf = true) : t.memWf = true := by
  unfold State.hostwWord at h
  dsimp only at h
  (repeat' split at h) <;> cases h
  · exact cueMemWrite_keepsForm s hs
  · exact hs
  · exact regWrite_keepsForm s hs
  · exact memWf_of_mems bar2Put_mems hs

theorem hostwApply_keepsForm {space off seq data} : KeepsForm (State.hostwApply · space off seq data) := by
  intro s hs
  unfold State.hostwApply
  split
  · exact memWf_of_mems hostWinWrite_mems hs
  · refine KeepsForm.foldl (fun k t ht => ?_) _ s hs
    dsimp only
    split
    next h => exact hostwWord_keepsForm h ht
    · exact memWf_of_mems outOfStep_mems ht

theorem onHostw_keepsForm {seq space off at' data} : KeepsForm (State.onHostw seq space off at' data) := by
  intro s hs
  unfold State.onHostw
  split
  · exact hs
  · exact atBack_keepsForm hostwApply_keepsForm s hs

/-- R404: the objects 13 and 14 are data and shared memory, laid out again. -/
theorem install_keepsForm {o r} : KeepsForm (State.install · o r) := by
  intro s hs
  unfold State.install
  dsimp only
  split
  case h_13 =>
    simp only [State.memWf, Bool.and_eq_true] at *
    exact ⟨⟨hs.1.1, ofRows_wf r⟩, hs.2⟩
  case h_14 =>
    simp only [State.memWf, Bool.and_eq_true] at *
    exact ⟨hs.1, ofRows_wf r⟩
  all_goals exact memWf_of_mems (by simp) hs

theorem onState_keepsForm {o off ws} : KeepsForm (State.onState o off ws) := by
  intro s hs
  unfold State.onState
  split
  · exact hs
  extract_lets all s₀ s₁ got
  have h₀ : s₀.memWf = true := memWf_of_mems (by simp [s₀]) hs
  have h₁ : s₁.memWf = true := install_keepsForm s₀ h₀
  split
  · exact h₀
  split <;> exact memWf_of_mems (by simp) h₁

theorem deliver_keepsForm {h typ sender} {f : State → State} (hf : KeepsForm f) : KeepsForm (State.deliver · h typ sender f) := by
  intro s hs
  unfold State.deliver
  dsimp only
  split
  · exact memWf_of_mems (by simp) hs
  · exact hf _ (memWf_of_mems setTwin_mems hs)

theorem act_keepsForm {h m} : KeepsForm (State.act h m) := by
  intro s hs
  unfold State.act
  split
  case h_5 => exact deliver_keepsForm onHostw_keepsForm s hs
  case h_11 => exact deliver_keepsForm onState_keepsForm s hs
  all_goals exact memWf_of_mems (by simp) hs

theorem drainHeld_keepsForm {n} : KeepsForm (State.drainHeld n) := by
  intro s hs
  induction n generalizing s with
  | zero => exact hs
  | succ n ih =>
    unfold State.drainHeld
    split
    · exact ih _ (act_keepsForm _ (memWf_of_mems setTwin_mems hs))
    · exact hs

theorem arrive_keepsForm {h m} : KeepsForm (State.arrive · h m) := by
  intro s hs
  have hr : ((s.linkHeard h).linkAcked h).memWf = true := memWf_of_mems (by simp) hs
  obtain hc | hc | hc | hc := arrive_cases s h m <;> dsimp only <;> rw [hc]
  · exact hs
  · exact drainHeld_keepsForm _ (act_keepsForm _ hr)
  · exact memWf_of_mems setTwin_mems hr
  · exact hr

/-! ### Instructions -/

theorem engRun_keepsForm {n op hw} {f : Ins → State → State} (hf : ∀ i, KeepsForm (f i)) : KeepsForm (State.engRun · n op hw f) := by
  intro s hs
  unfold State.engRun
  dsimp only
  split
  · exact hs
  split
  · exact memWf_of_mems faultStop_mems hs
  split
  · exact hs
  split
  · exact memWf_of_mems faultStop_mems hs
  split
  · exact memWf_of_mems faultStop_mems hs
  · exact hf _ s hs

theorem orFault_keepsForm {n a x} {f : State → State} (hf : KeepsForm f) : KeepsForm (State.orFault · n a x f) := by
  intro s hs
  unfold State.orFault
  split
  · exact memWf_of_mems faultStop_mems hs
  · exact hf s hs

theorem matrixAccess_keepsForm {n i off} {f : State → State} (hf : KeepsForm f) : KeepsForm (State.matrixAccess · n i off f) := by
  intro s hs
  unfold State.matrixAccess
  split
  · exact memWf_of_mems faultStop_mems hs
  split
  · exact memWf_of_mems goRs_mems hs
  split
  · exact memWf_of_mems faultStop_mems hs
  · exact hf s hs

end Sys2Proof.Proofs
end

section
/-! PROOFS. Every command answers a next state, and keeps the engine memories in canonical form: the commands that write them one by one, and
the two statements. -/
namespace Sys2Proof.Proofs
open Sys2Proof.Machine Sys2Proof.Laws

variable {s : State}

/-- A command's meaning answers a state whose engine memories are in canonical form where those of `s` are. -/
def AnswersInForm (s : State) (o : Host.Outcome State Fault Refusal) : Prop :=
  ∃ t, o = .next t ∧ (s.memWf = true → t.memWf = true)

theorem AnswersInForm.ok {f : State → State} (h : KeepsForm f) : AnswersInForm s (ok (f s)) := ⟨f s, rfl, h s⟩

theorem LeavesMems.inForm {o} (h : LeavesMems s o) : AnswersInForm s o := by
  obtain ⟨t, ht, hm⟩ := h
  exact ⟨t, ht, memWf_of_mems hm⟩

/-! ### The commands that write the memories -/

theorem execRegisterWrite_inForm {off w} : AnswersInForm s (execRegisterWrite off w s) := .ok hostPut_keepsForm

theorem execCueMemoryWindowWrite_inForm {i w} : AnswersInForm s (execCueMemoryWindowWrite i w s) :=
  .ok (hostWrite_keepsForm cueWinWrite_keepsForm)

theorem execEngSubstCopyDone_inForm : AnswersInForm s (execEngSubstCopyDone s) := ⟨_, rfl, fun hs => by
  split
  · exact memWf_of_mems (s := s.copyEng s.subst.target s.spareNum) (by simp) (copyEng_keepsForm s hs)
  · exact hs⟩

theorem execEngSubstSwap_inForm : AnswersInForm s (execEngSubstSwap s) := ⟨_, rfl, fun hs => by
  split
  · exact memWf_of_mems (s := s.copyEng s.subst.target s.spareNum) (by simp) (copyEng_keepsForm s hs)
  · exact hs⟩

theorem execEngSubstAutoDone_inForm {ecc} : AnswersInForm s (execEngSubstAutoDone ecc s) := ⟨_, rfl, fun hs => by
  split
  · split
    · exact memWf_of_mems (by simp) hs
    · exact memWf_of_mems (s := s.copyEng s.subst.target s.spareNum) (by simp) (copyEng_keepsForm s hs)
  · exact hs⟩

theorem execYield_inForm {n hw} : AnswersInForm s (execYield n hw s) :=
  .ok <| engRun_keepsForm fun _ t ht => swapAt_keepsForm _ (memWf_of_mems (by simp) ht)

theorem execSt_inForm {n hw} : AnswersInForm s (execSt n hw s) :=
  .ok <| engRun_keepsForm fun _ t ht => orFault_keepsForm
    (fun u hu => memWf_of_mems go_mems (localWrite_keepsForm u hu)) t ht

theorem execStTime_inForm {n hw} : AnswersInForm s (execStTime n hw s) :=
  .ok <| engRun_keepsForm fun _ t ht => orFault_keepsForm
    (fun u hu => memWf_of_mems go_mems (KeepsForm.foldl (fun _ => localWrite_keepsForm) _ u hu)) t ht

theorem execStx_inForm {n hw} : AnswersInForm s (execStx n hw s) :=
  .ok <| engRun_keepsForm fun _ t ht => matrixAccess_keepsForm
    (fun u hu => memWf_of_mems goRs_mems (regWrite_keepsForm u hu)) t ht

/-- A message is its arrival (R395). -/
theorem arrive_inForm {h m} : AnswersInForm s (ok (s.arrive h m)) := .ok arrive_keepsForm

theorem execDiscardedMessageRx_inForm {lane m u} : AnswersInForm s (execDiscardedMessageRx lane m u s) := ⟨_, rfl, fun hs => by
  split
  · exact hs
  split
  · exact memWf_of_mems incSat_mems hs
  split
  · exact memWf_of_mems cobaltBreach_mems hs
  split
  · exact arrive_keepsForm s hs
  · exact hs⟩

theorem execRstNAssert_inForm : AnswersInForm s (execRstNAssert s) :=
  ⟨_, rfl, fun _ => memWf_of_empty (coldReset_mems (s := s) (cause := 0))⟩

theorem execRailUndervoltage_inForm : AnswersInForm s (execRailUndervoltage s) :=
  ⟨_, rfl, fun _ => memWf_of_empty (coldReset_mems (s := s) (cause := 0))⟩

theorem execWarmReset_inForm {w b tld} : AnswersInForm s (execWarmReset w b tld s) :=
  .ok (hostWrite_keepsForm fun _ ht => resetCtrl_keepsForm _ (memWf_of_mems tldMove_mems ht))

theorem execColdResetCmd_inForm {w} : AnswersInForm s (execColdResetCmd w s) := .ok (hostWrite_keepsForm resetCtrl_keepsForm)

theorem execBlockResetCmd_inForm {w} : AnswersInForm s (execBlockResetCmd w s) := .ok (hostWrite_keepsForm resetCtrl_keepsForm)

theorem execSmbWrite_inForm {w pec} : AnswersInForm s (execSmbWrite w pec s) := ⟨_, rfl, fun hs => by
  have ha : ∀ v r, (s.smbAnswer v r).memWf = true := fun v r => memWf_of_mems smbAnswer_mems hs
  split
  · split
    · exact boardWrite_keepsForm resetCtrl_keepsForm _ (ha s.hif.smbRead false)
    split
    · exact memWf_of_mems (boardWrite_mems fun t => by simp) (ha s.hif.smbRead false)
    · exact ha s.hif.smbRead true
  · exact hs⟩

/-! ### Every command -/

/-- Every command answers a next state, and one whose engine memories are in canonical form where they were before. -/
theorem exec_inForm (c : Instr) : AnswersInForm s (exec c s) := by
  cases c with
  | registerWrite => exact execRegisterWrite_inForm
  | rcRead => exact execRcRead_mems.inForm
  | unmappedAccess => exact execUnmappedAccess_mems.inForm
  | snap => exact execSnap_mems.inForm
  | rasterCfgWrite => exact execRasterCfgWrite_mems.inForm
  | rasterSeedWrite => exact execRasterSeedWrite_mems.inForm
  | rasterTimingWrite => exact execRasterTimingWrite_mems.inForm
  | rasterFrameStart => exact execRasterFrameStart_mems.inForm
  | cmpArm => exact execCmpArm_mems.inForm
  | cmpDisarm => exact execCmpDisarm_mems.inForm
  | cmpTgtWrite => exact execCmpTgtWrite_mems.inForm
  | comparatorFire => exact execComparatorFire_mems.inForm
  | gpiLevelChange => exact execGpiLevelChange_mems.inForm
  | gpiEdgeAccept => exact execGpiEdgeAccept_mems.inForm
  | gpiPop => exact execGpiPop_mems.inForm
  | gpoLevelWrite => exact execGpoLevelWrite_mems.inForm
  | gpoSet => exact execGpoSet_mems.inForm
  | gpoClr => exact execGpoClr_mems.inForm
  | gpoSchedWrite => exact execGpoSchedWrite_mems.inForm
  | gpoSchedApply => exact execGpoSchedApply_mems.inForm
  | refinTimingPoint => exact execRefinTimingPoint_mems.inForm
  | refinStop => exact execRefinStop_mems.inForm
  | candSourceLost => exact execCandSourceLost_mems.inForm
  | candQualified => exact execCandQualified_mems.inForm
  | driftUpdate => exact execDriftUpdate_mems.inForm
  | candDriftCleared => exact execCandDriftCleared_mems.inForm
  | candDisqualified => exact execCandDisqualified_mems.inForm
  | ptpValidWrite => exact execPtpValidWrite_mems.inForm
  | ptpValidExpire => exact execPtpValidExpire_mems.inForm
  | loopStageAdvance => exact execLoopStageAdvance_mems.inForm
  | pullNow => exact execPullNow_mems.inForm
  | slewComplete => exact execSlewComplete_mems.inForm
  | historySample => exact execHistorySample_mems.inForm
  | holdoverLimitExpire => exact execHoldoverLimitExpire_mems.inForm
  | locoscFail => exact execLocoscFail_mems.inForm
  | refselCandWrite => exact execRefselCandWrite_mems.inForm
  | refselLocoscWrite => exact execRefselLocoscWrite_mems.inForm
  | synthLock => exact execSynthLock_mems.inForm
  | synthLockLoss => exact execSynthLockLoss_mems.inForm
  | ditherSeedLoad => exact execDitherSeedLoad_mems.inForm
  | refoutCfgWrite => exact execRefoutCfgWrite_mems.inForm
  | refoutChangeApply => exact execRefoutChangeApply_mems.inForm
  | alignPortCfgWrite => exact execAlignPortCfgWrite_mems.inForm
  | strandLineJudge => exact execStrandLineJudge_mems.inForm
  | windowReenter => exact execWindowReenter_mems.inForm
  | lineModeSlip => exact execLineModeSlip_mems.inForm
  | lossPolicyApply => exact execLossPolicyApply_mems.inForm
  | lossPolicyReturn => exact execLossPolicyReturn_mems.inForm
  | planeLineForward => exact execPlaneLineForward_mems.inForm
  | shadowXptWrite => exact execShadowXptWrite_mems.inForm
  | xptCommitGo => exact execXptCommitGo_mems.inForm
  | xptCommitDiscard => exact execXptCommitDiscard_mems.inForm
  | commitTakeEffect => exact execCommitTakeEffect_mems.inForm
  | xptLockRequest => exact execXptLockRequest_mems.inForm
  | probeFramePublish => exact execProbeFramePublish_mems.inForm
  | psubStart => exact execPsubStart_mems.inForm
  | psubAbort => exact execPsubAbort_mems.inForm
  | psubLoadDone => exact execPsubLoadDone_mems.inForm
  | psubCompareDone => exact execPsubCompareDone_mems.inForm
  | psubRasterMove => exact execPsubRasterMove_mems.inForm
  | psubSwitchedDone => exact execPsubSwitchedDone_mems.inForm
  | cueStart => exact execCueStart_mems.inForm
  | cueStop => exact execCueStop_mems.inForm
  | cueResume => exact execCueResume_mems.inForm
  | engReset => exact execEngReset_mems.inForm
  | discardStaged => exact execDiscardStaged_mems.inForm
  | ringDoorbell => exact execRingDoorbell_mems.inForm
  | cueRecordFetch => exact execCueRecordFetch_mems.inForm
  | cueRecordAccept => exact execCueRecordAccept_mems.inForm
  | watchdogExpire => exact execWatchdogExpire_mems.inForm
  | waitMatch => exact execWaitMatch_mems.inForm
  | cueComparatorFire => exact execCueComparatorFire_mems.inForm
  | waitevWake => exact execWaitevWake_mems.inForm
  | waitevTimeout => exact execWaitevTimeout_mems.inForm
  | evrHeadWrite => exact execEvrHeadWrite_mems.inForm
  | engSubstStart => exact execEngSubstStart_mems.inForm
  | engSubstAbort => exact execEngSubstAbort_mems.inForm
  | engSubstCopyDone => exact execEngSubstCopyDone_inForm
  | engSubstSwap => exact execEngSubstSwap_inForm
  | engSubstSelftestDone => exact execEngSubstSelftestDone_mems.inForm
  | engSubstAutoDone => exact execEngSubstAutoDone_inForm
  | tsyncRelease => exact execTsyncRelease_mems.inForm
  | tsyncTimeout => exact execTsyncTimeout_mems.inForm
  | fenceComplete => exact execFenceComplete_mems.inForm
  | br => exact execBr_mems.inForm
  | bz => exact execBz_mems.inForm
  | bnz => exact execBnz_mems.inForm
  | call => exact execCall_mems.inForm
  | ret => exact execRet_mems.inForm
  | yield => exact execYield_inForm
  | halt => exact execHalt_mems.inForm
  | li => exact execLi_mems.inForm
  | liLong => exact execLiLong_mems.inForm
  | lui => exact execLui_mems.inForm
  | add => exact execAdd_mems.inForm
  | sub => exact execSub_mems.inForm
  | and => exact execAnd_mems.inForm
  | or => exact execOr_mems.inForm
  | xor => exact execXor_mems.inForm
  | shl => exact execShl_mems.inForm
  | shr => exact execShr_mems.inForm
  | cmp => exact execCmp_mems.inForm
  | ld => exact execLd_mems.inForm
  | st => exact execSt_inForm
  | ldTime => exact execLdTime_mems.inForm
  | stTime => exact execStTime_inForm
  | ldx => exact execLdx_mems.inForm
  | stx => exact execStx_inForm
  | tnow => exact execTnow_mems.inForm
  | tadd => exact execTadd_mems.inForm
  | wait => exact execWait_mems.inForm
  | waitev => exact execWaitev_mems.inForm
  | xstage => exact execXstage_mems.inForm
  | xstageb => exact execXstageb_mems.inForm
  | xcommit => exact execXcommit_mems.inForm
  | xread => exact execXread_mems.inForm
  | xlock => exact execXlock_mems.inForm
  | astage => exact execAstage_mems.inForm
  | acommit => exact execAcommit_mems.inForm
  | lset => exact execLset_mems.inForm
  | hcommit => exact execHcommit_mems.inForm
  | bufalloc => exact execBufalloc_mems.inForm
  | buffree => exact execBuffree_mems.inForm
  | recstart => exact execRecstart_mems.inForm
  | recstop => exact execRecstop_mems.inForm
  | play => exact execPlay_mems.inForm
  | ask => exact execAsk_mems.inForm
  | give => exact execGive_mems.inForm
  | emit => exact execEmit_mems.inForm
  | fence => exact execFence_mems.inForm
  | tsync => exact execTsync_mems.inForm
  | summary => exact execSummary_mems.inForm
  | undefinedOpcode => exact execUndefinedOpcode_mems.inForm
  | cxlPortBringupDone => exact execCxlPortBringupDone_mems.inForm
  | cxlpRetrain => exact execCxlpRetrain_mems.inForm
  | placementLoop => exact execPlacementLoop_mems.inForm
  | cxlEventRecord => exact execCxlEventRecord_mems.inForm
  | migrationPageDone => exact execMigrationPageDone_mems.inForm
  | recorderFrameStart => exact execRecorderFrameStart_mems.inForm
  | recorderLineComplete => exact execRecorderLineComplete_mems.inForm
  | playerFrameStart => exact execPlayerFrameStart_mems.inForm
  | playerLineFetch => exact execPlayerLineFetch_mems.inForm
  | descriptorRelease => exact execDescriptorRelease_mems.inForm
  | leaseSet => exact execLeaseSet_mems.inForm
  | hostWindowAccess => exact execHostWindowAccess_mems.inForm
  | sableRelPop => exact execSableRelPop_mems.inForm
  | cxlMemTimeout => exact execCxlMemTimeout_mems.inForm
  | cxlPortFail => exact execCxlPortFail_mems.inForm
  | cxlMailboxTimeout => exact execCxlMailboxTimeout_mems.inForm
  | headStagedWrite => exact execHeadStagedWrite_mems.inForm
  | headCommitGo => exact execHeadCommitGo_mems.inForm
  | headCommitDiscard => exact execHeadCommitDiscard_mems.inForm
  | headLatch => exact execHeadLatch_mems.inForm
  | headFrameStart => exact execHeadFrameStart_mems.inForm
  | headLineCompose => exact execHeadLineCompose_mems.inForm
  | lutOpen => exact execLutOpen_mems.inForm
  | lutDataWrite => exact execLutDataWrite_mems.inForm
  | lutClose => exact execLutClose_mems.inForm
  | ochreLogPop => exact execOchreLogPop_mems.inForm
  | audioBoundary => exact execAudioBoundary_mems.inForm
  | shadowAudioWrite => exact execShadowAudioWrite_mems.inForm
  | audioCommitGo => exact execAudioCommitGo_mems.inForm
  | audioCommitDiscard => exact execAudioCommitDiscard_mems.inForm
  | audioCommitEffect => exact execAudioCommitEffect_mems.inForm
  | zeroxTimeout => exact execZeroxTimeout_mems.inForm
  | fadeComplete => exact execFadeComplete_mems.inForm
  | delayBlockWrite => exact execDelayBlockWrite_mems.inForm
  | delaySet => exact execDelaySet_mems.inForm
  | audioPortCfgWrite => exact execAudioPortCfgWrite_mems.inForm
  | deembSourceChoice => exact execDeembSourceChoice_mems.inForm
  | tdmCfgWrite => exact execTdmCfgWrite_mems.inForm
  | tdmFrame => exact execTdmFrame_mems.inForm
  | tdmStop => exact execTdmStop_mems.inForm
  | tdmMasterStart => exact execTdmMasterStart_mems.inForm
  | tetosFrameRx => exact execTetosFrameRx_mems.inForm
  | markerRx => exact execMarkerRx_mems.inForm
  | cellRx => exact execCellRx_mems.inForm
  | skipRx => exact execSkipRx_mems.inForm
  | statusBlockRx => exact execStatusBlockRx_mems.inForm
  | tagRx => exact execTagRx_mems.inForm
  | remapRx => exact execRemapRx_mems.inForm
  | turnTx => exact execTurnTx_mems.inForm
  | statusBlockTx => exact execStatusBlockTx_mems.inForm
  | laneCtrlWrite => exact execLaneCtrlWrite_mems.inForm
  | signalDetect => exact execSignalDetect_mems.inForm
  | laneActive => exact execLaneActive_mems.inForm
  | laneSignalLoss => exact execLaneSignalLoss_mems.inForm
  | laneLockTimeout => exact execLaneLockTimeout_mems.inForm
  | remapStart => exact execRemapStart_mems.inForm
  | remapAbort => exact execRemapAbort_mems.inForm
  | remapWakeDone => exact execRemapWakeDone_mems.inForm
  | remapWakeTimeout => exact execRemapWakeTimeout_mems.inForm
  | remapOfferTimeout => exact execRemapOfferTimeout_mems.inForm
  | remapCompareDone => exact execRemapCompareDone_mems.inForm
  | remapSwitchTurn => exact execRemapSwitchTurn_mems.inForm
  | laneTestStart => exact execLaneTestStart_mems.inForm
  | laneTestStop => exact execLaneTestStop_mems.inForm
  | statusAbsent => exact execStatusAbsent_mems.inForm
  | mediaFrameRx => exact execMediaFrameRx_mems.inForm
  | pauseExpire => exact execPauseExpire_mems.inForm
  | ipLineEgress => exact execIpLineEgress_mems.inForm
  | ipFlowTimeout => exact execIpFlowTimeout_mems.inForm
  | videoPacketTx => exact execVideoPacketTx_mems.inForm
  | audioPacketTx => exact execAudioPacketTx_mems.inForm
  | ancPacketTx => exact execAncPacketTx_mems.inForm
  | opaqueForward => exact execOpaqueForward_mems.inForm
  | opaqueSourceSwitch => exact execOpaqueSourceSwitch_mems.inForm
  | opaqueSwitchTimeout => exact execOpaqueSwitchTimeout_mems.inForm
  | flowEnable => exact execFlowEnable_mems.inForm
  | flowDisable => exact execFlowDisable_mems.inForm
  | flowClearStats => exact execFlowClearStats_mems.inForm
  | flowEntryWrite => exact execFlowEntryWrite_mems.inForm
  | mediaPortCfgWrite => exact execMediaPortCfgWrite_mems.inForm
  | mediaLportCfgWrite => exact execMediaLportCfgWrite_mems.inForm
  | mediaLinkChange => exact execMediaLinkChange_mems.inForm
  | lpiEnter => exact execLpiEnter_mems.inForm
  | txRingDoorbell => exact execTxRingDoorbell_mems.inForm
  | txDescriptorSend => exact execTxDescriptorSend_mems.inForm
  | rxRingPost => exact execRxRingPost_mems.inForm
  | ptpTxqPop => exact execPtpTxqPop_mems.inForm
  | ptpAddendWrite => exact execPtpAddendWrite_mems.inForm
  | ptpStepGo => exact execPtpStepGo_mems.inForm
  | ptpRearm => exact execPtpRearm_mems.inForm
  | helloRx => exact arrive_inForm
  | recordRx => exact arrive_inForm
  | valueRx => exact arrive_inForm
  | cackRx => exact arrive_inForm
  | cackTimeout => exact execCackTimeout_mems.inForm
  | hostwRx => exact arrive_inForm
  | digestTx => exact execDigestTx_mems.inForm
  | digestRx => exact arrive_inForm
  | timeRx => exact arrive_inForm
  | cobaltTimeTx => exact execCobaltTimeTx_mems.inForm
  | cobaltEchoTx => exact execCobaltEchoTx_mems.inForm
  | echoRx => exact arrive_inForm
  | cobaltStatusTx => exact execCobaltStatusTx_mems.inForm
  | cobaltStatusRx => exact arrive_inForm
  | cobaltRetxTimeout => exact execCobaltRetxTimeout_mems.inForm
  | cobaltLinkLost => exact execCobaltLinkLost_mems.inForm
  | giveupRx => exact arrive_inForm
  | silenceTakeover => exact execSilenceTakeover_mems.inForm
  | take => exact execTake_mems.inForm
  | pairEnWrite => exact execPairEnWrite_mems.inForm
  | cobaltResync => exact execCobaltResync_mems.inForm
  | stateTransferFreeze => exact execStateTransferFreeze_mems.inForm
  | stateRx => exact arrive_inForm
  | pairInStep => exact execPairInStep_mems.inForm
  | swapGo => exact execSwapGo_mems.inForm
  | swapCancel => exact execSwapCancel_mems.inForm
  | swapAutoTimer => exact execSwapAutoTimer_mems.inForm
  | swapRx => exact arrive_inForm
  | swapFetchStop => exact execSwapFetchStop_mems.inForm
  | swapExecute => exact execSwapExecute_mems.inForm
  | admitAskGo => exact execAdmitAskGo_mems.inForm
  | admitAskCancel => exact execAdmitAskCancel_mems.inForm
  | admitGiveGo => exact execAdmitGiveGo_mems.inForm
  | admitQueueGrant => exact execAdmitQueueGrant_mems.inForm
  | askTimeout => exact execAskTimeout_mems.inForm
  | powerMeasure => exact execPowerMeasure_mems.inForm
  | thermalRead => exact execThermalRead_mems.inForm
  | thermCfgWrite => exact execThermCfgWrite_mems.inForm
  | thermtrip => exact execThermtrip_mems.inForm
  | avsLoopTick => exact execAvsLoopTick_mems.inForm
  | avsEmergency => exact execAvsEmergency_mems.inForm
  | avsTransactionFail => exact execAvsTransactionFail_mems.inForm
  | faultCauseExpire => exact execFaultCauseExpire_mems.inForm
  | holdLimitExpire => exact execHoldLimitExpire_mems.inForm
  | faultClear => exact execFaultClear_mems.inForm
  | wearEstimate => exact execWearEstimate_mems.inForm
  | wearHourStep => exact execWearHourStep_mems.inForm
  | sramCanaryTest => exact execSramCanaryTest_mems.inForm
  | wearSave => exact execWearSave_mems.inForm
  | wearRestore => exact execWearRestore_mems.inForm
  | spareSubstStart => exact execSpareSubstStart_mems.inForm
  | spareSubstAbort => exact execSpareSubstAbort_mems.inForm
  | headSubstMove => exact execHeadSubstMove_mems.inForm
  | spareTestStart => exact execSpareTestStart_mems.inForm
  | spareTestDone => exact execSpareTestDone_mems.inForm
  | scrubStart => exact execScrubStart_mems.inForm
  | scrubStop => exact execScrubStop_mems.inForm
  | scrubDone => exact execScrubDone_mems.inForm
  | softRepairComplete => exact execSoftRepairComplete_mems.inForm
  | repairPromote => exact execRepairPromote_mems.inForm
  | rstNAssert => exact execRstNAssert_inForm
  | rstNRelease => exact execRstNRelease_mems.inForm
  | initComplete => exact execInitComplete_mems.inForm
  | readyAssert cells => exact (execReadyAssert_mems (cells := cells)).inForm
  | enrolKeyGo => exact execEnrolKeyGo_mems.inForm
  | enrolTimeout => exact execEnrolTimeout_mems.inForm
  | enrolAck => exact execEnrolAck_mems.inForm
  | calGo => exact execCalGo_mems.inForm
  | calibrateDone => exact execCalibrateDone_mems.inForm
  | modeRequest => exact execModeRequest_mems.inForm
  | warmReset => exact execWarmReset_inForm
  | warmResetComplete => exact execWarmResetComplete_mems.inForm
  | coldResetCmd => exact execColdResetCmd_inForm
  | blockResetCmd => exact execBlockResetCmd_inForm
  | hostIfReset => exact execHostIfReset_mems.inForm
  | d3hotEntry => exact execD3hotEntry_mems.inForm
  | railUndervoltage => exact execRailUndervoltage_inForm
  | dmaReadError => exact execDmaReadError_mems.inForm
  | smbSetAddr => exact execSmbSetAddr_mems.inForm
  | smbRead => exact execSmbRead_mems.inForm
  | smbWrite => exact execSmbWrite_inForm
  | smbStatus => exact execSmbStatus_mems.inForm
  | matrixLockBreak => exact execMatrixLockBreak_mems.inForm
  | tldGo => exact execTldGo_mems.inForm
  | tldAbort => exact execTldAbort_mems.inForm
  | tldDone => exact execTldDone_mems.inForm
  | summaryRequest => exact execSummaryRequest_mems.inForm
  | summaryCapture => exact execSummaryCapture_mems.inForm
  | summaryWritten => exact execSummaryWritten_mems.inForm
  | keyUpdateGo => exact execKeyUpdateGo_mems.inForm
  | keyUpdateComplete => exact execKeyUpdateComplete_mems.inForm
  | keysMsgClear => exact execKeysMsgClear_mems.inForm
  | keyMaskRefresh => exact execKeyMaskRefresh_mems.inForm
  | trngFail => exact execTrngFail_mems.inForm
  | cueMemoryWindowWrite => exact execCueMemoryWindowWrite_inForm
  | captureRead => exact execCaptureRead_mems.inForm
  | layerLineFetch => exact execLayerLineFetch_mems.inForm
  | headSubstLoad => exact execHeadSubstLoad_mems.inForm
  | d0Restore => exact execD0Restore_mems.inForm
  | discardedMessageRx => exact execDiscardedMessageRx_inForm
  | tapInstructionUpdate => exact execTapInstructionUpdate_mems.inForm

/-- Settles O3: every command answers a next state. -/
theorem everyCommandAnswers : Obligations.EveryCommandAnswers := by
  intro c s
  obtain ⟨t, ht, -⟩ := exec_inForm (s := s) c
  exact ⟨t, ht⟩

/-- Settles O5: one CORE clock leaves the memories, and every command keeps their form. -/
theorem stepKeepsMemoryCanonical : Obligations.StepKeepsMemoryCanonical := by
  intro s t hs hstep
  unfold step at hstep
  split at hstep
  · obtain rfl := Host.Outcome.next.inj hstep
    exact memWf_of_mems tick_mems hs
  next c r _ =>
    obtain ⟨u, hu, hform⟩ := exec_inForm (s := { s with pending := r }) c
    rw [hu] at hstep
    obtain rfl := Host.Outcome.next.inj hstep
    exact hform (memWf_of_mems (mems_mk s) hs)

end Sys2Proof.Proofs
end

section
/-!
PROOFS. Mode requests (R454, R455): the codes of the transitions Table 17-1 does not list.
-/
namespace Sys2Proof.Proofs
open Sys2Proof.Machine Sys2Proof.Laws

/-- Table 17-1 lists no transition by request from the other modes. -/
theorem modeCode_unlisted {s : State} (h : s.mode = Mode.debug ∨ s.mode ≤ Mode.init) (t : Nat) : s.modeCode t = 1 := by
  have hno : s.mode ≠ Mode.calibrate ∧ s.mode ≠ Mode.standalone ∧ s.mode ≠ Mode.active ∧ s.mode ≠ Mode.standby ∧ s.mode ≠ Mode.safe := by
    unfold Mode.calibrate Mode.standalone Mode.active Mode.standby Mode.safe
    unfold Mode.debug Mode.init at h
    omega
  obtain ⟨hcal, hsta, hact, hstb, hsafe⟩ := hno
  simp only [State.modeCode, hcal, hsta, hact, hstb, hsafe, false_and, or_self, if_false]

/-- Of a mode other than ACTIVE, CALIBRATE and SAFE, only the way to SAFE is listed. -/
theorem modeCode_safeOnly {s : State} (h : s.mode = Mode.standalone ∨ s.mode = Mode.standby) {t : Nat} (ht : t ≠ Mode.safe) :
    s.modeCode t = 1 := by
  obtain h | h := h <;> simp [State.modeCode, h, ht]

theorem modeCode_uncalibrated {s : State} (h : s.mode = Mode.calibrate) {t : Nat}
    (ht : t = Mode.standalone ∨ t = Mode.active ∨ t = Mode.standby ∨ t = Mode.debug) (hcal : s.on F.TOP_DEV_MODE_CAL_DONE 0 = false) :
    s.modeCode t = 2 := by
  obtain rfl | rfl | rfl | rfl := ht <;> simp [State.modeCode, firstCode, h, hcal]

theorem modeCode_toSafe {s : State} (h : s.mode = Mode.standalone ∨ s.mode = Mode.active ∨ s.mode = Mode.standby) :
    s.modeCode Mode.safe = 0 := by
  obtain h | h | h := h <;> simp [State.modeCode, h]

/-- Settles O58, row by row of Table 17-1: the mode and the target choose the row, and CAL_DONE is the first of its checks. -/
theorem modeRequestCodes : Obligations.ModeRequestCodes := by
  unfold Obligations.ModeRequestCodes
  intro t s
  refine ⟨fun h => modeCode_unlisted h t, fun h ht => modeCode_uncalibrated h ht, ?standalone, ?standby, modeCode_toSafe, ?stepDown⟩
  case standalone => exact fun h => modeCode_safeOnly (.inl h)
  case standby => exact fun h => modeCode_safeOnly (.inr h)
  case stepDown => intro h; simp [State.modeCode, h]

end Sys2Proof.Proofs
end

section
/-!
PROOFS. The configuration of the media ports under enabled logical ports and essence entries (R346), and the loss of a port's link.
-/
namespace Sys2Proof.Proofs
open Sys2Proof.Machine Sys2Proof.Laws

/-! ### What a flow entry names -/

theorem tget_of_notListed {α : Type} (t : Tab α) (k : Nat) (d : α) (h : ∀ e ∈ t, e.1 ≠ k) : tget t k d = d := by
  induction t with
  | nil => rfl
  | cons e r ih =>
    obtain ⟨j, v⟩ := e
    rw [tget, if_neg (h _ (List.mem_cons_self ..)), ih fun e he => h e (List.mem_cons_of_mem _ he)]

/-- A VALID entry has a word that is not 0, so the table lists it. -/
theorem mem_flowIdx_of_fValid {s : State} {i : Nat} (h : s.fValid i = true) : i ∈ s.flowIdx := by
  by_contra hi
  have hword : s.fw i 0 = 0 := tget_of_notListed _ _ _ fun e he hk =>
    hi (List.mem_map.mpr ⟨e, List.mem_filter.mpr ⟨he, by simp [hk]⟩, by simp [hk]⟩)
  simp [State.fValid, hword, bit] at h

/-- A logical port is in use when a VALID entry of a TYPE other than HOST and DROP names it. -/
theorem lportUsed_iff {s : State} {p : Nat} :
    s.lportUsed p = true ↔ ∃ i, s.fValid i = true ∧ s.fType i ≠ 0 ∧ s.fType i ≠ 6 ∧ s.fPort i = p := by
  simp only [State.lportUsed, State.essence, List.any_eq_true, Bool.and_eq_true, decide_eq_true_eq, and_assoc]
  exact ⟨fun ⟨i, _, h⟩ => ⟨i, h⟩, fun ⟨i, h⟩ => ⟨i, mem_flowIdx_of_fValid h.1, h⟩⟩

/-! ### Writes of the configuration -/

theorem exec_mediaPortCfgWrite (n : Fin 8) (w : Word) (s : State) : exec (.mediaPortCfgWrite n w) s =
    ok (s.hostWrite (0x100100 + 0x20 * n.val) w.toNat (State.mediaPortCfg n.val w.toNat)) := rfl

theorem exec_mediaLportCfgWrite (l : Fin 32) (w : Word) (s : State) : exec (.mediaLportCfgWrite l w) s =
    ok (s.hostWrite (0x100400 + 0x10 * l.val) w.toNat (State.lportCfg l.val w.toNat)) := rfl

/-- The enabled logical ports of a physical port. -/
def portsOn (n : Nat) (s : State) : List Nat := ((List.range 4).map (· + 4 * n)).filter fun l => s.lportOn l

/-- A write of CFG that would change SPLIT or PHY. -/
def CfgChange (n v : Nat) (s : State) : Prop :=
  (bits v 0 2 ≤ 2 ∧ bits v 0 2 ≠ s.rd F.MEDIA_PORT_CFG_SPLIT n) ∨ (bits v 2 3 ≤ 3 ∧ bits v 2 3 ≠ s.rd F.MEDIA_PORT_CFG_PHY n)

/-- What a refused write of CFG leaves: the fields that are no part of the rate, and CFG_REFUSED of the enabled ports. -/
def cfgKept (n v : Nat) (s : State) : State :=
  forEach (portsOn n s) (fun m s => s.wr F.MEDIA_LPORT_STATUS_CFG_REFUSED m 1)
    (s.writeFields [(F.MEDIA_PORT_CFG_AN_EN, n, 5), (F.MEDIA_PORT_CFG_LT_EN, n, 6)] v)

theorem mediaPortCfg_eq (n v : Nat) (s : State) : s.mediaPortCfg n v =
    if ((decide (bits v 0 2 ≤ 2) && decide (bits v 0 2 ≠ s.rd F.MEDIA_PORT_CFG_SPLIT n)) ||
        (decide (bits v 2 3 ≤ 3) && decide (bits v 2 3 ≠ s.rd F.MEDIA_PORT_CFG_PHY n))) && !(portsOn n s).isEmpty then cfgKept n v s
    else s.writeWord (0x100100 + 0x20 * n) v := rfl

theorem mediaPortCfg_refused {n v : Nat} {s : State} (h : CfgChange n v s) (hon : portsOn n s ≠ []) :
    s.mediaPortCfg n v = cfgKept n v s := by
  rw [mediaPortCfg_eq, if_pos (by simpa [CfgChange] using And.intro h hon)]

theorem mediaPortCfg_taken {n v : Nat} {s : State} (h : ¬ CfgChange n v s ∨ portsOn n s = []) :
    s.mediaPortCfg n v = s.writeWord (0x100100 + 0x20 * n) v := by
  rw [mediaPortCfg_eq, if_neg]
  simpa [CfgChange, imp_iff_not_or] using h

theorem lportCfg_refused {l v : Nat} {s : State}
    (h : s.on F.MEDIA_LPORT_CFG_EN l = true ∧ bit v 0 = false ∧ s.lportUsed l = true) :
    s.lportCfg l v = s.wr F.MEDIA_LPORT_STATUS_CFG_REFUSED l 1 := if_pos (by simpa [and_assoc] using h)

theorem lportCfg_taken {l v : Nat} {s : State}
    (h : ¬ (s.on F.MEDIA_LPORT_CFG_EN l = true ∧ bit v 0 = false ∧ s.lportUsed l = true)) :
    s.lportCfg l v = s.writeWord (0x100400 + 0x10 * l) v := if_neg (by simpa [and_assoc] using h)

/-! ### What a refused write leaves -/

/-- A field of the ports' registers, which take 256 bits a port below those of the logical ports. -/
abbrev PortField (f : Fld) : Prop := f.n2 = 1 ∧ f.s1 = 256 ∧ f.base / 256 = 32776

theorem portField_key {f : Fld} (h : PortField f) (k : Nat) : f.key k = f.base + 256 * k := by
  obtain ⟨hn, hs, -⟩ := h
  simp [Fld.key, hn, hs, Nat.mul_comm, Nat.mod_one]

theorem portField_key_ne {f g : Fld} (hf : PortField f) (hg : PortField g) (h : g.base ≠ f.base) (i j : Nat) : g.key j ≠ f.key i := by
  rw [portField_key hf, portField_key hg]
  obtain ⟨-, -, hf⟩ := hf
  obtain ⟨-, -, hg⟩ := hg
  omega

/-- A write of a field, taken or not, leaves the fields at other bit addresses. -/
theorem rd_writeField_ne (s : State) (f g : Fld) (i j v : Nat) (h : g.key j ≠ f.key i) : (s.writeField f i v).rd g j = s.rd g j := by
  unfold State.writeField
  cases f.acc with
  | rw | rws =>
    dsimp only
    split
    · exact rd_wr_ne _ _ _ _ _ _ h
    · rfl
  | w1c => exact rd_wr_ne _ _ _ _ _ _ h
  | ro | wo | rc => rfl

theorem rd_wr_cfgRefused {g : Fld} (hg : PortField g) {n : Nat} (hn : n < 8) (m v : Nat) (s : State) :
    (s.wr F.MEDIA_LPORT_STATUS_CFG_REFUSED m v).rd g n = s.rd g n := by
  refine rd_wr_ne _ _ _ _ _ _ (Nat.ne_of_lt (Nat.lt_of_lt_of_le ?_ (base_le_key _ m)))
  rw [portField_key hg, show F.MEDIA_LPORT_STATUS_CFG_REFUSED.base = 8396834 from rfl]
  obtain ⟨-, -, hg⟩ := hg
  omega

/-- The rate's fields stand over a refused write. -/
theorem cfgKept_rd {g : Fld} (hg : PortField g) (han : g.base ≠ F.MEDIA_PORT_CFG_AN_EN.base) (hlt : g.base ≠ F.MEDIA_PORT_CFG_LT_EN.base)
    {n : Nat} (hn : n < 8) (v : Nat) (s : State) : (cfgKept n v s).rd g n = s.rd g n := by
  unfold cfgKept
  rw [forEach_keeps (fun t => State.rd t g n) _ _ fun m t => rd_wr_cfgRefused hg hn m 1 t]
  exact (rd_writeField_ne _ _ _ _ _ _ (portField_key_ne (by decide) hg hlt n n)).trans
    (rd_writeField_ne _ _ _ _ _ _ (portField_key_ne (by decide) hg han n n))

/-- CFG_REFUSED, once set, stands while it is set of other ports. -/
theorem forEach_cfgRefused (l : List Nat) (m : Nat) (s : State) (h : m ∈ l ∨ s.rd F.MEDIA_LPORT_STATUS_CFG_REFUSED m = 1) :
    (forEach l (fun m s => s.wr F.MEDIA_LPORT_STATUS_CFG_REFUSED m 1) s).rd F.MEDIA_LPORT_STATUS_CFG_REFUSED m = 1 := by
  induction l generalizing s with
  | nil => exact h.resolve_left (List.not_mem_nil)
  | cons a r ih =>
    refine ih (s.wr F.MEDIA_LPORT_STATUS_CFG_REFUSED a 1) ?_
    by_cases hma : m = a
    · exact .inr (hma ▸ rd_wr_same ..)
    · refine h.imp (fun h => (List.mem_cons.mp h).resolve_left hma) fun h => (rd_wr_ne _ _ _ _ _ _ ?_).trans h
      simp [Fld.key, F.MEDIA_LPORT_STATUS_CFG_REFUSED, Nat.mod_one, hma]

/-! ### The link of a port -/

section
variable (k : Fin 33) (u : Bool) (s : State)

/-- A link gained or lost shows in the logical port's STATUS, with its event. -/
def linkShown : State :=
  ((s.lwr k F.MEDIA_LPORT_STATUS_LINK F.MGT_STATUS_LINK (b2n u)).lwr k F.MEDIA_LPORT_STATUS_LINK_EV
    F.MGT_STATUS_LINK_EV 1).event F.MEDIA_EVENT_LINK 0 Irq.media

/-- And, of a media port, in the physical port's. -/
def linkBoth : State :=
  (linkShown k u s).wr F.MEDIA_PORT_STATUS_LINK (k.val / 4)
    (withBit ((linkShown k u s).rd F.MEDIA_PORT_STATUS_LINK (k.val / 4)) (k.val % 4) u)

theorem exec_mediaLinkChange : exec (.mediaLinkChange k u) s =
    ok (if s.lportLink k = u ∨ s.lportExists k = false then s
      else if (!u && decide (k.val < 32) && s.lportUsed k) = true then
        (if k.val < 32 then linkBoth k u s else linkShown k u s).faultEvent (lportSrc k) true
      else if k.val < 32 then linkBoth k u s else linkShown k u s) := rfl

variable {k u s}

/-- A link that is as it was, or of a port that the split does not give, is no change. -/
theorem mediaLinkChange_still (h : ¬ (s.lportLink k = !u ∧ s.lportExists k = true)) : exec (.mediaLinkChange k u) s = .next s := by
  rw [exec_mediaLinkChange, if_pos]
  · rfl
  · revert h
    cases s.lportLink k <;> cases u <;> cases s.lportExists k <;> simp

variable (h : s.lportLink k = !u ∧ s.lportExists k = true)
include h

theorem linkMoves : ¬ (s.lportLink k = u ∨ s.lportExists k = false) := by
  obtain ⟨hlink, hex⟩ := h
  simp [hlink, hex]

theorem mediaLinkChange_lost (hk : k.val < 32) (hu : u = false) (hused : s.lportUsed k = true) :
    exec (.mediaLinkChange k u) s = .next ((linkBoth k u s).faultEvent (Src.media (k.val / 4)) true) := by
  rw [exec_mediaLinkChange, if_neg (linkMoves h), if_pos (by simp [hk, hu, hused]), if_pos hk, lportSrc, if_pos hk]
  rfl

theorem mediaLinkChange_shown (hk : k.val < 32) (hu : u = true ∨ ¬ s.lportUsed k = true) :
    exec (.mediaLinkChange k u) s = .next (linkBoth k u s) := by
  rw [exec_mediaLinkChange, if_neg (linkMoves h), if_neg, if_pos hk]
  · rfl
  · obtain rfl | hu := hu
    · simp
    · simp [hu]

theorem mediaLinkChange_mgt (hk : k.val = 32) : exec (.mediaLinkChange k u) s = .next (linkShown k u s) := by
  rw [exec_mediaLinkChange, if_neg (linkMoves h), if_neg (by simp [hk]), if_neg (by omega)]
  rfl

end

/-- Settles O43: each write by whether the change meets an enabled port or a named one; the link by whether it moves and whose it is. -/
theorem portConfiguration : Obligations.PortConfiguration := by
  unfold Obligations.PortConfiguration
  intro n l k u w s
  dsimp only
  simp only [← lportUsed_iff]
  refine ⟨?taken, ?refused, ?kept, ?pulled, ?set, ?lost, ?shown, mediaLinkChange_mgt, mediaLinkChange_still⟩
  case taken => exact fun h => puts_of_eq (exec_mediaPortCfgWrite n w s) (mediaPortCfg_taken h)
  case refused => exact fun h hon => puts_of_eq (exec_mediaPortCfgWrite n w s) (mediaPortCfg_refused h hon)
  case kept =>
    exact fun _ _ => ⟨cfgKept_rd (by decide) (by decide) (by decide) n.isLt _ s, cfgKept_rd (by decide) (by decide) (by decide) n.isLt _ s,
      fun m hm => forEach_cfgRefused _ m _ (.inl hm)⟩
  case pulled => exact fun h => puts_of_eq (exec_mediaLportCfgWrite l w s) (lportCfg_refused h)
  case set => exact fun h => puts_of_eq (exec_mediaLportCfgWrite l w s) (lportCfg_taken h)
  case lost => exact mediaLinkChange_lost
  case shown => exact mediaLinkChange_shown

end Sys2Proof.Proofs
end

section
/-!
PROOFS. What a fault event leaves alone. Power, temperature and the voltage loop (R416, R424, R425, R427): each measurement in its period,
the temperature flags at their thresholds, which the fault event of an alarm leaves alone.
-/
namespace Sys2Proof.Proofs
open Sys2Proof.Machine Sys2Proof.Laws

/-! ### What a fault event leaves alone (R429-R431) -/

theorem rd_ite {c : Prop} [Decidable c] {t e : State} {g : Fld} {i v : Nat} (ht : t.rd g i = v) (he : e.rd g i = v) :
    (if c then t else e).rd g i = v := by
  split
  · exact ht
  · exact he

/-- A projection that each step of a loop leaves alone stands after it. -/
theorem forEach_keeps_of_mem {β : Type} (p : State → β) (l : List Nat) (f : Nat → State → State)
    (h : ∀ i ∈ l, ∀ s, p (f i s) = p s) (s : State) : p (forEach l f s) = p s := by
  induction l generalizing s with
  | nil => rfl
  | cons a r ih => exact (ih (fun i hi => h i (List.mem_cons_of_mem _ hi)) (f a s)).trans (h a (List.mem_cons_self ..) s)

/-- The bit addresses of MODE and OWN, of the engines, of the twin link, and of the fault collector and the interrupt vectors. -/
abbrev FaultKey (k : Nat) : Prop :=
  k < 1024 ∨ (3178496 ≤ k ∧ k < 3188736) ∨ (10485760 ≤ k ∧ k < 11010048) ∨ 11534336 ≤ k

section
variable {g : Fld} {j : Nat} (hg : ¬ FaultKey (g.key j))
include hg

theorem offFault_rd_wr {f : Fld} {i : Nat} (h : FaultKey (f.key i)) (s : State) (v : Nat) : (s.wr f i v).rd g j = s.rd g j :=
  rd_wr_ne _ _ _ _ _ _ fun hkey => hg (hkey ▸ h)

theorem offFault_rd_raise (x : Nat) (s : State) : (s.raise x).rd g j = s.rd g j := by
  refine raise_rd _ _ _ _ fun v => ?_
  have hle : 12976128 ≤ F.MSIX_PBA_PENDING.key v := base_le_key F.MSIX_PBA_PENDING v
  omega

theorem offFault_rd_engMask (m b : Nat) (s : State) : (s.engMask m b).rd g j = s.rd g j := by
  refine engMask_rd _ _ _ _ _ fun v hv => ?_
  have hkey : F.CUE_EVPEND_BITS.key v = 3178688 + v * 2048 := by simp [Fld.key, F.CUE_EVPEND_BITS, Nat.mod_one]
  omega

theorem offFault_rd_setMode (m : Nat) (s : State) : (s.setMode m).rd g j = s.rd g j := by
  have hshown : ((s.wr F.TOP_DEV_MODE_MODE 0 m).wr F.TOP_DEV_MODE_OWN 0 (b2n (decide (m = Mode.standalone ∨ m = Mode.active)))).rd g j =
      s.rd g j := by
    rw [offFault_rd_wr hg (by decide), offFault_rd_wr hg (by decide)]
  unfold State.setMode
  dsimp only
  split
  · exact hshown
  · rw [offFault_rd_engMask hg, hshown]

theorem offFault_rd_setRole (r : Nat) (s : State) : (s.setRole r).rd g j = s.rd g j := by
  unfold State.setRole
  split
  · rfl
  · rw [offFault_rd_engMask hg, offFault_rd_wr hg (by decide)]

theorem offFault_rd_clearInStep (s : State) : s.clearInStep.rd g j = s.rd g j := by
  unfold State.clearInStep
  split
  · exact offFault_rd_wr hg (by decide) ..
  · rfl

theorem offFault_rd_giveUpTo (reason next : Nat) (s : State) : (s.giveUpTo reason next).rd g j = s.rd g j := by
  have hsend : (s.send Mt.giveup [reason]).rd g j = s.rd g j := by
    unfold State.send
    split <;> rfl
  unfold State.giveUpTo State.leaveActive State.event
  rw [offFault_rd_setMode hg, offFault_rd_raise hg, offFault_rd_wr hg (by decide), offFault_rd_setRole hg, offFault_rd_clearInStep hg]
  exact (offFault_rd_wr hg (f := F.TOP_DEV_MODE_OWN) (i := 0) (by decide) _ 0).trans hsend

theorem offFault_rd_giveUp (reason : Nat) (s : State) : (s.giveUp reason).rd g j = s.rd g j := by
  unfold State.giveUp
  split
  · exact offFault_rd_giveUpTo hg ..
  · rfl

theorem offFault_rd_engStop {n : Nat} (hn : n < 5) (cause : Nat) (s : State) : (s.engStop n cause).rd g j = s.rd g j := by
  have hkey : ∀ n : Fin 5, FaultKey (F.CUE_STATUS_STATE.key n) ∧ FaultKey (F.CUE_STATUS_STOP_CAUSE.key n) := by decide
  obtain ⟨hstate, hcause⟩ := hkey ⟨n, hn⟩
  unfold State.engStop
  split
  · exact (offFault_rd_wr hg hcause ..).trans (offFault_rd_wr hg hstate ..)
  · rfl

theorem offFault_rd_enterSafe (s : State) : s.enterSafe.rd g j = s.rd g j := by
  unfold State.enterSafe
  refine rd_ite ((forEach_keeps_of_mem (fun t => State.rd t g j) _ _ (fun n hn t => ?_) _).trans ?_) rfl
  · exact offFault_rd_engStop hg (List.mem_range.mp hn) 1 t
  · exact rd_ite (offFault_rd_giveUpTo hg ..) (offFault_rd_setMode hg ..)

/-- The action of a source of whose block there is no reset (Table 16-1). -/
theorem offFault_rd_faultAction {src : Nat} (hsrc : ∀ t : State, t.blockReset src = t) (po : Bool) (s : State) :
    (s.faultAction src po).rd g j = s.rd g j := by
  have hraise := offFault_rd_raise hg Irq.vermilion s
  unfold State.faultAction
  dsimp only
  rw [hsrc]
  exact rd_ite rfl (rd_ite rfl (rd_ite hraise (rd_ite hraise (rd_ite ((offFault_rd_enterSafe hg _).trans hraise)
    (rd_ite ((offFault_rd_giveUp hg ..).trans hraise) hraise)))))

theorem offFault_rd_faultEvent {src : Nat} (hsrc : ∀ t : State, t.blockReset src = t) (partner : Bool) (s : State) :
    (s.faultEvent src partner).rd g j = s.rd g j := by
  have hflt : ∀ (f : Fld) (i v : Nat) (t : State), 11534336 ≤ f.base → (t.wr f i v).rd g j = t.rd g j := fun f i v t h =>
    offFault_rd_wr hg (.inr (.inr (.inr (h.trans (base_le_key f i))))) t v
  unfold State.faultEvent State.addWrap
  dsimp only
  refine rd_ite ((offFault_rd_faultAction hg hsrc ..).trans ((hflt _ _ _ _ (by decide)).trans ((hflt _ _ _ _ (by decide)).trans ?_))) ?_
  all_goals
    refine rd_ite ((offFault_rd_raise hg ..).trans ?_) ?_
    all_goals
      refine (hflt _ _ _ _ (by decide)).trans (rd_ite ((hflt _ _ _ _ (by decide)).trans ?_) ?_)
      all_goals exact (hflt _ _ _ _ (by decide)).trans ((hflt _ _ _ _ (by decide)).trans (hflt _ _ _ _ (by decide)))
end

/-! ### The admission unit's fields -/

/-- A field of the admission unit, which lies from 0x150000 to 0x160000. -/
abbrev AdmitField (g : Fld) : Prop := 11010048 ≤ g.base ∧ g.base < 11534336

section
variable {g : Fld} (hg : AdmitField g)
include hg

theorem admitField_offFault : ¬ FaultKey (g.key 0) := by
  rw [key_zero]
  omega

omit hg in
theorem admit_rd_wr_ne {f : Fld} (h : g.base ≠ f.base) (s : State) (v : Nat) : (s.wr f 0 v).rd g 0 = s.rd g 0 :=
  rd_wr_ne _ _ _ _ _ _ (by rwa [key_zero, key_zero])

theorem admit_rd_raise (x : Nat) (s : State) : (s.raise x).rd g 0 = s.rd g 0 := offFault_rd_raise (admitField_offFault hg) x s

theorem admit_rd_faultEvent (partner : Bool) (s : State) : (s.faultEvent Src.thermal partner).rd g 0 = s.rd g 0 :=
  offFault_rd_faultEvent (admitField_offFault hg) (fun _ => rfl) partner s
end

/-! ### A reading of the sensors -/

section
variable (ts : List Nat) (s : State)

/-- The hottest sensor's temperature. -/
abbrev hottest : Nat := ts.foldl Nat.max 0

/-- The flag of a threshold after the reading. -/
def flagAfter (flag thr : Fld) : Bool := tempFlag (s.on flag 0) (hottest ts) (s.rd thr 0) (s.rd F.ADMIT_THERM_CFG_HYST 0)

/-- What the reading shows: TJ, HOTTEST, the PEAK and both flags. -/
def tempShown : State :=
  let hot := (List.range ts.length).filter fun i => ts.getD i 0 = hottest ts
  (((((s.draw.1.wr F.ADMIT_TEMP_TJ 0 (hottest ts)).wr F.ADMIT_TEMP_HOTTEST 0 (hot.getD (s.draw.2 % hot.length) 0)).wr F.ADMIT_TEMP_PEAK 0
    (Nat.max (s.rd F.ADMIT_TEMP_PEAK 0) (hottest ts))).wr F.ADMIT_STATUS_THERM_HOLD 0
    (b2n (flagAfter ts s F.ADMIT_STATUS_THERM_HOLD F.ADMIT_THERM_CFG_WARN))).wr F.ADMIT_STATUS_TEMP_ALARM 0
    (b2n (flagAfter ts s F.ADMIT_STATUS_TEMP_ALARM F.ADMIT_THERM_CFG_ALARM)))

variable {ts s}

/-- Beside what it shows, a reading sets only the events of the flags. -/
theorem readSensors_rd {g : Fld} (hg : AdmitField g) (hwarn : g.base ≠ F.ADMIT_STATUS_WARN_EV.base)
    (halarm : g.base ≠ F.ADMIT_STATUS_ALARM_EV.base) : (s.readSensors ts).rd g 0 = (tempShown ts s).rd g 0 := by
  have hold : ∀ c : Prop, [Decidable c] →
      (if c then (tempShown ts s).event F.ADMIT_STATUS_WARN_EV 0 Irq.admission else tempShown ts s).rd g 0 = (tempShown ts s).rd g 0 :=
    fun c _ => rd_ite ((admit_rd_raise hg ..).trans (admit_rd_wr_ne hwarn ..)) rfl
  unfold State.readSensors
  exact rd_ite ((admit_rd_faultEvent hg ..).trans ((admit_rd_raise hg ..).trans ((admit_rd_wr_ne halarm ..).trans (hold _)))) (hold _)

theorem readSensors_tj (h : hottest ts < 256) : (s.readSensors ts).rd F.ADMIT_TEMP_TJ 0 = hottest ts := by
  rw [readSensors_rd (by decide) (by decide) (by decide), tempShown]
  iterate 4 rw [admit_rd_wr_ne (by decide)]
  rw [rd_wr_same]
  exact Nat.mod_eq_of_lt h

theorem readSensors_peak :
    (s.readSensors ts).rd F.ADMIT_TEMP_PEAK 0 = Nat.max (s.rd F.ADMIT_TEMP_PEAK 0) (hottest ts) % 256 := by
  rw [readSensors_rd (by decide) (by decide) (by decide), tempShown]
  iterate 2 rw [admit_rd_wr_ne (by decide)]
  exact rd_wr_same ..

theorem readSensors_hold : (s.readSensors ts).rd F.ADMIT_STATUS_THERM_HOLD 0 =
    b2n (flagAfter ts s F.ADMIT_STATUS_THERM_HOLD F.ADMIT_THERM_CFG_WARN) % 2 := by
  rw [readSensors_rd (by decide) (by decide) (by decide), tempShown, admit_rd_wr_ne (by decide)]
  exact rd_wr_same ..

theorem readSensors_alarm : (s.readSensors ts).rd F.ADMIT_STATUS_TEMP_ALARM 0 =
    b2n (flagAfter ts s F.ADMIT_STATUS_TEMP_ALARM F.ADMIT_THERM_CFG_ALARM) % 2 := by
  rw [readSensors_rd (by decide) (by decide) (by decide), tempShown]
  exact rd_wr_same ..

/-- A flag is set at its threshold, clear HYST below it, and stands between them. -/
theorem flag_set {was : Bool} {tj thr hyst : Nat} (h : thr ≤ tj) : b2n (tempFlag was tj thr hyst) % 2 = 1 := by
  rw [tempFlag, if_pos h]
  rfl

theorem flag_clear {was : Bool} {tj thr hyst : Nat} (h : tj < thr) (hh : tj + hyst ≤ thr) : b2n (tempFlag was tj thr hyst) % 2 = 0 := by
  rw [tempFlag, if_neg (by omega), if_pos hh]
  rfl

theorem flag_stands {was : Bool} {tj thr hyst : Nat} (h : tj < thr) (hh : thr < tj + hyst) : tempFlag was tj thr hyst = was := by
  rw [tempFlag, if_neg (by omega), if_neg (by omega)]

theorem on_of_rd {t : State} {g : Fld} {b : Bool} (h : t.rd g 0 = b2n b % 2) : t.on g 0 = b := by
  rw [State.on, h]
  cases b <;> rfl
end

/-! ### The commands -/

theorem exec_powerMeasure (m : Nat) (s : State) : exec (.powerMeasure m) s = ok (if s.periodDue s.adm.lastPower (100 * msClk) = true then
    ({ s with adm := { s.adm with lastPower := some s.clk } }.wr F.ADMIT_USE_PWR_M 0 m).admShow else s) := rfl

theorem exec_thermalRead (ts : List Nat) (s : State) : exec (.thermalRead ts) s = ok (if s.periodDue s.adm.lastTemp msClk = true then
    { s with adm := { s.adm with lastTemp := some s.clk } }.readSensors ts else s) := rfl

theorem exec_thermCfgWrite (w : Word) (s : State) : exec (.thermCfgWrite w) s =
    ok (s.hostWrite 0x150040 w.toNat (State.thermCfg w.toNat)) := rfl

/-- WARN and ALARM are taken together: WARN no higher than ALARM, ALARM no higher than 112. -/
theorem thermCfg_taken {v : Nat} {s : State} (h : bits v 0 8 ≤ bits v 8 8) (h' : bits v 8 8 ≤ 112) : s.thermCfg v =
    ((s.wr F.ADMIT_THERM_CFG_WARN 0 (bits v 0 8)).wr F.ADMIT_THERM_CFG_ALARM 0 (bits v 8 8)).writeField F.ADMIT_THERM_CFG_HYST 0
      (bits v 16 4) := by
  unfold State.thermCfg
  dsimp only
  rw [if_pos ⟨h, h'⟩]

theorem thermCfg_left {v : Nat} {s : State} (h : bits v 8 8 < bits v 0 8 ∨ 112 < bits v 8 8) :
    s.thermCfg v = s.writeField F.ADMIT_THERM_CFG_HYST 0 (bits v 16 4) := by
  unfold State.thermCfg
  dsimp only
  rw [if_neg (by omega)]

theorem exec_avsLoopTick (slack : Nat) (ack : Bool) (s : State) : exec (.avsLoopTick slack ack) s =
    ok (if (!s.periodDue s.adm.lastLoop (10 * msClk)) = true then s
      else if s.adm.frozen = true then
        { s with adm := { s.adm with lastLoop := some s.clk } }.wr F.ADMIT_AVS_STATUS_S_MIN 0 (Nat.min slack 255)
      else (({ s with adm := { s.adm with lastLoop := some s.clk } }.wr F.ADMIT_AVS_STATUS_S_MIN 0 (Nat.min slack 255)).avsDecide
        slack).avsBus ack) := rfl

theorem exec_avsEmergency (slack : Nat) (s : State) : exec (.avsEmergency slack) s =
    ok (if (!s.periodDue s.adm.lastEmer usClk) = true then s
      else if (!s.avsHeld && decide (slack < s.rd F.ADMIT_AVS_CFG_SLACK_EMER 0)) = true then
        { s with adm := { s.adm with lastEmer := some s.clk } }.setTarget (s.rd F.ADMIT_AVS_STATUS_TARGET 0 + 25)
      else { s with adm := { s.adm with lastEmer := some s.clk } }) := rfl

theorem ok_ite_pos {c : Prop} [Decidable c] {t e : State} (h : c) : ok (if c then t else e) = .next t := by rw [if_pos h]; rfl

theorem ok_ite_neg {c : Prop} [Decidable c] {t e : State} (h : ¬ c) : ok (if c then t else e) = .next e := by rw [if_neg h]; rfl

/-- Settles O54: each measurement by its period, the flags by where the hottest sensor stands to the threshold and HYST below it, the
loop by FREEZE, the failed transaction and the slack. -/
theorem powerAndHeat : Obligations.PowerAndHeat := by
  unfold Obligations.PowerAndHeat
  intro m slack ack ts w s
  dsimp only
  refine ⟨?power, ?powerEarly, ?temp, ?tempEarly, ?shown, ?warn, ?cool, ?warnHyst, ?alarm, ?alarmEnds, ?alarmHyst, ?cfg, ?cfgBad, rfl,
    ?loopFrozen, ?loop, ?loopEarly, ?emergency, ?calm, ?emerEarly, rfl⟩
  case power => exact fun h => ok_ite_pos h
  case powerEarly => exact fun h => ok_ite_neg h
  case temp => exact fun h => ok_ite_pos h
  case tempEarly => exact fun h => ok_ite_neg h
  case shown => exact fun h => ⟨readSensors_tj h, readSensors_peak⟩
  case warn => exact fun h => readSensors_hold.trans (flag_set h)
  case cool => exact fun h hh => readSensors_hold.trans (flag_clear h hh)
  case warnHyst => exact fun h hh => (on_of_rd readSensors_hold).trans (flag_stands h hh)
  case alarm => exact fun h => readSensors_alarm.trans (flag_set h)
  case alarmEnds => exact fun h hh => readSensors_alarm.trans (flag_clear h hh)
  case alarmHyst => exact fun h hh => (on_of_rd readSensors_alarm).trans (flag_stands h hh)
  case cfg => exact fun h h' => puts_of_eq (exec_thermCfgWrite w s) (thermCfg_taken h h')
  case cfgBad => exact fun h => puts_of_eq (exec_thermCfgWrite w s) (thermCfg_left h)
  case loopFrozen =>
    intro hdue hfrozen
    rw [exec_avsLoopTick, if_neg (by simp [hdue]), if_pos hfrozen]
    rfl
  case loop =>
    intro hdue hfrozen
    rw [exec_avsLoopTick, if_neg (by simp [hdue]), if_neg (by simp [hfrozen])]
    rfl
  case loopEarly => exact fun h => ok_ite_pos (by simpa using h)
  case emergency =>
    rintro hdue ⟨hheld, hslack⟩
    rw [exec_avsEmergency, if_neg (by simp [hdue]), if_pos (by simp [hheld, hslack])]
    rfl
  case calm =>
    intro hdue hlow
    rw [exec_avsEmergency, if_neg (by simp [hdue]), if_neg (by simpa using hlow)]
    rfl
  case emerEarly => exact fun h => ok_ite_pos (by simpa using h)

end Sys2Proof.Proofs
end

section
/-!
PROOFS. Fault events and their clearing (R428-R435).
-/
namespace Sys2Proof.Proofs
open Sys2Proof.Machine Sys2Proof.Laws

/-! ### What a fault event tells (R429, R430) -/

section
variable (src : Fin 49) (partner : Bool) (s : State)

/-- The events in the source's window, with this one. -/
def windowWith : List FltEvent :=
  ((tget s.flt.win src []).filter fun e => decide (s.clk < e.at' + s.rd F.FLT_SRC_CFG_W src * msClk)) ++ [⟨s.clk, partner⟩]

/-- The event kept in the window, its STATUS bit and COUNT. -/
def eventCounted : State :=
  (({ s with flt := { s.flt with
      win := tput s.flt.win src (windowWith src partner s) []
      lastDev := if partner then s.flt.lastDev else tins s.flt.lastDev src s.clk } } : State).wr F.FLT_STATUS_SRC src 1).addWrap
    F.FLT_SRC_STAT_COUNT src 1

/-- The window's length, the first and the last frame, and the interrupt of a new bit. -/
def eventShown : State :=
  let newBit := !s.on F.FLT_STATUS_SRC src
  let fr := (s.pos 0).frame
  let s2 := (eventCounted src partner s).wr F.FLT_SRC_STAT_IN_WIN src (Nat.min (windowWith src partner s).length 255)
  let s3 := (if newBit then s2.wr F.FLT_SRC_STAT_FIRST_FRAME src fr else s2).wr F.FLT_SRC_STAT_LAST_FRAME src fr
  if newBit && s.on F.FLT_CFG_IRQ_ANY 0 && !s.on F.FLT_MASK_SRC src then s3.raise Irq.vermilion else s3

/-- The source found severe by the events of its window, all from the partner or not. -/
def eventSevere : State :=
  ((eventShown src partner s).wr F.FLT_SEVERE_SRC src 1).wr F.FLT_SRC_STAT_PARTNER_ONLY src
    (b2n ((windowWith src partner s).all (·.partner)))

variable {src partner s}

theorem faultEvent_severe (hsev : s.on F.FLT_SEVERE_SRC src = false)
    (hn : s.rd F.FLT_SRC_CFG_N src ≤ (windowWith src partner s).length) : s.faultEvent src partner =
      (eventSevere src partner s).faultAction src ((windowWith src partner s).all (·.partner)) := by
  have hif : ∀ t e : State, (if !s.on F.FLT_SEVERE_SRC src && decide (s.rd F.FLT_SRC_CFG_N src ≤ (windowWith src partner s).length) then t
      else e) = t := fun t e => if_pos (by simp [hsev, hn])
  exact hif _ _

theorem faultEvent_plain (h : s.on F.FLT_SEVERE_SRC src = true ∨ (windowWith src partner s).length < s.rd F.FLT_SRC_CFG_N src) :
    s.faultEvent src partner = eventShown src partner s := by
  have hif : ∀ t e : State, (if !s.on F.FLT_SEVERE_SRC src && decide (s.rd F.FLT_SRC_CFG_N src ≤ (windowWith src partner s).length) then t
      else e) = e := fun t e => if_neg (by
        simp only [Bool.and_eq_true, Bool.not_eq_true', decide_eq_true_eq, not_and, not_le]
        exact fun hoff => h.resolve_left (by simp [hoff]))
  exact hif _ _

/-- The window holds at least this event. -/
theorem windowWith_pos : 1 ≤ (windowWith src partner s).length := by simp [windowWith]

/-- A field that the window's report leaves alone. -/
abbrev Beside (g : Fld) (i : Nat) : Prop := g.key i < 12976128 ∧ g.key i ≠ F.FLT_SRC_STAT_IN_WIN.key i ∧
  g.key i ≠ F.FLT_SRC_STAT_FIRST_FRAME.key i ∧ g.key i ≠ F.FLT_SRC_STAT_LAST_FRAME.key i ∧ g.key i ≠ F.FLT_SRC_STAT_PARTNER_ONLY.key i

theorem eventShown_rd {g : Fld} (h : Beside g src) : (eventShown src partner s).rd g src = (eventCounted src partner s).rd g src := by
  obtain ⟨hmsix, hwin, hfirst, hlast, -⟩ := h
  have hin := rd_wr_ne (eventCounted src partner s) F.FLT_SRC_STAT_IN_WIN g src src (Nat.min (windowWith src partner s).length 255) hwin
  have hmsg : ∀ v, g.key src ≠ F.MSIX_PBA_PENDING.key v := fun v => (hmsix.trans_le (base_le_key F.MSIX_PBA_PENDING v)).ne
  have hframes : ∀ c : Bool, ∀ t : State, ((if c then t.wr F.FLT_SRC_STAT_FIRST_FRAME src (s.pos 0).frame else t).wr F.FLT_SRC_STAT_LAST_FRAME
      src (s.pos 0).frame).rd g src = t.rd g src := fun c t =>
    (rd_wr_ne _ _ _ _ _ _ hlast).trans (rd_ite (rd_wr_ne _ _ _ _ _ _ hfirst) rfl)
  unfold eventShown
  exact rd_ite ((raise_rd _ _ _ _ hmsg).trans ((hframes _ _).trans hin)) ((hframes _ _).trans hin)

/-- A masked source and one without an action take none (R431, R433). -/
theorem faultAction_none {t : State} {po : Bool} (h : t.rd F.FLT_SRC_CFG_ACTION src = 0 ∨ t.on F.FLT_MASK_SRC src = true) :
    t.faultAction src po = t := by
  unfold State.faultAction
  dsimp only
  obtain h | h := h
  · simp [h]
  · rw [if_pos h]

theorem eventCounted_status : (eventCounted src partner s).rd F.FLT_STATUS_SRC src = 1 := by
  unfold eventCounted State.addWrap
  rw [rd_wr_ne _ _ _ _ _ _ ((by decide : ∀ i : Fin 49, F.FLT_STATUS_SRC.key i ≠ F.FLT_SRC_STAT_COUNT.key i) src), rd_wr_same]
  rfl

theorem eventCounted_count :
    (eventCounted src partner s).rd F.FLT_SRC_STAT_COUNT src = (s.rd F.FLT_SRC_STAT_COUNT src + 1) % 2 ^ F.FLT_SRC_STAT_COUNT.w := by
  unfold eventCounted State.addWrap
  rw [rd_wr_same, rd_wr_ne _ _ _ _ _ _ ((by decide : ∀ i : Fin 49, F.FLT_SRC_STAT_COUNT.key i ≠ F.FLT_STATUS_SRC.key i) src)]
  rfl

theorem eventCounted_rd {g : Fld} (hs : g.key src ≠ F.FLT_STATUS_SRC.key src) (hc : g.key src ≠ F.FLT_SRC_STAT_COUNT.key src) :
    (eventCounted src partner s).rd g src = s.rd g src :=
  (rd_wr_ne _ _ _ _ _ _ hc).trans (rd_wr_ne _ _ _ _ _ _ hs)

theorem eventSevere_rd {g : Fld} (h : Beside g src) (hsev : g.key src ≠ F.FLT_SEVERE_SRC.key src) :
    (eventSevere src partner s).rd g src = (eventCounted src partner s).rd g src := by
  have hpartner := h.2.2.2.2
  exact (rd_wr_ne _ _ _ _ _ _ hpartner).trans ((rd_wr_ne _ _ _ _ _ _ hsev).trans (eventShown_rd h))

theorem eventSevere_severe : (eventSevere src partner s).rd F.FLT_SEVERE_SRC src = 1 := by
  unfold eventSevere
  rw [rd_wr_ne _ _ _ _ _ _ ((by decide : ∀ i : Fin 49, F.FLT_SEVERE_SRC.key i ≠ F.FLT_SRC_STAT_PARTNER_ONLY.key i) src), rd_wr_same]
  rfl

/-- A one-bit field that is on reads 1. -/
theorem rd_eq_one_of_on {g : Fld} {i : Nat} (hw : g.w = 1) (h : s.on g i = true) : s.rd g i = 1 := by
  have hlt := rd_lt s g i
  have hne : s.rd g i ≠ 0 := by simpa [State.on] using h
  rw [hw] at hlt
  omega

/-! ### An event without an action -/

section
variable (h : s.rd F.FLT_SRC_CFG_ACTION src = 0 ∨ s.on F.FLT_MASK_SRC src = true)
include h

theorem faultEvent_quiet (hsev : s.on F.FLT_SEVERE_SRC src = false) (hn : s.rd F.FLT_SRC_CFG_N src ≤ (windowWith src partner s).length) :
    s.faultEvent src partner = eventSevere src partner s := by
  have haction := eventSevere_rd (partner := partner) (s := s) ((by decide : ∀ i : Fin 49, Beside F.FLT_SRC_CFG_ACTION i) src)
    ((by decide : ∀ i : Fin 49, F.FLT_SRC_CFG_ACTION.key i ≠ F.FLT_SEVERE_SRC.key i) src)
  have hmask := eventSevere_rd (partner := partner) (s := s) ((by decide : ∀ i : Fin 49, Beside F.FLT_MASK_SRC i) src)
    ((by decide : ∀ i : Fin 49, F.FLT_MASK_SRC.key i ≠ F.FLT_SEVERE_SRC.key i) src)
  rw [eventCounted_rd ((by decide : ∀ i : Fin 49, F.FLT_SRC_CFG_ACTION.key i ≠ F.FLT_STATUS_SRC.key i) src)
    ((by decide : ∀ i : Fin 49, F.FLT_SRC_CFG_ACTION.key i ≠ F.FLT_SRC_STAT_COUNT.key i) src)] at haction
  rw [eventCounted_rd ((by decide : ∀ i : Fin 49, F.FLT_MASK_SRC.key i ≠ F.FLT_STATUS_SRC.key i) src)
    ((by decide : ∀ i : Fin 49, F.FLT_MASK_SRC.key i ≠ F.FLT_SRC_STAT_COUNT.key i) src)] at hmask
  rw [faultEvent_severe hsev hn]
  exact faultAction_none (h.imp haction.trans fun hon => by rw [State.on, hmask]; exact hon)

/-- Severe or not, the event counts. -/
theorem faultEvent_counts {g : Fld} (hg : Beside g src) (hsev : g.key src ≠ F.FLT_SEVERE_SRC.key src) :
    (s.faultEvent src partner).rd g src = (eventCounted src partner s).rd g src := by
  by_cases hs : s.on F.FLT_SEVERE_SRC src = true
  · rw [faultEvent_plain (.inl hs), eventShown_rd hg]
  by_cases hn : s.rd F.FLT_SRC_CFG_N src ≤ (windowWith src partner s).length
  · rw [faultEvent_quiet h (by simpa using hs) hn, eventSevere_rd hg hsev]
  · rw [faultEvent_plain (.inr (not_le.mp hn)), eventShown_rd hg]

/-- One event is enough for a source whose N is 1 or less. -/
theorem faultEvent_severeAtOnce (hn : s.rd F.FLT_SRC_CFG_N src ≤ 1) : (s.faultEvent src partner).rd F.FLT_SEVERE_SRC src = 1 := by
  by_cases hs : s.on F.FLT_SEVERE_SRC src = true
  · rw [faultEvent_plain (.inl hs), eventShown_rd ((by decide : ∀ i : Fin 49, Beside F.FLT_SEVERE_SRC i) src),
      eventCounted_rd ((by decide : ∀ i : Fin 49, F.FLT_SEVERE_SRC.key i ≠ F.FLT_STATUS_SRC.key i) src)
        ((by decide : ∀ i : Fin 49, F.FLT_SEVERE_SRC.key i ≠ F.FLT_SRC_STAT_COUNT.key i) src)]
    exact rd_eq_one_of_on rfl hs
  · rw [faultEvent_quiet h (by simpa using hs) (hn.trans windowWith_pos)]
    exact eventSevere_severe

end
end

/-! ### Clearing (R428, R431, R435) -/

theorem exec_faultClear (hi : Fin 2) (w : Word) (s : State) : exec (.faultClear hi w) s =
    ok (s.hostWrite (0x160000 + 4 * hi.val) w.toNat (State.faultWrite hi.val w.toNat)) := rfl

section
variable {i : Nat} {s : State}

theorem faultClear_off (h : s.on F.FLT_STATUS_SRC i = false) : s.faultClear i = s := if_pos (by simp [h])

variable (h : s.on F.FLT_STATUS_SRC i = true)
include h

theorem faultClear_fails (hc : s.causeNow i = true ∨ (tget s.flt.win i []).any (fun e => e.at' = s.clk) = true) :
    s.faultClear i = (s.wr F.FLT_CLR_STATUS_CLR_FAIL 0 1).wr F.FLT_CLR_STATUS_FAIL_SRC 0 i :=
  (if_neg (by simp [h])).trans (if_pos (by simpa only [Bool.or_eq_true] using hc))

theorem faultClear_clears (hc : s.causeNow i = false) (hw : ¬ (tget s.flt.win i []).any (fun e => e.at' = s.clk) = true) :
    s.faultClear i = (((({ s with flt := { s.flt with win := tput s.flt.win i [] [], holds := tdel s.flt.holds i } } : State).wr
      F.FLT_STATUS_SRC i 0).wr F.FLT_SEVERE_SRC i 0).wr F.FLT_SRC_STAT_IN_WIN i 0).wr F.FLT_SRC_STAT_PARTNER_ONLY i 0 :=
  (if_neg (by simp [h])).trans (if_neg (by simpa only [Bool.or_eq_true, hc, Bool.false_eq_true, false_or] using hw))

end

/-- Settles O55: clearing by the bit, its cause and its window; an event without an action by whether it makes its source severe. -/
theorem faultCommands : Obligations.FaultCommands := by
  unfold Obligations.FaultCommands
  refine ⟨fun src hi w s => ?_, fun src partner s h => ?_⟩
  · exact ⟨puts_of_eq (exec_faultClear hi w s) rfl, faultClear_off, faultClear_fails, faultClear_clears, rfl, fun h => ok_ite_pos h,
      fun h => ok_ite_neg h⟩
  · refine ⟨?status, ?count, faultEvent_severeAtOnce h⟩
    case status =>
      exact (faultEvent_counts h ((by decide : ∀ i : Fin 49, Beside F.FLT_STATUS_SRC i) src)
        ((by decide : ∀ i : Fin 49, F.FLT_STATUS_SRC.key i ≠ F.FLT_SEVERE_SRC.key i) src)).trans eventCounted_status
    case count =>
      exact (faultEvent_counts h ((by decide : ∀ i : Fin 49, Beside F.FLT_SRC_STAT_COUNT i) src)
        ((by decide : ∀ i : Fin 49, F.FLT_SRC_STAT_COUNT.key i ≠ F.FLT_SEVERE_SRC.key i) src)).trans eventCounted_count

end Sys2Proof.Proofs
end

section
/-!
PROOFS. Swaps (R412, R413): the statement that a swap taken always leaves the device in its new role fails. The last thing a swap does is
to choose the reference anew, and the loss of the reference there is a fault event, whose action may be to give control up again.
-/
namespace Sys2Proof.Proofs
open Sys2Proof.Machine

/-- A standby at the switch line of an agreed swap that follows its twin's time (candidate 7) and has no other reference; the source of
the reference selector gives control up at its first event. -/
def swapWithoutReference : State :=
  let twin := { State.reset.twin with swapActive := true, swapAgreed := true }
  [(F.TOP_DEV_MODE_MODE, 0, Mode.standby), (F.COBALT_STATUS_ROLE, 0, 2), (F.REFSEL_COND_SEL_VALID, 0, 1), (F.REFSEL_COND_SELECTED, 0, 7),
    (F.REFSEL_COND_STAGE, 0, 3), (F.REFSEL_COND_COND, 0, 3), (F.FLT_SRC_CFG_ACTION, Src.refsel, 5),
    (F.FLT_SRC_CFG_N, Src.refsel, 1)].foldl (fun s e => s.wr e.1 e.2.1 e.2.2) { State.reset with twin := twin }

theorem exec_swapExecute_swapWithoutReference : exec .swapExecute swapWithoutReference = .next swapWithoutReference.swapTake := by
  have htaken : ∀ t e : State, (if !swapWithoutReference.twin.swapAgreed ||
      !swapWithoutReference.reachedSwitch swapWithoutReference.twin.swapFrame then t else e) = e := fun _ _ => if_neg (by decide)
  exact congrArg ok (htaken _ _)

/-- It becomes ACTIVE, finds no reference, and is a standby again. -/
theorem swapTake_swapWithoutReference : swapWithoutReference.swapTake.mode = Mode.standby := by decide

/-- Refutes O51: a standby whose swap ends in HOLDOVER, with GIVEUP as the selector's action, does not become ACTIVE. -/
theorem not_swapCommands : ¬ Obligations.SwapCommands := by
  unfold Obligations.SwapCommands
  rintro ⟨-, htakes⟩
  obtain ⟨t, hexec, -, -, -, hmode, -⟩ := htakes swapWithoutReference (by decide) (by decide) (by decide)
  obtain rfl : swapWithoutReference.swapTake = t := by
    rw [exec_swapExecute_swapWithoutReference] at hexec
    injection hexec
  rw [swapTake_swapWithoutReference] at hmode
  exact absurd hmode (by decide)

end Sys2Proof.Proofs
end

section
/-!
PROOFS. Resets (R456-R462, R467, R517): what a warm and a cold reset leave, and the writes of TOP_RESET_CTRL. That a warm reset leaves the
clock and the mode rests on a frame: none of its steps but the end of a burst can raise a fault event.
-/
namespace Sys2Proof.Machine

/-- The clock and the mode. -/
def State.clockMode (s : State) : Nat × Nat := (s.clk, s.rd F.TOP_DEV_MODE_MODE 0)

end Sys2Proof.Machine

namespace Sys2Proof.Proofs
open Sys2Proof.Machine Sys2Proof.Laws

/-- An update of other fields. -/
@[simp] theorem clockMode_mk (s : State) {house ptp rasters gpis gpiq gpiSeq gpiOn gpoClock xActive
    xLock xShadow xCommits xNext xLast windows strands ports psubFrame aligner egressQ sendLines ancOut sent destHold
    destGen destLine digs probeRun engs pmem dmem smem peFaults subst twin flt pins sable adm hif freeCtr pending hostFifo txq headReinit
    addend ptpRun ref synths refouts flows flowSt flowBind opaques pauseUntil lpiSince rings headAct headStg heads layers
    ochreLog ochreSeq lut lutValid lutCrc lutOpen aud tdms keys lanes remap wear} :
    State.clockMode {
      regs := s.regs, clk := s.clk, house, ptp, rasters, gpis, gpiq, gpiSeq, gpiOn, gpoClock, xActive, xLock, xShadow, xCommits, xNext, xLast,
      windows, strands, ports, psubFrame, aligner, egressQ, sendLines, ancOut, sent, destHold, destGen, destLine, digs,
      probeRun, engs, peFaults, subst, twin, flt, pins, sable, adm, hif, freeCtr, pending, hostFifo, txq, headReinit, addend,
      ptpRun, ref, synths, refouts, flows, flowSt, flowBind, opaques, pauseUntil, lpiSince, rings, headAct, headStg, heads,
      layers, ochreLog, ochreSeq, lut, lutValid, lutCrc, lutOpen, aud, tdms, keys, lanes, remap, wear, pmem, dmem, smem } = s.clockMode := (rfl)

@[simp] theorem clockMode_ite (p : Prop) [Decidable p] (a b : State) :
    (if p then a else b).clockMode = if p then a.clockMode else b.clockMode :=
  apply_ite State.clockMode p a b

@[simp] theorem forEach_clockMode {f : Nat → State → State} (h : ∀ i t, (f i t).clockMode = t.clockMode) (l : List Nat) (s : State) :
    (forEach l f s).clockMode = s.clockMode := forEach_keeps State.clockMode l f h s

@[simp] theorem foldl_clockMode {β : Type} {f : State → β → State} (h : ∀ t e, (f t e).clockMode = t.clockMode) (l : List β) (s : State) :
    (l.foldl f s).clockMode = s.clockMode := by
  induction l generalizing s with
  | nil => rfl
  | cons a r ih => rw [List.foldl_cons, ih, h]

@[simp] theorem foldl_fst_clockMode {β γ : Type} {f : State × γ → β → State × γ} (h : ∀ t e, (f t e).1.clockMode = t.1.clockMode)
    (l : List β) (s : State × γ) : (l.foldl f s).1.clockMode = s.1.clockMode := by
  induction l generalizing s with
  | nil => rfl
  | cons a r ih => rw [List.foldl_cons, ih, h]

section
variable {s : State} {f : Fld} (hf : 128 < f.base)
include hf

/-- MODE is the first field of the register map. -/
@[simp] theorem wr_clockMode {i v} : (s.wr f i v).clockMode = s.clockMode := by
  have hmode : (s.wr f i v).rd F.TOP_DEV_MODE_MODE 0 = s.rd F.TOP_DEV_MODE_MODE 0 :=
    rd_wr_ne _ _ _ _ _ _ (Nat.ne_of_lt (hf.trans_le (base_le_key f i)))
  exact congrArg (Prod.mk s.clk) hmode

@[simp] theorem addSat_clockMode {i k} : (s.addSat f i k).clockMode = s.clockMode := wr_clockMode hf
@[simp] theorem incSat_clockMode {i} : (s.incSat f i).clockMode = s.clockMode := wr_clockMode hf
@[simp] theorem addWrap_clockMode {i k} : (s.addWrap f i k).clockMode = s.clockMode := wr_clockMode hf
end

@[simp] theorem raise_clockMode {s : State} {x} : (s.raise x).clockMode = s.clockMode := by
  unfold State.raise
  dsimp only
  split
  · exact wr_clockMode (by decide)
  · rfl

@[simp] theorem engEvent_clockMode {s : State} {n b} : (s.engEvent n b).clockMode = s.clockMode := by
  unfold State.engEvent
  split
  · rfl
  · exact wr_clockMode (by decide)

@[simp] theorem event_clockMode {s : State} {f : Fld} (hf : 128 < f.base) {i x} : (s.event f i x).clockMode = s.clockMode :=
  raise_clockMode.trans (wr_clockMode hf)

variable {s : State}
@[simp] theorem setXa_clockMode {d e} : (s.setXa d e).clockMode = s.clockMode := by simp +decide [State.setXa, ↓clockMode_mk]
@[simp] theorem setXs_clockMode {d e} : (s.setXs d e).clockMode = s.clockMode := by simp +decide [State.setXs, ↓clockMode_mk]
@[simp] theorem setEng_clockMode {n e} : (s.setEng n e).clockMode = s.clockMode := by simp +decide [State.setEng, ↓clockMode_mk]
@[simp] theorem setDesc_clockMode {i d} : (s.setDesc i d).clockMode = s.clockMode := by simp +decide [State.setDesc, ↓clockMode_mk]
@[simp] theorem setRecorder_clockMode {r x} : (s.setRecorder r x).clockMode = s.clockMode :=
    by simp +decide [State.setRecorder, ↓clockMode_mk]
@[simp] theorem draw_clockMode : (s.draw).1.clockMode = s.clockMode := by simp +decide [State.draw, ↓clockMode_mk]
@[simp] theorem clearInStep_clockMode : (s.clearInStep).clockMode = s.clockMode := by simp +decide [State.clearInStep]
@[simp] theorem ptpFlush_clockMode {q} : (s.ptpFlush q).clockMode = s.clockMode := by simp +decide [State.ptpFlush, ↓clockMode_mk]
@[simp] theorem admShow_clockMode : (s.admShow).clockMode = s.clockMode := by simp +decide [State.admShow]
@[simp] theorem returnEntry_clockMode {e} : (s.returnEntry e).clockMode = s.clockMode :=
    admShow_clockMode.trans (wr_clockMode (s := s) (f := F.ADMIT_LEDGER_VALID) (i := e) (v := 0) (by decide))
@[simp] theorem returnGrant_clockMode {cls inst} : (s.returnGrant cls inst).clockMode = s.clockMode := by
  unfold State.returnGrant
  split <;> simp +decide
@[simp] theorem hold_clockMode {d b} : (State.hold d b s).clockMode = s.clockMode := by simp +decide [State.hold, ↓clockMode_mk]
@[simp] theorem showFlags_clockMode {d j} : (State.showFlags d j s).clockMode = s.clockMode :=
    by simp +decide [State.showFlags]
@[simp] theorem showDest_clockMode {d} : (State.showDest d s).clockMode = s.clockMode := by simp +decide [State.showDest]
@[simp] theorem probeSubst_clockMode {d} : (State.probeSubst d s).clockMode = s.clockMode :=
    by simp +decide [State.probeSubst, ↓clockMode_mk]
@[simp] theorem settleDest_clockMode {d} : (State.settleDest d s).clockMode = s.clockMode :=
    by simp +decide [State.settleDest]
@[simp] theorem recEnd_clockMode {r} : (s.recEnd r).clockMode = s.clockMode := by simp +decide [State.recEnd]
@[simp] theorem recDrop_clockMode {r q} : (State.recDrop r q s).clockMode = s.clockMode := by
  unfold State.recDrop
  dsimp only
  refine recEnd_clockMode.trans ((incSat_clockMode (by decide)).trans ?_)
  split
  · exact setDesc_clockMode.trans setRecorder_clockMode
  · exact setRecorder_clockMode
@[simp] theorem recAbandon_clockMode {r} : (State.recAbandon r s).clockMode = s.clockMode := by
  unfold State.recAbandon
  split <;> simp +decide
@[simp] theorem unstage_clockMode {d} : (State.unstage d s).clockMode = s.clockMode := by simp +decide [State.unstage]
@[simp] theorem opaqueMove_clockMode {d e} : (State.opaqueMove d e s).clockMode = s.clockMode :=
    by simp +decide [State.opaqueMove, ↓clockMode_mk]
@[simp] theorem applyEnt_clockMode {d} : (State.applyEnt d s).clockMode = s.clockMode := by simp +decide [State.applyEnt]
@[simp] theorem mapCommit_clockMode {cid f} : (s.mapCommit cid f).clockMode = s.clockMode :=
    by simp +decide [State.mapCommit, ↓clockMode_mk]
@[simp] theorem discardOn_clockMode {c r} : (s.discardOn c r).clockMode = s.clockMode := by simp +decide [State.discardOn, ↓clockMode_mk]
@[simp] theorem applyOn_clockMode {c r} : (s.applyOn c r).clockMode = s.clockMode := by simp +decide [State.applyOn]
@[simp] theorem finishXpt_clockMode {cid} : (s.finishXpt cid).clockMode = s.clockMode := by
  unfold State.finishXpt
  split <;> simp +decide
@[simp] theorem xptEffect_clockMode {r} : (State.xptEffect r s).clockMode = s.clockMode := by
  unfold State.xptEffect
  split <;> simp +decide
@[simp] theorem discardCommits_clockMode : (s.discardCommits).clockMode = s.clockMode :=
    by simp +decide [State.discardCommits]
@[simp] theorem psubTo_clockMode {step} : (s.psubTo step).clockMode = s.clockMode :=
    (event_clockMode (by decide)).trans (wr_clockMode (s := s) (f := F.XPT_PSUB_JOURNAL_STEP) (i := 0) (v := step) (by decide))
@[simp] theorem psubAbandon_clockMode {reason} : (s.psubAbandon reason).clockMode = s.clockMode :=
    by simp +decide [State.psubAbandon]
@[simp] theorem loadShow_clockMode : (s.loadShow).clockMode = s.clockMode := by simp +decide [State.loadShow]
@[simp] theorem readByte_clockMode {i o} : (s.readByte i o).1.clockMode = s.clockMode := by simp +decide [State.readByte]
@[simp] theorem setHead_clockMode {h x} : (s.setHead h x).clockMode = s.clockMode := by simp +decide [State.setHead, ↓clockMode_mk]
@[simp] theorem setLayer_clockMode {h l x} : (s.setLayer h l x).clockMode = s.clockMode := by simp +decide [State.setLayer, ↓clockMode_mk]
@[simp] theorem ochreShow_clockMode : (s.ochreShow).clockMode = s.clockMode := by simp +decide [State.ochreShow]
@[simp] theorem setOchreLog_clockMode {q} : (s.setOchreLog q).clockMode = s.clockMode :=
    by simp +decide [State.setOchreLog, ↓clockMode_mk]
@[simp] theorem headCond_clockMode {h l reason detail} : (s.headCond h l reason detail).clockMode = s.clockMode :=
    by simp +decide [State.headCond, ↓clockMode_mk]
@[simp] theorem dropScalers_clockMode {h x} : (s.dropScalers h x).clockMode = s.clockMode :=
    by simp +decide [State.dropScalers]
@[simp] theorem headDiscard_clockMode {h} : (State.headDiscard h s).clockMode = s.clockMode :=
    by simp +decide [State.headDiscard]
@[simp] theorem layerOff_clockMode {h l count} : (s.layerOff h l count).clockMode = s.clockMode :=
    by simp +decide [State.layerOff]
@[simp] theorem layerShow_clockMode {h l hd q} : (s.layerShow h l hd q).clockMode = s.clockMode :=
    by simp +decide [State.layerShow]
@[simp] theorem framePidBad_clockMode {i f} : (s.framePidBad i f).1.clockMode = s.clockMode := by
  unfold State.framePidBad
  split <;> simp +decide
@[simp] theorem layerNotReady_clockMode {h l i} : (s.layerNotReady h l i).clockMode = s.clockMode := by
  unfold State.layerNotReady
  dsimp only
  split <;> simp +decide
@[simp] theorem bufferStart_clockMode {h l} : (s.bufferStart h l).clockMode = s.clockMode := by
  unfold State.bufferStart
  dsimp only
  (repeat' split) <;> simp +decide
@[simp] theorem layerStart_clockMode {h l} : (State.layerStart h l s).clockMode = s.clockMode := by
  unfold State.layerStart
  dsimp only
  (repeat' split) <;> simp +decide
@[simp] theorem headJudge_clockMode {h} : (State.headJudge h s).clockMode = s.clockMode :=
    by simp +decide [State.headJudge]
@[simp] theorem headLayers_clockMode {h ls} : (State.headLayers h ls s).clockMode = s.clockMode :=
    by simp +decide [State.headLayers]
@[simp] theorem headLatch_clockMode {h} : (State.headLatch h s).clockMode = s.clockMode :=
    by simp +decide [State.headLatch, ↓clockMode_mk]
@[simp] theorem headEffect_clockMode {h} : (State.headEffect h s).clockMode = s.clockMode :=
    by simp +decide [State.headEffect, ↓clockMode_mk]
@[simp] theorem setAa_clockMode {d e} : (s.setAa d e).clockMode = s.clockMode := by simp +decide [State.setAa, ↓clockMode_mk]
@[simp] theorem setAsh_clockMode {d e} : (s.setAsh d e).clockMode = s.clockMode := by simp +decide [State.setAsh, ↓clockMode_mk]
@[simp] theorem aFinish_clockMode {c done} : (s.aFinish c done).clockMode = s.clockMode := by simp +decide [State.aFinish, ↓clockMode_mk]
@[simp] theorem beginChange_clockMode {d c} : (s.beginChange d c).clockMode = s.clockMode :=
    by simp +decide [State.beginChange, ↓clockMode_mk]
@[simp] theorem aApply_clockMode {c d} : (State.aApply c d s).clockMode = s.clockMode := by simp +decide [State.aApply]
@[simp] theorem aDiscard_clockMode {c} : (s.aDiscard c).clockMode = s.clockMode := by simp +decide [State.aDiscard]
@[simp] theorem audioEffect_clockMode : (s.audioEffect).clockMode = s.clockMode := by
  unfold State.audioEffect
  split <;> simp +decide
@[simp] theorem setTwin_clockMode {f} : (s.setTwin f).clockMode = s.clockMode := by simp +decide [State.setTwin, ↓clockMode_mk]
@[simp] theorem tldEnd_clockMode {st} : (s.tldEnd st).clockMode = s.clockMode := by simp +decide [State.tldEnd]
@[simp] theorem hostJobsEnd_clockMode : (s.hostJobsEnd).clockMode = s.clockMode := by simp +decide [State.hostJobsEnd]
@[simp] theorem ptpFlushAll_clockMode : (s.ptpFlushAll).clockMode = s.clockMode := by simp +decide [State.ptpFlushAll]
@[simp] theorem stagedEnd_clockMode : (s.stagedEnd).clockMode = s.clockMode := by simp +decide [State.stagedEnd, ↓clockMode_mk]
@[simp] theorem enginesWarm_clockMode : (s.enginesWarm).clockMode = s.clockMode := by simp +decide [State.enginesWarm, ↓clockMode_mk]
@[simp] theorem psubWarm_clockMode : (s.psubWarm).clockMode = s.clockMode := by simp +decide [State.psubWarm]
@[simp] theorem faultsWarm_clockMode : (s.faultsWarm).clockMode = s.clockMode := by simp +decide [State.faultsWarm, ↓clockMode_mk]
@[simp] theorem takeDue_clockMode : (s.takeDue).clockMode = s.clockMode := by simp +decide [State.takeDue]

/-! ### What drops no register, and what resets no clock -/

theorem tget_filter_key {α : Type} (t : Tab α) (p : Nat × α → Bool) (k : Nat) (d : α) (h : ∀ v, p (k, v) = true) :
    tget (t.filter p) k d = tget t k d := by
  induction t with
  | nil => rfl
  | cons e r ih =>
    obtain ⟨j, v⟩ := e
    by_cases hj : j = k
    · subst hj
      rw [List.filter_cons_of_pos (h v), tget, tget, if_pos rfl, if_pos rfl]
    · by_cases hp : p (j, v) = true
      · rw [List.filter_cons_of_pos hp, tget, tget, if_neg hj, if_neg hj, ih]
      · rw [List.filter_cons_of_neg hp, tget, if_neg hj, ih]

/-- MODE is a field of the core's domain, which no reset of the host interface drops. -/
@[simp] theorem dropRegs_clockMode {hostOnly} : (s.dropRegs hostOnly).clockMode = s.clockMode := by
  have hdom : regDom (F.TOP_DEV_MODE_MODE.key 0) = .c := by decide
  unfold State.clockMode State.rd State.dropRegs
  rw [tget_filter_key _ _ _ _ fun v => by rw [hdom]; rfl]

/-! ### The clock over a fault event -/

theorem clk_ite {c : Prop} [Decidable c] {a b : State} {v : Nat} (ha : a.clk = v) (hb : b.clk = v) : (if c then a else b).clk = v := by
  split
  · exact ha
  · exact hb

theorem setMode_clk {m} : (s.setMode m).clk = s.clk := by
  unfold State.setMode
  exact clk_ite rfl (engMask_clk ..)

theorem giveUpTo_clk {reason next} : (s.giveUpTo reason next).clk = s.clk := by
  have hsend : (s.send Mt.giveup [reason]).clk = s.clk := by
    unfold State.send
    exact clk_ite rfl rfl
  have hstep : ∀ t : State, t.clearInStep.clk = t.clk := fun t => clk_ite rfl rfl
  have hrole : ∀ t : State, (t.setRole 2).clk = t.clk := fun t => clk_ite rfl (engMask_clk ..)
  unfold State.giveUpTo State.leaveActive State.event
  rw [setMode_clk, raise_clk, wr_clk, hrole, hstep]
  exact hsend

theorem enterSafe_clk : s.enterSafe.clk = s.clk := by
  unfold State.enterSafe
  refine clk_ite ((forEach_keeps State.clk _ _ (fun n t => ?_) _).trans ?_) rfl
  · exact clk_ite rfl rfl
  · exact clk_ite giveUpTo_clk setMode_clk

/-- No block is reset for the host interface's source (Table 16-1). -/
theorem faultAction_hostif_clk {po} : (s.faultAction Src.hostif po).clk = s.clk := by
  have hraise : (s.raise Irq.vermilion).clk = s.clk := raise_clk ..
  have hblock : (s.raise Irq.vermilion).blockReset Src.hostif = s.raise Irq.vermilion := rfl
  have hgive : ((s.raise Irq.vermilion).giveUp Src.hostif).clk = s.clk := clk_ite (giveUpTo_clk.trans hraise) hraise
  unfold State.faultAction
  dsimp only
  rw [hblock]
  exact clk_ite rfl (clk_ite rfl (clk_ite hraise (clk_ite hraise (clk_ite (enterSafe_clk.trans hraise) (clk_ite hgive hraise)))))

theorem faultEvent_hostif_clk {partner} : (s.faultEvent Src.hostif partner).clk = s.clk := by
  unfold State.faultEvent
  dsimp only
  refine clk_ite (faultAction_hostif_clk.trans ?_) ?_
  all_goals exact clk_ite ((raise_clk ..).trans (clk_ite rfl rfl)) (clk_ite rfl rfl)

/-- A burst that a reset ends is logged, with its fault event (R470). -/
theorem masterReset_clk {b} : (s.masterReset b).clk = s.clk := by
  cases b with
  | none => rfl
  | some x =>
    obtain ⟨m, t, wr, left, lock⟩ := x
    exact (raise_clk ..).trans faultEvent_hostif_clk

/-! ### A warm reset (R459, R460, Table 17-3) -/

section
variable (b : Burst) (s : State)

/-- What ends before the registers are dropped. -/
def warmEnded : State :=
  { s.takeDue with adm := { s.takeDue.adm with queue := [] } }.stagedEnd.enginesWarm.psubWarm.faultsWarm.ptpFlushAll.hostJobsEnd

/-- READY low, the other pins as they were, and no key message. -/
def withoutReady (p : Pins) (t : State) : State :=
  let s2 := { t with pins := { p with ready := false } }
  { s2 with keys := { s2.keys with msg := [] } }

/-- What the reset itself counts and shows. -/
def warmShown (t : State) : State :=
  ((t.clearInStep.setTwin fun t => { t with alone := true, transferring := false }).incSat F.TOP_RESET_STATUS_WARM_CNT 0).admShow

theorem warmReset_eq :
    s.warmReset b = warmShown (withoutReady s.takeDue.pins (((warmEnded s).dropRegs false).masterReset b)) := rfl

variable {b s}

theorem clk_of_clockMode {s t : State} (h : t.clockMode = s.clockMode) : t.clk = s.clk := congrArg Prod.fst h

theorem mode_of_clockMode {s t : State} (h : t.clockMode = s.clockMode) : t.mode = s.mode := congrArg Prod.snd h

theorem withoutReady_clockMode {p : Pins} {t : State} : (withoutReady p t).clockMode = t.clockMode := rfl

theorem warmShown_clockMode {t : State} : (warmShown t).clockMode = t.clockMode := by simp +decide [warmShown]

theorem warmShown_pins {t : State} : (warmShown t).pins = t.pins := by
  unfold warmShown State.admShow State.clearInStep
  dsimp only
  split <;> rfl

theorem warmEnded_clockMode : (warmEnded s).clockMode = s.clockMode := by
  simp +decide [warmEnded, ↓clockMode_mk]

theorem warmReset_clk : (s.warmReset b).clk = s.clk := by
  rw [warmReset_eq, clk_of_clockMode warmShown_clockMode, clk_of_clockMode withoutReady_clockMode, masterReset_clk,
    clk_of_clockMode dropRegs_clockMode, clk_of_clockMode warmEnded_clockMode]

theorem masterReset_none (t : State) : t.masterReset none = t := rfl

/-- A burst that the reset ends is a fault event, whose action may change the mode. -/
theorem warmReset_mode : (s.warmReset none).mode = s.mode := by
  rw [warmReset_eq, mode_of_clockMode warmShown_clockMode, mode_of_clockMode withoutReady_clockMode, masterReset_none,
    mode_of_clockMode dropRegs_clockMode, mode_of_clockMode warmEnded_clockMode]

theorem warmReset_ready : (s.warmReset b).pins.ready = false := by
  rw [warmReset_eq, warmShown_pins]
  rfl

theorem warmReset_sameMem : SameMem s (s.warmReset b) := by
  have h := warmReset_mems (s := s) (b := b)
  simpa only [State.mems, Prod.mk.injEq] using h

end

/-! ### A cold reset (R457, R458) -/

theorem coldState_mode {cause} : (s.coldState cause).mode = Mode.reset := rd_wr_same ..

theorem coldState_pending {cause} : (s.coldState cause).pending = s.pending := by
  have hkeep : ∀ (f : Fld) (n : Nat) (t : State), (forEach (List.range n) (fun i t => t.wr f i (s.rd f i)) t).pending = t.pending :=
    fun f n t => forEach_keeps State.pending _ (fun i t => t.wr f i (s.rd f i)) (fun _ _ => rfl) t
  have honly : ∀ (f : Fld) (n v : Nat) (t : State),
      (forEach (List.range n) (fun i t => if s.rd f i = v then t.wr f i v else t) t).pending = t.pending := fun f n v t =>
    forEach_keeps State.pending _ (fun i t => if s.rd f i = v then t.wr f i v else t) (fun i u => by split <;> rfl) t
  unfold State.coldState
  dsimp only
  rw [wr_pending, wr_pending, honly, honly, hkeep, hkeep, hkeep, hkeep, hkeep, hkeep]

theorem coldReset_mode {cause} : (s.coldReset cause).mode = Mode.reset := by
  unfold State.coldReset
  dsimp only
  split <;> exact coldState_mode

theorem burnLoss_pending : s.burnLoss.pending = s.pending := by
  unfold State.burnLoss
  dsimp only
  split <;> rfl

theorem giveUpTo_pending {reason next} : (s.giveUpTo reason next).pending = s.pending := by
  have hmode : ∀ t : State, (t.setMode next).pending = t.pending := fun t => by
    unfold State.setMode
    dsimp only
    split
    · rfl
    · exact engMask_pending ..
  have hrole : ∀ t : State, (t.setRole 2).pending = t.pending := fun t => by
    unfold State.setRole
    split
    · rfl
    · exact engMask_pending ..
  have hstep : ∀ t : State, t.clearInStep.pending = t.pending := fun t => by
    unfold State.clearInStep
    split <;> rfl
  have hsend : (s.send Mt.giveup [reason]).pending = s.pending := by
    unfold State.send
    split <;> rfl
  unfold State.giveUpTo State.leaveActive State.event
  rw [hmode, raise_pending, wr_pending, hrole, hstep]
  exact hsend

theorem setTwin_pending {f} : (s.setTwin f).pending = s.pending := rfl

theorem draw_pending : s.draw.1.pending = s.pending := rfl

theorem coldReset_pending {cause} : (s.coldReset cause).pending = s.pending := by
  unfold State.coldReset
  dsimp only
  split
  · rw [coldState_pending, setTwin_pending, giveUpTo_pending, draw_pending, burnLoss_pending]
  · rw [coldState_pending, burnLoss_pending]

/-! ### The commands (R457, R460-R462) -/

section
variable (b : Burst) (ws : List Nat) (w : Word) (s : State)

theorem exec_warmReset : exec (.warmReset w b ws) s =
    ok (s.hostWrite 0x20 (Nat.lor w.toNat 1) fun s => (s.tldMove ws).resetCtrl 1 b (Nat.lor w.toNat 1)) := rfl

theorem exec_coldResetCmd : exec (.coldResetCmd w) s =
    ok (s.hostWrite 0x20 (Nat.lor w.toNat 2) (State.resetCtrl 1 none (Nat.lor w.toNat 2))) := rfl

theorem exec_blockResetCmd : exec (.blockResetCmd w) s =
    ok (s.hostWrite 0x20 (Nat.lor w.toNat 4) (State.resetCtrl 1 none (Nat.lor w.toNat 4))) := rfl

theorem exec_warmResetComplete : exec .warmResetComplete s =
    ok (if (!s.pins.ready && decide (Mode.standalone ≤ s.mode)) = true then
      if s.mode = Mode.active ∧ Ps.transfer ≤ s.pair ∧ s.pair ≤ Ps.inStep then
        ({ s with pins := { s.pins with ready := true } } : State).startTransfer else { s with pins := { s.pins with ready := true } }
      else s) := rfl

end

section
variable {cause v : Nat} {b : Burst} {s : State}

/-- BLOCK_SRC as a write of TOP_RESET_CTRL leaves it. -/
def blockSrc (v : Nat) (s : State) : State := s.writeField F.TOP_RESET_CTRL_BLOCK_SRC 0 (bits v 8 6)

theorem resetCtrl_cold (h : bit v 1 = true) : s.resetCtrl cause b v = (blockSrc v s).coldCtrl cause := if_pos h

theorem resetCtrl_plain (h : ¬ bit v 1 = true) : s.resetCtrl cause b v =
    if bit v 0 then (if bit v 2 then (blockSrc v s).blockCtrl else blockSrc v s).warmCtrl b
    else if bit v 2 then (blockSrc v s).blockCtrl else blockSrc v s := if_neg h

theorem warmResetComplete_high (h : ¬ (s.pins.ready = false ∧ Mode.standalone ≤ s.mode)) : exec .warmResetComplete s = .next s := by
  rw [exec_warmResetComplete, if_neg (by simpa using h)]
  rfl

theorem warmResetComplete_low (h : s.pins.ready = false ∧ Mode.standalone ≤ s.mode) : exec .warmResetComplete s =
    ok (if s.mode = Mode.active ∧ Ps.transfer ≤ s.pair ∧ s.pair ≤ Ps.inStep then
      ({ s with pins := { s.pins with ready := true } } : State).startTransfer else { s with pins := { s.pins with ready := true } }) := by
  rw [exec_warmResetComplete, if_pos (by simpa using h)]

end

/-- Settles O59: a write by its COLD, BLOCK and WARM bits; what a warm reset leaves by the frame of each of its steps. -/
theorem resetCommands : Obligations.ResetCommands := by
  unfold Obligations.ResetCommands
  refine ⟨fun b ws w s => ?_, fun b s => ?_⟩
  · dsimp only
    refine ⟨rfl, rfl, ?warmCold, ?warm, ?transfer, ?returns, warmResetComplete_high, ?cold, ?blockCold, ?block, rfl, rfl, rfl⟩
    case warmCold =>
      exact fun hcold => puts_of_eq (exec_warmReset b ws w s) (resetCtrl_cold (by rw [bit_lor, hcold]; rfl))
    case warm =>
      refine fun hcold => puts_of_eq (exec_warmReset b ws w s) ?_
      rw [resetCtrl_plain (by rwa [bit_lor_clear (by decide)]), if_pos (bit_lor_one _), bit_lor_clear (by decide)]
      rfl
    case transfer => exact fun hlow hpairs => (warmResetComplete_low hlow).trans (ok_ite_pos hpairs)
    case returns => exact fun hlow hpairs => (warmResetComplete_low hlow).trans (ok_ite_neg hpairs)
    case cold => exact puts_of_eq (exec_coldResetCmd w s) (resetCtrl_cold (bit_lor_set (by decide) _))
    case blockCold =>
      exact fun hcold => puts_of_eq (exec_blockResetCmd w s) (resetCtrl_cold (by rw [bit_lor, hcold]; rfl))
    case block =>
      refine fun hcold => puts_of_eq (exec_blockResetCmd w s) ?_
      rw [resetCtrl_plain (by rwa [bit_lor_clear (by decide)]), bit_lor_clear (i := 0) (by decide), bit_lor_set (i := 2) (by decide)]
      rfl
  · obtain ⟨hp, hd, hs⟩ : (s.coldReset 0).pmem = [] ∧ (s.coldReset 0).dmem = [] ∧ (s.coldReset 0).smem = [] := by
      simpa only [State.mems, Prod.mk.injEq] using coldReset_mems (s := s) (cause := 0)
    exact ⟨warmReset_ready, warmReset_clk, warmReset_sameMem, fun hb => hb ▸ warmReset_mode, hp, hd, hs, coldReset_mode, coldReset_pending⟩

end Sys2Proof.Proofs
end

section
/-!
PROOFS. The house loop, holdover, LOCOSC and the synthesiser domains (R68-R89): one lemma per case of each command; what a failed local
oscillator shows, which neither the events it raises nor the action of its fault event take back.
-/
namespace Sys2Proof.Proofs
open Sys2Proof.Machine Sys2Proof.Laws

/-! ### The loop (R68, R70, R71) -/

section
variable (s : State)

theorem exec_loopStageAdvance : exec .loopStageAdvance s = execLoopStageAdvance s := rfl

theorem judgeStage_clk : s.judgeStage.clk = s.clk := by
  unfold State.judgeStage
  split <;> rfl

/-- The phase error, as judged now, has stayed below THRESH for DWELL, since `t`. -/
abbrev StageDue (t : Nat) (s : State) : Prop := s.judgeStage.sel ≠ none ∧ s.judgeStage.ref.below = some t ∧
  s.judgeStage.rd F.REFSEL_COND_STAGE 0 < 3 ∧
  t + s.judgeStage.rd F.REFSEL_NARROW_DWELL (s.judgeStage.rd F.REFSEL_COND_STAGE 0) * sClk ≤ s.clk

/-- The next stage taken, its phase error judged. -/
def stageTaken (j : State) : State :=
  ((j.wr F.REFSEL_COND_STAGE 0 (j.nextStage (j.rd F.REFSEL_COND_STAGE 0))).setRef fun r => { r with below := none }).judgeStage

/-- The first arrival at the final stage. -/
abbrev FirstFinal (j : State) : Prop := j.nextStage (j.rd F.REFSEL_COND_STAGE 0) = 3 ∧ j.on F.REFSEL_COND_ESTABLISHED 0 = false

variable {s}

theorem loopStageAdvance_due {t : Nat} (h : StageDue t s) : exec .loopStageAdvance s =
    ok (if s.judgeStage.nextStage (s.judgeStage.rd F.REFSEL_COND_STAGE 0) = 3 ∧ ¬ s.judgeStage.on F.REFSEL_COND_ESTABLISHED 0 then
      forEach (List.range 8) (fun n s => s.lockRaster n) (((stageTaken s.judgeStage).wr F.REFSEL_COND_ESTABLISHED 0 1).refShow)
      else (stageTaken s.judgeStage).refShow) := by
  obtain ⟨hsel, hbelow, hdue⟩ := h
  obtain ⟨c, hc⟩ := Option.ne_none_iff_exists'.mp hsel
  rw [exec_loopStageAdvance, execLoopStageAdvance, hc, hbelow]
  exact congrArg ok (if_pos (by rwa [judgeStage_clk]))

theorem loopStageAdvance_first {t : Nat} (h : StageDue t s) (hfirst : FirstFinal s.judgeStage) : exec .loopStageAdvance s =
    .next (forEach (List.range 8) (fun n s => s.lockRaster n) (((stageTaken s.judgeStage).wr F.REFSEL_COND_ESTABLISHED 0 1).refShow)) :=
  (loopStageAdvance_due h).trans (ok_ite_pos (by simpa [FirstFinal] using hfirst))

theorem loopStageAdvance_next {t : Nat} (h : StageDue t s) (hfirst : ¬ FirstFinal s.judgeStage) :
    exec .loopStageAdvance s = .next (stageTaken s.judgeStage).refShow :=
  (loopStageAdvance_due h).trans (ok_ite_neg (by simpa [FirstFinal] using hfirst))

theorem loopStageAdvance_early (h : ∀ u, ¬ StageDue u s) : exec .loopStageAdvance s = .next s.judgeStage := by
  rw [exec_loopStageAdvance, execLoopStageAdvance]
  cases hc : s.judgeStage.sel with
  | none => rfl
  | some c =>
    cases hbelow : s.judgeStage.ref.below with
    | none => rfl
    | some t => exact ok_ite_neg fun hdue => h t ⟨by simp [hc], hbelow, by rwa [judgeStage_clk] at hdue⟩

theorem exec_pullNow (w : Word) : exec (.pullNow w) s =
    ok (s.hostWrite 0x20000 (Nat.lor w.toNat 65536) (State.refCtrl (Nat.lor w.toNat 65536))) := rfl

theorem refCtrl_pull {v : Nat} (hv : bit v 16 = true) (h : s.buildout ≠ 0) : s.refCtrl v =
    ((s.writeWord 0x20000 v).slewTo (s.buildout * 5) (s.writeWord 0x20000 v).ctlBase true).reselect := by
  unfold State.refCtrl
  dsimp only
  rw [if_pos (by simp [hv, h])]

theorem refCtrl_zero {v : Nat} (h : s.buildout = 0) : s.refCtrl v = (s.writeWord 0x20000 v).reselect := by
  unfold State.refCtrl
  dsimp only
  rw [if_neg (by simp [h])]

theorem exec_slewComplete : exec .slewComplete s = ok (if (s.ref.slew.isSome && s.slewOver) = true then
    ((s.setBuildout 0).ctlMove none s.ctlBase s.ref.ctlTo s.ref.ctlRate).refShow else s) := rfl

/-! ### Holdover and LOCOSC (R76, R80, R409) -/

/-- The reference's condition shown with the local oscillator failed. -/
def oscillatorLost (s : State) : State := { s with ref := { s.ref with locoscFailed := true } }.refShow

theorem exec_locoscFail : exec .locoscFail s = ok (((oscillatorLost s).faultEvent Src.synth false).giveUp 0xFE) := rfl

end

/-! ### What a failed oscillator shows (R69, R73, R74) -/

section
variable (s : State)

/-- A synthesiser or reference source resets no block. -/
theorem blockReset_refsel (t : State) : t.blockReset Src.refsel = t := rfl

/-- The condition as shown, before what its change tells. -/
def condShown (s : State) : State :=
  (((s.wr F.REFSEL_COND_COND 0 s.refCond).wr F.REFSEL_COND_REFGOOD 0 (b2n (decide (3 ≤ s.refCond ∧ s.refCond ≤ 5)))).wr
    F.REFSEL_COMPAT_STATE 0 (fiveState s.refCond)).rastersFollow

/-- And when LOCKED was reached. -/
def condTimed (s : State) : State := (condShown s).setRef fun r => { r with
  lockedSince := if s.refCond = 3 then (if s.rd F.REFSEL_COND_COND 0 = 3 then r.lockedSince else some s.clk) else none }

/-- What a change of the condition tells the history and the engines, and the event of LOST. -/
def condTold (s : State) : State :=
  let s3 := ((condTimed s).freeze s.refCond).engMask 31 13
  if s.refCond = 7 then s3.event F.REFSEL_EVENT_LOST 0 Irq.refsel else s3

theorem refShow_eq : s.refShow = if s.refCond = s.rd F.REFSEL_COND_COND 0 then condTimed s
    else if (s.inService && (s.refCond = 0 || s.refCond = 6 || s.refCond = 7)) = true then (condTold s).faultEvent Src.refsel false
    else condTold s := rfl

variable {s}

theorem setRef_rd {f : Refsel → Refsel} {g : Fld} {j : Nat} : (s.setRef f).rd g j = s.rd g j := rfl

theorem freeze_rd {g : Fld} {j : Nat} (h : g.key j ≠ F.REFSEL_COND_FROZEN.key 0) (c : Nat) : (s.freeze c).rd g j = s.rd g j := by
  unfold State.freeze
  refine rd_ite (rd_ite rfl ?_) (rd_ite ?_ rfl)
  · exact setRef_rd.trans (rd_wr_ne s _ _ _ _ _ h)
  · exact setRef_rd.trans (rd_wr_ne s _ _ _ _ _ h)

/-- What the change of a condition tells leaves the condition as it is shown. -/
theorem refShow_rd {g : Fld} {j : Nat} (hg : ¬ FaultKey (g.key j)) (hfrozen : g.key j ≠ F.REFSEL_COND_FROZEN.key 0)
    (hlost : g.key j ≠ F.REFSEL_EVENT_LOST.key 0) : s.refShow.rd g j = (condShown s).rd g j := by
  have htold : (condTold s).rd g j = (condTimed s).rd g j := by
    have hmask : (((condTimed s).freeze s.refCond).engMask 31 13).rd g j = (condTimed s).rd g j :=
      (offFault_rd_engMask hg ..).trans (freeze_rd hfrozen _)
    unfold condTold
    exact rd_ite ((offFault_rd_raise hg ..).trans ((rd_wr_ne _ _ _ _ _ _ hlost).trans hmask)) hmask
  have hshown : (condTimed s).rd g j = (condShown s).rd g j := setRef_rd
  rw [refShow_eq, ← hshown]
  exact rd_ite rfl (rd_ite ((offFault_rd_faultEvent hg blockReset_refsel ..).trans htold) htold)

/-! ### The rasters follow the reference (R74) -/

/-- A raster that has locked shows REFGOOD. -/
def rasterFollows (n : Nat) (s : State) : State :=
  if s.on F.SLATE_RASTER_STATUS_EVER_LOCKED n then s.wr F.SLATE_RASTER_STATUS_LOCKED n (s.rd F.REFSEL_COND_REFGOOD 0) else s

theorem rastersFollow_eq : s.rastersFollow = forEach (List.range 8) rasterFollows s := rfl

theorem lockedKey (n : Nat) : F.SLATE_RASTER_STATUS_LOCKED.key n = 528577 + 512 * n := by
  simp [Fld.key, F.SLATE_RASTER_STATUS_LOCKED, Nat.mod_one, Nat.mul_comm]

theorem everLockedKey (n : Nat) : F.SLATE_RASTER_STATUS_EVER_LOCKED.key n = 528578 + 512 * n := by
  simp [Fld.key, F.SLATE_RASTER_STATUS_EVER_LOCKED, Nat.mod_one, Nat.mul_comm]

theorem rasterFollows_rd {g : Fld} {j : Nat} (h : ∀ n, g.key j ≠ 528577 + 512 * n) (n : Nat) (s : State) :
    (rasterFollows n s).rd g j = s.rd g j :=
  rd_ite (rd_wr_ne _ _ _ _ _ _ (by rw [lockedKey]; exact h n)) rfl

theorem rastersFollow_rd {g : Fld} {j : Nat} (h : ∀ n, g.key j ≠ 528577 + 512 * n) : s.rastersFollow.rd g j = s.rd g j :=
  forEach_keeps (fun t => State.rd t g j) _ rasterFollows (rasterFollows_rd h) s

theorem refgood_apart (n : Nat) : F.REFSEL_COND_REFGOOD.key 0 ≠ 528577 + 512 * n := by
  rw [key_zero, show F.REFSEL_COND_REFGOOD.base = 1048611 from rfl]
  omega

theorem everLocked_apart (m n : Nat) : F.SLATE_RASTER_STATUS_EVER_LOCKED.key m ≠ 528577 + 512 * n := by
  rw [everLockedKey]
  omega

/-- While REFGOOD is 0, a raster that has locked loses LOCKED at its turn, and none sets it again. -/
theorem forEach_rasterFollows {n : Nat} (l : List Nat) (s : State) (hgood : s.rd F.REFSEL_COND_REFGOOD 0 = 0)
    (hever : s.on F.SLATE_RASTER_STATUS_EVER_LOCKED n = true) (h : n ∈ l ∨ s.rd F.SLATE_RASTER_STATUS_LOCKED n = 0) :
    (forEach l rasterFollows s).rd F.SLATE_RASTER_STATUS_LOCKED n = 0 := by
  induction l generalizing s with
  | nil => exact h.resolve_left List.not_mem_nil
  | cons a r ih =>
    refine ih (rasterFollows a s) ((rasterFollows_rd refgood_apart a s).trans hgood) ?ever ?turn
    case ever =>
      unfold State.on at hever ⊢
      rwa [rasterFollows_rd (everLocked_apart n) a s]
    case turn =>
      by_cases hna : n = a
      · subst hna
        rw [rasterFollows, if_pos hever, rd_wr_same, hgood]
        exact .inr rfl
      · refine h.imp (fun h => (List.mem_cons.mp h).resolve_left hna) fun h => (rd_ite (rd_wr_ne _ _ _ _ _ _ ?_) rfl).trans h
        rw [lockedKey, lockedKey]
        omega

/-! ### LOST (R69, R73) -/

theorem refCond_lost (h : s.ref.locoscFailed = true) : s.refCond = 7 := if_pos (by simp [h])

section
variable (h : s.ref.locoscFailed = true)
include h

theorem condShown_lost : condShown s = (((s.wr F.REFSEL_COND_COND 0 7).wr F.REFSEL_COND_REFGOOD 0 0).wr F.REFSEL_COMPAT_STATE 0
    4).rastersFollow := by
  rw [condShown, refCond_lost h]
  rfl

theorem lost_shown {g : Fld} {j : Nat} (hg : ¬ FaultKey (g.key j)) (hfrozen : g.key j ≠ F.REFSEL_COND_FROZEN.key 0)
    (hlost : g.key j ≠ F.REFSEL_EVENT_LOST.key 0) (hlocked : ∀ n, g.key j ≠ 528577 + 512 * n) : s.refShow.rd g j =
      (((s.wr F.REFSEL_COND_COND 0 7).wr F.REFSEL_COND_REFGOOD 0 0).wr F.REFSEL_COMPAT_STATE 0 4).rd g j := by
  rw [refShow_rd hg hfrozen hlost, condShown_lost h, rastersFollow_rd hlocked]

theorem lost_cond : s.refShow.rd F.REFSEL_COND_COND 0 = 7 := by
  have hlocked : ∀ n, F.REFSEL_COND_COND.key 0 ≠ 528577 + 512 * n := fun n => by
    rw [key_zero, show F.REFSEL_COND_COND.base = 1048608 from rfl]
    omega
  rw [lost_shown h (by decide) (by decide) (by decide) hlocked, rd_wr_ne _ _ _ _ _ _ (by decide), rd_wr_ne _ _ _ _ _ _ (by decide),
    rd_wr_same]
  rfl

theorem lost_refgood : s.refShow.rd F.REFSEL_COND_REFGOOD 0 = 0 := by
  rw [lost_shown h (by decide) (by decide) (by decide) refgood_apart, rd_wr_ne _ _ _ _ _ _ (by decide), rd_wr_same]
  rfl

theorem lost_fiveState : s.refShow.rd F.REFSEL_COMPAT_STATE 0 = 4 := by
  have hlocked : ∀ n, F.REFSEL_COMPAT_STATE.key 0 ≠ 528577 + 512 * n := fun n => by
    rw [key_zero, show F.REFSEL_COMPAT_STATE.base = 1048640 from rfl]
    omega
  rw [lost_shown h (by decide) (by decide) (by decide) hlocked, rd_wr_same]
  rfl

theorem lost_locked {n : Nat} (hn : n < 8) (hever : s.on F.SLATE_RASTER_STATUS_EVER_LOCKED n = true) :
    s.refShow.on F.SLATE_RASTER_STATUS_LOCKED n = false := by
  have hkey : ∀ n : Fin 8, ¬ FaultKey (F.SLATE_RASTER_STATUS_LOCKED.key n) ∧ F.SLATE_RASTER_STATUS_LOCKED.key n ≠ F.REFSEL_COND_FROZEN.key 0 ∧
      F.SLATE_RASTER_STATUS_LOCKED.key n ≠ F.REFSEL_EVENT_LOST.key 0 := by decide
  have heverKey : ∀ n : Fin 8, F.SLATE_RASTER_STATUS_EVER_LOCKED.key n ≠ F.REFSEL_COND_COND.key 0 ∧
      F.SLATE_RASTER_STATUS_EVER_LOCKED.key n ≠ F.REFSEL_COND_REFGOOD.key 0 ∧
      F.SLATE_RASTER_STATUS_EVER_LOCKED.key n ≠ F.REFSEL_COMPAT_STATE.key 0 := by decide
  obtain ⟨hoff, hfrozen, hlost⟩ := hkey ⟨n, hn⟩
  obtain ⟨hcond, hgood, hfive⟩ := heverKey ⟨n, hn⟩
  have hrd : s.refShow.rd F.SLATE_RASTER_STATUS_LOCKED n = 0 := by
    rw [refShow_rd hoff hfrozen hlost, condShown_lost h, rastersFollow_eq]
    refine forEach_rasterFollows _ _ ?_ ?_ (.inl (List.mem_range.mpr hn))
    · rw [rd_wr_ne _ _ _ _ _ _ (by decide), rd_wr_same]
      rfl
    · unfold State.on at hever ⊢
      rwa [rd_wr_ne _ _ _ _ _ _ hfive, rd_wr_ne _ _ _ _ _ _ hgood, rd_wr_ne _ _ _ _ _ _ hcond]
  simp [State.on, hrd]

end
end

/-! ### The synthesiser domains (R82, R85-R89) -/

section
variable (y : Fin 16) (gates : List Nat) (fast w : Word) (s : State)

/-- The gates of the domain, judged one after another. -/
def gatesJudged : State := forEach gates (fun e s => s.synGate y (sx 32 e)) s

theorem exec_synthLock : exec (.synthLock (y, gates)) s =
    ok (if s.on F.SYNTH_STATUS_RETIRED y = true then s
      else if (s.on F.SYNTH_STATUS_LOCKED y || decide (((gatesJudged y gates s).syn y).near < 8)) = true then gatesJudged y gates s
      else ((gatesJudged y gates s).synLock y).clocksDone) := rfl

/-- Two gates in a row off by more than 20 ppm, or a fast gate off by more than 0.2 %. -/
def GatesOff : Prop := 2 ≤ ((gatesJudged y gates s).syn y).far ∨ 200000 < (sx 32 fast.toNat).natAbs

theorem exec_synthLockLoss : exec (.synthLockLoss (y, gates, fast)) s =
    ok (if (!s.on F.SYNTH_STATUS_LOCKED y) = true then s
      else if 2 ≤ ((gatesJudged y gates s).syn y).far ∨ 200000 < (sx 32 fast.toNat).natAbs then
        ((gatesJudged y gates s).setSyn y { (gatesJudged y gates s).syn y with near := 0, far := 0 }).synLoss y
      else gatesJudged y gates s) := rfl

variable {y gates fast w s}

theorem synthLockLoss_off (hl : s.on F.SYNTH_STATUS_LOCKED y = true) (h : GatesOff y gates fast s) :
    exec (.synthLockLoss (y, gates, fast)) s =
      .next (((gatesJudged y gates s).setSyn y { (gatesJudged y gates s).syn y with near := 0, far := 0 }).synLoss y) := by
  rw [exec_synthLockLoss, if_neg (by simp [hl])]
  exact ok_ite_pos h

theorem synthLockLoss_counted (hl : s.on F.SYNTH_STATUS_LOCKED y = true) (h : ¬ GatesOff y gates fast s) :
    exec (.synthLockLoss (y, gates, fast)) s = .next (gatesJudged y gates s) := by
  rw [exec_synthLockLoss, if_neg (by simp [hl])]
  exact ok_ite_neg h

/-- The first loss of a synthesiser counts, the second retires it. -/
theorem synLoss_first {z : State} {n : Nat} (h : z.rd F.SYNTH_STATUS_FAIL_CNT n = 0) : z.synLoss n =
    ((((z.wr F.SYNTH_STATUS_LOCKED n 0).synMove n).wr F.SYNTH_STATUS_FAIL_CNT n 1).synShow).faultEvent Src.synth false := by
  unfold State.synLoss
  rw [h]
  rfl

theorem synLoss_second {z : State} {n : Nat} (h : 1 ≤ z.rd F.SYNTH_STATUS_FAIL_CNT n) : z.synLoss n =
    (((((z.wr F.SYNTH_STATUS_LOCKED n 0).synMove n).wr F.SYNTH_STATUS_FAIL_CNT n 2).wr F.SYNTH_STATUS_RETIRED n 1).synShow).faultEvent
      Src.synth false := by
  unfold State.synLoss
  rw [show Nat.min 2 (z.rd F.SYNTH_STATUS_FAIL_CNT n + 1) = 2 from Nat.min_eq_left (by omega)]
  rfl

theorem exec_ditherSeedLoad : exec (.ditherSeedLoad y w) s =
    ok (s.hostWrite (0x30000 + 0x20 * y.val) (Nat.lor w.toNat 2) (State.synCtrl y.val (Nat.lor w.toNat 2))) := rfl

theorem synCtrl_seed {n v : Nat} (h : bit v 1 = true) : s.synCtrl n v =
    (s.writeWord (0x30000 + 0x20 * n) v).setSyn n { ((s.writeWord (0x30000 + 0x20 * n) v).syn n) with
      dither := (s.writeWord (0x30000 + 0x20 * n) v).rd F.SYNTH_CTRL_DITHER_SEED n } := if_pos h

theorem exec_refoutCfgWrite (i : Fin 4) (k : Fin 3) : exec (.refoutCfgWrite i k w) s =
    ok (s.hostWrite (0x30800 + 0x10 * i.val + 4 * k.val) w.toNat (State.refoutWrite i.val (0x30800 + 0x10 * i.val + 4 * k.val) w.toNat)) :=
  rfl

end

/-- Settles O22: the loop's commands, what a failed oscillator shows, and the synthesisers' commands, each by the cases of its condition. -/
theorem loopAndSynthesiserCommands : Obligations.LoopAndSynthesiserCommands := by
  unfold Obligations.LoopAndSynthesiserCommands
  refine ⟨fun t w s => ?loop, fun s => ?lost, fun y i k gates fast w s => ?synth⟩
  case loop =>
    refine ⟨loopStageAdvance_next, loopStageAdvance_first, loopStageAdvance_early, ?pull, ?pullZero, ?slew, ?slewOn, ?second, ?early,
      ?limit, ?noLimit, ?fails, ?gives⟩
    case pull => exact fun h => puts_of_eq (exec_pullNow w) (refCtrl_pull (bit_lor_set (by decide) _) h)
    case pullZero => exact fun h => puts_of_eq (exec_pullNow w) (refCtrl_zero h)
    case slew => exact fun h h' => ok_ite_pos (by rw [h, h']; rfl)
    case slewOn => exact fun h => ok_ite_neg (by rw [h]; decide)
    case second => exact fun h => ok_ite_pos h
    case early => exact fun h => ok_ite_neg h
    case limit => exact fun h => ok_ite_pos h
    case noLimit => exact fun h => ok_ite_neg h
    case fails => exact fun h => exec_locoscFail.trans (ok_ite_neg h)
    case gives => exact fun h => exec_locoscFail.trans (ok_ite_pos h)
  case lost =>
    refine ⟨lost_cond rfl, lost_refgood rfl, lost_fiveState rfl, fun n hn hever => lost_locked rfl hn hever, ?_⟩
    simpa only [State.mems, Prod.mk.injEq] using refShow_mems (s := { s with ref := { s.ref with locoscFailed := true } })
  case synth =>
    refine ⟨?retired, ?judged, ?locks, ?unlocked, synthLockLoss_counted, ?first, ?second, ?seed, ?cfg, ?apply, ?waits⟩
    case retired => exact fun h => ok_ite_pos h
    case judged =>
      intro hr h
      rw [exec_synthLock, if_neg hr]
      exact ok_ite_pos (by rw [Bool.or_eq_true, decide_eq_true_eq]; exact h)
    case locks =>
      intro hr hl hn
      rw [exec_synthLock, if_neg hr]
      exact ok_ite_neg (by rw [hl, Bool.false_or, decide_eq_true_eq, not_lt]; exact hn)
    case unlocked => exact fun h => ok_ite_pos (by simp [h])
    case first => exact fun hl ho hn => (synthLockLoss_off hl ho).trans (congrArg _ (synLoss_first hn))
    case second => exact fun hl ho hn => (synthLockLoss_off hl ho).trans (congrArg _ (synLoss_second hn))
    case seed => exact puts_of_eq exec_ditherSeedLoad (synCtrl_seed (bit_lor_set (by decide) _))
    case cfg => exact puts_of_eq (exec_refoutCfgWrite i k) rfl
    case apply => exact fun h => ok_ite_pos (by simpa [and_assoc] using h)
    case waits => exact fun h => ok_ite_neg (by simpa [and_assoc] using h)

end Sys2Proof.Proofs
end

section
/-!
PROOFS. The audio crosspoint (R204, R292-R304, R307): staged words, host commits, their effect, the boundaries, and the ends of changes.
-/
namespace Sys2Proof.Proofs
open Sys2Proof.Machine Sys2Proof.Laws

/-! ### Staged words (R298) -/

theorem winWrites_of_eq {c : Instr} {mir : Bool} {off : Nat} {w : Word} {s t : State} {f : State → State}
    (h : exec c s = ok (s.hostWriteWin mir 2 off w.toNat f)) (ht : f s = t) : WinWrites c mir off w s t :=
  ht ▸ winWrites_of f h

theorem exec_shadowAudioWrite (d : Fin 65536) (x : Fin 4) (w : Word) (s : State) : exec (.shadowAudioWrite d x w) s =
    ok (s.hostWriteWin true 2 (0x200000 + 16 * d.val + 4 * x.val) w.toNat (State.aShadowWrite d.val x.val w.toNat)) := rfl

section
variable {d x v : Nat} {s : State}

/-- A commit holds the entry, or another master has staged it. -/
abbrev EntryHeld (d : Nat) (s : State) : Prop := (s.ash d).pending = true ∨ ((s.ash d).staged = true ∧ (s.ash d).stager ≠ 7)

theorem aShadowWrite_upper (h : 1 < x) : s.aShadowWrite d x v = s := if_pos h

theorem aShadowWrite_refused (h : x ≤ 1) (hheld : EntryHeld d s) :
    s.aShadowWrite d x v = s.event F.AUDIO_EVENT_STAGE_REFUSED 0 Irq.audio :=
  (if_neg (not_lt.mpr h)).trans (if_pos hheld.symm)

theorem aShadowWrite_staged (h : x ≤ 1) (hheld : ¬ EntryHeld d s) : s.aShadowWrite d x v =
    s.aStageEnt 7 d (if x = 0 then { s.aShown d with src := v % 65536, routed := bit v 16 }
      else { s.aShown d with attr := attrWrite v (s.aShown d).attr }) :=
  (if_neg (not_lt.mpr h)).trans (if_neg fun hc => hheld hc.symm)

theorem aShadowWrite_source (h : x = 0) (hheld : ¬ EntryHeld d s) :
    s.aShadowWrite d x v = s.aStageEnt 7 d { s.aShown d with src := v % 65536, routed := bit v 16 } := by
  rw [aShadowWrite_staged (by omega) hheld, if_pos h]

theorem aShadowWrite_attr (h : x = 1) (hheld : ¬ EntryHeld d s) :
    s.aShadowWrite d x v = s.aStageEnt 7 d { s.aShown d with attr := attrWrite v (s.aShown d).attr } := by
  rw [aShadowWrite_staged (by omega) hheld, if_neg (by omega)]

end

/-! ### A host commit (R300) -/

section
variable (w : Word) (s : State)

theorem exec_audioCommitGo : exec (.audioCommitGo w) s =
    ok (s.hostWrite 0xC0010 (Nat.lor w.toNat 1) (State.audioCtrl (Nat.lor w.toNat 1))) := rfl

theorem exec_audioCommitDiscard : exec (.audioCommitDiscard w) s =
    ok (s.hostWrite 0xC0010 (Nat.lor w.toNat 2) (State.audioCtrl (Nat.lor w.toNat 2))) := rfl

/-- The fields of a write of AUDIO_COMMIT_CTRL. -/
def audioFields (v : Nat) (s : State) : State :=
  ((s.wr F.AUDIO_COMMIT_CTRL_WITH 0 (bits v 2 1)).wr F.AUDIO_COMMIT_CTRL_RASTER 0 (bits v 4 3)).wr F.AUDIO_COMMIT_CTRL_STYLE 0 (bits v 7 1)

variable {s}

/-- GO, then DISCARD of what GO did not capture. -/
theorem audioCtrl_eq (v : Nat) : s.audioCtrl v =
    if bit v 1 then (if bit v 0 then (audioFields v s).hostAudioCommit else audioFields v s).unstageAudio 7
    else if bit v 0 then (audioFields v s).hostAudioCommit else audioFields v s := rfl

end

section
variable (s : State)

/-- Where a host commit is to take effect. -/
def hostTarget : Pos :=
  s.commitTarget (s.rd F.AUDIO_COMMIT_CTRL_RASTER 0) (s.on F.AUDIO_COMMIT_CTRL_STYLE 0)
    (s.rd64 F.AUDIO_COMMIT_TGT_FRAME_LO F.AUDIO_COMMIT_TGT_FRAME_HI 0) (s.rd F.AUDIO_COMMIT_TGT_LINE 0) (s.rd F.AUDIO_COMMIT_TGT_SAMPLE 0)

/-- The code of a host commit: 0 where it is accepted. -/
def hostCode : Nat :=
  s.aCommitCode 7 (s.rd F.AUDIO_COMMIT_CTRL_RASTER 0) (hostTarget s) (s.on F.AUDIO_COMMIT_CTRL_WITH 0)

/-- An accepted commit: what it captured, its number and its position. -/
def hostAccepted : State × Nat × Pos :=
  s.acceptAud 7 (s.rd F.AUDIO_COMMIT_CTRL_RASTER 0) (hostTarget s) (s.on F.AUDIO_COMMIT_CTRL_WITH 0)

variable {s}

theorem hostAudioCommit_accepted (h : hostCode s = 0) : s.hostAudioCommit =
    ((((((((hostAccepted s).1.wr F.AUDIO_COMMIT_STATUS_COMMIT_ID 0 (hostAccepted s).2.1).wr F.AUDIO_COMMIT_STATUS_STATE 0 1).wr
      F.AUDIO_COMMIT_STATUS_RASTER 0 (s.rd F.AUDIO_COMMIT_CTRL_RASTER 0)).wr F.AUDIO_COMMIT_STATUS_RESULT 0 0).wr64
      F.AUDIO_COMMIT_STATUS_FRAME_LO F.AUDIO_COMMIT_STATUS_FRAME_HI 0 (hostAccepted s).2.2.frame).wr
      F.AUDIO_COMMIT_STATUS_LINE 0 (hostAccepted s).2.2.line).wr F.AUDIO_COMMIT_STATUS_SAMPLE 0 (hostAccepted s).2.2.sample) := if_pos h

theorem hostAudioCommit_refused (h : hostCode s ≠ 0) : s.hostAudioCommit =
    (((s.wr F.AUDIO_COMMIT_STATUS_COMMIT_ID 0 0).wr F.AUDIO_COMMIT_STATUS_STATE 0 3).wr F.AUDIO_COMMIT_STATUS_RESULT 0 (hostCode s)).event
      F.AUDIO_EVENT_COMMIT_REFUSED 0 Irq.audio := if_neg h

/-- The commit's number is shown whole. -/
theorem hostAccepted_id : (hostAccepted s).2.1 % 2 ^ 16 = (hostAccepted s).2.1 := Nat.mod_mod _ _

theorem hostAudioCommit_shown (h : hostCode s = 0) : s.hostAudioCommit.rd F.AUDIO_COMMIT_STATUS_STATE 0 = 1 ∧
    s.hostAudioCommit.rd F.AUDIO_COMMIT_STATUS_COMMIT_ID 0 = (hostAccepted s).2.1 ∧
    s.hostAudioCommit.rd F.AUDIO_COMMIT_STATUS_RESULT 0 = 0 ∧ s.hostAudioCommit.aud = (hostAccepted s).1.aud := by
  rw [hostAudioCommit_accepted h]
  unfold State.wr64
  refine ⟨?_, ?_, ?_, rfl⟩
  all_goals simp (disch := decide) only [rd_wr_ne, rd_wr_same]
  · rfl
  · exact hostAccepted_id
  · rfl

theorem hostAudioCommit_told (h : hostCode s ≠ 0) : s.hostAudioCommit.rd F.AUDIO_COMMIT_STATUS_STATE 0 = 3 ∧
    s.hostAudioCommit.rd F.AUDIO_COMMIT_STATUS_COMMIT_ID 0 = 0 ∧ s.hostAudioCommit.on F.AUDIO_EVENT_COMMIT_REFUSED 0 = true ∧
    s.hostAudioCommit.aud = s.aud := by
  have hpend : ∀ g : Fld, g.key 0 < 12976128 → ∀ v, g.key 0 ≠ F.MSIX_PBA_PENDING.key v := fun g hg v =>
    (hg.trans_le (base_le_key F.MSIX_PBA_PENDING v)).ne
  rw [hostAudioCommit_refused h]
  unfold State.event State.on
  refine ⟨?_, ?_, ?_, raise_aud ..⟩
  all_goals
    rw [raise_rd _ _ _ _ (hpend _ (by decide))]
    simp (disch := decide) only [rd_wr_ne, rd_wr_same]
  all_goals rfl

end

/-! ### The effect of a commit (R303) -/

section
variable (s : State)

theorem exec_audioCommitEffect : exec .audioCommitEffect s = .next s.audioEffect := rfl

/-- The first commit whose boundary has come, or that is lost. -/
def dueCommit : Option ACommit := s.aud.commits.find? fun c => s.aLost c || decide (s.aEffect c 48000 ≤ s.boundaryNow 48000)

variable {s} {c : ACommit}

theorem audioEffect_none (h : dueCommit s = none) : s.audioEffect = s := by
  unfold State.audioEffect
  unfold dueCommit at h
  rw [h]

theorem audioEffect_some (h : dueCommit s = some c) : s.audioEffect = if s.aLost c || decide (s.mode = Mode.safe) then s.aDiscard c
    else ((forEach (s.aHeld c) (fun d s => s.aApply c d) s).addWrap F.AUDIO_ACTIVE_GEN_GEN 0 1).aFinish c true := by
  unfold State.audioEffect
  unfold dueCommit at h
  rw [h]

theorem audioEffect_applied (h : dueCommit s = some c) (hlost : s.aLost c = false) (hsafe : s.mode ≠ Mode.safe) : s.audioEffect =
    ((forEach (s.aHeld c) (fun d s => s.aApply c d) s).addWrap F.AUDIO_ACTIVE_GEN_GEN 0 1).aFinish c true :=
  (audioEffect_some h).trans (if_neg (by simp [hlost, hsafe]))

theorem audioEffect_discarded (h : dueCommit s = some c) (hend : s.aLost c = true ∨ s.mode = Mode.safe) : s.audioEffect = s.aDiscard c :=
  (audioEffect_some h).trans (if_pos (by simpa using hend))

end

/-! ### A boundary (R292-R297) -/

section
variable (t44 : Bool) (smp : List (Nat × Nat)) (bad : List (Nat × Fin 4 × Bool)) (s : State)

/-- One more than the last boundary computed at a rate. -/
def boundaryDone : Nat := if t44 then s.aud.bnd44 else s.aud.bnd

/-- Boundaries missed since, up to 100. -/
def boundaryGap (k : Nat) : Nat :=
  if boundaryDone t44 s = 0 then 0 else if boundaryDone t44 s ≤ k then Nat.min (k - boundaryDone t44 s) 100 else 100

/-- Every source followed has taken its sample. -/
def sourcesFed (k : Nat) : State :=
  (forEach (s.sources t44 smp) (fun c u => u.feed k (boundaryGap t44 s k) smp c) s).moveSlips t44 (s.sources t44 smp)

/-- Every channel with an entry has given a sample, the TDM ports theirs. -/
def boundaryOut (k : Nat) : State :=
  forEach (List.range 16) (fun i s => s.tdmOut t44 i)
    (forEach ((sourcesFed t44 smp s k).dests t44) (fun d s => s.channelAt k (aLat t44) bad d) (sourcesFed t44 smp s k))

/-- The boundary's number kept; at the main rate the gaps of de-embedders end with it. -/
def boundaryKept (k : Nat) (out : State) : State :=
  let s4 := if t44 then out else { out with aud := { out.aud with gap := [] } }
  if t44 then { s4 with aud := { s4.aud with bnd44 := k + 1 } } else { s4 with aud := { s4.aud with bnd := k + 1 } }

theorem exec_audioBoundary : exec (.audioBoundary t44 (smp, bad)) s = execAudioBoundary t44 (smp, bad) s := rfl

variable {t44} in
theorem boundaryKept_44 (h : t44 = true) (k : Nat) (out : State) :
    boundaryKept t44 k out = { out with aud := { out.aud with bnd44 := k + 1 } } := by
  subst h
  rfl

variable {t44} in
theorem boundaryKept_main (h : t44 = false) (k : Nat) (out : State) :
    boundaryKept t44 k out = { out with aud := { out.aud with gap := [], bnd := k + 1 } } := by
  subst h
  rfl

variable {t44 smp bad s}

theorem audioBoundary_again (h : boundaryDone t44 s = s.boundaryNow (aRate t44) + 1) : exec (.audioBoundary t44 (smp, bad)) s = .next s := by
  rw [exec_audioBoundary]
  exact ok_ite_pos h

theorem audioBoundary_new (h : boundaryDone t44 s ≠ s.boundaryNow (aRate t44) + 1) : exec (.audioBoundary t44 (smp, bad)) s =
    .next (boundaryKept t44 (s.boundaryNow (aRate t44)) (boundaryOut t44 smp bad s (s.boundaryNow (aRate t44)))) := by
  rw [exec_audioBoundary]
  refine (congrArg ok (if_neg h)).trans (congrArg Host.Outcome.next ?_)
  extract_lets gap cs s1 s2 s3 s4
  exact congrArg (boundaryKept t44 (s.boundaryNow (aRate t44))) (show s3 = boundaryOut t44 smp bad s (s.boundaryNow (aRate t44)) from rfl)

end

/-! ### The end of a change (R301, R302) -/

section
variable {d mode len : Nat} {s : State}

/-- The change under way at a channel is of a mode and has run its time. -/
abbrev ChangeOver (d mode len : Nat) (s : State) : Prop := ∃ y r, tget s.aud.chg d [] = y :: r ∧ y.mode = mode ∧
  y.start + (if mode = 2 then y.len else len) < s.lastBnd d

theorem endChange_over (h : ChangeOver d mode len s) :
    s.endChange d mode len = { s with aud := { s.aud with chg := tput s.aud.chg d [] [] } } := by
  obtain ⟨y, r, hy, hmode, hlate⟩ := h
  unfold State.endChange
  rw [hy]
  exact if_pos ⟨hmode, hlate⟩

theorem endChange_stands (h : ¬ ChangeOver d mode len s) : s.endChange d mode len = s := by
  unfold State.endChange
  cases hy : tget s.aud.chg d [] with
  | nil => rfl
  | cons y r => exact if_neg fun hc => h ⟨y, r, hy, hc⟩

theorem exec_zeroxTimeout (d : Fin 65536) :
    exec (.zeroxTimeout d) s = .next (s.endChange d.val 1 (s.rd F.AUDIO_CFG_ZX_TIMEOUT 0)) := rfl

theorem exec_fadeComplete (d : Fin 65536) : exec (.fadeComplete d) s = .next (s.endChange d.val 2 0) := rfl

end

/-- Settles O36: each word by its place and the entry's holder, the commands by their conditions; what a host commit shows is read off
the fields that it writes. -/
theorem audioCommands : Obligations.AudioCommands := by
  unfold Obligations.AudioCommands
  refine ⟨?commands, fun s => ⟨hostAudioCommit_shown, hostAudioCommit_told⟩⟩
  intro d x t44 smp bad w s a held o off v q next applied k done gap fed out gone ended
  refine ⟨?source, ?attr, ?refused, ?upper, ?go, ?discard, ?applied, ?ended, ?none, audioBoundary_again, ?b44, ?main, ?zerox, ?zeroxOn,
    ?fade, ?fadeOn⟩
  case source => exact fun hx hheld => winWrites_of_eq (exec_shadowAudioWrite d x w s) (aShadowWrite_source hx hheld)
  case attr => exact fun hx hheld => winWrites_of_eq (exec_shadowAudioWrite d x w s) (aShadowWrite_attr hx hheld)
  case refused => exact fun hx hheld => winWrites_of_eq (exec_shadowAudioWrite d x w s) (aShadowWrite_refused hx hheld)
  case upper => exact fun hx => winWrites_of_eq (exec_shadowAudioWrite d x w s) (aShadowWrite_upper hx)
  case go =>
    refine puts_of_eq (exec_audioCommitGo w s) ?_
    rw [audioCtrl_eq, bit_lor_one, bit_lor_clear (i := 1) (by decide)]
    rfl
  case discard =>
    refine puts_of_eq (exec_audioCommitDiscard w s) ?_
    rw [audioCtrl_eq, bit_lor_set (i := 1) (by decide), bit_lor_clear (i := 0) (by decide)]
    rfl
  case applied => exact fun c hc hlost hsafe => congrArg _ (audioEffect_applied hc hlost hsafe)
  case ended => exact fun c hc hend => congrArg _ (audioEffect_discarded hc hend)
  case none => exact fun h => congrArg _ (audioEffect_none h)
  case b44 => exact fun hdone ht => (audioBoundary_new hdone).trans (congrArg _ (boundaryKept_44 ht k out))
  case main => exact fun hdone ht => (audioBoundary_new hdone).trans (congrArg _ (boundaryKept_main ht k out))
  case zerox => exact fun h => (exec_zeroxTimeout d).trans (congrArg _ (endChange_over h))
  case zeroxOn => exact fun h => (exec_zeroxTimeout d).trans (congrArg _ (endChange_stands h))
  case fade => exact fun h => (exec_fadeComplete d).trans (congrArg _ (endChange_over h))
  case fadeOn => exact fun h => (exec_fadeComplete d).trans (congrArg _ (endChange_stands h))

end Sys2Proof.Proofs
end

section
/-!
PROOFS. Lane remaps (R336-R340): the host's writes, the steps a remap takes, and the answers of the partner, one lemma per case.
-/
namespace Sys2Proof.Proofs
open Sys2Proof.Machine Sys2Proof.Laws

/-! ### Writes of FAB_REMAP_CTRL (R336, R339) -/

section
variable (w : Word) (s : State)

theorem exec_remapStart : exec (.remapStart w) s =
    ok (s.hostWrite 0xE0200 (Nat.lor w.toNat 1) (State.remapCtrl (Nat.lor w.toNat 1))) := rfl

theorem exec_remapAbort : exec (.remapAbort w) s =
    ok (s.hostWrite 0xE0200 (Nat.lor w.toNat 2) (State.remapCtrl (Nat.lor w.toNat 2))) := rfl

end

section
variable {s : State} {v : Nat}

/-- The fields of a write. -/
def remapFields (v : Nat) (s : State) : State :=
  (((s.wr F.FAB_REMAP_CTRL_HITLESS 0 (bits v 2 1)).wr F.FAB_REMAP_CTRL_RETIRE 0 (bits v 3 1)).writeField
    F.FAB_REMAP_CTRL_LOGICAL 0 (bits v 8 8)).wr F.FAB_REMAP_CTRL_ROLE 0 (bits v 16 3)

/-- ABORT of a remap not yet COMMITTED. -/
def remapAborted (t : State) : State := if 1 ≤ t.rmSt ∧ t.rmSt ≤ 3 then (t.rmEnd 7 0).rmNext else t

theorem remapCtrl_start (h : bit v 0 = true) : s.remapCtrl v =
    if bit v 1 then (remapAborted (remapFields v s)).rmStart else (remapFields v s).rmStart := by
  have hsteps : s.remapCtrl v = if bit v 0 then
      (if bit v 1 && decide (1 ≤ (remapFields v s).rmSt ∧ (remapFields v s).rmSt ≤ 3) then ((remapFields v s).rmEnd 7 0).rmNext
        else remapFields v s).rmStart
      else _ := rfl
  rw [hsteps, if_pos h]
  cases bit v 1 <;> simp [remapAborted]

theorem remapCtrl_abort (h : bit v 1 = true) : s.remapCtrl v =
    if bit v 0 then (remapAborted (remapFields v s)).rmStart else remapAborted (remapFields v s) := by
  have hsteps : s.remapCtrl v = if bit v 0 then
      (if bit v 1 && decide (1 ≤ (remapFields v s).rmSt ∧ (remapFields v s).rmSt ≤ 3) then ((remapFields v s).rmEnd 7 0).rmNext
        else remapFields v s).rmStart
      else (if bit v 1 && decide (1 ≤ (remapFields v s).rmSt ∧ (remapFields v s).rmSt ≤ 3) then ((remapFields v s).rmEnd 7 0).rmNext
        else remapFields v s) := rfl
  rw [hsteps, h]
  simp [remapAborted]

end

/-! ### The steps of a remap (R336-R338) -/

section
variable (s : State)

theorem exec_remapWakeDone : exec .remapWakeDone s = ok (if s.rmSt = 1 ∧ s.framed s.rmNew = true then
    if s.rd F.FAB_LANE_PARTNER_CARD_ID s.rmNew = s.rd F.FAB_LANE_PARTNER_CARD_ID s.rmOld then s.rmTo 2 else (s.rmEnd 6 2).rmNext
    else s) := rfl

theorem exec_remapCompareDone : exec (.remapCompareDone ()) s =
    ok (if s.rmSt = 3 ∧ (4096 ≤ s.remap.compared ∨ s.remap.differ = true) then
      if (!s.remap.differ) = true then
        { s.rmTo 4 with remap := { s.remap with since := s.clk, turn := ((s.lane s.rmOld).turn + 16384) % 65536 } }
      else (s.rmEnd 6 5).rmNext
    else s) := rfl

theorem exec_remapSwitchTurn : exec .remapSwitchTurn s =
    ok (if s.rmSt = 4 ∧ (!s.remap.switched) = true ∧ ((!s.remap.hitless) = true ∨ turnReached (s.lane s.rmOld).turn s.remap.turn = true)
      then s.rmSwitch else s) := rfl

variable {s}

theorem remapWakeDone_same (h : s.rmSt = 1 ∧ s.framed s.rmNew = true)
    (hcard : s.rd F.FAB_LANE_PARTNER_CARD_ID s.rmNew = s.rd F.FAB_LANE_PARTNER_CARD_ID s.rmOld) :
    exec .remapWakeDone s = .next (s.rmTo 2) := by
  rw [exec_remapWakeDone, if_pos h]
  exact ok_ite_pos hcard

theorem remapWakeDone_other (h : s.rmSt = 1 ∧ s.framed s.rmNew = true)
    (hcard : ¬ s.rd F.FAB_LANE_PARTNER_CARD_ID s.rmNew = s.rd F.FAB_LANE_PARTNER_CARD_ID s.rmOld) :
    exec .remapWakeDone s = .next (s.rmEnd 6 2).rmNext := by
  rw [exec_remapWakeDone, if_pos h]
  exact ok_ite_neg hcard

theorem remapCompareDone_equal (h : s.rmSt = 3 ∧ (4096 ≤ s.remap.compared ∨ s.remap.differ = true)) (hd : s.remap.differ = false) :
    exec (.remapCompareDone ()) s =
      .next { s.rmTo 4 with remap := { s.remap with since := s.clk, turn := ((s.lane s.rmOld).turn + 16384) % 65536 } } := by
  rw [exec_remapCompareDone, if_pos h]
  exact ok_ite_pos (by rw [hd]; rfl)

theorem remapCompareDone_differ (h : s.rmSt = 3 ∧ (4096 ≤ s.remap.compared ∨ s.remap.differ = true)) (hd : s.remap.differ = true) :
    exec (.remapCompareDone ()) s = .next (s.rmEnd 6 5).rmNext := by
  rw [exec_remapCompareDone, if_pos h]
  exact ok_ite_neg (by rw [hd]; decide)

end

/-! ### REMAP blocks (R337, Table 11-8) -/

section
variable {p : State} {n c : Nat}

/-- The block comes on the spare of a remap that runs. -/
abbrev OnSpare (n : Nat) (p : State) : Prop := n = p.rmNew ∧ p.rmRuns = true

theorem remapRx_eq : p.remapRx n c = if bits c 0 4 = 1 then p
    else if OnSpare n p ∧ p.rmSt = 2 ∧ bits c 0 4 = 2 then
      if p.remap.hitless = true then
        { p.rmTo 3 with remap := { (p.rmTo 3).remap with seenOld := [], seenNew := [], compared := 0, differ := false } }
      else p.rmTo 4
    else if OnSpare n p ∧ p.rmSt = 2 ∧ bits c 0 4 = 3 then (p.rmEnd 6 4).rmNext
    else if OnSpare n p ∧ p.rmSt = 4 ∧ p.remap.switched = true ∧ bits c 0 4 = 5 then p.rmDone
    else if OnSpare n p ∧ p.rmSt < 4 ∧ bits c 0 4 = 6 then (p.rmEnd 7 0).rmNext
    else p.laneViol n 0x08 5 (c / 2 ^ 32 % 2 ^ 24 + 4 * 2 ^ 24) := by
  simp only [State.remapRx, Bool.and_eq_true, decide_eq_true_eq]

theorem remapRx_req (h : bits c 0 4 = 1) : p.remapRx n c = p := if_pos h

theorem remapRx_ack (h : OnSpare n p ∧ p.rmSt = 2 ∧ bits c 0 4 = 2) : p.remapRx n c = if p.remap.hitless = true then
    { p.rmTo 3 with remap := { (p.rmTo 3).remap with seenOld := [], seenNew := [], compared := 0, differ := false } }
    else p.rmTo 4 := by
  rw [remapRx_eq, if_neg (by omega), if_pos h]

theorem remapRx_nak (h : OnSpare n p ∧ p.rmSt = 2 ∧ bits c 0 4 = 3) : p.remapRx n c = (p.rmEnd 6 4).rmNext := by
  rw [remapRx_eq, if_neg (by omega), if_neg (by omega), if_pos h]

theorem remapRx_done (h : OnSpare n p ∧ p.rmSt = 4 ∧ p.remap.switched = true ∧ bits c 0 4 = 5) : p.remapRx n c = p.rmDone := by
  rw [remapRx_eq, if_neg (by omega), if_neg (by omega), if_neg (by omega), if_pos h]

theorem remapRx_abort (h : OnSpare n p ∧ p.rmSt < 4 ∧ bits c 0 4 = 6) : p.remapRx n c = (p.rmEnd 7 0).rmNext := by
  rw [remapRx_eq, if_neg (by omega), if_neg (by omega), if_neg (by omega), if_neg (by omega), if_pos h]

theorem remapRx_violates (hreq : bits c 0 4 ≠ 1) (hack : ¬ (OnSpare n p ∧ p.rmSt = 2 ∧ bits c 0 4 = 2))
    (hnak : ¬ (OnSpare n p ∧ p.rmSt = 2 ∧ bits c 0 4 = 3))
    (hdone : ¬ (OnSpare n p ∧ p.rmSt = 4 ∧ p.remap.switched = true ∧ bits c 0 4 = 5))
    (habort : ¬ (OnSpare n p ∧ p.rmSt < 4 ∧ bits c 0 4 = 6)) :
    p.remapRx n c = p.laneViol n 0x08 5 (c / 2 ^ 32 % 2 ^ 24 + 4 * 2 ^ 24) := by
  rw [remapRx_eq, if_neg hreq, if_neg hack, if_neg hnak, if_neg hdone, if_neg habort]

end

section
variable {s : State} {n : Fin 152} {c : Nat}

theorem remapRx_none (h : s.frontCtl n 4 = none) : exec (.remapRx n ()) s = .next s := by
  rw [show exec (.remapRx n ()) s = execRemapRx n () s from rfl, execRemapRx, h]
  rfl

theorem remapRx_came (h : s.frontCtl n 4 = some c) : exec (.remapRx n ()) s = .next ((s.popRx n 1).remapRx n c) := by
  rw [show exec (.remapRx n ()) s = execRemapRx n () s from rfl, execRemapRx, h]
  rfl

end

/-- Settles O41: the write by its bits, each step by its state and condition, each block by its operation and the remap's state. -/
theorem remapCommands : Obligations.RemapCommands := by
  unfold Obligations.RemapCommands
  intro n c w s v q abort same woken wakeLate offerLate compared t switches free p det op came mine three ack nak done aborts
  refine ⟨?start, ?abort, remapWakeDone_same, remapWakeDone_other, ?asleep, ?late, ?waits, ?offerLate, ?offered, remapCompareDone_equal,
    remapCompareDone_differ, ?comparing, ?switch, ?stays, remapRx_none, ?hitless, ?plain, ?nak, ?done, ?aborts, ?req, ?viol⟩
  case start =>
    refine puts_of_eq (exec_remapStart w s) ?_
    rw [remapCtrl_start (bit_lor_one _), bit_lor_clear (i := 1) (by decide)]
    rfl
  case abort =>
    refine puts_of_eq (exec_remapAbort w s) ?_
    rw [remapCtrl_abort (bit_lor_set (by decide) _), bit_lor_clear (i := 0) (by decide)]
    rfl
  case asleep => exact fun h => ok_ite_neg h
  case late => exact fun h => ok_ite_pos h
  case waits => exact fun h => ok_ite_neg h
  case offerLate => exact fun h => ok_ite_pos h
  case offered => exact fun h => ok_ite_neg h
  case comparing => exact fun h => ok_ite_neg h
  case switch => exact fun h => ok_ite_pos (by simpa [switches] using h)
  case stays => exact fun h => ok_ite_neg (by simpa [switches] using h)
  case hitless => exact fun hcame hack hh => (remapRx_came hcame).trans (congrArg _ ((remapRx_ack hack).trans (if_pos hh)))
  case plain =>
    exact fun hcame hack hh => (remapRx_came hcame).trans (congrArg _ ((remapRx_ack hack).trans (if_neg (Bool.eq_false_iff.mp hh))))
  case nak => exact fun hcame h => (remapRx_came hcame).trans (congrArg _ (remapRx_nak h))
  case done => exact fun hcame h => (remapRx_came hcame).trans (congrArg _ (remapRx_done h))
  case aborts => exact fun hcame h => (remapRx_came hcame).trans (congrArg _ (remapRx_abort h))
  case req => exact fun hcame h => (remapRx_came hcame).trans (congrArg _ (remapRx_req h))
  case viol => exact fun hcame h ha hn hd hb => (remapRx_came hcame).trans (congrArg _ (remapRx_violates h ha hn hd hb))

end Sys2Proof.Proofs
end

section
/-!
PROOFS. Flow entries (R350, R352, R353): the operations of MEDIA_FLOW_CTRL and the words of an entry. A received frame (R348, R374), step by
step.
-/
namespace Sys2Proof.Proofs
open Sys2Proof.Machine Sys2Proof.Laws

/-! ### The operations (R352) -/

section
variable (w : Word) (s : State)

theorem exec_flowEnable : exec (.flowEnable w) s =
    ok (s.hostWrite 0x100010 (flowCtrlWord w.toNat 1) (State.flowCtrl (flowCtrlWord w.toNat 1))) := rfl

theorem exec_flowDisable : exec (.flowDisable w) s =
    ok (s.hostWrite 0x100010 (flowCtrlWord w.toNat 2) (State.flowCtrl (flowCtrlWord w.toNat 2))) := rfl

theorem exec_flowClearStats : exec (.flowClearStats w) s =
    ok (s.hostWrite 0x100010 (flowCtrlWord w.toNat 3) (State.flowCtrl (flowCtrlWord w.toNat 3))) := rfl

end

theorem fieldsAt_flowCtrl :
    fieldsAt 0x100010 = [(F.MEDIA_FLOW_CTRL_INDEX, 0, 0), (F.MEDIA_FLOW_CTRL_OP, 0, 16), (F.MEDIA_FLOW_CTRL_GO, 0, 31)] := by decide

section
variable {s : State} {w op : Nat}

theorem flowCtrlWord_index : bits (flowCtrlWord w op) 0 16 = w % 65536 := by
  unfold bits flowCtrlWord
  omega

theorem flowCtrlWord_op (h : op < 8) : bits (flowCtrlWord w op) 16 3 = op := by
  unfold bits flowCtrlWord
  omega

theorem flowCtrlWord_go (h : op < 8) : bit (flowCtrlWord w op) 31 = true := by
  unfold bit flowCtrlWord
  rw [decide_eq_true_eq]
  omega

/-- INDEX and OP as a write of MEDIA_FLOW_CTRL leaves them; GO is no register. -/
theorem writeWord_flowCtrl (v : Nat) : s.writeWord 0x100010 v =
    (s.wr F.MEDIA_FLOW_CTRL_INDEX 0 (bits v 0 16)).writeField F.MEDIA_FLOW_CTRL_OP 0 (bits v 16 3) := by
  unfold State.writeWord State.writeFields
  rw [fieldsAt_flowCtrl]
  rfl

theorem flowCtrl_index : (s.writeWord 0x100010 (flowCtrlWord w op)).rd F.MEDIA_FLOW_CTRL_INDEX 0 = w % 65536 := by
  rw [writeWord_flowCtrl, rd_writeField_ne _ _ _ _ _ _ (by decide), rd_wr_same, flowCtrlWord_index]
  exact Nat.mod_mod _ _

theorem flowCtrl_op (h : op = 1 ∨ op = 2 ∨ op = 3) : (s.writeWord 0x100010 (flowCtrlWord w op)).rd F.MEDIA_FLOW_CTRL_OP 0 = op := by
  rw [writeWord_flowCtrl, flowCtrlWord_op (by omega)]
  obtain rfl | rfl | rfl := h <;> exact rd_wr_same ..

/-- What an operation reports: the entry and the code. -/
def flowReported (s : State) (j code : Nat) : State := (s.wr F.MEDIA_FLOW_STATUS_INDEX 0 j).wr F.MEDIA_FLOW_STATUS_RESULT 0 code

/-- The operation on the entry that INDEX names. -/
theorem flowOp_eq {a : State} {j op : Nat} (hj : a.rd F.MEDIA_FLOW_CTRL_INDEX 0 = j) (hop : a.rd F.MEDIA_FLOW_CTRL_OP 0 = op) :
    a.flowOp =
      if (if op = 1 then a.enableCode j else if op = 2 then a.disableCode j else 0) ≠ 0 then
        (flowReported a j (if op = 1 then a.enableCode j else if op = 2 then a.disableCode j else 0)).event F.MEDIA_EVENT_FLOW_REFUSED 0
          Irq.media
      else if op = 1 then (flowReported a j (if op = 1 then a.enableCode j else if op = 2 then a.disableCode j else 0)).flowEnable j
      else if op = 2 then (flowReported a j (if op = 1 then a.enableCode j else if op = 2 then a.disableCode j else 0)).flowDisable j
      else if op = 3 then (flowReported a j (if op = 1 then a.enableCode j else if op = 2 then a.disableCode j else 0)).flowClear j
      else a := by
  subst hj hop
  rfl

theorem flowOp_enable {a : State} {j : Nat} (hj : a.rd F.MEDIA_FLOW_CTRL_INDEX 0 = j) (hop : a.rd F.MEDIA_FLOW_CTRL_OP 0 = 1) :
    a.flowOp = if a.enableCode j ≠ 0 then (flowReported a j (a.enableCode j)).event F.MEDIA_EVENT_FLOW_REFUSED 0 Irq.media
      else (flowReported a j (a.enableCode j)).flowEnable j := flowOp_eq hj hop

theorem flowOp_disable {a : State} {j : Nat} (hj : a.rd F.MEDIA_FLOW_CTRL_INDEX 0 = j) (hop : a.rd F.MEDIA_FLOW_CTRL_OP 0 = 2) :
    a.flowOp = if a.disableCode j ≠ 0 then (flowReported a j (a.disableCode j)).event F.MEDIA_EVENT_FLOW_REFUSED 0 Irq.media
      else (flowReported a j (a.disableCode j)).flowDisable j := flowOp_eq hj hop

theorem flowOp_clear {a : State} {j : Nat} (hj : a.rd F.MEDIA_FLOW_CTRL_INDEX 0 = j) (hop : a.rd F.MEDIA_FLOW_CTRL_OP 0 = 3) :
    a.flowOp = (flowReported a j 0).flowClear j := flowOp_eq hj hop

theorem flowCtrl_go (h : op = 1 ∨ op = 2 ∨ op = 3) :
    s.flowCtrl (flowCtrlWord w op) = (s.writeWord 0x100010 (flowCtrlWord w op)).flowOp :=
  if_pos (flowCtrlWord_go (by omega))

end

/-! ### A word of an entry (R350, R353) -/

theorem exec_flowEntryWrite (i : Fin 65536) (k : Fin 32) (w : Word) (s : State) : exec (.flowEntryWrite i k w) s =
    ok (s.hostWriteWin false 2 (0x800000 + 0x80 * i.val + 4 * k.val) w.toNat (State.flowWrite i.val k.val w.toNat)) := rfl

section
variable {i k v : Nat} {s : State}

theorem flowWrite_status (h : 16 ≤ k) : s.flowWrite i k v = s := if_pos h

theorem flowWrite_valid (h : k < 16) (hv : s.fValid i = true) : s.flowWrite i k v = s.event F.MEDIA_EVENT_FLOW_WR_REFUSED 0 Irq.media :=
  (if_neg (not_le.mpr h)).trans (if_pos hv)

theorem flowWrite_taken (h : k < 16) (hv : s.fValid i = false) : s.flowWrite i k v = s.setFw i k (s.flowTakes i k v) :=
  (if_neg (not_le.mpr h)).trans (if_neg (Bool.eq_false_iff.mp hv))

end

/-- Settles O42: each operation by its code, each word by its place and VALID. -/
theorem flowEntryCommands : Obligations.FlowEntryCommands := by
  unfold Obligations.FlowEntryCommands
  intro i k w s cw j a rep refused off eo
  have henable := (flowCtrl_go (s := s) (w := w.toNat) (.inl rfl)).trans
    (flowOp_enable (a := a 1) flowCtrl_index (flowCtrl_op (.inl rfl)))
  have hdisable := (flowCtrl_go (s := s) (w := w.toNat) (.inr (.inl rfl))).trans
    (flowOp_disable (a := a 2) flowCtrl_index (flowCtrl_op (.inr (.inl rfl))))
  refine ⟨fun op => flowCtrl_index, ?enable, ?notEnabled, ?disable, ?notDisabled, ?clear, ?status, ?valid, ?word⟩
  case enable =>
    exact fun h => puts_of_eq (exec_flowEnable w s) ((henable.trans (if_neg (not_not.mpr h))).trans
      (congrArg (fun code => (flowReported (a 1) j code).flowEnable j) h))
  case notEnabled => exact fun h => puts_of_eq (exec_flowEnable w s) (henable.trans (if_pos h))
  case disable =>
    exact fun h => puts_of_eq (exec_flowDisable w s) ((hdisable.trans (if_neg (not_not.mpr h))).trans
      (congrArg (fun code => (flowReported (a 2) j code).flowDisable j) h))
  case notDisabled => exact fun h => puts_of_eq (exec_flowDisable w s) (hdisable.trans (if_pos h))
  case clear =>
    refine puts_of_eq (exec_flowClearStats w s) ?_
    rw [flowCtrl_go (.inr (.inr rfl)), flowOp_clear flowCtrl_index (flowCtrl_op (.inr (.inr rfl)))]
    rfl
  case status => exact fun h => winWrites_of_eq (exec_flowEntryWrite i k w s) (flowWrite_status h)
  case valid => exact fun h hv => winWrites_of_eq (exec_flowEntryWrite i k w s) (flowWrite_valid h hv)
  case word => exact fun h hv => winWrites_of_eq (exec_flowEntryWrite i k w s) (flowWrite_taken h hv)

/-! ### A received frame (R348) -/

section
variable {f : RxFrame} {s : State}

theorem exec_mediaFrameRx (f : RxFrame) (s : State) : exec (.mediaFrameRx f) s = ok (if s.lportOn f.port = true then s.rxFrame f else s) :=
  rfl

theorem mediaFrameRx_off (h : ¬ s.lportOn f.port = true) : exec (.mediaFrameRx f) s = .next s := ok_ite_neg h

theorem mediaFrameRx_on (h : s.lportOn f.port = true) : exec (.mediaFrameRx f) s = .next (s.rxFrame f) := ok_ite_pos h

/-- The longest frame the port takes, a tag's four bytes beside. -/
def rxMax (f : RxFrame) (s : State) : Nat :=
  s.lrd f.port F.MEDIA_LPORT_CFG_MAXLEN F.MGT_CFG_MAXLEN + (if f.tags = 0 then 0 else 4)

/-- A frame whose FCS and length hold. -/
abbrev RxSized (f : RxFrame) (s : State) : Prop := f.fcsOk = true ∧ 64 ≤ f.len ∧ f.len ≤ rxMax f s

/-- A frame for the device: no control frame, to a group or to the port's own address. -/
abbrev RxOwn (f : RxFrame) (s : State) : Prop := f.control = false ∧ (bit f.dst 0 = true ∨ s.macHit f.port f.dst = true)

theorem rxFrame_fcs (h : f.fcsOk = false) : s.rxFrame f = (s.rxCount f.port f.len).lcnt f.port F.MEDIA_LPORT_CNT_FCS_ERR F.MGT_CNT_FCS_ERR :=
  if_pos (by rw [h]; rfl)

theorem rxFrame_len (h : f.fcsOk = true) (hlen : f.len < 64 ∨ rxMax f s < f.len) :
    s.rxFrame f = (s.rxCount f.port f.len).lcnt f.port F.MEDIA_LPORT_CNT_LEN_ERR F.MGT_CNT_LEN_ERR :=
  (if_neg (by rw [h]; decide)).trans (if_pos hlen)

/-- What follows the checks of FCS and length. -/
def rxSizedFrame (f : RxFrame) (s : State) : State :=
  let s0 := s.rxCount f.port f.len
  if f.control then
    match f.pause with
    | some q => s0.rxPause f.port q
    | none => s0.lcnt f.port F.MEDIA_LPORT_CNT_CTRL_DROP F.MGT_CNT_CTRL_DROP
  else if !bit f.dst 0 && !s.macHit f.port f.dst then s0.lcnt f.port F.MEDIA_LPORT_CNT_NOMATCH_MAC F.MGT_CNT_NOMATCH_MAC
  else if 2 ≤ f.tags then s0.rxRest f
  else
    match f.udp with
    | none => s0.rxRest f
    | some d =>
      if !d.csumOk then s0.lcnt f.port F.MEDIA_LPORT_CNT_CSUM_ERR F.MGT_CNT_CSUM_ERR
      else
        match s.flowMatch f.port d with
        | some i => s0.rxFlow i f d
        | none => s0.rxRest f

theorem rxFrame_sized (h : RxSized f s) : s.rxFrame f = rxSizedFrame f s := by
  obtain ⟨hfcs, hmin, hmax⟩ := h
  exact (if_neg (by rw [hfcs]; decide)).trans (if_neg (by rw [not_or, not_lt, not_lt]; exact ⟨hmin, hmax⟩))

theorem rxSizedFrame_pause {q : Nat} (hc : f.control = true) (hp : f.pause = some q) :
    rxSizedFrame f s = (s.rxCount f.port f.len).rxPause f.port q := by
  unfold rxSizedFrame
  rw [hc, hp]
  rfl

theorem rxSizedFrame_control (hc : f.control = true) (hp : f.pause = none) :
    rxSizedFrame f s = (s.rxCount f.port f.len).lcnt f.port F.MEDIA_LPORT_CNT_CTRL_DROP F.MGT_CNT_CTRL_DROP := by
  unfold rxSizedFrame
  rw [hc, hp]
  rfl

theorem rxSizedFrame_foreign (hc : f.control = false) (hd : bit f.dst 0 = false) (hm : s.macHit f.port f.dst = false) :
    rxSizedFrame f s = (s.rxCount f.port f.len).lcnt f.port F.MEDIA_LPORT_CNT_NOMATCH_MAC F.MGT_CNT_NOMATCH_MAC := by
  unfold rxSizedFrame
  rw [hc, hd, hm]
  rfl

/-- What an own frame without a second tag does goes by its datagram. -/
theorem rxSizedFrame_own (h : RxOwn f s) : rxSizedFrame f s =
    if 2 ≤ f.tags then (s.rxCount f.port f.len).rxRest f
    else match f.udp with
      | none => (s.rxCount f.port f.len).rxRest f
      | some d =>
        if !d.csumOk then (s.rxCount f.port f.len).lcnt f.port F.MEDIA_LPORT_CNT_CSUM_ERR F.MGT_CNT_CSUM_ERR
        else match s.flowMatch f.port d with
          | some i => (s.rxCount f.port f.len).rxFlow i f d
          | none => (s.rxCount f.port f.len).rxRest f := by
  obtain ⟨hc, hown⟩ := h
  refine (if_neg (Bool.eq_false_iff.mp hc)).trans (if_neg ?_)
  rw [Bool.and_eq_true, Bool.not_eq_true', Bool.not_eq_true']
  rintro ⟨hd, hm⟩
  simp [hd, hm] at hown

section
variable (h : RxOwn f s)
include h

theorem rxSizedFrame_host (hu : 2 ≤ f.tags ∨ f.udp = none) : rxSizedFrame f s = (s.rxCount f.port f.len).rxRest f := by
  rw [rxSizedFrame_own h]
  obtain ht | hu := hu
  · exact if_pos ht
  · rw [hu]
    exact ite_self _

variable {d : Datagram} (ht : f.tags < 2) (hu : f.udp = some d)
include ht hu

theorem rxSizedFrame_csum (hd : d.csumOk = false) :
    rxSizedFrame f s = (s.rxCount f.port f.len).lcnt f.port F.MEDIA_LPORT_CNT_CSUM_ERR F.MGT_CNT_CSUM_ERR := by
  rw [rxSizedFrame_own h, if_neg (not_le.mpr ht), hu]
  exact if_pos (by rw [hd]; rfl)

theorem rxSizedFrame_flow {i : Nat} (hd : d.csumOk = true) (hm : s.flowMatch f.port d = some i) :
    rxSizedFrame f s = (s.rxCount f.port f.len).rxFlow i f d := by
  rw [rxSizedFrame_own h, if_neg (not_le.mpr ht), hu]
  refine (if_neg (by rw [hd]; decide)).trans ?_
  rw [hm]

theorem rxSizedFrame_noFlow (hd : d.csumOk = true) (hm : s.flowMatch f.port d = none) :
    rxSizedFrame f s = (s.rxCount f.port f.len).rxRest f := by
  rw [rxSizedFrame_own h, if_neg (not_le.mpr ht), hu]
  refine (if_neg (by rw [hd]; decide)).trans ?_
  rw [hm]

end

end

/-- Settles O44: the frame by the first check it fails. -/
theorem frameReceived : Obligations.FrameReceived := by
  unfold Obligations.FrameReceived
  intro f l s p s0 max gets on sized own ended
  have hgets {t : State} (hon : on) (ht : s.rxFrame f = t) : gets t := (mediaFrameRx_on hon).trans (congrArg _ ht)
  have hsized {t : State} (h : sized) (ht : rxSizedFrame f s = t) : gets t := hgets h.1 ((rxFrame_sized h.2).trans ht)
  refine ⟨mediaFrameRx_off, ?fcs, ?len, ?pause, ?control, ?foreign, ?host, ?csum, ?flow, ?noFlow, ?ended, ?paused⟩
  case fcs => exact fun hon h => hgets hon (rxFrame_fcs h)
  case len => exact fun hon h hlen => hgets hon (rxFrame_len h hlen)
  case pause => exact fun q h hc hp => hsized h (rxSizedFrame_pause hc hp)
  case control => exact fun h hc hp => hsized h (rxSizedFrame_control hc hp)
  case foreign => exact fun h hc hd hm => hsized h (rxSizedFrame_foreign hc hd hm)
  case host => exact fun h ho hu => hsized h (rxSizedFrame_host ho hu)
  case csum => exact fun d h ho ht hu hd => hsized h (rxSizedFrame_csum ho ht hu hd)
  case flow => exact fun d i h ho ht hu hd hm => hsized h (rxSizedFrame_flow ho ht hu hd hm)
  case noFlow => exact fun d h ho ht hu hd hm => hsized h (rxSizedFrame_noFlow ho ht hu hd hm)
  case ended => exact fun h => ok_ite_pos h
  case paused => exact fun h => ok_ite_neg h

end Sys2Proof.Proofs
end

section
/-!
PROOFS. Flow traffic (R358-R370): lines at their egress instants, sends at theirs, opaque strands.
-/
namespace Sys2Proof.Proofs
open Sys2Proof.Machine Sys2Proof.Laws

/-! ### Receive strands and video packets (R358, R359, R360, R362) -/

section
variable {i : Fin 65536} {s : State}

/-- The line of the egress timeline that an entry's format counts. -/
def egressLine (i : Nat) (s : State) : Nat :=
  if s.fStruct i = 6 then ((s.egress (s.fRaster i)).line + 1) / 2 else (s.egress (s.fRaster i)).line

/-- A line of a receive strand is due, once. -/
abbrev LineNow (i : Nat) (s : State) : Prop := (s.fValid i = true ∧ s.fDir i = 0) ∧ s.fType i = 1 ∧ s.enabled (s.fRaster i) = true ∧
  (s.egress (s.fRaster i)).sample = 0 ∧ ipRasterLine (s.fStruct i) (egressLine i s) = (s.egress (s.fRaster i)).line ∧
  (s.fb i).judged ≠ ((s.egress (s.fRaster i)).frame, egressLine i s)

theorem exec_ipLineEgress : exec (.ipLineEgress i) s = ok (if (s.fValid i && s.fDir i = 0 && s.fType i = 1 && s.enabled (s.fRaster i) &&
      decide ((s.egress (s.fRaster i)).sample = 0 ∧ ipRasterLine (s.fStruct i) (egressLine i s) = (s.egress (s.fRaster i)).line) &&
      decide ((s.fb i).judged ≠ ((s.egress (s.fRaster i)).frame, egressLine i s))) = true then
    ((if egressLine i s = 1 then s.bindFrame i (s.egress (s.fRaster i)).frame else s).bindLine i (s.egress (s.fRaster i)).frame
      (egressLine i s))
    else s) := rfl

theorem ipLineEgress_now (h : LineNow i s) : exec (.ipLineEgress i) s =
    .next ((if egressLine i s = 1 then s.bindFrame i (s.egress (s.fRaster i)).frame else s).bindLine i
      (s.egress (s.fRaster i)).frame (egressLine i s)) :=
  exec_ipLineEgress.trans (ok_ite_pos (by simpa [and_assoc] using h))

/-- Line 1 starts the frame. -/
theorem ipLineEgress_first (h : LineNow i s) (hl : egressLine i s = 1) : exec (.ipLineEgress i) s =
    .next ((s.bindFrame i (s.egress (s.fRaster i)).frame).bindLine i (s.egress (s.fRaster i)).frame 1) := by
  rw [ipLineEgress_now h, if_pos hl, hl]

theorem ipLineEgress_other (h : LineNow i s) (hl : egressLine i s ≠ 1) : exec (.ipLineEgress i) s =
    .next (s.bindLine i (s.egress (s.fRaster i)).frame (egressLine i s)) := by
  rw [ipLineEgress_now h, if_neg hl]

theorem ipLineEgress_not (h : ¬ LineNow i s) : exec (.ipLineEgress i) s = .next s :=
  exec_ipLineEgress.trans (ok_ite_neg fun hc => h (by simpa [and_assoc] using hc))

end

section
variable (i : Fin 65536) (f k : Nat) (s : State)

/-- The sequence number of packet `k` of frame `f`. -/
def videoSeq (i : Nat) : Nat := (f * s.npackets i + k) % 2 ^ 32

theorem exec_videoPacketTx : exec (.videoPacketTx i f k () ()) s = ok (if (s.fValid i && s.fDir i = 1 && s.fType i = 1 &&
      s.enabled (s.fRaster i) && decide (f ≤ (s.pos (s.fRaster i)).frame ∧ k < s.npackets i) &&
      (match (s.fst i).next with
        | none => true
        | some x => decide ((videoSeq f k s i + 2 ^ 32 - x) % 2 ^ 32 < 2 ^ 31)) &&
      decide (s.txDue i (s.npackets i) k ≤ s.sinceFrame (s.fRaster i) f * s.npackets i) && !s.sendFill i) = true then
    (s.draw.1.setFst i { s.fst i with next := some ((videoSeq f k s i + 1) % 2 ^ 32) }).sendPacket i
      (f * 65536 + (if interlaced (s.fStruct i) then k % (s.npackets i / 2) else k)) (s.videoPacket i f (s.npackets i) k)
    else s) := rfl

variable {i f k s}

/-- The packet does not come before one that has left. -/
theorem packetAhead_iff {next : Option Nat} {seq : Nat} :
    (match next with
      | none => true
      | some x => decide ((seq + 2 ^ 32 - x) % 2 ^ 32 < 2 ^ 31)) = true ↔
      ∀ x, next = some x → (seq + 2 ^ 32 - x) % 2 ^ 32 < 2 ^ 31 := by
  cases next <;> simp

theorem videoDue_iff : (s.fValid i && s.fDir i = 1 && s.fType i = 1 && s.enabled (s.fRaster i) &&
      decide (f ≤ (s.pos (s.fRaster i)).frame ∧ k < s.npackets i) &&
      (match (s.fst i).next with
        | none => true
        | some x => decide ((videoSeq f k s i + 2 ^ 32 - x) % 2 ^ 32 < 2 ^ 31)) &&
      decide (s.txDue i (s.npackets i) k ≤ s.sinceFrame (s.fRaster i) f * s.npackets i) && !s.sendFill i) = true ↔
    (s.fValid i = true ∧ s.fDir i = 1) ∧ s.fType i = 1 ∧ s.enabled (s.fRaster i) = true ∧ f ≤ (s.pos (s.fRaster i)).frame ∧
      k < s.npackets i ∧ (∀ x, (s.fst i).next = some x → (videoSeq f k s i + 2 ^ 32 - x) % 2 ^ 32 < 2 ^ 31) ∧
      s.txDue i (s.npackets i) k ≤ s.sinceFrame (s.fRaster i) f * s.npackets i ∧ s.sendFill i = false := by
  simp only [Bool.and_eq_true, decide_eq_true_eq, packetAhead_iff, Bool.not_eq_true', and_assoc]

end

/-! ### ANC packets (R366) -/

section
variable {i : Fin 65536} {n : Nat} {s : State}

theorem exec_ancPacketTx : exec (.ancPacketTx i n) s = execAncPacketTx i n s := rfl

/-- An ANC entry that sends, its group without fill. -/
abbrev AncSends (i : Nat) (s : State) : Prop := (s.fValid i = true ∧ s.fDir i = 1) ∧ s.fType i = 4 ∧ s.sendFill i = false

theorem ancSends_iff : (s.fValid i && s.fDir i = 1 && s.fType i = 4 && !s.sendFill i) = true ↔ AncSends i s := by
  simp [and_assoc]

theorem ancPacketTx_off (h : ¬ AncSends i s) : exec (.ancPacketTx i n) s = .next s := by
  rw [exec_ancPacketTx]
  exact ok_ite_neg (mt ancSends_iff.mp h)

theorem ancPacketTx_none (h : s.ancNow i = none) : exec (.ancPacketTx i n) s = .next s := by
  rw [exec_ancPacketTx, execAncPacketTx]
  dsimp only
  rw [h]
  exact congrArg ok (ite_self _)

/-- The ANC packets of the field that leave together. -/
def ancMine (i n : Nat) (p : Nat × Nat) (s : State) : List AncOut :=
  ((tget s.ancOut (s.fSlot i) []).takeWhile fun a => decide ((a.frame, a.field) = p)).take n

/-- Those that wait on. -/
def ancRest (i n : Nat) (p : Nat × Nat) (s : State) : List AncOut := (tget s.ancOut (s.fSlot i) []).drop (ancMine i n p s).length

/-- The raster of the group's video entry. -/
def ancRaster (i : Nat) (s : State) : Nat := ((s.flowOfSlot (s.fSlot i) 1).map s.fRaster).getD 0

/-- The packet is the field's last: no other waits, and the field is over. -/
def ancMark (i n : Nat) (p : Nat × Nat) (s : State) : Bool :=
  !((ancRest i n p s).any fun a => decide ((a.frame, a.field) = p)) && s.fieldOver (ancRaster i s) p

/-- The packet sent: its sequence number is drawn where the entry has none. -/
def ancSent (i n : Nat) (p : Nat × Nat) (s : State) : State :=
  let x := s.fst i
  let idx := if (x.part.1, x.part.2.1) = p then x.part.2.2 else 0
  let seq := x.next.getD (s.draw.2 % 2 ^ 32)
  let data := (ancMine i n p s).flatMap ancBits
  let body := beBytes 2 (seq / 65536) ++ beBytes 2 data.length ++ [(ancMine i n p s).length % 256, p.2 * 64, 0, 0] ++ data
  let x' := { x with next := some ((seq + 1) % 2 ^ 32), marked := ancMark i n p s, part := (p.1, p.2, idx + 1) }
  { s.draw.1.setFst i x' with ancOut := tput s.ancOut (s.fSlot i) (ancRest i n p s) [] }.sendPacket i (p.1 * 65536 + idx)
    (s.rtpBytes i (ancMark i n p s) (seq % 65536) (s.frameTs (ancRaster i s) p.1 (p.2 = 3)) body)

theorem ancPacketTx_some {p : Nat × Nat} (h : AncSends i s) (hp : s.ancNow i = some p) : exec (.ancPacketTx i n) s =
    ok (if ((ancMine i n p s).isEmpty && !ancMark i n p s) = true then s else ancSent i n p s) := by
  rw [exec_ancPacketTx, execAncPacketTx]
  dsimp only
  rw [hp]
  exact congrArg ok (if_pos (ancSends_iff.mpr h))

theorem ancPacketTx_sends {p : Nat × Nat} (h : AncSends i s) (hp : s.ancNow i = some p)
    (hsome : ancMine i n p s ≠ [] ∨ ancMark i n p s = true) : exec (.ancPacketTx i n) s = .next (ancSent i n p s) := by
  refine (ancPacketTx_some h hp).trans (ok_ite_neg ?_)
  rw [Bool.and_eq_true, List.isEmpty_iff, Bool.not_eq_true']
  rintro ⟨hempty, hmark⟩
  exact hsome.elim (· hempty) (by simp [hmark])

/-- Nothing is left to send of the field, and it is not over. -/
theorem ancPacketTx_waits (h : ∀ p, s.ancNow i = some p → ancMine i n p s = [] ∧ ancMark i n p s = false) :
    exec (.ancPacketTx i n) s = .next s := by
  by_cases hs : AncSends i s
  · cases hp : s.ancNow i with
    | none => exact ancPacketTx_none hp
    | some p =>
      obtain ⟨hempty, hmark⟩ := h p hp
      exact (ancPacketTx_some hs hp).trans (ok_ite_pos (by rw [hempty, hmark]; rfl))
  · exact ancPacketTx_off hs

end

/-! ### Opaque strands (R369, R370) -/

section
variable {d : Fin 6336} {s : State} {a : Nat × List Nat} {rest : List (Nat × List Nat)}

theorem exec_opaqueForward : exec (.opaqueForward d) s = execOpaqueForward d s := rfl

/-- The packet has stood 2 us: it leaves the queue, and is sent where the strand is routed. -/
theorem opaqueForward_due (h : (tget s.opaques d.val {}).fifo = a :: rest) (hdue : a.1 + 2 * usClk ≤ s.clk) : exec (.opaqueForward d) s =
    ok (if s.opaqueOpen d = true then forEach (s.opaqueSenders d) (fun i s => s.sendPacket i 0 (s.reheaded i a.2))
      { s with opaques := tput s.opaques d.val { tget s.opaques d.val {} with fifo := rest } {} }
      else { s with opaques := tput s.opaques d.val { tget s.opaques d.val {} with fifo := rest } {} }) := by
  rw [exec_opaqueForward, execOpaqueForward]
  dsimp only
  rw [h]
  exact congrArg ok (if_neg (not_lt.mpr hdue))

theorem opaqueForward_early (h : ∀ a, (tget s.opaques d.val {}).fifo.head? = some a → s.clk < a.1 + 2 * usClk) :
    exec (.opaqueForward d) s = .next s := by
  rw [exec_opaqueForward, execOpaqueForward]
  dsimp only
  cases hf : (tget s.opaques d.val {}).fifo with
  | nil => rfl
  | cons a rest => exact ok_ite_pos (h a (by rw [hf]; rfl))

end

/-- Settles O45: each instant by what it needs to be due. -/
theorem flowTraffic : Obligations.FlowTraffic := by
  unfold Obligations.FlowTraffic
  intro i d f k n s r e l rx tx lineNow p silent npk seq inOrder videoDue per q b audioDue anc x ar wait mine rest mark idx aseq data body
    left o es po both late take
  refine ⟨ipLineEgress_other, ipLineEgress_first, ipLineEgress_not, ?silent, ?heard, ?video, ?videoNot, ?audio, ?audioNot,
    fun p h hp hsome => ancPacketTx_sends h hp hsome, fun h => h.elim ancPacketTx_off ancPacketTx_waits, ?forward, ?drop,
    opaqueForward_early, ?switch, ?still, ?late, ?waits⟩
  case silent =>
    exact fun h => ok_ite_pos (by simpa only [silent, rx, p, Bool.and_eq_true, Bool.or_eq_true, decide_eq_true_eq, and_assoc] using h)
  case heard =>
    exact fun h => ok_ite_neg fun hc =>
      h (by simpa only [silent, rx, p, Bool.and_eq_true, Bool.or_eq_true, decide_eq_true_eq, and_assoc] using hc)
  case video => exact fun h => (exec_videoPacketTx i f k s).trans (ok_ite_pos (videoDue_iff.mpr h))
  case videoNot => exact fun h => (exec_videoPacketTx i f k s).trans (ok_ite_neg (mt videoDue_iff.mp h))
  case audio =>
    exact fun h => ok_ite_pos (by simpa only [audioDue, tx, Bool.and_eq_true, decide_eq_true_eq, and_assoc] using h)
  case audioNot =>
    exact fun h => ok_ite_neg fun hc =>
      h (by simpa only [audioDue, tx, Bool.and_eq_true, decide_eq_true_eq, and_assoc] using hc)
  case forward => exact fun a rest hf hdue hopen => (opaqueForward_due hf hdue).trans (ok_ite_pos hopen)
  case drop => exact fun a rest hf hdue hopen => (opaqueForward_due hf hdue).trans (ok_ite_neg (Bool.eq_false_iff.mp hopen))
  case switch => exact fun h => ok_ite_pos (by simpa [both, and_assoc] using h)
  case still => exact fun h => ok_ite_neg fun hc => h (by simpa [both, and_assoc] using hc)
  case late =>
    exact fun h => ok_ite_pos (by simpa only [late, Bool.and_eq_true, Bool.not_eq_true', decide_eq_true_eq, and_assoc] using h)
  case waits =>
    exact fun h => ok_ite_neg fun hc =>
      h (by simpa only [late, Bool.and_eq_true, Bool.not_eq_true', decide_eq_true_eq, and_assoc] using hc)

end Sys2Proof.Proofs
end

section
/-!
PROOFS. Host packet rings (R374-R378, R384, R533) and the PTP clock's registers (R387-R391).
-/
namespace Sys2Proof.Proofs
open Sys2Proof.Machine Sys2Proof.Laws

/-! ### Rings -/

section
variable {r : RingRegs} {v : Nat} {s : State}

/-- A TAIL with more entries than the ring has. -/
abbrev TailTooFar (r : RingRegs) (v : Nat) (s : State) : Prop := s.pktSlots r < (v + 2 ^ 32 - s.rd r.head r.idx) % 2 ^ 32

theorem ringTail_tooFar (h : TailTooFar r v s) : State.ringTail r v s = (s.wr F.MEDIA_EVENT_RING_ERR 0 1).raise Irq.media := if_pos h

theorem ringTail_taken (h : ¬ TailTooFar r v s) : State.ringTail r v s = s.wr r.tail r.idx v := if_neg h

end

section
variable (m : Fin 9) (w : Word) (s : State)

theorem exec_txRingDoorbell :
    exec (.txRingDoorbell m w) s = ok (s.hostWrite (ringTailOff m 1) w.toNat (State.ringTail (txRing m) w.toNat)) := rfl

theorem exec_rxRingPost :
    exec (.rxRingPost m w) s = ok (s.hostWrite (ringTailOff m 0) w.toNat (State.ringTail (rxRing m) w.toNat)) := rfl

end

/-! ### Transmit descriptors -/

/-- The logical port a descriptor of queue `m` sends by. -/
def txPort (m : Fin 9) (w2 : Nat) : Nat := if m.val < 8 then 4 * m.val + bits w2 14 2 else 32

/-- The descriptor's RESULT. -/
def txRes (m : Fin 9) (w2 : Nat) (fr : Option (List Nat)) (s : State) : Nat := s.txResult (txPort m w2) (bits w2 0 14) fr.isNone

/-- The descriptor reported done. -/
def txDone (m : Fin 9) (res : Nat) (s : State) : State := s.ringPut (txRing m) (2 * m.val + 1) [1 + 2 * res, 0, 0, 0]

/-- Its frame on the wire, padded to 60 bytes. -/
def txSent (m : Fin 9) (w2 res : Nat) (fr : Option (List Nat)) (s : State) : State :=
  (txDone m res s).wireOut (txPort m w2)
    ((List.range (bits w2 0 14)).map (fun k => (fr.getD []).getD k 0 % 256) ++ List.replicate (60 - bits w2 0 14) 0)

/-- MGT leaves its low-power idle. -/
def txWoken (m : Fin 9) (w2 res : Nat) (fr : Option (List Nat)) (s : State) : State :=
  if m.val = 8 then { (txSent m w2 res fr s).wr F.MGT_STATUS_LPI 0 0 with lpiSince := s.clk } else txSent m w2 res fr s

/-- The tag of its transmit timestamp: the descriptor's identifier, the port and whether it corrects. -/
def txTag (m : Fin 9) (w2 w3 : Nat) (s : State) : Nat :=
  bits w3 0 16 + 65536 * (if m.val < 8 then txPort m w2 % 4 else 0) + 2 ^ 18 * b2n (s.on F.PTP_PORT_CFG_CORR_EN (txPort m w2))

/-- Its transmit timestamp joins the queue. -/
def txStamped (m : Fin 9) (w2 w3 res : Nat) (fr : Option (List Nat)) (s : State) : State :=
  let t := s.stamp (txPort m w2) false
  (txWoken m w2 res fr s).txqPush m [t.words.getD 0 0, t.words.getD 1 0, t.words.getD 2 0 + 2 ^ 30 * (s.rd F.PTP_STATUS_STEP_GEN 0 % 4),
    txTag m w2 w3 s]

section
variable {m : Fin 9} {w2 w3 : Nat} {fr : Option (List Nat)} {s : State}

theorem exec_txDescriptorSend : exec (.txDescriptorSend m w2 w3 fr) s =
    ok (if (!s.ringReady (txRing m) || (decide (txRes m w2 fr s = 0) && !s.hostMaySend (txPort m w2) (bits w2 0 14))) = true then s
      else if txRes m w2 fr s ≠ 0 then txDone m (txRes m w2 fr s) s
      else if bit w2 16 = true then txStamped m w2 w3 (txRes m w2 fr s) fr s
      else txWoken m w2 (txRes m w2 fr s) fr s) := rfl

theorem txDescriptorSend_waits
    (h : s.ringReady (txRing m) = false ∨ (txRes m w2 fr s = 0 ∧ ¬ s.hostMaySend (txPort m w2) (bits w2 0 14) = true)) :
    exec (.txDescriptorSend m w2 w3 fr) s = .next s := by
  rw [exec_txDescriptorSend]
  exact ok_ite_pos (by simpa using h)

theorem txDescriptorSend_taken (hr : s.ringReady (txRing m) = true)
    (h : txRes m w2 fr s = 0 → s.hostMaySend (txPort m w2) (bits w2 0 14) = true) : exec (.txDescriptorSend m w2 w3 fr) s =
    ok (if txRes m w2 fr s ≠ 0 then txDone m (txRes m w2 fr s) s
      else if bit w2 16 = true then txStamped m w2 w3 (txRes m w2 fr s) fr s
      else txWoken m w2 (txRes m w2 fr s) fr s) := by
  rw [exec_txDescriptorSend]
  exact congrArg ok (if_neg (by simpa [hr] using h))

theorem txDescriptorSend_reported (hr : s.ringReady (txRing m) = true) (h : txRes m w2 fr s ≠ 0) :
    exec (.txDescriptorSend m w2 w3 fr) s = .next (txDone m (txRes m w2 fr s) s) :=
  (txDescriptorSend_taken hr (absurd · h)).trans (ok_ite_pos h)

theorem txDescriptorSend_sent (hr : s.ringReady (txRing m) = true) (h : txRes m w2 fr s = 0)
    (hfree : s.hostMaySend (txPort m w2) (bits w2 0 14) = true) :
    exec (.txDescriptorSend m w2 w3 fr) s = ok (if bit w2 16 = true then txStamped m w2 w3 0 fr s else txWoken m w2 0 fr s) := by
  rw [txDescriptorSend_taken hr fun _ => hfree, if_neg (not_not.mpr h), h]

end

/-! ### Low-power idle -/

theorem exec_lpiEnter (s : State) : exec .lpiEnter s = ok (if (s.on F.MGT_CFG_EN 0 && s.on F.MGT_CFG_EEE_EN 0 &&
      decide (s.rd F.MGT_CFG_SPEED 0 ≠ 1) && decide (s.lpiSince + s.rd F.MGT_CFG_LPI_IDLE 0 * usClk ≤ s.clk) &&
      !s.ringReady (txRing 8)) = true then s.wr F.MGT_STATUS_LPI 0 1 else s) := rfl

theorem lpiIdles_iff {s : State} : (s.on F.MGT_CFG_EN 0 && s.on F.MGT_CFG_EEE_EN 0 &&
      decide (s.rd F.MGT_CFG_SPEED 0 ≠ 1) && decide (s.lpiSince + s.rd F.MGT_CFG_LPI_IDLE 0 * usClk ≤ s.clk) &&
      !s.ringReady (txRing 8)) = true ↔
    s.on F.MGT_CFG_EN 0 = true ∧ s.on F.MGT_CFG_EEE_EN 0 = true ∧ s.rd F.MGT_CFG_SPEED 0 ≠ 1 ∧ s.ringReady (txRing 8) = false ∧
      s.lpiSince + s.rd F.MGT_CFG_LPI_IDLE 0 * usClk ≤ s.clk := by
  simp only [Bool.and_eq_true, decide_eq_true_eq, Bool.not_eq_true', and_assoc]
  tauto

/-- Settles O46: a TAIL taken or not, a descriptor by its RESULT, the idle link by what holds it. -/
theorem ringCommands : Obligations.RingCommands := by
  unfold Obligations.RingCommands
  intro m w2 w3 fr w s v tooFar err r t len res free done bytes sent woken stamp gen from' idles
  have htag : bits w3 0 16 + from' = txTag m w2 w3 s := (Nat.add_assoc ..).symm
  refine ⟨?_, ?_, ?_, ?_, ?reported, ?sent, ?stamped, txDescriptorSend_waits, ?idles, ?not⟩
  · exact fun h => puts_of_eq (exec_txRingDoorbell m w s) (ringTail_tooFar h)
  · exact fun h => puts_of_eq (exec_txRingDoorbell m w s) (ringTail_taken h)
  · exact fun h => puts_of_eq (exec_rxRingPost m w s) (ringTail_tooFar h)
  · exact fun h => puts_of_eq (exec_rxRingPost m w s) (ringTail_taken h)
  case reported => exact fun hr h => txDescriptorSend_reported hr h
  case sent => exact fun hr h hfree hb => (txDescriptorSend_sent hr h hfree).trans (ok_ite_neg (Bool.eq_false_iff.mp hb))
  case stamped =>
    rw [htag]
    exact fun hr h hfree hb => (txDescriptorSend_sent hr h hfree).trans (ok_ite_pos hb)
  case idles => exact fun h => (exec_lpiEnter s).trans (ok_ite_pos (lpiIdles_iff.mpr h))
  case not => exact fun h => (exec_lpiEnter s).trans (ok_ite_neg (mt lpiIdles_iff.mp h))

/-! ### The PTP clock -/

section
variable {w : Nat} {s : State}

/-- The addend a write of ADD_HI completes. -/
def newAddend (w : Nat) (s : State) : Nat := s.rd F.PTP_ADDEND_ADD_LO 0 + 2 ^ 32 * w

theorem addendWrite_eq (hw : w < 2 ^ 32) (s : State) : State.addendWrite w s = if (sx 64 (newAddend w s)).natAbs ≤ 9223372036854775 then
    { s.wr F.PTP_ADDEND_ADD_HI 0 w with addend := newAddend w s } else s.wr F.PTP_STATUS_RATE_REFUSED 0 1 := by
  rw [State.addendWrite, Nat.mod_eq_of_lt hw]
  rfl

/-- The step taken, and the candidate that PTP was waits for the clock again. -/
def ptpMoved (s : State) : State :=
  ({ s with ptp := s.ptp.step s.stepOffset }.wr F.PTP_STATUS_ARMED 0 0).addWrap F.PTP_STATUS_STEP_GEN 0 1

theorem ptpStep_eq (s : State) : s.ptpStep = if s.on F.PTP_STATUS_ARMED 0 = true ∧ s.ptpLocked = false then
      (if s.sel = some 4 then ((ptpMoved s).wr F.REFSEL_PTP_VALID_PTP_VALID 0 0).candAbsent 4 else ptpMoved s)
    else s.wr F.PTP_STATUS_STEP_REFUSED 0 1 := by
  have hnot : ((!s.on F.PTP_STATUS_ARMED 0 || s.ptpLocked) = true) = ¬ (s.on F.PTP_STATUS_ARMED 0 = true ∧ s.ptpLocked = false) := by
    cases s.on F.PTP_STATUS_ARMED 0 <;> cases s.ptpLocked <;> decide
  by_cases h : s.on F.PTP_STATUS_ARMED 0 = true ∧ s.ptpLocked = false
  · exact (if_neg (hnot ▸ not_not.mpr h)).trans (if_pos h).symm
  · exact (if_pos (hnot ▸ h)).trans (if_neg h).symm

theorem ptpCtrl_step (h : bit w 0 = true) (h1 : bit w 1 = false) (s : State) : State.ptpCtrl w s = s.ptpStep := by
  simp only [State.ptpCtrl, h, h1, if_true, Bool.false_eq_true, if_false]

theorem ptpCtrl_rearm (h : bit w 0 = false) (h1 : bit w 1 = true) (s : State) : State.ptpCtrl w s = s.ptpRearm := by
  simp only [State.ptpCtrl, h, h1, if_true, Bool.false_eq_true, if_false]

theorem ptpCtrl_both (h : bit w 0 = true) (h1 : bit w 1 = true) (s : State) : State.ptpCtrl w s = s.ptpStep.ptpRearm := by
  simp only [State.ptpCtrl, h, h1, if_true]

end

section
variable (q : Fin 9) (w : Word) (s : State)

theorem exec_ptpAddendWrite : exec (.ptpAddendWrite w) s = ok (s.hostWrite 0x13000C w.toNat (State.addendWrite w.toNat)) := rfl

theorem exec_ptpStepGo : exec (.ptpStepGo w) s = ok (s.hostWrite 0x130000 (Nat.lor w.toNat 1) (State.ptpCtrl (Nat.lor w.toNat 1))) := rfl

theorem exec_ptpRearm : exec (.ptpRearm w) s = ok (s.hostWrite 0x130000 (Nat.lor w.toNat 2) (State.ptpCtrl (Nat.lor w.toNat 2))) := rfl

theorem exec_ptpTxqPop : exec (.ptpTxqPop q w) s =
    ok (s.hostWrite (0x130408 + 0x40 * q.val) w.toNat (State.txqPop q.val w.toNat)) := rfl

end

/-- Settles O47: the addend by its size, the step and REARM by the bits of CTRL. -/
theorem ptpCommands : Obligations.PtpCommands := by
  unfold Obligations.PtpCommands
  intro q w s a moved stepped rearmed
  have hstep : s.ptpStep = stepped := ptpStep_eq s
  refine ⟨?rate, ?refused, ?_, ?_, ?_, ?_, ?_, ?_⟩
  case rate => exact fun h => puts_of_eq (exec_ptpAddendWrite w s) ((addendWrite_eq w.isLt s).trans (if_pos h))
  case refused => exact fun h => puts_of_eq (exec_ptpAddendWrite w s) ((addendWrite_eq w.isLt s).trans (if_neg (not_le.mpr h)))
  · exact fun h => puts_of_eq (exec_ptpStepGo w s)
      ((ptpCtrl_step (bit_lor_one _) ((bit_lor_clear (by decide) _).trans h) s).trans hstep)
  · exact fun h => puts_of_eq (exec_ptpStepGo w s)
      ((ptpCtrl_both (bit_lor_one _) ((bit_lor_clear (by decide) _).trans h) s).trans (congrArg rearmed hstep))
  · exact fun h => puts_of_eq (exec_ptpRearm w s)
      (ptpCtrl_rearm ((bit_lor_clear (by decide) _).trans h) (bit_lor_set (by decide) _) s)
  · exact fun h => puts_of_eq (exec_ptpRearm w s)
      ((ptpCtrl_both ((bit_lor_clear (by decide) _).trans h) (bit_lor_set (by decide) _) s).trans (congrArg rearmed hstep))
  · exact fun h => puts_of_eq (exec_ptpTxqPop q w s) (if_pos h)
  · exact fun h => puts_of_eq (exec_ptpTxqPop q w s) (if_neg (Bool.eq_false_iff.mp h))

end Sys2Proof.Proofs
end

section
/-!
PROOFS. The twin link: what is received, repeated and lost (R394-R398, R409-R411, R414), and pairing (R392, R396, R397, R404, R410, R460).
-/
namespace Sys2Proof.Proofs
open Sys2Proof.Machine Sys2Proof.Laws

/-! ### Messages that arrive -/

section
variable (h : CobHdr) (b ws : List Nat) (v : Nat) (n : Fin 5) (pc code : Nat) (reason : Fin 256) (s : State)

theorem exec_helloRx : exec (.helloRx h b) s = ok (s.arrive h (.hello b)) := rfl

theorem exec_timeRx : exec (.timeRx h v) s = ok (s.arrive h (.time v)) := rfl

theorem exec_giveupRx : exec (.giveupRx h reason) s = ok (s.arrive h .giveup) := rfl

/-- What is set of the twin's record alone is undone with it. -/
theorem setTwin_undone (x : State) (f : Twin → Twin) : { x.setTwin f with twin := x.twin } = x := rfl

/-- A message heard early is held, and changes nothing else. -/
theorem helloRx_early (hs : s.seeks = true) (hseq : h.seq ≠ (s.heard h).twin.rxSeq) (he : s.comesEarly h = true) :
    ∃ t, exec (.helloRx h b) s = .next t ∧ t.twin.held.head? = some (h, .hello b) ∧ { t with twin := (s.heard h).twin } = s.heard h := by
  obtain ⟨_, hearly, -⟩ := receives_of (exec_helloRx h b s) rfl
  exact ⟨_, hearly hs hseq he, rfl, setTwin_undone _ _⟩

variable {h} {s}

/-- A message that only the side of this device's role sends. -/
theorem receivesFrom_breach {r typ : Nat} {c : Instr} {m : Received} {t : State} (hc : ReceivesFrom r typ c h m s t)
    (hd : s.Delivers h) (hr : (s.taken h).role = r) (hw : s.waiting h = 0) :
    exec c s = .next ((s.taken h).cobaltBreach 0x03 1 typ h.seq) := by
  obtain ⟨htaken, -⟩ := hc
  rw [htaken hd, hw, if_pos hr]
  rfl

theorem timeRx_from : ReceivesFrom 1 Mt.time (.timeRx h v) h (.time v) s ((s.taken h).twinTime v h.seq) :=
  receivesFrom_of (f := fun s => s.twinTime v h.seq) (exec_timeRx h v s) one_ne_zero rfl rfl

/-! ### What ownership does at GIVEUP -/

theorem onGiveup_standby (hm : s.mode = Mode.standby) : State.onGiveup s = s.takeOwn.reselect := if_pos hm

theorem onGiveup_active (hm : s.mode = Mode.active) : State.onGiveup s = (s.leaveActive Mode.standby).reselect :=
  (if_neg (by rw [hm]; decide)).trans (if_pos hm)

theorem onGiveup_other (hs : s.mode ≠ Mode.standby) (ha : s.mode ≠ Mode.active) : State.onGiveup s = s :=
  (if_neg hs).trans (if_neg ha)

theorem giveupRx_receives {t : State} (ht : State.onGiveup (s.taken h) = t) : Receives (.giveupRx h reason) h .giveup s t :=
  receives_of (exec_giveupRx h reason s) ((deliver_taken Mt.giveup 0 State.onGiveup (.inl rfl)).trans ht)

end

/-! ### A message that is discarded (R394, R395, R398, R414) -/

section
variable {lane : Fin 4} {som : Nat} {ws : List Nat} {u : Bool} {s : State}

theorem exec_discardedMessageRx : exec (.discardedMessageRx lane (som, ws) u) s =
    ok (if (!s.seeks) = true then s else if u = true then s.incSat F.COBALT_LANE_UNCORR lane
      else if badLen som ws = true then s.cobaltBreach 0x01 1 (wordsType ws) (wordsHdr lane ws).seq
      else if (goodCrc ws && reservedType (wordsType ws)) = true then s.arrive (wordsHdr lane ws) (.other (wordsType ws)) else s) := rfl

theorem discarded_unheard (hs : s.seeks = false) : exec (.discardedMessageRx lane (som, ws) u) s = .next s :=
  exec_discardedMessageRx.trans (ok_ite_pos (by rw [hs]; rfl))

theorem discarded_heard (hs : s.seeks = true) : exec (.discardedMessageRx lane (som, ws) u) s =
    ok (if u = true then s.incSat F.COBALT_LANE_UNCORR lane
      else if badLen som ws = true then s.cobaltBreach 0x01 1 (wordsType ws) (wordsHdr lane ws).seq
      else if (goodCrc ws && reservedType (wordsType ws)) = true then s.arrive (wordsHdr lane ws) (.other (wordsType ws)) else s) :=
  exec_discardedMessageRx.trans (congrArg ok (if_neg (by rw [hs]; decide)))

theorem discarded_badFrame (hs : s.seeks = true) : exec (.discardedMessageRx lane (som, ws) true) s =
    .next (s.incSat F.COBALT_LANE_UNCORR lane) := discarded_heard hs

theorem discarded_badLen (hs : s.seeks = true) (hu : u = false) (hl : badLen som ws = true) :
    exec (.discardedMessageRx lane (som, ws) u) s = .next (s.cobaltBreach 0x01 1 (wordsType ws) (wordsHdr lane ws).seq) := by
  subst hu
  exact (discarded_heard hs).trans (ok_ite_pos hl)

/-- A sound message goes by its CRC and TYPE; where no twin is sought it does not arrive. -/
theorem discarded_sound (hu : u = false) (hl : badLen som ws = false) : exec (.discardedMessageRx lane (som, ws) u) s =
    ok (if (goodCrc ws && reservedType (wordsType ws)) = true then s.arrive (wordsHdr lane ws) (.other (wordsType ws)) else s) := by
  subst hu
  cases hs : s.seeks with
  | true => exact (discarded_heard hs).trans (congrArg ok (if_neg (Bool.eq_false_iff.mp hl)))
  | false =>
    have harrive : s.arrive (wordsHdr lane ws) (.other (wordsType ws)) = s := if_pos (by rw [hs]; rfl)
    rw [discarded_unheard hs, harrive, ite_self]
    rfl

theorem discarded_reserved (hu : u = false) (hl : badLen som ws = false)
    (hk : goodCrc ws = true ∧ reservedType (wordsType ws) = true) :
    Receives (.discardedMessageRx lane (som, ws) u) (wordsHdr lane ws) (.other (wordsType ws)) s
      ((s.taken (wordsHdr lane ws)).cobaltBreach 0x02 1 (wordsType ws) (wordsHdr lane ws).seq) :=
  receives_of ((discarded_sound hu hl).trans (congrArg ok (if_pos (by simpa using hk))))
    (deliver_taken (wordsType ws) 0 (fun s => s.cobaltBreach 0x02 1 (wordsType ws) (wordsHdr lane ws).seq) (.inl rfl))

theorem discarded_dropped (hu : u = false) (hl : badLen som ws = false)
    (hk : ¬ (goodCrc ws = true ∧ reservedType (wordsType ws) = true)) :
    exec (.discardedMessageRx lane (som, ws) u) s = .next s :=
  (discarded_sound hu hl).trans (ok_ite_neg (by simpa using hk))

end

/-! ### The link lost, messages repeated, and silence (R395, R409, R410) -/

section
variable (unframed : Bool) (s : State)

theorem exec_cobaltLinkLost : exec (.cobaltLinkLost unframed) s = ok (if (s.on F.COBALT_STATUS_LINK_UP 0 &&
    (unframed || decide (s.twin.lastRx + 30 * usClk ≤ s.clk))) = true then s.linkLost else s) := rfl

theorem linkGone_iff {unframed : Bool} {s : State} : (s.on F.COBALT_STATUS_LINK_UP 0 &&
      (unframed || decide (s.twin.lastRx + 30 * usClk ≤ s.clk))) = true ↔
    s.on F.COBALT_STATUS_LINK_UP 0 = true ∧ (unframed = true ∨ s.twin.lastRx + 30 * usClk ≤ s.clk) := by
  simp only [Bool.and_eq_true, Bool.or_eq_true, decide_eq_true_eq]

theorem exec_silenceTakeover : exec .silenceTakeover s = ok (if (s.mode = Mode.standby && s.on F.COBALT_CTRL_TAKE_ON_SILENCE 0 &&
    s.pair = Ps.lost && decide (s.twin.lostAt + s.rd F.COBALT_CFG_SILENT_MS 0 * msClk ≤ s.clk)) = true then s.takeOwn.reselect
    else s) := rfl

variable {s}

/-- The oldest message that no one has acknowledged for 24 us. -/
abbrev oldestUnacked (s : State) : Option Msg := s.twin.unacked.find? fun m => decide (m.sent + 24 * usClk ≤ s.clk)

theorem exec_cobaltRetxTimeout (s : State) : exec (.cobaltRetxTimeout ()) s = ok (match oldestUnacked s with
      | none => s
      | some m => if 3 ≤ m.tries then s.linkLost
        else (s.transmit { m with tries := m.tries + 1 }).incSat F.COBALT_LANE_RETX s.shortLane.1) := rfl

theorem cobaltRetxTimeout_none (h : oldestUnacked s = none) : exec (.cobaltRetxTimeout ()) s = .next s := by
  simp only [exec_cobaltRetxTimeout, h, ok]

theorem cobaltRetxTimeout_some {m : Msg} (h : oldestUnacked s = some m) : exec (.cobaltRetxTimeout ()) s =
    ok (if 3 ≤ m.tries then s.linkLost
      else (s.transmit { m with tries := m.tries + 1 }).incSat F.COBALT_LANE_RETX s.shortLane.1) := by
  simp only [exec_cobaltRetxTimeout, h]

end

/-- Settles O48: what is received by its place in the sequence, the link and ownership by what lasts. -/
theorem twinLink : Obligations.TwinLink := by
  unfold Obligations.TwinLink
  constructor
  · intro h v som pc code b ws n lane u s g sound unknown c
    have htime : ReceivesFrom 1 Mt.time (.timeRx h v) h (.time v) s ((s.taken h).twinTime v h.seq) := timeRx_from v
    have hrec : ReceivesFrom 1 Mt.record (.recordRx h n ws) h (.record n ws) s (State.onRecord h.seq n ws (s.taken h)) :=
      receivesFrom_of (exec_recordRx h n ws s) one_ne_zero rfl rfl
    have hcack : ReceivesFrom 2 Mt.cack (.cackRx h n pc code) h (.cack n pc) s (State.onCack h.seq n pc (s.taken h)) :=
      receivesFrom_of (exec_cackRx h n pc code s) two_ne_zero rfl rfl
    have hhello : Receives (.helloRx h b) h (.hello b) s (State.onHello b (s.taken h)) :=
      receives_of (exec_helloRx h b s) (deliver_taken Mt.hello 0 (State.onHello b) (.inl rfl))
    obtain ⟨-, -, htimeLate, htimeOff⟩ := htime
    obtain ⟨-, -, -, hrecOff⟩ := hrec
    obtain ⟨-, -, hhelloLate, hhelloOff⟩ := hhello
    refine ⟨fun hs => ⟨hhelloOff hs, htimeOff hs, hrecOff hs⟩, fun hs hq he => ⟨hhelloLate hs hq he, htimeLate hs hq he⟩,
      helloRx_early h b s, fun hd hr hw => ⟨receivesFrom_breach (timeRx_from v) hd hr hw, ?record⟩,
      receivesFrom_breach hcack, discarded_unheard, ?frame, discarded_badLen, fun hsd => discarded_reserved hsd.1 hsd.2,
      fun hsd => discarded_dropped hsd.1 hsd.2⟩
    case record =>
      exact receivesFrom_breach (receivesFrom_of (exec_recordRx h n ws s) one_ne_zero rfl rfl) hd hr hw
    case frame =>
      rintro hs rfl
      exact discarded_badFrame hs
  · intro h reason unframed s x oldest silent gone
    refine ⟨?lost, ?up, ?last, ?again, cobaltRetxTimeout_none, fun hm => giveupRx_receives reason (onGiveup_standby hm),
      fun hm => giveupRx_receives reason (onGiveup_active hm), fun hs ha => giveupRx_receives reason (onGiveup_other hs ha),
      ?silent, ?still⟩
    case lost => exact fun hg => (exec_cobaltLinkLost unframed s).trans (ok_ite_pos (linkGone_iff.mpr hg))
    case up => exact fun hg => (exec_cobaltLinkLost unframed s).trans (ok_ite_neg (mt linkGone_iff.mp hg))
    case last => exact fun m hm ht => (cobaltRetxTimeout_some hm).trans (ok_ite_pos ht)
    case again => exact fun m hm ht => (cobaltRetxTimeout_some hm).trans (ok_ite_neg (not_le.mpr ht))
    case silent =>
      exact fun hs => (exec_silenceTakeover s).trans (ok_ite_pos (by simpa only [Bool.and_eq_true, decide_eq_true_eq, and_assoc] using hs))
    case still =>
      exact fun hs => (exec_silenceTakeover s).trans (ok_ite_neg (by simpa only [Bool.and_eq_true, decide_eq_true_eq, and_assoc] using hs))

/-! ### HELLO (R392) -/

section
variable {h : CobHdr} {b : List Nat} {s : State}

/-- The twin's mode as its HELLO gives it. -/
def helloMet (b : List Nat) (s : State) : State := s.setTwin fun t => { t with peerMode := b.getD 3 0 }

theorem helloRx_receives {t : State} (ht : State.onHello b (s.taken h) = t) : Receives (.helloRx h b) h (.hello b) s t :=
  receives_of (exec_helloRx h b s) ((deliver_taken Mt.hello 0 (State.onHello b) (.inl rfl)).trans ht)

theorem onHello_notSought (hp : s.pair ≠ Ps.hello) : State.onHello b s = s := if_pos hp

theorem onHello_pairs (hp : s.pair = Ps.hello) (hf : s.pairFails b = 0) : State.onHello b s = (helloMet b s).paired b :=
  (if_neg (not_not.mpr hp)).trans (if_pos hf)

theorem onHello_fails (hp : s.pair = Ps.hello) (hf : s.pairFails b ≠ 0) :
    State.onHello b s = (helloMet b s).pairFailed (s.pairFails b) :=
  (if_neg (not_not.mpr hp)).trans (if_neg hf)

end

/-! ### A write of COBALT_CTRL (R392, R404, R410, R460) -/

section
variable (w : Nat) (s : State)

/-- The settings taken, and PAIR_EN after them. -/
def ctrlTaken : State := ((s.writeWord 0x140000 w).pairEn (s.on F.COBALT_CTRL_PAIR_EN 0)).reselect

/-- TAKE: a standby tells the other to give up, and takes ownership. -/
def ctrlTake (t : State) : State := if t.mode = Mode.standby then (t.draw.1.send Mt.giveup [t.draw.2 % 256]).takeOwn else t

/-- RESYNC: a transfer begins, or is asked for. -/
def ctrlResync (t : State) : State :=
  if t.on F.COBALT_STATUS_LINK_UP 0 = false then t
  else if t.mode = Mode.active ∧ Ps.transfer ≤ t.pair ∧ t.pair ≤ Ps.inStep then t.startTransfer
  else if t.mode = Mode.standby then t.setTwin fun t => { t with resyncAsked := true } else t

theorem ctrlResync_up {t : State} (h : t.on F.COBALT_STATUS_LINK_UP 0 = true) : ctrlResync t =
    if t.mode = Mode.active then (if Ps.transfer ≤ t.pair ∧ t.pair ≤ Ps.inStep then t.startTransfer else t)
    else if t.mode = Mode.standby then t.setTwin fun t => { t with resyncAsked := true } else t := by
  rw [ctrlResync, if_neg (by rw [h]; decide)]
  by_cases hm : t.mode = Mode.active
  · have hs : t.mode ≠ Mode.standby := by rw [hm]; decide
    simp only [hm, true_and, if_true, if_neg (hm ▸ hs)]
  · simp only [hm, false_and, if_false]

theorem cobaltCtrl_eq : State.cobaltCtrl w s =
    let a := if bit w 5 = true then ctrlTake (ctrlTaken w s) else ctrlTaken w s
    if bit w 6 = true then ctrlResync a else a := by
  have htake : (if (bit w 5 && (ctrlTaken w s).mode = Mode.standby) = true then
      ((ctrlTaken w s).draw.1.send Mt.giveup [(ctrlTaken w s).draw.2 % 256]).takeOwn else ctrlTaken w s) =
      if bit w 5 = true then ctrlTake (ctrlTaken w s) else ctrlTaken w s := by
    cases bit w 5 <;> simp [ctrlTake]
  refine Eq.trans (b := let a := if bit w 5 = true then ctrlTake (ctrlTaken w s) else ctrlTaken w s
    if (bit w 6 && a.on F.COBALT_STATUS_LINK_UP 0) = true then
      (if a.mode = Mode.active then (if Ps.transfer ≤ a.pair ∧ a.pair ≤ Ps.inStep then a.startTransfer else a)
        else if a.mode = Mode.standby then a.setTwin fun t => { t with resyncAsked := true } else a)
    else a) (by rw [← htake]; rfl) ?_
  generalize (if bit w 5 = true then ctrlTake (ctrlTaken w s) else ctrlTaken w s) = a
  dsimp only
  cases hup : a.on F.COBALT_STATUS_LINK_UP 0 with
  | true => rw [ctrlResync_up hup, Bool.and_true]
  | false =>
    have hstill : ctrlResync a = a := if_pos hup
    rw [hstill, ite_self, Bool.and_false]
    rfl

end

/-! ### STATUS, ECHO and TIME (R396, R397) -/

section
variable {h : CobHdr} {s : State}

theorem echoDue_iff : ((match s.twin.lastEcho with
      | some t => decide (t + sClk ≤ s.clk)
      | none => true) && decide (Ps.transfer ≤ s.pair ∧ s.pair ≤ Ps.inStep)) = true ↔
    (∀ t, s.twin.lastEcho = some t → t + sClk ≤ s.clk) ∧ Ps.transfer ≤ s.pair ∧ s.pair ≤ Ps.inStep := by
  cases s.twin.lastEcho <;> simp

theorem exec_cobaltEchoTx (s : State) : exec .cobaltEchoTx s = ok (if ((match s.twin.lastEcho with
      | some t => decide (t + sClk ≤ s.clk)
      | none => true) && decide (Ps.transfer ≤ s.pair ∧ s.pair ≤ Ps.inStep)) = true then
    (s.send Mt.echo (houseValue s.houseAtSom ++ houseValue 0 ++ houseValue 0)).setTwin fun t => { t with lastEcho := some s.clk }
    else s) := rfl

theorem echoRx_receives {orig rx tx : Nat} {t : State} (ht : State.onEcho orig rx tx (s.taken h) = t) :
    Receives (.echoRx h orig rx tx) h (.echo orig rx tx) s t :=
  receives_of rfl ((deliver_taken Mt.echo 0 (State.onEcho orig rx tx) (.inl rfl)).trans ht)

end

/-- Settles O49: a HELLO by whether it passes, COBALT_CTRL bit by bit, and each message by its kind. -/
theorem pairingCommands : Obligations.PairingCommands := by
  unfold Obligations.PairingCommands
  intro h b mode pair own resync low orig rx tx v w s x met ctl take again done src status echoDue loop
  have hctrl (v : Nat) : State.cobaltCtrl v s = done v (bit v 5) (bit v 6) := cobaltCtrl_eq v s
  refine ⟨fun hp hf => helloRx_receives (onHello_pairs hp hf), fun hp hf => helloRx_receives (onHello_fails hp hf),
    fun hp => helloRx_receives (onHello_notSought hp), puts_of_eq (f := State.cobaltCtrl w.toNat) rfl (hctrl _), ?take, ?resync,
    ?status, ?early, ?statusRx, ?echo, ?quiet, ?asked, ?answered, ?time, ?notActive, timeRx_from v⟩
  case take =>
    refine puts_of_eq (f := State.cobaltCtrl (Nat.lor w.toNat 32)) rfl ((hctrl _).trans ?_)
    rw [bit_lor_set (show bit 32 5 = true by decide), bit_lor_clear (show bit 32 6 = false by decide)]
  case resync =>
    refine puts_of_eq (f := State.cobaltCtrl (Nat.lor w.toNat 64)) rfl ((hctrl _).trans ?_)
    rw [bit_lor_set (show bit 64 6 = true by decide), bit_lor_clear (show bit 64 5 = false by decide)]
  case status => exact fun hd => ok_ite_pos hd
  case statusRx =>
    exact receives_of rfl (deliver_taken Mt.status 0 (fun s => s.peerStatus mode pair own resync low) (.inl rfl))
  case early => exact fun hd => ok_ite_neg (not_le.mpr hd)
  case echo => exact fun hd => (exec_cobaltEchoTx s).trans (ok_ite_pos (echoDue_iff.mpr hd))
  case quiet => exact fun hd => (exec_cobaltEchoTx s).trans (ok_ite_neg (mt echoDue_iff.mp hd))
  case asked => exact fun hq => echoRx_receives (if_pos hq)
  case answered => exact fun hq => echoRx_receives (if_neg hq)
  case time => exact fun hm => ok_ite_pos hm
  case notActive => exact fun hm => ok_ite_neg hm

end Sys2Proof.Proofs
end

section
/-!
PROOFS. The state transfer, its digests, and the way to IN_STEP (R403-R406).
-/
namespace Sys2Proof.Proofs
open Sys2Proof.Machine Sys2Proof.Laws

section
variable (h : CobHdr) (o off : Nat) (ws : List Nat) (n : Fin 8) (errs : List (Fin 8192)) (s : State)

/-! ### The copy taken, digests sent, the pair in step: due or not -/

theorem exec_stateTransferFreeze : exec .stateTransferFreeze s = ok (if (s.mode = Mode.active && s.pair = Ps.transfer &&
      !s.twin.transferring && decide (s.twin.peerMode = Mode.standby) && !s.twin.peerReset && s.on F.COBALT_STATUS_LINK_UP 0 &&
      s.enginesQuiet) = true then
    (forEach ((List.range stateObjects).map (· + 1)) (fun o s' => s'.sendObject o (flatRows (s.object o))) s).markCopied.setTwin fun t =>
      { t with transferring := true, alone := false }
    else s) := rfl

theorem freezes_iff {s : State} : (s.mode = Mode.active && s.pair = Ps.transfer &&
      !s.twin.transferring && decide (s.twin.peerMode = Mode.standby) && !s.twin.peerReset && s.on F.COBALT_STATUS_LINK_UP 0 &&
      s.enginesQuiet) = true ↔
    s.mode = Mode.active ∧ s.pair = Ps.transfer ∧ s.twin.transferring = false ∧ s.twin.peerMode = Mode.standby ∧
      s.twin.peerReset = false ∧ s.on F.COBALT_STATUS_LINK_UP 0 = true ∧ s.enginesQuiet = true := by
  simp only [Bool.and_eq_true, decide_eq_true_eq, Bool.not_eq_true', and_assoc]

theorem exec_digestTx : exec (.digestTx n errs) s = ok (if (s.enabled n && decide (0 < (s.pos n).frame) &&
      decide ((tget s.twin.digests (2 * n.val) []).head? ≠ some ((s.pos n).frame - 1))) = true then
    (s.sendDigest n.val ((s.pos n).frame - 1) (s.digEntries n errs)).digStore (2 * n.val) ((s.pos n).frame - 1) (s.digEntries n errs) true
    else s) := rfl

theorem digestEnded_iff {n : Fin 8} {s : State} : (s.enabled n && decide (0 < (s.pos n).frame) &&
      decide ((tget s.twin.digests (2 * n.val) []).head? ≠ some ((s.pos n).frame - 1))) = true ↔
    s.enabled n = true ∧ 0 < (s.pos n).frame ∧ (tget s.twin.digests (2 * n.val) []).head? ≠ some ((s.pos n).frame - 1) := by
  simp only [Bool.and_eq_true, decide_eq_true_eq, and_assoc]

theorem exec_pairInStep : exec .pairInStep s = ok (if s.pair = Ps.converging ∧ 64 ≤ s.twin.cleanFrames ∧ s.twin.alone = false then
    ((s.setPair Ps.inStep).event F.COBALT_EVENT_PAIRED 0 Irq.cobalt).swapTimer else s) := rfl

/-! ### A part of an object -/

theorem exec_stateRx : exec (.stateRx h o (off, ws)) s = ok (s.arrive h (.state o off ws)) := rfl

variable {h o off ws s}

/-- The object's words with this part joined. -/
def stateJoined (off : Nat) (ws : List Nat) (s : State) : List Nat := (if off = 0 then [] else s.twin.part.take off) ++ ws

/-- The part kept, the transfer under way. -/
def partKept (off : Nat) (ws : List Nat) (s : State) : State :=
  (s.setTwin fun t => { t with part := stateJoined off ws s, alone := true }).setPair Ps.transfer

/-- The object installed once its words are all there. -/
def objectInstalled (o off : Nat) (ws : List Nat) (s : State) : State :=
  (partKept off ws s).install o (rowsFrom (stateJoined off ws s).length (stateJoined off ws s).tail)

theorem onState_eq : State.onState o off ws s = if s.role ≠ 2 then s
    else if (stateJoined off ws s).headD 0 ≠ (stateJoined off ws s).length then partKept off ws s
    else if o = stateObjects then
      (((objectInstalled o off ws s).markCopied.setTwin fun t =>
        { t with part := [], got := [], alone := false, resyncAsked := false, cleanFrames := 0 }).setPair Ps.converging).admShow
    else (objectInstalled o off ws s).setTwin fun t => { t with part := [], got := o :: (if o = 1 then [] else s.twin.got) } := rfl

theorem onState_notStandby (hr : s.role ≠ 2) : State.onState o off ws s = s := onState_eq.trans (if_pos hr)

theorem onState_part (hr : s.role = 2) (hw : (stateJoined off ws s).headD 0 ≠ (stateJoined off ws s).length) :
    State.onState o off ws s = partKept off ws s :=
  onState_eq.trans ((if_neg (not_not.mpr hr)).trans (if_pos hw))

theorem onState_object (hr : s.role = 2) (hw : (stateJoined off ws s).headD 0 = (stateJoined off ws s).length) (ho : o ≠ stateObjects) :
    State.onState o off ws s =
      (objectInstalled o off ws s).setTwin fun t => { t with part := [], got := o :: (if o = 1 then [] else s.twin.got) } :=
  onState_eq.trans ((if_neg (not_not.mpr hr)).trans ((if_neg (not_not.mpr hw)).trans (if_neg ho)))

theorem onState_last (hr : s.role = 2) (hw : (stateJoined off ws s).headD 0 = (stateJoined off ws s).length) (ho : o = stateObjects) :
    State.onState o off ws s = (((objectInstalled o off ws s).markCopied.setTwin fun t =>
      { t with part := [], got := [], alone := false, resyncAsked := false, cleanFrames := 0 }).setPair Ps.converging).admShow :=
  onState_eq.trans ((if_neg (not_not.mpr hr)).trans ((if_neg (not_not.mpr hw)).trans (if_pos ho)))

theorem stateRx_receives {t : State} (ht : State.onState o off ws (s.taken h) = t) :
    ReceivesFrom 1 Mt.state (.stateRx h o (off, ws)) h (.state o off ws) s t :=
  receivesFrom_of (exec_stateRx h o off ws s) one_ne_zero rfl ht

end

/-- Settles O50: the copy when its instant has come, a part by what it completes, digests and IN_STEP when due. -/
theorem transferAndDigests : Obligations.TransferAndDigests := by
  unfold Obligations.TransferAndDigests
  intro h o off frame ws n errs es s x all whole joined y f freezes ended clean c m
  refine ⟨?freezes, ?still, fun hr => stateRx_receives (onState_notStandby hr), fun hr hw => stateRx_receives (onState_part hr hw),
    fun hr hw ho => stateRx_receives (onState_object hr hw ho), fun hr hw ho => stateRx_receives (onState_last hr hw ho),
    ?ended, ?open_, ?digest, ?clean, ?unclean⟩
  case freezes => exact fun hf => (exec_stateTransferFreeze s).trans (ok_ite_pos (freezes_iff.mpr hf))
  case still => exact fun hf => (exec_stateTransferFreeze s).trans (ok_ite_neg (mt freezes_iff.mp hf))
  case ended => exact fun he => (exec_digestTx n errs s).trans (ok_ite_pos (digestEnded_iff.mpr he))
  case open_ => exact fun he => (exec_digestTx n errs s).trans (ok_ite_neg (mt digestEnded_iff.mp he))
  case digest => exact receives_of rfl (deliver_taken Mt.digest 0 (State.onDigest n frame es) (.inl rfl))
  case clean => exact fun hc => (exec_pairInStep s).trans (ok_ite_pos hc)
  case unclean => exact fun hc => (exec_pairInStep s).trans (ok_ite_neg hc)

end Sys2Proof.Proofs
end

section
/-!
PROOFS. Host requests and returns of resources, and the request queue (R418-R421, R423).
-/
namespace Sys2Proof.Proofs
open Sys2Proof.Machine Sys2Proof.Laws

/-! ### A write of ADMIT_ASK -/

section
variable {w : Nat} {s : State}

/-- The class of the request is this device's own, or it is no standby. -/
abbrev AskLocal (s : State) : Prop := s.mode = Mode.standby → localClass (s.rd F.ADMIT_ASK_CLASS 0) = true

/-- What a standby answers to a change of what is mirrored. -/
abbrev standbyRefused (s : State) : State := s.event F.COBALT_EVENT_STBY_REFUSED 0 Irq.cobalt

/-- CANCEL of the request that waits, before GO. -/
def askTaken (w : Nat) (s : State) : State :=
  if bit w 1 = true then (s.wr F.ADMIT_ASK_WAIT 0 (bits w 2 1)).hostCancel else s.wr F.ADMIT_ASK_WAIT 0 (bits w 2 1)

theorem askCtrl_refused (h : ¬ AskLocal s) : State.askCtrl w s = standbyRefused s := by
  obtain ⟨hm, hl⟩ := Classical.not_imp.mp h
  exact if_pos ⟨hm, by rw [Bool.eq_false_iff.mpr hl]; rfl⟩

theorem askCtrl_taken (h : AskLocal s) : State.askCtrl w s = if bit w 0 = true then (askTaken w s).hostAsk w else askTaken w s :=
  if_neg fun hc => by simp [h hc.1] at hc

theorem askCtrl_go (h : AskLocal s) (h0 : bit w 0 = true) : State.askCtrl w s = (askTaken w s).hostAsk w :=
  (askCtrl_taken h).trans (if_pos h0)

theorem askCtrl_cancels (h : AskLocal s) (h0 : bit w 0 = false) : State.askCtrl w s = askTaken w s :=
  (askCtrl_taken h).trans (if_neg (Bool.eq_false_iff.mp h0))

/-- The verdict on the request the registers hold. -/
abbrev hostVerdict (w : Nat) (s : State) : Option Nat :=
  s.askVerdict (s.rd F.ADMIT_ASK_CLASS 0) (s.rd F.ADMIT_ASK_INSTANCE 0) (s.rd F.ADMIT_ASK_PARAM 0) (bit w 2)

/-- The grant it would be given. -/
abbrev hostGrant (s : State) : State × Nat :=
  s.grant 7 (s.rd F.ADMIT_ASK_CLASS 0) (s.rd F.ADMIT_ASK_INSTANCE 0) (s.rd F.ADMIT_ASK_PARAM 0)

theorem hostAsk_waiting (h : s.rd F.ADMIT_ASK_STATE 0 = 1) : s.hostAsk w = s := if_pos h

theorem hostAsk_eq (h : s.rd F.ADMIT_ASK_STATE 0 ≠ 1) : s.hostAsk w = match hostVerdict w s with
    | none => ({ s with adm := { s.adm with queue := s.adm.queue ++ [AskReq.mk 7 (s.rd F.ADMIT_ASK_CLASS 0)
        (s.rd F.ADMIT_ASK_INSTANCE 0) (s.rd F.ADMIT_ASK_PARAM 0)] } }.admShow).hostAskEnd 0 0 1
    | some code => if code = Rc.ok then ((hostGrant s).1.hostAskEnd code (hostGrant s).2 2).mirrorHostAsk
        (s.rd F.ADMIT_ASK_CLASS 0) (s.rd F.ADMIT_ASK_INSTANCE 0) (s.rd F.ADMIT_ASK_PARAM 0) code (hostGrant s).2
      else s.hostAskEnd code 0 3 := if_neg h

theorem hostAsk_queued (h : s.rd F.ADMIT_ASK_STATE 0 ≠ 1) (hv : hostVerdict w s = none) : s.hostAsk w =
    ({ s with adm := { s.adm with queue := s.adm.queue ++ [AskReq.mk 7 (s.rd F.ADMIT_ASK_CLASS 0)
      (s.rd F.ADMIT_ASK_INSTANCE 0) (s.rd F.ADMIT_ASK_PARAM 0)] } }.admShow).hostAskEnd 0 0 1 := by
  simp only [hostAsk_eq h, hv]

theorem hostAsk_granted (h : s.rd F.ADMIT_ASK_STATE 0 ≠ 1) (hv : hostVerdict w s = some Rc.ok) : s.hostAsk w =
    ((hostGrant s).1.hostAskEnd Rc.ok (hostGrant s).2 2).mirrorHostAsk (s.rd F.ADMIT_ASK_CLASS 0)
      (s.rd F.ADMIT_ASK_INSTANCE 0) (s.rd F.ADMIT_ASK_PARAM 0) Rc.ok (hostGrant s).2 := by
  simp only [hostAsk_eq h, hv, if_true]

theorem hostAsk_denied {k : Nat} (h : s.rd F.ADMIT_ASK_STATE 0 ≠ 1) (hv : hostVerdict w s = some k) (hk : k ≠ Rc.ok) :
    s.hostAsk w = s.hostAskEnd k 0 3 := by
  simp only [hostAsk_eq h, hv, if_neg hk]

end

/-! ### The queue -/

section
variable {s : State} {r : AskReq} {rest : List AskReq}

theorem exec_admitQueueGrant (s : State) : exec .admitQueueGrant s = ok s.serveQueue := rfl

/-- Room for the request. -/
abbrev RequestFits (r : AskReq) (s : State) : Prop := ∃ c, costOf r.cls r.param = some c ∧ s.fits r.cls c = true

theorem serveQueue_cons (h : s.adm.queue = r :: rest) (hd : s.decides r = true) : s.serveQueue =
    if (s.heldEntry r.cls r.inst).isSome = true then (s.unqueue r).askEnd r Rc.grantHeld 0
    else match costOf r.cls r.param with
      | some c => if s.fits r.cls c = true then
          ((s.unqueue r).grant r.master r.cls r.inst r.param).1.askEnd r Rc.ok ((s.unqueue r).grant r.master r.cls r.inst r.param).2 else s
      | none => s := by
  simp only [State.serveQueue, h, hd, Bool.not_true, Bool.false_eq_true, if_false] <;> rfl

theorem serveQueue_taken (h : s.adm.queue = r :: rest) (hd : s.decides r = true) (ht : (s.heldEntry r.cls r.inst).isSome = true) :
    s.serveQueue = (s.unqueue r).askEnd r Rc.grantHeld 0 := (serveQueue_cons h hd).trans (if_pos ht)

theorem serveQueue_grants (h : s.adm.queue = r :: rest) (hd : s.decides r = true) (ht : ¬ (s.heldEntry r.cls r.inst).isSome = true)
    (hf : RequestFits r s) : s.serveQueue =
      ((s.unqueue r).grant r.master r.cls r.inst r.param).1.askEnd r Rc.ok ((s.unqueue r).grant r.master r.cls r.inst r.param).2 := by
  obtain ⟨c, hc, hroom⟩ := hf
  simp only [serveQueue_cons h hd, if_neg ht, hc, if_pos hroom]

theorem serveQueue_waits (h : s.adm.queue = r :: rest) (hd : s.decides r = true) (ht : ¬ (s.heldEntry r.cls r.inst).isSome = true)
    (hf : ¬ RequestFits r s) : s.serveQueue = s := by
  rw [serveQueue_cons h hd, if_neg ht]
  cases hc : costOf r.cls r.param with
  | none => rfl
  | some c => exact if_neg fun hroom => hf ⟨c, hc, hroom⟩

/-- No first request that is decided here and can be: the queue stands. -/
theorem serveQueue_idle (h : ∀ r, s.adm.queue.head? = some r ∧ s.decides r = true →
    ¬ (s.heldEntry r.cls r.inst).isSome = true ∧ ¬ RequestFits r s) : s.serveQueue = s := by
  cases hq : s.adm.queue with
  | nil => simp only [State.serveQueue, hq]
  | cons r rest =>
    cases hd : s.decides r with
    | false => simp only [State.serveQueue, hq, hd, Bool.not_false, if_true]
    | true =>
      obtain ⟨ht, hf⟩ := h r ⟨by rw [hq]; rfl, hd⟩
      exact serveQueue_waits hq hd ht hf

end

/-! ### A request that times out -/

section
variable {n : Fin 5} {s : State}

/-- The engine's request waits under a comparator. -/
abbrev AskTimed (n : Fin 5) (s : State) (dst t : Nat) : Prop := (s.eng n).wait = .ask dst (some t) ∧ s.fromMirror = false ∧
  s.reached (s.cmp n t).raster (s.cmp n t).pos = true

/-- The request leaves the queue. -/
def askLeft (n : Nat) (s : State) : State :=
  { s with adm := { s.adm with queue := s.adm.queue.filter fun q => decide (q.master ≠ n) } }.admShow

theorem exec_askTimeout (n : Fin 5) (s : State) : exec (.askTimeout n) s = ok (match (s.eng n.val).wait with
    | .ask dst (some t) =>
      if (!s.fromMirror && s.reached (s.cmp n.val t).raster (s.cmp n.val t).pos) = true then
        ((((askLeft n s).event F.ADMIT_STATUS_TIMEOUT 0 Irq.admission).mirrorVal n.val Vk.ask [Rc.timeout, 0]).setG n.val dst 0).wake
          n.val Rc.timeout (some t)
      else s
    | _ => s) := rfl

theorem askTimeout_timed {dst t : Nat} (h : AskTimed n s dst t) : exec (.askTimeout n) s =
    .next (((((askLeft n s).event F.ADMIT_STATUS_TIMEOUT 0 Irq.admission).mirrorVal n Vk.ask [Rc.timeout, 0]).setG n dst 0).wake
      n Rc.timeout (some t)) := by
  obtain ⟨hwait, hown, hreach⟩ := h
  simp only [exec_askTimeout, hwait, hown, hreach, Bool.not_false, Bool.and_self, if_true, ok]

theorem askTimeout_untimed (h : ∀ dst t, ¬ AskTimed n s dst t) : exec (.askTimeout n) s = .next s := by
  rw [exec_askTimeout]
  split
  case h_1 dst t hwait =>
    exact ok_ite_neg fun hc => h dst t ⟨hwait, by simpa using hc⟩
  case h_2 => rfl

end

/-! ### A write of ADMIT_GIVE -/

section
variable {w : Nat} {s : State}

/-- What a write of GIVE may change here. -/
abbrev GiveMine (w : Nat) (s : State) : Prop := decide (w % 4096 < 2048) = true → s.mode ≠ Mode.standby

/-- The fields as written. -/
def giveTaken (w : Nat) (s : State) : State := (s.wr F.ADMIT_GIVE_TOKEN 0 (w % 65536)).wr F.ADMIT_GIVE_RECLAIM 0 (bits w 16 1)

/-- Whether the grant can be returned. -/
def giveCode (w : Nat) (s : State) : Nat := (giveTaken w s).giveVerdict 7 (w % 65536) (bit w 16)

/-- The RESULT shown. -/
def giveShown (w : Nat) (s : State) : State := (giveTaken w s).wr F.ADMIT_GIVE_RESULT 0 (giveCode w s)

theorem hostGive_eq (h : bit w 31 = true) : s.hostGive w = if giveCode w s = Rc.ok then (giveShown w s).returnEntry (w % 65536 % 4096)
    else if bit w 16 = true then ((giveShown w s).wr F.ADMIT_STATUS_RECLAIM_REFUSED 0 1).raise Irq.admission else giveShown w s :=
  if_neg (by rw [h]; decide)

theorem giveCtrl_refused (h : ¬ GiveMine w s) : State.giveCtrl w s = standbyRefused s := by
  obtain ⟨hmir, hm⟩ := Classical.not_imp.mp h
  exact if_pos (by rw [hmir, decide_eq_true (not_not.mp hm)]; rfl)

/-- A write that is this device's to take is mirrored where its grant is. -/
theorem giveCtrl_taken (h : GiveMine w s) (h31 : bit w 31 = true) : State.giveCtrl w s =
    s.winDone (decide (w % 4096 < 2048)) 0 0x150030 w (if giveCode w s = Rc.ok then (giveShown w s).returnEntry (w % 65536 % 4096)
      else if bit w 16 = true then ((giveShown w s).wr F.ADMIT_STATUS_RECLAIM_REFUSED 0 1).raise Irq.admission else giveShown w s) := by
  rw [← hostGive_eq h31]
  refine if_neg fun hc => ?_
  rw [Bool.and_eq_true, decide_eq_true_eq (p := s.mode = Mode.standby)] at hc
  exact h hc.1 hc.2

end

section
variable (w : Word) (s : State)

theorem exec_admitAskGo :
    exec (.admitAskGo w) s = ok (s.hostWrite 0x150028 (Nat.lor w.toNat 1) (State.askCtrl (Nat.lor w.toNat 1))) := rfl

theorem exec_admitAskCancel :
    exec (.admitAskCancel w) s = ok (s.hostWrite 0x150028 (Nat.lor w.toNat 2) (State.askCtrl (Nat.lor w.toNat 2))) := rfl

theorem exec_admitGiveGo : exec (.admitGiveGo w) s =
    ok (s.hostWrite 0x150030 (Nat.lor w.toNat 0x80000000) (State.giveCtrl (Nat.lor w.toNat 0x80000000))) := rfl

end

/-- Settles O53: a request by the verdict on it, the queue by its head, a return by what it finds. -/
theorem admissionCommands : Obligations.AdmissionCommands := by
  unfold Obligations.AdmissionCommands
  intro n w s v v2 local' cancel b a0 a x inst param go verdict g stby first taken fits q timed left gw mir tok given code shown gives mine
  have hv : bit v 0 = true := bit_lor_one _
  have ha : askTaken v s = a := by
    have hc : bit v 1 = bit w.toNat 1 := bit_lor_clear (by decide) _
    rw [askTaken, hc]
    rfl
  have hb : askTaken v2 s = b := if_pos (bit_lor_set (by decide) _)
  have hv2 : bit v2 0 = bit w.toNat 0 := bit_lor_clear (by decide) _
  have hgw : bit gw 31 = true := bit_lor_set (by decide) _
  have hgo {t : State} (hl : local') (ht : a.hostAsk v = t) : Sets (.admitAskGo w) 0x150028 w 1 s t :=
    puts_of_eq (exec_admitAskGo w s) ((askCtrl_go hl hv).trans (ha ▸ ht))
  have hgive {t : State} (hm : mine) (ht : s.winDone mir 0 0x150030 gw (if code = Rc.ok then shown.returnEntry (tok % 4096)
      else if bit gw 16 = true then (shown.wr F.ADMIT_STATUS_RECLAIM_REFUSED 0 1).raise Irq.admission else shown) =
      s.winDone mir 0 0x150030 gw t) : gives t :=
    puts_of_eq (exec_admitGiveGo w s) ((giveCtrl_taken hm hgw).trans ht)
  refine ⟨fun hg hn => hgo hg.1 (hostAsk_queued hg.2 hn), fun hg hok => hgo hg.1 (hostAsk_granted hg.2 hok),
    fun k hg hk hne => hgo hg.1 (hostAsk_denied hg.2 hk hne), fun hl hw => hgo hl (hostAsk_waiting hw), ?standby, ?cancel, ?again,
    ?taken, ?granted, ?waits, fun dst t h => askTimeout_timed h, askTimeout_untimed, ?given, ?notGiven, ?reclaim, ?notMine⟩
  case standby =>
    exact fun hl => ⟨puts_of_eq (exec_admitAskGo w s) (askCtrl_refused hl), puts_of_eq (exec_admitAskCancel w s) (askCtrl_refused hl)⟩
  case cancel => exact fun hl h0 => puts_of_eq (exec_admitAskCancel w s) ((askCtrl_cancels hl (hv2.trans h0)).trans hb)
  case again =>
    exact fun hl h0 => puts_of_eq (exec_admitAskCancel w s) ((askCtrl_go hl (hv2.trans h0)).trans (congrArg (·.hostAsk v2) hb))
  case taken =>
    intro r ⟨hr, hd⟩ ht
    obtain ⟨rest, hq⟩ := List.head?_eq_some_iff.mp hr
    exact congrArg ok (serveQueue_taken hq hd ht)
  case granted =>
    intro r ⟨hr, hd⟩ ht hf
    obtain ⟨rest, hq⟩ := List.head?_eq_some_iff.mp hr
    exact congrArg ok (serveQueue_grants hq hd ht hf)
  case waits => exact fun h => congrArg ok (serveQueue_idle h)
  case given => exact fun hm hc => hgive hm (by rw [if_pos hc])
  case notGiven => exact fun hm hc h16 => hgive hm (by rw [if_neg hc, if_neg (Bool.eq_false_iff.mp h16)])
  case reclaim => exact fun hm hc h16 => hgive hm (by rw [if_neg hc, if_pos h16])
  case notMine => exact fun hm => puts_of_eq (exec_admitGiveGo w s) (giveCtrl_refused hm)

end Sys2Proof.Proofs
end

section
/-!
PROOFS. Wear estimates, history, scrubs and repairs (R440, R441, R445, R446); spare units and their tests (R443, R444).
-/
namespace Sys2Proof.Proofs
open Sys2Proof.Machine Sys2Proof.Laws

/-! ### The history (R441) -/

section
variable {w : Nat} {s : State}

/-- Bit 3 of a write of CTRL clears RESTORE_REFUSED. -/
def histCleared (w : Nat) (s : State) : State := if bit w 3 = true then s.wr F.WEAR_HIST_CTRL_RESTORE_REFUSED 0 0 else s

theorem wearCtrl_eq (w : Nat) (s : State) : State.wearCtrl w s =
    let a := if bit w 0 = true then (histCleared w s).wearSave else histCleared w s
    if bit w 1 = true then a.wearRestore else a := rfl

theorem wearCtrl_save (h : bit w 0 = true) (s : State) : State.wearCtrl w s =
    if bit w 1 = true then (histCleared w s).wearSave.wearRestore else (histCleared w s).wearSave := by
  rw [wearCtrl_eq, if_pos h]

theorem wearCtrl_restore (h : bit w 1 = true) (s : State) : State.wearCtrl w s =
    if bit w 0 = true then (histCleared w s).wearSave.wearRestore else (histCleared w s).wearRestore := by
  rw [wearCtrl_eq, if_pos h, apply_ite State.wearRestore]

/-- The history's words. -/
def histWords (s : State) : List Nat := (List.range 1023).map fun i => s.rd F.WEAR_HIST_WORD i

/-- A history is applied once, in the first hour, with its CRC and hour step. -/
abbrev HistoryGood (s : State) : Prop := s.wear.tried = false ∧ s.sessionHours < 1 ∧ crcWords (histWords s) = s.rd F.WEAR_HIST_WORD 1023 ∧
  ((histWords s).getD 1 0 = s.rd F.WEAR_HIST_CTRL_OTP_STEPS 0 ∨ (histWords s).getD 1 0 + 1 = s.rd F.WEAR_HIST_CTRL_OTP_STEPS 0)

/-- The history applied. -/
def historyApplied (s : State) : State :=
  let hrs := (histWords s).getD 0 0
  ({ s with wear := { s.wear with tried := true, base := hrs, steps := hrs / 128, days := hrs / 24, canary := hrs,
                                  hist := Config.wearLoad ((histWords s).drop 2) } }.hoursShow).wr F.WEAR_HIST_CTRL_RESTORED 0 1

theorem wearRestore_eq (s : State) : s.wearRestore = if (!s.wear.tried && decide (s.sessionHours < 1) &&
      decide (crcWords (histWords s) = s.rd F.WEAR_HIST_WORD 1023) &&
      (decide ((histWords s).getD 1 0 = s.rd F.WEAR_HIST_CTRL_OTP_STEPS 0) ||
        decide ((histWords s).getD 1 0 + 1 = s.rd F.WEAR_HIST_CTRL_OTP_STEPS 0))) = true then historyApplied s
    else { s with wear := { s.wear with tried := true } }.wr F.WEAR_HIST_CTRL_RESTORE_REFUSED 0 1 := rfl

theorem historyGood_iff : (!s.wear.tried && decide (s.sessionHours < 1) &&
      decide (crcWords (histWords s) = s.rd F.WEAR_HIST_WORD 1023) &&
      (decide ((histWords s).getD 1 0 = s.rd F.WEAR_HIST_CTRL_OTP_STEPS 0) ||
        decide ((histWords s).getD 1 0 + 1 = s.rd F.WEAR_HIST_CTRL_OTP_STEPS 0))) = true ↔ HistoryGood s := by
  simp only [HistoryGood, Bool.and_eq_true, Bool.or_eq_true, decide_eq_true_eq, Bool.not_eq_true', and_assoc]

theorem wearRestore_good (h : HistoryGood s) : s.wearRestore = historyApplied s :=
  (wearRestore_eq s).trans (if_pos (historyGood_iff.mpr h))

theorem wearRestore_bad (h : ¬ HistoryGood s) :
    s.wearRestore = { s with wear := { s.wear with tried := true } }.wr F.WEAR_HIST_CTRL_RESTORE_REFUSED 0 1 :=
  (wearRestore_eq s).trans (if_neg (mt historyGood_iff.mp h))

end

/-! ### Scrubs (R445) -/

section
variable {c w : Nat} {s : State}

/-- The grant named with the scrub. -/
def scrubNamed (c w : Nat) (s : State) : State := s.wr F.WEAR_SCRUB_GRANT c (bits w 16 16)

/-- STOP of a scrub that runs. -/
def scrubStopped (c : Nat) (t : State) : State :=
  if t.on F.WEAR_SCRUB_RUNNING c = true then (t.wr F.WEAR_SCRUB_RUNNING c 0).returnGrant Gc.scrub c else t

/-- The scrub can start: none runs, the port is up, the grant holds. -/
abbrev ScrubStarts (c w : Nat) (t : State) : Prop :=
  t.on F.WEAR_SCRUB_RUNNING c = false ∧ t.portUp c = true ∧ t.grantOk (bits w 16 16) Gc.scrub c = true

/-- The scrub begun. -/
def scrubBegun (c : Nat) (t : State) : State :=
  ({ t with wear := { t.wear with scrubs := tins t.wear.scrubs c (t.clk, (t.cxl c).used.length * 2 ^ 21) } }.wr
    F.WEAR_SCRUB_RUNNING c 1).wr F.WEAR_SCRUB_PROGRESS c 0

theorem scrubStarts_iff {t : State} : (bit w 0 && !t.on F.WEAR_SCRUB_RUNNING c && t.portUp c && t.grantOk (bits w 16 16) Gc.scrub c) = true ↔
    bit w 0 = true ∧ ScrubStarts c w t := by
  simp only [ScrubStarts, Bool.and_eq_true, Bool.not_eq_true', and_assoc]

/-- START, where it can. -/
def scrubGone (c w : Nat) (t : State) : State := if bit w 0 = true ∧ ScrubStarts c w t then scrubBegun c t else t

theorem scrubCtrl_eq (c w : Nat) (s : State) : State.scrubCtrl c w s =
    scrubGone c w (if bit w 1 = true then scrubStopped c (scrubNamed c w s) else scrubNamed c w s) := by
  have hstop : (if (bit w 1 && (scrubNamed c w s).on F.WEAR_SCRUB_RUNNING c) = true then (scrubNamed c w s).scrubEnd c
      else scrubNamed c w s) = if bit w 1 = true then scrubStopped c (scrubNamed c w s) else scrubNamed c w s := by
    cases bit w 1 with
    | false => rw [Bool.false_and, if_neg Bool.false_ne_true, if_neg Bool.false_ne_true]
    | true =>
      rw [Bool.true_and, if_pos rfl]
      rfl
  rw [← hstop]
  exact if_congr scrubStarts_iff rfl rfl

theorem scrubGone_starts {t : State} (h : bit w 0 = true) (hs : ScrubStarts c w t) : scrubGone c w t = scrubBegun c t := if_pos ⟨h, hs⟩

theorem scrubGone_not {t : State} (h : ¬ (bit w 0 = true ∧ ScrubStarts c w t)) : scrubGone c w t = t := if_neg h

theorem exec_scrubStart (c : Fin 4) (w : Word) (s : State) : exec (.scrubStart c w) s =
    ok (s.hostWrite (0x170040 + 8 * c.val) (Nat.lor w.toNat 1) (State.scrubCtrl c.val (Nat.lor w.toNat 1))) := rfl

theorem exec_scrubStop (c : Fin 4) (w : Word) (s : State) : exec (.scrubStop c w) s =
    ok (s.hostWrite (0x170040 + 8 * c.val) (Nat.lor w.toNat 2) (State.scrubCtrl c.val (Nat.lor w.toNat 2))) := rfl

theorem scrubDue_iff {c : Fin 4} {full : Bool} {s : State} : (s.on F.WEAR_SCRUB_RUNNING c &&
      ((full && decide (s.scrubBound c = 100)) || !s.portUp c)) = true ↔
    s.on F.WEAR_SCRUB_RUNNING c = true ∧ ((full = true ∧ s.scrubBound c = 100) ∨ s.portUp c = false) := by
  simp only [Bool.and_eq_true, Bool.or_eq_true, decide_eq_true_eq, Bool.not_eq_true']

end

/-! ### Repairs (R446) -/

theorem repairWrite_eq {w : Nat} (h : bit w 16 = true) (s : State) : State.repairWrite w s =
    if bit w 17 = true then (s.wr F.WEAR_REPAIR_NO_SPARE 0 0).promote else s.promote := by
  rw [State.repairWrite]
  exact (if_pos h).trans (apply_ite State.promote _ _ _)

/-! ### Spare units (R443, R444) -/

section
variable {w : Nat} {s : State}

/-- ABORT of a substitution before its move. -/
def spareAborted (t : State) : State :=
  if t.wear.step = 1 ∨ t.wear.step = 2 then { t.substState 5 with wear := { t.wear with step := 0 } } else t

/-- The fields taken, then ABORT. -/
def spareTaken (w : Nat) (s : State) : State :=
  if bit w 1 = true then spareAborted (s.writeWord 0x170020 w) else s.writeWord 0x170020 w

theorem spareCtrl_eq (w : Nat) (s : State) :
    State.spareCtrl w s = if bit w 0 = true then (spareTaken w s).spareStart else spareTaken w s := rfl

theorem spareCtrl_start (h : bit w 0 = true) (s : State) : State.spareCtrl w s =
    if bit w 1 = true then (spareAborted (s.writeWord 0x170020 w)).spareStart else (s.writeWord 0x170020 w).spareStart :=
  (if_pos h).trans (apply_ite State.spareStart _ _ _)

theorem spareCtrl_abort (h : bit w 1 = true) (s : State) : State.spareCtrl w s =
    if bit w 0 = true then (spareAborted (s.writeWord 0x170020 w)).spareStart else spareAborted (s.writeWord 0x170020 w) := by
  rw [spareCtrl_eq, spareTaken, if_pos h]

/-- The kind of unit named. -/
abbrev spareKind (s : State) : Nat := s.rd F.WEAR_SUBST_CTRL_KIND 0

/-- The spare's number among its kind. -/
abbrev spareNo (s : State) : Nat := s.rd F.WEAR_SUBST_CTRL_SPARE 0

/-- START fails. -/
abbrev SpareFails (s : State) : Prop :=
  s.wear.step ≠ 0 ∨ s.unitRetired (spareKind s) (s.spareUnit (spareKind s) (spareNo s)) = true ∨
    (spareKind s = 0 ∧ (4 ≤ spareNo s ∨ (s.on F.WEAR_SUBST_CTRL_TEST 0 = false ∧ 96 ≤ s.rd F.WEAR_SUBST_CTRL_TARGET 0))) ∨
    s.grantOk (s.rd F.WEAR_SUBST_CTRL_GRANT 0) Gc.spareTest (spareInst (spareKind s) (spareNo s)) = false

/-- The substitution begun. -/
def spareArmed (s : State) : State :=
  ({ s with wear := { s.wear with step := 1, kind := spareKind s, target := s.rd F.WEAR_SUBST_CTRL_TARGET 0, spare := spareNo s
                                  only := false } }.substState 1).wr F.WEAR_SUBST_STATUS_MISMATCH 0 0

/-- The unit to replace is a recorder or a player that stands idle. -/
abbrev SpareIdle (s : State) : Prop :=
  (spareKind s = 1 ∧ s.on F.SABLE_REC_RUNNING (s.rd F.WEAR_SUBST_CTRL_TARGET 0) = false) ∨
    (spareKind s = 2 ∧ s.on F.SABLE_PLAY_RUNNING (s.rd F.WEAR_SUBST_CTRL_TARGET 0) = false)

theorem spareStart_fails (h : SpareFails s) : s.spareStart = s.substState 4 := if_pos h

theorem spareStart_tests (h : ¬ SpareFails s) (ho : s.on F.WEAR_SUBST_CTRL_TEST 0 = true) :
    s.spareStart = s.spareTestBegin (spareKind s) (spareNo s) (s.spareUnit (spareKind s) (spareNo s)) :=
  (if_neg h).trans (if_pos ho)

theorem spareStart_substitutes (h : ¬ SpareFails s) (ho : s.on F.WEAR_SUBST_CTRL_TEST 0 = false) :
    s.spareStart = if SpareIdle s then (spareArmed s).spareMove else spareArmed s := by
  refine (if_neg h).trans ((if_neg (Bool.eq_false_iff.mp ho)).trans (if_congr ?_ rfl rfl))
  simp only [Bool.or_eq_true, Bool.and_eq_true, decide_eq_true_eq, Bool.not_eq_true']

end

section
variable (mism : Fin 3) (pass : Bool) (w : Word) (s : State)

theorem exec_spareTestStart : exec (.spareTestStart w) s =
    ok (s.hostWrite 0x170020 (Nat.lor w.toNat 17) (State.spareCtrl (Nat.lor w.toNat 17))) := rfl

theorem exec_spareSubstStart : exec (.spareSubstStart w) s = ok (s.hostWrite 0x170020 (Nat.lor (withBit w.toNat 4 false) 1)
    (State.spareCtrl (Nat.lor (withBit w.toNat 4 false) 1))) := rfl

theorem exec_spareSubstAbort : exec (.spareSubstAbort w) s =
    ok (s.hostWrite 0x170020 (Nat.lor w.toNat 2) (State.spareCtrl (Nat.lor w.toNat 2))) := rfl

end

/-- Settles O56: the estimates by the hour, history and scrubs by what a write asks, a spare's steps by their lines. -/
theorem wearAndSpareCommands : Obligations.WearAndSpareCommands := by
  unfold Obligations.WearAndSpareCommands
  constructor
  · intro c m p full w s add put day a ws step good hrs so ended grant stop starts begun v1 v2 g1 g2 found due
    have hcleared (y : Nat) (hy : bit y 3 = false) : histCleared (Nat.lor w.toNat y) s = a := by
      rw [histCleared, bit_lor_clear hy]
    have hg1 : State.scrubCtrl c v1 s = scrubGone c v1 g1 := by
      have hb : bit v1 1 = bit w.toNat 1 := bit_lor_clear (by decide) _
      rw [scrubCtrl_eq, hb]
      rfl
    have hg2 : State.scrubCtrl c v2 s = scrubGone c v2 g2 := by
      have hb : bit v2 1 = true := bit_lor_set (by decide) _
      rw [scrubCtrl_eq, if_pos hb]
      rfl
    have h2 : bit v2 0 = bit w.toNat 0 := bit_lor_clear (by decide) _
    refine ⟨fun h => ok_ite_pos h, fun h => ok_ite_neg (not_lt.mpr h), fun h => ok_ite_pos h, fun h => ok_ite_neg (not_lt.mpr h),
      fun h => ok_ite_pos h, fun h => ok_ite_neg (not_lt.mpr h), ?save, ?restore, wearRestore_good, wearRestore_bad, ?starts, ?runs,
      ?stopStart, ?stop, ?done, ?early, rfl, rfl, ?promote⟩
    case save =>
      refine puts_of_eq (f := State.wearCtrl (Nat.lor w.toNat 1)) rfl ((wearCtrl_save (bit_lor_one _) s).trans ?_)
      rw [hcleared 1 (by decide), bit_lor_clear (show bit 1 1 = false by decide)]
    case restore =>
      refine puts_of_eq (f := State.wearCtrl (Nat.lor w.toNat 2)) rfl ((wearCtrl_restore (bit_lor_set (by decide) _) s).trans ?_)
      rw [hcleared 2 (by decide), bit_lor_clear (show bit 2 0 = false by decide)]
    case starts => exact fun h => puts_of_eq (exec_scrubStart c w s) (hg1.trans (scrubGone_starts (bit_lor_one _) h))
    case runs => exact fun h => puts_of_eq (exec_scrubStart c w s) (hg1.trans (scrubGone_not fun hc => h hc.2))
    case stopStart => exact fun h0 h => puts_of_eq (exec_scrubStop c w s) (hg2.trans (scrubGone_starts (h2.trans h0) h))
    case stop =>
      refine fun h => puts_of_eq (exec_scrubStop c w s) (hg2.trans (scrubGone_not fun hc => ?_))
      exact h.elim (fun h0 => Bool.eq_false_iff.mp h0 (h2 ▸ hc.1)) (· hc.2)
    case done => exact fun h => ok_ite_pos (scrubDue_iff.mpr h)
    case early => exact fun h => ok_ite_neg (mt scrubDue_iff.mp h)
    case promote =>
      refine puts_of_eq (f := State.repairWrite (Nat.lor w.toNat 65536)) rfl ((repairWrite_eq (bit_lor_set (by decide) _) s).trans ?_)
      rw [bit_lor_clear (show bit 65536 17 = false by decide)]
  · intro mism pass w s put abort start v v2 kind n k only fails idle armed x frame loads moves f due
    refine ⟨puts_of_eq (exec_spareTestStart w s) (spareCtrl_start (bit_lor_set (by decide) _) s),
      puts_of_eq (exec_spareSubstStart w s) (spareCtrl_start (bit_lor_one _) s), ?abort, spareStart_fails, spareStart_tests,
      fun hf ho hi => (spareStart_substitutes hf ho).trans (if_pos hi), fun hf ho hi => (spareStart_substitutes hf ho).trans (if_neg hi),
      fun h => ok_ite_pos h, fun h => ok_ite_neg h, fun h => ok_ite_pos h, fun h => ok_ite_neg h, fun h => ok_ite_pos h,
      fun h => ok_ite_neg h⟩
    case abort =>
      refine puts_of_eq (exec_spareSubstAbort w s) ((spareCtrl_abort (bit_lor_set (by decide) _) s).trans ?_)
      rw [bit_lor_clear (show bit 2 0 = false by decide)]
      rfl

end Sys2Proof.Proofs
end

section
/-!
PROOFS. DMA errors, the SMBus target, lock breaks and the TAP (R470, R471, R475, R527); the table loader and the summary (R477-R480).
-/
namespace Sys2Proof.Proofs
open Sys2Proof.Machine Sys2Proof.Laws

/-! ### A DMA read that fails (R470) -/

section
variable {t addr : Nat} {frame : Bool} {ws : List Nat} {s : State}

/-- A ring's read fails: the ring is disabled. -/
def ringFails (r : RingRegs) (t addr : Nat) (s : State) : State :=
  if s.on r.en r.idx = true then (s.wr r.en r.idx 0).dmaErr t addr else s

/-- A cue ring's read fails: the ring is disabled, the fetch ended. -/
def cueFails (t addr : Nat) (s : State) : State :=
  if s.on F.CUE_CTRL_RING_EN t = true then
    ((s.wr F.CUE_CTRL_RING_EN t 0).setEng t { s.eng t with fetching := false }).dmaErr t addr else s

/-- A transmit ring's read fails: of a frame buffer, the ring goes on. -/
def txFails (t addr : Nat) (frame : Bool) (s : State) : State :=
  if frame = true then (if s.on (txRing (t - 32)).en (txRing (t - 32)).idx = true then s.dmaErr t addr else s)
  else ringFails (txRing (t - 32)) t addr s

/-- The loader's read fails: its transfer fails. -/
def loaderFails (t addr : Nat) (ws : List Nat) (s : State) : State :=
  if s.rd F.HOSTIF_TLD_STATE 0 = 1 then ((s.tldMove ws).tldEnd 3).dmaErr t addr else s

theorem exec_dmaReadError : exec (.dmaReadError t addr frame ws) s = ok (if t < 5 then cueFails t addr s
    else if 16 ≤ t ∧ t ≤ 24 then ringFails (rxRing (t - 16)) t addr s
    else if 32 ≤ t ∧ t ≤ 40 then txFails t addr frame s
    else if t = 49 then loaderFails t addr ws s else s) := rfl

theorem dmaReadError_cue (h : t < 5) : exec (.dmaReadError t addr frame ws) s = .next (cueFails t addr s) :=
  exec_dmaReadError.trans (ok_ite_pos h)

theorem dmaReadError_rx (hlo : 16 ≤ t) (hhi : t ≤ 24) :
    exec (.dmaReadError t addr frame ws) s = .next (ringFails (rxRing (t - 16)) t addr s) := by
  have h5 : ¬ t < 5 := by omega
  simp only [exec_dmaReadError, if_neg h5, if_pos (And.intro hlo hhi), ok]

theorem dmaReadError_tx (hlo : 32 ≤ t) (hhi : t ≤ 40) : exec (.dmaReadError t addr frame ws) s = .next (txFails t addr frame s) := by
  have h5 : ¬ t < 5 := by omega
  have h24 : ¬ (16 ≤ t ∧ t ≤ 24) := by omega
  simp only [exec_dmaReadError, if_neg h5, if_neg h24, if_pos (And.intro hlo hhi), ok]

theorem dmaReadError_loader : exec (.dmaReadError 49 addr frame ws) s = .next (loaderFails 49 addr ws s) := rfl

theorem dmaReadError_none (hcue : ¬ t < 5) (hrx : ¬ (16 ≤ t ∧ t ≤ 24)) (htx : ¬ (32 ≤ t ∧ t ≤ 40)) (htld : t ≠ 49) :
    exec (.dmaReadError t addr frame ws) s = .next s := by
  simp only [exec_dmaReadError, if_neg hcue, if_neg hrx, if_neg htx, if_neg htld, ok]

theorem cueFails_off (h : ¬ s.on F.CUE_CTRL_RING_EN t = true) : cueFails t addr s = s := if_neg h

theorem ringFails_off {r : RingRegs} (h : ¬ s.on r.en r.idx = true) : ringFails r t addr s = s := if_neg h

theorem txFails_on (h : s.on (txRing (t - 32)).en (txRing (t - 32)).idx = true) : txFails t addr frame s =
    (if frame = true then s else s.wr (txRing (t - 32)).en (txRing (t - 32)).idx 0).dmaErr t addr := by
  cases frame with
  | true => exact if_pos h
  | false => exact if_pos h

theorem txFails_off (h : ¬ s.on (txRing (t - 32)).en (txRing (t - 32)).idx = true) : txFails t addr frame s = s := by
  cases frame with
  | true => exact if_neg h
  | false => exact if_neg h

/-- No structure that is read meets the error. -/
theorem dmaReadError_unread (hcue : ¬ (t < 5 ∧ s.on F.CUE_CTRL_RING_EN t = true))
    (hrx : ¬ (16 ≤ t ∧ t ≤ 24 ∧ s.on (rxRing (t - 16)).en (rxRing (t - 16)).idx = true))
    (htx : ¬ (32 ≤ t ∧ t ≤ 40 ∧ s.on (txRing (t - 32)).en (txRing (t - 32)).idx = true))
    (htld : ¬ (t = 49 ∧ s.rd F.HOSTIF_TLD_STATE 0 = 1)) : exec (.dmaReadError t addr frame ws) s = .next s := by
  by_cases h1 : t < 5
  · rw [dmaReadError_cue h1, cueFails_off fun h => hcue ⟨h1, h⟩]
  by_cases h2 : 16 ≤ t ∧ t ≤ 24
  · rw [dmaReadError_rx h2.1 h2.2, ringFails_off fun h => hrx ⟨h2.1, h2.2, h⟩]
  by_cases h3 : 32 ≤ t ∧ t ≤ 40
  · rw [dmaReadError_tx h3.1 h3.2, txFails_off fun h => htx ⟨h3.1, h3.2, h⟩]
  by_cases h4 : t = 49
  · subst h4
    exact congrArg Host.Outcome.next (if_neg fun h => htld ⟨rfl, h⟩)
  · exact dmaReadError_none h1 h2 h3 h4

end

/-! ### The SMBus target (R471) -/

section
variable {off : Nat} {pec : Bool} {w : Word} {s : State}

/-- The target answers. -/
abbrev SmbAnswers (pec : Bool) (s : State) : Prop := s.pins.rstN = true ∧ s.pins.rstAt + msClk ≤ s.clk ∧ pec = true

theorem smbAnswers_iff : s.smbAnswers pec = true ↔ SmbAnswers pec s := by
  simp only [State.smbAnswers, SmbAnswers, Bool.and_eq_true, decide_eq_true_eq, and_assoc]

/-- Where the target does not answer, no command of it changes anything. -/
theorem smb_silent (h : ¬ SmbAnswers pec s) : exec (.smbSetAddr off pec) s = .next s ∧ exec (.smbRead pec) s = .next s ∧
    exec (.smbWrite w pec) s = .next s ∧ exec (.smbStatus pec) s = .next s := by
  have hn : ¬ s.smbAnswers pec = true := mt smbAnswers_iff.mp h
  exact ⟨ok_ite_neg hn, ok_ite_neg hn, ok_ite_neg hn, ok_ite_neg hn⟩

/-- READ's answer, and the next offset. -/
def smbReadNext (x : State × Nat) (refused : Bool) (s : State) : State :=
  let t := x.1.smbAnswer x.2 refused
  { t with hif := { t.hif with smbOff := (s.hif.smbOff + 4) % 2 ^ 32 } }

theorem smbRead_answered (h : SmbAnswers pec s) : exec (.smbRead pec) s =
    .next (smbReadNext (if s.smbReadable s.hif.smbOff = true then s.readReg 0 s.hif.smbOff false else (s, 0))
      (!s.smbReadable s.hif.smbOff) s) :=
  ok_ite_pos (smbAnswers_iff.mpr h)

theorem smbRead_readable (h : SmbAnswers pec s) (hr : s.smbReadable s.hif.smbOff = true) :
    exec (.smbRead pec) s = .next (smbReadNext (s.readReg 0 s.hif.smbOff false) false s) := by
  rw [smbRead_answered h, if_pos hr, hr]
  rfl

theorem smbRead_refused (h : SmbAnswers pec s) (hr : s.smbReadable s.hif.smbOff = false) :
    exec (.smbRead pec) s = .next (smbReadNext (s, 0) true s) := by
  rw [smbRead_answered h, if_neg (Bool.eq_false_iff.mp hr), hr]
  rfl

/-- The answer of an accepted WRITE. -/
def smbQuiet (s : State) : State := s.smbAnswer s.hif.smbRead false

theorem smbWrite_answered (h : SmbAnswers pec s) : exec (.smbWrite w pec) s =
    ok (if (s.pins.ready && s.hif.smbOff = 0x20) = true then (smbQuiet s).boardWrite 0x20 (w.toNat % 4)
        (State.resetCtrl 2 none (w.toNat % 4 + 256 * s.rd F.TOP_RESET_CTRL_BLOCK_SRC 0))
      else if (s.pins.ready && s.hif.smbOff = 0x150000) = true then
        (smbQuiet s).boardWrite 0x150000 w.toNat fun s => (s.writeWord 0x150000 w.toNat).admShow
      else s.smbAnswer s.hif.smbRead true) :=
  congrArg ok (if_pos (smbAnswers_iff.mpr h))

end

/-! ### The table loader (R477) -/

section
variable {ws : List Nat} {w : Nat} {s : State}

/-- DIR as written. -/
def loaderDir (w : Nat) (t : State) : State := t.wr F.HOSTIF_TLD_DIR 0 (bits w 2 1)

/-- A transfer begun. -/
def loaderStarted (t : State) : State := (t.wr F.HOSTIF_TLD_STATE 0 1).wr F.HOSTIF_TLD_REFUSED_CNT 0 0

theorem tldCtrl_idle (h : s.rd F.HOSTIF_TLD_STATE 0 ≠ 1) : State.tldCtrl ws w s =
    if bit w 0 = true then loaderStarted (loaderDir w s) else loaderDir w s := by
  simp only [State.tldCtrl, h, decide_false, Bool.and_false, Bool.false_eq_true, if_false, Bool.not_false, Bool.and_true]
  rfl

theorem tldCtrl_running (h : s.rd F.HOSTIF_TLD_STATE 0 = 1) : State.tldCtrl ws w s =
    loaderDir w (if bit w 1 = true then (s.tldMove ws).tldEnd 4 else s) := by
  simp only [State.tldCtrl, h, decide_true, Bool.and_true, Bool.not_true, Bool.and_false, Bool.false_eq_true, if_false]
  rfl

theorem exec_tldGo (w : Word) (s : State) :
    exec (.tldGo w) s = ok (s.hostWrite 0x180050 (Nat.lor w.toNat 1) (State.tldCtrl [] (Nat.lor w.toNat 1))) := rfl

theorem exec_tldAbort (w : Word) (ws : List Nat) (s : State) :
    exec (.tldAbort w ws) s = ok (s.hostWrite 0x180050 (Nat.lor w.toNat 2) (State.tldCtrl ws (Nat.lor w.toNat 2))) := rfl

end

/-! ### The summary (R478-R480) -/

section
variable {w : Nat} {s : State}

/-- A request of a full summary, or not, as written. -/
def resyncFull (w : Nat) (s : State) : State := s.wr F.HOSTIF_RESYNC_FULL 0 (bits w 1 1)

theorem resync_go (h : bit w 0 = true) : State.resync w s = if ((resyncFull w s).summaryReq 7 (bit w 1)).2 = true then
      ((resyncFull w s).summaryReq 7 (bit w 1)).1
    else ((resyncFull w s).summaryReq 7 (bit w 1)).1.event F.HOSTIF_EVENT_SUM_REFUSED 0 Irq.hostif := if_pos h

theorem exec_summaryRequest (w : Word) (s : State) :
    exec (.summaryRequest w) s = ok (s.hostWrite 0x180004 (Nat.lor w.toNat 1) (State.resync (Nat.lor w.toNat 1))) := rfl

/-- A summary is accepted where none is under way. -/
theorem summaryReq_accepts (s : State) (m : Nat) (full : Bool) : (s.summaryReq m full).2 =
    (decide (s.rd F.HOSTIF_SUM_STATUS_STATE 0 ≠ 1) && decide (s.rd F.HOSTIF_SUM_STATUS_STATE 0 ≠ 2)) := by
  rw [State.summaryReq, apply_ite Prod.snd]
  by_cases h : s.rd F.HOSTIF_SUM_STATUS_STATE 0 = 1 ∨ s.rd F.HOSTIF_SUM_STATUS_STATE 0 = 2
  · rw [if_pos h]
    rcases h with h | h <;> rw [h] <;> rfl
  · rw [if_neg h]
    obtain ⟨h1, h2⟩ := not_or.mp h
    simp only [h1, h2, ne_eq, not_false_iff, decide_true, Bool.and_self]

/-- The consistency point, with no commit left to take effect. -/
abbrev SummaryDue (s : State) : Prop := s.rd F.HOSTIF_SUM_STATUS_STATE 0 = 1 ∧ s.sumDue = true ∧ s.commitDue = false

theorem summaryDue_iff : (s.rd F.HOSTIF_SUM_STATUS_STATE 0 = 1 && s.sumDue && !s.commitDue) = true ↔ SummaryDue s := by
  simp only [SummaryDue, Bool.and_eq_true, decide_eq_true_eq, Bool.not_eq_true', and_assoc]

theorem summaryCapture_due (h : SummaryDue s) : exec .summaryCapture s = ok (if s.on F.HOSTIF_SUM_CFG_EN 0 = true then
    { s.wr F.HOSTIF_SUM_STATUS_STATE 0 2 with hif := { s.hif with sumImage := s.sumRefresh.sumRecord } }
    else s.wr F.HOSTIF_SUM_STATUS_STATE 0 4) := congrArg ok (if_pos (summaryDue_iff.mpr h))

theorem summaryCapture_early (h : ¬ SummaryDue s) : exec .summaryCapture s = .next s :=
  congrArg ok (if_neg (mt summaryDue_iff.mp h))

end

/-! ### The TAP (R527) -/

/-- The instruction selected. -/
def tapSelected (n : Nat) (s : State) : State := { s with pins := { s.pins with tapIr := n } }

theorem exec_tapInstructionUpdate (ir : Fin 10) (s : State) : exec (.tapInstructionUpdate ir) s =
    .next (tapSelected (if ir.val = 9 ∨ (ir.val = 8 ∧ s.pins.dbgEn = false) then 0 else ir.val) s) := rfl

/-- Settles O60: a failed read by its structure, SMBus by whether it answers, the loader and the summary by their STATE. -/
theorem hostInterfaceCommands : Obligations.HostInterfaceCommands := by
  unfold Obligations.HostInterfaceCommands
  constructor
  · intro t addr off frame pec wr ws m g left ir w s r x cue rx tx tld o answers ans a b quiet unknown
    refine ⟨?cue, ?rx, ?tx, ?tld, dmaReadError_unread, fun h => ok_ite_pos (smbAnswers_iff.mpr h), smb_silent,
      smbRead_readable, smbRead_refused, ?reset, ?ceiling, ?writeRefused, fun h => ok_ite_pos (smbAnswers_iff.mpr h), rfl, ?known, ?bypass⟩
    case cue => exact fun h => (dmaReadError_cue h.1).trans (congrArg Host.Outcome.next (if_pos h.2))
    case rx => exact fun ⟨hlo, hhi, hen⟩ => (dmaReadError_rx hlo hhi).trans (congrArg Host.Outcome.next (if_pos hen))
    case tx => exact fun ⟨hlo, hhi, hen⟩ => (dmaReadError_tx hlo hhi).trans (congrArg Host.Outcome.next (txFails_on hen))
    case tld =>
      intro h
      obtain ⟨rfl, hst⟩ := h
      exact congrArg Host.Outcome.next (if_pos hst)
    case reset =>
      exact fun h hr ho => (smbWrite_answered h).trans (ok_ite_pos (by rw [hr, show s.hif.smbOff = 0x20 from ho]; rfl))
    case ceiling =>
      intro h hr ho
      have hoff : s.hif.smbOff = 0x150000 := ho
      exact (smbWrite_answered h).trans ((congrArg ok (if_neg (by rw [hoff, hr]; decide))).trans (ok_ite_pos (by rw [hr, hoff]; rfl)))
    case writeRefused =>
      intro h hn
      have hn20 : ¬ (s.pins.ready && decide (s.hif.smbOff = 0x20)) = true := by
        rcases hn with hn | hn
        · rw [hn, Bool.false_and]; decide
        · rw [decide_eq_false (show ¬ s.hif.smbOff = 0x20 from hn.1), Bool.and_false]; decide
      have hn15 : ¬ (s.pins.ready && decide (s.hif.smbOff = 0x150000)) = true := by
        rcases hn with hn | hn
        · rw [hn, Bool.false_and]; decide
        · rw [decide_eq_false (show ¬ s.hif.smbOff = 0x150000 from hn.2), Bool.and_false]; decide
      exact (smbWrite_answered h).trans ((congrArg ok (if_neg hn20)).trans (ok_ite_neg hn15))
    case known => exact fun h => (exec_tapInstructionUpdate ir s).trans (congrArg (fun n => Host.Outcome.next (tapSelected n s)) (if_neg h))
    case bypass => exact fun h => (exec_tapInstructionUpdate ir s).trans (congrArg (fun n => Host.Outcome.next (tapSelected n s)) (if_pos h))
  · intro ws full w s v st dir start abort moved x r su due
    have hgo : bit v 0 = true := bit_lor_one _
    refine ⟨?idle, ?running, ?aborts, ?idleAbort, fun h => ok_ite_pos h, fun h => ok_ite_neg h, ?accepted, ?refused,
      summaryReq_accepts s 7 full, fun h he => (summaryCapture_due h).trans (ok_ite_pos he),
      fun h he => (summaryCapture_due h).trans (ok_ite_neg (Bool.eq_false_iff.mp he)), summaryCapture_early,
      fun h => ok_ite_pos h, fun h => ok_ite_neg h⟩
    case idle => exact fun h => puts_of_eq (exec_tldGo w s) ((tldCtrl_idle h).trans (if_pos hgo))
    case running =>
      refine fun h => puts_of_eq (exec_tldGo w s) ((tldCtrl_running h).trans ?_)
      rw [bit_lor_clear (show bit 1 1 = false by decide)]
      rfl
    case aborts =>
      exact fun h => puts_of_eq (exec_tldAbort w ws s) ((tldCtrl_running h).trans (congrArg (loaderDir _) (if_pos (bit_lor_set (by decide) _))))
    case idleAbort =>
      refine fun h => puts_of_eq (exec_tldAbort w ws s) ((tldCtrl_idle h).trans ?_)
      rw [bit_lor_clear (show bit 2 0 = false by decide)]
      rfl
    case accepted => exact fun h => puts_of_eq (exec_summaryRequest w s) ((resync_go hgo).trans (if_pos h))
    case refused => exact fun h => puts_of_eq (exec_summaryRequest w s) ((resync_go hgo).trans (if_neg (Bool.eq_false_iff.mp h)))

end Sys2Proof.Proofs
end

section
/-!
PROOFS. The host's windows on the frame store, recorders and players (R212, R213, R230, R231, R237-R248, R295, R399, R401, R443).
-/
namespace Sys2Proof.Proofs
open Sys2Proof.Machine Sys2Proof.Laws

/-! ### The host's windows (R212, R213, R399, R401) -/

section
variable {w : Fin 16} {o n : Nat} {data : Option (List Nat)} {bs : List Nat} {bad : Option (Fin 4)} {tmo : Bool} {s : State}

/-- Host accesses are turned away. -/
abbrev HostShut (s : State) : Prop := s.pins.ready = false ∨ s.hif.d3 = true

theorem hostShut_iff : (!s.pins.ready || s.hif.d3) = true ↔ HostShut s := by
  rw [Bool.or_eq_true, Bool.not_eq_true']

/-- A write that the window takes, mirrored where the pair is in step. -/
def windowWritten (w : Fin 16) (o : Nat) (bs : List Nat) (s : State) : State :=
  if s.mirroring = true then (s.hostWinWrite w o bs).sendHostw s.posWords 4 (w.val * 2 ^ 36 + o) bs else s.hostWinWrite w o bs

theorem exec_windowRead : exec (.hostWindowAccess w o none n (bad, tmo)) s =
    ok (if (!s.pins.ready || s.hif.d3) = true then s else s.hostWinRead w o n bad tmo) := rfl

theorem exec_windowWrite : exec (.hostWindowAccess w o (some bs) n (bad, tmo)) s =
    ok (if (!s.pins.ready || s.hif.d3) = true then s else if s.mode ≤ Mode.init then s.wr F.TOP_INIT_STATUS_WR_EARLY 0 1
      else if s.mode = Mode.standby then s.event F.COBALT_EVENT_STBY_REFUSED 0 Irq.cobalt else windowWritten w o bs s) := rfl

theorem windowAccess_shut (h : HostShut s) : exec (.hostWindowAccess w o data n (bad, tmo)) s = .next s := by
  cases data with
  | none => exact exec_windowRead.trans (ok_ite_pos (hostShut_iff.mpr h))
  | some bs => exact exec_windowWrite.trans (ok_ite_pos (hostShut_iff.mpr h))

theorem windowRead_open (h : ¬ HostShut s) :
    exec (.hostWindowAccess w o none n (bad, tmo)) s = .next (s.hostWinRead w o n bad tmo) :=
  exec_windowRead.trans (ok_ite_neg (mt hostShut_iff.mp h))

theorem windowWrite_open (h : ¬ HostShut s) : exec (.hostWindowAccess w o (some bs) n (bad, tmo)) s =
    ok (if s.mode ≤ Mode.init then s.wr F.TOP_INIT_STATUS_WR_EARLY 0 1
      else if s.mode = Mode.standby then s.event F.COBALT_EVENT_STBY_REFUSED 0 Irq.cobalt else windowWritten w o bs s) :=
  exec_windowWrite.trans (congrArg ok (if_neg (mt hostShut_iff.mp h)))

theorem windowWrite_standby (h : ¬ HostShut s) (hm : s.mode = Mode.standby) : exec (.hostWindowAccess w o (some bs) n (bad, tmo)) s =
    .next (s.event F.COBALT_EVENT_STBY_REFUSED 0 Irq.cobalt) :=
  (windowWrite_open h).trans ((congrArg ok (if_neg (by rw [hm]; decide))).trans (ok_ite_pos hm))

theorem windowWrite_taken (h : ¬ HostShut s) (hi : Mode.init < s.mode) (hm : s.mode ≠ Mode.standby) :
    exec (.hostWindowAccess w o (some bs) n (bad, tmo)) s = .next (windowWritten w o bs s) :=
  (windowWrite_open h).trans ((congrArg ok (if_neg (not_le.mpr hi))).trans (ok_ite_neg hm))

end

/-! ### The frames of a recorder (R237-R240, R443) -/

section
variable {r : Fin 128} {s : State} {i : Nat}

/-- The recorder's destination. -/
abbrev recDest (r : Fin 128) : Nat := 5760 + 4 * r.val

/-- Its source. -/
abbrev recSrc (r : Fin 128) (s : State) : Nat := groupSrc (recDest r) (s.xa (recDest r))

/-- The generator's frame that is due for the buffer. -/
abbrev recDue (r : Fin 128) (s : State) (i : Nat) : Option (Nat × Nat) := s.genDue r (s.desc i).struct (s.desc i).rate

/-- What a frame of the source does to a recorder that takes it. -/
def recTakes (r : Fin 128) (s : State) (i : Nat) : State :=
  if (isGen (recSrc r s) && (recDue r s i).isNone) = true then s
  else if (isGen (recSrc r s) && decide (widthOf (s.xa (recDest r)).width = widthOf (s.desc i).width)) = true then
    (s.recFrame r i (recSrc r s)).setRecorder r
      { (s.recFrame r i (recSrc r s)).recorder r with genAt := (recDue r s i).getD (0, 0) }
  else if s.recFits (recDest r) (s.xa (recDest r)) (s.desc i) = true then s.recFrame r i (recSrc r s)
  else s.incSat F.SABLE_REC_FMT_SKIP r

/-- A recorder's frame start, the spare already taken. -/
def recFrameStart (r : Fin 128) (s : State) : State :=
  if (!s.on F.SABLE_REC_RUNNING r) = true then s
  else if (s.recorder r).stopping = true then
    ((s.setRecorder r { s.recorder r with stopping := false }).wr F.SABLE_REC_RUNNING r 0).storeShow
  else if (!(s.judge (recDest r)).live) = true then s
  else match s.handleDesc (s.rd F.SABLE_REC_HANDLE r) with
    | none => s
    | some i => recTakes r s i

theorem exec_recorderFrameStart : exec (.recorderFrameStart r) s = .next (recFrameStart r (s.spareTake 1 r)) := rfl

theorem recFrameStart_off (h : s.on F.SABLE_REC_RUNNING r = false) : recFrameStart r s = s := if_pos (by rw [h]; rfl)

theorem recFrameStart_stops (h : s.on F.SABLE_REC_RUNNING r = true) (hst : (s.recorder r).stopping = true) :
    recFrameStart r s = ((s.setRecorder r { s.recorder r with stopping := false }).wr F.SABLE_REC_RUNNING r 0).storeShow := by
  rw [recFrameStart, if_neg (by rw [h]; decide), if_pos hst]

theorem recFrameStart_dead (h : s.on F.SABLE_REC_RUNNING r = true) (hst : (s.recorder r).stopping = false)
    (hl : (s.judge (recDest r)).live = false) : recFrameStart r s = s := by
  rw [recFrameStart, if_neg (by rw [h]; decide), if_neg (by rw [hst]; decide), if_pos (by rw [hl]; rfl)]

/-- A recorder that runs on a live source. -/
abbrev RecTakes (r : Fin 128) (s : State) : Prop :=
  s.on F.SABLE_REC_RUNNING r = true ∧ (s.recorder r).stopping = false ∧ (s.judge (recDest r)).live = true

theorem recFrameStart_live (h : RecTakes r s) : recFrameStart r s = match s.handleDesc (s.rd F.SABLE_REC_HANDLE r) with
    | none => s
    | some i => recTakes r s i := by
  obtain ⟨hon, hst, hl⟩ := h
  rw [recFrameStart, if_neg (by rw [hon]; decide), if_neg (by rw [hst]; decide), if_neg (by rw [hl]; decide)]

theorem recFrameStart_noBuffer (h : RecTakes r s) (hb : s.handleDesc (s.rd F.SABLE_REC_HANDLE r) = none) : recFrameStart r s = s := by
  simp only [recFrameStart_live h, hb]

theorem recFrameStart_buffer (h : RecTakes r s) (hb : s.handleDesc (s.rd F.SABLE_REC_HANDLE r) = some i) :
    recFrameStart r s = recTakes r s i := by
  simp only [recFrameStart_live h, hb]

/-- A generator with no frame due. -/
abbrev GenIdle (r : Fin 128) (s : State) (i : Nat) : Prop := isGen (recSrc r s) = true ∧ recDue r s i = none

/-- A generator whose frame is due and fits. -/
abbrev GenFits (r : Fin 128) (s : State) (i : Nat) : Prop := isGen (recSrc r s) = true ∧ (recDue r s i).isSome = true ∧
  widthOf (s.xa (recDest r)).width = widthOf (s.desc i).width

theorem genIdle_iff : (isGen (recSrc r s) && (recDue r s i).isNone) = true ↔ GenIdle r s i := by
  rw [Bool.and_eq_true, Option.isNone_iff_eq_none]

theorem genFits_iff (h : ¬ GenIdle r s i) :
    (isGen (recSrc r s) && decide (widthOf (s.xa (recDest r)).width = widthOf (s.desc i).width)) = true ↔ GenFits r s i := by
  rw [Bool.and_eq_true, decide_eq_true_eq]
  refine ⟨fun ⟨hg, hw⟩ => ⟨hg, Option.isSome_iff_ne_none.mpr fun hn => h ⟨hg, hn⟩, hw⟩, fun ⟨hg, _, hw⟩ => ⟨hg, hw⟩⟩

theorem recTakes_idle (h : GenIdle r s i) : recTakes r s i = s := if_pos (genIdle_iff.mpr h)

theorem recTakes_gen (h : GenFits r s i) : recTakes r s i = (s.recFrame r i (recSrc r s)).setRecorder r
    { (s.recFrame r i (recSrc r s)).recorder r with genAt := (recDue r s i).getD (0, 0) } := by
  have hidle : ¬ GenIdle r s i := fun hi => Option.isSome_iff_ne_none.mp h.2.1 hi.2
  exact (if_neg (mt genIdle_iff.mp hidle)).trans (if_pos ((genFits_iff hidle).mpr h))

theorem recTakes_other (hi : ¬ GenIdle r s i) (hf : ¬ GenFits r s i) : recTakes r s i =
    if s.recFits (recDest r) (s.xa (recDest r)) (s.desc i) = true then s.recFrame r i (recSrc r s)
    else s.incSat F.SABLE_REC_FMT_SKIP r :=
  (if_neg (mt genIdle_iff.mp hi)).trans (if_neg (mt (genFits_iff hi).mp hf))

end

/-! ### The frames of a player (R241-R245) -/

section
variable {p : Fin 128} {s : State}

/-- The egress position of the player's raster. -/
abbrev playPos (p : Fin 128) (s : State) : Pos := s.egress (s.player p).set.raster

/-- A new frame of the player's raster. -/
abbrev PlayNew (p : Fin 128) (s : State) : Prop :=
  s.enabled (s.player p).set.raster = true ∧ (playPos p s).frame ≠ (s.player p).begun

/-- The next set's frame has begun. -/
abbrev PlayMoved (q : PlaySet) (f : Nat) (s : State) : Prop := s.enabled q.raster = true ∧ (s.egress q.raster).frame ≠ f

/-- What a player does at a frame start that does not stop it. -/
def playFrame (p : Fin 128) (s : State) : State :=
  match (s.player p).beginAt with
  | some b => if (s.enabled (s.player p).set.raster && decide (((playPos p s).frame, (playPos p s).line) ≠ b)) = true then
      s.playChoose p (playPos p s).line else s
  | none => match (s.player p).next with
    | some (q, f) => if (s.enabled q.raster && decide ((s.egress q.raster).frame ≠ f)) = true then (s.playAdopt p q).playChoose p 1
      else if (s.enabled (s.player p).set.raster && decide ((playPos p s).frame ≠ (s.player p).begun)) = true then s.playChoose p 1 else s
    | none => if (s.enabled (s.player p).set.raster && decide ((playPos p s).frame ≠ (s.player p).begun)) = true then
      s.playChoose p 1 else s

theorem exec_playerFrameStart : exec (.playerFrameStart p) s = ok (if (!s.on F.SABLE_PLAY_RUNNING p) = true then s
    else if ((s.player p).stopping && (s.enabled (s.player p).set.raster && decide ((playPos p s).frame ≠ (s.player p).begun))) = true then
      s.playStop p
    else playFrame p s) := rfl

theorem enabled_and_iff {a : Bool} {P : Prop} [Decidable P] : (a && decide P) = true ↔ a = true ∧ P := by
  rw [Bool.and_eq_true, decide_eq_true_eq]

theorem playerFrameStart_off (h : ¬ s.on F.SABLE_PLAY_RUNNING p = true) : exec (.playerFrameStart p) s = .next s :=
  exec_playerFrameStart.trans (ok_ite_pos (by rw [Bool.eq_false_iff.mpr h]; rfl))

theorem playerFrameStart_stops (h : s.on F.SABLE_PLAY_RUNNING p = true) (hst : (s.player p).stopping = true) (hn : PlayNew p s) :
    exec (.playerFrameStart p) s = .next (s.playStop p) := by
  refine exec_playerFrameStart.trans ((congrArg ok (if_neg (by rw [h]; decide))).trans (ok_ite_pos ?_))
  rw [hst, Bool.true_and]
  exact enabled_and_iff.mpr hn

theorem playerFrameStart_goesOn (h : s.on F.SABLE_PLAY_RUNNING p = true) (hn : ¬ ((s.player p).stopping = true ∧ PlayNew p s)) :
    exec (.playerFrameStart p) s = .next (playFrame p s) := by
  refine exec_playerFrameStart.trans ((congrArg ok (if_neg (by rw [h]; decide))).trans (ok_ite_neg ?_))
  rw [Bool.and_eq_true, enabled_and_iff]
  exact hn

theorem playFrame_begins {b : Nat × Nat} (hb : (s.player p).beginAt = some b) (hen : s.enabled (s.player p).set.raster = true)
    (hne : ((playPos p s).frame, (playPos p s).line) ≠ b) : playFrame p s = s.playChoose p (playPos p s).line := by
  simp only [playFrame, hb, if_pos (enabled_and_iff.mpr ⟨hen, hne⟩)]

theorem playFrame_beginsLater {b : Nat × Nat} (hb : (s.player p).beginAt = some b)
    (hn : ¬ (s.enabled (s.player p).set.raster = true ∧ ((playPos p s).frame, (playPos p s).line) ≠ b)) : playFrame p s = s := by
  simp only [playFrame, hb, if_neg (mt enabled_and_iff.mp hn)]

theorem playFrame_adopts {q : PlaySet} {f : Nat} (hb : (s.player p).beginAt = none) (hq : (s.player p).next = some (q, f))
    (hm : PlayMoved q f s) : playFrame p s = (s.playAdopt p q).playChoose p 1 := by
  simp only [playFrame, hb, hq, if_pos (enabled_and_iff.mpr hm)]

theorem playFrame_stays (hb : (s.player p).beginAt = none) (hq : ∀ q f, (s.player p).next = some (q, f) → ¬ PlayMoved q f s) :
    playFrame p s =
      if (s.enabled (s.player p).set.raster && decide ((playPos p s).frame ≠ (s.player p).begun)) = true then s.playChoose p 1 else s := by
  cases hn : (s.player p).next with
  | none => simp only [playFrame, hb, hn]
  | some x =>
    obtain ⟨q, f⟩ := x
    simp only [playFrame, hb, hn, if_neg (mt enabled_and_iff.mp (hq q f hn))]

theorem playFrame_again (hb : (s.player p).beginAt = none) (hq : ∀ q f, (s.player p).next = some (q, f) → ¬ PlayMoved q f s)
    (hn : PlayNew p s) : playFrame p s = s.playChoose p 1 := (playFrame_stays hb hq).trans (if_pos (enabled_and_iff.mpr hn))

theorem playFrame_waits (hb : (s.player p).beginAt = none) (hq : ∀ q f, (s.player p).next = some (q, f) → ¬ PlayMoved q f s)
    (hn : ¬ PlayNew p s) : playFrame p s = s := (playFrame_stays hb hq).trans (if_neg (mt enabled_and_iff.mp hn))

end

/-! ### A player's lines (R243, R246, R247, R295) -/

section
variable {p : Fin 128} {bad : Option (Fin 4)} {tmo : Bool} {s : State} {i : Nat}

/-- The player's next line is due. -/
abbrev PlayLineDue (p : Fin 128) (s : State) : Prop := s.on F.SABLE_PLAY_RUNNING p = true ∧ s.on F.SABLE_PLAY_LOST p = false ∧
  (s.player p).beginAt = none ∧ s.enabled (s.player p).set.raster = true ∧ (playPos p s).frame = (s.player p).begun ∧
  (s.player p).line ≤ (playPos p s).line + 1 ∧ (s.player p).line ≤ totalLines (s.player p).set.st

theorem playDue_iff : s.playDue p = true ↔ PlayLineDue p s := by
  simp only [State.playDue, PlayLineDue, Bool.and_eq_true, Bool.not_eq_true', Option.isNone_iff_eq_none, decide_eq_true_eq, and_assoc]

theorem exec_playerLineFetch : exec (.playerLineFetch p bad tmo) s = ok (if (!s.playDue p) = true then s
    else match s.readDesc (s.player p).set.handle with
      | none => s.staleRead.playFlags p true false
      | some i => (s.playFetch p i bad tmo).deembPlay p) := rfl

theorem playerLineFetch_early (h : ¬ PlayLineDue p s) : exec (.playerLineFetch p bad tmo) s = .next s :=
  exec_playerLineFetch.trans (ok_ite_pos (by rw [Bool.eq_false_iff.mpr (mt playDue_iff.mp h)]; rfl))

theorem playerLineFetch_due (h : PlayLineDue p s) : exec (.playerLineFetch p bad tmo) s =
    ok (match s.readDesc (s.player p).set.handle with
      | none => s.staleRead.playFlags p true false
      | some i => (s.playFetch p i bad tmo).deembPlay p) :=
  exec_playerLineFetch.trans (congrArg ok (if_neg (by rw [playDue_iff.mpr h]; decide)))

theorem playerLineFetch_stale (h : PlayLineDue p s) (hd : s.readDesc (s.player p).set.handle = none) :
    exec (.playerLineFetch p bad tmo) s = .next (s.staleRead.playFlags p true false) := by
  simp only [playerLineFetch_due h, hd, ok]

theorem playerLineFetch_reads (h : PlayLineDue p s) (hd : s.readDesc (s.player p).set.handle = some i) :
    exec (.playerLineFetch p bad tmo) s = .next ((s.playFetch p i bad tmo).deembPlay p) := by
  simp only [playerLineFetch_due h, hd, ok]

end

/-! ### A recorder's lines (R230, R231, R237-R240, R243, R248) -/

section
variable {r : Fin 128} {ws : List (List Nat)} {s : State} {q i : Nat} {f : Stored}

/-- The lines of the strands as the recorder reads them. -/
def recLines (r : Fin 128) (ws : List (List Nat)) (i : Nat) (f : Stored) (s : State) : List (List Nat × Bool) :=
  (List.range (widthOf (s.desc i).width)).map fun k => s.recWords (recSrc r s) k f.next (s.desc i) (ws.getD k [])

/-- The structure class of the buffer. -/
abbrev recClass (i : Nat) (s : State) : Nat := classOf (s.desc i).struct (s.desc i).rate

/-- The active words of strand `k`. -/
def recActive (r : Fin 128) (ws : List (List Nat)) (i : Nat) (f : Stored) (s : State) (k : Nat) : List Nat :=
  pack10 (activeValues (layOf (recClass i s)) (chanActive (signalStruct (recClass i s) (s.desc i).struct))
    ((recLines r ws i f s).getD k ([], false)).1)

/-- The ancillary records of strand `k`. -/
def recAnc (r : Fin 128) (ws : List (List Nat)) (i : Nat) (f : Stored) (s : State) (k : Nat) : List (List Nat) :=
  lineRecords (layOf (recClass i s)) (chanActive (signalStruct (recClass i s) (s.desc i).struct)) f.next
    ((recLines r ws i f s).getD k ([], false)).1

/-- The pages the line's writes touch. -/
def recSpan (r : Fin 128) (ws : List (List Nat)) (q i : Nat) (f : Stored) (s : State) : List Nat :=
  (List.range (widthOf (s.desc i).width)).flatMap fun k =>
    (match activeIndex (s.desc i).struct f.next with
      | some j => pageSpan ((s.desc i).strandAt q k + 64 + j * lineBytes (s.desc i).struct (s.desc i).rate)
          (lineBytes (s.desc i).struct (s.desc i).rate)
      | none => []) ++
    pageSpan ((s.desc i).strandAt q k + 64 + activeBytes (s.desc i).struct (s.desc i).rate + f.ancUsed.getD k 0)
      (((recAnc r ws i f s k).map (·.length)).foldl (· + ·) 0)

/-- The line stored on every strand. -/
def recStored (r : Fin 128) (ws : List (List Nat)) (q i : Nat) (f : Stored) (s : State) : State :=
  let a := forEach (List.range (widthOf (s.desc i).width))
    (fun k t => t.recStrandLine r i q f.next k (recActive r ws i f s k) (recAnc r ws i f s k)) s
  a.setDesc i { a.desc i with stored := (a.desc i).stored.map fun g =>
    if g.seq = q then { g with at' := tput g.at' f.next s.clk 0, next := f.next + 1
                               crcSeen := g.crcSeen || (recLines r ws i f s).any (·.2) } else g }

/-- A line of an open frame. -/
def recLine (r : Fin 128) (ws : List (List Nat)) (q i : Nat) (f : Stored) (s : State) : State :=
  if ((recSpan r ws q i f s).any fun e => !((s.desc i).pages.getD e { port := 0, page := 0, placed := false }).placed) = true then
    s.recDrop r q
  else if f.next = strandLines (s.desc i).struct then (recStored r ws q i f s).recDone r i q else recStored r ws q i f s

/-- What a line does by the recorder's oldest open frame and its buffer. -/
def recLineDone (r : Fin 128) (ws : List (List Nat)) (s : State) : State :=
  match (s.recorder r).open', s.handleDesc (s.rd F.SABLE_REC_HANDLE r) with
  | [], _ => s
  | _ :: _, none => s.setRecorder r { s.recorder r with open' := [] }
  | q :: _, some i => match (s.desc i).stored.find? fun f => f.seq = q with
    | none => s.setRecorder r { s.recorder r with open' := (s.recorder r).open'.erase q }
    | some f => recLine r ws q i f s

theorem exec_recorderLineComplete : exec (.recorderLineComplete r ws () ()) s = .next (recLineDone r ws s) := rfl

theorem recLineDone_closed (ho : (s.recorder r).open' = []) : recLineDone r ws s = s := by
  simp only [recLineDone, ho]

theorem recLineDone_noBuffer (ho : (s.recorder r).open' ≠ []) (hb : s.handleDesc (s.rd F.SABLE_REC_HANDLE r) = none) :
    recLineDone r ws s = s.setRecorder r { s.recorder r with open' := [] } := by
  obtain ⟨q, rest, hq⟩ := List.exists_cons_of_ne_nil ho
  simp only [recLineDone, hq, hb]

theorem recLineDone_open (ho : (s.recorder r).open'.head? = some q) (hb : s.handleDesc (s.rd F.SABLE_REC_HANDLE r) = some i) :
    recLineDone r ws s = match (s.desc i).stored.find? fun f => f.seq = q with
      | none => s.setRecorder r { s.recorder r with open' := (s.recorder r).open'.erase q }
      | some f => recLine r ws q i f s := by
  obtain ⟨rest, hq⟩ := List.head?_eq_some_iff.mp ho
  simp only [recLineDone, hq, hb]

theorem recLineDone_frameGone (ho : (s.recorder r).open'.head? = some q) (hb : s.handleDesc (s.rd F.SABLE_REC_HANDLE r) = some i)
    (hf : (s.desc i).stored.find? (fun f => f.seq = q) = none) :
    recLineDone r ws s = s.setRecorder r { s.recorder r with open' := (s.recorder r).open'.erase q } := by
  simp only [recLineDone_open ho hb, hf]

theorem recLineDone_line (ho : (s.recorder r).open'.head? = some q) (hb : s.handleDesc (s.rd F.SABLE_REC_HANDLE r) = some i)
    (hf : (s.desc i).stored.find? (fun f => f.seq = q) = some f) : recLineDone r ws s = recLine r ws q i f s := by
  simp only [recLineDone_open ho hb, hf]

/-- A write of the line meets a page that is not placed. -/
abbrev RecHole (r : Fin 128) (ws : List (List Nat)) (q i : Nat) (f : Stored) (s : State) : Prop := ∃ e, e ∈ recSpan r ws q i f s ∧
  ((s.desc i).pages.getD e { port := 0, page := 0, placed := false }).placed = false

theorem recHole_iff : ((recSpan r ws q i f s).any fun e =>
      !((s.desc i).pages.getD e { port := 0, page := 0, placed := false }).placed) = true ↔ RecHole r ws q i f s := by
  simp only [List.any_eq_true, Bool.not_eq_true']

theorem recLine_hole (h : RecHole r ws q i f s) : recLine r ws q i f s = s.recDrop r q := if_pos (recHole_iff.mpr h)

theorem recLine_last (h : ¬ RecHole r ws q i f s) (hn : f.next = strandLines (s.desc i).struct) :
    recLine r ws q i f s = (recStored r ws q i f s).recDone r i q := (if_neg (mt recHole_iff.mp h)).trans (if_pos hn)

theorem recLine_stored (h : ¬ RecHole r ws q i f s) (hn : f.next ≠ strandLines (s.desc i).struct) :
    recLine r ws q i f s = recStored r ws q i f s := (if_neg (mt recHole_iff.mp h)).trans (if_neg hn)

end

/-- Settles O33: windows by who may use them, recorders and players by what their frame start finds, lines by the open frame. -/
theorem recorderPlayerCommands : Obligations.RecorderPlayerCommands := by
  unfold Obligations.RecorderPlayerCommands
  constructor
  · intro r p w o n bs poison tmo s shut wrote a d src takes buf due fitsGen idle began rec' x eg runs new moved play line got out bad out'
    have hrec {t : State} (ht : recFrameStart r a = t) : rec' t := congrArg Host.Outcome.next ht
    have hplay {t : State} (hr : runs) (hn : ¬ (x.stopping = true ∧ new)) (ht : playFrame p s = t) : play t :=
      (playerFrameStart_goesOn hr hn).trans (congrArg Host.Outcome.next ht)
    have hnot (hst : x.stopping = false) : ¬ (x.stopping = true ∧ new) := fun hc => by simp [hst] at hc
    refine ⟨fun h data => windowAccess_shut h, windowRead_open, fun h hi => (windowWrite_open h).trans (ok_ite_pos hi),
      fun h hm => windowWrite_standby h hm, ?mirrored, ?alone, fun h => hrec (recFrameStart_off h),
      fun h hst => hrec (recFrameStart_stops h hst), fun h hst hl => hrec (recFrameStart_dead h hst hl),
      fun h hb => hrec (recFrameStart_noBuffer h hb), fun i h hb hi => hrec ((recFrameStart_buffer h hb).trans (recTakes_idle hi)),
      fun i h hb hf => hrec ((recFrameStart_buffer h hb).trans (recTakes_gen hf)), ?fits, ?skips, playerFrameStart_off,
      playerFrameStart_stops, fun b hr hn hb hen hne => hplay hr hn (playFrame_begins hb hen hne),
      fun b hr hn hb hl => hplay hr hn (playFrame_beginsLater hb hl), fun q f hr hn hb hq hm => hplay hr hn (playFrame_adopts hb hq hm),
      fun hr hst hb hq hnew => hplay hr (hnot hst) (playFrame_again hb hq hnew),
      fun hr hb hq hnew => hplay hr (fun hc => hnew hc.2) (playFrame_waits hb hq hnew), playerLineFetch_early, playerLineFetch_stale,
      fun i h hd => playerLineFetch_reads h hd, fun i c h hd => playerLineFetch_reads h hd⟩
    case mirrored =>
      exact fun h hi hm hmir => (windowWrite_taken h hi hm).trans (congrArg Host.Outcome.next (if_pos hmir))
    case alone =>
      exact fun h hi hm hmir => (windowWrite_taken h hi hm).trans (congrArg Host.Outcome.next (if_neg (Bool.eq_false_iff.mp hmir)))
    case fits =>
      exact fun i h hb hi hf hr => hrec ((recFrameStart_buffer h hb).trans ((recTakes_other hi hf).trans (if_pos hr)))
    case skips =>
      exact fun i h hb hi hf hr =>
        hrec ((recFrameStart_buffer h hb).trans ((recTakes_other hi hf).trans (if_neg (Bool.eq_false_iff.mp hr))))
  · intro r ws s d src v h done
    have hdone {t : State} (ht : recLineDone r ws s = t) : done t := congrArg Host.Outcome.next ht
    refine ⟨fun ho => hdone (recLineDone_closed ho), fun ho hb => hdone (recLineDone_noBuffer ho hb),
      fun q i ho hb hf => hdone (recLineDone_frameGone ho hb hf), ?line⟩
    case line =>
      intro q i f ho hb hf x cls lay got act anc span hole a b
      have hline := recLineDone_line (ws := ws) ho hb hf
      exact ⟨fun hh => hdone (hline.trans (recLine_hole hh)), fun hh hn => hdone (hline.trans (recLine_last hh hn)),
        fun hh hn => hdone (hline.trans (recLine_stored hh hn))⟩

end Sys2Proof.Proofs
end

section
/-!
PROOFS. Head sets and their commits (R207, R255, R257, R270, R281, R283, R284); heads while they run (R234, R243, R247, R253, R271, R277,
R278).
-/
namespace Sys2Proof.Proofs
open Sys2Proof.Machine Sys2Proof.Laws

/-! ### Staged words (R255, R257) -/

section
variable {h b i w : Nat} {s : State}

/-- Another master stages the head, or its commit is pending. -/
abbrev HeadTaken (h : Nat) (s : State) : Prop :=
  (s.head h).accepted = true ∨ ((s.head h).claim ≠ none ∧ (s.head h).claim ≠ some 7)

theorem headTaken_iff :
    ((s.head h).accepted || (decide ((s.head h).claim ≠ none ∧ (s.head h).claim ≠ some 7))) = true ↔ HeadTaken h s := by
  rw [Bool.or_eq_true, decide_eq_true_eq]

theorem headStage_refused (ht : HeadTaken h s) : State.headStage h b i w s = s.event F.OCHRE_EVENT_STAGE_REFUSED 0 Irq.ochre :=
  if_pos (headTaken_iff.mpr ht)

theorem headStage_free (ht : ¬ HeadTaken h s) : State.headStage h b i w s = if definedWord b i = true then s.stageWord 7 h b i w else s :=
  if_neg (mt headTaken_iff.mp ht)

theorem exec_headStagedWrite (h : Fin 96) (b : Fin 9) (i : Fin 64) (w : Word) (s : State) : exec (.headStagedWrite h b i w) s =
    ok (s.hostWriteWin true 2 (0x400000 + 0x1000 * h.val + 0x100 * b.val + 4 * i.val) w.toNat (State.headStage h b i w.toNat)) := rfl

theorem headStagedWrite_writes {h : Fin 96} {b : Fin 9} {i : Fin 64} {w : Word} {s t : State}
    (ht : State.headStage h b i w.toNat s = t) :
    WinWrites (.headStagedWrite h b i w) true (0x400000 + 0x1000 * h.val + 0x100 * b.val + 4 * i.val) w s t :=
  winWrites_of_eq (exec_headStagedWrite h b i w s) ht

end

/-! ### A write of HCOMMIT_CTRL (R207, R281) -/

section
variable {w : Nat} {s : State}

/-- The head a write names. -/
abbrev hcommitHead (t : State) : Nat := t.rd F.OCHRE_HCOMMIT_CTRL_HEAD 0

/-- The frame it names. -/
abbrev hcommitFrame (t : State) : Nat :=
  t.widen (t.stagedSet (hcommitHead t)).raster (t.on F.OCHRE_HCOMMIT_CTRL_STYLE 0)
    (if t.on F.OCHRE_HCOMMIT_CTRL_STYLE 0 = true then t.rd F.OCHRE_HCOMMIT_TGT_FRAME_LO 0
      else t.rd64 F.OCHRE_HCOMMIT_TGT_FRAME_LO F.OCHRE_HCOMMIT_TGT_FRAME_HI 0)

/-- The code of its refusal. -/
abbrev hcommitCode (t : State) : Nat × Nat :=
  t.headCode 7 (hcommitHead t) (t.stagedSet (hcommitHead t)).raster (hcommitFrame t) true (t.on F.OCHRE_HCOMMIT_CTRL_VALIDATE 0)

/-- GO, accepted or refused. -/
def hcommitGo (t : State) : State :=
  if (hcommitCode t).1 = 0 then
    t.headAccept 7 (hcommitHead t) (t.stagedSet (hcommitHead t)).raster (hcommitFrame t) (t.on F.OCHRE_HCOMMIT_CTRL_VALIDATE 0)
  else (t.headRefused 7 (hcommitHead t) (hcommitCode t).1 (hcommitCode t).2 (t.on F.OCHRE_HCOMMIT_CTRL_VALIDATE 0)).event
    F.OCHRE_EVENT_HCOMMIT_REFUSED 0 Irq.ochre

/-- The commit and its code, taken together. -/
theorem headCommit_shown (t : State) (h r f : Nat) (val : Bool) :
    (if (t.headCommit 7 h r f val).2 = 0 then (t.headCommit 7 h r f val).1
      else (t.headCommit 7 h r f val).1.event F.OCHRE_EVENT_HCOMMIT_REFUSED 0 Irq.ochre) =
    if (t.headCode 7 h r f true val).1 = 0 then t.headAccept 7 h r f val
    else (t.headRefused 7 h (t.headCode 7 h r f true val).1 (t.headCode 7 h r f true val).2 val).event
      F.OCHRE_EVENT_HCOMMIT_REFUSED 0 Irq.ochre := by
  unfold State.headCommit
  dsimp only
  by_cases hc : (t.headCode 7 h r f true val).1 = 0
  · rw [if_pos hc, if_pos hc, if_neg (not_not.mpr hc)]
  · rw [if_neg hc, if_neg hc, if_pos hc]

theorem headCtrl_eq (w : Nat) (s : State) : State.headCtrl w s =
    let q := s.writeWord 0xA0020 w
    let a := if bit w 0 = true then hcommitGo q else q
    if bit w 1 = true then a.unclaim (hcommitHead q) 7 else a := by
  have hgo := headCommit_shown (s.writeWord 0xA0020 w) (hcommitHead (s.writeWord 0xA0020 w))
    ((s.writeWord 0xA0020 w).stagedSet (hcommitHead (s.writeWord 0xA0020 w))).raster (hcommitFrame (s.writeWord 0xA0020 w))
    ((s.writeWord 0xA0020 w).on F.OCHRE_HCOMMIT_CTRL_VALIDATE 0)
  exact congrArg (fun g => let a := if bit w 0 = true then g else s.writeWord 0xA0020 w
    if bit w 1 = true then a.unclaim (hcommitHead (s.writeWord 0xA0020 w)) 7 else a) hgo

theorem headCtrl_go (h : bit w 0 = true) (s : State) : State.headCtrl w s = if bit w 1 = true then
      (hcommitGo (s.writeWord 0xA0020 w)).unclaim (hcommitHead (s.writeWord 0xA0020 w)) 7
    else hcommitGo (s.writeWord 0xA0020 w) := by
  rw [headCtrl_eq]
  dsimp only
  rw [if_pos h]

theorem headCtrl_discards (h : bit w 1 = true) (s : State) : State.headCtrl w s =
    (if bit w 0 = true then hcommitGo (s.writeWord 0xA0020 w) else s.writeWord 0xA0020 w).unclaim
      (hcommitHead (s.writeWord 0xA0020 w)) 7 := by
  rw [headCtrl_eq]
  dsimp only
  rw [if_pos h]

theorem exec_headCommitGo (w : Word) (s : State) :
    exec (.headCommitGo w) s = ok (s.hostWrite 0xA0020 (Nat.lor w.toNat 1) (State.headCtrl (Nat.lor w.toNat 1))) := rfl

theorem exec_headCommitDiscard (w : Word) (s : State) :
    exec (.headCommitDiscard w) s = ok (s.hostWrite 0xA0020 (Nat.lor w.toNat 2) (State.headCtrl (Nat.lor w.toNat 2))) := rfl

theorem exec_ochreLogPop (w : Word) (s : State) :
    exec (.ochreLogPop w) s = ok (s.hostWrite 0xA0044 w.toNat (State.ochrePop w.toNat)) := rfl

end

/-! ### The latch of a head (R270, R283, R284) -/

section
variable {h : Nat} {s : State}

/-- The raster whose latch counts for the head. -/
abbrev latchRaster (h : Nat) (s : State) : Nat := if (s.head h).accepted = true then (s.head h).raster else (s.activeSet h).raster

/-- The raster of an accepted set is off, or was changed since. -/
abbrev LatchLost (h : Nat) (s : State) : Prop := (s.head h).accepted = true ∧
  (s.enabled (latchRaster h s) = false ∨ (s.raster (latchRaster h s)).offs ≠ (s.head h).offs)

/-- The latch of an accepted set has come. -/
abbrev LatchDue (h : Nat) (s : State) : Prop := (s.head h).accepted = true ∧
  ((s.head h).latch.1 < (s.egress (latchRaster h s)).frame ∨
    ((s.head h).latch.1 = (s.egress (latchRaster h s)).frame ∧ (s.head h).latch.2 ≤ (s.egress (latchRaster h s)).line))

/-- A latch line at which a head that a block reset marked starts again. -/
abbrev LatchFresh (h : Nat) (s : State) : Prop := s.enabled (latchRaster h s) = true ∧
  ((s.egress (latchRaster h s)).frame, (s.egress (latchRaster h s)).line) =
    s.latchOf (latchRaster h s) (s.egress (latchRaster h s)).frame ∧
  tget s.headReinit (s.rd F.OCHRE_HEAD_STATUS_PHYS h) false = true

/-- Its layers started again. -/
def latchStarted (h : Nat) (s : State) : State :=
  if LatchFresh h s then forEach (List.range 8) (fun l s => s.setLayer h l {})
    { s with headReinit := tput s.headReinit (s.rd F.OCHRE_HEAD_STATUS_PHYS h) false false }
  else s

theorem headEffect_eq (h : Nat) (s : State) : s.headEffect h =
    if LatchLost h s ∨ (LatchDue h s ∧ s.mode = Mode.safe) then (latchStarted h s).headDiscard h
    else if LatchDue h s then (latchStarted h s).headLatch h else latchStarted h s := by
  simp only [State.headEffect, latchStarted, LatchLost, LatchDue, LatchFresh, Bool.and_eq_true, Bool.or_eq_true, decide_eq_true_eq,
    Bool.not_eq_true', and_assoc]

theorem exec_headLatch (h : Fin 96) (s : State) : exec (.headLatch h) s = .next (s.headEffect h) := rfl

theorem headEffect_discards (hd : LatchLost h s ∨ (LatchDue h s ∧ s.mode = Mode.safe)) :
    s.headEffect h = (latchStarted h s).headDiscard h := (headEffect_eq h s).trans (if_pos hd)

theorem headEffect_latches (hl : ¬ LatchLost h s) (hd : LatchDue h s) (hm : s.mode ≠ Mode.safe) :
    s.headEffect h = (latchStarted h s).headLatch h :=
  (headEffect_eq h s).trans ((if_neg fun hc => hc.elim hl fun hc => hm hc.2).trans (if_pos hd))

theorem headEffect_waits (hl : ¬ LatchLost h s) (hd : ¬ LatchDue h s) : s.headEffect h = latchStarted h s :=
  (headEffect_eq h s).trans ((if_neg fun hc => hc.elim hl fun hc => hd hc.1).trans (if_neg hd))

end

/-! ### What a frame start leaves of the head's output -/

section
variable {s : State} {k h l : Nat}

theorem head_of_heads {t : State} (hh : t.heads = s.heads) : t.head k = s.head k := congrArg (fun x : Tab Head => tget x k ({} : Head)) hh

@[simp] theorem head_ite (p : Prop) [Decidable p] (a b : State) : (if p then a else b).head k = if p then a.head k else b.head k :=
  apply_ite (State.head · k) p a b

@[simp] theorem wr_head {f i v} : (s.wr f i v).head k = s.head k := head_of_heads (wr_heads s f i v)
@[simp] theorem event_head {f i x} : (s.event f i x).head k = s.head k := head_of_heads ((raise_heads _ x).trans (wr_heads s f i 1))
@[simp] theorem incSat_head {f i} : (s.incSat f i).head k = s.head k := wr_head
@[simp] theorem setLayer_head {x} : (s.setLayer h l x).head k = s.head k := rfl

@[simp] theorem setOchreLog_head {q} : (s.setOchreLog q).head k = s.head k :=
  (forEach_keeps (State.head · k) _ _ (fun _ _ => wr_head) _).trans wr_head

@[simp] theorem draw_head : s.draw.1.head k = s.head k := rfl

@[simp] theorem readByte_head {i o} : (s.readByte i o).1.head k = s.head k := by
  unfold State.readByte
  dsimp only
  split
  · rfl
  · split <;> rfl

/-- Folds that leave the head leave it as it was. -/
@[simp] theorem foldl_fst_head {β γ : Type} {f : State × γ → β → State × γ} (hf : ∀ a e, (f a e).1.head k = a.1.head k) (l : List β)
    (a : State × γ) : (l.foldl f a).1.head k = a.1.head k := by
  induction l generalizing a with
  | nil => rfl
  | cons e r ih => rw [List.foldl_cons, ih, hf]

@[simp] theorem framePidBad_head {i f} : (s.framePidBad i f).1.head k = s.head k := by
  unfold State.framePidBad
  split
  · rfl
  · simp

@[simp] theorem loadShow_head : s.loadShow.head k = s.head k := by
  unfold State.loadShow
  dsimp only
  split <;> simp

@[simp] theorem ochreShow_head : s.ochreShow.head k = s.head k := by simp [State.ochreShow]

@[simp] theorem layerOff_head {count} : (s.layerOff h l count).head k = s.head k := by
  unfold State.layerOff
  dsimp only
  split <;> simp

@[simp] theorem layerShow_head {hd q} : (s.layerShow h l hd q).head k = s.head k := by simp [State.layerShow]

/-- A head set anew with its output as it was. -/
theorem setHead_shown {x : Head} (hx : x.shown = (s.head h).shown) : ((s.setHead h x).head k).shown = (s.head k).shown := by
  by_cases hk : k = h
  · subst hk
    exact (congrArg Head.shown (tget_tput_same s.heads k x {})).trans hx
  · exact congrArg Head.shown (tget_tput_ne s.heads h k x {} {} hk)

@[simp] theorem headCond_shown {r d} : ((s.headCond h l r d).head k).shown = (s.head k).shown := by
  unfold State.headCond
  dsimp only
  split
  · exact setHead_shown rfl
  split
  · rw [setOchreLog_head]
    exact setHead_shown rfl
  · rw [event_head, wr_head, incSat_head]
    exact setHead_shown rfl

@[simp] theorem layerNotReady_shown {i} : ((s.layerNotReady h l i).head k).shown = (s.head k).shown := by
  unfold State.layerNotReady
  dsimp only
  split <;> simp

@[simp] theorem bufferStart_shown : ((s.bufferStart h l).head k).shown = (s.head k).shown := by
  unfold State.bufferStart
  dsimp only
  (repeat' split) <;> simp

@[simp] theorem layerStart_shown : ((State.layerStart h l s).head k).shown = (s.head k).shown := by
  unfold State.layerStart
  dsimp only
  (repeat' split) <;> simp

@[simp] theorem headJudge_shown : ((State.headJudge h s).head k).shown = (s.head k).shown := by
  unfold State.headJudge
  dsimp only
  split
  · rw [event_head, headCond_shown]
    exact setHead_shown rfl
  · exact setHead_shown rfl

@[simp] theorem headLayers_shown {ls} : ((State.headLayers h ls s).head k).shown = (s.head k).shown := by
  unfold State.headLayers
  split
  · exact forEach_keeps (fun t => (t.head k).shown) ls (fun l s => s.layerStart h l) (fun _ _ => layerStart_shown) s
  · exact forEach_keeps (fun t => (t.head k).shown) ls (fun l s => s.setLayer h l {}) (fun _ _ => rfl) s

/-- The frame that composition begins is not the one that the output shows. -/
theorem headStart_shown : ((State.headStart h s).head k).shown = (s.head k).shown := by
  unfold State.headStart
  rw [ochreShow_head, headLayers_shown, headJudge_shown]
  refine (forEach_keeps (fun t => (t.head k).shown) _ _ (fun _ _ => ?_) _).trans ?_
  · rw [wr_head, setLayer_head]
  · rw [wr_head]
    exact setHead_shown rfl

end

/-! ### Frames of a head (R271, R277) -/

section
variable {h : Fin 96} {s : State}

/-- The egress position advanced by the head's lines ahead. -/
def headPos (h : Nat) (s : State) : Pos :=
  addSamples (s.egress (s.activeSet h).raster) (s.headAhead h * s.rSamples (s.activeSet h).raster) (s.rLines (s.activeSet h).raster)
    (s.rSamples (s.activeSet h).raster)

/-- The head begins the frame it composes. -/
abbrev HeadBegins (h : Nat) (s : State) : Prop := s.enabled (s.activeSet h).raster = true ∧
  ((s.activeSet h).en = true ∨ (s.head h).live = true) ∧ (headPos h s).frame ≠ (s.head h).begun

/-- The frame begun, where it is due. -/
def headBegun (h : Nat) (s : State) : State := if HeadBegins h s then s.headStart h else s

/-- The head's output turns to the next frame. -/
abbrev HeadShows (h : Nat) (s : State) : Prop := s.enabled (s.activeSet h).raster = true ∧
  ((headBegun h s).on F.OCHRE_HEAD_STATUS_RUNNING h = true ∨ ((headBegun h s).head h).live = true) ∧
  (s.egress (s.activeSet h).raster).frame ≠ ((headBegun h s).head h).shown

theorem headBegun_shown : ((headBegun h s).head h).shown = (s.head h).shown := by
  unfold headBegun
  split
  · exact headStart_shown
  · rfl

theorem headBegins_iff : (s.enabled (s.activeSet h).raster && ((s.activeSet h).en || (s.head h).live) &&
      decide ((headPos h s).frame ≠ (s.head h).begun)) = true ↔ HeadBegins h s := by
  simp only [HeadBegins, Bool.and_eq_true, Bool.or_eq_true, decide_eq_true_eq, and_assoc]

theorem headShows_iff {t : State} (ht : (t.head h).shown = (s.head h).shown) : (s.enabled (s.activeSet h).raster &&
      (t.on F.OCHRE_HEAD_STATUS_RUNNING h || (t.head h).live) &&
      decide ((s.egress (s.activeSet h).raster).frame ≠ (s.head h).shown)) = true ↔
    s.enabled (s.activeSet h).raster = true ∧ (t.on F.OCHRE_HEAD_STATUS_RUNNING h = true ∨ (t.head h).live = true) ∧
      (s.egress (s.activeSet h).raster).frame ≠ (t.head h).shown := by
  simp only [Bool.and_eq_true, Bool.or_eq_true, decide_eq_true_eq, and_assoc, ht]

/-- A head's frame start: composition begins, then the output turns. -/
def headFrameDone (h : Fin 96) (s t : State) : Host.Outcome State Fault Refusal :=
  ok (if (s.enabled (s.activeSet h).raster && (t.on F.OCHRE_HEAD_STATUS_RUNNING h || (t.head h).live) &&
    decide ((s.egress (s.activeSet h).raster).frame ≠ (s.head h).shown)) = true then t.headShow h else t)

theorem exec_headFrameStart : exec (.headFrameStart h) s = headFrameDone h s (headBegun h s) := by
  have hbegun : (if (s.enabled (s.activeSet h).raster && ((s.activeSet h).en || (s.head h).live) &&
      decide ((headPos h s).frame ≠ (s.head h).begun)) = true then s.headStart h else s) = headBegun h s :=
    if_congr headBegins_iff rfl rfl
  exact congrArg (headFrameDone h s) hbegun

theorem headFrameStart_shows (hs : HeadShows h s) : exec (.headFrameStart h) s = .next ((headBegun h s).headShow h) :=
  exec_headFrameStart.trans (ok_ite_pos ((headShows_iff headBegun_shown).mpr hs))

theorem headFrameStart_stays (hs : ¬ HeadShows h s) : exec (.headFrameStart h) s = .next (headBegun h s) :=
  exec_headFrameStart.trans (ok_ite_neg (mt (headShows_iff headBegun_shown).mp hs))

end

/-! ### Lines composed (R278) -/

section
variable {h : Fin 96} {s : State}

/-- The head's picture lines. -/
abbrev headLines (h : Nat) (s : State) : Nat := (s.headPicture (s.activeSet h)).2

/-- The raster is interlaced. -/
abbrev headInter (h : Nat) (s : State) : Bool := decide (s.rStruct (s.activeSet h).raster = 4)

/-- The picture line next to compose. -/
def headRow (h : Nat) (s : State) : Nat := rowAt (headInter h s) (headLines h s) (s.head h).line

/-- The line is due. -/
abbrev ComposeDue (h : Nat) (s : State) : Prop := (s.head h).live = true ∧ s.enabled (s.activeSet h).raster = true ∧
  (s.head h).line < headLines h s ∧
  s.toPicture (s.activeSet h).raster (s.head h).begun (headRow h s) ≤ (s.headAhead h * s.rSamples (s.activeSet h).raster : Nat)

theorem composeDue_iff : ((s.head h).live && s.enabled (s.activeSet h).raster && (decide ((s.head h).line < headLines h s) &&
      decide (s.toPicture (s.activeSet h).raster (s.head h).begun (headRow h s) ≤
        (s.headAhead h * s.rSamples (s.activeSet h).raster : Nat)))) = true ↔ ComposeDue h s := by
  simp only [ComposeDue, Bool.and_eq_true, decide_eq_true_eq, and_assoc]

/-- The line composed from every layer. -/
def lineComposed (h : Nat) (s : State) : State :=
  (forEach (List.range 8) (fun k s' => s'.layerCompose h (headRow h s) k)
    (s.setHead h { s.head h with line := (s.head h).line + 1 })).composeRow h (headRow h s)

theorem headLineCompose_due (hd : ComposeDue h s) : exec (.headLineCompose h) s = .next (lineComposed h s) :=
  ok_ite_pos (composeDue_iff.mpr hd)

theorem headLineCompose_early (hd : ¬ ComposeDue h s) : exec (.headLineCompose h) s = .next s :=
  ok_ite_neg (mt composeDue_iff.mp hd)

end

/-! ### Lines fetched (R234, R243, R247, R253) -/

section
variable {h : Fin 96} {l : Fin 8} {bad : Option (Fin 4)} {tmo : Bool} {s : State} {hd q i : Nat}

/-- The buffer has room for a line of the layer's frame. -/
abbrev LayerRoom (h : Fin 96) (l : Fin 8) (s : State) (hd q : Nat) : Prop := (s.layer h l).last = some (hd, q) ∧
  (s.layer h l).on = true ∧ (s.activeSet h).kind l = 0 ∧
  (s.layer h l).fetched < (s.activeSet h).room (headInter h s) (headLines h s) l (s.layer h l).used (headRow h s)

/-- The source row it fetches. -/
def layerRow (h : Fin 96) (l : Fin 8) (s : State) : Nat :=
  rowAt (headInter h s) ((s.activeSet h).span (headInter h s) (headLines h s) l).2 (s.layer h l).fetched +
    ((s.activeSet h).span (headInter h s) (headLines h s) l).1 + bits (s.activeSet h (1 + l.val) 4) 0 12

/-- The frame of a slate is its only one. -/
def layerFrame (i q : Nat) (s : State) : Nat := if (s.desc i).kind = 1 then 0 else q

/-- Where the row lies in its strand. -/
def layerOffset (i row : Nat) (s : State) : Nat :=
  match activeIndex (s.desc i).struct (storeLine (s.desc i).struct row) with
  | some j => 64 + j * lineBytes (s.desc i).struct (s.desc i).rate
  | none => 64

/-- A page of the row is not placed or not written. -/
def layerDry (i q row : Nat) (s : State) : Bool :=
  (strandsOf (s.desc i) row).any fun k =>
    (pageSpan ((s.desc i).strandAt (layerFrame i q s) k + layerOffset i row s) (lineBytes (s.desc i).struct (s.desc i).rate)).any fun e =>
      let p := (s.desc i).pages.getD e { port := 0, page := 0 }; !p.placed || !p.written

/-- The row read, or nothing of a page that holds none. -/
def layerGot (h : Fin 96) (l : Fin 8) (i q : Nat) (dry : Bool) (s : State) : State × SrcRow :=
  if dry = true then (s, {}) else s.fetchRow i (layerFrame i q s) (layerOffset i (layerRow h l s) s) (layerRow h l s)
    (bits (s.activeSet h (1 + l.val) 0) 5 1)

/-- The row in the layer's buffer. -/
def layerPut (h : Fin 96) (l : Fin 8) (i : Nat) (g : State × SrcRow) (s : State) : State :=
  (g.1.noteRead i (s.activeSet h).raster).setLayer h l { s.layer h l with
    fetched := (s.layer h l).fetched + 1
    rows := tput (s.layer h l).rows (layerRow h l s) g.2 {}
    urgent := decide ((s.layer h l).fetched + 1 - (s.layer h l).used < s.rd F.OCHRE_FETCH_CFG_WM 0) }

/-- A row that is not there is counted. -/
def layerUnwritten (h : Fin 96) (l : Fin 8) (t : State) : State :=
  t.incSat F.OCHRE_LAYER_STATUS_NOT_WRITTEN (8 * h.val + l.val)

/-- The row fetched, whether written, poisoned or late. -/
def layerFetched (h : Fin 96) (l : Fin 8) (i q : Nat) (bad : Option (Fin 4)) (tmo : Bool) (s : State) : State :=
  let dry := layerDry i q (layerRow h l s) s || bad.isSome
  let s2 := layerPut h l i (layerGot h l i q dry s) s
  let s3 := match bad with
    | some c => if tmo then s2 else s2.poisoned c.val
    | none => s2
  if dry = true then layerUnwritten h l s3 else s3

theorem exec_layerLineFetch : exec (.layerLineFetch h l bad tmo) s = ok (match (s.layer h l).last with
    | none => s
    | some (hd, q) => if (!(s.layer h l).on || decide ((s.activeSet h).kind l ≠ 0 ∨
        (s.activeSet h).room (headInter h s) (headLines h s) l (s.layer h l).used (headRow h s) ≤ (s.layer h l).fetched)) = true then s
      else match s.readDesc hd with
        | none => (s.staleRead.headCond h l 0x02 0).layerOff h l true
        | some i => if (!State.rowStored (s.desc i) (bit (s.activeSet h (1 + l.val) 0) 4) q (layerRow h l s)) = true then s
          else layerFetched h l i q bad tmo s) := rfl

theorem layerRoom_iff : (!(s.layer h l).on || decide ((s.activeSet h).kind l ≠ 0 ∨
      (s.activeSet h).room (headInter h s) (headLines h s) l (s.layer h l).used (headRow h s) ≤ (s.layer h l).fetched)) = false ↔
    (s.layer h l).on = true ∧ (s.activeSet h).kind l = 0 ∧
      (s.layer h l).fetched < (s.activeSet h).room (headInter h s) (headLines h s) l (s.layer h l).used (headRow h s) := by
  simp only [Bool.or_eq_false_iff, Bool.not_eq_false', decide_eq_false_iff_not, not_or, not_not, not_le]

theorem layerLineFetch_full (hn : ∀ hd q, ¬ LayerRoom h l s hd q) : exec (.layerLineFetch h l bad tmo) s = .next s := by
  rw [exec_layerLineFetch]
  cases hlast : (s.layer h l).last with
  | none => rfl
  | some x =>
    obtain ⟨hd, q⟩ := x
    exact ok_ite_pos (Bool.of_not_eq_false fun hc => hn hd q ⟨hlast, layerRoom_iff.mp hc⟩)

theorem layerLineFetch_room (hr : LayerRoom h l s hd q) : exec (.layerLineFetch h l bad tmo) s = ok (match s.readDesc hd with
    | none => (s.staleRead.headCond h l 0x02 0).layerOff h l true
    | some i => if (!State.rowStored (s.desc i) (bit (s.activeSet h (1 + l.val) 0) 4) q (layerRow h l s)) = true then s
      else layerFetched h l i q bad tmo s) := by
  obtain ⟨hlast, hroom⟩ := hr
  rw [exec_layerLineFetch, hlast]
  exact congrArg ok (if_neg (Bool.eq_false_iff.mp (layerRoom_iff.mpr hroom)))

theorem layerLineFetch_stale (hr : LayerRoom h l s hd q) (hdesc : s.readDesc hd = none) :
    exec (.layerLineFetch h l bad tmo) s = .next ((s.staleRead.headCond h l 0x02 0).layerOff h l true) := by
  simp only [layerLineFetch_room hr, hdesc, ok]

theorem layerLineFetch_chases (hr : LayerRoom h l s hd q) (hdesc : s.readDesc hd = some i)
    (hrow : State.rowStored (s.desc i) (bit (s.activeSet h (1 + l.val) 0) 4) q (layerRow h l s) = false) :
    exec (.layerLineFetch h l bad tmo) s = .next s := by
  simp only [layerLineFetch_room hr, hdesc, hrow, Bool.not_false, if_true, ok]

theorem layerLineFetch_fetches (hr : LayerRoom h l s hd q) (hdesc : s.readDesc hd = some i)
    (hrow : State.rowStored (s.desc i) (bit (s.activeSet h (1 + l.val) 0) 4) q (layerRow h l s) = true) :
    exec (.layerLineFetch h l bad tmo) s = .next (layerFetched h l i q bad tmo s) := by
  simp only [layerLineFetch_room hr, hdesc, hrow, Bool.not_true, Bool.false_eq_true, if_false, ok]

theorem layerFetched_good : layerFetched h l i q none tmo s = if layerDry i q (layerRow h l s) s = true then
      layerUnwritten h l (layerPut h l i (layerGot h l i q true s) s)
    else layerPut h l i (layerGot h l i q false s) s := by
  simp only [layerFetched, Option.isSome_none, Bool.or_false]
  cases layerDry i q (layerRow h l s) s <;> rfl

theorem layerFetched_bad {c : Fin 4} : layerFetched h l i q (some c) tmo s = layerUnwritten h l
    (if tmo = true then layerPut h l i (layerGot h l i q true s) s
      else (layerPut h l i (layerGot h l i q true s) s).poisoned c) := by
  simp only [layerFetched, Option.isSome_some, Bool.or_true, if_true]

end

/-- Settles O34: sets by their claim and latch, heads by their frame and line, a layer's fetch by its room and its row. -/
theorem headCommands : Obligations.HeadCommands := by
  unfold Obligations.HeadCommands
  constructor
  · intro h b i w s x off taken q hd go r e phys fresh a lost due
    refine ⟨fun ht => headStagedWrite_writes (headStage_refused ht),
      fun ht hd => headStagedWrite_writes ((headStage_free ht).trans (if_pos hd)),
      fun ht hd => headStagedWrite_writes ((headStage_free ht).trans (if_neg (Bool.eq_false_iff.mp hd))), ?go, ?discard,
      fun hd => congrArg Host.Outcome.next (headEffect_discards hd),
      fun hl hd hm => congrArg Host.Outcome.next (headEffect_latches hl hd hm),
      fun hl hd => congrArg Host.Outcome.next (headEffect_waits hl hd),
      fun h0 => puts_of_eq (exec_ochreLogPop w s) (if_pos h0),
      fun h0 => puts_of_eq (exec_ochreLogPop w s) (if_neg (Bool.eq_false_iff.mp h0))⟩
    case go =>
      refine puts_of_eq (exec_headCommitGo w s) ((headCtrl_go (bit_lor_one _) s).trans ?_)
      rw [bit_lor_clear (show bit 1 1 = false by decide)]
      rfl
    case discard =>
      refine puts_of_eq (exec_headCommitDiscard w s) ((headCtrl_discards (bit_lor_set (by decide) _) s).trans ?_)
      rw [bit_lor_clear (show bit 2 0 = false by decide)]
      rfl
  · intro h l c bad tmo s x v e begins a shows y inter hgt room row frame o dry got put unwritten ready line due
    exact ⟨headFrameStart_shows, headFrameStart_stays, layerLineFetch_full, fun hd q hr hn => layerLineFetch_stale hr hn,
      fun hd q i hr hn hrow => layerLineFetch_chases hr hn hrow,
      fun hd q i hr hn hrow => (layerLineFetch_fetches hr hn hrow).trans (congrArg Host.Outcome.next layerFetched_good),
      fun hd q i hr hn hrow => (layerLineFetch_fetches hr hn hrow).trans (congrArg Host.Outcome.next layerFetched_bad),
      headLineCompose_due, headLineCompose_early⟩

end Sys2Proof.Proofs
end

section
/-!
PROOFS. Lane states, what a lane sends, and its tests (R316-R321, R326, R330-R334, R339, R341, R342).
-/
namespace Sys2Proof.Proofs
open Sys2Proof.Machine Sys2Proof.Laws

/-! ### A write of a lane's CTRL (R330, R331) -/

section
variable {n w : Nat} {s : State}

/-- The lane is powered down. -/
abbrev LaneDown (n : Nat) (s : State) : Prop := s.laneSt n = Ln.off ∨ s.laneSt n = Ln.deep

/-- The GRANT taken. -/
def laneGranted (n w : Nat) (s : State) : State := s.wr F.FAB_LANE_CTRL_GRANT n (bits w 16 16)

/-- FORERUNNER or CLASS would change. -/
abbrev LaneChanges (n w : Nat) (s : State) : Prop := bits w 2 1 ≠ s.rd F.FAB_LANE_CTRL_FORERUNNER n ∨
  (bits w 3 2 ≠ 3 ∧ bits w 3 2 ≠ s.rd F.FAB_LANE_CTRL_CLASS n)

/-- FORERUNNER and CLASS taken as well. -/
def laneConfigured (n w : Nat) (s : State) : State :=
  ((laneGranted n w s).wr F.FAB_LANE_CTRL_FORERUNNER n (bits w 2 1)).writeField F.FAB_LANE_CTRL_CLASS n (bits w 3 2)

/-- The write as far as STATE_REQ. -/
def laneTaken (n w : Nat) (s : State) : State :=
  if LaneDown n s then laneConfigured n w s
  else if LaneChanges n w s then (laneGranted n w s).laneRefused n else laneGranted n w s

/-- A wake in service without a grant that holds. -/
abbrev LaneLacks (n w : Nat) (s t : State) : Prop :=
  bits w 0 2 = 2 ∧ s.inService = true ∧ t.laneGrant n (bits w 16 16) = false

/-- STATE_REQ taken and followed. -/
def laneFollowed (n w : Nat) (t : State) : State :=
  if bits w 0 2 = 3 then t else (t.wr F.FAB_LANE_CTRL_STATE_REQ n (bits w 0 2)).laneFollow n (bits w 0 2)

/-- The request followed, refused, or the reserved one passed over. -/
def laneEnded (n w : Nat) (s t : State) : State := if bits w 0 2 = 3 then t
  else if LaneDown n s ∧ LaneLacks n w s t then t.laneRefused n
  else (t.wr F.FAB_LANE_CTRL_STATE_REQ n (bits w 0 2)).laneFollow n (bits w 0 2)

theorem laneEnded_iff {t : State} : (bits w 0 2 = 2 ∧ decide (LaneDown n s) = true ∧ s.inService = true ∧
    (!t.laneGrant n (bits w 16 16)) = true) ↔ LaneDown n s ∧ LaneLacks n w s t := by
  rw [decide_eq_true_eq, Bool.not_eq_true']
  tauto

theorem laneCtrl_eq (n w : Nat) (s : State) : State.laneCtrl n w s = laneEnded n w s (laneTaken n w s) := by
  have htaken : (if decide (LaneDown n s) = true then laneConfigured n w s
      else if decide (LaneChanges n w s) = true then (laneGranted n w s).laneRefused n else laneGranted n w s) = laneTaken n w s :=
    if_congr decide_eq_true_iff rfl (if_congr decide_eq_true_iff rfl rfl)
  rw [← htaken]
  exact if_congr Iff.rfl rfl (if_congr laneEnded_iff rfl rfl)

theorem laneCtrl_follows (h : ¬ (LaneDown n s ∧ LaneLacks n w s (laneTaken n w s))) :
    State.laneCtrl n w s = laneFollowed n w (laneTaken n w s) := by
  rw [laneCtrl_eq, laneEnded, if_neg h]
  rfl

theorem laneCtrl_lacks (hd : LaneDown n s) (hl : LaneLacks n w s (laneTaken n w s)) :
    State.laneCtrl n w s = (laneTaken n w s).laneRefused n := by
  have hreq : bits w 0 2 ≠ 3 := by rw [hl.1]; decide
  rw [laneCtrl_eq, laneEnded, if_neg hreq, if_pos ⟨hd, hl⟩]

theorem laneTaken_down (hd : LaneDown n s) : laneTaken n w s = laneConfigured n w s := if_pos hd

theorem laneTaken_same (hd : ¬ LaneDown n s) (hc : ¬ LaneChanges n w s) : laneTaken n w s = laneGranted n w s :=
  (if_neg hd).trans (if_neg hc)

theorem laneTaken_refused (hd : ¬ LaneDown n s) (hc : LaneChanges n w s) : laneTaken n w s = (laneGranted n w s).laneRefused n :=
  (if_neg hd).trans (if_pos hc)

theorem exec_laneCtrlWrite (n : Fin 152) (w : Word) (s : State) : exec (.laneCtrlWrite n w) s =
    ok (s.hostWrite (0xE1000 + 0x80 * n.val) w.toNat (State.laneCtrl n.val w.toNat)) := rfl

end

/-! ### A lane's signal, lock and their loss (R332-R334, R339) -/

section
variable {n : Fin 152} {s : State}

/-- ACTIVE is asked of a lane that is live. -/
abbrev LaneAsked (n : Nat) (s : State) : Prop := s.lanesLive = true ∧ s.rd F.FAB_LANE_CTRL_STATE_REQ n = 2

theorem laneAsked_iff : (!s.lanesLive || decide (s.rd F.FAB_LANE_CTRL_STATE_REQ n ≠ 2)) = false ↔ LaneAsked n s := by
  simp only [LaneAsked, Bool.or_eq_false_iff, Bool.not_eq_false', decide_eq_false_iff_not, not_not, ne_eq]

theorem exec_signalDetect : exec (.signalDetect n) s = ok (if (!s.lanesLive || decide (s.rd F.FAB_LANE_CTRL_STATE_REQ n ≠ 2)) = true then s
    else if s.laneSt n = Ln.idle then (s.wr F.FAB_LANE_STATUS_SIG_DET n 1).toTraining n true else s.wr F.FAB_LANE_STATUS_SIG_DET n 1) := rfl

theorem signalDetect_asked (h : LaneAsked n s) : exec (.signalDetect n) s =
    ok (if s.laneSt n = Ln.idle then (s.wr F.FAB_LANE_STATUS_SIG_DET n 1).toTraining n true else s.wr F.FAB_LANE_STATUS_SIG_DET n 1) :=
  exec_signalDetect.trans (congrArg ok (if_neg (Bool.eq_false_iff.mp (laneAsked_iff.mpr h))))

theorem signalDetect_unasked (h : ¬ LaneAsked n s) : exec (.signalDetect n) s = .next s :=
  exec_signalDetect.trans (ok_ite_pos (Bool.of_not_eq_false (mt laneAsked_iff.mp h)))

/-- A lane that trains, with frame lock. -/
abbrev LaneReady (n : Nat) (s : State) : Prop :=
  s.framed n = true ∧ (s.laneSt n = Ln.training ∨ s.laneSt n = Ln.hunt ∨ s.laneSt n = Ln.blockLock)

/-- A hot-plugged lane shows its event. -/
def hotShown (n : Nat) (t : State) : State :=
  ((t.setLane n { t.lane n with hot := false }).wr F.FAB_LANE_STATUS_HOTPLUG_EV n 1).event F.FAB_EVENT_HOTPLUG 0 Irq.fab

theorem laneActive_ready (h : LaneReady n s) : exec (.laneActive n) s = ok (if (s.lane n).hot = true then
      hotShown n (s.wr F.FAB_LANE_STATUS_STATE n Ln.active) else s.wr F.FAB_LANE_STATUS_STATE n Ln.active) :=
  congrArg ok (if_pos h)

theorem laneActive_still (h : ¬ LaneReady n s) : exec (.laneActive n) s = .next s := ok_ite_neg h

/-- A lane in operation. -/
abbrev LaneWorks (n : Nat) (s : State) : Prop := Ln.idle ≤ s.laneSt n ∧ s.laneSt n ≤ Ln.active

/-- The partner left in order. -/
abbrev LaneLeft (n : Nat) (s : State) : Prop := s.framed n = true ∧ s.on F.FAB_LANE_STATUS_PARTNER_READY n = false

/-- The lane idle, without a signal. -/
def laneIdled (n : Nat) (t : State) : State := (t.wr F.FAB_LANE_STATUS_SIG_DET n 0).wr F.FAB_LANE_STATUS_STATE n Ln.idle

/-- A loss that counts no more. -/
def lossForgotten (n : Nat) (t : State) : State := t.setLane n { t.lane n with lostAt := none }

theorem laneLeft_iff : (!s.on F.FAB_LANE_STATUS_PARTNER_READY n && s.framed n) = true ↔ LaneLeft n s := by
  simp only [LaneLeft, Bool.and_eq_true, Bool.not_eq_true', and_comm]

theorem laneSignalLoss_works (h : LaneWorks n s) : exec (.laneSignalLoss n) s = .next (laneIdled n
    (if (!s.on F.FAB_LANE_STATUS_PARTNER_READY n && s.framed n) = true then lossForgotten n (s.unframe n) else s.unframe n)) :=
  ok_ite_pos h

theorem laneSignalLoss_idle (h : ¬ LaneWorks n s) : exec (.laneSignalLoss n) s = .next (s.wr F.FAB_LANE_STATUS_SIG_DET n 0) :=
  ok_ite_neg h

/-- The lane has been without frame lock for FAIL_MS, and a remap may follow. -/
abbrev LaneLate (n : Nat) (s : State) : Prop :=
  s.on F.FAB_GLOBAL_CTRL_AUTO_REMAP 0 = true ∧ s.framed n = false ∧ s.inService = true ∧
    ∃ t, (s.lane n).lostAt = some t ∧ t + s.rd F.FAB_GLOBAL_CTRL_FAIL_MS 0 * msClk ≤ s.clk

theorem exec_laneLockTimeout : exec (.laneLockTimeout n) s = ok (match (s.lane n.val).lostAt with
    | some t => if (s.on F.FAB_GLOBAL_CTRL_AUTO_REMAP 0 && decide (t + s.rd F.FAB_GLOBAL_CTRL_FAIL_MS 0 * msClk ≤ s.clk) &&
        !s.framed n.val && s.inService) = true then s.laneFail n.val else s
    | none => s) := rfl

theorem laneLockTimeout_late (h : LaneLate n s) : exec (.laneLockTimeout n) s = .next (s.laneFail n) := by
  obtain ⟨hauto, hframe, hserv, t, hlost, hpast⟩ := h
  rw [exec_laneLockTimeout, hlost]
  exact ok_ite_pos (by rw [hauto, hframe, hserv, decide_eq_true hpast]; rfl)

theorem laneLockTimeout_early (h : ¬ LaneLate n s) : exec (.laneLockTimeout n) s = .next s := by
  rw [exec_laneLockTimeout]
  cases hlost : (s.lane n.val).lostAt with
  | none => rfl
  | some t =>
    refine ok_ite_neg fun hc => h ?_
    simp only [Bool.and_eq_true, Bool.not_eq_true', decide_eq_true_eq] at hc
    obtain ⟨⟨⟨hauto, hpast⟩, hframe⟩, hserv⟩ := hc
    exact ⟨hauto, hframe, hserv, t, hlost, hpast⟩

end

/-! ### What a lane sends (R316-R321, R326) -/

section
variable {n : Fin 152} {pre post : Fin 4} {s : State}

theorem turnOwn_iff : (s.sendsTurns n && !(s.mirrors && decide (n.val = s.rmNew))) = true ↔
    s.sendsTurns n = true ∧ (s.mirrors = false ∨ n.val ≠ s.rmNew) := by
  simp only [Bool.and_eq_true, Bool.not_eq_true', Bool.and_eq_false_iff, decide_eq_false_iff_not, ne_eq]

theorem exec_turnTx : exec (.turnTx n ()) s =
    ok (if (s.sendsTurns n && !(s.mirrors && decide (n.val = s.rmNew))) = true then s.turnTx n else s) := rfl

/-- A lane that sends at all. -/
abbrev LaneSends (n : Nat) (s : State) : Prop := Ln.training ≤ s.laneSt n ∧ s.laneSt n ≤ Ln.test

/-- A lane in a test with a pattern. -/
abbrev LanePattern (n : Nat) (s : State) : Prop := s.laneSt n = Ln.test ∧ s.rd F.FAB_LANE_TEST_PATTERN n ≠ 3

/-- A training lane that has not sent its TRAIN blocks. -/
abbrev LaneEarly (n : Nat) (s : State) : Prop := s.laneSt n = Ln.training ∧ (s.lane n).train < 128

theorem exec_statusBlockTx : exec (.statusBlockTx n pre post) s = ok (if s.laneSt n < Ln.training ∨ Ln.test < s.laneSt n then s
    else if LanePattern n s then s.patternTx n
    else if LaneEarly n s then s.trainTx n
    else (if (s.lane n).txHead = [] then s else s.frameEnd n).frameBegin n pre.val post.val) := rfl

theorem statusBlockTx_silent (h : ¬ LaneSends n s) : exec (.statusBlockTx n pre post) s = .next s :=
  exec_statusBlockTx.trans (ok_ite_pos (by omega))

theorem statusBlockTx_sends (h : LaneSends n s) : exec (.statusBlockTx n pre post) s = ok (if LanePattern n s then s.patternTx n
    else if LaneEarly n s then s.trainTx n
    else (if (s.lane n).txHead = [] then s else s.frameEnd n).frameBegin n pre.val post.val) :=
  exec_statusBlockTx.trans (congrArg ok (if_neg (by omega)))

theorem statusBlockTx_pattern (h : LaneSends n s) (hp : LanePattern n s) : exec (.statusBlockTx n pre post) s = .next (s.patternTx n) :=
  (statusBlockTx_sends h).trans (ok_ite_pos hp)

theorem statusBlockTx_early (h : LaneSends n s) (he : LaneEarly n s) : exec (.statusBlockTx n pre post) s = .next (s.trainTx n) := by
  have hp : ¬ LanePattern n s := fun hp => absurd (he.1.symm.trans hp.1) (by decide)
  exact (statusBlockTx_sends h).trans ((congrArg ok (if_neg hp)).trans (ok_ite_pos he))

theorem statusBlockTx_frame (h : LaneSends n s) (hp : ¬ LanePattern n s) (he : ¬ LaneEarly n s) : exec (.statusBlockTx n pre post) s =
    .next ((if (s.lane n).txHead = [] then s else s.frameEnd n).frameBegin n pre.val post.val) :=
  (statusBlockTx_sends h).trans ((congrArg ok (if_neg hp)).trans (ok_ite_neg he))

end

/-! ### A lane's tests (R341, R342) -/

section
variable {n w : Nat} {s : State}

/-- The test's fields as written. -/
def testTaken (n w : Nat) (s : State) : State :=
  ((((s.wr F.FAB_LANE_TEST_PATTERN n (bits w 2 2)).wr F.FAB_LANE_TEST_LOOP n (bits w 4 1)).wr F.FAB_LANE_TEST_INJ_SYM n
    (bits w 5 5)).writeField F.FAB_LANE_TEST_INJ_BER n (bits w 10 4)).wr F.FAB_LANE_TEST_GRANT n (bits w 16 16)

theorem testCtrl_eq (n w : Nat) (s : State) : State.testCtrl n w s =
    let t := if bit w 1 = true then (testTaken n w s).testStop n else testTaken n w s
    if bit w 0 = true then t.testStart n (bits w 16 16) else t := rfl

theorem testCtrl_starts (h : bit w 0 = true) (s : State) : State.testCtrl n w s =
    (if bit w 1 = true then (testTaken n w s).testStop n else testTaken n w s).testStart n (bits w 16 16) := if_pos h

theorem testCtrl_stops (h : bit w 1 = true) (s : State) : State.testCtrl n w s =
    if bit w 0 = true then ((testTaken n w s).testStop n).testStart n (bits w 16 16) else (testTaken n w s).testStop n := by
  rw [testCtrl_eq]
  dsimp only
  rw [if_pos h]

theorem exec_laneTestStart (n : Fin 152) (w : Word) (s : State) : exec (.laneTestStart n w) s =
    ok (s.hostWrite (0xE1020 + 0x80 * n.val) (Nat.lor w.toNat 1) (State.testCtrl n.val (Nat.lor w.toNat 1))) := rfl

theorem exec_laneTestStop (n : Fin 152) (w : Word) (s : State) : exec (.laneTestStop n w) s =
    ok (s.hostWrite (0xE1020 + 0x80 * n.val) (Nat.lor w.toNat 2) (State.testCtrl n.val (Nat.lor w.toNat 2))) := rfl

end

/-- Settles O39: CTRL by the lane's state, signal and lock by what they find, a frame's content by what the lane is. -/
theorem laneStatesAndSends : Obligations.LaneStatesAndSends := by
  unfold Obligations.LaneStatesAndSends
  constructor
  · intro n w s v off st req down g changes a lacks follow det asked act ready works left idle late
    have hfollow {t : State} (ht : laneTaken n v s = t) (hn : ¬ (down ∧ LaneLacks n v s t)) :
        Writes (.laneCtrlWrite n w) off w s (follow t) := by
      subst ht
      exact puts_of_eq (exec_laneCtrlWrite n w s) (laneCtrl_follows hn)
    refine ⟨fun hd hl => hfollow (laneTaken_down hd) fun hc => hl hc.2, ?lacks,
      fun hd hc => hfollow (laneTaken_same hd hc) fun h => hd h.1, fun hd hc => hfollow (laneTaken_refused hd hc) fun h => hd h.1,
      fun ha hi => (signalDetect_asked ha).trans (ok_ite_pos hi), fun ha hi => (signalDetect_asked ha).trans (ok_ite_neg hi),
      signalDetect_unasked, fun hr hh => (laneActive_ready hr).trans (ok_ite_neg (Bool.eq_false_iff.mp hh)),
      fun hr hh => (laneActive_ready hr).trans (ok_ite_pos hh), laneActive_still, ?lossCounted, ?inOrder, laneSignalLoss_idle,
      laneLockTimeout_late, laneLockTimeout_early⟩
    case lacks =>
      intro hd hl
      have ht := laneTaken_down (w := v) hd
      refine puts_of_eq (exec_laneCtrlWrite n w s) ((laneCtrl_lacks hd (ht ▸ hl)).trans ?_)
      rw [ht]
      rfl
    case lossCounted =>
      exact fun hw hl => (laneSignalLoss_works hw).trans
        (congrArg (fun t => Host.Outcome.next (laneIdled n t)) (if_neg (mt laneLeft_iff.mp hl)))
    case inOrder =>
      exact fun hw hl => (laneSignalLoss_works hw).trans
        (congrArg (fun t => Host.Outcome.next (laneIdled n t)) (if_pos (laneLeft_iff.mpr hl)))
  · intro n pre post w s x st own off q stopped sends pattern early
    refine ⟨fun ho => exec_turnTx.trans (ok_ite_pos (turnOwn_iff.mpr ho)), fun ho => exec_turnTx.trans (ok_ite_neg (mt turnOwn_iff.mp ho)),
      statusBlockTx_silent, statusBlockTx_pattern, statusBlockTx_early, ?begins, ?goesOn, ?start, ?stop⟩
    case begins =>
      intro h hp he hh
      rw [statusBlockTx_frame h hp he, if_pos hh]
    case goesOn =>
      intro h hp he hh
      rw [statusBlockTx_frame h hp he, if_neg hh]
    case start =>
      refine puts_of_eq (exec_laneTestStart n w s) ((testCtrl_starts (bit_lor_one _) s).trans ?_)
      rw [bit_lor_clear (show bit 1 1 = false by decide)]
      rfl
    case stop =>
      refine puts_of_eq (exec_laneTestStop n w s) ((testCtrl_stops (bit_lor_set (by decide) _) s).trans ?_)
      rw [bit_lor_clear (show bit 2 0 = false by decide)]
      rfl

end Sys2Proof.Proofs
end

section
/-!
PROOFS. What a lane receives: frames, markers, cells, SKIP, STATUS and TAG blocks (R316-R326, R329; Table 11-6).
-/
namespace Sys2Proof.Proofs
open Sys2Proof.Machine Sys2Proof.Laws

/-! ### A frame's levels (R316, R317) -/

section
variable {n : Fin 152} {lev : List (Fin 4)} {s : State}

/-- A lane that receives. -/
abbrev LaneUp (n : Nat) (s : State) : Prop := Ln.training ≤ s.laneSt n ∧ s.laneSt n ≤ Ln.active

/-- The bits of a frame's levels. -/
def levelStream (lev : List (Fin 4)) : List Nat := lev.flatMap fun l => levelBits l.val

/-- The bits that wait, with the frame's. -/
def rxStream (n : Nat) (lev : List (Fin 4)) (s : State) : List Nat := (s.lane n).rxBits ++ levelStream lev

/-- The block grid after them. -/
def rxHunt (n : Nat) (lev : List (Fin 4)) (s : State) : List Nat × Nat :=
  huntGrid (rxStream n lev s).length (s.lane n).grid (rxStream n lev s)

/-- The whole blocks among them. -/
def rxWhole (n : Nat) (lev : List (Fin 4)) (s : State) : Nat :=
  if 64 ≤ (rxHunt n lev s).2 then (rxHunt n lev s).1.length / 66 else 0

/-- The blocks kept. -/
def rxRaw (n : Nat) (lev : List (Fin 4)) (s : State) : List (List Nat) :=
  (s.lane n).raw ++ pieces 66 (rxWhole n lev s) (rxHunt n lev s).1

/-- The frame's blocks kept in the lane. -/
def rxKept (n : Nat) (lev : List (Fin 4)) (s : State) : State :=
  s.setLane n { s.lane n with rxBits := (rxHunt n lev s).1.drop (66 * rxWhole n lev s), grid := (rxHunt n lev s).2, raw := rxRaw n lev s }

/-- Block lock found. -/
def rxLocked (n : Nat) (lev : List (Fin 4)) (s : State) : State :=
  if (s.lane n).grid < 64 ∧ 64 ≤ (rxHunt n lev s).2 then (rxKept n lev s).wr F.FAB_LANE_STATUS_STATE n Ln.blockLock else rxKept n lev s

/-- A whole frame decoded. -/
def rxDecoded (n : Nat) (lev : List (Fin 4)) (s : State) : State :=
  ((rxKept n lev s).setLane n { (rxKept n lev s).lane n with raw := (rxRaw n lev s).drop 85 }).frameRx n ((rxRaw n lev s).take 85)

theorem exec_tetosFrameRx : exec (.tetosFrameRx n lev () () ()) s = ok (if s.laneSt n = Ln.test then
      s.testRx n (if s.on F.FAB_LANE_TEST_LOOP n = true then (s.lane n).txFrame.flatMap levelBits else levelStream lev)
    else if s.laneSt n < Ln.training ∨ Ln.active < s.laneSt n then s
    else if (!s.framed n) = true then rxLocked n lev s
    else if (rxRaw n lev s).length < 85 then rxKept n lev s else rxDecoded n lev s) := rfl

theorem tetosFrameRx_down (ht : s.laneSt n ≠ Ln.test) (hu : ¬ LaneUp n s) : exec (.tetosFrameRx n lev () () ()) s = .next s :=
  exec_tetosFrameRx.trans ((congrArg ok (if_neg ht)).trans (ok_ite_pos (by omega)))

theorem tetosFrameRx_up (hu : LaneUp n s) : exec (.tetosFrameRx n lev () () ()) s = ok (if (!s.framed n) = true then rxLocked n lev s
    else if (rxRaw n lev s).length < 85 then rxKept n lev s else rxDecoded n lev s) := by
  have ht : s.laneSt n ≠ Ln.test := fun ht => absurd (ht ▸ hu.2) (by decide)
  exact exec_tetosFrameRx.trans ((congrArg ok (if_neg ht)).trans (congrArg ok (if_neg (by omega))))

theorem tetosFrameRx_unframed (hu : LaneUp n s) (hf : ¬ s.framed n = true) :
    exec (.tetosFrameRx n lev () () ()) s = .next (rxLocked n lev s) :=
  (tetosFrameRx_up hu).trans (ok_ite_pos (by rw [Bool.eq_false_iff.mpr hf]; rfl))

theorem tetosFrameRx_framed (hu : LaneUp n s) (hf : s.framed n = true) : exec (.tetosFrameRx n lev () () ()) s =
    ok (if (rxRaw n lev s).length < 85 then rxKept n lev s else rxDecoded n lev s) :=
  (tetosFrameRx_up hu).trans (congrArg ok (if_neg (by rw [hf]; decide)))

end

/-! ### Markers (R318-R321) -/

section
variable {n : Nat} {s : State}

/-- The first block that is a marker. -/
def markAt (n : Nat) (s : State) : Nat := (s.lane n).raw.findIdx fun b => (blkOf b).any isMarker

/-- Its payload. -/
def markPay (n : Nat) (s : State) : Nat := lowFirst (((s.lane n).raw.getD (markAt n s) []).drop 2)

/-- It follows the last one after 85 blocks. -/
abbrev MarkSecond (n : Nat) (s : State) : Prop := (s.lane n).marks = 1 ∧ (s.lane n).since + markAt n s = 84

/-- The lane framed by its second marker. -/
def markFramed (n : Nat) (s : State) : State :=
  ((s.resume n).setLane n { (s.resume n).lane n with
    marks := 2, miss := 0, turn := markPay n s / 65536 % 65536, fseq := markPay n s % 65536, gap := false, skipLost := false
    lostAt := none, card := false, raw := (s.lane n).raw.drop (markAt n s) }).wr F.FAB_LANE_STATUS_FRAME_LOCK n 1

/-- A first marker. -/
def markFirst (n : Nat) (s : State) : State :=
  (s.setLane n { s.lane n with marks := 1, since := 0, raw := (s.lane n).raw.drop (markAt n s + 1) }).wr
    F.FAB_LANE_STATUS_STATE n Ln.blockLock

theorem markerHunt_none (h : (s.lane n).raw.length ≤ markAt n s) :
    s.markerHunt n = s.setLane n { s.lane n with raw := [], since := (s.lane n).since + (s.lane n).raw.length } := by
  have hn : (s.lane n).raw[(s.lane n).raw.findIdx fun b => (blkOf b).any isMarker]? = none := List.getElem?_eq_none h
  simp only [State.markerHunt, hn]

theorem markerHunt_some (h : markAt n s < (s.lane n).raw.length) :
    s.markerHunt n = if MarkSecond n s then markFramed n s else markFirst n s := by
  have hb : (s.lane n).raw[(s.lane n).raw.findIdx fun b => (blkOf b).any isMarker]? = some ((s.lane n).raw.getD (markAt n s) []) := by
    rw [List.getD_eq_getElem _ _ h]
    exact List.getElem?_eq_getElem h
  simp only [State.markerHunt, hb]
  rfl

end

section
variable {n : Fin 152} {s : State} {e : RxBlk}

/-- A lane that receives, on its block grid. -/
abbrev LaneGrid (n : Nat) (s : State) : Prop := LaneUp n s ∧ 64 ≤ (s.lane n).grid

theorem exec_markerRx : exec (.markerRx n () () ()) s =
    ok (if s.laneSt n < Ln.training ∨ Ln.active < s.laneSt n ∨ (s.lane n).grid < 64 then s
    else if (!s.framed n) = true then s.markerHunt n
    else match s.front n with
      | some e => if e.place ≠ 0 then s
        else (s.popRx n 1).markerRx n (isMarker e.blk) e.good (e.blk.pay / 65536 % 65536) (e.blk.pay % 65536)
      | none => s) := rfl

theorem markerRx_off (h : ¬ LaneGrid n s) : exec (.markerRx n () () ()) s = .next s := exec_markerRx.trans (ok_ite_pos (by omega))

theorem markerRx_grid (h : LaneGrid n s) : exec (.markerRx n () () ()) s = ok (if (!s.framed n) = true then s.markerHunt n
    else match s.front n with
      | some e => if e.place ≠ 0 then s
        else (s.popRx n 1).markerRx n (isMarker e.blk) e.good (e.blk.pay / 65536 % 65536) (e.blk.pay % 65536)
      | none => s) := exec_markerRx.trans (congrArg ok (if_neg (by omega)))

theorem markerRx_hunts (h : LaneGrid n s) (hf : ¬ s.framed n = true) : exec (.markerRx n () () ()) s = .next (s.markerHunt n) :=
  (markerRx_grid h).trans (ok_ite_pos (by rw [Bool.eq_false_iff.mpr hf]; rfl))

theorem markerRx_front (h : LaneGrid n s) (hf : s.framed n = true) (he : s.front n = some e) (h0 : e.place = 0) :
    exec (.markerRx n () () ()) s =
      .next ((s.popRx n 1).markerRx n (isMarker e.blk) e.good (e.blk.pay / 65536 % 65536) (e.blk.pay % 65536)) := by
  rw [markerRx_grid h, if_neg (by rw [hf]; decide), he]
  exact ok_ite_neg (not_not.mpr h0)

theorem markerRx_elsewhere (h : LaneGrid n s) (hf : s.framed n = true) (he : ∀ e, s.front n = some e → e.place ≠ 0) :
    exec (.markerRx n () () ()) s = .next s := by
  rw [markerRx_grid h, if_neg (by rw [hf]; decide)]
  cases hfront : s.front n with
  | none => rfl
  | some e => exact ok_ite_pos (he e hfront)

end

section
variable {n t f : Nat} {good : Bool} {p : State}

theorem marker_lost (h : 2 ≤ (p.lane n).miss) :
    p.markerRx n false good t f = (p.unframe n).wr F.FAB_LANE_STATUS_STATE n Ln.blockLock := if_pos h

theorem marker_missed (h : (p.lane n).miss < 2) : p.markerRx n false good t f = p.setLane n { p.lane n with
    miss := (p.lane n).miss + 1, gap := (p.lane n).gap || !good, part := if good = true then (p.lane n).part else [] } :=
  if_neg (not_le.mpr h)

theorem marker_bad : p.markerRx n true false t f = p.setLane n { p.lane n with miss := 0, gap := true, part := [] } := rfl

end

/-! ### Cells (R322, R323) -/

section
variable {n : Fin 152} {out : Nat} {s : State}

/-- The data blocks that stand next. -/
def dataRun (n : Nat) (s : State) : List RxBlk := (s.lane n).rxq.takeWhile fun e => !e.blk.ctl && decide (e.place ≠ 0)

/-- Those of a cell begun before the lane joined. -/
def runDropped (n : Nat) (s : State) : List RxBlk := (dataRun n s).take (s.lane n).drop

/-- Those that join the cell. -/
def runNew (n : Nat) (s : State) : List RxBlk := ((dataRun n s).drop (s.lane n).drop).take (5 - (s.lane n).part.length)

/-- The cell so far. -/
def cellPart (n : Nat) (s : State) : List Nat := (s.lane n).part ++ (runNew n s).map (·.blk.pay)

/-- The blocks taken. -/
def runTaken (n : Nat) (s : State) : State := s.setLane n { s.lane n with
  rxq := (s.lane n).rxq.drop ((runDropped n s).length + (runNew n s).length)
  drop := (s.lane n).drop - (runDropped n s).length, part := cellPart n s }

theorem exec_cellRx : exec (.cellRx n out ()) s = ok (if (!s.framed n || (dataRun n s).isEmpty) = true then s
    else if (cellPart n s).length < 5 then runTaken n s
    else ((runTaken n s).setLane n { (runTaken n s).lane n with part := [] }).cellRx n (cellWords (cellPart n s)) out) := rfl

theorem cellRx_none (h : ¬ s.framed n = true ∨ dataRun n s = []) : exec (.cellRx n out ()) s = .next s := by
  refine exec_cellRx.trans (ok_ite_pos ?_)
  rw [Bool.or_eq_true, Bool.not_eq_true', List.isEmpty_iff, ← Bool.not_eq_true]
  exact h

theorem cellRx_joins (hf : s.framed n = true) (hr : dataRun n s ≠ []) : exec (.cellRx n out ()) s =
    ok (if (cellPart n s).length < 5 then runTaken n s
    else ((runTaken n s).setLane n { (runTaken n s).lane n with part := [] }).cellRx n (cellWords (cellPart n s)) out) := by
  refine exec_cellRx.trans (congrArg ok (if_neg ?_))
  rw [hf, Bool.not_true, Bool.false_or, List.isEmpty_iff]
  exact hr

end

section
variable {n : Nat} {ws : List Nat} {out : Nat} {s : State}

/-- The turn's strand. -/
def cellStrand (n : Nat) (s : State) : Nat := (s.lane n).turn % s.laneN n

/-- Its words that wait. -/
def cellWaiting (n out : Nat) (s : State) : List Nat := (tget (s.lane n).buf (cellStrand n s) []).drop out

/-- The turn passed. -/
def cellPassed (n : Nat) (ws : List Nat) (s : State) : State :=
  (s.compare n (s.lane n).turn ws).setLane n { s.lane n with turn := ((s.lane n).turn + 1) % 65536 }

theorem cellRx_astray (h : (s.lane n).skipLost = true) : s.cellRx n ws out = s.loseTurns n 1 := if_pos h

theorem cellRx_eq (h : (s.lane n).skipLost = false) : s.cellRx n ws out = if (s.laneOf n).isNone = true then cellPassed n ws s
    else if 64 < (cellWaiting n out s).length + 16 then
      (((cellPassed n ws s).setLane n { (cellPassed n ws s).lane n with
        buf := tput (s.lane n).buf (cellStrand n s) (cellWaiting n out s) [] }).incSat F.FAB_LANE_FEC_CELL_LOST n).laneViol n 0x07 1 0
    else (cellPassed n ws s).setLane n { (cellPassed n ws s).lane n with
      buf := tput (s.lane n).buf (cellStrand n s) (cellWaiting n out s ++ ws) [] } := if_neg (Bool.eq_false_iff.mp h)

theorem cellRx_spare (h : (s.lane n).skipLost = false) (hl : s.laneOf n = none) : s.cellRx n ws out = cellPassed n ws s :=
  (cellRx_eq h).trans (if_pos (Option.isNone_iff_eq_none.mpr hl))

theorem cellRx_kept (h : (s.lane n).skipLost = false) (hl : s.laneOf n ≠ none) (hr : (cellWaiting n out s).length + 16 ≤ 64) :
    s.cellRx n ws out = (cellPassed n ws s).setLane n { (cellPassed n ws s).lane n with
      buf := tput (s.lane n).buf (cellStrand n s) (cellWaiting n out s ++ ws) [] } :=
  (cellRx_eq h).trans ((if_neg (mt Option.isNone_iff_eq_none.mp hl)).trans (if_neg (not_lt.mpr hr)))

theorem cellRx_full (h : (s.lane n).skipLost = false) (hl : s.laneOf n ≠ none) (hr : 64 < (cellWaiting n out s).length + 16) :
    s.cellRx n ws out = (((cellPassed n ws s).setLane n { (cellPassed n ws s).lane n with
      buf := tput (s.lane n).buf (cellStrand n s) (cellWaiting n out s) [] }).incSat F.FAB_LANE_FEC_CELL_LOST n).laneViol n 0x07 1 0 :=
  (cellRx_eq h).trans ((if_neg (mt Option.isNone_iff_eq_none.mp hl)).trans (if_pos hr))

end

/-! ### SKIP, STATUS and TAG blocks (R324-R327, R329) -/

section
variable {n : Fin 152} {k : Nat} {s : State}

theorem exec_skipRx : exec (.skipRx n () ()) s = ok (match s.frontCtl n.val 1 with
    | some c => ((s.popRx n.val 1).setLane n.val { (s.popRx n.val 1).lane n.val with drop := 0 }).skipRx n.val (c % 32)
        (decide ((s.lane n.val).part ≠ []))
    | none => s) := rfl

theorem exec_tagRx : exec (.tagRx n ()) s = ok (match s.frontCtl n.val 3 with
    | some c => (s.popRx n.val 1).tagRx n.val c
    | none => s) := rfl

theorem exec_statusBlockRx : exec (.statusBlockRx n ()) s = ok (match s.frontCtl n.val 2 with
    | some c => (s.popRx n.val 1).statusRx n.val c
    | none => s) := rfl

theorem skipRx_next (h : s.frontCtl n 1 = some k) : exec (.skipRx n () ()) s =
    .next (((s.popRx n 1).setLane n { (s.popRx n 1).lane n with drop := 0 }).skipRx n (k % 32) (decide ((s.lane n).part ≠ []))) := by
  rw [exec_skipRx, h]
  rfl

theorem skipRx_none (h : s.frontCtl n 1 = none) : exec (.skipRx n () ()) s = .next s := by
  rw [exec_skipRx, h]
  rfl

theorem tagRx_next (h : s.frontCtl n 3 = some k) : exec (.tagRx n ()) s = .next ((s.popRx n 1).tagRx n k) := by
  rw [exec_tagRx, h]
  rfl

theorem tagRx_none (h : s.frontCtl n 3 = none) : exec (.tagRx n ()) s = .next s := by
  rw [exec_tagRx, h]
  rfl

theorem statusBlockRx_next (h : s.frontCtl n 2 = some k) : exec (.statusBlockRx n ()) s = .next ((s.popRx n 1).statusRx n k) := by
  rw [exec_statusBlockRx, h]
  rfl

theorem statusBlockRx_none (h : s.frontCtl n 2 = none) : exec (.statusBlockRx n ()) s = .next s := by
  rw [exec_statusBlockRx, h]
  rfl

/-- Sixty-four STATUS slots without STATUS. -/
abbrev StatusLong (n : Nat) (s : State) : Prop := s.framed n = true ∧ (s.lane n).absent = false ∧ 64 ≤ (s.lane n).noStat

theorem statusLong_iff : (s.framed n && !(s.lane n).absent && decide (64 ≤ (s.lane n).noStat)) = true ↔ StatusLong n s := by
  simp only [StatusLong, Bool.and_eq_true, Bool.not_eq_true', decide_eq_true_eq, and_assoc]

end

section
variable {n c l : Nat} {p : State}

/-- A TAG that is a violation. -/
def tagWrong (n c : Nat) (t : State) : State := t.laneViol n 0x06 1 (c / 2 ^ 32 % 2 ^ 24 + 3 * 2 ^ 24)

/-- A TAG seen. -/
def tagSeen (n c : Nat) (t : State) : State := t.setLane n { t.lane n with cls := tins (t.lane n).cls (bits c 0 5) (bits c 18 4) }

theorem tag_spare (h : p.laneOf n = none) : p.tagRx n c = p := by
  simp only [State.tagRx, h]

theorem tag_strand (h : p.laneOf n = some l) : p.tagRx n c = if bits c 5 13 ≠ 32 * l + bits c 0 5 then tagWrong n c p
    else if bits c 18 4 ≠ 0 ∧ bits c 18 4 ≠ p.portClass (p.slotPort (32 * l + bits c 0 5)) then tagWrong n c (tagSeen n c p)
    else tagSeen n c p := by
  simp only [State.tagRx, h]
  rfl

theorem tag_other (h : p.laneOf n = some l) (hs : bits c 5 13 ≠ 32 * l + bits c 0 5) : p.tagRx n c = tagWrong n c p :=
  (tag_strand h).trans (if_pos hs)

theorem tag_own (h : p.laneOf n = some l) (hs : bits c 5 13 = 32 * l + bits c 0 5) : p.tagRx n c =
    if bits c 18 4 ≠ 0 ∧ bits c 18 4 ≠ p.portClass (p.slotPort (bits c 5 13)) then tagWrong n c (tagSeen n c p) else tagSeen n c p := by
  rw [tag_strand h, if_neg (not_not.mpr hs), hs]

end

/-! ### A STATUS block taken (R325-R327, Table 11-6) -/

section
variable (n c : Nat) (p : State)

/-- Where its violations say they arose. -/
def statusDetail (c : Nat) : Nat := c / 2 ^ 32 % 2 ^ 24 + 2 * 2 ^ 24

/-- The turns it skips are lost: a violation where no SKIP went astray. -/
def statusTurns : State :=
  let lost := p.loseTurns n ((bits c 0 16 + 65536 - (p.lane n).turn) % 65536)
  if (p.lane n).skipLost = true then lost else if bits c 0 16 ≠ (p.lane n).turn then lost.laneViol n 0x04 4 (statusDetail c) else p

/-- Its turn is the lane's. -/
def statusTurn : State := (statusTurns n c p).setLane n { (statusTurns n c p).lane n with
  skipLost := false, absent := false, testEcho := bit c 43, turn := bits c 0 16 }

/-- Another ownership or a hold is a violation. -/
def statusOwner : State :=
  if bit c 16 = true ∨ bit c 17 = true ∨ bit c 19 = true then (statusTurn n c p).laneViol n 0x05 2 (statusDetail c) else statusTurn n c p

/-- The partner's side as it shows it. -/
def statusPartner (r : State) : State :=
  let f := ((r.wr F.FAB_LANE_PARTNER_PARTNER_LANE n (bits c 20 8)).cardSeen n (bits c 28 8) (statusDetail c)).ffeApply n (bits c 36 2)
    (bits c 38 2)
  (((f.wr F.FAB_LANE_PARTNER_RX_LOCK n (bits c 40 1)).wr F.FAB_LANE_STATUS_PARTNER_READY n (bits c 41 1)).wr
    F.FAB_LANE_PARTNER_DEGRADED n (bits c 42 1)).wr F.FAB_LANE_PARTNER_TEST_REQ n (bits c 43 1)

theorem statusRx_eq : p.statusRx n c = statusPartner n c (statusOwner n c p) := by
  have howner : (if (bit c 16 || bit c 17 || bit c 19) = true then (statusTurn n c p).laneViol n 0x05 2 (statusDetail c)
      else statusTurn n c p) = statusOwner n c p :=
    if_congr (by rw [Bool.or_eq_true, Bool.or_eq_true, or_assoc]) rfl rfl
  exact congrArg (statusPartner n c) howner

end

/-- Settles O40: a frame by the lane's state, a marker by its place, a block by its kind where it stands next. -/
theorem laneReceives : Obligations.LaneReceives := by
  unfold Obligations.LaneReceives
  constructor
  · intro n lev out k ws e s x st framed bs got h whole raw s1 up grid at' p y e85 pay found missing run new used part s2 d have' s3 long
      seen wrong
    have hhunt {t : State} (hg : grid) (hf : ¬ framed) (ht : s.markerHunt n = t) : exec (.markerRx n () () ()) s = .next t :=
      (markerRx_hunts hg hf).trans (congrArg Host.Outcome.next ht)
    refine ⟨fun ht => ok_ite_pos ht, tetosFrameRx_down, tetosFrameRx_unframed,
      fun hu hf hr => (tetosFrameRx_framed hu hf).trans (ok_ite_pos hr),
      fun hu hf hr => (tetosFrameRx_framed hu hf).trans (ok_ite_neg (not_lt.mpr hr)), markerRx_off,
      fun hg hf hk => hhunt hg hf (markerHunt_none hk), fun hg hf hk he => hhunt hg hf ((markerHunt_some hk).trans (if_neg he)),
      fun hg hf hk he => hhunt hg hf ((markerHunt_some hk).trans (if_pos he)), ?lost, ?missed, ?bad, ?good, markerRx_elsewhere,
      cellRx_none, fun hf hr hp => (cellRx_joins hf hr).trans (ok_ite_pos hp),
      fun hf hr hp => (cellRx_joins hf hr).trans (ok_ite_neg (not_lt.mpr hp)), cellRx_astray, cellRx_spare, cellRx_kept, cellRx_full,
      skipRx_next, skipRx_none, fun hl => ok_ite_pos (statusLong_iff.mpr hl), fun hl => ok_ite_neg (mt statusLong_iff.mp hl),
      ?other, ?own, ?spare, tagRx_none⟩
    case lost =>
      intro hg hf ⟨he, h0, hm⟩ hy
      rw [markerRx_front hg hf he h0, hm]
      exact congrArg Host.Outcome.next (marker_lost hy)
    case missed =>
      intro hg hf ⟨he, h0, hm⟩ hy
      rw [markerRx_front hg hf he h0, hm]
      exact congrArg Host.Outcome.next (marker_missed hy)
    case bad =>
      intro hg hf ⟨he, h0, hm⟩ hgood
      rw [markerRx_front hg hf he h0, hm, hgood]
      exact congrArg Host.Outcome.next marker_bad
    case good =>
      intro hg hf ⟨he, h0, hm⟩ hgood
      rw [markerRx_front hg hf he h0, hm, hgood]
    case other => exact fun l hk hl hs => (tagRx_next hk).trans (congrArg Host.Outcome.next (tag_other hl hs))
    case own => exact fun l hk hl hs => (tagRx_next hk).trans (congrArg Host.Outcome.next (tag_own hl hs))
    case spare => exact fun hk hl => (tagRx_next hk).trans (congrArg Host.Outcome.next (tag_spare hl))
  · intro n c s p x det lost a b r f
    exact ⟨fun h => (statusBlockRx_next h).trans (congrArg Host.Outcome.next (statusRx_eq n c p)), statusBlockRx_none⟩

end Sys2Proof.Proofs
end
